-- ==== Sys2Proof/Word.lean ====
section
/-! DEFINITION. Word.lean: the word types. Bytes and check values are what the manual treats as bits (R12, R48); counts,
keys and times are natural numbers, and every arithmetic form (Q1.23 and the others of R10) is an exact integer narrowed where the
manual narrows it. -/

namespace Sys2Proof

/-- One byte of a wire format or of a DOMAIN value (R12, R48). -/
abbrev Byte := BitVec 8

/-- A 32-bit check value on a wire (R77). -/
abbrev Check32 := BitVec 32

end Sys2Proof
end

