-- ==== Sys2Proof/Machine/Parts.lean ====
section
/-! DEFINITION. Machine/Parts.lean: parts of the state that also travel over the twin link, and so stand below the commands: the
committed state of the vendor libraries (R267 to R279, chapter 10) and a profile generator (R325). -/

namespace Sys2Proof.Machine

/-- The five feedback quantities f = 0 to 4 (R234): raw position, I_A, I_B, I_C, V_DC in 2⁻²³. -/
structure Fb where
  pos : Nat
  ia : Int
  ib : Int
  ic : Int
  vdc : Int
deriving DecidableEq, Repr

/-- The outputs of a pass (R187, R317). -/
structure Outputs where
  dutyA : Int
  dutyB : Int
  dutyC : Int
  aux : Nat
  carrier : Nat
deriving DecidableEq, Repr

/-- The committed state of the vendor servo library (R267 to R279). Integrators are Q1.47, the rest Q1.23. -/
structure Servo where
  xd : Int
  xq : Int
  xn : Int
  xl : List Int
  ied : Int
  ieq : Int
  ie : Int
  /-- 0 none, 1 the speed loop, 1 + L limit loop L. -/
  itTarget : Nat
  iqStar : Int
  /-- The partial sum of position increments, counts. -/
  s : Int
  /-- n of the last speed run (R269, R275). -/
  nLast : Int
  nf : Int
  nStar : Int
  /-- n_ff of the last speed run. -/
  nffPrev : Int
  /-- φ and x_φ of R277, and whether φ has been formed since READY. -/
  phi : Nat
  xphi : Nat
  phiSet : Bool
  rcJ : Nat
  /-- The deferred learning of R279: index and speed error. -/
  rcLearn : Option (Nat × Int)
  rcLastJ : Option Nat
  rcLearning : Bool
deriving DecidableEq, Repr

/-- Chapter 10: the committed state of the vendor grid-former library. Per-unit integrators and filters are Q2.46 per unit. -/
structure Grid where
  /-- θ, 48 bits. -/
  th : Nat
  dth : Nat
  w : Int
  wd : Int
  pf : Int
  qf : Int
  eRamp : Int
  e : Int
  win : Nat
  xl : List Int
  ie : Int
  itTarget : Nat
  sogiA : List Int
  sogiB : List Int
  r1 : List Int
  r2 : List Int
  iePhase : List Int
  diF : List Int
  iPrev : List Int
  wSet : Int
  vSet : Int
  /-- Last cycle with win ≠ 0 or a clamp: the instant; none when swing_free is 1. -/
  limitedAt : Option Nat
  /-- Start of the LIMITING episode. -/
  limitingFrom : Option Nat
  /-- Since when swing_free has been 1. -/
  freeFrom : Nat
  /-- The ramp is complete since. -/
  settleFrom : Option Nat
  /-- Total time held during STARTING, ns. -/
  stallNs : Nat
  /-- STOPPING was entered from PARALLEL; its start. -/
  unload : Bool
  stopFrom : Nat
  /-- E at the stop (R382), Q2.46. -/
  eStop : Int
  pSet : Int
  qSet : Int
  /-- Estimators: angle, filtered frequency, amplitude of the own and of the utility voltage (R380, R384). -/
  ownAngle : Nat
  ownFreq : Int
  ownAmp : Int
  utilAngle : Nat
  utilFreq : Int
  utilAmp : Int
  /-- Since when the conditions hold without a break: utility healthy, sync conditions, out of the window, RT points. -/
  utilFrom : Option Nat
  syncFrom : Option Nat
  lostFrom : Option Nat
  rtFrom : List (Option Nat)
  dcLowFrom : Option Nat
  dcHighFrom : Option Nat
  isum : Nat
  permit : Bool
  tieOpen : Bool
  utilOkRaised : Bool
  slotOff : List Bool
  /-- n_min of R378. -/
  nMin : Nat
  rcLearn : Option (Nat × List (Option Int))
  rcLastJ : Option Nat
  flags : Nat
  running : Bool
  /-- The first pass after a change out of OFF is still to come (R383, R384). -/
  first : Bool
deriving DecidableEq, Repr

/-- A motion the generator carries out or starts after a dwell. -/
inductive Motion where
  | none
  /-- To an integer position, 40-bit signed. -/
  | move (target : Int)
  /-- Toward a signed speed, units of 2⁻⁴⁸ count per tick. -/
  | speed (vt : Int)
  /-- R339: a stop; the state entered at standstill. -/
  | stop
  /-- At standstill until a start in the opposite direction is allowed (R336). -/
  | dwell
deriving DecidableEq, Repr

/-- A switch input (R349, R350): 0 negative limit, 1 positive limit, 2 home. -/
structure Switch where
  level : Bool
  /-- The level of the present run of samples, its length, and the POSITION of its first sample. -/
  runLevel : Bool
  run : Nat
  runPos : Nat
  locked : Bool
  lockedAt : Nat
deriving DecidableEq, Repr

/-- Electronic gearing (R344 to R347). Ratios are numerator and denominator. -/
structure Gear where
  mPrev : Nat
  num : Int
  den : Nat
  /-- The gear's word of this cycle, what its last tick adds, and the ticks left. -/
  word : Int
  /-- The word of the last tick taken: that of the last cycle, once its ticks have run (R344). -/
  last : Int
  rest : Int
  ticks : Nat
  /-- A staged change: ratio, master position; armed. -/
  armed : Bool
  stNum : Int
  stDen : Nat
  stPos : Nat
  /-- The master stood on P at arming. -/
  onP : Bool
  /-- A blend in progress: R0, R1, travel u, direction, length. -/
  blend : Bool
  r0Num : Int
  r0Den : Nat
  r1Num : Int
  r1Den : Nat
  u : Int
  dir : Int
  len : Nat
  /-- The truncation remainder of the blend (R347). -/
  rem : Int
  /-- GEAR_NUM or GEAR_DEN was written for this boundary. -/
  changed : Bool
deriving DecidableEq, Repr

/-- Homing (R352 to R355). -/
structure Homing where
  /-- 0 none, 1 to 5 the phases H1 to H5. -/
  phase : Nat
  d : Int
  /-- HOME_METHOD as HOME took effect. -/
  method : Nat
  bounced : Bool
  /-- The stop that ends a phase runs. -/
  stopping : Bool
  latch : Nat
  /-- Travel since the HOME command is measured from here. -/
  start : Int
  /-- The reference found. -/
  ref : Option Nat
deriving DecidableEq, Repr

/-- A profile generator (R325). -/
structure Gen where
  /-- 2⁻²⁴ counts, 64-bit signed. -/
  acc : Int
  /-- 2⁻⁴⁸ count per tick, 64-bit signed. -/
  vel : Int
  /-- The exact remainder ρ. -/
  rho : Int
  /-- PROFILE_STATE and PROFILE_FLAGS (R330, R360), as the dictionary shows them. -/
  state : Nat
  flags : Nat
  motion : Motion
  /-- The first tick of a motion is still to come (R331). -/
  fresh : Bool
  /-- The deceleration of R333 has begun. -/
  braking : Bool
  /-- The motion after a reversal's dwell. -/
  pending : Motion
  dwell : Nat
  /-- The command accepted last for the next boundary, 0 none, and whether its condition needs ENABLED. -/
  cmd : Nat
  /-- The accumulator at the last sample instants, newest first. -/
  past : List Int
  gear : Gear
  home : Homing
  switches : List Switch
  /-- Last AUX_IN level of the index source; the time of a Z edge not yet used. -/
  auxPrev : Bool
  zEdge : Option Nat
  /-- LAND (R341): the axis lands; the instant from which LAND_WAIT runs; it landed after the decision; counted as at standstill. -/
  land : Bool
  landFrom : Nat
  landed : Bool
  landWaited : Bool
  /-- The direction of the last motion, 0 none, and the instant of the tick at which its word became 0 (R336). -/
  restDir : Int
  restAt : Nat
  /-- The axis is in the controlled stop of a SAFE-HOLD (R340). -/
  stopping : Bool
deriving DecidableEq, Repr

end Sys2Proof.Machine
end

