-- ==== Sys2Proof/Syntax.lean ====
section
/-! DEFINITION. Syntax.lean: the commands. One constructor per row of spec/opcode_table.json, and the operands that come with each:
what a sender puts on the wire or the pins, or what an event brings with it. The table gives the rows no fields, so the operands are
the model's reading of what each row's rule names (DEDUCED, log entry 1). A unit number is bounded by its type: R17 gives the block no
other unit. -/

namespace Sys2Proof

/-- A source of dictionary writes: the host port or a Tally-over-UDP session (R47, R63). -/
inductive Src where
  | host
  | session (slot : Fin 8)
deriving DecidableEq, Repr

/-- The address field of a host transaction (R78). -/
structure HostAddr where
  index : BitVec 16
  sub : Byte
  tag : Byte
deriving DecidableEq, Repr

/-- The sender of a datagram (R90): IPv4 address and UDP port, with the Ethernet port it came in on. -/
structure Peer where
  ip : BitVec 32
  udp : BitVec 16
  eth : Fin 2
deriving DecidableEq, Repr

/-- A supply rail (R580, R585). -/
inductive Rail where
  | vcore | vser | vpll | vio1 | vio2 | vio3 | vio4 | vfuse | vsafeA | vsafeB
deriving DecidableEq, Repr

/-- A CAN FD frame on the bus (R92, R94). -/
structure CanFrame where
  ext : Bool
  fd : Bool
  brs : Bool
  id : BitVec 29
  data : List Byte
deriving DecidableEq, Repr

/-- A frame as the port met it: whether the bus showed an error in it (R94). -/
structure CanArrival where
  frame : CanFrame
  ok : Bool
deriving DecidableEq, Repr

/-- A reference input's frequency as measured, in ppb: off its nominal value (R102) and off the held frequency (R107). -/
structure RefFrequency where
  nominal : Int
  held : Int
deriving DecidableEq, Repr

/-- The two synthesisers (R110). -/
inductive PllId where
  | t | s
deriving DecidableEq, Repr

/-- What an Ethernet port finds of its link (R144): no synchronisation, an optical module's link at 1,000 Mbit/s, or the
auto-negotiation word of an SGMII PHY. -/
inductive LinkReport where
  | down
  | module
  | phy (word : BitVec 16)
deriving DecidableEq, Repr

/-- The common header of an IEEE 1588 message, as far as the time service uses it (R152): the transport it came in (true for IEEE 802.3),
the version byte (minorVersionPTP in [7:4], versionPTP in [3:0]), sender, domain, sequence, correctionField and logMessageInterval. -/
structure PtpHdr where
  ieee : Bool
  version : Byte
  identity : BitVec 64
  port : BitVec 16
  domain : Byte
  seq : BitVec 16
  corr : BitVec 64
  logInterval : Byte
deriving DecidableEq, Repr

/-- The data set of an Announce (R159). -/
structure AnnounceSet where
  priority1 : Byte
  clockClass : Byte
  accuracy : Byte
  variance : BitVec 16
  priority2 : Byte
  gmIdentity : BitVec 64
  stepsRemoved : BitVec 16
  utcOffset : BitVec 16
deriving DecidableEq, Repr

/-- A DELAY_REQ exchange: the round trip measured at the port, and the turnaround the node reports, ns (R204). -/
structure DelayExchange where
  trip : BitVec 32
  turnaround : BitVec 32
deriving DecidableEq, Repr

/-- What discovery's steps 1 to 3 find at one position (R204): node type, axes, revision, highest accepted epoch, and the
eight exchanges from the east and from the west port. -/
structure NodeReport where
  kind : Byte
  axes : Fin 5
  revision : BitVec 16
  epoch : BitVec 32
  east : List DelayExchange
  west : List DelayExchange
deriving DecidableEq, Repr

/-- A feedback record (R189). -/
structure Feedback where
  localAxis : Fin 4
  status : Byte
  count : BitVec 16
  position : BitVec 32
  iA : BitVec 24
  iB : BitVec 24
  iC : BitVec 24
  vdc : BitVec 24
  aux : BitVec 16
  temp : Byte
deriving DecidableEq, Repr

/-- An uplink block (R188). -/
structure UplinkBlock where
  position : Byte
  status : Byte
  tagLow : BitVec 16
  epochLow : BitVec 16
  records : List Feedback
  safe : Option (List Byte)
  crc : BitVec 16
deriving DecidableEq, Repr

/-- A message frame (R202) with its CRC-32 word. -/
structure RingMessage where
  dest : Byte
  src : Byte
  msgType : Byte
  seq : Byte
  epochLow : BitVec 16
  payload : List Byte
  crc : BitVec 32
deriving DecidableEq, Repr


/-- The parallel move of a format A instruction (R298). -/
structure PMove where
  kind : BitVec 2
  reg : BitVec 5
  pp : BitVec 3
  pm : BitVec 3
  upd : BitVec 2
deriving DecidableEq, Repr

/-- The fields of format A (R297). -/
structure FmtA where
  sat : Bool
  dst : BitVec 5
  srcA : BitVec 5
  srcB : BitVec 5
  srcC : BitVec 5
  vs : Bool
  shift : BitVec 5
  pmove : PMove
deriving DecidableEq, Repr

/-- The fields of format I (R299). -/
structure FmtI where
  sat : Bool
  dst : BitVec 6
  srcA : BitVec 5
  imm : BitVec 32
deriving DecidableEq, Repr

/-- The fields of format M (R299). -/
structure FmtM where
  reg : BitVec 5
  pp : BitVec 3
  pm : BitVec 3
  upd : BitVec 2
  disp : BitVec 17
deriving DecidableEq, Repr

/-- The fields of format X (R299). -/
structure FmtX where
  dst : BitVec 6
  src : BitVec 6
deriving DecidableEq, Repr

/-- The fields of format C (R299). -/
structure FmtC where
  cond : BitVec 4
  lcsrc : Bool
  count : BitVec 12
  target : BitVec 13
deriving DecidableEq, Repr

/-- The fields of format T (R299). -/
structure FmtT where
  dst : BitVec 5
  srcA : BitVec 5
  srcB : BitVec 5
  func : BitVec 3
  slot : Bool
  sel : Bool
deriving DecidableEq, Repr

/-- What one channel of the island samples at a safety tick (R440, R454): channels A and B of the 16 input pairs, 1 for high, and of
the reset input, true for closed. -/
structure SafeSample where
  a : BitVec 16
  b : BitVec 16
  srstA : Bool
  srstB : Bool
deriving DecidableEq, Repr

/-- The carrier a safe frame came on (R472, R473). -/
inductive SafeSource where
  | ring (ring : Fin 2) (position : Byte)
  | eth
  | can (port : Fin 2) (ext : Bool) (id : BitVec 29)
  | twin
deriving DecidableEq, Repr

/-- The header of a drove frame (R184) with its HDR_CRC. -/
structure DroveHeader where
  /-- DIR of the SOF word, and the arrival of that word, ns from now. -/
  dir : Byte
  arrival : BitVec 16
  epoch : BitVec 32
  tag : BitVec 32
  cycleStart : BitVec 80
  lead : BitVec 16
  cycleLen : BitVec 16
  stoGroups : BitVec 32
  turn : Byte
  blocks : Byte
  folded : Bool
  noRun : Bool
  crc : BitVec 16
deriving DecidableEq, Repr

/-- The header of a COPY frame (R498). -/
structure CopyHeader where
  tag : BitVec 32
  epoch : BitVec 32
  cycleStart : BitVec 80
  state : Byte
  flags : Byte
  cycleLen : BitVec 16
  remaining : BitVec 32
  joinId : BitVec 16
deriving DecidableEq, Repr

/-- What the CONTEXT segments of a vendor context carry: its committed state by value, since the manual gives the library's window no
layout. rc: table entries learned, as phase, index and value. -/
structure CopyContext where
  ctx : Nat
  servo : Machine.Servo
  out : Machine.Outputs
  hist : List Machine.Fb
  rc : List (Nat × Nat × Int)
deriving DecidableEq, Repr

/-- What the CONTEXT segments of a customer context carry: the outputs and the feedback history, and the bytes of its window committed in
the cycle, by their offsets (DESIGN CHOICE, log entry 67). -/
structure CopyWindow where
  ctx : Nat
  out : Machine.Outputs
  hist : List Machine.Fb
  bytes : List (Nat × Nat)
deriving DecidableEq, Repr

/-- What a cycle carries of the axes' states and of the grid-former whether or not its context commits: AXIS_STATE by axis, and GF_STATE,
GF_TRIP_CAUSE, the leg requests and the grid-former's own state where it is configured (R391, R514) (DESIGN CHOICE, log entry 67). -/
structure CopyStatus where
  axes : List (Nat × Nat)
  grid : Option (Machine.Grid × Nat × Nat × List (Nat × Nat))
deriving DecidableEq, Repr

/-- A segment of a COPY frame (R500). Keys are index × 256 + subindex. -/
inductive CopySegment where
  | context (c : CopyContext)
  | window (c : CopyWindow)
  | status (s : CopyStatus)
  | profile (axis : Nat) (g : Machine.Gen) (homeState : Nat)
  | island (words : List Nat)
  | connections (words : List Nat)
  | payload (conn : Nat) (bytes : List Byte)
  | write (key value : Nat) (data : List Byte)
  | safeFrame (conn : Nat) (bytes : List Byte)
  /-- A position's delays, with the node type and axes of the discovery table. -/
  | ring (ring position kind axes east west : Nat)
  /-- BULK 0x100: the copied objects that differ from their defaults among the keys from lo up to hi. -/
  | image (lo hi : Nat) (objs : List (Nat × Nat))
  /-- BULK 0x100: a copied DOMAIN value from byte off on, of total bytes; those with keys from lo up to key are empty. -/
  | value (lo key off total : Nat) (bytes : List Byte)
  /-- BULK 0x200 + d: a domain image from byte off on, of total bytes. -/
  | domain (d off total : Nat) (bytes : List Byte)
  /-- BULK of a customer context's window: the symbols of its bytes from a word on, unwritten ones too. -/
  | area (ctx word : Nat) (symbols : List Nat)
  /-- BULK of a vendor context's window: so many words from one on; the last of them bring the state by value. -/
  | vendor (c : CopyContext) (word words : Nat) (last : Bool)
deriving DecidableEq, Repr

/-- A COPY frame: closed is false without a CLOSE segment, checked is true when CLOSE's CRC holds. -/
structure CopyFrame where
  header : CopyHeader
  segments : List CopySegment
  closed : Bool
  checked : Bool
deriving DecidableEq, Repr

/-- An ACK frame (R503); checked is true when its CRC holds. -/
structure CopyAck where
  tag : BitVec 32
  result : Byte
  role : Byte
  progress : Byte
  checked : Bool
deriving DecidableEq, Repr

/-- What an island scrub finds: the channel's memory, the offset, and whether the byte could be corrected (R564). -/
structure IslandByte where
  channel : Fin 2
  offset : BitVec 15
  corrected : Bool
deriving DecidableEq, Repr

/-- The commands: one constructor per row of spec/opcode_table.json, in the table's order. -/
inductive Instr where
  /-- POWER_UP (R587): Supplies come into range and the Thoek enters BOOT, with the boot origin taken once every required supply is in range. -/
  | powerUp (rails : List Rail)
  /-- POWER_LOSS (R584): A supply leaves its range or is removed; each domain's power-on reset holds its outputs in their unpowered states. -/
  | powerLoss (rails : List Rail)
  /-- RESET_N_ASSERT (R586): RESET_N held low for 1 µs or longer puts the Thoek in BOOT, closes the bypasses, silences the leg links and keeps the island running. -/
  | resetNAssert
  /-- BOOT_START (R587): At the boot origin (RESET_N released after 1 µs high, or supplies in range) the boot sequence begins. -/
  | bootStart
  /-- CYCLE_BOUNDARY (R24): At each sample instant, outputs apply, accepted writes and commands take effect, state transitions occur, and skim passes become ready. -/
  | cycleBoundary
  /-- DISPATCH_DEADLINE (R24): At cycle length minus 5,000 ns, uncommitted outputs are held, results are published, and drove frames and edge records for the next cycle leave. -/
  | dispatchDeadline
  /-- STATE_REQUEST_CONFIG (R30): A STATE_REQUEST of 0x01 requests the transition to CONFIG. -/
  | stateRequestConfig (src : Src)
  /-- STATE_REQUEST_READY (R30): A STATE_REQUEST of 0x02 requests READY, with the discovery, budget and configuration checks. -/
  | stateRequestReady (src : Src)
  /-- STATE_REQUEST_RUN (R30): A STATE_REQUEST of 0x03 requests the transition from READY to RUN. -/
  | stateRequestRun (src : Src)
  /-- STATE_REQUEST_SERVICE (R30): A STATE_REQUEST of 0x04 requests the transition from READY to SERVICE. -/
  | stateRequestService (src : Src)
  /-- VCORE_OUT_OF_RANGE (R581): VCORE outside 0.68 V to 0.88 V for longer than 2 µs is SAFE-HOLD cause 0x0004. -/
  | vcoreOutOfRange
  /-- TRANSPORT_HANDSHAKE_TIMEOUT (R37): An internal transport handshake not completed within 10 µs is SAFE-HOLD cause 0x0005. -/
  | transportHandshakeTimeout
  /-- SAFE_HOLD_STO_STEP (R39): At standstill of all axes or on expiry of SAFE_HOLD_STOP_TIME, the island applies STO to every group and the grid-former legs go OFF. -/
  | safeHoldStoStep
  /-- READ (R80): The READ opcode returns an object's value with its status. -/
  | read (a : HostAddr) (check : Check32)
  /-- WRITE (R65): The WRITE opcode checks a write and, if accepted, schedules it for the first cycle boundary at least 1 µs later. -/
  | write (a : HostAddr) (data : List Byte) (check : Check32)
  /-- WRITE_TIMED (R66): The WRITE_TIMED opcode enters a write in the timed-action list for a TIME80 instant. -/
  | writeTimed (a : HostAddr) (instant : BitVec 80) (data : List Byte) (check : Check32)
  /-- READ_WINDOW (R72): The READ_WINDOW opcode returns a whole results window from one published set. -/
  | readWindow (a : HostAddr) (check : Check32)
  /-- DOMAIN_READ (R622): The DOMAIN_READ opcode returns a segment of a DOMAIN value from an offset. -/
  | domainRead (a : HostAddr) (len : BitVec 16) (offset : BitVec 32) (check : Check32)
  /-- DOMAIN_WRITE (R621): The DOMAIN_WRITE opcode writes a segment of a DOMAIN value in offset order. -/
  | domainWrite (a : HostAddr) (offset : BitVec 32) (data : List Byte) (check : Check32)
  /-- EVENT_POP (R80): The EVENT_POP opcode removes and returns the oldest host event record. -/
  | eventPop (a : HostAddr) (check : Check32)
  /-- UNKNOWN_OPCODE (R80): An unlisted opcode is answered with status 0x000D or 0x0001 and has no other effect. -/
  | unknownOpcode (opcode : Byte) (a : HostAddr) (check : Check32)
  /-- HOST_CS_RISE (R83): A rising edge of HSP_CS_N ends a transaction, discards one without a complete Check phase, and applies a pending HOST_MODE. -/
  | hostCsRise
  /-- HOST_MODE (R76): A write of HOST_MODE selects mode 1-1-1 or 1-4-4, taking effect at the next rising edge of HSP_CS_N. -/
  | hostMode (src : Src) (mode : Byte)
  /-- OBJECT_WRITE (R65): A write to an object that has no row of its own is checked against type, rights and range, and accepted or rejected. -/
  | objectWrite (src : Src) (index : BitVec 16) (sub : Byte) (data : List Byte)
  /-- SAVE (R54): Writing 0x7361_7665 to SAVE starts a snapshot of settings into the inactive dictionary image copy. -/
  | save (src : Src)
  /-- SAVE_DONE (R54): The save finishes when its copy is read back and marked current, raising SAVE_DONE with the result. -/
  | saveDone (ok : Bool)
  /-- RESTORE (R57): Writing 0x6C6F_6164 to RESTORE in CONFIG starts erasing both image copies. -/
  | restore (src : Src)
  /-- RESTORE_DONE (R57): The restore finishes when both image copies are erased, raising RESTORE_DONE. -/
  | restoreDone
  /-- HURDLE (R68): A hurdle write orders every write accepted before it ahead of every write accepted after it. -/
  | hurdle (src : Src) (number : BitVec 16)
  /-- SAFETY_COMMIT (R64): A write to SAFETY_COMMIT compares the CRC with the pending safety block, and discards the block on a mismatch. -/
  | safetyCommit (src : Src) (crc : Check32)
  /-- EVENT_LATCH_CLEAR (R96): Writing 1 to an EVENT_LATCH bit clears that source's latch and count. -/
  | eventLatchClear (src : Src) (sub : Fin 8) (mask : BitVec 32)
  /-- QUEUE_OVERFLOW (R98): Once space returns after drops, a QUEUE_OVERFLOW record with the dropped count is placed in the host queue. -/
  | queueOverflow
  /-- UDP_OPEN (R88): An OPEN datagram is verified and answered by OPEN_ACK with a session number and nonce. -/
  | udpOpen (peer : Peer) (datagram : List Byte)
  /-- UDP_REQUEST (R87): A Tally request datagram is verified, and its operations are accepted in order and answered in one response. -/
  | udpRequest (peer : Peer) (datagram : List Byte)
  /-- UDP_CLOSE (R86): A CLOSE datagram closes its session. -/
  | udpClose (peer : Peer) (datagram : List Byte)
  /-- SESSION_TIMEOUT (R90): A session without a valid datagram for SESSION_TIMEOUT seconds is closed. -/
  | sessionTimeout (slot : Fin 8)
  /-- UDP_OPEN_BLOCK_END (R89): The 10 s period in which OPEN is ignored after 16 failures ends. -/
  | udpOpenBlockEnd
  /-- ARP_REQUEST (R85): An ARP request for the Thoek's address is answered. -/
  | arpRequest (eth : Fin 2) (target : BitVec 32) (senderIp : BitVec 32) (senderMac : BitVec 48)
  /-- CAN_TX (R94): A CAN_TX write queues one frame record for transmission, or is rejected when the queue is full or the port is bus-off. -/
  | canTx (src : Src) (port : Fin 2) (record : List Byte)
  /-- CAN_FRAME_RX (R94): A received CAN FD frame passes the filters into the buffer pool, or goes to the island when it matches a safe connection. -/
  | canFrameRx (port : Fin 2) (frame : CanArrival) (off : Fin 125)
  /-- CAN_RX (R94): A read of CAN_RX returns and removes the oldest received frame record. -/
  | canRx (src : Src) (port : Fin 2)
  /-- CAN_BUS_OFF_RECOVERY (R94): After 128 occurrences of 11 recessive bits, a bus-off port resumes. -/
  | canBusOffRecovery (port : Fin 2)
  /-- REF_QUALIFIED (R102): A reference input qualifies after REF_QUAL_TIME and may be adopted under R105 to R107. -/
  | refQualified (input : Fin 2) (diff : RefFrequency) (phaseT phaseS : Int)
  /-- REF_LOSS (R103): Missing edges or an out-of-range frequency declare the active input lost, and both synthesisers coast. -/
  | refLoss (input : Fin 2) (diff : Int) (phaseT phaseS : Int)
  /-- BAND_SEARCH_DONE (R113): The binary band search ends and selects the VCO band, and acquisition starts. -/
  | bandSearchDone (pll : PllId) (band : Fin 64)
  /-- PLLT_LOCK (R114): PLL-T declares lock after N cycles within ±W; consumers return from the backup path and the first lock starts TIME80. -/
  | plltLock
  /-- PLLT_UNLOCK (R115): PLL-T loses lock after 8 cycles beyond ±4W and starts a relock. -/
  | plltUnlock
  /-- PLLS_LOCK (R129): PLL-S declares lock, and a pending PLL-T relock starts. -/
  | pllsLock
  /-- PLLS_UNLOCK (R126): PLL-S loses lock outside BOOT and CONFIG, leading to SAFE-HOLD cause 0x0006 or 0x0003. -/
  | pllsUnlock
  /-- CLAMP (R124): The frequency clamp swallows a short period, counted as a loss of lock. -/
  | clamp (pll : PllId) (periods : BitVec 32)
  /-- PLLT_STEP (R117): A PLLT_STEP write makes a small frequency step, or starts a relock when the step is too large. -/
  | plltStep (src : Src) (ppb : BitVec 32)
  /-- PLLT_RELOCK (R122): A PLLT_RELOCK write relocks PLL-T, and PLL-S first when its settings changed. -/
  | plltRelock (src : Src)
  /-- PLLT_PRESCALE (R111): A PLLT_PRESCALE write starts a relock at the boundary where it takes effect. -/
  | plltPrescale (src : Src) (code : Byte)
  /-- COUNTER_SLEW (R120): A COUNTER_SLEW write changes the rate of TIME80 from the next slew mark. -/
  | counterSlew (src : Src) (slew : BitVec 16)
  /-- TIME_SET (R132): A TIME_SET write requests a TIME80 step. -/
  | timeSet (src : Src) (time : BitVec 80)
  /-- TIME_STEP (R132): A pending step applies at a boundary in CONFIG or READY, discards the timed actions and raises TIME_STEP. -/
  | timeStep
  /-- SAFETY_TICK (R136): Every 100 µs, the island samples inputs, evaluates functions, cross-compares channels and decides group states. -/
  | safetyTick (chS chC : SafeSample) (rbA rbB : Byte) (differ : Bool)
  /-- PROFILE_TICK (R325): Every 125 ns, each generator adds its velocity word to its accumulator and applies its ramp step. -/
  | profileTick
  /-- ETH_FRAME_RX (R145): A received Ethernet frame is consumed, forwarded cut-through with transparent-clock correction, or queued. -/
  | ethFrameRx (port : Fin 2) (frame : List Byte) (fcsOk : Bool) (off : Fin 125)
  /-- ETH_EGRESS_TX (R146): When an egress port becomes idle, it sends the next waiting frame in priority order. -/
  | ethEgressTx (port : Fin 2) (off : Fin 125)
  /-- ETH_LINK (R144): An Ethernet port's link goes up or down. -/
  | ethLink (port : Fin 2) (report : LinkReport)
  /-- PTP_SYNC_RX (R163): A Sync from the selected master is timestamped for the servo. -/
  | ptpSyncRx (port : Fin 2) (h : PtpHdr) (twoStep : Bool) (origin : BitVec 80) (off : Fin 125)
  /-- PTP_FOLLOW_UP_RX (R163): A Follow_Up supplies t1 and its correction for a two-step Sync. -/
  | ptpFollowUpRx (port : Fin 2) (h : PtpHdr) (origin : BitVec 80)
  /-- PTP_DELAY_RESP_RX (R165): A Delay_Resp completes an offset sample, which the servo processes. -/
  | ptpDelayRespRx (port : Fin 2) (h : PtpHdr) (received : BitVec 80) (reqIdentity : BitVec 64) (reqPort : BitVec 16)
  /-- PTP_ANNOUNCE_RX (R159): An Announce is used for master selection and qualification. -/
  | ptpAnnounceRx (port : Fin 2) (h : PtpHdr) (set : AnnounceSet)
  /-- PTP_DELAY_REQ_RX (R162): In master role, a Delay_Req is answered with a Delay_Resp. -/
  | ptpDelayReqRx (port : Fin 2) (h : PtpHdr) (off : Fin 125)
  /-- PTP_MASTER_LOST (R160): The Announce receipt or Sync timeout expires, and the servo enters HOLDOVER. -/
  | ptpMasterLost
  /-- PTP_DELAY_REQ_TX (R161): The slave sends a Delay_Req at its randomised interval. -/
  | ptpDelayReqTx (off : Fin 125)
  /-- PTP_ANNOUNCE_TX (R162): The master sends an Announce at its interval. -/
  | ptpAnnounceTx
  /-- PTP_SYNC_TX (R162): The master sends a one-step Sync at its interval. -/
  | ptpSyncTx (off : Fin 125)
  /-- UPLINK_BLOCK_RX (R195): An uplink block is checked and its feedback is passed to its fold. -/
  | uplinkBlockRx (ring : Fin 2) (block : UplinkBlock) (off : Fin 125)
  /-- HEAL_REQUEST (R211): A HEAL_REQUEST write asks the ring to return to the discovery plan. -/
  | healRequest (src : Src) (rings : Byte)
  /-- FOLD_NOTICE_RX (R208): A fold notice puts the drove frames of the next possible deadline on the fold plan. -/
  | foldNoticeRx (ring : Fin 2) (position side : Byte) (crc : BitVec 16)
  /-- RING_LINK_LOSS (R207): A ring port declares link loss and folds. -/
  | ringLinkLoss (ring : Fin 2) (port : Fin 2) (codeErrors : BitVec 32)
  /-- RING_LINK_HEALTHY (R181): A ring link is declared healthy after 10 ms of error-free IDLE. -/
  | ringLinkHealthy (ring : Fin 2) (port : Fin 2)
  /-- MESSAGE_FRAME_RX (R203): A message frame from a node is checked and delivered through the buffer pool. -/
  | messageFrameRx (ring : Fin 2) (port : Fin 2) (msg : RingMessage)
  /-- MESSAGE_RETRY_TIMEOUT (R203): A management request unanswered for 1 ms is repeated, up to three times. -/
  | messageRetryTimeout (ring : Fin 2)
  /-- RING_LOOPBACK_DONE (R215): A ring's SerDes pass 10 µs of loopback, its bypass opens and discovery starts. -/
  | ringLoopbackDone (ring : Fin 2)
  /-- DISCOVERY_DONE (R204): Discovery completes its steps for a ring and raises DISCOVERY_DONE. -/
  | discoveryDone (ring : Fin 2) (closed : Bool) (nodes : List NodeReport)
  /-- DELAY_REMEASURE (R206): Every REMEASURE_PERIOD cycles one position per direction is re-measured and its delay rewritten. -/
  | delayRemeasure (ring : Fin 2) (east west : BitVec 16)
  /-- PASS_START (R242): A lane starts its next ready skim, full or recompute pass in order of readiness. -/
  | passStart (fold lane : Fin 8)
  /-- SET_PASS (R237): Once feedback is ready and its skim pass has completed, the set pass corrects and commits or squashes. -/
  | setPass (fold lane : Fin 8)
  /-- PASS_OVERRUN (R246): A pass reaching its cost plus OVERRUN_MARGIN is stopped and discarded. -/
  | passOverrun (fold lane : Fin 8) (slots : BitVec 32)
  /-- FEEDBACK_LOST (R249): The late count reaches FB_LATE_LIMIT, and the axis takes the fault reaction of cause 0x01 or 0x02. -/
  | feedbackLost (axis : Fin 128)
  /-- POSITION_FROZEN (R250): The freeze count reaches FREEZE_TIME, and the axis takes the fault reaction of cause 0x03. -/
  | positionFrozen (axis : Fin 128)
  /-- MISS_LIMIT_REACHED (R248): MISS_LIMIT consecutive cycles without a commit give the fault reaction of cause 0x04. -/
  | missLimitReached (axis : Fin 128)
  /-- AXIS_ENABLE (R228): AXIS_COMMAND 0x01 moves a DISABLED axis to ENABLED in RUN. -/
  | axisEnable (src : Src) (axis : Fin 128)
  /-- AXIS_DISABLE (R228): AXIS_COMMAND 0x02 moves the axis to DISABLED. -/
  | axisDisable (src : Src) (axis : Fin 128)
  /-- CLEAR_FAULT (R228): AXIS_COMMAND 0x03 moves a FAULT axis whose cause has cleared to DISABLED. -/
  | clearFault (src : Src) (axis : Fin 128)
  /-- NOP (R300): The instruction performs no operation; its parallel move executes. -/
  | nop (fold lane : Fin 8) (x : FmtA)
  /-- MPY (R300): The instruction writes the exact product of two D registers to an accumulator. -/
  | mpy (fold lane : Fin 8) (x : FmtA)
  /-- MAC (R300): The instruction adds a product to an accumulator. -/
  | mac (fold lane : Fin 8) (x : FmtA)
  /-- MSU (R300): The instruction subtracts a product from an accumulator. -/
  | msu (fold lane : Fin 8) (x : FmtA)
  /-- ADDA (R300): The instruction adds two accumulators. -/
  | adda (fold lane : Fin 8) (x : FmtA)
  /-- SUBA (R300): The instruction subtracts two accumulators. -/
  | suba (fold lane : Fin 8) (x : FmtA)
  /-- ASHA (R300): The instruction shifts an accumulator. -/
  | asha (fold lane : Fin 8) (x : FmtA)
  /-- NARR (R300): The instruction narrows an accumulator to a D register. -/
  | narr (fold lane : Fin 8) (x : FmtA)
  /-- NARRL (R300): The instruction narrows the low part of an accumulator to a D register. -/
  | narrl (fold lane : Fin 8) (x : FmtA)
  /-- WIDE (R300): The instruction widens a D register into an accumulator. -/
  | wide (fold lane : Fin 8) (x : FmtA)
  /-- WIDEL (R300): The instruction adds a low-part D register into an accumulator. -/
  | widel (fold lane : Fin 8) (x : FmtA)
  /-- WDIF (R300): The instruction forms the wrapping 32-bit difference of two accumulators. -/
  | wdif (fold lane : Fin 8) (x : FmtA)
  /-- ADD (R300): The instruction adds two D registers. -/
  | add (fold lane : Fin 8) (x : FmtA)
  /-- SUB (R300): The instruction subtracts two D registers. -/
  | sub (fold lane : Fin 8) (x : FmtA)
  /-- ABS (R300): The instruction forms the absolute value of a D register. -/
  | abs (fold lane : Fin 8) (x : FmtA)
  /-- NEG (R300): The instruction negates a D register. -/
  | neg (fold lane : Fin 8) (x : FmtA)
  /-- MIN (R300): The instruction selects the lower of two D registers and sets SB. -/
  | min (fold lane : Fin 8) (x : FmtA)
  /-- MAX (R300): The instruction selects the higher of two D registers and sets SB. -/
  | max (fold lane : Fin 8) (x : FmtA)
  /-- SEL (R300): The instruction selects a D register by condition. -/
  | sel (fold lane : Fin 8) (x : FmtA)
  /-- LIM (R300): The instruction limits a value between bounds and sets LU and LL. -/
  | lim (fold lane : Fin 8) (x : FmtA)
  /-- ASH (R300): The instruction shifts a D register. -/
  | ash (fold lane : Fin 8) (x : FmtA)
  /-- CMP (R300): The instruction sets flags from the difference of two D registers. -/
  | cmp (fold lane : Fin 8) (x : FmtA)
  /-- MOV (R300): The instruction copies a D or an A register. -/
  | mov (fold lane : Fin 8) (x : FmtA)
  /-- LDI (R300): The instruction loads an immediate value into a register. -/
  | ldi (fold lane : Fin 8) (x : FmtI)
  /-- ADDI (R300): The instruction adds an immediate to a D or a P register. -/
  | addi (fold lane : Fin 8) (x : FmtI)
  /-- CMPI (R300): The instruction sets flags from the difference of a D register and an immediate. -/
  | cmpi (fold lane : Fin 8) (x : FmtI)
  /-- LD (R300): The instruction loads a 24-bit word into a D register through the checker. -/
  | ld (fold lane : Fin 8) (x : FmtM)
  /-- ST (R300): The instruction stores a D register into the shadow region. -/
  | st (fold lane : Fin 8) (x : FmtM)
  /-- LDW (R300): The instruction loads a 32-bit word into an accumulator. -/
  | ldw (fold lane : Fin 8) (x : FmtM)
  /-- STW (R300): The instruction stores 32 bits of an accumulator. -/
  | stw (fold lane : Fin 8) (x : FmtM)
  /-- MBR (R300): The instruction reads a mailbox word into a D register. -/
  | mbr (fold lane : Fin 8) (x : FmtM)
  /-- MBW (R300): The instruction writes a D register to a mailbox word. -/
  | mbw (fold lane : Fin 8) (x : FmtM)
  /-- MBRW (R300): The instruction reads a 32-bit mailbox word into an accumulator. -/
  | mbrw (fold lane : Fin 8) (x : FmtM)
  /-- MBWW (R300): The instruction writes 32 bits of an accumulator to a mailbox word. -/
  | mbww (fold lane : Fin 8) (x : FmtM)
  /-- MOVX (R300): The instruction moves between register classes, including FLAGS. -/
  | movx (fold lane : Fin 8) (x : FmtX)
  /-- BR (R303): The instruction branches conditionally. -/
  | br (fold lane : Fin 8) (x : FmtC)
  /-- CALL (R303): The instruction calls conditionally, pushing a return address. -/
  | call (fold lane : Fin 8) (x : FmtC)
  /-- RET (R303): The instruction returns conditionally. -/
  | ret (fold lane : Fin 8) (x : FmtC)
  /-- REP (R305): The instruction repeats the next instruction COUNT + 1 or LC times, uninterruptibly. -/
  | rep (fold lane : Fin 8) (x : FmtC)
  /-- END (R311): The instruction ends the pass: it commits, or hands the skim to the set pass, and switches banks. -/
  | endPass (fold lane : Fin 8) (x : FmtC)
  /-- CLRF (R300): The instruction clears SV. -/
  | clrf (fold lane : Fin 8) (x : FmtC)
  /-- TREQ (R315): The instruction starts a transcendental request into a result slot. -/
  | treq (fold lane : Fin 8) (x : FmtT)
  /-- TRD (R315): The instruction reads a transcendental result, waiting until it is ready. -/
  | trd (fold lane : Fin 8) (x : FmtT)
  /-- TRANSCENDENTAL_RESULT (R316): The transcendental unit completes a request and its results become ready. -/
  | transcendentalResult (fold lane : Fin 8) (slot : Bool)
  /-- DOMAIN_COMMIT (R320): Writing 0x01 to DOMAIN_COMMIT starts the loader's check of a domain image. -/
  | domainCommit (src : Src) (domain : Fin 255)
  /-- DOMAIN_CHECK_DONE (R320): The loader sets DOMAIN_STATE to valid or rejected within 2 ms. -/
  | domainCheckDone (domain : Fin 255)
  /-- RC_CLEAR (R282): RC_CLEAR of an axis zeroes its repetitive table and RC_VISITS. -/
  | rcClear (src : Src) (axis : Fin 128)
  /-- MOVE_ABSOLUTE (R329): The command moves the generator to an integer target position. -/
  | moveAbsolute (src : Src) (axis : Fin 128)
  /-- MOVE_RELATIVE (R329): The command moves the generator by TARGET counts. -/
  | moveRelative (src : Src) (axis : Fin 128)
  /-- VELOCITY (R337): The command runs the generator toward TARGET_SPEED. -/
  | velocity (src : Src) (axis : Fin 128)
  /-- STOP (R339): The command decelerates the generator to standstill and enters IDLE. -/
  | stop (src : Src) (axis : Fin 128)
  /-- GEAR_ENGAGE (R345): The command enters GEARED following the master. -/
  | gearEngage (src : Src) (axis : Fin 128)
  /-- HOME (R353): The command starts homing by HOME_METHOD. -/
  | home (src : Src) (axis : Fin 128)
  /-- HOME_CLEAR (R329): The command clears a FAULTED or ABORTED homing state. -/
  | homeClear (src : Src) (axis : Fin 128)
  /-- DWELL_END (R336): A dwell of DWELL ticks ends and any pending motion starts from standstill. -/
  | dwellEnd (axis : Fin 128)
  /-- LAND_WAIT_EXPIRY (R341): A LAND axis with no move accepted for LAND_WAIT counts as at standstill. -/
  | landWaitExpiry (axis : Fin 128)
  /-- STAGE_ARM (R346): Writing 1 to STAGE_ARM arms a staged gear ratio at STAGE_POSITION. -/
  | stageArm (src : Src) (axis : Fin 128)
  /-- SWITCH_QUALIFIED (R349): A switch level is qualified after n_q samples, driving limits and homing phases. -/
  | switchQualified (axis : Fin 128) (which : Fin 3)
  /-- SWITCH_LOCKOUT_END (R350): A switch's lockout after a qualified edge ends and its qualification count restarts. -/
  | switchLockoutEnd (axis : Fin 128) (which : Fin 3)
  /-- PULSE_INPUT_EDGE (R356): A filtered edge on a pulse input updates its count. -/
  | pulseInputEdge (input : Fin 8) (a b : Bool)
  /-- PULSE_Z_EDGE (R356): A Z edge is stamped in TIME80 into PI_Z_TIME. -/
  | pulseZEdge (input : Fin 8) (high : Bool) (off : Fin 125)
  /-- BLACK_START (R383): The command starts the grid-former on a dead bus with the voltage ramp. -/
  | blackStart (src : Src)
  /-- START_ON_LIVE (R384): The command starts the grid-former from the measured live bus. -/
  | startOnLive (src : Src)
  /-- SYNC (R385): The command enters SYNCING toward the utility. -/
  | sync (src : Src)
  /-- CANCEL_SYNC (R380): The command returns from SYNCING to FORMING. -/
  | cancelSync (src : Src)
  /-- GF_STOP (R382): GF_COMMAND STOP enters STOPPING and ramps down or unloads. -/
  | gfStop (src : Src)
  /-- CLEAR_TRIP (R389): The command clears a grid-former trip and re-enables the mapped leg ports. -/
  | clearTrip (src : Src)
  /-- GF_TIE (R381): A write of GF_TIE reports the tie state and changes GF_STATE. -/
  | gfTie (src : Src) (closed : Bool)
  /-- GF_RC_CLEAR (R377): The grid-former RC_CLEAR clears all three phase tables. -/
  | gfRcClear (src : Src)
  /-- BS_SETTLE_DONE (R383): BS_SETTLE expires after the ramp completes and the grid-former enters FORMING. -/
  | bsSettleDone
  /-- STALL (R383): The ramp held longer than BS_STALL_MAX trips the grid-former with cause 0x06. -/
  | stall
  /-- RT_RELEASE_EXPIRY (R373): RT_RELEASE passes without limiting, swing_free returns to 1 and LIMITING clears. -/
  | rtReleaseExpiry
  /-- SYNC_PERMIT (R386): The sync-check conditions hold for SC_TIME and SYNC_PERMIT is set. -/
  | syncPermit
  /-- UTILITY_OK (R386): UTIL_OK_TIME reaches SC_UTIL_TIME. -/
  | utilityOk
  /-- UTILITY_LOST (R387): The utility window or an RT_CURVE point is violated for its time, setting TIE_OPEN_REQUEST. -/
  | utilityLost
  /-- GF_STOP_DONE (R382): STOPPING completes and the legs go OFF. -/
  | gfStopDone
  /-- GF_TRIP_DC_LOW (R389): V_DC below VDC_TRIP_LOW for 10 ms trips the grid-former. -/
  | gfTripDcLow
  /-- GF_TRIP_DC_HIGH (R389): V_DC above VDC_TRIP_HIGH for 1 ms trips the grid-former. -/
  | gfTripDcHigh
  /-- GF_TRIP_CURRENT_SUM (R389): A current sum beyond ISUM_LIMIT for 3 cycles trips the grid-former. -/
  | gfTripCurrentSum
  /-- GF_MISSED_COMMITS (R368): GF_MISS_LIMIT cycles without a commit set every slot OFF and trip the grid-former with cause 0x04. -/
  | gfMissedCommits
  /-- GF_LIMIT_TOO_LONG (R388): LIMITING held longer than LIMIT_MAX trips the grid-former with cause 0x05. -/
  | gfLimitTooLong
  /-- LEG_ENABLE (R415): LEG_COMMAND 0x01 sends CLEAR and re-enables a leg port. -/
  | legEnable (src : Src) (port : Fin 20)
  /-- LEG_DISABLE (R415): LEG_COMMAND 0x02 sets the leg OFF and keeps the link idle. -/
  | legDisable (src : Src) (port : Fin 20)
  /-- LEG_SELFTEST (R419): LEG_COMMAND 0x03 runs one comparator self-test sequence. -/
  | legSelftest (src : Src) (port : Fin 20)
  /-- LEG_RESTART (R416): LEG_COMMAND 0x04 restarts the link start sequence. -/
  | legRestart (src : Src) (port : Fin 20)
  /-- LEG_TEL_RX (R405): A TEL record from a leg driver updates the telemetry and the leg state. -/
  | legTelRx (port : Fin 20) (tel : BitVec 56) (off : Fin 125)
  /-- LEG_LINK_START_DONE (R416): Link start completes with the delay measured, the settings written and the self-test run. -/
  | legLinkStartDone (port : Fin 20) (roundTrip : BitVec 16) (pass : BitVec 6)
  /-- LEG_START_TIMEOUT (R416): A link start not complete within 5 ms leaves the port in FAULT. -/
  | legStartTimeout (port : Fin 20)
  /-- LEG_LINK_LOSS (R417): A leg port declares link loss, sends TRIP and goes silent for 10 µs. -/
  | legLinkLoss (port : Fin 20)
  /-- LEG_SIGNAL_RETURN (R417): A signal returns on a lost leg port and the link restarts. -/
  | legSignalReturn (port : Fin 20)
  /-- EDGE_RECORD_SEND (R407): An EDGE record is sent once its time lies within 20 µs ahead. -/
  | edgeRecordSend (port : Fin 20)
  /-- LEG_STATE_REPEAT (R407): A held leg state is repeated in an EDGE record every QUEUE_DRY / 2. -/
  | legStateRepeat (port : Fin 20)
  /-- LEG_TIME_RECORD (R403): A TIME record is sent on every leg port every 10 µs. -/
  | legTimeRecord (port : Fin 20) (off : Fin 125)
  /-- SELFTEST_DONE (R418): A comparator self-test sequence ends with its result. -/
  | selftestDone (port : Fin 20) (pass : BitVec 6)
  /-- LEG_SELFTEST_PERIOD (R419): Every 10 s in RUN, an eligible port with SELFTEST_IN_RUN runs its self-test. -/
  | legSelftestPeriod (port : Fin 20)
  /-- FAST_CHANNEL_TRIP (R422): A fast overcurrent channel crosses its threshold and the island trips every leg in FAST_MAP. -/
  | fastChannelTrip
  /-- SENSE_STUCK (R423): 64 equal consecutive bits set STUCK on a sense port. -/
  | senseStuck (port : Fin 12)
  /-- DISCREPANCY_FAULT (R441): A discrepancy count reaching DISC_TICKS + 1 latches cause 0x03. -/
  | discrepancyFault (pair : Fin 16)
  /-- TEST_PULSE (R442): A test-pulse output pulses low and the assigned channels are read before it ends. -/
  | testPulse (pulse : Fin 4) (a b : BitVec 16)
  /-- SO_OFF_TEST (R444): An energised safe output is off-tested once per SO_TEST_PERIOD. -/
  | soOffTest (output : Fin 8) (lowA lowB : Bool)
  /-- VSAFE_FEED (R433): A VSAFE feed outside its window for 1 ms is reported absent; with both absent the island stops. -/
  | vsafeFeed (a b : Bool)
  /-- SS1_TIMEOUT (R446): SS1_TIME_MAX expires and the group enters STO. -/
  | ss1Timeout (group : Fin 32)
  /-- STANDSTILL_REACHED (R446): Every monitored axis holds standstill for STANDSTILL_TIME; SS1 ends in STO and SS2 enters SOS. -/
  | standstillReached (group : Fin 32)
  /-- RESET_STUCK (R455): A reset hold reaching 50,001 ticks enters RESET_STUCK. -/
  | resetStuck
  /-- RESET_STUCK_CLEARED (R455): Both channels open for 1 s make SRST usable again. -/
  | resetStuckCleared
  /-- LOCKOUT_CAUSE_CLEARED (R452): A timed clearing condition of a lock-out cause (1 s or 8 pulses) completes. -/
  | lockoutCauseCleared (group : Fin 32) (cause source : Byte)
  /-- SELFTEST_COMMAND (R459): SELFTEST_COMMAND 0x01 in SERVICE starts the island's full self-test. -/
  | selftestCommand (src : Src) (value : Byte)
  /-- SAFETY_SELFTEST_DONE (R459): The full island self-test completes with its result. -/
  | safetySelftestDone (items : Byte)
  /-- SELFTEST_OVERDUE (R459): No full self-test has passed for SELFTEST_MAX_INTERVAL hours. -/
  | selftestOverdue
  /-- SAFE_FRAME_RX (R477): A safe frame is dispatched and checked for CRC, age, sequence, kind and length. -/
  | safeFrameRx (source : SafeSource) (data : List Byte) (off : Fin 125)
  /-- SAFE_CONN_TIMEOUT (R478): T_EXP passes since the last accepted frame and the connection fails. -/
  | safeConnTimeout (conn : Fin 256)
  /-- SAFE_SEND_PERIOD (R475): SEND_PERIOD ticks pass and an Ethernet or CAN FD transmit connection sends a frame. -/
  | safeSendPeriod (conn : Fin 256)
  /-- COPY_FRAME_RX (R502): At CLOSE, the standby checks and applies a COPY frame and sends an ACK. -/
  | copyFrameRx (frame : CopyFrame)
  /-- COPY_ACK_RX (R503): The active receives an ACK, acknowledging the copy of a cycle. -/
  | copyAckRx (ack : CopyAck)
  /-- TWIN_LINK_LOSS (R506): The twin link is lost; the standby becomes STALE and asserts ARB_STALE. -/
  | twinLinkLoss (errors : BitVec 32)
  /-- TWIN_LINK_UP (R497): The twin link is declared healthy after 10 ms of error-free IDLE. -/
  | twinLinkUp
  /-- ARB_GRANT_RISE (R508): A stable rising ARB_GRANT is taken, to take effect at a cycle boundary. -/
  | arbGrantRise
  /-- TAKEOVER (R512): At the boundary where the grant takes effect, the unit becomes ACTIVE and runs a normal or stale takeover. -/
  | takeover
  /-- ARB_GRANT_FALL (R511): A falling ARB_GRANT stops an active unit's head traffic within 1 µs and it becomes STALE. -/
  | arbGrantFall
  /-- RESUME (R519): REDUNDANCY_COMMAND 0x01 clears STALE_SERVICE. -/
  | resume (src : Src)
  /-- HANDOVER (R520): REDUNDANCY_COMMAND 0x02 hands mastership to the standby. -/
  | handover (src : Src)
  /-- REJOIN (R521): REDUNDANCY_COMMAND 0x03 starts a join from STALE. -/
  | rejoin (src : Src)
  /-- ARM (R531): REC_COMMAND 0x01 arms a recorder for a new record. -/
  | arm (src : Src) (recorder : Fin 4)
  /-- DISARM (R531): REC_COMMAND 0x02 completes the record with ABORTED. -/
  | disarm (src : Src) (recorder : Fin 4)
  /-- FORCE (R531): REC_COMMAND 0x03 makes a trigger decision at the boundary. -/
  | force (src : Src) (recorder : Fin 4)
  /-- SEAL (R545): REC_COMMAND 0x04 seals a complete record into the incident area. -/
  | seal (src : Src) (recorder : Fin 4)
  /-- RELEASE (R531): REC_COMMAND 0x05 returns the recorder to IDLE. -/
  | release (src : Src) (recorder : Fin 4)
  /-- TRIGGER_WMAX_EXPIRY (R528): W_MAX passes without the awaited crossing and a TIMEOUT or PULSE_OUT unit fires. -/
  | triggerWmaxExpiry (unit : Fin 16)
  /-- TRIGGER_WINDOW_END (R532): The one-cycle window after the first decision closes and the trigger sample is fixed. -/
  | triggerWindowEnd (recorder : Fin 4)
  /-- REC_REARM (R533): A repeating recorder re-arms once any seal read of its region is done. -/
  | recRearm (recorder : Fin 4)
  /-- SYNC_FIRE (R543): A write of SYNC_FIRE acts as a received FIRE for every member recorder. -/
  | syncFire (src : Src) (time : BitVec 80)
  /-- ACQ_FIRE_RX (R543): A FIRE message from a node triggers the member recorders and is relayed to every node. -/
  | acqFireRx (ring : Fin 2) (msg : RingMessage)
  /-- SEAL_DONE (R545): A seal completes, is abandoned or finds the area full, and the next queued seal starts. -/
  | sealDone
  /-- ERASE_SEALED (R547): Writing 0x6572_6173 in SERVICE erases every sealed entry and starts a new chain. -/
  | eraseSealed (src : Src) (value : BitVec 32)
  /-- SCRUB_PASS_DONE (R564): The Float completes a scrub pass of regions 0x00 to 0x04. -/
  | scrubPassDone
  /-- ISLAND_SCRUB (R564): Every 10 s the island scrubs its own memory. -/
  | islandScrub (found : Option IslandByte)
  /-- SOFT_REPAIR (R567): In the window after a deadline, a row candidate is copied to a spare row and remapped. -/
  | softRepair (region : Fin 5) (mac : Byte) (row : BitVec 9)
  /-- FUSE_COMMAND (R569): Writing 0x6675_7365 in SERVICE with VFUSE present programs the pending fuses. -/
  | fuseCommand (src : Src) (value : BitVec 32)
  /-- FUSE_DONE (R569): Fuse programming completes and FUSE_STATE reports the outcome. -/
  | fuseDone
  /-- TEST_SPLIT_WRITE (R570): TEST_COMMAND 0x01 stores TEST_DATA and TEST_CHECK unchanged at a byte. -/
  | testSplitWrite (src : Src)
  /-- TEST_RAW_READ (R570): TEST_COMMAND 0x02 reads a byte raw into TEST_RESULT. -/
  | testRawRead (src : Src)
  /-- TEST_CHECKED_READ (R570): TEST_COMMAND 0x03 reads a byte through the checker with write-back. -/
  | testCheckedRead (src : Src)
  /-- LANE_MEASURE (R572): Every MEASURE_PERIOD each lane times its 1,024-instruction sequence, referred to the slow corner. -/
  | laneMeasure (fold lane : Fin 8) (time corner : BitVec 16) (sound : Bool)
  /-- RETIRE_CLEAR (R574): RETIRE_CLEAR re-admits a retired lane in SERVICE after a self-test and two measurements. -/
  | retireClear (src : Src) (fold lane : Fin 8)
  /-- BOOT_SEQUENCE_COMPLETE (R589): The dictionary load ends and the Thoek enters CONFIG, starting cycle boundaries, leg links and ring loopback. -/
  | bootSequenceComplete
  /-- FOLD_SCHEDULER_FAULT (R37): A fold scheduler fault is detected and becomes SAFE-HOLD cause 0x0002. -/
  | foldSchedulerFault (fold : Fin 8)
  /-- SDCLK_EDGE (R526): At an SDCLK edge, fast-rate recorders and trigger units take samples and fast-rate triggers decide. -/
  | sdclkEdge (bits : BitVec 12) (off : Fin 125)
  /-- DROVE_FRAME_RX (R516): A pair member in the position role receives a drove frame and places its cycle boundaries, its cycle tag and the seen epoch from it. -/
  | droveFrameRx (ring : Fin 2) (header : DroveHeader)
  /-- SCRUB_READ (R564): The Float's scrubber reads a byte and writes back a correction, marks an uncorrectable byte, or raises cause 0x0002 in the microcode store. -/
  | scrubRead (region : Fin 5) (mac : Byte) (offset : BitVec 15) (upset : BitVec 13)
  /-- SPARE_SELFTEST_FAIL (R573): The spare lane's continuous self-test fails and the lane is retired. -/
  | spareSelftestFail (fold : Fin 8)
  /-- CAN_FRAME_TX (R94): A queued CAN FD frame finishes transmission on the bus, or fails, updating the error counters and possibly entering bus-off. -/
  | canFrameTx (port : Fin 2) (ok : Bool)
  /-- HOUR_COUNTER (R575): An hour of operation passes and POWER_ON_HOURS, RUN_HOURS and HOURS_ABOVE_105 are updated in the health area. -/
  | hourCounter (hot : Bool)
deriving DecidableEq, Repr

end Sys2Proof
end

