-- ==== Sys2Proof/Decode.lean ====
section
/-! DEFINITION. Decode.lean: the commands that a word spells by the bits of spec/opcode_table.json. No row of that table gives bits: a
command comes as a transaction, a frame, a pin event or the passing of time, each with operands of its own. -/

namespace Sys2Proof

/-- The command a word spells: none, for no row of the table gives bits. -/
def decodeTableWord (_nbits _w : Nat) : Option Instr := none

end Sys2Proof
end

