-- ==== Sys2Proof/Config.lean ====
section
/-! DEFINITION. Config.lean: what a unit or an implementation fixes, and the values the spec leaves open. Every constant here is
opaque and has no body: nothing can be proved of its value, so a statement holds whatever the unit. The assumption log names each. -/

namespace Sys2Proof.Config

/-- SERIAL (R62): per unit (DESIGN CHOICE, log entry 8). -/
opaque serial : Nat

/-- GRADE (R62): per unit (log entry 8). -/
opaque grade : Nat

/-- MAC_ADDRESS of Ethernet port p (R176): per unit (log entry 8). -/
opaque mac (p : Nat) : Nat

/-- FUSED_ROWS of memory region g at delivery (R576): per unit (log entry 8). -/
opaque fusedRows (g : Nat) : Nat

/-- FUSED_COLUMNS of memory region g at delivery (R576): per unit (log entry 8). -/
opaque fusedColumns (g : Nat) : Nat

/-- Production-fused rows of a macro (R565): per unit (log entry 8). -/
opaque macroFusedRows (mac : Nat) : Nat

/-- Production-fused columns of a macro (R565): per unit (log entry 8). -/
opaque macroFusedColumns (mac : Nat) : Nat

/-- The header figures of the vendor servo library (R319), which the spec does not give: FULL_COST and SKIM_COST per phase
(DESIGN CHOICE, log entry 21). -/
opaque servoFullCost (phase : Nat) : Nat

/-- SKIM_COST of the vendor servo library (log entry 21). -/
opaque servoSkimCost (phase : Nat) : Nat

/-- Other header figures of the vendor libraries the spec does not give: domain 0 or 1; 0 CODE_LENGTH, 1 CTX_WORDS,
2 SHARED_WORDS, 3 REP_MAX (log entry 21). -/
opaque vendorHeader (domain field : Nat) : Nat

/-- C_set of a customer domain as the scheduler charges it (R239), within 16 and 240 slots: its header carries no counts of declarations
(DESIGN CHOICE, log entry 54). -/
opaque customerSetCost (domain : Nat) : Nat

/-- Bytes of a vendor library's initialised window words (R323): domain 0 or 1, byte (log entry 21). -/
opaque vendorImage (domain i : Nat) : Nat

/-- Words of a vendor library's per-cycle state in a CONTEXT segment (R500): domain 0 or 1 (log entry 21). -/
opaque vendorCopyWords (domain : Nat) : Nat

/-- Words of the CONTEXT segments of a vendor context, whose window the spec does not lay out: context, cycle tag, word (DESIGN CHOICE,
log entry 67). -/
opaque vendorCopyWord (ctx tag n : Nat) : Nat

/-- The Thoek's own forwarding delay as a position, ns (R180): per unit, at most 120 (DESIGN CHOICE, log entry 22). -/
opaque forwardDelay : Nat

/-- The assignment a fold scheduler first tries (R226), a free choice: the lane of a context among those in service
(DESIGN CHOICE, log entry 23). -/
opaque laneChoice (ctx lanes n : Nat) : Nat

/-- The SLOW_PHASE the scheduler chooses for a context, from the contexts of its fold and their costs, so that both units of a pair choose
the same one (R243; log entry 23). -/
opaque phaseChoice (load : List Nat) (ctx : Nat) : Nat

/-- The transcendental unit's results, in steps of 2⁻²³ from the exact value (R314): function, the two inputs, result number
(DESIGN CHOICE, log entry 24). -/
opaque tuError (func a b sel : Nat) : Nat

/-- The island's CRC-32C over a safety parameter block (R64): the spec does not give the block's serialisation, so the value is a
free function of the block's parameters (DESIGN CHOICE, log entry 9). -/
opaque blockCrc (block : List (Nat × Nat)) : Nat

/-- The production trim band of a synthesiser (R113), below 64: 0 PLL-T, 1 PLL-S (DESIGN CHOICE, log entry 75). -/
opaque trimBand (pll : Nat) : Nat

/-- The successor in the 32-bit maximal-length sequence of the PLL-S dither (R112), whose polynomial the spec does not give
(DESIGN CHOICE, log entry 75). -/
opaque ditherNext : Nat → Nat

/-- The length of the control cycle (R24, R136), in steps of 125 ns above the least: no object of the spec sets it (DESIGN CHOICE,
log entry 29). -/
opaque cycleSteps : Nat

/-- Fields of an own Announce that no object sets (R162): 0 flagField, 1 currentUtcOffset, 2 clockAccuracy, 3 offsetScaledLogVariance,
4 timeSource (PRESUMED, log entry 77). -/
opaque announceField (n : Nat) : Nat

/-- A free value: the n-th value the machine draws, of the kind named by tag (DESIGN CHOICE, log entry 20). -/
opaque freeValue (tag n : Nat) : Nat

end Sys2Proof.Config
end

