-- ==== Sys2Proof/Machine/Bits.lean ====
section
/-! DEFINITION. Machine/Bits.lean: bit-field, sign, saturation, byte-order and list helpers. Multi-byte fields are most
significant byte first (R12); a signed field is two's complement (R48). -/

namespace Sys2Proof.Machine

/-- Bits [hi:lo] of a value (R10). -/
def bits (v hi lo : Nat) : Nat := (v >>> lo) % 2 ^ (hi + 1 - lo)

/-- Bit n of a value (R10). -/
def bit (v n : Nat) : Bool := (v >>> n) % 2 == 1

/-- v with bit n set or cleared. -/
def setBit (v n : Nat) (b : Bool) : Nat :=
  if bit v n == b then v else if b then v + 2 ^ n else v - 2 ^ n

/-- The value 1 or 0 of a truth value. -/
def b2n (b : Bool) : Nat := if b then 1 else 0

/-- The two's-complement value of the low w bits of v (R48). -/
def sgn (w v : Nat) : Int :=
  let m := v % 2 ^ w
  if 2 * m < 2 ^ w then (m : Int) else (m : Int) - 2 ^ w

/-- The low w bits of an integer, as an unsigned raw value (R48). -/
def raw (w : Nat) (i : Int) : Nat := (i % (2 ^ w : Int)).toNat

/-- An integer held between two bounds. -/
def clampI (lo hi i : Int) : Int := if i < lo then lo else if hi < i then hi else i

/-- Saturation to a signed form of w bits (R10, R296). -/
def sat (w : Nat) (i : Int) : Int := clampI (-(2 ^ (w - 1) : Int)) (2 ^ (w - 1) - 1) i

/-- Saturation to Q1.23. -/
def sat24 (i : Int) : Int := clampI (-8388608) 8388607 i

/-- A natural number held at a maximum: a saturating counter. -/
def satAdd (w v k : Nat) : Nat := if 2 ^ w - 1 < v + k then 2 ^ w - 1 else v + k

/-- Shift of an integer right by n, toward minus infinity. -/
def sra (i : Int) (n : Nat) : Int := i / (2 ^ n : Int)

/-- Arithmetic shift: left for positive n, right toward minus infinity for negative n. -/
def shiftI (i : Int) (n : Int) : Int :=
  if 0 ≤ n then i * 2 ^ n.toNat else sra i (-n).toNat

/-- The product of two Q1.23 values, truncated toward minus infinity and saturated to Q1.23. -/
def mulQ (a b : Int) : Int := sat24 (sra (a * b) 23)

/-- The absolute value, as an integer. -/
def absI (i : Int) : Int := if i < 0 then -i else i

/-- The sign of an integer: −1, 0 or 1. -/
def sgnI (i : Int) : Int := if i < 0 then -1 else if i = 0 then 0 else 1

/-- The n bytes of a value, most significant first (R12). -/
def beBytes : Nat → Nat → List Byte
  | 0, _ => []
  | n + 1, v => BitVec.ofNat 8 (v >>> (8 * n)) :: beBytes n v

/-- The value of bytes, most significant first (R12). -/
def ofBe (l : List Byte) : Nat := l.foldl (fun a b => a * 256 + b.toNat) 0

/-- len bytes from an offset. -/
def slice (l : List Byte) (off len : Nat) : List Byte := (l.drop off).take len

/-- The value of a byte field at an offset of a frame. -/
def fieldAt (l : List Byte) (off len : Nat) : Nat := ofBe (slice l off len)

/-- The i-th element of a list, or a default. -/
def getAt {α : Type} (d : α) : List α → Nat → α
  | [], _ => d
  | a :: _, 0 => a
  | _ :: t, n + 1 => getAt d t n

/-- The list with its i-th element changed by f; a list too short is unchanged. -/
def upd {α : Type} (f : α → α) : List α → Nat → List α
  | [], _ => []
  | a :: t, 0 => f a :: t
  | a :: t, n + 1 => a :: upd f t n

/-- The list with its i-th element replaced. -/
def setAt {α : Type} (l : List α) (i : Nat) (a : α) : List α := upd (fun _ => a) l i

/-- A function applied once for every number below n, in rising order. -/
def forN {α : Type} : Nat → (Nat → α → α) → α → α
  | 0, _, a => a
  | n + 1, f, a => f n (forN n f a)

/-- The number of set bits among the low n bits of a value. -/
def popCount : Nat → Nat → Nat
  | 0, _ => 0
  | n + 1, v => b2n (bit v n) + popCount n v

/-- Whether a value has no bit outside a mask (R11: reserved bits are written 0). -/
def within (v mask : Nat) : Bool := v &&& mask == v

/-- Elements of a list that are set in a bit mask, by position. -/
def bitsSet (n v : Nat) : List Nat := (List.range n).filter (bit v)

/-- The sum of a list. -/
def sumOf (l : List Nat) : Nat := l.foldl (· + ·) 0

/-- A quotient rounded up. -/
def ceilDiv (a b : Nat) : Nat := (a + b - 1) / b

/-- The floor of the base-2 logarithm of a positive number, looked for below a bound. -/
def log2Below : Nat → Nat → Nat
  | 0, _ => 0
  | n + 1, v => if 2 ^ (n + 1) ≤ v then n + 1 else log2Below n v

/-- Square root of a natural number toward zero, bit by bit from bit n. -/
def isqrtFrom : Nat → Nat → Nat → Nat
  | 0, v, r => if (r + 1) * (r + 1) ≤ v then r + 1 else r
  | n + 1, v, r =>
    let c := r + 2 ^ (n + 1)
    isqrtFrom n v (if c * c ≤ v then c else r)

/-- The integer square root of a number below 2 ^ 64. -/
def isqrt (v : Nat) : Nat := isqrtFrom 31 v 0

end Sys2Proof.Machine
end

