-- ==== Sys2Proof/Machine/Crc.lean ====
section
/-! DEFINITION. Machine/Crc.lean: the cyclic checks the manual names: CRC-32C (R8, polynomial 0x1EDC_6F41), the CRC-16, CRC-8
and IEEE 802.3 checks of the wire formats. -/

namespace Sys2Proof.Machine

/-- One bit step of a CRC of w bits shifted left (most significant bit first). -/
def crcStepL (w poly c : Nat) : Nat :=
  if bit c (w - 1) then ((c <<< 1) % 2 ^ w) ^^^ poly else (c <<< 1) % 2 ^ w

/-- k bit steps, most significant bit first. -/
def crcStepsL (w poly : Nat) : Nat → Nat → Nat
  | 0, c => c
  | k + 1, c => crcStepsL w poly k (crcStepL w poly c)

/-- A CRC of w bits over bytes, most significant bit first, from an initial value. -/
def crcL (w poly init : Nat) (l : List Byte) : Nat :=
  l.foldl (fun c b => crcStepsL w poly 8 (c ^^^ (b.toNat <<< (w - 8)))) init

/-- k bit steps of a reflected 32-bit CRC (least significant bit first). -/
def crcStepsR (poly : Nat) : Nat → Nat → Nat
  | 0, c => c
  | k + 1, c => crcStepsR poly k (if bit c 0 then (c >>> 1) ^^^ poly else c >>> 1)

/-- A reflected 32-bit CRC with initial value and final inversion of all ones. -/
def crcR (poly : Nat) (l : List Byte) : Nat :=
  (l.foldl (fun c b => crcStepsR poly 8 (c ^^^ b.toNat)) 0xFFFFFFFF) ^^^ 0xFFFFFFFF

/-- CRC-32C (Castagnoli, R8): polynomial 0x1EDC_6F41, in its reflected form. -/
def crc32c (l : List Byte) : Nat := crcR 0x82F63B78 l

/-- The IEEE 802.3 frame check (R8). -/
def crc32 (l : List Byte) : Nat := crcR 0xEDB88320 l

/-- CRC-16 with polynomial 0x1021 and initial value 0xFFFF. -/
def crc16 (l : List Byte) : Nat := crcL 16 0x1021 0xFFFF l

/-- CRC-8 with polynomial 0x2F, initial value 0xFF and a final XOR of 0xFF (R401). -/
def crc8 (l : List Byte) : Nat := crcL 8 0x2F 0xFF l ^^^ 0xFF

end Sys2Proof.Machine
end

