-- ==== Sys2Proof/Machine/Obj.lean ====
section
/-! DEFINITION. Machine/Obj.lean: the name of every dictionary object as its key, index × 256 + subindex (R47), with the
unit number of a repeated object as argument. -/

namespace Sys2Proof.Machine.Obj

/-- DEVICE_STATE (R29). -/
abbrev DEVICE_STATE : Nat := 0x011000
/-- STATE_REQUEST (R29). -/
abbrev STATE_REQUEST : Nat := 0x011001
/-- SAFE_HOLD_CAUSE (R29). -/
abbrev SAFE_HOLD_CAUSE : Nat := 0x011002
/-- STATE_REJECT (R29). -/
abbrev STATE_REJECT : Nat := 0x011003
/-- SAFE_HOLD_STOP_TIME (R29). -/
abbrev SAFE_HOLD_STOP_TIME : Nat := 0x011004
/-- VENDOR_ID (R62). -/
abbrev VENDOR_ID : Nat := 0x010000
/-- ORDER_NUMBER (R62). -/
abbrev ORDER_NUMBER : Nat := 0x010001
/-- STEPPING (R62). -/
abbrev STEPPING : Nat := 0x010002
/-- SERIAL (R62). -/
abbrev SERIAL : Nat := 0x010003
/-- GRADE (R62). -/
abbrev GRADE : Nat := 0x010004
/-- DICT_VERSION (R62). -/
abbrev DICT_VERSION : Nat := 0x010005
/-- HURDLE (R62). -/
abbrev HURDLE : Nat := 0x01F000
/-- SAVE (R62). -/
abbrev SAVE : Nat := 0x01F100
/-- RESTORE (R62). -/
abbrev RESTORE : Nat := 0x01F200
/-- LOCKOUT_RESET_REQUEST (R62). -/
abbrev LOCKOUT_RESET_REQUEST : Nat := 0x01F300
/-- SAFETY_COMMIT (R62). -/
abbrev SAFETY_COMMIT : Nat := 0x01F400
/-- HOST_MODE (R93). -/
abbrev HOST_MODE : Nat := 0x080100
/-- LAST_HOST_STATUS (R93). -/
abbrev LAST_HOST_STATUS : Nat := 0x080200
/-- LAST_HOST_TAG (R93). -/
abbrev LAST_HOST_TAG : Nat := 0x080201
/-- UDP_PORT (R93). -/
abbrev UDP_PORT : Nat := 0x081000
/-- IPV4_ADDRESS (R93). -/
abbrev IPV4_ADDRESS : Nat := 0x081001
/-- IPV4_MASK (R93). -/
abbrev IPV4_MASK : Nat := 0x081002
/-- IPV4_GATEWAY (R93). -/
abbrev IPV4_GATEWAY : Nat := 0x081003
/-- SESSION_TIMEOUT (R93). -/
abbrev SESSION_TIMEOUT : Nat := 0x081100
/-- SESSION_STATE (R93). -/
abbrev SESSION_STATE (i : Nat) : Nat := 0x081200 + i
/-- SESSION_PEER (R93). -/
abbrev SESSION_PEER (i : Nat) : Nat := 0x081300 + i
/-- SESSION_KEY (R93). -/
abbrev SESSION_KEY (i : Nat) : Nat := 0x082000 + i
/-- SAFETY_KEY (R93). -/
abbrev SAFETY_KEY (i : Nat) : Nat := 0x082100 + i
/-- SESSION_EVENT_MASK (R93). -/
abbrev SESSION_EVENT_MASK (n : Nat) (i : Nat) : Nat := 0x083000 + 0x100 * n + i
/-- CAN_ENABLE (R94). -/
abbrev CAN_ENABLE (n : Nat) : Nat := 0x084000 + 0x800 * n
/-- NOMINAL_RATE (R94). -/
abbrev NOMINAL_RATE (n : Nat) : Nat := 0x084001 + 0x800 * n
/-- NOMINAL_SAMPLE_POINT (R94). -/
abbrev NOMINAL_SAMPLE_POINT (n : Nat) : Nat := 0x084002 + 0x800 * n
/-- DATA_RATE (R94). -/
abbrev DATA_RATE (n : Nat) : Nat := 0x084003 + 0x800 * n
/-- DATA_SAMPLE_POINT (R94). -/
abbrev DATA_SAMPLE_POINT (n : Nat) : Nat := 0x084004 + 0x800 * n
/-- TDC_ENABLE (R94). -/
abbrev TDC_ENABLE (n : Nat) : Nat := 0x084005 + 0x800 * n
/-- CAN_TX (R94). -/
abbrev CAN_TX (n : Nat) : Nat := 0x084100 + 0x800 * n
/-- RX_FILTER (R94). -/
abbrev RX_FILTER (n : Nat) (i : Nat) : Nat := 0x084200 + 0x800 * n + i
/-- CAN_RX (R94). -/
abbrev CAN_RX (n : Nat) : Nat := 0x084300 + 0x800 * n
/-- CAN_STATUS (R94). -/
abbrev CAN_STATUS (n : Nat) : Nat := 0x084400 + 0x800 * n
/-- RX_DROPPED (R94). -/
abbrev RX_DROPPED (n : Nat) : Nat := 0x084401 + 0x800 * n
/-- REF_SELECT (R139). -/
abbrev REF_SELECT : Nat := 0x020000
/-- REF_FREQ_1 (R139). -/
abbrev REF_FREQ_1 : Nat := 0x020001
/-- REF_FREQ_2 (R139). -/
abbrev REF_FREQ_2 : Nat := 0x020002
/-- REF_AUTO (R139). -/
abbrev REF_AUTO : Nat := 0x020003
/-- REF_REVERT (R139). -/
abbrev REF_REVERT : Nat := 0x020004
/-- REF_ACTIVE (R139). -/
abbrev REF_ACTIVE : Nat := 0x020005
/-- REF_STATUS (R139). -/
abbrev REF_STATUS : Nat := 0x020006
/-- REF_QUAL_TIME (R139). -/
abbrev REF_QUAL_TIME : Nat := 0x020007
/-- PLLT_PRESCALE (R140). -/
abbrev PLLT_PRESCALE : Nat := 0x021000
/-- PLLT_WINDOW (R140). -/
abbrev PLLT_WINDOW : Nat := 0x021001
/-- PLLT_COUNT (R140). -/
abbrev PLLT_COUNT : Nat := 0x021002
/-- PLLT_STATE (R140). -/
abbrev PLLT_STATE : Nat := 0x021003
/-- PLLT_BAND (R140). -/
abbrev PLLT_BAND : Nat := 0x021004
/-- PLLT_OFFSET (R140). -/
abbrev PLLT_OFFSET : Nat := 0x021005
/-- PLLT_STEP (R140). -/
abbrev PLLT_STEP : Nat := 0x021006
/-- PLLT_DRIFT (R140). -/
abbrev PLLT_DRIFT : Nat := 0x021007
/-- PLLT_RELOCK (R140). -/
abbrev PLLT_RELOCK : Nat := 0x021008
/-- PLLS_DITHER (R141). -/
abbrev PLLS_DITHER : Nat := 0x022000
/-- PLLS_SEED (R141). -/
abbrev PLLS_SEED : Nat := 0x022001
/-- PLLS_WINDOW (R141). -/
abbrev PLLS_WINDOW : Nat := 0x022002
/-- PLLS_COUNT (R141). -/
abbrev PLLS_COUNT : Nat := 0x022003
/-- PLLS_STATE (R141). -/
abbrev PLLS_STATE : Nat := 0x022004
/-- PLLS_BAND (R141). -/
abbrev PLLS_BAND : Nat := 0x022005
/-- TIME_NOW (R142). -/
abbrev TIME_NOW : Nat := 0x023000
/-- COMPARE_MODE (R142). -/
abbrev COMPARE_MODE : Nat := 0x023001
/-- TIME_SET (R142). -/
abbrev TIME_SET : Nat := 0x023002
/-- COUNTER_SLEW (R142). -/
abbrev COUNTER_SLEW : Nat := 0x023003
/-- PHASE_BUILD_OUT (R142). -/
abbrev PHASE_BUILD_OUT : Nat := 0x023004
/-- NS32_NOW (R142). -/
abbrev NS32_NOW : Nat := 0x023005
/-- BACKUP_ACTIVE (R142). -/
abbrev BACKUP_ACTIVE : Nat := 0x023006
/-- STEP_COUNT (R142). -/
abbrev STEP_COUNT : Nat := 0x023007
/-- SDCLK_DIV (R142). -/
abbrev SDCLK_DIV : Nat := 0x024000
/-- SAFETY_TICK_SOURCE (R142). -/
abbrev SAFETY_TICK_SOURCE : Nat := 0x024001
/-- PTP_ENABLE (R173). -/
abbrev PTP_ENABLE : Nat := 0x030000
/-- PTP_ROLE (R173). -/
abbrev PTP_ROLE : Nat := 0x030001
/-- PTP_PORT (R173). -/
abbrev PTP_PORT : Nat := 0x030002
/-- PTP_TRANSPORT (R173). -/
abbrev PTP_TRANSPORT : Nat := 0x030003
/-- PTP_DOMAIN (R173). -/
abbrev PTP_DOMAIN : Nat := 0x030004
/-- LOG_SYNC_INTERVAL (R173). -/
abbrev LOG_SYNC_INTERVAL : Nat := 0x030005
/-- LOG_DELAY_REQ_INTERVAL (R173). -/
abbrev LOG_DELAY_REQ_INTERVAL : Nat := 0x030006
/-- LOG_ANNOUNCE_INTERVAL (R173). -/
abbrev LOG_ANNOUNCE_INTERVAL : Nat := 0x030007
/-- ANNOUNCE_RECEIPT_TIMEOUT (R173). -/
abbrev ANNOUNCE_RECEIPT_TIMEOUT : Nat := 0x030008
/-- PRIORITY1 (R173). -/
abbrev PRIORITY1 : Nat := 0x030009
/-- PRIORITY2 (R173). -/
abbrev PRIORITY2 : Nat := 0x03000A
/-- CLOCK_CLASS (R173). -/
abbrev CLOCK_CLASS : Nat := 0x03000B
/-- CLOCK_IDENTITY (R173). -/
abbrev CLOCK_IDENTITY : Nat := 0x03000C
/-- TC_ENABLE (R173). -/
abbrev TC_ENABLE : Nat := 0x03000D
/-- SERVO_KP (R174). -/
abbrev SERVO_KP : Nat := 0x031000
/-- SERVO_KI (R174). -/
abbrev SERVO_KI : Nat := 0x031001
/-- STEP_ARM (R174). -/
abbrev STEP_ARM : Nat := 0x031002
/-- STEP_MIN (R174). -/
abbrev STEP_MIN : Nat := 0x031003
/-- ACQ_SAMPLES (R174). -/
abbrev ACQ_SAMPLES : Nat := 0x031004
/-- LOCK_THRESHOLD (R174). -/
abbrev LOCK_THRESHOLD : Nat := 0x031005
/-- OFFSET_LIMIT (R174). -/
abbrev OFFSET_LIMIT : Nat := 0x031006
/-- DELAY_AVG (R174). -/
abbrev DELAY_AVG : Nat := 0x031007
/-- OUTLIER (R174). -/
abbrev OUTLIER : Nat := 0x031008
/-- SERVO_STATE (R175). -/
abbrev SERVO_STATE : Nat := 0x032000
/-- OFFSET (R175). -/
abbrev OFFSET : Nat := 0x032001
/-- MEAN_PATH_DELAY (R175). -/
abbrev MEAN_PATH_DELAY : Nat := 0x032002
/-- RATE_CORRECTION (R175). -/
abbrev RATE_CORRECTION : Nat := 0x032003
/-- FREQ_PART (R175). -/
abbrev FREQ_PART : Nat := 0x032004
/-- MASTER_IDENTITY (R175). -/
abbrev MASTER_IDENTITY : Nat := 0x032005
/-- MASTER_PORT (R175). -/
abbrev MASTER_PORT : Nat := 0x032006
/-- MASTER_INGRESS (R175). -/
abbrev MASTER_INGRESS : Nat := 0x032007
/-- UTC_OFFSET (R175). -/
abbrev UTC_OFFSET : Nat := 0x032008
/-- LINK (R176). -/
abbrev LINK (n : Nat) : Nat := 0x033000 + 0x100 * n
/-- INGRESS_LATENCY (R176). -/
abbrev INGRESS_LATENCY (n : Nat) : Nat := 0x033001 + 0x100 * n
/-- EGRESS_LATENCY (R176). -/
abbrev EGRESS_LATENCY (n : Nat) : Nat := 0x033002 + 0x100 * n
/-- MAC_ADDRESS (R176). -/
abbrev MAC_ADDRESS (n : Nat) : Nat := 0x033003 + 0x100 * n
/-- TC_CORRECTED (R176). -/
abbrev TC_CORRECTED (n : Nat) : Nat := 0x033004 + 0x100 * n
/-- FORWARD_DROPPED (R176). -/
abbrev FORWARD_DROPPED (n : Nat) : Nat := 0x033005 + 0x100 * n
/-- TC_ERRORS (R176). -/
abbrev TC_ERRORS (n : Nat) : Nat := 0x033006 + 0x100 * n
/-- IPV6_EVENTS (R176). -/
abbrev IPV6_EVENTS (n : Nat) : Nat := 0x033007 + 0x100 * n
/-- RX_FCS_ERRORS (R176). -/
abbrev RX_FCS_ERRORS (n : Nat) : Nat := 0x033008 + 0x100 * n
/-- RING_ENABLE (R220). -/
abbrev RING_ENABLE : Nat := 0x040000
/-- BYPASS_STATE (R220). -/
abbrev BYPASS_STATE : Nat := 0x040001
/-- AUTO_HEAL (R220). -/
abbrev AUTO_HEAL : Nat := 0x040002
/-- HEAL_REQUEST (R220). -/
abbrev HEAL_REQUEST : Nat := 0x040003
/-- REMEASURE_PERIOD (R220). -/
abbrev REMEASURE_PERIOD : Nat := 0x040004
/-- RING_STATUS (R220). -/
abbrev RING_STATUS (n : Nat) : Nat := 0x041000 + 0x100 * n
/-- NODE_COUNT (R220). -/
abbrev NODE_COUNT (n : Nat) : Nat := 0x041001 + 0x100 * n
/-- SPLIT (R220). -/
abbrev SPLIT (n : Nat) : Nat := 0x041002 + 0x100 * n
/-- SPLIT_ACTIVE (R220). -/
abbrev SPLIT_ACTIVE (n : Nat) : Nat := 0x041003 + 0x100 * n
/-- DELAY_EAST (R220). -/
abbrev DELAY_EAST (n : Nat) : Nat := 0x041004 + 0x100 * n
/-- DELAY_WEST (R220). -/
abbrev DELAY_WEST (n : Nat) : Nat := 0x041005 + 0x100 * n
/-- SCATTER_EAST (R220). -/
abbrev SCATTER_EAST (n : Nat) : Nat := 0x041006 + 0x100 * n
/-- SCATTER_WEST (R220). -/
abbrev SCATTER_WEST (n : Nat) : Nat := 0x041007 + 0x100 * n
/-- GATHER_EAST (R220). -/
abbrev GATHER_EAST (n : Nat) : Nat := 0x041008 + 0x100 * n
/-- GATHER_WEST (R220). -/
abbrev GATHER_WEST (n : Nat) : Nat := 0x041009 + 0x100 * n
/-- FOLDED_WORST (R220). -/
abbrev FOLDED_WORST (n : Nat) : Nat := 0x04100A + 0x100 * n
/-- FOLD_LINK (R220). -/
abbrev FOLD_LINK (n : Nat) : Nat := 0x04100B + 0x100 * n
/-- EPOCH (R220). -/
abbrev EPOCH (n : Nat) : Nat := 0x04100C + 0x100 * n
/-- LAST_GATHER (R220). -/
abbrev LAST_GATHER (n : Nat) : Nat := 0x04100D + 0x100 * n
/-- BLOCK_CRC_ERRORS (R220). -/
abbrev BLOCK_CRC_ERRORS (n : Nat) : Nat := 0x041010 + 0x100 * n
/-- MISSING_BLOCKS (R220). -/
abbrev MISSING_BLOCKS (n : Nat) : Nat := 0x041011 + 0x100 * n
/-- LATE_BLOCKS (R220). -/
abbrev LATE_BLOCKS (n : Nat) : Nat := 0x041012 + 0x100 * n
/-- FOLDS (R220). -/
abbrev FOLDS (n : Nat) : Nat := 0x041013 + 0x100 * n
/-- HEALS (R220). -/
abbrev HEALS (n : Nat) : Nat := 0x041014 + 0x100 * n
/-- HALTS_SENT (R220). -/
abbrev HALTS_SENT (n : Nat) : Nat := 0x041015 + 0x100 * n
/-- CODE_ERRORS (R220). -/
abbrev CODE_ERRORS (n : Nat) : Nat := 0x041016 + 0x100 * n
/-- NODE_IDENT (R221). -/
abbrev NODE_IDENT (n : Nat) (i : Nat) : Nat := 0x042001 + 0x100 * n + i
/-- HOP_DELAY_EAST (R221). -/
abbrev HOP_DELAY_EAST (n : Nat) (i : Nat) : Nat := 0x042201 + 0x100 * n + i
/-- HOP_DELAY_WEST (R221). -/
abbrev HOP_DELAY_WEST (n : Nat) (i : Nat) : Nat := 0x042401 + 0x100 * n + i
/-- SAFE_SLOTS (R221). -/
abbrev SAFE_SLOTS (n : Nat) (i : Nat) : Nat := 0x042601 + 0x100 * n + i
/-- AXIS_SLOT (R221). -/
abbrev AXIS_SLOT (i : Nat) : Nat := 0x043000 + i
/-- CYCLE_TAG (R253). -/
abbrev CYCLE_TAG (n : Nat) : Nat := 0xA03000 + 0x4000 * n
/-- AXIS_FLAGS (R253). -/
abbrev AXIS_FLAGS (n : Nat) : Nat := 0xA03001 + 0x4000 * n
/-- PASS_KIND (R253). -/
abbrev PASS_KIND (n : Nat) : Nat := 0xA03002 + 0x4000 * n
/-- RES_AXIS_STATE (R253). -/
abbrev RES_AXIS_STATE (n : Nat) : Nat := 0xA03003 + 0x4000 * n
/-- FEEDBACK_READY (R253). -/
abbrev FEEDBACK_READY (n : Nat) : Nat := 0xA03004 + 0x4000 * n
/-- COMMIT_TIME (R253). -/
abbrev COMMIT_TIME (n : Nat) : Nat := 0xA03005 + 0x4000 * n
/-- SAMPLE_COUNT (R253). -/
abbrev SAMPLE_COUNT (n : Nat) : Nat := 0xA03006 + 0x4000 * n
/-- POSITION_FB (R253). -/
abbrev POSITION_FB (n : Nat) : Nat := 0xA03007 + 0x4000 * n
/-- PREDICTION_ERROR (R253). -/
abbrev PREDICTION_ERROR (n : Nat) : Nat := 0xA03008 + 0x4000 * n
/-- DUTY_A (R253). -/
abbrev DUTY_A (n : Nat) : Nat := 0xA03009 + 0x4000 * n
/-- DUTY_B (R253). -/
abbrev DUTY_B (n : Nat) : Nat := 0xA0300A + 0x4000 * n
/-- DUTY_C (R253). -/
abbrev DUTY_C (n : Nat) : Nat := 0xA0300B + 0x4000 * n
/-- WINNER (R253). -/
abbrev WINNER (n : Nat) : Nat := 0xA0300C + 0x4000 * n
/-- SKIMS (R253). -/
abbrev SKIMS (n : Nat) : Nat := 0xA03100 + 0x4000 * n
/-- SKIM_COMMITS (R253). -/
abbrev SKIM_COMMITS (n : Nat) : Nat := 0xA03101 + 0x4000 * n
/-- SQUASHES (R253). -/
abbrev SQUASHES (n : Nat) : Nat := 0xA03102 + 0x4000 * n
/-- LATE_COUNT (R253). -/
abbrev LATE_COUNT (n : Nat) : Nat := 0xA03103 + 0x4000 * n
/-- MISSED_DEADLINES (R253). -/
abbrev MISSED_DEADLINES (n : Nat) : Nat := 0xA03104 + 0x4000 * n
/-- OVERRUNS (R253). -/
abbrev OVERRUNS (n : Nat) : Nat := 0xA03105 + 0x4000 * n
/-- SAMPLE_SKIPS (R253). -/
abbrev SAMPLE_SKIPS (n : Nat) : Nat := 0xA03106 + 0x4000 * n
/-- AXIS_STATE (R256). -/
abbrev AXIS_STATE (n : Nat) : Nat := 0xA00000 + 0x4000 * n
/-- CONFIGURED (R256). -/
abbrev CONFIGURED (n : Nat) : Nat := 0xA00001 + 0x4000 * n
/-- CTX_FOLD (R256). -/
abbrev CTX_FOLD (n : Nat) : Nat := 0xA00002 + 0x4000 * n
/-- CTX_DOMAIN (R256). -/
abbrev CTX_DOMAIN (n : Nat) : Nat := 0xA00003 + 0x4000 * n
/-- SPECULATE (R256). -/
abbrev SPECULATE (n : Nat) : Nat := 0xA00004 + 0x4000 * n
/-- PREDICT (R256). -/
abbrev PREDICT (n : Nat) : Nat := 0xA00005 + 0x4000 * n
/-- SLOW_PHASE (R256). -/
abbrev SLOW_PHASE (n : Nat) : Nat := 0xA00007 + 0x4000 * n
/-- FULL_COST (R256). -/
abbrev FULL_COST (n : Nat) : Nat := 0xA00008 + 0x4000 * n
/-- SKIM_COST (R256). -/
abbrev SKIM_COST (n : Nat) : Nat := 0xA00009 + 0x4000 * n
/-- CTX_LANE (R256). -/
abbrev CTX_LANE (n : Nat) : Nat := 0xA0000A + 0x4000 * n
/-- FAULT_REACTION (R256). -/
abbrev FAULT_REACTION (n : Nat) : Nat := 0xA0000B + 0x4000 * n
/-- FAULT_CAUSE (R256). -/
abbrev FAULT_CAUSE (n : Nat) : Nat := 0xA0000C + 0x4000 * n
/-- AXIS_COMMAND (R256). -/
abbrev AXIS_COMMAND (n : Nat) : Nat := 0xA0000D + 0x4000 * n
/-- SAFE_AUX (R256). -/
abbrev SAFE_AUX (n : Nat) : Nat := 0xA0000E + 0x4000 * n
/-- FB_LATE_LIMIT (R257). -/
abbrev FB_LATE_LIMIT (n : Nat) : Nat := 0xA02800 + 0x4000 * n
/-- FREEZE_MODE (R257). -/
abbrev FREEZE_MODE (n : Nat) : Nat := 0xA02801 + 0x4000 * n
/-- FREEZE_TORQUE (R257). -/
abbrev FREEZE_TORQUE (n : Nat) : Nat := 0xA02802 + 0x4000 * n
/-- FREEZE_TIME (R257). -/
abbrev FREEZE_TIME (n : Nat) : Nat := 0xA02803 + 0x4000 * n
/-- FREEZE_WINDOW (R257). -/
abbrev FREEZE_WINDOW (n : Nat) : Nat := 0xA02804 + 0x4000 * n
/-- FREEZE_SPEED (R257). -/
abbrev FREEZE_SPEED (n : Nat) : Nat := 0xA02805 + 0x4000 * n
/-- MISS_LIMIT (R257). -/
abbrev MISS_LIMIT (n : Nat) : Nat := 0xA02806 + 0x4000 * n
/-- ERR_LIMIT_POSITION (R257). -/
abbrev ERR_LIMIT_POSITION (n : Nat) : Nat := 0xA02900 + 0x4000 * n
/-- ERR_LIMIT_I (R257). -/
abbrev ERR_LIMIT_I (n : Nat) (i : Nat) : Nat := 0xA02901 + 0x4000 * n + i
/-- ERR_LIMIT_V_DC (R257). -/
abbrev ERR_LIMIT_V_DC (n : Nat) : Nat := 0xA02904 + 0x4000 * n
/-- LANES_IN_SERVICE (R258). -/
abbrev LANES_IN_SERVICE (n : Nat) : Nat := 0x078000 + 0x100 * n
/-- LATE_SLOTS (R258). -/
abbrev LATE_SLOTS (n : Nat) : Nat := 0x078001 + 0x100 * n
/-- WORST_LATE_LOAD (R258). -/
abbrev WORST_LATE_LOAD (n : Nat) : Nat := 0x078002 + 0x100 * n
/-- SQUASH_RESERVE (R258). -/
abbrev SQUASH_RESERVE (n : Nat) : Nat := 0x078003 + 0x100 * n
/-- OVERRUN_MARGIN (R258). -/
abbrev OVERRUN_MARGIN (n : Nat) : Nat := 0x078004 + 0x100 * n
/-- SLACK_MIN (R258). -/
abbrev SLACK_MIN (n : Nat) : Nat := 0x078005 + 0x100 * n
/-- SKIM_AFTER (R258). -/
abbrev SKIM_AFTER (n : Nat) : Nat := 0x078006 + 0x100 * n
/-- SQUASH_OVERFLOWS (R258). -/
abbrev SQUASH_OVERFLOWS (n : Nat) : Nat := 0x078007 + 0x100 * n
/-- STRUCTURE (R289). -/
abbrev STRUCTURE (n : Nat) : Nat := 0xA00100 + 0x4000 * n
/-- SPEED_DIV (R289). -/
abbrev SPEED_DIV (n : Nat) : Nat := 0xA00101 + 0x4000 * n
/-- POSITION_DIV (R289). -/
abbrev POSITION_DIV (n : Nat) : Nat := 0xA00102 + 0x4000 * n
/-- SETPOINT_SOURCE (R289). -/
abbrev SETPOINT_SOURCE (n : Nat) : Nat := 0xA00103 + 0x4000 * n
/-- SETPOINT_PORT (R289). -/
abbrev SETPOINT_PORT (n : Nat) : Nat := 0xA00104 + 0x4000 * n
/-- FREEZE_ON_MOD (R289). -/
abbrev FREEZE_ON_MOD (n : Nat) : Nat := 0xA00105 + 0x4000 * n
/-- DECOUPLE (R289). -/
abbrev DECOUPLE (n : Nat) : Nat := 0xA00106 + 0x4000 * n
/-- COUNTS_PER_REV (R289). -/
abbrev COUNTS_PER_REV (n : Nat) : Nat := 0xA00200 + 0x4000 * n
/-- POLE_PAIRS (R289). -/
abbrev POLE_PAIRS (n : Nat) : Nat := 0xA00201 + 0x4000 * n
/-- ENC_OFFSET (R289). -/
abbrev ENC_OFFSET (n : Nat) : Nat := 0xA00202 + 0x4000 * n
/-- SPEED_SCALE (R289). -/
abbrev SPEED_SCALE (n : Nat) : Nat := 0xA00203 + 0x4000 * n
/-- ANGLE_ADVANCE (R289). -/
abbrev ANGLE_ADVANCE (n : Nat) : Nat := 0xA00204 + 0x4000 * n
/-- KP_I (R290). -/
abbrev KP_I (n : Nat) : Nat := 0xA00300 + 0x4000 * n
/-- KI_I (R290). -/
abbrev KI_I (n : Nat) : Nat := 0xA00301 + 0x4000 * n
/-- ID_DEMAND (R290). -/
abbrev ID_DEMAND (n : Nat) : Nat := 0xA00302 + 0x4000 * n
/-- IQ_MAX (R290). -/
abbrev IQ_MAX (n : Nat) : Nat := 0xA00303 + 0x4000 * n
/-- L_D (R290). -/
abbrev L_D (n : Nat) : Nat := 0xA00400 + 0x4000 * n
/-- L_Q (R290). -/
abbrev L_Q (n : Nat) : Nat := 0xA00401 + 0x4000 * n
/-- PSI_F (R290). -/
abbrev PSI_F (n : Nat) : Nat := 0xA00402 + 0x4000 * n
/-- MD_MAX (R290). -/
abbrev MD_MAX (n : Nat) : Nat := 0xA00403 + 0x4000 * n
/-- M_MAX (R290). -/
abbrev M_MAX (n : Nat) : Nat := 0xA00404 + 0x4000 * n
/-- VDC_MIN (R290). -/
abbrev VDC_MIN (n : Nat) : Nat := 0xA00405 + 0x4000 * n
/-- MQ_MAX (R290). -/
abbrev MQ_MAX (n : Nat) : Nat := 0xA00406 + 0x4000 * n
/-- KP_N (R290). -/
abbrev KP_N (n : Nat) : Nat := 0xA00500 + 0x4000 * n
/-- KI_N (R290). -/
abbrev KI_N (n : Nat) : Nat := 0xA00501 + 0x4000 * n
/-- SPEED_FILTER (R290). -/
abbrev SPEED_FILTER (n : Nat) : Nat := 0xA00502 + 0x4000 * n
/-- SPEED_INT_PRELOAD (R290). -/
abbrev SPEED_INT_PRELOAD (n : Nat) : Nat := 0xA00503 + 0x4000 * n
/-- KA (R290). -/
abbrev KA (n : Nat) : Nat := 0xA00504 + 0x4000 * n
/-- SPEED_DEMAND_MAX (R290). -/
abbrev SPEED_DEMAND_MAX (n : Nat) : Nat := 0xA00505 + 0x4000 * n
/-- KP_P (R290). -/
abbrev KP_P (n : Nat) : Nat := 0xA00600 + 0x4000 * n
/-- KV_FF (R290). -/
abbrev KV_FF (n : Nat) : Nat := 0xA00601 + 0x4000 * n
/-- AN_GAIN (R290). -/
abbrev AN_GAIN (n : Nat) : Nat := 0xA00700 + 0x4000 * n
/-- AN_OFFSET (R290). -/
abbrev AN_OFFSET (n : Nat) : Nat := 0xA00701 + 0x4000 * n
/-- AN_DEADBAND (R290). -/
abbrev AN_DEADBAND (n : Nat) : Nat := 0xA00702 + 0x4000 * n
/-- PULSE_SCALE (R290). -/
abbrev PULSE_SCALE (n : Nat) : Nat := 0xA00703 + 0x4000 * n
/-- AUX_COMMAND (R290). -/
abbrev AUX_COMMAND (n : Nat) : Nat := 0xA00E00 + 0x4000 * n
/-- CARRIER_OFFSET (R290). -/
abbrev CARRIER_OFFSET (n : Nat) : Nat := 0xA00E01 + 0x4000 * n
/-- CUSTOM_PARAM (R290). -/
abbrev CUSTOM_PARAM (n : Nat) (i : Nat) : Nat := 0xA00F00 + 0x4000 * n + i
/-- LIM_GROUP (R291). -/
abbrev LIM_GROUP (n : Nat) (l : Nat) : Nat := 0xa00700 + 0x4000 * n + 256 * l
/-- LIM_VARIABLE (R291). -/
abbrev LIM_VARIABLE (n : Nat) (l : Nat) : Nat := 0xa00701 + 0x4000 * n + 256 * l
/-- LIM_POLARITY (R291). -/
abbrev LIM_POLARITY (n : Nat) (l : Nat) : Nat := 0xa00702 + 0x4000 * n + 256 * l
/-- LIM_LIMIT (R291). -/
abbrev LIM_LIMIT (n : Nat) (l : Nat) : Nat := 0xa00703 + 0x4000 * n + 256 * l
/-- LIM_KP (R291). -/
abbrev LIM_KP (n : Nat) (l : Nat) : Nat := 0xa00704 + 0x4000 * n + 256 * l
/-- LIM_KI (R291). -/
abbrev LIM_KI (n : Nat) (l : Nat) : Nat := 0xa00705 + 0x4000 * n + 256 * l
/-- LIM_INT_INIT (R291). -/
abbrev LIM_INT_INIT (n : Nat) (l : Nat) : Nat := 0xa00706 + 0x4000 * n + 256 * l
/-- RC_MODE (R292). -/
abbrev RC_MODE (n : Nat) : Nat := 0xA02000 + 0x4000 * n
/-- RC_LENGTH (R292). -/
abbrev RC_LENGTH (n : Nat) : Nat := 0xA02001 + 0x4000 * n
/-- RC_PERIOD (R292). -/
abbrev RC_PERIOD (n : Nat) : Nat := 0xA02002 + 0x4000 * n
/-- RC_ORIGIN (R292). -/
abbrev RC_ORIGIN (n : Nat) : Nat := 0xA02003 + 0x4000 * n
/-- RC_LEAD (R292). -/
abbrev RC_LEAD (n : Nat) : Nat := 0xA02004 + 0x4000 * n
/-- RC_MIN_SPEED (R292). -/
abbrev RC_MIN_SPEED (n : Nat) : Nat := 0xA02005 + 0x4000 * n
/-- RC_GAIN (R292). -/
abbrev RC_GAIN (n : Nat) : Nat := 0xA02100 + 0x4000 * n
/-- RC_Q0 (R292). -/
abbrev RC_Q0 (n : Nat) : Nat := 0xA02101 + 0x4000 * n
/-- RC_Q1 (R292). -/
abbrev RC_Q1 (n : Nat) : Nat := 0xA02102 + 0x4000 * n
/-- RC_Q2 (R292). -/
abbrev RC_Q2 (n : Nat) : Nat := 0xA02103 + 0x4000 * n
/-- RC_OUT_MAX (R292). -/
abbrev RC_OUT_MAX (n : Nat) : Nat := 0xA02104 + 0x4000 * n
/-- RC_FREEZE (R292). -/
abbrev RC_FREEZE (n : Nat) : Nat := 0xA02105 + 0x4000 * n
/-- RC_CLEAR (R292). -/
abbrev RC_CLEAR (n : Nat) : Nat := 0xA02200 + 0x4000 * n
/-- RC_INDEX (R292). -/
abbrev RC_INDEX (n : Nat) : Nat := 0xA02201 + 0x4000 * n
/-- RC_LEARNING (R292). -/
abbrev RC_LEARNING (n : Nat) : Nat := 0xA02202 + 0x4000 * n
/-- RC_VISITS (R292). -/
abbrev RC_VISITS (n : Nat) : Nat := 0xA02203 + 0x4000 * n
/-- RC_PHASE (R292). -/
abbrev RC_PHASE (n : Nat) : Nat := 0xA02204 + 0x4000 * n
/-- RC_TABLE (R292). -/
abbrev RC_TABLE (n : Nat) : Nat := 0xA02300 + 0x4000 * n
/-- I_D (R293). -/
abbrev I_D (n : Nat) : Nat := 0xA03200 + 0x4000 * n
/-- I_Q (R293). -/
abbrev I_Q (n : Nat) : Nat := 0xA03201 + 0x4000 * n
/-- IQ_DEMAND (R293). -/
abbrev IQ_DEMAND (n : Nat) : Nat := 0xA03202 + 0x4000 * n
/-- M_D (R293). -/
abbrev M_D (n : Nat) : Nat := 0xA03203 + 0x4000 * n
/-- M_Q (R293). -/
abbrev M_Q (n : Nat) : Nat := 0xA03204 + 0x4000 * n
/-- MOD_LIMITED (R293). -/
abbrev MOD_LIMITED (n : Nat) : Nat := 0xA03205 + 0x4000 * n
/-- SPEED (R293). -/
abbrev SPEED (n : Nat) : Nat := 0xA03300 + 0x4000 * n
/-- SPEED_DEMAND (R293). -/
abbrev SPEED_DEMAND (n : Nat) : Nat := 0xA03301 + 0x4000 * n
/-- POSITION_DEMAND (R293). -/
abbrev POSITION_DEMAND (n : Nat) : Nat := 0xA03302 + 0x4000 * n
/-- POSITION_ERROR (R293). -/
abbrev POSITION_ERROR (n : Nat) : Nat := 0xA03303 + 0x4000 * n
/-- ANGLE_E (R293). -/
abbrev ANGLE_E (n : Nat) : Nat := 0xA03304 + 0x4000 * n
/-- MIN_CANDIDATE (R293). -/
abbrev MIN_CANDIDATE (n : Nat) (i : Nat) : Nat := 0xA03400 + 0x4000 * n + i
/-- MAX_CANDIDATE (R293). -/
abbrev MAX_CANDIDATE (n : Nat) (i : Nat) : Nat := 0xA03404 + 0x4000 * n + i
/-- X_D (R293). -/
abbrev X_D (n : Nat) : Nat := 0xA03500 + 0x4000 * n
/-- X_Q (R293). -/
abbrev X_Q (n : Nat) : Nat := 0xA03501 + 0x4000 * n
/-- X_SPEED (R293). -/
abbrev X_SPEED (n : Nat) : Nat := 0xA03502 + 0x4000 * n
/-- INTEGRATING (R293). -/
abbrev INTEGRATING (n : Nat) : Nat := 0xA03600 + 0x4000 * n
/-- CLAMPED (R293). -/
abbrev CLAMPED (n : Nat) : Nat := 0xA03601 + 0x4000 * n
/-- RC_OUTPUT (R293). -/
abbrev RC_OUTPUT (n : Nat) : Nat := 0xA03602 + 0x4000 * n
/-- X_LIMIT (R293). -/
abbrev X_LIMIT (n : Nat) (i : Nat) : Nat := 0xA03700 + 0x4000 * n + i
/-- DOMAIN_STATE (R324). -/
abbrev DOMAIN_STATE (n : Nat) : Nat := 0xD00000 + 0x400 * n
/-- DOMAIN_REJECT (R324). -/
abbrev DOMAIN_REJECT (n : Nat) : Nat := 0xD00001 + 0x400 * n
/-- DOMAIN_COMMIT (R324). -/
abbrev DOMAIN_COMMIT (n : Nat) : Nat := 0xD00002 + 0x400 * n
/-- CODE_LENGTH (R324). -/
abbrev CODE_LENGTH (n : Nat) : Nat := 0xD00003 + 0x400 * n
/-- DOMAIN_FLAGS (R324). -/
abbrev DOMAIN_FLAGS (n : Nat) : Nat := 0xD00004 + 0x400 * n
/-- FOLDS_LOADED (R324). -/
abbrev FOLDS_LOADED (n : Nat) : Nat := 0xD00005 + 0x400 * n
/-- DOMAIN_IMAGE (R324). -/
abbrev DOMAIN_IMAGE (n : Nat) : Nat := 0xD00100 + 0x400 * n
/-- PROFILE_COMMAND (R359). -/
abbrev PROFILE_COMMAND (n : Nat) : Nat := 0xA01000 + 0x4000 * n
/-- TARGET (R359). -/
abbrev TARGET (n : Nat) : Nat := 0xA01001 + 0x4000 * n
/-- TARGET_SPEED (R359). -/
abbrev TARGET_SPEED (n : Nat) : Nat := 0xA01002 + 0x4000 * n
/-- PROFILE_STATE (R359). -/
abbrev PROFILE_STATE (n : Nat) : Nat := 0xA01003 + 0x4000 * n
/-- POSITION_USER (R359). -/
abbrev POSITION_USER (n : Nat) : Nat := 0xA01004 + 0x4000 * n
/-- PROF_VELOCITY (R359). -/
abbrev PROF_VELOCITY (n : Nat) : Nat := 0xA01005 + 0x4000 * n
/-- PROFILE_FLAGS (R359). -/
abbrev PROFILE_FLAGS (n : Nat) : Nat := 0xA01006 + 0x4000 * n
/-- VS (R359). -/
abbrev VS (n : Nat) : Nat := 0xA01100 + 0x4000 * n
/-- VE (R359). -/
abbrev VE (n : Nat) : Nat := 0xA01101 + 0x4000 * n
/-- VB (R359). -/
abbrev VB (n : Nat) : Nat := 0xA01102 + 0x4000 * n
/-- VMAX (R359). -/
abbrev VMAX (n : Nat) : Nat := 0xA01103 + 0x4000 * n
/-- ACCELS (R359). -/
abbrev ACCELS (n : Nat) (i : Nat) : Nat := 0xA01200 + 0x4000 * n + i
/-- DWELL (R359). -/
abbrev DWELL (n : Nat) : Nat := 0xA01300 + 0x4000 * n
/-- LIMIT_ENFORCE (R359). -/
abbrev LIMIT_ENFORCE (n : Nat) : Nat := 0xA01301 + 0x4000 * n
/-- SAFE_HOLD_ACTION (R359). -/
abbrev SAFE_HOLD_ACTION (n : Nat) : Nat := 0xA01302 + 0x4000 * n
/-- LAND_WAIT (R359). -/
abbrev LAND_WAIT (n : Nat) : Nat := 0xA01303 + 0x4000 * n
/-- HOME_ORIGIN (R359). -/
abbrev HOME_ORIGIN (n : Nat) : Nat := 0xA01400 + 0x4000 * n
/-- HOMED (R359). -/
abbrev HOMED (n : Nat) : Nat := 0xA01401 + 0x4000 * n
/-- MASTER_KIND (R361). -/
abbrev MASTER_KIND (n : Nat) : Nat := 0xA01800 + 0x4000 * n
/-- MASTER_INDEX (R361). -/
abbrev MASTER_INDEX (n : Nat) : Nat := 0xA01801 + 0x4000 * n
/-- MASTER_COMP (R361). -/
abbrev MASTER_COMP (n : Nat) : Nat := 0xA01802 + 0x4000 * n
/-- GEAR_NUM (R361). -/
abbrev GEAR_NUM (n : Nat) : Nat := 0xA01900 + 0x4000 * n
/-- GEAR_DEN (R361). -/
abbrev GEAR_DEN (n : Nat) : Nat := 0xA01901 + 0x4000 * n
/-- BLEND_LENGTH (R361). -/
abbrev BLEND_LENGTH (n : Nat) : Nat := 0xA01902 + 0x4000 * n
/-- STAGED_NUM (R361). -/
abbrev STAGED_NUM (n : Nat) : Nat := 0xA01A00 + 0x4000 * n
/-- STAGED_DEN (R361). -/
abbrev STAGED_DEN (n : Nat) : Nat := 0xA01A01 + 0x4000 * n
/-- STAGE_POSITION (R361). -/
abbrev STAGE_POSITION (n : Nat) : Nat := 0xA01A02 + 0x4000 * n
/-- STAGE_ARM (R361). -/
abbrev STAGE_ARM (n : Nat) : Nat := 0xA01A03 + 0x4000 * n
/-- MASTER_POSITION (R361). -/
abbrev MASTER_POSITION (n : Nat) : Nat := 0xA01B00 + 0x4000 * n
/-- BLEND_REMAINING (R361). -/
abbrev BLEND_REMAINING (n : Nat) : Nat := 0xA01B01 + 0x4000 * n
/-- HOME_METHOD (R362). -/
abbrev HOME_METHOD (n : Nat) : Nat := 0xA01C00 + 0x4000 * n
/-- HOME_SPEED_FAST (R362). -/
abbrev HOME_SPEED_FAST (n : Nat) : Nat := 0xA01C01 + 0x4000 * n
/-- HOME_SPEED_SLOW (R362). -/
abbrev HOME_SPEED_SLOW (n : Nat) : Nat := 0xA01C02 + 0x4000 * n
/-- HOME_POSITION (R362). -/
abbrev HOME_POSITION (n : Nat) : Nat := 0xA01C03 + 0x4000 * n
/-- HOME_MAX_TRAVEL (R362). -/
abbrev HOME_MAX_TRAVEL (n : Nat) : Nat := 0xA01C04 + 0x4000 * n
/-- INDEX_WINDOW (R362). -/
abbrev INDEX_WINDOW (n : Nat) : Nat := 0xA01C05 + 0x4000 * n
/-- LIMIT_NEG_SRC (R362). -/
abbrev LIMIT_NEG_SRC (n : Nat) : Nat := 0xA01D00 + 0x4000 * n
/-- LIMIT_POS_SRC (R362). -/
abbrev LIMIT_POS_SRC (n : Nat) : Nat := 0xA01D01 + 0x4000 * n
/-- HOME_SRC (R362). -/
abbrev HOME_SRC (n : Nat) : Nat := 0xA01D02 + 0x4000 * n
/-- SWITCH_POLARITY (R362). -/
abbrev SWITCH_POLARITY (n : Nat) : Nat := 0xA01D03 + 0x4000 * n
/-- QUAL_TIME (R362). -/
abbrev QUAL_TIME (n : Nat) : Nat := 0xA01D04 + 0x4000 * n
/-- LOCKOUT (R362). -/
abbrev LOCKOUT (n : Nat) : Nat := 0xA01D05 + 0x4000 * n
/-- INDEX_SOURCE (R362). -/
abbrev INDEX_SOURCE (n : Nat) : Nat := 0xA01E00 + 0x4000 * n
/-- HOME_STATE (R362). -/
abbrev HOME_STATE (n : Nat) : Nat := 0xA01F00 + 0x4000 * n
/-- HOME_FAULT (R362). -/
abbrev HOME_FAULT (n : Nat) : Nat := 0xA01F01 + 0x4000 * n
/-- HOME_REFERENCE (R362). -/
abbrev HOME_REFERENCE (n : Nat) : Nat := 0xA01F02 + 0x4000 * n
/-- PI_MODE (R363). -/
abbrev PI_MODE (n : Nat) : Nat := 0x2C0000 + 0x100 * n
/-- PI_FILTER (R363). -/
abbrev PI_FILTER (n : Nat) : Nat := 0x2C0001 + 0x100 * n
/-- PI_INVERT (R363). -/
abbrev PI_INVERT (n : Nat) : Nat := 0x2C0002 + 0x100 * n
/-- PI_COUNT (R363). -/
abbrev PI_COUNT (n : Nat) : Nat := 0x2C0003 + 0x100 * n
/-- PI_Z_TIME (R363). -/
abbrev PI_Z_TIME (n : Nat) : Nat := 0x2C0004 + 0x100 * n
/-- PI_ERRORS (R363). -/
abbrev PI_ERRORS (n : Nat) : Nat := 0x2C0005 + 0x100 * n
/-- PO_MODE (R363). -/
abbrev PO_MODE (n : Nat) : Nat := 0x2C1000 + 0x100 * n
/-- PO_AXIS (R363). -/
abbrev PO_AXIS (n : Nat) : Nat := 0x2C1001 + 0x100 * n
/-- PO_INVERT (R363). -/
abbrev PO_INVERT (n : Nat) : Nat := 0x2C1002 + 0x100 * n
/-- PO_BACKLOG (R363). -/
abbrev PO_BACKLOG (n : Nat) : Nat := 0x2C1003 + 0x100 * n
/-- PO_OVERRUNS (R363). -/
abbrev PO_OVERRUNS (n : Nat) : Nat := 0x2C1004 + 0x100 * n
/-- GF_ROTOR_FREQ (R392). -/
abbrev GF_ROTOR_FREQ : Nat := 0xC03200
/-- GF_ROTOR_ANGLE (R392). -/
abbrev GF_ROTOR_ANGLE : Nat := 0xC03201
/-- GF_P (R392). -/
abbrev GF_P : Nat := 0xC03202
/-- GF_Q (R392). -/
abbrev GF_Q : Nat := 0xC03203
/-- GF_E_DROOP (R392). -/
abbrev GF_E_DROOP : Nat := 0xC03204
/-- GF_E (R392). -/
abbrev GF_E : Nat := 0xC03205
/-- GF_WINNER (R392). -/
abbrev GF_WINNER : Nat := 0xC03206
/-- GF_FLAGS (R392). -/
abbrev GF_FLAGS : Nat := 0xC03207
/-- GF_AMP (R392). -/
abbrev GF_AMP (i : Nat) : Nat := 0xC03300 + i
/-- GF_VDC (R392). -/
abbrev GF_VDC : Nat := 0xC03304
/-- GF_IDC (R392). -/
abbrev GF_IDC : Nat := 0xC03305
/-- GF_V_NE (R392). -/
abbrev GF_V_NE : Nat := 0xC03306
/-- GF_U_FREQ (R392). -/
abbrev GF_U_FREQ : Nat := 0xC03400
/-- GF_U_AMP (R392). -/
abbrev GF_U_AMP : Nat := 0xC03401
/-- GF_DELTA_V (R392). -/
abbrev GF_DELTA_V : Nat := 0xC03402
/-- GF_DELTA_F (R392). -/
abbrev GF_DELTA_F : Nat := 0xC03403
/-- GF_DELTA_PHI (R392). -/
abbrev GF_DELTA_PHI : Nat := 0xC03404
/-- GF_UTIL_OK_TIME (R392). -/
abbrev GF_UTIL_OK_TIME : Nat := 0xC03405
/-- GF_V_AMP (R392). -/
abbrev GF_V_AMP (i : Nat) : Nat := 0xC03500 + i
/-- GF_ENABLE (R394). -/
abbrev GF_ENABLE : Nat := 0x500000
/-- GF_F_NOM (R394). -/
abbrev GF_F_NOM : Nat := 0x500001
/-- GF_V_NOM (R394). -/
abbrev GF_V_NOM : Nat := 0x500002
/-- GF_S_RATED (R394). -/
abbrev GF_S_RATED : Nat := 0x500003
/-- GF_PWM_PERIOD (R394). -/
abbrev GF_PWM_PERIOD : Nat := 0x500004
/-- GF_BRIDGES (R394). -/
abbrev GF_BRIDGES : Nat := 0x500005
/-- GF_LEG_STAGGER (R394). -/
abbrev GF_LEG_STAGGER : Nat := 0x500006
/-- GF_SENSE_USE (R394). -/
abbrev GF_SENSE_USE : Nat := 0x500007
/-- GF_DUTY_MIN (R394). -/
abbrev GF_DUTY_MIN : Nat := 0x500008
/-- GF_DUTY_MAX (R394). -/
abbrev GF_DUTY_MAX : Nat := 0x500009
/-- GF_MISS_LIMIT (R394). -/
abbrev GF_MISS_LIMIT : Nat := 0x50000A
/-- GF_FS (R394). -/
abbrev GF_FS (i : Nat) : Nat := 0x500100 + i
/-- HB_PORT (R394). -/
abbrev HB_PORT (i : Nat) : Nat := 0x500200 + i
/-- GF_H (R395). -/
abbrev GF_H : Nat := 0x501000
/-- GF_D (R395). -/
abbrev GF_D : Nat := 0x501001
/-- GF_T_D (R395). -/
abbrev GF_T_D : Nat := 0x501002
/-- GF_M_P (R395). -/
abbrev GF_M_P : Nat := 0x501003
/-- GF_P_SET (R395). -/
abbrev GF_P_SET : Nat := 0x501004
/-- GF_F_SET (R395). -/
abbrev GF_F_SET : Nat := 0x501005
/-- GF_PQ_FILTER (R395). -/
abbrev GF_PQ_FILTER : Nat := 0x501006
/-- GF_N_Q (R395). -/
abbrev GF_N_Q : Nat := 0x501007
/-- GF_Q_SET (R395). -/
abbrev GF_Q_SET : Nat := 0x501008
/-- GF_V_SET (R395). -/
abbrev GF_V_SET : Nat := 0x501009
/-- GF_E_MIN (R395). -/
abbrev GF_E_MIN : Nat := 0x50100A
/-- GF_E_MAX (R395). -/
abbrev GF_E_MAX : Nat := 0x50100B
/-- GF_R_V (R395). -/
abbrev GF_R_V : Nat := 0x501100
/-- GF_X_V (R395). -/
abbrev GF_X_V : Nat := 0x501101
/-- GF_VI_FILTER (R395). -/
abbrev GF_VI_FILTER : Nat := 0x501102
/-- GF_K_PV (R395). -/
abbrev GF_K_PV : Nat := 0x501103
/-- GF_K_RV (R395). -/
abbrev GF_K_RV : Nat := 0x501104
/-- GF_K_PI (R395). -/
abbrev GF_K_PI : Nat := 0x501105
/-- GF_I_PEAK (R395). -/
abbrev GF_I_PEAK : Nat := 0x501106
/-- GF_I_LIM (R395). -/
abbrev GF_I_LIM : Nat := 0x501200
/-- GF_I_N_LIM (R395). -/
abbrev GF_I_N_LIM : Nat := 0x501201
/-- GF_VDC_LIM (R395). -/
abbrev GF_VDC_LIM : Nat := 0x501202
/-- GF_KP_IL (R395). -/
abbrev GF_KP_IL : Nat := 0x501203
/-- GF_KI_IL (R395). -/
abbrev GF_KI_IL : Nat := 0x501204
/-- GF_KP_DC (R395). -/
abbrev GF_KP_DC : Nat := 0x501205
/-- GF_KI_DC (R395). -/
abbrev GF_KI_DC : Nat := 0x501206
/-- GF_SOGI_GAIN (R395). -/
abbrev GF_SOGI_GAIN : Nat := 0x501207
/-- GF_RT_RELEASE (R395). -/
abbrev GF_RT_RELEASE : Nat := 0x501208
/-- GF_LIMIT_MAX (R395). -/
abbrev GF_LIMIT_MAX : Nat := 0x501209
/-- GF_RC_ENABLE (R395). -/
abbrev GF_RC_ENABLE : Nat := 0x501300
/-- GF_RC_LENGTH (R395). -/
abbrev GF_RC_LENGTH : Nat := 0x501301
/-- GF_RC_GAIN (R395). -/
abbrev GF_RC_GAIN : Nat := 0x501302
/-- GF_RC_Q (R395). -/
abbrev GF_RC_Q (i : Nat) : Nat := 0x501303 + i
/-- GF_RC_LEAD (R395). -/
abbrev GF_RC_LEAD : Nat := 0x501306
/-- GF_RC_OUT_MAX (R395). -/
abbrev GF_RC_OUT_MAX : Nat := 0x501307
/-- GF_RC_CLEAR (R395). -/
abbrev GF_RC_CLEAR : Nat := 0x501308
/-- GF_RC_TABLE (R395). -/
abbrev GF_RC_TABLE (i : Nat) : Nat := 0x501400 + i
/-- GF_COMMAND (R396). -/
abbrev GF_COMMAND : Nat := 0x501800
/-- GF_STATE (R396). -/
abbrev GF_STATE : Nat := 0x501801
/-- GF_TIE (R396). -/
abbrev GF_TIE : Nat := 0x501802
/-- GF_BS_RAMP_TIME (R396). -/
abbrev GF_BS_RAMP_TIME : Nat := 0x501803
/-- GF_BS_SETTLE (R396). -/
abbrev GF_BS_SETTLE : Nat := 0x501804
/-- GF_BS_STALL_MAX (R396). -/
abbrev GF_BS_STALL_MAX : Nat := 0x501805
/-- GF_VDC_START_MIN (R396). -/
abbrev GF_VDC_START_MIN : Nat := 0x501806
/-- GF_VDC_TRIP_LOW (R396). -/
abbrev GF_VDC_TRIP_LOW : Nat := 0x501807
/-- GF_VDC_TRIP_HIGH (R396). -/
abbrev GF_VDC_TRIP_HIGH : Nat := 0x501808
/-- GF_TRIP_CAUSE (R396). -/
abbrev GF_TRIP_CAUSE : Nat := 0x501809
/-- GF_ISUM_LIMIT (R396). -/
abbrev GF_ISUM_LIMIT : Nat := 0x50180A
/-- GF_RT_V (R396). -/
abbrev GF_RT_V (i : Nat) : Nat := 0x501900 + 2 * i
/-- GF_RT_T (R396). -/
abbrev GF_RT_T (i : Nat) : Nat := 0x501901 + 2 * i
/-- GF_SC_DV (R396). -/
abbrev GF_SC_DV : Nat := 0x501A00
/-- GF_SC_DF (R396). -/
abbrev GF_SC_DF : Nat := 0x501A01
/-- GF_SC_DPHI (R396). -/
abbrev GF_SC_DPHI : Nat := 0x501A02
/-- GF_SC_TIME (R396). -/
abbrev GF_SC_TIME : Nat := 0x501A03
/-- GF_SC_SLIP (R396). -/
abbrev GF_SC_SLIP : Nat := 0x501A04
/-- GF_SC_CLOSE_TIME (R396). -/
abbrev GF_SC_CLOSE_TIME : Nat := 0x501A05
/-- GF_SC_UTIL_TIME (R396). -/
abbrev GF_SC_UTIL_TIME : Nat := 0x501A06
/-- GF_U_V_MIN (R396). -/
abbrev GF_U_V_MIN : Nat := 0x501A07
/-- GF_U_V_MAX (R396). -/
abbrev GF_U_V_MAX : Nat := 0x501A08
/-- GF_U_F_MIN (R396). -/
abbrev GF_U_F_MIN : Nat := 0x501A09
/-- GF_U_F_MAX (R396). -/
abbrev GF_U_F_MAX : Nat := 0x501A0A
/-- LEG_STATE (R427). -/
abbrev LEG_STATE (n : Nat) : Nat := 0x200000 + 0x100 * n
/-- LEG_COMMAND (R427). -/
abbrev LEG_COMMAND (n : Nat) : Nat := 0x200001 + 0x100 * n
/-- LINK_ENABLE (R427). -/
abbrev LINK_ENABLE (n : Nat) : Nat := 0x200002 + 0x100 * n
/-- DT_MIN (R427). -/
abbrev DT_MIN (n : Nat) : Nat := 0x200003 + 0x100 * n
/-- HS_MIN_ON (R427). -/
abbrev HS_MIN_ON (n : Nat) : Nat := 0x200004 + 0x100 * n
/-- LS_MIN_ON (R427). -/
abbrev LS_MIN_ON (n : Nat) : Nat := 0x200005 + 0x100 * n
/-- REFRESH_N (R427). -/
abbrev REFRESH_N (n : Nat) : Nat := 0x200006 + 0x100 * n
/-- REFRESH_TIME (R427). -/
abbrev REFRESH_TIME (n : Nat) : Nat := 0x200007 + 0x100 * n
/-- T_GW_MAX (R427). -/
abbrev T_GW_MAX (n : Nat) : Nat := 0x200008 + 0x100 * n
/-- QUEUE_DRY (R427). -/
abbrev QUEUE_DRY (n : Nat) : Nat := 0x200009 + 0x100 * n
/-- DUTY_FLOOR (R427). -/
abbrev DUTY_FLOOR (n : Nat) : Nat := 0x20000A + 0x100 * n
/-- DUTY_CEILING (R427). -/
abbrev DUTY_CEILING (n : Nat) : Nat := 0x20000B + 0x100 * n
/-- LEG_DELAY (R427). -/
abbrev LEG_DELAY (n : Nat) : Nat := 0x20000C + 0x100 * n
/-- LEG_FAULT_CAUSE (R427). -/
abbrev LEG_FAULT_CAUSE (n : Nat) : Nat := 0x20000D + 0x100 * n
/-- TELEMETRY (R427). -/
abbrev TELEMETRY (n : Nat) : Nat := 0x20000E + 0x100 * n
/-- LEG_SELFTEST_RESULT (R427). -/
abbrev LEG_SELFTEST_RESULT (n : Nat) : Nat := 0x20000F + 0x100 * n
/-- SELFTEST_IN_RUN (R427). -/
abbrev SELFTEST_IN_RUN (n : Nat) : Nat := 0x200010 + 0x100 * n
/-- RX_ERRORS (R427). -/
abbrev RX_ERRORS (n : Nat) : Nat := 0x200011 + 0x100 * n
/-- CONFLICTS (R427). -/
abbrev CONFLICTS (n : Nat) : Nat := 0x200012 + 0x100 * n
/-- DRIVER_REPORTS (R427). -/
abbrev DRIVER_REPORTS (n : Nat) : Nat := 0x200013 + 0x100 * n
/-- TRIPS (R427). -/
abbrev TRIPS (n : Nat) : Nat := 0x200014 + 0x100 * n
/-- DUTY_CLAMPS (R427). -/
abbrev DUTY_CLAMPS (n : Nat) : Nat := 0x200015 + 0x100 * n
/-- SENSE_ENABLE (R429). -/
abbrev SENSE_ENABLE (n : Nat) : Nat := 0x280000 + 0x100 * n
/-- MAIN_OSR (R429). -/
abbrev MAIN_OSR (n : Nat) : Nat := 0x280001 + 0x100 * n
/-- SENSE_OFFSET (R429). -/
abbrev SENSE_OFFSET (n : Nat) : Nat := 0x280002 + 0x100 * n
/-- SENSE_GAIN (R429). -/
abbrev SENSE_GAIN (n : Nat) : Nat := 0x280003 + 0x100 * n
/-- FAST_ENABLE (R429). -/
abbrev FAST_ENABLE (n : Nat) : Nat := 0x280004 + 0x100 * n
/-- FAST_OSR (R429). -/
abbrev FAST_OSR (n : Nat) : Nat := 0x280005 + 0x100 * n
/-- FAST_HIGH (R429). -/
abbrev FAST_HIGH (n : Nat) : Nat := 0x280006 + 0x100 * n
/-- FAST_LOW (R429). -/
abbrev FAST_LOW (n : Nat) : Nat := 0x280007 + 0x100 * n
/-- FAST_MAP (R429). -/
abbrev FAST_MAP (n : Nat) : Nat := 0x280008 + 0x100 * n
/-- FAST_RESPONSE (R429). -/
abbrev FAST_RESPONSE (n : Nat) : Nat := 0x280009 + 0x100 * n
/-- SENSE_VALUE (R429). -/
abbrev SENSE_VALUE (n : Nat) : Nat := 0x28000A + 0x100 * n
/-- SENSE_STATUS (R429). -/
abbrev SENSE_STATUS (n : Nat) : Nat := 0x28000B + 0x100 * n
/-- FAST_TRIPS (R429). -/
abbrev FAST_TRIPS (n : Nat) : Nat := 0x28000C + 0x100 * n
/-- ISLAND_STATUS (R462). -/
abbrev ISLAND_STATUS : Nat := 0x300000
/-- SAFETY_CRC (R462). -/
abbrev SAFETY_CRC : Nat := 0x300001
/-- SAFETY_TICK_COUNT (R462). -/
abbrev SAFETY_TICK_COUNT : Nat := 0x300002
/-- SELFTEST_COMMAND (R462). -/
abbrev SELFTEST_COMMAND : Nat := 0x300003
/-- ISLAND_SELFTEST_RESULT (R462). -/
abbrev ISLAND_SELFTEST_RESULT : Nat := 0x300004
/-- LAST_SELFTEST (R462). -/
abbrev LAST_SELFTEST : Nat := 0x300005
/-- SELFTEST_MAX_INTERVAL (R462). -/
abbrev SELFTEST_MAX_INTERVAL : Nat := 0x300006
/-- CROSS_COMPARE_ERRORS (R462). -/
abbrev CROSS_COMPARE_ERRORS : Nat := 0x300007
/-- RESET_GROUPS (R462). -/
abbrev RESET_GROUPS : Nat := 0x300100
/-- RESET_INPUT_STATE (R462). -/
abbrev RESET_INPUT_STATE : Nat := 0x300101
/-- TP_WIDTH (R462). -/
abbrev TP_WIDTH : Nat := 0x300200
/-- TP_PERIOD (R462). -/
abbrev TP_PERIOD : Nat := 0x300201
/-- SI_FUNCTION (R463). -/
abbrev SI_FUNCTION (n : Nat) : Nat := 0x301000 + 0x100 * n
/-- SI_GROUPS (R463). -/
abbrev SI_GROUPS (n : Nat) : Nat := 0x301001 + 0x100 * n
/-- SI_TYPE (R463). -/
abbrev SI_TYPE (n : Nat) : Nat := 0x301002 + 0x100 * n
/-- DISC_TICKS (R463). -/
abbrev DISC_TICKS (n : Nat) : Nat := 0x301003 + 0x100 * n
/-- SI_TEST_A (R463). -/
abbrev SI_TEST_A (n : Nat) : Nat := 0x301004 + 0x100 * n
/-- SI_TEST_B (R463). -/
abbrev SI_TEST_B (n : Nat) : Nat := 0x301005 + 0x100 * n
/-- SI_RESTART (R463). -/
abbrev SI_RESTART (n : Nat) : Nat := 0x301006 + 0x100 * n
/-- SI_STATE (R463). -/
abbrev SI_STATE (n : Nat) : Nat := 0x301007 + 0x100 * n
/-- SO_MODE (R464). -/
abbrev SO_MODE (n : Nat) : Nat := 0x303000 + 0x100 * n
/-- SO_GROUP (R464). -/
abbrev SO_GROUP (n : Nat) : Nat := 0x303001 + 0x100 * n
/-- SO_CONN (R464). -/
abbrev SO_CONN (n : Nat) : Nat := 0x303002 + 0x100 * n
/-- SO_SETTLE (R464). -/
abbrev SO_SETTLE (n : Nat) : Nat := 0x303003 + 0x100 * n
/-- SO_TEST_PERIOD (R464). -/
abbrev SO_TEST_PERIOD (n : Nat) : Nat := 0x303004 + 0x100 * n
/-- SO_TEST_WIDTH (R464). -/
abbrev SO_TEST_WIDTH (n : Nat) : Nat := 0x303005 + 0x100 * n
/-- SO_STATE (R464). -/
abbrev SO_STATE (n : Nat) : Nat := 0x303006 + 0x100 * n
/-- GROUP_STATE (R465). -/
abbrev GROUP_STATE (n : Nat) : Nat := 0x308000 + 0x100 * n
/-- LOCKOUT_CAUSES (R465). -/
abbrev LOCKOUT_CAUSES (n : Nat) : Nat := 0x308001 + 0x100 * n
/-- LOCKOUT_FIRST (R465). -/
abbrev LOCKOUT_FIRST (n : Nat) : Nat := 0x308002 + 0x100 * n
/-- SS1_TIME_MAX (R465). -/
abbrev SS1_TIME_MAX (n : Nat) : Nat := 0x308003 + 0x100 * n
/-- STANDSTILL_TIME (R465). -/
abbrev STANDSTILL_TIME (n : Nat) : Nat := 0x308004 + 0x100 * n
/-- SLS_ALWAYS (R465). -/
abbrev SLS_ALWAYS (n : Nat) : Nat := 0x308005 + 0x100 * n
/-- SLP_ALWAYS (R465). -/
abbrev SLP_ALWAYS (n : Nat) : Nat := 0x308006 + 0x100 * n
/-- RESET_SOURCES (R465). -/
abbrev RESET_SOURCES (n : Nat) : Nat := 0x308007 + 0x100 * n
/-- RESET_CONN (R465). -/
abbrev RESET_CONN (n : Nat) : Nat := 0x308008 + 0x100 * n
/-- STARTUP_LOCKOUT (R465). -/
abbrev STARTUP_LOCKOUT (n : Nat) : Nat := 0x308009 + 0x100 * n
/-- AXIS_GROUP (R466). -/
abbrev AXIS_GROUP (n : Nat) : Nat := 0x310000 + 0x100 * n
/-- SAFE_POS_CONN (R466). -/
abbrev SAFE_POS_CONN (n : Nat) : Nat := 0x310001 + 0x100 * n
/-- POS_TOL (R466). -/
abbrev POS_TOL (n : Nat) : Nat := 0x310002 + 0x100 * n
/-- SPEED_WINDOW (R466). -/
abbrev SPEED_WINDOW (n : Nat) : Nat := 0x310003 + 0x100 * n
/-- SLS_LIMIT (R466). -/
abbrev SLS_LIMIT (n : Nat) : Nat := 0x310004 + 0x100 * n
/-- SLS_REACTION (R466). -/
abbrev SLS_REACTION (n : Nat) : Nat := 0x310005 + 0x100 * n
/-- SDI_MODE (R466). -/
abbrev SDI_MODE (n : Nat) : Nat := 0x310006 + 0x100 * n
/-- SDI_TOL (R466). -/
abbrev SDI_TOL (n : Nat) : Nat := 0x310007 + 0x100 * n
/-- SLP_LOW (R466). -/
abbrev SLP_LOW (n : Nat) : Nat := 0x310008 + 0x100 * n
/-- SLP_HIGH (R466). -/
abbrev SLP_HIGH (n : Nat) : Nat := 0x310009 + 0x100 * n
/-- SS_DECEL (R466). -/
abbrev SS_DECEL (n : Nat) : Nat := 0x31000A + 0x100 * n
/-- SS_MARGIN (R466). -/
abbrev SS_MARGIN (n : Nat) : Nat := 0x31000B + 0x100 * n
/-- STANDSTILL_SPEED (R466). -/
abbrev STANDSTILL_SPEED (n : Nat) : Nat := 0x31000C + 0x100 * n
/-- STANDSTILL_TOL (R466). -/
abbrev STANDSTILL_TOL (n : Nat) : Nat := 0x31000D + 0x100 * n
/-- SAFE_SPEED (R466). -/
abbrev SAFE_SPEED (n : Nat) : Nat := 0x31000E + 0x100 * n
/-- SAFE_POSITION (R466). -/
abbrev SAFE_POSITION (n : Nat) : Nat := 0x31000F + 0x100 * n
/-- CONN_ENABLE (R489). -/
abbrev CONN_ENABLE (n : Nat) : Nat := 0x340000 + 0x100 * n
/-- CN_DIRECTION (R489). -/
abbrev CN_DIRECTION (n : Nat) : Nat := 0x340001 + 0x100 * n
/-- CN_CARRIER (R489). -/
abbrev CN_CARRIER (n : Nat) : Nat := 0x340002 + 0x100 * n
/-- CN_ROUTE (R489). -/
abbrev CN_ROUTE (n : Nat) : Nat := 0x340003 + 0x100 * n
/-- CN_IDENTITY (R489). -/
abbrev CN_IDENTITY (n : Nat) : Nat := 0x340004 + 0x100 * n
/-- CN_TAG (R489). -/
abbrev CN_TAG (n : Nat) : Nat := 0x340005 + 0x100 * n
/-- CN_KIND (R489). -/
abbrev CN_KIND (n : Nat) : Nat := 0x340006 + 0x100 * n
/-- CN_LENGTH (R489). -/
abbrev CN_LENGTH (n : Nat) : Nat := 0x340007 + 0x100 * n
/-- CN_MAX_AGE (R489). -/
abbrev CN_MAX_AGE (n : Nat) : Nat := 0x340008 + 0x100 * n
/-- CN_TS_TOL (R489). -/
abbrev CN_TS_TOL (n : Nat) : Nat := 0x340009 + 0x100 * n
/-- CN_T_EXP (R489). -/
abbrev CN_T_EXP (n : Nat) : Nat := 0x34000A + 0x100 * n
/-- CN_MAX_SEQ_STEP (R489). -/
abbrev CN_MAX_SEQ_STEP (n : Nat) : Nat := 0x34000B + 0x100 * n
/-- CN_SEND_PERIOD (R489). -/
abbrev CN_SEND_PERIOD (n : Nat) : Nat := 0x34000C + 0x100 * n
/-- CN_REINT_MODE (R489). -/
abbrev CN_REINT_MODE (n : Nat) : Nat := 0x34000D + 0x100 * n
/-- CN_REINT_FRAMES (R489). -/
abbrev CN_REINT_FRAMES (n : Nat) : Nat := 0x34000E + 0x100 * n
/-- CN_ACK_GROUP (R489). -/
abbrev CN_ACK_GROUP (n : Nat) : Nat := 0x34000F + 0x100 * n
/-- CN_MOTION_STEP_MAX (R489). -/
abbrev CN_MOTION_STEP_MAX (n : Nat) : Nat := 0x340010 + 0x100 * n
/-- CN_ROUTE_2 (R489). -/
abbrev CN_ROUTE_2 (n : Nat) : Nat := 0x340011 + 0x100 * n
/-- CONN_STATE (R489). -/
abbrev CONN_STATE (n : Nat) : Nat := 0x340018 + 0x100 * n
/-- CN_FAIL_REASON (R489). -/
abbrev CN_FAIL_REASON (n : Nat) : Nat := 0x340019 + 0x100 * n
/-- CN_LAST_SEQ (R489). -/
abbrev CN_LAST_SEQ (n : Nat) : Nat := 0x34001A + 0x100 * n
/-- CN_LAST_AGE (R489). -/
abbrev CN_LAST_AGE (n : Nat) : Nat := 0x34001B + 0x100 * n
/-- CN_FRAMES_ACCEPTED (R489). -/
abbrev CN_FRAMES_ACCEPTED (n : Nat) : Nat := 0x34001C + 0x100 * n
/-- CN_CRC_ERRORS (R489). -/
abbrev CN_CRC_ERRORS (n : Nat) : Nat := 0x34001D + 0x100 * n
/-- CN_SEQ_ERRORS (R489). -/
abbrev CN_SEQ_ERRORS (n : Nat) : Nat := 0x34001E + 0x100 * n
/-- CN_TIME_ERRORS (R489). -/
abbrev CN_TIME_ERRORS (n : Nat) : Nat := 0x34001F + 0x100 * n
/-- CN_DUPLICATES (R489). -/
abbrev CN_DUPLICATES (n : Nat) : Nat := 0x340020 + 0x100 * n
/-- CN_FAILURES (R489). -/
abbrev CN_FAILURES (n : Nat) : Nat := 0x340021 + 0x100 * n
/-- CN_FRAMES_SENT (R489). -/
abbrev CN_FRAMES_SENT (n : Nat) : Nat := 0x340022 + 0x100 * n
/-- PAIR_MODE (R521). -/
abbrev PAIR_MODE : Nat := 0x050000
/-- ROLE (R521). -/
abbrev ROLE : Nat := 0x050001
/-- PEER_ROLE (R521). -/
abbrev PEER_ROLE : Nat := 0x050002
/-- REDUNDANCY_COMMAND (R521). -/
abbrev REDUNDANCY_COMMAND : Nat := 0x050003
/-- AUTO_REJOIN (R521). -/
abbrev AUTO_REJOIN : Nat := 0x050004
/-- PAIR_ADDRESS (R521). -/
abbrev PAIR_ADDRESS : Nat := 0x050005
/-- STALE_SERVICE (R521). -/
abbrev STALE_SERVICE : Nat := 0x050006
/-- ARB_PINS (R521). -/
abbrev ARB_PINS : Nat := 0x050007
/-- COPY_BUDGET (R521). -/
abbrev COPY_BUDGET : Nat := 0x051000
/-- COPY_BYTES (R521). -/
abbrev COPY_BYTES : Nat := 0x051001
/-- COPY_PEAK (R521). -/
abbrev COPY_PEAK : Nat := 0x051002
/-- LAST_COPY_TAG (R521). -/
abbrev LAST_COPY_TAG : Nat := 0x051003
/-- COPIES_MISSED (R521). -/
abbrev COPIES_MISSED : Nat := 0x051004
/-- JOIN_PROGRESS (R521). -/
abbrev JOIN_PROGRESS : Nat := 0x051005
/-- TAKEOVERS (R521). -/
abbrev TAKEOVERS : Nat := 0x051006
/-- LAST_TAKEOVER (R521). -/
abbrev LAST_TAKEOVER : Nat := 0x051007
/-- TWIN_ERRORS (R521). -/
abbrev TWIN_ERRORS : Nat := 0x051008
/-- STANDBY_POSITION (R522). -/
abbrev STANDBY_POSITION (n : Nat) : Nat := 0x052000 + 0x100 * n
/-- TAKEOVER_SCATTER_EAST (R522). -/
abbrev TAKEOVER_SCATTER_EAST (n : Nat) : Nat := 0x052001 + 0x100 * n
/-- TAKEOVER_SCATTER_WEST (R522). -/
abbrev TAKEOVER_SCATTER_WEST (n : Nat) : Nat := 0x052002 + 0x100 * n
/-- TAKEOVER_GATHER_EAST (R522). -/
abbrev TAKEOVER_GATHER_EAST (n : Nat) : Nat := 0x052003 + 0x100 * n
/-- TAKEOVER_GATHER_WEST (R522). -/
abbrev TAKEOVER_GATHER_WEST (n : Nat) : Nat := 0x052004 + 0x100 * n
/-- STALE_ACTION (R522). -/
abbrev STALE_ACTION (i : Nat) : Nat := 0x053000 + i
/-- STORE_FREE (R548). -/
abbrev STORE_FREE : Nat := 0x400000
/-- QUEUE_PEAK (R548). -/
abbrev QUEUE_PEAK : Nat := 0x400001
/-- STREAM_ADDRESS (R548). -/
abbrev STREAM_ADDRESS : Nat := 0x400002
/-- STREAM_PORT (R548). -/
abbrev STREAM_PORT : Nat := 0x400003
/-- STREAM_ETH_PORT (R548). -/
abbrev STREAM_ETH_PORT : Nat := 0x400004
/-- SYNC_GROUP (R548). -/
abbrev SYNC_GROUP : Nat := 0x400005
/-- SYNC_FIRE (R548). -/
abbrev SYNC_FIRE : Nat := 0x400006
/-- CH_SOURCE (R548). -/
abbrev CH_SOURCE (i : Nat) : Nat := 0x401000 + i
/-- TRG_TYPE (R549). -/
abbrev TRG_TYPE (n : Nat) : Nat := 0x404000 + 0x100 * n
/-- TRG_CHANNEL (R549). -/
abbrev TRG_CHANNEL (n : Nat) : Nat := 0x404001 + 0x100 * n
/-- TRG_RATE (R549). -/
abbrev TRG_RATE (n : Nat) : Nat := 0x404002 + 0x100 * n
/-- TRG_DIV (R549). -/
abbrev TRG_DIV (n : Nat) : Nat := 0x404003 + 0x100 * n
/-- TRG_POLARITY (R549). -/
abbrev TRG_POLARITY (n : Nat) : Nat := 0x404004 + 0x100 * n
/-- LEVEL_A (R549). -/
abbrev LEVEL_A (n : Nat) : Nat := 0x404005 + 0x100 * n
/-- LEVEL_B (R549). -/
abbrev LEVEL_B (n : Nat) : Nat := 0x404006 + 0x100 * n
/-- HYST (R549). -/
abbrev HYST (n : Nat) : Nat := 0x404007 + 0x100 * n
/-- W_MIN (R549). -/
abbrev W_MIN (n : Nat) : Nat := 0x404008 + 0x100 * n
/-- W_MAX (R549). -/
abbrev W_MAX (n : Nat) : Nat := 0x404009 + 0x100 * n
/-- TRG_EVENT (R549). -/
abbrev TRG_EVENT (n : Nat) : Nat := 0x40400A + 0x100 * n
/-- TRG_COUNT (R549). -/
abbrev TRG_COUNT (n : Nat) : Nat := 0x40400B + 0x100 * n
/-- TRG_LAST_TIME (R549). -/
abbrev TRG_LAST_TIME (n : Nat) : Nat := 0x40400C + 0x100 * n
/-- REC_CHANNELS (R550). -/
abbrev REC_CHANNELS (n : Nat) : Nat := 0x408000 + 0x100 * n
/-- REC_SIZE (R550). -/
abbrev REC_SIZE (n : Nat) : Nat := 0x408001 + 0x100 * n
/-- REC_RATE (R550). -/
abbrev REC_RATE (n : Nat) : Nat := 0x408002 + 0x100 * n
/-- REC_DIV (R550). -/
abbrev REC_DIV (n : Nat) : Nat := 0x408003 + 0x100 * n
/-- PRE_COUNT (R550). -/
abbrev PRE_COUNT (n : Nat) : Nat := 0x408004 + 0x100 * n
/-- POST_COUNT (R550). -/
abbrev POST_COUNT (n : Nat) : Nat := 0x408005 + 0x100 * n
/-- RED_SHARE (R550). -/
abbrev RED_SHARE (n : Nat) : Nat := 0x408006 + 0x100 * n
/-- RED_BLOCK (R550). -/
abbrev RED_BLOCK (n : Nat) : Nat := 0x408007 + 0x100 * n
/-- TRG_MASK (R550). -/
abbrev TRG_MASK (n : Nat) : Nat := 0x408008 + 0x100 * n
/-- REC_MODE (R550). -/
abbrev REC_MODE (n : Nat) : Nat := 0x408009 + 0x100 * n
/-- REC_COMMAND (R550). -/
abbrev REC_COMMAND (n : Nat) : Nat := 0x40800A + 0x100 * n
/-- REC_STATE (R550). -/
abbrev REC_STATE (n : Nat) : Nat := 0x40800B + 0x100 * n
/-- REC_FLAGS (R550). -/
abbrev REC_FLAGS (n : Nat) : Nat := 0x40800C + 0x100 * n
/-- REC_CAPACITY (R550). -/
abbrev REC_CAPACITY (n : Nat) : Nat := 0x40800D + 0x100 * n
/-- TRIGGER_TIME (R550). -/
abbrev TRIGGER_TIME (n : Nat) : Nat := 0x40800E + 0x100 * n
/-- TRIGGER_FRAC (R550). -/
abbrev TRIGGER_FRAC (n : Nat) : Nat := 0x40800F + 0x100 * n
/-- TRIGGER_UNITS (R550). -/
abbrev TRIGGER_UNITS (n : Nat) : Nat := 0x408010 + 0x100 * n
/-- PRE_HELD (R550). -/
abbrev PRE_HELD (n : Nat) : Nat := 0x408011 + 0x100 * n
/-- POST_HELD (R550). -/
abbrev POST_HELD (n : Nat) : Nat := 0x408012 + 0x100 * n
/-- REC_DROPPED (R550). -/
abbrev REC_DROPPED (n : Nat) : Nat := 0x408013 + 0x100 * n
/-- REC_RECORD (R550). -/
abbrev REC_RECORD (n : Nat) : Nat := 0x409000 + 0x100 * n
/-- SEAL_COUNT (R552). -/
abbrev SEAL_COUNT : Nat := 0x40A000
/-- SEAL_SPACE (R552). -/
abbrev SEAL_SPACE : Nat := 0x40A001
/-- CHAIN_START (R552). -/
abbrev CHAIN_START : Nat := 0x40A002
/-- ERASE_COUNT (R552). -/
abbrev ERASE_COUNT : Nat := 0x40A003
/-- ERASE_TIME (R552). -/
abbrev ERASE_TIME : Nat := 0x40A004
/-- ERASE_SEALED (R552). -/
abbrev ERASE_SEALED : Nat := 0x40A005
/-- SEAL_VALUE (R552). -/
abbrev SEAL_VALUE (n : Nat) : Nat := 0x40B000 + 0x100 * n
/-- SEAL_TIME (R552). -/
abbrev SEAL_TIME (n : Nat) : Nat := 0x40B001 + 0x100 * n
/-- SEALED_RECORD (R552). -/
abbrev SEALED_RECORD (n : Nat) : Nat := 0x40B002 + 0x100 * n
/-- SCRUB_PERIOD (R576). -/
abbrev SCRUB_PERIOD : Nat := 0x070000
/-- SCRUB_PASSES (R576). -/
abbrev SCRUB_PASSES : Nat := 0x070001
/-- SOFT_REPAIR_ENABLE (R576). -/
abbrev SOFT_REPAIR_ENABLE : Nat := 0x070002
/-- CANDIDATE_WINDOW (R576). -/
abbrev CANDIDATE_WINDOW : Nat := 0x070003
/-- FUSE_COMMAND (R576). -/
abbrev FUSE_COMMAND : Nat := 0x070004
/-- FUSE_STATE (R576). -/
abbrev FUSE_STATE : Nat := 0x070005
/-- FUSE_PENDING (R576). -/
abbrev FUSE_PENDING : Nat := 0x070006
/-- CORRECTED_COUNT (R576). -/
abbrev CORRECTED_COUNT (n : Nat) : Nat := 0x070100 + 0x100 * n
/-- UNCORRECTABLE_COUNT (R576). -/
abbrev UNCORRECTABLE_COUNT (n : Nat) : Nat := 0x070101 + 0x100 * n
/-- CANDIDATES (R576). -/
abbrev CANDIDATES (n : Nat) : Nat := 0x070102 + 0x100 * n
/-- SOFT_REPAIRS (R576). -/
abbrev SOFT_REPAIRS (n : Nat) : Nat := 0x070103 + 0x100 * n
/-- SPARES_EXHAUSTED (R576). -/
abbrev SPARES_EXHAUSTED (n : Nat) : Nat := 0x070104 + 0x100 * n
/-- FUSED_ROWS (R576). -/
abbrev FUSED_ROWS (n : Nat) : Nat := 0x070105 + 0x100 * n
/-- FUSED_COLUMNS (R576). -/
abbrev FUSED_COLUMNS (n : Nat) : Nat := 0x070106 + 0x100 * n
/-- TEST_REGION (R576). -/
abbrev TEST_REGION : Nat := 0x071000
/-- TEST_MACRO (R576). -/
abbrev TEST_MACRO : Nat := 0x071001
/-- TEST_OFFSET (R576). -/
abbrev TEST_OFFSET : Nat := 0x071002
/-- TEST_DATA (R576). -/
abbrev TEST_DATA : Nat := 0x071003
/-- TEST_CHECK (R576). -/
abbrev TEST_CHECK : Nat := 0x071004
/-- TEST_COMMAND (R576). -/
abbrev TEST_COMMAND : Nat := 0x071005
/-- TEST_RESULT (R576). -/
abbrev TEST_RESULT : Nat := 0x071006
/-- TEST_WRITES (R576). -/
abbrev TEST_WRITES : Nat := 0x071007
/-- MEM_LOG (R576). -/
abbrev MEM_LOG (i : Nat) : Nat := 0x072000 + i
/-- LANE_STATE (R578). -/
abbrev LANE_STATE (n : Nat) (i : Nat) : Nat := 0x079000 + 0x100 * n + i
/-- LANE_TIME (R578). -/
abbrev LANE_TIME (n : Nat) (i : Nat) : Nat := 0x079800 + 0x100 * n + i
/-- LANE_FLOOR_TIME (R578). -/
abbrev LANE_FLOOR_TIME (n : Nat) (i : Nat) : Nat := 0x07A800 + 0x100 * n + i
/-- MEASURE_PERIOD (R578). -/
abbrev MEASURE_PERIOD : Nat := 0x07A000
/-- RETIRE_CLEAR (R578). -/
abbrev RETIRE_CLEAR : Nat := 0x07A001
/-- CORNER_FACTOR (R578). -/
abbrev CORNER_FACTOR (i : Nat) : Nat := 0x07A100 + i
/-- POWER_ON_HOURS (R578). -/
abbrev POWER_ON_HOURS : Nat := 0x07B000
/-- RUN_HOURS (R578). -/
abbrev RUN_HOURS : Nat := 0x07B001
/-- HOURS_ABOVE_105 (R578). -/
abbrev HOURS_ABOVE_105 : Nat := 0x07B002
/-- AUTO_READY (R609). -/
abbrev AUTO_READY : Nat := 0x012000
/-- RESET_CAUSE (R609). -/
abbrev RESET_CAUSE : Nat := 0x012001
/-- BOOT_STATUS (R609). -/
abbrev BOOT_STATUS : Nat := 0x012002
/-- BOOT_TIME (R609). -/
abbrev BOOT_TIME : Nat := 0x012003
/-- TJ (R609). -/
abbrev TJ : Nat := 0x012100
/-- TJ_MAX_SEEN (R609). -/
abbrev TJ_MAX_SEEN : Nat := 0x012101
/-- VCORE_NOW (R609). -/
abbrev VCORE_NOW : Nat := 0x012102
/-- VSAFE_A_NOW (R609). -/
abbrev VSAFE_A_NOW : Nat := 0x012103
/-- VSAFE_B_NOW (R609). -/
abbrev VSAFE_B_NOW : Nat := 0x012104
/-- VFUSE_NOW (R609). -/
abbrev VFUSE_NOW : Nat := 0x012105
/-- EVENT_MASK (R96). -/
abbrev EVENT_MASK (i : Nat) : Nat := 0x061000 + i
/-- EVENT_LATCH (R96). -/
abbrev EVENT_LATCH (i : Nat) : Nat := 0x061100 + i
/-- OCCURRENCES (R96). -/
abbrev OCCURRENCES (i : Nat) : Nat := 0x061200 + i
/-- EVENTS_DROPPED (R98). -/
abbrev EVENTS_DROPPED : Nat := 0x060001
/-- POOL_RESERVE (R223). -/
abbrev POOL_RESERVE (n : Nat) : Nat := 0x048000 + 0x100 * n
/-- POOL_CAP (R223). -/
abbrev POOL_CAP (n : Nat) : Nat := 0x048001 + 0x100 * n
/-- POOL_IN_USE (R223). -/
abbrev POOL_IN_USE (n : Nat) : Nat := 0x048002 + 0x100 * n
/-- POOL_PEAK (R223). -/
abbrev POOL_PEAK (n : Nat) : Nat := 0x048003 + 0x100 * n
/-- POOL_DROPPED (R223). -/
abbrev POOL_DROPPED (n : Nat) : Nat := 0x048004 + 0x100 * n
/-- SHARED_FREE (R223). -/
abbrev SHARED_FREE : Nat := 0x048700
/-- SAFE_UDP_PORT (R490). -/
abbrev SAFE_UDP_PORT : Nat := 0x350000
/-- CONNS_VALID (R490). -/
abbrev CONNS_VALID : Nat := 0x350001
/-- UNMATCHED (R490). -/
abbrev UNMATCHED : Nat := 0x350002
/-- The PUBLISH word at offset B+off of context n, subindex i (R253). -/
abbrev PUBLISH (n off i : Nat) : Nat := 0xA00000 + 0x4000 * n + 256 * off + i

end Sys2Proof.Machine.Obj
end

