-- ==== Sys2Proof/Machine/Dict.lean ====
section
/-! DEFINITION. Machine/Dict.lean: the form of the object dictionary: object types, rights and range checks (R47 to R51), the
row of one object, and the sparse table in one canonical form that the dictionary, the DOMAIN values and the memories share. -/

namespace Sys2Proof.Machine

/-- The object types of R48. An F32 object has the form it is held in (R49): gain form (R262) or Q2.22 per unit (R371). -/
inductive ObjType where
  | bool | u8 | u16 | u32 | u64 | i8 | i16 | i32 | i64 | q23 | q47 | gain | pu | time80
  | domain (maxLen : Nat) (fixedLen : Bool)
deriving DecidableEq, Repr

/-- The rights of R50. -/
inductive Rights where
  | ro | rw | rwc | wo | rws
deriving DecidableEq, Repr

/-- The range an object's table row states, judged on the held value (R49). -/
inductive RangeCheck where
  /-- The type's own limits alone. -/
  | any
  /-- From lo to hi, both ends included. -/
  | rng (lo hi : Int)
  /-- From lo to hi, or the one further value. -/
  | rngOr (lo hi : Int) (v : Nat)
  /-- One of the values listed. -/
  | oneOf (l : List Nat)
  /-- No bit outside the mask (R11). -/
  | mask (m : Nat)
  /-- A TIME80 whose nanoseconds lie below 1,000,000,000 (R48). -/
  | time
deriving DecidableEq, Repr

/-- A row of the object tables: indices base + stride × n for n below count, subindices sub to sub + subCount − 1. -/
structure ObjRow where
  base : Nat
  count : Nat
  stride : Nat
  sub : Nat
  subCount : Nat
  ty : ObjType
  rights : Rights
  dflt : Nat
  chk : RangeCheck
deriving DecidableEq, Repr

/-- The key of an object: index × 256 + subindex (R47). -/
def objKey (idx sub : Nat) : Nat := idx * 256 + sub

/-- Whether a row covers an index and subindex. -/
def ObjRow.covers (r : ObjRow) (idx sub : Nat) : Bool :=
  r.base ≤ idx && (idx - r.base) % r.stride == 0 && (idx - r.base) / r.stride < r.count
    && r.sub ≤ sub && sub < r.sub + r.subCount

/-- The size of a type on the wire in bytes (R48); a DOMAIN value has its own length. -/
def ObjType.size : ObjType → Nat
  | .bool | .u8 | .i8 => 1
  | .u16 | .i16 => 2
  | .u32 | .i32 | .gain | .pu => 4
  | .u64 | .i64 => 8
  | .q23 => 3
  | .q47 => 6
  | .time80 => 10
  | .domain _ _ => 0

/-- Whether a type is DOMAIN. -/
def ObjType.isDomain : ObjType → Bool
  | .domain _ _ => true
  | _ => false

/-- A gain in gain form (R262), packed as [28:24] s + 16 and [23:0] the mantissa. -/
def packGain (mant : Int) (s : Int) : Nat := (s + 16).toNat * 2 ^ 24 + raw 24 mant

/-- The mantissa of a packed gain. -/
def gainMant (v : Nat) : Int := sgn 24 v

/-- The shift of a packed gain. -/
def gainShift (v : Nat) : Int := (v >>> 24 : Nat) - 16

/-- The value of a packed gain in units of 2 ^ −39, the finest step of the form. -/
def gainScaled (v : Nat) : Int := gainMant v * 2 ^ (v >>> 24)

/-- A gain applied to an integer: ⌊g × 2ˢ × x⌋ with g a Q1.23 mantissa (R262). -/
def gainMul (v : Nat) (x : Int) : Int := sra (gainScaled v * x) 39

/-- The number a held value stands for in its range check (R49). -/
def heldValue (ty : ObjType) (v : Nat) : Int :=
  match ty with
  | .i8 => sgn 8 v
  | .i16 => sgn 16 v
  | .i32 => sgn 32 v
  | .i64 => sgn 64 v
  | .q23 => sgn 24 v
  | .pu => sgn 24 v
  | .q47 => sgn 48 v
  | .gain => gainScaled v
  | _ => v

/-- Whether a held value meets the range stated for it (DEDUCED, log entry 6; DEDUCED, log entry 7). -/
def RangeCheck.ok (c : RangeCheck) (ty : ObjType) (v : Nat) : Bool :=
  match c with
  | .any => true
  | .rng lo hi => decide (lo ≤ heldValue ty v) && decide (heldValue ty v ≤ hi)
  | .rngOr lo hi e => v == e || (decide (lo ≤ heldValue ty v) && decide (heldValue ty v ≤ hi))
  | .oneOf l => l.contains v
  | .mask m => within v m
  | .time => v % 2 ^ 32 < 1000000000

/-- A binary32 pattern as an exact fraction: sign and magnitude as mantissa × 2 ^ (exponent − 149). none for a NaN or an infinity. -/
def f32Parts (w : Nat) : Option (Bool × Nat × Nat) :=
  let e := bits w 30 23
  let m := bits w 22 0
  if e = 255 then none
  else if e = 0 then some (bit w 31, m, 0)
  else some (bit w 31, m + 2 ^ 23, e - 1)

/-- The value of a binary32 number in units of 2 ^ −149. -/
def f32Scaled (w : Nat) : Option Int :=
  match f32Parts w with
  | none => none
  | some (s, m, e) => some (if s then -(m * 2 ^ e : Int) else (m * 2 ^ e : Int))

/-- Looks for the smallest shift from s on at which a value in units of 2 ^ −149 fits the mantissa of gain form (R262). -/
def gainSearch : Nat → Int → Int → Option Nat
  | 0, _, _ => none
  | n + 1, s, v =>
    let g := sra v (126 + s).toNat
    if -8388608 ≤ g ∧ g ≤ 8388607 then some (packGain g s) else gainSearch n (s + 1) v

/-- A binary32 value rounded toward −∞ into gain form; the magnitude must lie below 256, and one below 2 ^ −39 is 0 (R262) (DEDUCED, log entry 6). -/
def toGain (v : Int) : Option Nat :=
  if 2 ^ 157 ≤ absI v then none
  else if absI v < 2 ^ 110 then some 0
  else gainSearch 25 (-16) v

/-- A binary32 value rounded toward −∞ into Q2.22 per unit (R371) (DEDUCED, log entry 6). -/
def toPu (v : Int) : Option Nat :=
  let g := sra v 127
  if -8388608 ≤ g ∧ g ≤ 8388607 then some (raw 24 g) else none

/-- The binary32 pattern of a 24-bit mantissa × 2 ^ e, exact (R49: a 24-bit value converts exactly on a read). -/
def f32OfMant (m : Int) (e : Int) : Nat :=
  if m = 0 then 0
  else
    let a := (absI m).toNat
    let k := log2Below 24 a
    let ex := (e + k + 127).toNat
    (if m < 0 then 2 ^ 31 else 0) + ex * 2 ^ 23 + ((a <<< (24 - k)) >>> 1) % 2 ^ 23

/-- The wire value of a held value (R48, R49). -/
def wireOf (ty : ObjType) (v : Nat) : Nat :=
  match ty with
  | .gain => f32OfMant (gainMant v) (gainShift v - 23)
  | .pu => f32OfMant (sgn 24 v) (-22)
  | _ => v

/-! The sparse table: pairs of a key and a value, keys strictly rising, no entry equal to what an unlisted key reads as. -/

/-- The value at a key; an unlisted key reads as dflt says. -/
def tget {α : Type} (dflt : Nat → α) : List (Nat × α) → Nat → α
  | [], k => dflt k
  | (j, v) :: t, k => if j = k then v else tget dflt t k

/-- The table with an entry placed in order. -/
def tput {α : Type} : List (Nat × α) → Nat → α → List (Nat × α)
  | [], k, v => [(k, v)]
  | (j, w) :: t, k, v =>
    if k < j then (k, v) :: (j, w) :: t
    else if k = j then (k, v) :: t
    else (j, w) :: tput t k v

/-- The table without any entry of a key. -/
def tdel {α : Type} : List (Nat × α) → Nat → List (Nat × α)
  | [], _ => []
  | (j, w) :: t, k => if j = k then tdel t k else (j, w) :: tdel t k

/-- A write that keeps the canonical form: the value an unlisted key reads as removes the entry. -/
def tset {α : Type} [DecidableEq α] (dflt : Nat → α) (m : List (Nat × α)) (k : Nat) (v : α) : List (Nat × α) :=
  if v = dflt k then tdel m k else tput m k v

/-- The keys of a table from its head on rise strictly and stand above a bound. -/
def risingFrom {α : Type} : Nat → List (Nat × α) → Bool
  | _, [] => true
  | b, (k, _) :: t => decide (b ≤ k) && risingFrom (k + 1) t

/-- The canonical form of a table. -/
def twf {α : Type} [DecidableEq α] (dflt : Nat → α) (m : List (Nat × α)) : Bool :=
  risingFrom 0 m && m.all (fun e => decide (e.2 ≠ dflt e.1))

end Sys2Proof.Machine
end

