-- ==== Sys2Proof/Machine/ObjTable.lean ====
section
/-! DEFINITION. Machine/ObjTable.lean: the objects of the Tally dictionary, one row per table line of spec/: index, subindex,
type, rights, built-in default and stated range (R29, R62, R93, R94, R139 to R142, R173 to R176, R220, R221, R253, R256 to R258,
R289 to R293, R324, R359 to R363, R392 to R396, R427, R429, R462 to R466, R489, R521, R522, R548 to R552, R576, R578, R609). -/

namespace Sys2Proof.Machine

/-- Rows of axis offset +0x00. -/
def axisRows00 : List ObjRow := [
  ⟨0xa000, 128, 64, 0, 1, .u8, .ro, 0, .any⟩,  -- AXIS_STATE, R256
  ⟨0xa000, 128, 64, 1, 1, .bool, .rwc, 0, (.oneOf [0, 1])⟩,  -- CONFIGURED, R256
  ⟨0xa000, 128, 64, 2, 1, .u8, .rwc, 0, (.rng (0) (7))⟩,  -- CTX_FOLD, R256
  ⟨0xa000, 128, 64, 3, 1, .u8, .rwc, 255, .any⟩,  -- CTX_DOMAIN, R256
  ⟨0xa000, 128, 64, 4, 1, .u8, .rwc, 2, (.oneOf [0, 1, 2])⟩,  -- SPECULATE, R256
  ⟨0xa000, 128, 64, 5, 1, .u8, .rwc, 1, (.oneOf [0, 1])⟩,  -- PREDICT, R256
  ⟨0xa000, 128, 64, 7, 1, .u8, .ro, 0, .any⟩,  -- SLOW_PHASE, R256
  ⟨0xa000, 128, 64, 8, 1, .u16, .ro, 0, .any⟩,  -- FULL_COST, R256
  ⟨0xa000, 128, 64, 9, 1, .u16, .ro, 0, .any⟩,  -- SKIM_COST, R256
  ⟨0xa000, 128, 64, 10, 1, .u8, .ro, 255, .any⟩,  -- CTX_LANE, R256
  ⟨0xa000, 128, 64, 11, 1, .u8, .rw, 1, (.oneOf [1, 2])⟩,  -- FAULT_REACTION, R256
  ⟨0xa000, 128, 64, 12, 1, .u8, .ro, 0, .any⟩,  -- FAULT_CAUSE, R256
  ⟨0xa000, 128, 64, 13, 1, .u8, .wo, 0, (.oneOf [1, 2, 3])⟩,  -- AXIS_COMMAND, R256
  ⟨0xa000, 128, 64, 14, 1, .u16, .rw, 0, .any⟩  -- SAFE_AUX, R256
]

/-- Rows of axis offset +0x01. -/
def axisRows01 : List ObjRow := [
  ⟨0xa001, 128, 64, 0, 1, .u8, .rwc, 2, (.oneOf [1, 2, 3, 16])⟩,  -- STRUCTURE, R289
  ⟨0xa001, 128, 64, 1, 1, .u8, .rwc, 1, (.oneOf [1, 2, 4, 8])⟩,  -- SPEED_DIV, R289
  ⟨0xa001, 128, 64, 2, 1, .u8, .rwc, 1, (.oneOf [1, 2, 4, 8])⟩,  -- POSITION_DIV, R289
  ⟨0xa001, 128, 64, 3, 1, .u8, .rwc, 0, (.rng 0 3)⟩,  -- SETPOINT_SOURCE, R289
  ⟨0xa001, 128, 64, 4, 1, .u8, .rwc, 0, (.rng 0 11)⟩,  -- SETPOINT_PORT, R289
  ⟨0xa001, 128, 64, 5, 1, .bool, .rw, 1, (.oneOf [0, 1])⟩,  -- FREEZE_ON_MOD, R289
  ⟨0xa001, 128, 64, 6, 1, .bool, .rw, 1, (.oneOf [0, 1])⟩  -- DECOUPLE, R289
]

/-- Rows of axis offset +0x02. -/
def axisRows02 : List ObjRow := [
  ⟨0xa002, 128, 64, 0, 1, .u32, .rwc, 1048576, (.oneOf [4096, 8192, 16384, 32768, 65536, 131072, 262144, 524288, 1048576, 2097152, 4194304, 8388608, 16777216, 33554432, 67108864])⟩,  -- COUNTS_PER_REV, R289
  ⟨0xa002, 128, 64, 1, 1, .u8, .rwc, 4, (.rng (1) (64))⟩,  -- POLE_PAIRS, R289
  ⟨0xa002, 128, 64, 2, 1, .u32, .rw, 0, .any⟩,  -- ENC_OFFSET, R289
  ⟨0xa002, 128, 64, 3, 1, .gain, .rwc, 0, .any⟩,  -- SPEED_SCALE, R289
  ⟨0xa002, 128, 64, 4, 1, .u8, .rw, 20, (.rng (8) (32))⟩  -- ANGLE_ADVANCE, R289
]

/-- Rows of axis offset +0x03. -/
def axisRows03 : List ObjRow := [
  ⟨0xa003, 128, 64, 0, 1, .gain, .rw, 0, (.rng (0) (140737471578112))⟩,  -- KP_I, R290
  ⟨0xa003, 128, 64, 1, 1, .gain, .rw, 0, (.rng 0 140737471578112)⟩,  -- KI_I, R290
  ⟨0xa003, 128, 64, 2, 1, .q23, .rw, 0, .any⟩,  -- ID_DEMAND, R290
  ⟨0xa003, 128, 64, 3, 1, .q23, .rw, 4194304, (.rng (0) (8388607))⟩  -- IQ_MAX, R290
]

/-- Rows of axis offset +0x04. -/
def axisRows04 : List ObjRow := [
  ⟨0xa004, 128, 64, 0, 1, .gain, .rw, 0, .any⟩,  -- L_D, R290
  ⟨0xa004, 128, 64, 1, 1, .gain, .rw, 0, .any⟩,  -- L_Q, R290
  ⟨0xa004, 128, 64, 2, 1, .gain, .rw, 0, .any⟩,  -- PSI_F, R290
  ⟨0xa004, 128, 64, 3, 1, .q23, .rw, 1677721, (.rng (0) (8388607))⟩,  -- MD_MAX, R290
  ⟨0xa004, 128, 64, 4, 1, .q23, .rw, 4697620, (.rng (0) (4842743))⟩,  -- M_MAX, R290
  ⟨0xa004, 128, 64, 5, 1, .q23, .rw, 838860, (.rng (83886) (8388607))⟩,  -- VDC_MIN, R290
  ⟨0xa004, 128, 64, 6, 1, .q23, .ro, 4387811, .any⟩  -- MQ_MAX, R290
]

/-- Rows of axis offset +0x05. -/
def axisRows05 : List ObjRow := [
  ⟨0xa005, 128, 64, 0, 1, .gain, .rw, 0, .any⟩,  -- KP_N, R290
  ⟨0xa005, 128, 64, 1, 1, .gain, .rw, 0, .any⟩,  -- KI_N, R290
  ⟨0xa005, 128, 64, 2, 1, .q23, .rw, 0, (.rng 0 8388607)⟩,  -- SPEED_FILTER, R290
  ⟨0xa005, 128, 64, 3, 1, .q23, .rw, 0, .any⟩,  -- SPEED_INT_PRELOAD, R290
  ⟨0xa005, 128, 64, 4, 1, .gain, .rw, 0, .any⟩,  -- KA, R290
  ⟨0xa005, 128, 64, 5, 1, .q23, .rw, 8388607, .any⟩  -- SPEED_DEMAND_MAX, R290
]

/-- Rows of axis offset +0x06. -/
def axisRows06 : List ObjRow := [
  ⟨0xa006, 128, 64, 0, 1, .gain, .rw, 0, .any⟩,  -- KP_P, R290
  ⟨0xa006, 128, 64, 1, 1, .gain, .rw, 289406976, .any⟩  -- KV_FF, R290
]

/-- Rows of axis offset +0x07. -/
def axisRows07 : List ObjRow := [
  ⟨0xa007, 128, 64, 0, 1, .gain, .rw, 289406976, .any⟩,  -- AN_GAIN, R290
  ⟨0xa007, 128, 64, 1, 1, .q23, .rw, 0, .any⟩,  -- AN_OFFSET, R290
  ⟨0xa007, 128, 64, 2, 1, .q23, .rw, 0, (.rng (0) (8388607))⟩,  -- AN_DEADBAND, R290
  ⟨0xa007, 128, 64, 3, 1, .i16, .rwc, 1, .any⟩  -- PULSE_SCALE, R290
]

/-- Rows of axis offset +0x08. -/
def axisRows08 : List ObjRow := [
  ⟨0xa008, 128, 64, 0, 1, .u8, .rwc, 0, (.oneOf [0, 17, 18, 19, 33, 34, 35])⟩,  -- LIM_GROUP, R291
  ⟨0xa008, 128, 64, 1, 1, .u8, .rwc, 0, (.oneOf [0, 1, 2])⟩,  -- LIM_VARIABLE, R291
  ⟨0xa008, 128, 64, 2, 1, .u8, .rwc, 0, (.oneOf [0, 1])⟩,  -- LIM_POLARITY, R291
  ⟨0xa008, 128, 64, 3, 1, .q23, .rw, 0, .any⟩,  -- LIM_LIMIT, R291
  ⟨0xa008, 128, 64, 4, 1, .gain, .rw, 0, .any⟩,  -- LIM_KP, R291
  ⟨0xa008, 128, 64, 5, 1, .gain, .rw, 0, .any⟩,  -- LIM_KI, R291
  ⟨0xa008, 128, 64, 6, 1, .q23, .rw, 0, .any⟩  -- LIM_INT_INIT, R291
]

/-- Rows of axis offset +0x09. -/
def axisRows09 : List ObjRow := [
  ⟨0xa009, 128, 64, 0, 1, .u8, .rwc, 0, (.oneOf [0, 17, 18, 19, 33, 34, 35])⟩,  -- LIM_GROUP, R291
  ⟨0xa009, 128, 64, 1, 1, .u8, .rwc, 0, (.oneOf [0, 1, 2])⟩,  -- LIM_VARIABLE, R291
  ⟨0xa009, 128, 64, 2, 1, .u8, .rwc, 0, (.oneOf [0, 1])⟩,  -- LIM_POLARITY, R291
  ⟨0xa009, 128, 64, 3, 1, .q23, .rw, 0, .any⟩,  -- LIM_LIMIT, R291
  ⟨0xa009, 128, 64, 4, 1, .gain, .rw, 0, .any⟩,  -- LIM_KP, R291
  ⟨0xa009, 128, 64, 5, 1, .gain, .rw, 0, .any⟩,  -- LIM_KI, R291
  ⟨0xa009, 128, 64, 6, 1, .q23, .rw, 0, .any⟩  -- LIM_INT_INIT, R291
]

/-- Rows of axis offset +0x0A. -/
def axisRows0A : List ObjRow := [
  ⟨0xa00a, 128, 64, 0, 1, .u8, .rwc, 0, (.oneOf [0, 17, 18, 19, 33, 34, 35])⟩,  -- LIM_GROUP, R291
  ⟨0xa00a, 128, 64, 1, 1, .u8, .rwc, 0, (.oneOf [0, 1, 2])⟩,  -- LIM_VARIABLE, R291
  ⟨0xa00a, 128, 64, 2, 1, .u8, .rwc, 0, (.oneOf [0, 1])⟩,  -- LIM_POLARITY, R291
  ⟨0xa00a, 128, 64, 3, 1, .q23, .rw, 0, .any⟩,  -- LIM_LIMIT, R291
  ⟨0xa00a, 128, 64, 4, 1, .gain, .rw, 0, .any⟩,  -- LIM_KP, R291
  ⟨0xa00a, 128, 64, 5, 1, .gain, .rw, 0, .any⟩,  -- LIM_KI, R291
  ⟨0xa00a, 128, 64, 6, 1, .q23, .rw, 0, .any⟩  -- LIM_INT_INIT, R291
]

/-- Rows of axis offset +0x0B. -/
def axisRows0B : List ObjRow := [
  ⟨0xa00b, 128, 64, 0, 1, .u8, .rwc, 0, (.oneOf [0, 17, 18, 19, 33, 34, 35])⟩,  -- LIM_GROUP, R291
  ⟨0xa00b, 128, 64, 1, 1, .u8, .rwc, 0, (.oneOf [0, 1, 2])⟩,  -- LIM_VARIABLE, R291
  ⟨0xa00b, 128, 64, 2, 1, .u8, .rwc, 0, (.oneOf [0, 1])⟩,  -- LIM_POLARITY, R291
  ⟨0xa00b, 128, 64, 3, 1, .q23, .rw, 0, .any⟩,  -- LIM_LIMIT, R291
  ⟨0xa00b, 128, 64, 4, 1, .gain, .rw, 0, .any⟩,  -- LIM_KP, R291
  ⟨0xa00b, 128, 64, 5, 1, .gain, .rw, 0, .any⟩,  -- LIM_KI, R291
  ⟨0xa00b, 128, 64, 6, 1, .q23, .rw, 0, .any⟩  -- LIM_INT_INIT, R291
]

/-- Rows of axis offset +0x0C. -/
def axisRows0C : List ObjRow := [
  ⟨0xa00c, 128, 64, 0, 1, .u8, .rwc, 0, (.oneOf [0, 17, 18, 19, 33, 34, 35])⟩,  -- LIM_GROUP, R291
  ⟨0xa00c, 128, 64, 1, 1, .u8, .rwc, 0, (.oneOf [0, 1, 2])⟩,  -- LIM_VARIABLE, R291
  ⟨0xa00c, 128, 64, 2, 1, .u8, .rwc, 0, (.oneOf [0, 1])⟩,  -- LIM_POLARITY, R291
  ⟨0xa00c, 128, 64, 3, 1, .q23, .rw, 0, .any⟩,  -- LIM_LIMIT, R291
  ⟨0xa00c, 128, 64, 4, 1, .gain, .rw, 0, .any⟩,  -- LIM_KP, R291
  ⟨0xa00c, 128, 64, 5, 1, .gain, .rw, 0, .any⟩,  -- LIM_KI, R291
  ⟨0xa00c, 128, 64, 6, 1, .q23, .rw, 0, .any⟩  -- LIM_INT_INIT, R291
]

/-- Rows of axis offset +0x0D. -/
def axisRows0D : List ObjRow := [
  ⟨0xa00d, 128, 64, 0, 1, .u8, .rwc, 0, (.oneOf [0, 17, 18, 19, 33, 34, 35])⟩,  -- LIM_GROUP, R291
  ⟨0xa00d, 128, 64, 1, 1, .u8, .rwc, 0, (.oneOf [0, 1, 2])⟩,  -- LIM_VARIABLE, R291
  ⟨0xa00d, 128, 64, 2, 1, .u8, .rwc, 0, (.oneOf [0, 1])⟩,  -- LIM_POLARITY, R291
  ⟨0xa00d, 128, 64, 3, 1, .q23, .rw, 0, .any⟩,  -- LIM_LIMIT, R291
  ⟨0xa00d, 128, 64, 4, 1, .gain, .rw, 0, .any⟩,  -- LIM_KP, R291
  ⟨0xa00d, 128, 64, 5, 1, .gain, .rw, 0, .any⟩,  -- LIM_KI, R291
  ⟨0xa00d, 128, 64, 6, 1, .q23, .rw, 0, .any⟩  -- LIM_INT_INIT, R291
]

/-- Rows of axis offset +0x0E. -/
def axisRows0E : List ObjRow := [
  ⟨0xa00e, 128, 64, 0, 1, .u16, .rw, 0, .any⟩,  -- AUX_COMMAND, R290
  ⟨0xa00e, 128, 64, 1, 1, .u16, .rw, 0, .any⟩  -- CARRIER_OFFSET, R290
]

/-- Rows of axis offset +0x0F. -/
def axisRows0F : List ObjRow := [
  ⟨0xa00f, 128, 64, 0, 8, .q23, .rw, 0, .any⟩  -- CUSTOM_PARAM, R290
]

/-- Rows of axis offset +0x10. -/
def axisRows10 : List ObjRow := [
  ⟨0xa010, 128, 64, 0, 1, .u8, .wo, 0, (.rng 1 7)⟩,  -- PROFILE_COMMAND, R359
  ⟨0xa010, 128, 64, 1, 1, .i64, .rw, 0, (.rng (-549755813888) (549755813887))⟩,  -- TARGET, R359
  ⟨0xa010, 128, 64, 2, 1, .i32, .rw, 0, .any⟩,  -- TARGET_SPEED, R359
  ⟨0xa010, 128, 64, 3, 1, .u8, .ro, 0, .any⟩,  -- PROFILE_STATE, R359
  ⟨0xa010, 128, 64, 4, 1, .i64, .ro, 0, .any⟩,  -- POSITION_USER, R359
  ⟨0xa010, 128, 64, 5, 1, .i32, .ro, 0, .any⟩,  -- PROF_VELOCITY, R359
  ⟨0xa010, 128, 64, 6, 1, .u16, .ro, 0, .any⟩  -- PROFILE_FLAGS, R359
]

/-- Rows of axis offset +0x11. -/
def axisRows11 : List ObjRow := [
  ⟨0xa011, 128, 64, 0, 1, .u32, .rw, 0, .any⟩,  -- VS, R359
  ⟨0xa011, 128, 64, 1, 1, .u32, .rw, 1000, (.rng (1) (4294967295))⟩,  -- VE, R359
  ⟨0xa011, 128, 64, 2, 1, .u32, .rw, 0, .any⟩,  -- VB, R359
  ⟨0xa011, 128, 64, 3, 1, .u32, .rw, 100000, (.rng (1) (4294967295))⟩  -- VMAX, R359
]

/-- Rows of axis offset +0x12. -/
def axisRows12 : List ObjRow := [
  ⟨0xa012, 128, 64, 0, 4, .u32, .rw, 100000, (.rng (1) (4294967295))⟩  -- ACCELS, R359
]

/-- Rows of axis offset +0x13. -/
def axisRows13 : List ObjRow := [
  ⟨0xa013, 128, 64, 0, 1, .u16, .rw, 8, (.rng (1) (65535))⟩,  -- DWELL, R359
  ⟨0xa013, 128, 64, 1, 1, .bool, .rw, 1, (.oneOf [0, 1])⟩,  -- LIMIT_ENFORCE, R359
  ⟨0xa013, 128, 64, 2, 1, .u8, .rw, 0, (.oneOf [0, 1])⟩,  -- SAFE_HOLD_ACTION, R359
  ⟨0xa013, 128, 64, 3, 1, .u16, .rw, 500, (.rng (10) (10000))⟩  -- LAND_WAIT, R359
]

/-- Rows of axis offset +0x14. -/
def axisRows14 : List ObjRow := [
  ⟨0xa014, 128, 64, 0, 1, .u32, .ro, 0, .any⟩,  -- HOME_ORIGIN, R359
  ⟨0xa014, 128, 64, 1, 1, .bool, .ro, 0, .any⟩  -- HOMED, R359
]

/-- Rows of axis offset +0x18. -/
def axisRows18 : List ObjRow := [
  ⟨0xa018, 128, 64, 0, 1, .u8, .rwc, 0, (.rng 0 3)⟩,  -- MASTER_KIND, R361
  ⟨0xa018, 128, 64, 1, 1, .u8, .rwc, 0, (.rng 0 127)⟩,  -- MASTER_INDEX, R361
  ⟨0xa018, 128, 64, 2, 1, .u8, .rw, 0, (.rng (0) (2))⟩  -- MASTER_COMP, R361
]

/-- Rows of axis offset +0x19. -/
def axisRows19 : List ObjRow := [
  ⟨0xa019, 128, 64, 0, 1, .i32, .rw, 1, .any⟩,  -- GEAR_NUM, R361
  ⟨0xa019, 128, 64, 1, 1, .u32, .rw, 1, (.rng (1) (4294967295))⟩,  -- GEAR_DEN, R361
  ⟨0xa019, 128, 64, 2, 1, .u32, .rw, 0, .any⟩  -- BLEND_LENGTH, R361
]

/-- Rows of axis offset +0x1A. -/
def axisRows1A : List ObjRow := [
  ⟨0xa01a, 128, 64, 0, 1, .i32, .rw, 1, .any⟩,  -- STAGED_NUM, R361
  ⟨0xa01a, 128, 64, 1, 1, .u32, .rw, 1, (.rng (1) (4294967295))⟩,  -- STAGED_DEN, R361
  ⟨0xa01a, 128, 64, 2, 1, .u32, .rw, 0, .any⟩,  -- STAGE_POSITION, R361
  ⟨0xa01a, 128, 64, 3, 1, .bool, .rw, 0, (.oneOf [0, 1])⟩  -- STAGE_ARM, R361
]

/-- Rows of axis offset +0x1B. -/
def axisRows1B : List ObjRow := [
  ⟨0xa01b, 128, 64, 0, 1, .u32, .ro, 0, .any⟩,  -- MASTER_POSITION, R361
  ⟨0xa01b, 128, 64, 1, 1, .u32, .ro, 0, .any⟩  -- BLEND_REMAINING, R361
]

/-- Rows of axis offset +0x1C. -/
def axisRows1C : List ObjRow := [
  ⟨0xa01c, 128, 64, 0, 1, .u8, .rw, 0, (.rng 0 11)⟩,  -- HOME_METHOD, R362
  ⟨0xa01c, 128, 64, 1, 1, .u32, .rw, 10000, (.rng (1) (4294967295))⟩,  -- HOME_SPEED_FAST, R362
  ⟨0xa01c, 128, 64, 2, 1, .u32, .rw, 1000, (.rng (1) (4294967295))⟩,  -- HOME_SPEED_SLOW, R362
  ⟨0xa01c, 128, 64, 3, 1, .i32, .rw, 0, .any⟩,  -- HOME_POSITION, R362
  ⟨0xa01c, 128, 64, 4, 1, .u32, .rw, 0, .any⟩,  -- HOME_MAX_TRAVEL, R362
  ⟨0xa01c, 128, 64, 5, 1, .u32, .rw, 4294967295, .any⟩  -- INDEX_WINDOW, R362
]

/-- Rows of axis offset +0x1D. -/
def axisRows1D : List ObjRow := [
  ⟨0xa01d, 128, 64, 0, 1, .u8, .rwc, 255, (.rngOr 0 15 255)⟩,  -- LIMIT_NEG_SRC, R362
  ⟨0xa01d, 128, 64, 1, 1, .u8, .rwc, 255, (.rngOr 0 15 255)⟩,  -- LIMIT_POS_SRC, R362
  ⟨0xa01d, 128, 64, 2, 1, .u8, .rwc, 255, (.rngOr 0 15 255)⟩,  -- HOME_SRC, R362
  ⟨0xa01d, 128, 64, 3, 1, .u8, .rw, 0, (.mask 0x7)⟩,  -- SWITCH_POLARITY, R362
  ⟨0xa01d, 128, 64, 4, 1, .u16, .rw, 1000, (.rng (0) (65535))⟩,  -- QUAL_TIME, R362
  ⟨0xa01d, 128, 64, 5, 1, .u16, .rw, 50, (.rng (0) (10000))⟩  -- LOCKOUT, R362
]

/-- Rows of axis offset +0x1E. -/
def axisRows1E : List ObjRow := [
  ⟨0xa01e, 128, 64, 0, 1, .u8, .rwc, 255, (.oneOf [16, 17, 18, 19, 20, 21, 22, 23, 24, 25, 26, 27, 28, 29, 30, 31, 32, 33, 34, 35, 36, 37, 38, 39, 255])⟩  -- INDEX_SOURCE, R362
]

/-- Rows of axis offset +0x1F. -/
def axisRows1F : List ObjRow := [
  ⟨0xa01f, 128, 64, 0, 1, .u8, .ro, 0, .any⟩,  -- HOME_STATE, R362
  ⟨0xa01f, 128, 64, 1, 1, .u8, .ro, 0, .any⟩,  -- HOME_FAULT, R362
  ⟨0xa01f, 128, 64, 2, 1, .u32, .ro, 0, .any⟩  -- HOME_REFERENCE, R362
]

/-- Rows of axis offset +0x20. -/
def axisRows20 : List ObjRow := [
  ⟨0xa020, 128, 64, 0, 1, .u8, .rwc, 0, (.oneOf [0, 1, 2])⟩,  -- RC_MODE, R292
  ⟨0xa020, 128, 64, 1, 1, .u16, .rwc, 2048, (.rng (4) (2048))⟩,  -- RC_LENGTH, R292
  ⟨0xa020, 128, 64, 2, 1, .u32, .rwc, 0, .any⟩,  -- RC_PERIOD, R292
  ⟨0xa020, 128, 64, 3, 1, .u32, .rw, 0, .any⟩,  -- RC_ORIGIN, R292
  ⟨0xa020, 128, 64, 4, 1, .u16, .rw, 0, .any⟩,  -- RC_LEAD, R292
  ⟨0xa020, 128, 64, 5, 1, .q23, .rw, 419430, .any⟩  -- RC_MIN_SPEED, R292
]

/-- Rows of axis offset +0x21. -/
def axisRows21 : List ObjRow := [
  ⟨0xa021, 128, 64, 0, 1, .gain, .rw, 0, .any⟩,  -- RC_GAIN, R292
  ⟨0xa021, 128, 64, 1, 1, .q23, .rw, 4194304, .any⟩,  -- RC_Q0, R292
  ⟨0xa021, 128, 64, 2, 1, .q23, .rw, 1677721, .any⟩,  -- RC_Q1, R292
  ⟨0xa021, 128, 64, 3, 1, .q23, .rw, 419430, .any⟩,  -- RC_Q2, R292
  ⟨0xa021, 128, 64, 4, 1, .q23, .rw, 838860, .any⟩,  -- RC_OUT_MAX, R292
  ⟨0xa021, 128, 64, 5, 1, .bool, .rw, 0, (.oneOf [0, 1])⟩  -- RC_FREEZE, R292
]

/-- Rows of axis offset +0x22. -/
def axisRows22 : List ObjRow := [
  ⟨0xa022, 128, 64, 0, 1, .u8, .wo, 0, (.oneOf [1])⟩,  -- RC_CLEAR, R292
  ⟨0xa022, 128, 64, 1, 1, .u16, .ro, 0, .any⟩,  -- RC_INDEX, R292
  ⟨0xa022, 128, 64, 2, 1, .bool, .ro, 0, .any⟩,  -- RC_LEARNING, R292
  ⟨0xa022, 128, 64, 3, 1, .u32, .ro, 0, .any⟩,  -- RC_VISITS, R292
  ⟨0xa022, 128, 64, 4, 1, .u32, .ro, 0, .any⟩  -- RC_PHASE, R292
]

/-- Rows of axis offset +0x23. -/
def axisRows23 : List ObjRow := [
  ⟨0xa023, 128, 64, 0, 1, (.domain 6144 true), .rw, 0, .any⟩  -- RC_TABLE, R292
]

/-- Rows of axis offset +0x28. -/
def axisRows28 : List ObjRow := [
  ⟨0xa028, 128, 64, 0, 1, .u8, .rw, 2, (.rng (1) (8))⟩,  -- FB_LATE_LIMIT, R257
  ⟨0xa028, 128, 64, 1, 1, .u8, .rw, 7, (.mask 0x7)⟩,  -- FREEZE_MODE, R257
  ⟨0xa028, 128, 64, 2, 1, .q23, .rw, 2097152, (.rng (0) (8388607))⟩,  -- FREEZE_TORQUE, R257
  ⟨0xa028, 128, 64, 3, 1, .u16, .rw, 200, (.rng (1) (10000))⟩,  -- FREEZE_TIME, R257
  ⟨0xa028, 128, 64, 4, 1, .u16, .rw, 0, (.rng (0) (65535))⟩,  -- FREEZE_WINDOW, R257
  ⟨0xa028, 128, 64, 5, 1, .q23, .rw, 83886, (.rng (0) (8388607))⟩,  -- FREEZE_SPEED, R257
  ⟨0xa028, 128, 64, 6, 1, .u8, .rw, 2, (.rng (1) (8))⟩  -- MISS_LIMIT, R257
]

/-- Rows of axis offset +0x29. -/
def axisRows29 : List ObjRow := [
  ⟨0xa029, 128, 64, 0, 1, .u32, .rw, 65536, (.rng (0) (2147483647))⟩,  -- ERR_LIMIT_POSITION, R257
  ⟨0xa029, 128, 64, 1, 3, .q23, .rw, 1048576, (.rng (0) (8388607))⟩,  -- ERR_LIMIT_I, R257
  ⟨0xa029, 128, 64, 4, 1, .q23, .rw, 524288, (.rng (0) (8388607))⟩  -- ERR_LIMIT_V_DC, R257
]

/-- Rows of axis offset +0x30. -/
def axisRows30 : List ObjRow := [
  ⟨0xa030, 128, 64, 0, 1, .u32, .ro, 0, .any⟩,  -- CYCLE_TAG, R253
  ⟨0xa030, 128, 64, 1, 1, .u32, .ro, 0, .any⟩,  -- AXIS_FLAGS, R253
  ⟨0xa030, 128, 64, 2, 1, .u8, .ro, 0, .any⟩,  -- PASS_KIND, R253
  ⟨0xa030, 128, 64, 3, 1, .u8, .ro, 0, .any⟩,  -- RES_AXIS_STATE, R253
  ⟨0xa030, 128, 64, 4, 1, .u16, .ro, 65535, .any⟩,  -- FEEDBACK_READY, R253
  ⟨0xa030, 128, 64, 5, 1, .u16, .ro, 65535, .any⟩,  -- COMMIT_TIME, R253
  ⟨0xa030, 128, 64, 6, 1, .u16, .ro, 0, .any⟩,  -- SAMPLE_COUNT, R253
  ⟨0xa030, 128, 64, 7, 1, .i32, .ro, 0, .any⟩,  -- POSITION_FB, R253
  ⟨0xa030, 128, 64, 8, 1, .i32, .ro, 0, .any⟩,  -- PREDICTION_ERROR, R253
  ⟨0xa030, 128, 64, 9, 1, .q23, .ro, 0, .any⟩,  -- DUTY_A, R253
  ⟨0xa030, 128, 64, 10, 1, .q23, .ro, 0, .any⟩,  -- DUTY_B, R253
  ⟨0xa030, 128, 64, 11, 1, .q23, .ro, 0, .any⟩,  -- DUTY_C, R253
  ⟨0xa030, 128, 64, 12, 1, .u8, .ro, 0, .any⟩  -- WINNER, R253
]

/-- Rows of axis offset +0x31. -/
def axisRows31 : List ObjRow := [
  ⟨0xa031, 128, 64, 0, 1, .u32, .ro, 0, .any⟩,  -- SKIMS, R253
  ⟨0xa031, 128, 64, 1, 1, .u32, .ro, 0, .any⟩,  -- SKIM_COMMITS, R253
  ⟨0xa031, 128, 64, 2, 1, .u32, .ro, 0, .any⟩,  -- SQUASHES, R253
  ⟨0xa031, 128, 64, 3, 1, .u32, .ro, 0, .any⟩,  -- LATE_COUNT, R253
  ⟨0xa031, 128, 64, 4, 1, .u32, .ro, 0, .any⟩,  -- MISSED_DEADLINES, R253
  ⟨0xa031, 128, 64, 5, 1, .u32, .ro, 0, .any⟩,  -- OVERRUNS, R253
  ⟨0xa031, 128, 64, 6, 1, .u32, .ro, 0, .any⟩  -- SAMPLE_SKIPS, R253
]

/-- Rows of axis offset +0x32. -/
def axisRows32 : List ObjRow := [
  ⟨0xa032, 128, 64, 0, 1, .q23, .ro, 0, .any⟩,  -- I_D, R293
  ⟨0xa032, 128, 64, 1, 1, .q23, .ro, 0, .any⟩,  -- I_Q, R293
  ⟨0xa032, 128, 64, 2, 1, .q23, .ro, 0, .any⟩,  -- IQ_DEMAND, R293
  ⟨0xa032, 128, 64, 3, 1, .q23, .ro, 0, .any⟩,  -- M_D, R293
  ⟨0xa032, 128, 64, 4, 1, .q23, .ro, 0, .any⟩,  -- M_Q, R293
  ⟨0xa032, 128, 64, 5, 1, .u8, .ro, 0, .any⟩,  -- MOD_LIMITED, R293
  ⟨0xa032, 128, 64, 0, 8, .u32, .ro, 0, .any⟩  -- PUBLISH, R253
]

/-- Rows of axis offset +0x33. -/
def axisRows33 : List ObjRow := [
  ⟨0xa033, 128, 64, 0, 1, .q23, .ro, 0, .any⟩,  -- SPEED, R293
  ⟨0xa033, 128, 64, 1, 1, .q23, .ro, 0, .any⟩,  -- SPEED_DEMAND, R293
  ⟨0xa033, 128, 64, 2, 1, .u32, .ro, 0, .any⟩,  -- POSITION_DEMAND, R293
  ⟨0xa033, 128, 64, 3, 1, .i32, .ro, 0, .any⟩,  -- POSITION_ERROR, R293
  ⟨0xa033, 128, 64, 4, 1, .u32, .ro, 0, .any⟩,  -- ANGLE_E, R293
  ⟨0xa033, 128, 64, 0, 8, .u32, .ro, 0, .any⟩  -- PUBLISH, R253
]

/-- Rows of axis offset +0x34. -/
def axisRows34 : List ObjRow := [
  ⟨0xa034, 128, 64, 0, 4, .q23, .ro, 0, .any⟩,  -- MIN_CANDIDATE, R293
  ⟨0xa034, 128, 64, 4, 4, .q23, .ro, 0, .any⟩,  -- MAX_CANDIDATE, R293
  ⟨0xa034, 128, 64, 0, 8, .u32, .ro, 0, .any⟩  -- PUBLISH, R253
]

/-- Rows of axis offset +0x35. -/
def axisRows35 : List ObjRow := [
  ⟨0xa035, 128, 64, 0, 1, .q23, .ro, 0, .any⟩,  -- X_D, R293
  ⟨0xa035, 128, 64, 1, 1, .q23, .ro, 0, .any⟩,  -- X_Q, R293
  ⟨0xa035, 128, 64, 2, 1, .q23, .ro, 0, .any⟩,  -- X_SPEED, R293
  ⟨0xa035, 128, 64, 0, 8, .u32, .ro, 0, .any⟩  -- PUBLISH, R253
]

/-- Rows of axis offset +0x36. -/
def axisRows36 : List ObjRow := [
  ⟨0xa036, 128, 64, 0, 1, .u16, .ro, 0, .any⟩,  -- INTEGRATING, R293
  ⟨0xa036, 128, 64, 1, 1, .bool, .ro, 0, .any⟩,  -- CLAMPED, R293
  ⟨0xa036, 128, 64, 2, 1, .q23, .ro, 0, .any⟩,  -- RC_OUTPUT, R293
  ⟨0xa036, 128, 64, 0, 8, .u32, .ro, 0, .any⟩  -- PUBLISH, R253
]

/-- Rows of axis offset +0x37. -/
def axisRows37 : List ObjRow := [
  ⟨0xa037, 128, 64, 0, 6, .q23, .ro, 0, .any⟩,  -- X_LIMIT, R293
  ⟨0xa037, 128, 64, 0, 8, .u32, .ro, 0, .any⟩  -- PUBLISH, R253
]

/-- Rows of axis offset +0x38. -/
def axisRows38 : List ObjRow := [
  ⟨0xa038, 128, 64, 0, 8, .u32, .ro, 0, .any⟩  -- PUBLISH, R253
]

/-- Rows of axis offset +0x39. -/
def axisRows39 : List ObjRow := [
  ⟨0xa039, 128, 64, 0, 8, .u32, .ro, 0, .any⟩  -- PUBLISH, R253
]

/-- Rows of axis offset +0x3A. -/
def axisRows3A : List ObjRow := [
  ⟨0xa03a, 128, 64, 0, 8, .u32, .ro, 0, .any⟩  -- PUBLISH, R253
]

/-- Rows of axis offset +0x3B. -/
def axisRows3B : List ObjRow := [
  ⟨0xa03b, 128, 64, 0, 8, .u32, .ro, 0, .any⟩  -- PUBLISH, R253
]

/-- Rows of axis offset +0x3C. -/
def axisRows3C : List ObjRow := [
  ⟨0xa03c, 128, 64, 0, 8, .u32, .ro, 0, .any⟩  -- PUBLISH, R253
]

/-- Rows of axis offset +0x3D. -/
def axisRows3D : List ObjRow := [
  ⟨0xa03d, 128, 64, 0, 8, .u32, .ro, 0, .any⟩  -- PUBLISH, R253
]

/-- Rows of axis offset +0x3E. -/
def axisRows3E : List ObjRow := [
  ⟨0xa03e, 128, 64, 0, 8, .u32, .ro, 0, .any⟩  -- PUBLISH, R253
]

/-- Rows of axis offset +0x3F. -/
def axisRows3F : List ObjRow := [
  ⟨0xa03f, 128, 64, 0, 8, .u32, .ro, 0, .any⟩  -- PUBLISH, R253
]

/-- Rows of indices 0x0100 to 0x01FF, part 1. -/
def rows01_0 : List ObjRow := [
  ⟨0x110, 1, 1, 0, 1, .u8, .ro, 0, .any⟩,  -- DEVICE_STATE, R29
  ⟨0x110, 1, 1, 1, 1, .u8, .wo, 0, (.oneOf [1, 2, 3, 4])⟩,  -- STATE_REQUEST, R29
  ⟨0x110, 1, 1, 2, 1, .u16, .ro, 0, .any⟩,  -- SAFE_HOLD_CAUSE, R29
  ⟨0x110, 1, 1, 3, 1, .u8, .ro, 0, .any⟩,  -- STATE_REJECT, R29
  ⟨0x110, 1, 1, 4, 1, .u32, .rwc, 30000, (.rng (0) (120000))⟩,  -- SAFE_HOLD_STOP_TIME, R29
  ⟨0x100, 1, 1, 0, 1, .u32, .ro, 5658958, .any⟩,  -- VENDOR_ID, R62
  ⟨0x100, 1, 1, 1, 1, (.domain 10 true), .ro, 0, .any⟩,  -- ORDER_NUMBER, R62
  ⟨0x100, 1, 1, 2, 1, .u16, .ro, 194, .any⟩,  -- STEPPING, R62
  ⟨0x100, 1, 1, 3, 1, .u64, .ro, 0, .any⟩,  -- SERIAL, R62
  ⟨0x100, 1, 1, 4, 1, .u8, .ro, 0, .any⟩,  -- GRADE, R62
  ⟨0x100, 1, 1, 5, 1, .u16, .ro, 258, .any⟩,  -- DICT_VERSION, R62
  ⟨0x1f0, 1, 1, 0, 1, .u16, .wo, 0, (.rng (0) (65535))⟩,  -- HURDLE, R62
  ⟨0x1f1, 1, 1, 0, 1, .u32, .wo, 0, (.oneOf [1935767141])⟩,  -- SAVE, R62
  ⟨0x1f2, 1, 1, 0, 1, .u32, .wo, 0, (.oneOf [1819238756])⟩,  -- RESTORE, R62
  ⟨0x1f3, 1, 1, 0, 1, .u8, .rws, 255, (.rngOr 0 31 255)⟩,  -- LOCKOUT_RESET_REQUEST, R62
  ⟨0x1f4, 1, 1, 0, 1, .u32, .rws, 0, .any⟩,  -- SAFETY_COMMIT, R62
  ⟨0x120, 1, 1, 0, 1, .bool, .rwc, 0, (.oneOf [0, 1])⟩,  -- AUTO_READY, R609
  ⟨0x120, 1, 1, 1, 1, .u8, .ro, 0, .any⟩,  -- RESET_CAUSE, R609
  ⟨0x120, 1, 1, 2, 1, .u16, .ro, 0, .any⟩,  -- BOOT_STATUS, R609
  ⟨0x120, 1, 1, 3, 1, .u32, .ro, 0, .any⟩,  -- BOOT_TIME, R609
  ⟨0x121, 1, 1, 0, 1, .i16, .ro, 0, .any⟩,  -- TJ, R609
  ⟨0x121, 1, 1, 1, 1, .i16, .ro, 0, .any⟩,  -- TJ_MAX_SEEN, R609
  ⟨0x121, 1, 1, 2, 1, .u16, .ro, 0, .any⟩,  -- VCORE_NOW, R609
  ⟨0x121, 1, 1, 3, 1, .u16, .ro, 0, .any⟩  -- VSAFE_A_NOW, R609
]

/-- Rows of indices 0x0100 to 0x01FF, part 2. -/
def rows01_1 : List ObjRow := [
  ⟨0x121, 1, 1, 4, 1, .u16, .ro, 0, .any⟩,  -- VSAFE_B_NOW, R609
  ⟨0x121, 1, 1, 5, 1, .u16, .ro, 0, .any⟩  -- VFUSE_NOW, R609
]

/-- Rows of indices 0x0100 to 0x01FF. -/
def rows01 : List ObjRow := rows01_0 ++ rows01_1

/-- Rows of indices 0x0200 to 0x02FF, part 1. -/
def rows02_0 : List ObjRow := [
  ⟨0x200, 1, 1, 0, 1, .u8, .rwc, 0, (.oneOf [0, 1])⟩,  -- REF_SELECT, R139
  ⟨0x200, 1, 1, 1, 1, .u8, .rwc, 2, (.rng 0 3)⟩,  -- REF_FREQ_1, R139
  ⟨0x200, 1, 1, 2, 1, .u8, .rwc, 2, (.rng 0 3)⟩,  -- REF_FREQ_2, R139
  ⟨0x200, 1, 1, 3, 1, .bool, .rw, 1, (.oneOf [0, 1])⟩,  -- REF_AUTO, R139
  ⟨0x200, 1, 1, 4, 1, .bool, .rw, 0, (.oneOf [0, 1])⟩,  -- REF_REVERT, R139
  ⟨0x200, 1, 1, 5, 1, .u8, .ro, 255, .any⟩,  -- REF_ACTIVE, R139
  ⟨0x200, 1, 1, 6, 1, .u8, .ro, 0, .any⟩,  -- REF_STATUS, R139
  ⟨0x200, 1, 1, 7, 1, .u16, .rw, 1, (.rng (1) (1000))⟩,  -- REF_QUAL_TIME, R139
  ⟨0x210, 1, 1, 0, 1, .u8, .rwc, 1, (.oneOf [0, 1, 2])⟩,  -- PLLT_PRESCALE, R140
  ⟨0x210, 1, 1, 1, 1, .u16, .rw, 200, (.rng (50) (2000))⟩,  -- PLLT_WINDOW, R140
  ⟨0x210, 1, 1, 2, 1, .u16, .rw, 256, (.rng (16) (65535))⟩,  -- PLLT_COUNT, R140
  ⟨0x210, 1, 1, 3, 1, .u8, .ro, 0, .any⟩,  -- PLLT_STATE, R140
  ⟨0x210, 1, 1, 4, 1, .u8, .ro, 0, .any⟩,  -- PLLT_BAND, R140
  ⟨0x210, 1, 1, 5, 1, .i32, .ro, 0, .any⟩,  -- PLLT_OFFSET, R140
  ⟨0x210, 1, 1, 6, 1, .i32, .wo, 0, .any⟩,  -- PLLT_STEP, R140
  ⟨0x210, 1, 1, 7, 1, .i32, .ro, 0, .any⟩,  -- PLLT_DRIFT, R140
  ⟨0x210, 1, 1, 8, 1, .u8, .wo, 0, (.oneOf [1])⟩,  -- PLLT_RELOCK, R140
  ⟨0x220, 1, 1, 0, 1, .bool, .rwc, 1, (.oneOf [0, 1])⟩,  -- PLLS_DITHER, R141
  ⟨0x220, 1, 1, 1, 1, .u32, .rwc, 0, (.rng (1) (4294967295))⟩,  -- PLLS_SEED, R141
  ⟨0x220, 1, 1, 2, 1, .u16, .rwc, 200, (.rng (50) (2000))⟩,  -- PLLS_WINDOW, R141
  ⟨0x220, 1, 1, 3, 1, .u16, .rwc, 256, (.rng (16) (65535))⟩,  -- PLLS_COUNT, R141
  ⟨0x220, 1, 1, 4, 1, .u8, .ro, 0, .any⟩,  -- PLLS_STATE, R141
  ⟨0x220, 1, 1, 5, 1, .u8, .ro, 0, .any⟩,  -- PLLS_BAND, R141
  ⟨0x230, 1, 1, 0, 1, .time80, .ro, 0, .any⟩  -- TIME_NOW, R142
]

/-- Rows of indices 0x0200 to 0x02FF, part 2. -/
def rows02_1 : List ObjRow := [
  ⟨0x230, 1, 1, 1, 1, .u8, .rwc, 0, (.oneOf [0, 1])⟩,  -- COMPARE_MODE, R142
  ⟨0x230, 1, 1, 2, 1, .time80, .rwc, 0, .time⟩,  -- TIME_SET, R142
  ⟨0x230, 1, 1, 3, 1, .i16, .rw, 0, (.rng (-32768) (32767))⟩,  -- COUNTER_SLEW, R142
  ⟨0x230, 1, 1, 4, 1, .i32, .ro, 0, .any⟩,  -- PHASE_BUILD_OUT, R142
  ⟨0x230, 1, 1, 5, 1, .u32, .ro, 0, .any⟩,  -- NS32_NOW, R142
  ⟨0x230, 1, 1, 6, 1, .bool, .ro, 0, .any⟩,  -- BACKUP_ACTIVE, R142
  ⟨0x230, 1, 1, 7, 1, .u16, .ro, 0, .any⟩,  -- STEP_COUNT, R142
  ⟨0x240, 1, 1, 0, 1, .u8, .rwc, 50, (.rng (40) (200))⟩,  -- SDCLK_DIV, R142
  ⟨0x240, 1, 1, 1, 1, .u8, .ro, 0, .any⟩  -- SAFETY_TICK_SOURCE, R142
]

/-- Rows of indices 0x0200 to 0x02FF. -/
def rows02 : List ObjRow := rows02_0 ++ rows02_1

/-- Rows of indices 0x0300 to 0x03FF, part 1. -/
def rows03_0 : List ObjRow := [
  ⟨0x300, 1, 1, 0, 1, .bool, .rwc, 0, (.oneOf [0, 1])⟩,  -- PTP_ENABLE, R173
  ⟨0x300, 1, 1, 1, 1, .u8, .rwc, 1, (.oneOf [1, 2])⟩,  -- PTP_ROLE, R173
  ⟨0x300, 1, 1, 2, 1, .u8, .rwc, 0, (.oneOf [0, 1, 2])⟩,  -- PTP_PORT, R173
  ⟨0x300, 1, 1, 3, 1, .u8, .rwc, 0, (.oneOf [0, 1])⟩,  -- PTP_TRANSPORT, R173
  ⟨0x300, 1, 1, 4, 1, .u8, .rwc, 0, (.rng (0) (127))⟩,  -- PTP_DOMAIN, R173
  ⟨0x300, 1, 1, 5, 1, .i8, .rwc, 252, (.rng (-7) (0))⟩,  -- LOG_SYNC_INTERVAL, R173
  ⟨0x300, 1, 1, 6, 1, .i8, .rwc, 252, (.rng (-7) (4))⟩,  -- LOG_DELAY_REQ_INTERVAL, R173
  ⟨0x300, 1, 1, 7, 1, .i8, .rwc, 0, (.rng (-3) (4))⟩,  -- LOG_ANNOUNCE_INTERVAL, R173
  ⟨0x300, 1, 1, 8, 1, .u8, .rwc, 3, (.rng (2) (10))⟩,  -- ANNOUNCE_RECEIPT_TIMEOUT, R173
  ⟨0x300, 1, 1, 9, 1, .u8, .rwc, 128, (.rng (0) (255))⟩,  -- PRIORITY1, R173
  ⟨0x300, 1, 1, 10, 1, .u8, .rwc, 128, (.rng (0) (255))⟩,  -- PRIORITY2, R173
  ⟨0x300, 1, 1, 11, 1, .u8, .rwc, 248, (.rng (0) (255))⟩,  -- CLOCK_CLASS, R173
  ⟨0x300, 1, 1, 12, 1, .u64, .ro, 0, .any⟩,  -- CLOCK_IDENTITY, R173
  ⟨0x300, 1, 1, 13, 1, .bool, .rwc, 1, (.oneOf [0, 1])⟩,  -- TC_ENABLE, R173
  ⟨0x310, 1, 1, 0, 1, .u32, .rw, 32768, (.rng (0) (1048576))⟩,  -- SERVO_KP, R174
  ⟨0x310, 1, 1, 1, 1, .u32, .rw, 512, (.rng (0) (65536))⟩,  -- SERVO_KI, R174
  ⟨0x310, 1, 1, 2, 1, .bool, .rwc, 1, (.oneOf [0, 1])⟩,  -- STEP_ARM, R174
  ⟨0x310, 1, 1, 3, 1, .u32, .rw, 1000, (.rng (0) (1000000))⟩,  -- STEP_MIN, R174
  ⟨0x310, 1, 1, 4, 1, .u8, .rw, 4, (.rng (1) (64))⟩,  -- ACQ_SAMPLES, R174
  ⟨0x310, 1, 1, 5, 1, .u32, .rw, 100, (.rng (10) (1000000))⟩,  -- LOCK_THRESHOLD, R174
  ⟨0x310, 1, 1, 6, 1, .u32, .rw, 1000000, (.rng (1000) (1000000000))⟩,  -- OFFSET_LIMIT, R174
  ⟨0x310, 1, 1, 7, 1, .u8, .rw, 16, (.rng (1) (128))⟩,  -- DELAY_AVG, R174
  ⟨0x310, 1, 1, 8, 1, .u32, .rw, 10000, (.rng 0 1000000)⟩,  -- OUTLIER, R174
  ⟨0x320, 1, 1, 0, 1, .u8, .ro, 0, .any⟩  -- SERVO_STATE, R175
]

/-- Rows of indices 0x0300 to 0x03FF, part 2. -/
def rows03_1 : List ObjRow := [
  ⟨0x320, 1, 1, 1, 1, .i64, .ro, 0, .any⟩,  -- OFFSET, R175
  ⟨0x320, 1, 1, 2, 1, .i32, .ro, 0, .any⟩,  -- MEAN_PATH_DELAY, R175
  ⟨0x320, 1, 1, 3, 1, .i32, .ro, 0, .any⟩,  -- RATE_CORRECTION, R175
  ⟨0x320, 1, 1, 4, 1, .i32, .ro, 0, .any⟩,  -- FREQ_PART, R175
  ⟨0x320, 1, 1, 5, 1, .u64, .ro, 0, .any⟩,  -- MASTER_IDENTITY, R175
  ⟨0x320, 1, 1, 6, 1, .u16, .ro, 0, .any⟩,  -- MASTER_PORT, R175
  ⟨0x320, 1, 1, 7, 1, .u8, .ro, 255, .any⟩,  -- MASTER_INGRESS, R175
  ⟨0x320, 1, 1, 8, 1, .i16, .ro, 0, .any⟩,  -- UTC_OFFSET, R175
  ⟨0x330, 2, 1, 0, 1, .u8, .ro, 0, .any⟩,  -- LINK, R176
  ⟨0x330, 2, 1, 1, 1, .i16, .rwc, 0, (.rng (-1000) (1000))⟩,  -- INGRESS_LATENCY, R176
  ⟨0x330, 2, 1, 2, 1, .i16, .rwc, 0, (.rng (-1000) (1000))⟩,  -- EGRESS_LATENCY, R176
  ⟨0x330, 2, 1, 3, 1, .u64, .ro, 0, .any⟩,  -- MAC_ADDRESS, R176
  ⟨0x330, 2, 1, 4, 1, .u32, .ro, 0, .any⟩,  -- TC_CORRECTED, R176
  ⟨0x330, 2, 1, 5, 1, .u32, .ro, 0, .any⟩,  -- FORWARD_DROPPED, R176
  ⟨0x330, 2, 1, 6, 1, .u32, .ro, 0, .any⟩,  -- TC_ERRORS, R176
  ⟨0x330, 2, 1, 7, 1, .u32, .ro, 0, .any⟩,  -- IPV6_EVENTS, R176
  ⟨0x330, 2, 1, 8, 1, .u32, .ro, 0, .any⟩  -- RX_FCS_ERRORS, R176
]

/-- Rows of indices 0x0300 to 0x03FF. -/
def rows03 : List ObjRow := rows03_0 ++ rows03_1

/-- Rows of indices 0x0400 to 0x04FF, part 1. -/
def rows04_0 : List ObjRow := [
  ⟨0x400, 1, 1, 0, 1, .u8, .rwc, 3, (.mask 0x3)⟩,  -- RING_ENABLE, R220
  ⟨0x400, 1, 1, 1, 1, .u8, .ro, 3, .any⟩,  -- BYPASS_STATE, R220
  ⟨0x400, 1, 1, 2, 1, .bool, .rw, 1, (.oneOf [0, 1])⟩,  -- AUTO_HEAL, R220
  ⟨0x400, 1, 1, 3, 1, .u8, .wo, 0, (.mask 0x3)⟩,  -- HEAL_REQUEST, R220
  ⟨0x400, 1, 1, 4, 1, .u16, .rw, 1024, (.rng (64) (65535))⟩,  -- REMEASURE_PERIOD, R220
  ⟨0x410, 2, 1, 0, 1, .u16, .ro, 0, .any⟩,  -- RING_STATUS, R220
  ⟨0x410, 2, 1, 1, 1, .u8, .ro, 0, .any⟩,  -- NODE_COUNT, R220
  ⟨0x410, 2, 1, 2, 1, .u8, .rwc, 0, (.rng 0 64)⟩,  -- SPLIT, R220
  ⟨0x410, 2, 1, 3, 1, .u8, .ro, 0, .any⟩,  -- SPLIT_ACTIVE, R220
  ⟨0x410, 2, 1, 4, 1, .u16, .ro, 0, .any⟩,  -- DELAY_EAST, R220
  ⟨0x410, 2, 1, 5, 1, .u16, .ro, 0, .any⟩,  -- DELAY_WEST, R220
  ⟨0x410, 2, 1, 6, 1, .u16, .ro, 0, .any⟩,  -- SCATTER_EAST, R220
  ⟨0x410, 2, 1, 7, 1, .u16, .ro, 0, .any⟩,  -- SCATTER_WEST, R220
  ⟨0x410, 2, 1, 8, 1, .u16, .ro, 0, .any⟩,  -- GATHER_EAST, R220
  ⟨0x410, 2, 1, 9, 1, .u16, .ro, 0, .any⟩,  -- GATHER_WEST, R220
  ⟨0x410, 2, 1, 10, 1, .u16, .ro, 0, .any⟩,  -- FOLDED_WORST, R220
  ⟨0x410, 2, 1, 11, 1, .u8, .ro, 255, .any⟩,  -- FOLD_LINK, R220
  ⟨0x410, 2, 1, 12, 1, .u32, .ro, 0, .any⟩,  -- EPOCH, R220
  ⟨0x410, 2, 1, 13, 1, .u16, .ro, 0, .any⟩,  -- LAST_GATHER, R220
  ⟨0x410, 2, 1, 16, 1, .u32, .ro, 0, .any⟩,  -- BLOCK_CRC_ERRORS, R220
  ⟨0x410, 2, 1, 17, 1, .u32, .ro, 0, .any⟩,  -- MISSING_BLOCKS, R220
  ⟨0x410, 2, 1, 18, 1, .u32, .ro, 0, .any⟩,  -- LATE_BLOCKS, R220
  ⟨0x410, 2, 1, 19, 1, .u32, .ro, 0, .any⟩,  -- FOLDS, R220
  ⟨0x410, 2, 1, 20, 1, .u32, .ro, 0, .any⟩  -- HEALS, R220
]

/-- Rows of indices 0x0400 to 0x04FF, part 2. -/
def rows04_1 : List ObjRow := [
  ⟨0x410, 2, 1, 21, 1, .u32, .ro, 0, .any⟩,  -- HALTS_SENT, R220
  ⟨0x410, 2, 1, 22, 1, .u32, .ro, 0, .any⟩,  -- CODE_ERRORS, R220
  ⟨0x420, 2, 1, 1, 64, .u32, .ro, 0, .any⟩,  -- NODE_IDENT, R221
  ⟨0x422, 2, 1, 1, 64, .u16, .ro, 0, .any⟩,  -- HOP_DELAY_EAST, R221
  ⟨0x424, 2, 1, 1, 64, .u16, .ro, 0, .any⟩,  -- HOP_DELAY_WEST, R221
  ⟨0x426, 2, 1, 1, 64, .u8, .rwc, 0, (.mask 0x3)⟩,  -- SAFE_SLOTS, R221
  ⟨0x430, 1, 1, 0, 128, .u16, .rwc, 65535, .any⟩,  -- AXIS_SLOT, R221
  ⟨0x480, 7, 1, 0, 1, .u16, .rwc, 0, .any⟩,  -- POOL_RESERVE, R223
  ⟨0x480, 7, 1, 1, 1, .u16, .rwc, 0, .any⟩,  -- POOL_CAP, R223
  ⟨0x480, 7, 1, 2, 1, .u16, .ro, 0, .any⟩,  -- POOL_IN_USE, R223
  ⟨0x480, 7, 1, 3, 1, .u16, .ro, 0, .any⟩,  -- POOL_PEAK, R223
  ⟨0x480, 7, 1, 4, 1, .u32, .ro, 0, .any⟩,  -- POOL_DROPPED, R223
  ⟨0x487, 1, 1, 0, 1, .u16, .ro, 1216, .any⟩  -- SHARED_FREE, R223
]

/-- Rows of indices 0x0400 to 0x04FF. -/
def rows04 : List ObjRow := rows04_0 ++ rows04_1

/-- Rows of indices 0x0500 to 0x05FF. -/
def rows05 : List ObjRow := [
  ⟨0x500, 1, 1, 0, 1, .bool, .rwc, 0, (.oneOf [0, 1])⟩,  -- PAIR_MODE, R521
  ⟨0x500, 1, 1, 1, 1, .u8, .ro, 0, .any⟩,  -- ROLE, R521
  ⟨0x500, 1, 1, 2, 1, .u8, .ro, 255, .any⟩,  -- PEER_ROLE, R521
  ⟨0x500, 1, 1, 3, 1, .u8, .wo, 0, (.oneOf [1, 2, 3])⟩,  -- REDUNDANCY_COMMAND, R521
  ⟨0x500, 1, 1, 4, 1, .bool, .rw, 1, (.oneOf [0, 1])⟩,  -- AUTO_REJOIN, R521
  ⟨0x500, 1, 1, 5, 1, .u32, .rwc, 0, .any⟩,  -- PAIR_ADDRESS, R521
  ⟨0x500, 1, 1, 6, 1, .bool, .ro, 0, .any⟩,  -- STALE_SERVICE, R521
  ⟨0x500, 1, 1, 7, 1, .u8, .ro, 0, .any⟩,  -- ARB_PINS, R521
  ⟨0x510, 1, 1, 0, 1, .u16, .ro, 16384, .any⟩,  -- COPY_BUDGET, R521
  ⟨0x510, 1, 1, 1, 1, .u16, .ro, 0, .any⟩,  -- COPY_BYTES, R521
  ⟨0x510, 1, 1, 2, 1, .u16, .ro, 0, .any⟩,  -- COPY_PEAK, R521
  ⟨0x510, 1, 1, 3, 1, .u32, .ro, 0, .any⟩,  -- LAST_COPY_TAG, R521
  ⟨0x510, 1, 1, 4, 1, .u32, .ro, 0, .any⟩,  -- COPIES_MISSED, R521
  ⟨0x510, 1, 1, 5, 1, .u8, .ro, 0, .any⟩,  -- JOIN_PROGRESS, R521
  ⟨0x510, 1, 1, 6, 1, .u32, .ro, 0, .any⟩,  -- TAKEOVERS, R521
  ⟨0x510, 1, 1, 7, 1, .time80, .ro, 0, .any⟩,  -- LAST_TAKEOVER, R521
  ⟨0x510, 1, 1, 8, 1, .u32, .ro, 0, .any⟩,  -- TWIN_ERRORS, R521
  ⟨0x520, 2, 1, 0, 1, .u8, .ro, 0, .any⟩,  -- STANDBY_POSITION, R522
  ⟨0x520, 2, 1, 1, 1, .u16, .ro, 0, .any⟩,  -- TAKEOVER_SCATTER_EAST, R522
  ⟨0x520, 2, 1, 2, 1, .u16, .ro, 0, .any⟩,  -- TAKEOVER_SCATTER_WEST, R522
  ⟨0x520, 2, 1, 3, 1, .u16, .ro, 0, .any⟩,  -- TAKEOVER_GATHER_EAST, R522
  ⟨0x520, 2, 1, 4, 1, .u16, .ro, 0, .any⟩,  -- TAKEOVER_GATHER_WEST, R522
  ⟨0x530, 1, 1, 0, 128, .u8, .rwc, 0, (.oneOf [0, 1])⟩  -- STALE_ACTION, R522
]

/-- Rows of indices 0x0600 to 0x06FF. -/
def rows06 : List ObjRow := [
  ⟨0x610, 1, 1, 0, 8, .u32, .rw, 4294967295, .any⟩,  -- EVENT_MASK, R96
  ⟨0x611, 1, 1, 0, 8, .u32, .rw, 0, .any⟩,  -- EVENT_LATCH, R96
  ⟨0x612, 1, 1, 0, 256, .u16, .ro, 0, .any⟩,  -- OCCURRENCES, R96
  ⟨0x600, 1, 1, 1, 1, .u32, .ro, 0, .any⟩  -- EVENTS_DROPPED, R98
]

/-- Rows of indices 0x0700 to 0x07FF, part 1. -/
def rows07_0 : List ObjRow := [
  ⟨0x780, 8, 1, 0, 1, .u8, .ro, 7, .any⟩,  -- LANES_IN_SERVICE, R258
  ⟨0x780, 8, 1, 1, 1, .u32, .ro, 8265, .any⟩,  -- LATE_SLOTS, R258
  ⟨0x780, 8, 1, 2, 1, .u32, .ro, 0, .any⟩,  -- WORST_LATE_LOAD, R258
  ⟨0x780, 8, 1, 3, 1, .u8, .rwc, 255, (.rngOr 0 7 255)⟩,  -- SQUASH_RESERVE, R258
  ⟨0x780, 8, 1, 4, 1, .u16, .rwc, 0, (.rng (0) (1024))⟩,  -- OVERRUN_MARGIN, R258
  ⟨0x780, 8, 1, 5, 1, .u32, .ro, 4294967295, .any⟩,  -- SLACK_MIN, R258
  ⟨0x780, 8, 1, 6, 1, .u16, .rwc, 2000, (.rng (0) (4500))⟩,  -- SKIM_AFTER, R258
  ⟨0x780, 8, 1, 7, 1, .u32, .ro, 0, .any⟩,  -- SQUASH_OVERFLOWS, R258
  ⟨0x700, 1, 1, 0, 1, .u32, .rw, 3600, (.rng (60) (86400))⟩,  -- SCRUB_PERIOD, R576
  ⟨0x700, 1, 1, 1, 1, .u32, .ro, 0, .any⟩,  -- SCRUB_PASSES, R576
  ⟨0x700, 1, 1, 2, 1, .bool, .rw, 1, (.oneOf [0, 1])⟩,  -- SOFT_REPAIR_ENABLE, R576
  ⟨0x700, 1, 1, 3, 1, .u16, .rw, 24, (.rng (1) (8760))⟩,  -- CANDIDATE_WINDOW, R576
  ⟨0x700, 1, 1, 4, 1, .u32, .wo, 0, (.oneOf [1718973285])⟩,  -- FUSE_COMMAND, R576
  ⟨0x700, 1, 1, 5, 1, .u8, .ro, 0, .any⟩,  -- FUSE_STATE, R576
  ⟨0x700, 1, 1, 6, 1, .u16, .ro, 0, .any⟩,  -- FUSE_PENDING, R576
  ⟨0x701, 5, 1, 0, 1, .u32, .ro, 0, .any⟩,  -- CORRECTED_COUNT, R576
  ⟨0x701, 5, 1, 1, 1, .u32, .ro, 0, .any⟩,  -- UNCORRECTABLE_COUNT, R576
  ⟨0x701, 5, 1, 2, 1, .u16, .ro, 0, .any⟩,  -- CANDIDATES, R576
  ⟨0x701, 5, 1, 3, 1, .u16, .ro, 0, .any⟩,  -- SOFT_REPAIRS, R576
  ⟨0x701, 5, 1, 4, 1, .u16, .ro, 0, .any⟩,  -- SPARES_EXHAUSTED, R576
  ⟨0x701, 5, 1, 5, 1, .u16, .ro, 0, .any⟩,  -- FUSED_ROWS, R576
  ⟨0x701, 5, 1, 6, 1, .u16, .ro, 0, .any⟩,  -- FUSED_COLUMNS, R576
  ⟨0x710, 1, 1, 0, 1, .u8, .rw, 2, (.rng (0) (4))⟩,  -- TEST_REGION, R576
  ⟨0x710, 1, 1, 1, 1, .u8, .rw, 0, .any⟩  -- TEST_MACRO, R576
]

/-- Rows of indices 0x0700 to 0x07FF, part 2. -/
def rows07_1 : List ObjRow := [
  ⟨0x710, 1, 1, 2, 1, .u16, .rw, 0, (.rng (0) (32767))⟩,  -- TEST_OFFSET, R576
  ⟨0x710, 1, 1, 3, 1, .u8, .rw, 0, .any⟩,  -- TEST_DATA, R576
  ⟨0x710, 1, 1, 4, 1, .u8, .rw, 0, (.mask 0x1f)⟩,  -- TEST_CHECK, R576
  ⟨0x710, 1, 1, 5, 1, .u8, .wo, 0, (.rng 1 3)⟩,  -- TEST_COMMAND, R576
  ⟨0x710, 1, 1, 6, 1, .u32, .ro, 0, .any⟩,  -- TEST_RESULT, R576
  ⟨0x710, 1, 1, 7, 1, .u8, .ro, 0, .any⟩,  -- TEST_WRITES, R576
  ⟨0x720, 1, 1, 0, 16, (.domain 16 false), .ro, 0, .any⟩,  -- MEM_LOG, R576
  ⟨0x790, 8, 1, 0, 8, .u8, .ro, 0, .any⟩,  -- LANE_STATE, R578
  ⟨0x798, 8, 1, 0, 8, .u16, .ro, 0, .any⟩,  -- LANE_TIME, R578
  ⟨0x7a8, 8, 1, 0, 8, .u16, .ro, 0, .any⟩,  -- LANE_FLOOR_TIME, R578
  ⟨0x7a0, 1, 1, 0, 1, .u16, .rw, 1, (.rng (1) (3600))⟩,  -- MEASURE_PERIOD, R578
  ⟨0x7a0, 1, 1, 1, 1, .u8, .wo, 0, (.mask 0x3f)⟩,  -- RETIRE_CLEAR, R578
  ⟨0x7a1, 1, 1, 0, 8, .u16, .ro, 4096, .any⟩,  -- CORNER_FACTOR, R578
  ⟨0x7b0, 1, 1, 0, 1, .u32, .ro, 0, .any⟩,  -- POWER_ON_HOURS, R578
  ⟨0x7b0, 1, 1, 1, 1, .u32, .ro, 0, .any⟩,  -- RUN_HOURS, R578
  ⟨0x7b0, 1, 1, 2, 1, .u32, .ro, 0, .any⟩  -- HOURS_ABOVE_105, R578
]

/-- Rows of indices 0x0700 to 0x07FF. -/
def rows07 : List ObjRow := rows07_0 ++ rows07_1

/-- Rows of indices 0x0800 to 0x08FF. -/
def rows08 : List ObjRow := [
  ⟨0x801, 1, 1, 0, 1, .u8, .rw, 0, (.oneOf [0, 1])⟩,  -- HOST_MODE, R93
  ⟨0x802, 1, 1, 0, 1, .u16, .ro, 0, .any⟩,  -- LAST_HOST_STATUS, R93
  ⟨0x802, 1, 1, 1, 1, .u8, .ro, 0, .any⟩,  -- LAST_HOST_TAG, R93
  ⟨0x810, 1, 1, 0, 1, .u16, .rwc, 51620, (.rng (1024) (65535))⟩,  -- UDP_PORT, R93
  ⟨0x810, 1, 1, 1, 1, .u32, .rwc, 0, .any⟩,  -- IPV4_ADDRESS, R93
  ⟨0x810, 1, 1, 2, 1, .u32, .rwc, 4294967040, .any⟩,  -- IPV4_MASK, R93
  ⟨0x810, 1, 1, 3, 1, .u32, .rwc, 0, .any⟩,  -- IPV4_GATEWAY, R93
  ⟨0x811, 1, 1, 0, 1, .u16, .rw, 60, (.rng (5) (3600))⟩,  -- SESSION_TIMEOUT, R93
  ⟨0x812, 1, 1, 0, 8, .u8, .ro, 0, .any⟩,  -- SESSION_STATE, R93
  ⟨0x813, 1, 1, 0, 8, .u64, .ro, 0, .any⟩,  -- SESSION_PEER, R93
  ⟨0x820, 1, 1, 0, 4, (.domain 32 true), .wo, 0, .any⟩,  -- SESSION_KEY, R93
  ⟨0x821, 1, 1, 0, 2, (.domain 32 true), .wo, 0, .any⟩,  -- SAFETY_KEY, R93
  ⟨0x830, 8, 1, 0, 8, .u32, .rw, 0, .any⟩,  -- SESSION_EVENT_MASK, R93
  ⟨0x840, 2, 8, 0, 1, .bool, .rwc, 0, (.oneOf [0, 1])⟩,  -- CAN_ENABLE, R94
  ⟨0x840, 2, 8, 1, 1, .u32, .rwc, 500000, (.rng (125000) (1000000))⟩,  -- NOMINAL_RATE, R94
  ⟨0x840, 2, 8, 2, 1, .u16, .rwc, 800, (.rng (500) (900))⟩,  -- NOMINAL_SAMPLE_POINT, R94
  ⟨0x840, 2, 8, 3, 1, .u32, .rwc, 2000000, (.rngOr 1000000 8000000 0)⟩,  -- DATA_RATE, R94
  ⟨0x840, 2, 8, 4, 1, .u16, .rwc, 750, (.rng (500) (900))⟩,  -- DATA_SAMPLE_POINT, R94
  ⟨0x840, 2, 8, 5, 1, .bool, .rwc, 1, (.oneOf [0, 1])⟩,  -- TDC_ENABLE, R94
  ⟨0x841, 2, 8, 0, 1, (.domain 69 false), .wo, 0, .any⟩,  -- CAN_TX, R94
  ⟨0x842, 2, 8, 0, 32, .u64, .rwc, 0, (.mask 0xdfffffff1fffffff)⟩,  -- RX_FILTER, R94
  ⟨0x843, 2, 8, 0, 1, (.domain 79 false), .ro, 0, .any⟩,  -- CAN_RX, R94
  ⟨0x844, 2, 8, 0, 1, .u32, .ro, 0, .any⟩,  -- CAN_STATUS, R94
  ⟨0x844, 2, 8, 1, 1, .u32, .ro, 0, .any⟩  -- RX_DROPPED, R94
]

/-- Rows of indices 0x2000 to 0x20FF. -/
def rows20 : List ObjRow := [
  ⟨0x2000, 20, 1, 0, 1, .u8, .ro, 0, .any⟩,  -- LEG_STATE, R427
  ⟨0x2000, 20, 1, 1, 1, .u8, .wo, 0, (.oneOf [1, 2, 3, 4])⟩,  -- LEG_COMMAND, R427
  ⟨0x2000, 20, 1, 2, 1, .bool, .rwc, 0, (.oneOf [0, 1])⟩,  -- LINK_ENABLE, R427
  ⟨0x2000, 20, 1, 3, 1, .u16, .rwc, 200, (.rng (50) (2000))⟩,  -- DT_MIN, R427
  ⟨0x2000, 20, 1, 4, 1, .u16, .rwc, 100, (.rng (0) (10000))⟩,  -- HS_MIN_ON, R427
  ⟨0x2000, 20, 1, 5, 1, .u16, .rwc, 500, (.rng (0) (20000))⟩,  -- LS_MIN_ON, R427
  ⟨0x2000, 20, 1, 6, 1, .u16, .rwc, 0, (.rng 0 1000)⟩,  -- REFRESH_N, R427
  ⟨0x2000, 20, 1, 7, 1, .u16, .rwc, 2000, (.rng (100) (20000))⟩,  -- REFRESH_TIME, R427
  ⟨0x2000, 20, 1, 8, 1, .u16, .rwc, 1000, (.rng (100) (2000))⟩,  -- T_GW_MAX, R427
  ⟨0x2000, 20, 1, 9, 1, .u32, .rwc, 40000, (.rng (20000) (1000000))⟩,  -- QUEUE_DRY, R427
  ⟨0x2000, 20, 1, 10, 1, .q23, .ro, 0, .any⟩,  -- DUTY_FLOOR, R427
  ⟨0x2000, 20, 1, 11, 1, .q23, .ro, 0, .any⟩,  -- DUTY_CEILING, R427
  ⟨0x2000, 20, 1, 12, 1, .u16, .ro, 0, .any⟩,  -- LEG_DELAY, R427
  ⟨0x2000, 20, 1, 13, 1, .u8, .ro, 0, .any⟩,  -- LEG_FAULT_CAUSE, R427
  ⟨0x2000, 20, 1, 14, 1, .u64, .ro, 0, .any⟩,  -- TELEMETRY, R427
  ⟨0x2000, 20, 1, 15, 1, .u8, .ro, 0, .any⟩,  -- LEG_SELFTEST_RESULT, R427
  ⟨0x2000, 20, 1, 16, 1, .bool, .rw, 0, (.oneOf [0, 1])⟩,  -- SELFTEST_IN_RUN, R427
  ⟨0x2000, 20, 1, 17, 1, .u32, .ro, 0, .any⟩,  -- RX_ERRORS, R427
  ⟨0x2000, 20, 1, 18, 1, .u32, .ro, 0, .any⟩,  -- CONFLICTS, R427
  ⟨0x2000, 20, 1, 19, 1, .u32, .ro, 0, .any⟩,  -- DRIVER_REPORTS, R427
  ⟨0x2000, 20, 1, 20, 1, .u32, .ro, 0, .any⟩,  -- TRIPS, R427
  ⟨0x2000, 20, 1, 21, 1, .u32, .ro, 0, .any⟩  -- DUTY_CLAMPS, R427
]

/-- Rows of indices 0x2800 to 0x28FF. -/
def rows28 : List ObjRow := [
  ⟨0x2800, 12, 1, 0, 1, .bool, .rwc, 1, (.oneOf [0, 1])⟩,  -- SENSE_ENABLE, R429
  ⟨0x2800, 12, 1, 1, 1, .u16, .rwc, 64, (.rng (16) (256))⟩,  -- MAIN_OSR, R429
  ⟨0x2800, 12, 1, 2, 1, .q23, .rw, 0, .any⟩,  -- SENSE_OFFSET, R429
  ⟨0x2800, 12, 1, 3, 1, .gain, .rw, 289406976, .any⟩,  -- SENSE_GAIN, R429
  ⟨0x2800, 12, 1, 4, 1, .bool, .rwc, 0, (.oneOf [0, 1])⟩,  -- FAST_ENABLE, R429
  ⟨0x2800, 12, 1, 5, 1, .u8, .rwc, 8, (.rng (4) (32))⟩,  -- FAST_OSR, R429
  ⟨0x2800, 12, 1, 6, 1, .q23, .rw, 8388607, .any⟩,  -- FAST_HIGH, R429
  ⟨0x2800, 12, 1, 7, 1, .q23, .rw, 8388608, .any⟩,  -- FAST_LOW, R429
  ⟨0x2800, 12, 1, 8, 1, .u32, .rwc, 0, (.mask 0xfffff)⟩,  -- FAST_MAP, R429
  ⟨0x2800, 12, 1, 9, 1, .u16, .ro, 0, .any⟩,  -- FAST_RESPONSE, R429
  ⟨0x2800, 12, 1, 10, 1, .q23, .ro, 0, .any⟩,  -- SENSE_VALUE, R429
  ⟨0x2800, 12, 1, 11, 1, .u8, .ro, 0, .any⟩,  -- SENSE_STATUS, R429
  ⟨0x2800, 12, 1, 12, 1, .u32, .ro, 0, .any⟩  -- FAST_TRIPS, R429
]

/-- Rows of indices 0x2C00 to 0x2CFF. -/
def rows2C : List ObjRow := [
  ⟨0x2c00, 8, 1, 0, 1, .u8, .rwc, 0, (.oneOf [0, 1, 2, 3])⟩,  -- PI_MODE, R363
  ⟨0x2c00, 8, 1, 1, 1, .u16, .rwc, 40, (.rng (10) (1000))⟩,  -- PI_FILTER, R363
  ⟨0x2c00, 8, 1, 2, 1, .u8, .rwc, 0, (.mask 0x7)⟩,  -- PI_INVERT, R363
  ⟨0x2c00, 8, 1, 3, 1, .u32, .ro, 0, .any⟩,  -- PI_COUNT, R363
  ⟨0x2c00, 8, 1, 4, 1, .time80, .ro, 0, .any⟩,  -- PI_Z_TIME, R363
  ⟨0x2c00, 8, 1, 5, 1, .u32, .ro, 0, .any⟩,  -- PI_ERRORS, R363
  ⟨0x2c10, 8, 1, 0, 1, .u8, .rwc, 0, (.oneOf [0, 1, 2])⟩,  -- PO_MODE, R363
  ⟨0x2c10, 8, 1, 1, 1, .u8, .rwc, 0, (.rng (0) (127))⟩,  -- PO_AXIS, R363
  ⟨0x2c10, 8, 1, 2, 1, .u8, .rwc, 0, (.mask 0x3)⟩,  -- PO_INVERT, R363
  ⟨0x2c10, 8, 1, 3, 1, .i32, .ro, 0, .any⟩,  -- PO_BACKLOG, R363
  ⟨0x2c10, 8, 1, 4, 1, .u32, .ro, 0, .any⟩  -- PO_OVERRUNS, R363
]

/-- Rows of indices 0x3000 to 0x30FF, part 1. -/
def rows30_0 : List ObjRow := [
  ⟨0x3000, 1, 1, 0, 1, .u16, .ro, 0, .any⟩,  -- ISLAND_STATUS, R462
  ⟨0x3000, 1, 1, 1, 1, .u32, .ro, 0, .any⟩,  -- SAFETY_CRC, R462
  ⟨0x3000, 1, 1, 2, 1, .u32, .ro, 0, .any⟩,  -- SAFETY_TICK_COUNT, R462
  ⟨0x3000, 1, 1, 3, 1, .u8, .wo, 0, (.oneOf [1])⟩,  -- SELFTEST_COMMAND, R462
  ⟨0x3000, 1, 1, 4, 1, .u32, .ro, 0, .any⟩,  -- ISLAND_SELFTEST_RESULT, R462
  ⟨0x3000, 1, 1, 5, 1, .time80, .ro, 0, .any⟩,  -- LAST_SELFTEST, R462
  ⟨0x3000, 1, 1, 6, 1, .u16, .rws, 30, (.rng (1) (720))⟩,  -- SELFTEST_MAX_INTERVAL, R462
  ⟨0x3000, 1, 1, 7, 1, .u32, .ro, 0, .any⟩,  -- CROSS_COMPARE_ERRORS, R462
  ⟨0x3001, 1, 1, 0, 1, .u32, .rws, 4294967295, .any⟩,  -- RESET_GROUPS, R462
  ⟨0x3001, 1, 1, 1, 1, .u8, .ro, 0, .any⟩,  -- RESET_INPUT_STATE, R462
  ⟨0x3002, 1, 1, 0, 1, .u16, .rws, 30, (.rng (10) (60))⟩,  -- TP_WIDTH, R462
  ⟨0x3002, 1, 1, 1, 1, .u16, .rws, 100, (.rng (4) (10000))⟩,  -- TP_PERIOD, R462
  ⟨0x3010, 16, 1, 0, 1, .u8, .rws, 0, (.oneOf [0, 1, 2, 3, 4, 5, 6])⟩,  -- SI_FUNCTION, R463
  ⟨0x3010, 16, 1, 1, 1, .u32, .rws, 0, .any⟩,  -- SI_GROUPS, R463
  ⟨0x3010, 16, 1, 2, 1, .u8, .rws, 0, (.oneOf [0, 1])⟩,  -- SI_TYPE, R463
  ⟨0x3010, 16, 1, 3, 1, .u32, .rws, 300, (.rng (10) (100000))⟩,  -- DISC_TICKS, R463
  ⟨0x3010, 16, 1, 4, 1, .u8, .rws, 255, (.rngOr 0 3 255)⟩,  -- SI_TEST_A, R463
  ⟨0x3010, 16, 1, 5, 1, .u8, .rws, 255, (.rngOr 0 3 255)⟩,  -- SI_TEST_B, R463
  ⟨0x3010, 16, 1, 6, 1, .bool, .rws, 1, (.oneOf [0, 1])⟩,  -- SI_RESTART, R463
  ⟨0x3010, 16, 1, 7, 1, .u8, .ro, 0, .any⟩,  -- SI_STATE, R463
  ⟨0x3030, 8, 1, 0, 1, .u8, .rws, 0, (.rng 0 2)⟩,  -- SO_MODE, R464
  ⟨0x3030, 8, 1, 1, 1, .u8, .rws, 0, (.rng (0) (31))⟩,  -- SO_GROUP, R464
  ⟨0x3030, 8, 1, 2, 1, .u8, .rws, 0, (.rng (0) (255))⟩,  -- SO_CONN, R464
  ⟨0x3030, 8, 1, 3, 1, .u16, .rws, 500, (.rng (10) (20000))⟩  -- SO_SETTLE, R464
]

/-- Rows of indices 0x3000 to 0x30FF, part 2. -/
def rows30_1 : List ObjRow := [
  ⟨0x3030, 8, 1, 4, 1, .u16, .rws, 60, (.rng 0 3600)⟩,  -- SO_TEST_PERIOD, R464
  ⟨0x3030, 8, 1, 5, 1, .u16, .rws, 300, (.rng (50) (500))⟩,  -- SO_TEST_WIDTH, R464
  ⟨0x3030, 8, 1, 6, 1, .u8, .ro, 0, .any⟩,  -- SO_STATE, R464
  ⟨0x3080, 32, 1, 0, 1, .u8, .ro, 4, .any⟩,  -- GROUP_STATE, R465
  ⟨0x3080, 32, 1, 1, 1, .u16, .ro, 0, .any⟩,  -- LOCKOUT_CAUSES, R465
  ⟨0x3080, 32, 1, 2, 1, .u8, .ro, 0, .any⟩,  -- LOCKOUT_FIRST, R465
  ⟨0x3080, 32, 1, 3, 1, .u16, .rws, 5000, (.rng (10) (60000))⟩,  -- SS1_TIME_MAX, R465
  ⟨0x3080, 32, 1, 4, 1, .u16, .rws, 100, (.rng (1) (10000))⟩,  -- STANDSTILL_TIME, R465
  ⟨0x3080, 32, 1, 5, 1, .bool, .rws, 0, (.oneOf [0, 1])⟩,  -- SLS_ALWAYS, R465
  ⟨0x3080, 32, 1, 6, 1, .bool, .rws, 0, (.oneOf [0, 1])⟩,  -- SLP_ALWAYS, R465
  ⟨0x3080, 32, 1, 7, 1, .u8, .rws, 1, (.mask 0x7)⟩,  -- RESET_SOURCES, R465
  ⟨0x3080, 32, 1, 8, 1, .u8, .rws, 255, (.rng (0) (255))⟩,  -- RESET_CONN, R465
  ⟨0x3080, 32, 1, 9, 1, .bool, .rws, 1, (.oneOf [0, 1])⟩  -- STARTUP_LOCKOUT, R465
]

/-- Rows of indices 0x3000 to 0x30FF. -/
def rows30 : List ObjRow := rows30_0 ++ rows30_1

/-- Rows of indices 0x3100 to 0x31FF. -/
def rows31 : List ObjRow := [
  ⟨0x3100, 128, 1, 0, 1, .u8, .rws, 255, (.rngOr 0 31 255)⟩,  -- AXIS_GROUP, R466
  ⟨0x3100, 128, 1, 1, 1, .u8, .rws, 255, (.rng (0) (255))⟩,  -- SAFE_POS_CONN, R466
  ⟨0x3100, 128, 1, 2, 1, .u32, .rws, 1000, .any⟩,  -- POS_TOL, R466
  ⟨0x3100, 128, 1, 3, 1, .u8, .rws, 10, (.rng (1) (64))⟩,  -- SPEED_WINDOW, R466
  ⟨0x3100, 128, 1, 4, 1, .u32, .rws, 0, .any⟩,  -- SLS_LIMIT, R466
  ⟨0x3100, 128, 1, 5, 1, .u8, .rws, 1, (.oneOf [1, 2])⟩,  -- SLS_REACTION, R466
  ⟨0x3100, 128, 1, 6, 1, .u8, .rws, 0, (.rng 0 3)⟩,  -- SDI_MODE, R466
  ⟨0x3100, 128, 1, 7, 1, .u32, .rws, 1000, .any⟩,  -- SDI_TOL, R466
  ⟨0x3100, 128, 1, 8, 1, .i32, .rws, 2147483648, .any⟩,  -- SLP_LOW, R466
  ⟨0x3100, 128, 1, 9, 1, .i32, .rws, 2147483647, .any⟩,  -- SLP_HIGH, R466
  ⟨0x3100, 128, 1, 10, 1, .u32, .rws, 100000, (.rng (1) (4294967295))⟩,  -- SS_DECEL, R466
  ⟨0x3100, 128, 1, 11, 1, .u32, .rws, 10000, .any⟩,  -- SS_MARGIN, R466
  ⟨0x3100, 128, 1, 12, 1, .u32, .rws, 1000, .any⟩,  -- STANDSTILL_SPEED, R466
  ⟨0x3100, 128, 1, 13, 1, .u32, .rws, 100, .any⟩,  -- STANDSTILL_TOL, R466
  ⟨0x3100, 128, 1, 14, 1, .i32, .ro, 0, .any⟩,  -- SAFE_SPEED, R466
  ⟨0x3100, 128, 1, 15, 1, .i32, .ro, 0, .any⟩  -- SAFE_POSITION, R466
]

/-- Rows of indices 0x3400 to 0x34FF, part 1. -/
def rows34_0 : List ObjRow := [
  ⟨0x3400, 256, 1, 0, 1, .bool, .rws, 0, (.oneOf [0, 1])⟩,  -- CONN_ENABLE, R489
  ⟨0x3400, 256, 1, 1, 1, .u8, .rws, 0, (.oneOf [0, 1])⟩,  -- CN_DIRECTION, R489
  ⟨0x3400, 256, 1, 2, 1, .u8, .rws, 0, (.rng 0 3)⟩,  -- CN_CARRIER, R489
  ⟨0x3400, 256, 1, 3, 1, .u32, .rws, 0, .any⟩,  -- CN_ROUTE, R489
  ⟨0x3400, 256, 1, 4, 1, .u32, .rws, 0, .any⟩,  -- CN_IDENTITY, R489
  ⟨0x3400, 256, 1, 5, 1, .u16, .rws, 0, .any⟩,  -- CN_TAG, R489
  ⟨0x3400, 256, 1, 6, 1, .u8, .rws, 3, (.oneOf [1, 2, 3])⟩,  -- CN_KIND, R489
  ⟨0x3400, 256, 1, 7, 1, .u8, .rws, 10, .oneOf [2, 10, 18, 26, 27]⟩,  -- CN_LENGTH, R489
  ⟨0x3400, 256, 1, 8, 1, .u32, .rws, 1000, (.rng (10) (10000000))⟩,  -- CN_MAX_AGE, R489
  ⟨0x3400, 256, 1, 9, 1, .u16, .rws, 50, (.rng (0) (10000))⟩,  -- CN_TS_TOL, R489
  ⟨0x3400, 256, 1, 10, 1, .u32, .rws, 1000, (.rng (100) (10000000))⟩,  -- CN_T_EXP, R489
  ⟨0x3400, 256, 1, 11, 1, .u8, .rws, 8, (.rng (1) (255))⟩,  -- CN_MAX_SEQ_STEP, R489
  ⟨0x3400, 256, 1, 12, 1, .u16, .rws, 10, (.rng (1) (10000))⟩,  -- CN_SEND_PERIOD, R489
  ⟨0x3400, 256, 1, 13, 1, .u8, .rws, 0, (.oneOf [0, 1])⟩,  -- CN_REINT_MODE, R489
  ⟨0x3400, 256, 1, 14, 1, .u8, .rws, 3, (.rng (2) (255))⟩,  -- CN_REINT_FRAMES, R489
  ⟨0x3400, 256, 1, 15, 1, .u8, .rws, 0, (.rng (0) (31))⟩,  -- CN_ACK_GROUP, R489
  ⟨0x3400, 256, 1, 16, 1, .u32, .rws, 65536, .any⟩,  -- CN_MOTION_STEP_MAX, R489
  ⟨0x3400, 256, 1, 17, 1, .u16, .rws, 0, (.mask 1)⟩,  -- CN_ROUTE_2, R489
  ⟨0x3400, 256, 1, 24, 1, .u8, .ro, 0, .any⟩,  -- CONN_STATE, R489
  ⟨0x3400, 256, 1, 25, 1, .u8, .ro, 0, .any⟩,  -- CN_FAIL_REASON, R489
  ⟨0x3400, 256, 1, 26, 1, .u16, .ro, 0, .any⟩,  -- CN_LAST_SEQ, R489
  ⟨0x3400, 256, 1, 27, 1, .i32, .ro, 0, .any⟩,  -- CN_LAST_AGE, R489
  ⟨0x3400, 256, 1, 28, 1, .u32, .ro, 0, .any⟩,  -- CN_FRAMES_ACCEPTED, R489
  ⟨0x3400, 256, 1, 29, 1, .u32, .ro, 0, .any⟩  -- CN_CRC_ERRORS, R489
]

/-- Rows of indices 0x3400 to 0x34FF, part 2. -/
def rows34_1 : List ObjRow := [
  ⟨0x3400, 256, 1, 30, 1, .u32, .ro, 0, .any⟩,  -- CN_SEQ_ERRORS, R489
  ⟨0x3400, 256, 1, 31, 1, .u32, .ro, 0, .any⟩,  -- CN_TIME_ERRORS, R489
  ⟨0x3400, 256, 1, 32, 1, .u32, .ro, 0, .any⟩,  -- CN_DUPLICATES, R489
  ⟨0x3400, 256, 1, 33, 1, .u32, .ro, 0, .any⟩,  -- CN_FAILURES, R489
  ⟨0x3400, 256, 1, 34, 1, .u32, .ro, 0, .any⟩  -- CN_FRAMES_SENT, R489
]

/-- Rows of indices 0x3400 to 0x34FF. -/
def rows34 : List ObjRow := rows34_0 ++ rows34_1

/-- Rows of indices 0x3500 to 0x35FF. -/
def rows35 : List ObjRow := [
  ⟨0x3500, 1, 1, 0, 1, .u16, .rws, 51621, (.rng (1024) (65535))⟩,  -- SAFE_UDP_PORT, R490
  ⟨0x3500, 1, 1, 1, 1, .u16, .ro, 0, .any⟩,  -- CONNS_VALID, R490
  ⟨0x3500, 1, 1, 2, 1, .u32, .ro, 0, .any⟩  -- UNMATCHED, R490
]

/-- Rows of indices 0x4000 to 0x40FF, part 1. -/
def rows40_0 : List ObjRow := [
  ⟨0x4000, 1, 1, 0, 1, .u16, .ro, 4096, .any⟩,  -- STORE_FREE, R548
  ⟨0x4000, 1, 1, 1, 1, .u32, .ro, 0, .any⟩,  -- QUEUE_PEAK, R548
  ⟨0x4000, 1, 1, 2, 1, .u32, .rwc, 0, .any⟩,  -- STREAM_ADDRESS, R548
  ⟨0x4000, 1, 1, 3, 1, .u16, .rwc, 51622, (.rng (1024) (65535))⟩,  -- STREAM_PORT, R548
  ⟨0x4000, 1, 1, 4, 1, .u8, .rwc, 0, (.oneOf [0, 1])⟩,  -- STREAM_ETH_PORT, R548
  ⟨0x4000, 1, 1, 5, 1, .u8, .rw, 0, (.rng (0) (255))⟩,  -- SYNC_GROUP, R548
  ⟨0x4000, 1, 1, 6, 1, .time80, .wo, 0, .time⟩,  -- SYNC_FIRE, R548
  ⟨0x4010, 1, 1, 0, 48, .u32, .rw, 0, .any⟩,  -- CH_SOURCE, R548
  ⟨0x4040, 16, 1, 0, 1, .u8, .rw, 0, (.rng 0 7)⟩,  -- TRG_TYPE, R549
  ⟨0x4040, 16, 1, 1, 1, .u8, .rw, 0, (.rng (0) (47))⟩,  -- TRG_CHANNEL, R549
  ⟨0x4040, 16, 1, 2, 1, .u8, .rw, 0, (.oneOf [0, 1])⟩,  -- TRG_RATE, R549
  ⟨0x4040, 16, 1, 3, 1, .u16, .rw, 1, (.rng (1) (65535))⟩,  -- TRG_DIV, R549
  ⟨0x4040, 16, 1, 4, 1, .u8, .rw, 0, (.oneOf [0, 1])⟩,  -- TRG_POLARITY, R549
  ⟨0x4040, 16, 1, 5, 1, .i32, .rw, 0, .any⟩,  -- LEVEL_A, R549
  ⟨0x4040, 16, 1, 6, 1, .i32, .rw, 0, .any⟩,  -- LEVEL_B, R549
  ⟨0x4040, 16, 1, 7, 1, .u32, .rw, 0, .any⟩,  -- HYST, R549
  ⟨0x4040, 16, 1, 8, 1, .u32, .rw, 0, .any⟩,  -- W_MIN, R549
  ⟨0x4040, 16, 1, 9, 1, .u32, .rw, 0, .any⟩,  -- W_MAX, R549
  ⟨0x4040, 16, 1, 10, 1, .u8, .rw, 0, .any⟩,  -- TRG_EVENT, R549
  ⟨0x4040, 16, 1, 11, 1, .u32, .ro, 0, .any⟩,  -- TRG_COUNT, R549
  ⟨0x4040, 16, 1, 12, 1, .time80, .ro, 0, .any⟩,  -- TRG_LAST_TIME, R549
  ⟨0x4080, 4, 1, 0, 1, .u64, .rw, 0, (.mask 0xffffffffffff)⟩,  -- REC_CHANNELS, R550
  ⟨0x4080, 4, 1, 1, 1, .u16, .rwc, 0, .any⟩,  -- REC_SIZE, R550
  ⟨0x4080, 4, 1, 2, 1, .u8, .rw, 0, (.oneOf [0, 1])⟩  -- REC_RATE, R550
]

/-- Rows of indices 0x4000 to 0x40FF, part 2. -/
def rows40_1 : List ObjRow := [
  ⟨0x4080, 4, 1, 3, 1, .u16, .rw, 1, (.rng (1) (65535))⟩,  -- REC_DIV, R550
  ⟨0x4080, 4, 1, 4, 1, .u32, .rw, 0, .any⟩,  -- PRE_COUNT, R550
  ⟨0x4080, 4, 1, 5, 1, .u32, .rw, 1, (.rng (1) (4294967295))⟩,  -- POST_COUNT, R550
  ⟨0x4080, 4, 1, 6, 1, .u8, .rw, 0, (.rng (0) (4))⟩,  -- RED_SHARE, R550
  ⟨0x4080, 4, 1, 7, 1, .u16, .rw, 256, (.rng (2) (65535))⟩,  -- RED_BLOCK, R550
  ⟨0x4080, 4, 1, 8, 1, .u16, .rw, 0, .any⟩,  -- TRG_MASK, R550
  ⟨0x4080, 4, 1, 9, 1, .u8, .rw, 0, (.mask 0x1f)⟩,  -- REC_MODE, R550
  ⟨0x4080, 4, 1, 10, 1, .u8, .wo, 0, (.rng 1 5)⟩,  -- REC_COMMAND, R550
  ⟨0x4080, 4, 1, 11, 1, .u8, .ro, 0, .any⟩,  -- REC_STATE, R550
  ⟨0x4080, 4, 1, 12, 1, .u16, .ro, 0, .any⟩,  -- REC_FLAGS, R550
  ⟨0x4080, 4, 1, 13, 1, .u32, .ro, 0, .any⟩,  -- REC_CAPACITY, R550
  ⟨0x4080, 4, 1, 14, 1, .time80, .ro, 0, .any⟩,  -- TRIGGER_TIME, R550
  ⟨0x4080, 4, 1, 15, 1, .u8, .ro, 0, .any⟩,  -- TRIGGER_FRAC, R550
  ⟨0x4080, 4, 1, 16, 1, .u16, .ro, 0, .any⟩,  -- TRIGGER_UNITS, R550
  ⟨0x4080, 4, 1, 17, 1, .u32, .ro, 0, .any⟩,  -- PRE_HELD, R550
  ⟨0x4080, 4, 1, 18, 1, .u32, .ro, 0, .any⟩,  -- POST_HELD, R550
  ⟨0x4080, 4, 1, 19, 1, .u32, .ro, 0, .any⟩,  -- REC_DROPPED, R550
  ⟨0x4090, 4, 1, 0, 1, (.domain 4194304 false), .ro, 0, .any⟩,  -- REC_RECORD, R550
  ⟨0x40a0, 1, 1, 0, 1, .u8, .ro, 0, .any⟩,  -- SEAL_COUNT, R552
  ⟨0x40a0, 1, 1, 1, 1, .u16, .ro, 8192, .any⟩,  -- SEAL_SPACE, R552
  ⟨0x40a0, 1, 1, 2, 1, .u32, .ro, 0, .any⟩,  -- CHAIN_START, R552
  ⟨0x40a0, 1, 1, 3, 1, .u32, .ro, 0, .any⟩,  -- ERASE_COUNT, R552
  ⟨0x40a0, 1, 1, 4, 1, .time80, .ro, 0, .any⟩,  -- ERASE_TIME, R552
  ⟨0x40a0, 1, 1, 5, 1, .u32, .wo, 0, (.oneOf [1701994867])⟩  -- ERASE_SEALED, R552
]

/-- Rows of indices 0x4000 to 0x40FF, part 3. -/
def rows40_2 : List ObjRow := [
  ⟨0x40b0, 32, 1, 0, 1, .u32, .ro, 0, .any⟩,  -- SEAL_VALUE, R552
  ⟨0x40b0, 32, 1, 1, 1, .time80, .ro, 0, .any⟩,  -- SEAL_TIME, R552
  ⟨0x40b0, 32, 1, 2, 1, (.domain 4194304 false), .ro, 0, .any⟩  -- SEALED_RECORD, R552
]

/-- Rows of indices 0x4000 to 0x40FF. -/
def rows40 : List ObjRow := rows40_0 ++ rows40_1 ++ rows40_2

/-- Rows of indices 0x5000 to 0x50FF, part 1. -/
def rows50_0 : List ObjRow := [
  ⟨0x5000, 1, 1, 0, 1, .bool, .rwc, 0, (.oneOf [0, 1])⟩,  -- GF_ENABLE, R394
  ⟨0x5000, 1, 1, 1, 1, .u8, .rwc, 0, (.oneOf [0, 1])⟩,  -- GF_F_NOM, R394
  ⟨0x5000, 1, 1, 2, 1, .u16, .rwc, 230, (.rng (100) (400))⟩,  -- GF_V_NOM, R394
  ⟨0x5000, 1, 1, 3, 1, .u32, .rwc, 0, (.rng (1000) (10000000))⟩,  -- GF_S_RATED, R394
  ⟨0x5000, 1, 1, 4, 1, .u32, .rwc, 20000, (.rng (20000) (200000))⟩,  -- GF_PWM_PERIOD, R394
  ⟨0x5000, 1, 1, 5, 1, .u8, .rwc, 4, (.rng (1) (4))⟩,  -- GF_BRIDGES, R394
  ⟨0x5000, 1, 1, 6, 1, .u16, .rwc, 0, .any⟩,  -- GF_LEG_STAGGER, R394
  ⟨0x5000, 1, 1, 7, 1, .u16, .rwc, 4095, (.mask 0xfff)⟩,  -- GF_SENSE_USE, R394
  ⟨0x5000, 1, 1, 8, 1, .q23, .rwc, 167772, (.rng (0) (1677721))⟩,  -- GF_DUTY_MIN, R394
  ⟨0x5000, 1, 1, 9, 1, .q23, .rwc, 8053063, (.rng (6710886) (8388607))⟩,  -- GF_DUTY_MAX, R394
  ⟨0x5000, 1, 1, 10, 1, .u8, .rwc, 3, (.rng (1) (8))⟩,  -- GF_MISS_LIMIT, R394
  ⟨0x5001, 1, 1, 0, 5, .u32, .rwc, 0, .any⟩,  -- GF_FS, R394
  ⟨0x5002, 1, 1, 0, 16, .u8, .rwc, 0, (.rngOr 0 19 255)⟩,  -- HB_PORT, R394
  ⟨0x5010, 1, 1, 0, 1, .gain, .rw, 306184192, (.rng (54975578112) (10995116277760))⟩,  -- GF_H, R395
  ⟨0x5010, 1, 1, 1, 1, .gain, .rw, 357564416, (.rng (0) (109951162777600))⟩,  -- GF_D, R395
  ⟨0x5010, 1, 1, 2, 1, .gain, .rw, 272629760, (.rng (5497558016) (5497558138880))⟩,  -- GF_T_D, R395
  ⟨0x5010, 1, 1, 3, 1, .gain, .rw, 189918085, (.rng (549755776) (54975578112))⟩,  -- GF_M_P, R395
  ⟨0x5010, 1, 1, 4, 1, .pu, .rw, 0, (.rng (-6291456) (6291456))⟩,  -- GF_P_SET, R395
  ⟨0x5010, 1, 1, 5, 1, .pu, .rw, 4194304, (.rng (3984588) (4404019))⟩,  -- GF_F_SET, R395
  ⟨0x5010, 1, 1, 6, 1, .u16, .rw, 5, (.rng (1) (100))⟩,  -- GF_PQ_FILTER, R395
  ⟨0x5010, 1, 1, 7, 1, .gain, .rw, 208037478, (.rng (0) (109951156224))⟩,  -- GF_N_Q, R395
  ⟨0x5010, 1, 1, 8, 1, .pu, .rw, 0, (.rng (-6291456) (6291456))⟩,  -- GF_Q_SET, R395
  ⟨0x5010, 1, 1, 9, 1, .pu, .rw, 4194304, (.rng (3774873) (4613734))⟩,  -- GF_V_SET, R395
  ⟨0x5010, 1, 1, 10, 1, .pu, .rw, 0, (.rng (0) (4194304))⟩  -- GF_E_MIN, R395
]

/-- Rows of indices 0x5000 to 0x50FF, part 2. -/
def rows50_1 : List ObjRow := [
  ⟨0x5010, 1, 1, 11, 1, .pu, .rw, 4823449, (.rng (4194304) (5452595))⟩,  -- GF_E_MAX, R395
  ⟨0x5011, 1, 1, 0, 1, .pu, .rw, 83886, (.rng (0) (2097152))⟩,  -- GF_R_V, R395
  ⟨0x5011, 1, 1, 1, 1, .pu, .rw, 419430, (.rng (0) (2097152))⟩,  -- GF_X_V, R395
  ⟨0x5011, 1, 1, 2, 1, .u16, .rw, 1000, (.rng (100) (5000))⟩,  -- GF_VI_FILTER, R395
  ⟨0x5011, 1, 1, 3, 1, .gain, .rw, 0, .any⟩,  -- GF_K_PV, R395
  ⟨0x5011, 1, 1, 4, 1, .gain, .rw, 0, .any⟩,  -- GF_K_RV, R395
  ⟨0x5011, 1, 1, 5, 1, .gain, .rw, 0, .any⟩,  -- GF_K_PI, R395
  ⟨0x5011, 1, 1, 6, 1, .pu, .rw, 6710886, (.rng (2097152) (8388607))⟩,  -- GF_I_PEAK, R395
  ⟨0x5012, 1, 1, 0, 1, .pu, .rw, 5033164, (.rng (838860) (7549747))⟩,  -- GF_I_LIM, R395
  ⟨0x5012, 1, 1, 1, 1, .pu, .rw, 5033164, (.rng (838860) (7969177))⟩,  -- GF_I_N_LIM, R395
  ⟨0x5012, 1, 1, 2, 1, .pu, .rw, 7549747, .any⟩,  -- GF_VDC_LIM, R395
  ⟨0x5012, 1, 1, 3, 1, .gain, .rw, 306184192, .any⟩,  -- GF_KP_IL, R395
  ⟨0x5012, 1, 1, 4, 1, .gain, .rw, 138512695, .any⟩,  -- GF_KI_IL, R395
  ⟨0x5012, 1, 1, 5, 1, .gain, .rw, 289406976, .any⟩,  -- GF_KP_DC, R395
  ⟨0x5012, 1, 1, 6, 1, .gain, .rw, 121735479, .any⟩,  -- GF_KI_DC, R395
  ⟨0x5012, 1, 1, 7, 1, .gain, .rw, 291126640, (.rng (274877906944) (2199023255552))⟩,  -- GF_SOGI_GAIN, R395
  ⟨0x5012, 1, 1, 8, 1, .u16, .rw, 20, (.rng (1) (1000))⟩,  -- GF_RT_RELEASE, R395
  ⟨0x5012, 1, 1, 9, 1, .u16, .rw, 3000, (.rng (100) (60000))⟩,  -- GF_LIMIT_MAX, R395
  ⟨0x5013, 1, 1, 0, 1, .bool, .rw, 0, (.oneOf [0, 1])⟩,  -- GF_RC_ENABLE, R395
  ⟨0x5013, 1, 1, 1, 1, .u16, .rwc, 640, (.rng (64) (680))⟩,  -- GF_RC_LENGTH, R395
  ⟨0x5013, 1, 1, 2, 1, .gain, .rw, 0, .any⟩,  -- GF_RC_GAIN, R395
  ⟨0x5013, 1, 1, 3, 3, .q23, .rw, 0, .any⟩,  -- GF_RC_Q, R395
  ⟨0x5013, 1, 1, 6, 1, .u16, .rw, 0, .any⟩,  -- GF_RC_LEAD, R395
  ⟨0x5013, 1, 1, 7, 1, .pu, .rw, 838860, .any⟩  -- GF_RC_OUT_MAX, R395
]

/-- Rows of indices 0x5000 to 0x50FF, part 3. -/
def rows50_2 : List ObjRow := [
  ⟨0x5013, 1, 1, 8, 1, .u8, .wo, 0, (.oneOf [1])⟩,  -- GF_RC_CLEAR, R395
  ⟨0x5014, 1, 1, 0, 3, (.domain 2040 true), .rw, 0, .any⟩,  -- GF_RC_TABLE, R395
  ⟨0x5018, 1, 1, 0, 1, .u8, .wo, 0, (.rng 1 6)⟩,  -- GF_COMMAND, R396
  ⟨0x5018, 1, 1, 1, 1, .u8, .ro, 0, .any⟩,  -- GF_STATE, R396
  ⟨0x5018, 1, 1, 2, 1, .bool, .rw, 0, (.oneOf [0, 1])⟩,  -- GF_TIE, R396
  ⟨0x5018, 1, 1, 3, 1, .u16, .rw, 500, (.rng (10) (10000))⟩,  -- GF_BS_RAMP_TIME, R396
  ⟨0x5018, 1, 1, 4, 1, .u16, .rw, 100, (.rng (0) (10000))⟩,  -- GF_BS_SETTLE, R396
  ⟨0x5018, 1, 1, 5, 1, .u16, .rw, 5000, (.rng (100) (60000))⟩,  -- GF_BS_STALL_MAX, R396
  ⟨0x5018, 1, 1, 6, 1, .u32, .rw, 0, .any⟩,  -- GF_VDC_START_MIN, R396
  ⟨0x5018, 1, 1, 7, 1, .u32, .rw, 0, .any⟩,  -- GF_VDC_TRIP_LOW, R396
  ⟨0x5018, 1, 1, 8, 1, .u32, .rw, 4294967295, .any⟩,  -- GF_VDC_TRIP_HIGH, R396
  ⟨0x5018, 1, 1, 9, 1, .u8, .ro, 0, .any⟩,  -- GF_TRIP_CAUSE, R396
  ⟨0x5018, 1, 1, 10, 1, .pu, .rw, 419430, (.rng (41943) (4194304))⟩,  -- GF_ISUM_LIMIT, R396
  ⟨0x5019, 1, 1, 0, 1, .pu, .rw, 0, .any⟩,  -- GF_RT_V, R396
  ⟨0x5019, 1, 1, 2, 1, .pu, .rw, 0, .any⟩,  -- GF_RT_V, R396
  ⟨0x5019, 1, 1, 4, 1, .pu, .rw, 0, .any⟩,  -- GF_RT_V, R396
  ⟨0x5019, 1, 1, 6, 1, .pu, .rw, 0, .any⟩,  -- GF_RT_V, R396
  ⟨0x5019, 1, 1, 1, 1, .u16, .rw, 0, (.rng (0) (60000))⟩,  -- GF_RT_T, R396
  ⟨0x5019, 1, 1, 3, 1, .u16, .rw, 0, (.rng (0) (60000))⟩,  -- GF_RT_T, R396
  ⟨0x5019, 1, 1, 5, 1, .u16, .rw, 0, (.rng (0) (60000))⟩,  -- GF_RT_T, R396
  ⟨0x5019, 1, 1, 7, 1, .u16, .rw, 0, (.rng (0) (60000))⟩,  -- GF_RT_T, R396
  ⟨0x501a, 1, 1, 0, 1, .pu, .rw, 125829, .any⟩,  -- GF_SC_DV, R396
  ⟨0x501a, 1, 1, 1, 1, .pu, .rw, 8388, .any⟩,  -- GF_SC_DF, R396
  ⟨0x501a, 1, 1, 2, 1, .u8, .rw, 10, (.rng (1) (30))⟩  -- GF_SC_DPHI, R396
]

/-- Rows of indices 0x5000 to 0x50FF, part 4. -/
def rows50_3 : List ObjRow := [
  ⟨0x501a, 1, 1, 3, 1, .u16, .rw, 200, (.rng (20) (10000))⟩,  -- GF_SC_TIME, R396
  ⟨0x501a, 1, 1, 4, 1, .pu, .rw, 4194, (.rng (-16778) (16777))⟩,  -- GF_SC_SLIP, R396
  ⟨0x501a, 1, 1, 5, 1, .u16, .rw, 60, (.rng (0) (500))⟩,  -- GF_SC_CLOSE_TIME, R396
  ⟨0x501a, 1, 1, 6, 1, .u16, .rw, 60, (.rng (0) (3600))⟩,  -- GF_SC_UTIL_TIME, R396
  ⟨0x501a, 1, 1, 7, 1, .pu, .rw, 3774873, .any⟩,  -- GF_U_V_MIN, R396
  ⟨0x501a, 1, 1, 8, 1, .pu, .rw, 4613734, .any⟩,  -- GF_U_V_MAX, R396
  ⟨0x501a, 1, 1, 9, 1, .pu, .rw, 4110417, .any⟩,  -- GF_U_F_MIN, R396
  ⟨0x501a, 1, 1, 10, 1, .pu, .rw, 4278190, .any⟩  -- GF_U_F_MAX, R396
]

/-- Rows of indices 0x5000 to 0x50FF. -/
def rows50 : List ObjRow := rows50_0 ++ rows50_1 ++ rows50_2 ++ rows50_3

/-- Rows of grid-former contexts 0xC000 to 0xC1FF, part 1. -/
def rowsGfContext_0 : List ObjRow := [
  ⟨0xc032, 1, 1, 0, 1, .i32, .ro, 0, .any⟩,  -- GF_ROTOR_FREQ, R392
  ⟨0xc032, 1, 1, 1, 1, .u32, .ro, 0, .any⟩,  -- GF_ROTOR_ANGLE, R392
  ⟨0xc032, 1, 1, 2, 1, .i32, .ro, 0, .any⟩,  -- GF_P, R392
  ⟨0xc032, 1, 1, 3, 1, .i32, .ro, 0, .any⟩,  -- GF_Q, R392
  ⟨0xc032, 1, 1, 4, 1, .i32, .ro, 0, .any⟩,  -- GF_E_DROOP, R392
  ⟨0xc032, 1, 1, 5, 1, .i32, .ro, 0, .any⟩,  -- GF_E, R392
  ⟨0xc032, 1, 1, 6, 1, .u8, .ro, 0, .any⟩,  -- GF_WINNER, R392
  ⟨0xc032, 1, 1, 7, 1, .u16, .ro, 0, .any⟩,  -- GF_FLAGS, R392
  ⟨0xc033, 1, 1, 0, 4, .i32, .ro, 0, .any⟩,  -- GF_AMP, R392
  ⟨0xc033, 1, 1, 4, 1, .u32, .ro, 0, .any⟩,  -- GF_VDC, R392
  ⟨0xc033, 1, 1, 5, 1, .i32, .ro, 0, .any⟩,  -- GF_IDC, R392
  ⟨0xc033, 1, 1, 6, 1, .i32, .ro, 0, .any⟩,  -- GF_V_NE, R392
  ⟨0xc034, 1, 1, 0, 1, .i32, .ro, 0, .any⟩,  -- GF_U_FREQ, R392
  ⟨0xc034, 1, 1, 1, 1, .i32, .ro, 0, .any⟩,  -- GF_U_AMP, R392
  ⟨0xc034, 1, 1, 2, 1, .i32, .ro, 0, .any⟩,  -- GF_DELTA_V, R392
  ⟨0xc034, 1, 1, 3, 1, .i32, .ro, 0, .any⟩,  -- GF_DELTA_F, R392
  ⟨0xc034, 1, 1, 4, 1, .i32, .ro, 0, .any⟩,  -- GF_DELTA_PHI, R392
  ⟨0xc034, 1, 1, 5, 1, .u32, .ro, 0, .any⟩,  -- GF_UTIL_OK_TIME, R392
  ⟨0xc035, 1, 1, 0, 3, .i32, .ro, 0, .any⟩,  -- GF_V_AMP, R392
  ⟨0xc000, 8, 64, 1, 1, .bool, .rwc, 0, (.oneOf [0, 1])⟩,  -- _GC_CONFIGURED, R365
  ⟨0xc000, 8, 64, 2, 1, .u8, .rwc, 0, (.rng (0) (7))⟩,  -- _GC_FOLD, R365
  ⟨0xc000, 8, 64, 3, 1, .u8, .rwc, 255, .any⟩,  -- _GC_DOMAIN, R365
  ⟨0xc000, 8, 64, 4, 1, .u8, .rwc, 0, (.rng (0) (2))⟩,  -- _GC_SPECULATE, R365
  ⟨0xc000, 8, 64, 8, 1, .u16, .ro, 0, .any⟩  -- _GC_FULL_COST, R365
]

/-- Rows of grid-former contexts 0xC000 to 0xC1FF, part 2. -/
def rowsGfContext_1 : List ObjRow := [
  ⟨0xc000, 8, 64, 10, 1, .u8, .ro, 255, .any⟩,  -- _GC_LANE, R365
  ⟨0xc00f, 8, 64, 0, 8, .q23, .rw, 0, .any⟩,  -- _GC_CUSTOM_PARAM, R365
  ⟨0xc030, 8, 64, 0, 1, .u32, .ro, 0, .any⟩,  -- _GC_CYCLE_TAG, R365
  ⟨0xc030, 8, 64, 1, 1, .u32, .ro, 0, .any⟩,  -- _GC_AXIS_FLAGS, R365
  ⟨0xc030, 8, 64, 2, 1, .u8, .ro, 0, .any⟩,  -- _GC_PASS_KIND, R365
  ⟨0xc030, 8, 64, 5, 1, .u16, .ro, 65535, .any⟩,  -- _GC_COMMIT_TIME, R365
  ⟨0xc031, 8, 64, 4, 1, .u32, .ro, 0, .any⟩,  -- _GC_MISSED_DEADLINES, R365
  ⟨0xc031, 8, 64, 5, 1, .u32, .ro, 0, .any⟩,  -- _GC_OVERRUNS, R365
  ⟨0xc032, 8, 64, 0, 8, .u32, .ro, 0, .any⟩,  -- _GC_PUBLISH, R365
  ⟨0xc033, 8, 64, 0, 8, .u32, .ro, 0, .any⟩,  -- _GC_PUBLISH, R365
  ⟨0xc034, 8, 64, 0, 8, .u32, .ro, 0, .any⟩,  -- _GC_PUBLISH, R365
  ⟨0xc035, 8, 64, 0, 8, .u32, .ro, 0, .any⟩,  -- _GC_PUBLISH, R365
  ⟨0xc036, 8, 64, 0, 8, .u32, .ro, 0, .any⟩,  -- _GC_PUBLISH, R365
  ⟨0xc037, 8, 64, 0, 8, .u32, .ro, 0, .any⟩,  -- _GC_PUBLISH, R365
  ⟨0xc038, 8, 64, 0, 8, .u32, .ro, 0, .any⟩,  -- _GC_PUBLISH, R365
  ⟨0xc039, 8, 64, 0, 8, .u32, .ro, 0, .any⟩,  -- _GC_PUBLISH, R365
  ⟨0xc03a, 8, 64, 0, 8, .u32, .ro, 0, .any⟩,  -- _GC_PUBLISH, R365
  ⟨0xc03b, 8, 64, 0, 8, .u32, .ro, 0, .any⟩,  -- _GC_PUBLISH, R365
  ⟨0xc03c, 8, 64, 0, 8, .u32, .ro, 0, .any⟩,  -- _GC_PUBLISH, R365
  ⟨0xc03d, 8, 64, 0, 8, .u32, .ro, 0, .any⟩,  -- _GC_PUBLISH, R365
  ⟨0xc03e, 8, 64, 0, 8, .u32, .ro, 0, .any⟩,  -- _GC_PUBLISH, R365
  ⟨0xc03f, 8, 64, 0, 8, .u32, .ro, 0, .any⟩  -- _GC_PUBLISH, R365
]

/-- Rows of grid-former contexts 0xC000 to 0xC1FF. -/
def rowsGfContext : List ObjRow := rowsGfContext_0 ++ rowsGfContext_1

/-- Rows of microcode domains 0xD000 to 0xD3FF. -/
def rowsDomain : List ObjRow := [
  ⟨0xd000, 255, 4, 0, 1, .u8, .ro, 0, .any⟩,  -- DOMAIN_STATE, R324
  ⟨0xd000, 255, 4, 1, 1, .u32, .ro, 0, .any⟩,  -- DOMAIN_REJECT, R324
  ⟨0xd000, 255, 4, 2, 1, .u8, .rwc, 0, (.oneOf [1])⟩,  -- DOMAIN_COMMIT, R324
  ⟨0xd000, 255, 4, 3, 1, .u16, .ro, 0, .any⟩,  -- CODE_LENGTH, R324
  ⟨0xd000, 255, 4, 4, 1, .u16, .ro, 0, .any⟩,  -- DOMAIN_FLAGS, R324
  ⟨0xd000, 255, 4, 5, 1, .u8, .ro, 0, .any⟩,  -- FOLDS_LOADED, R324
  ⟨0xd001, 255, 4, 0, 1, (.domain 65536 false), .rwc, 0, .any⟩  -- DOMAIN_IMAGE, R324
]

/-- The rows of an axis area offset (R60). -/
def axisRows (off : Nat) : List ObjRow :=
  match off with
  | 0x0 => axisRows00
  | 0x1 => axisRows01
  | 0x2 => axisRows02
  | 0x3 => axisRows03
  | 0x4 => axisRows04
  | 0x5 => axisRows05
  | 0x6 => axisRows06
  | 0x7 => axisRows07
  | 0x8 => axisRows08
  | 0x9 => axisRows09
  | 0xa => axisRows0A
  | 0xb => axisRows0B
  | 0xc => axisRows0C
  | 0xd => axisRows0D
  | 0xe => axisRows0E
  | 0xf => axisRows0F
  | 0x10 => axisRows10
  | 0x11 => axisRows11
  | 0x12 => axisRows12
  | 0x13 => axisRows13
  | 0x14 => axisRows14
  | 0x18 => axisRows18
  | 0x19 => axisRows19
  | 0x1a => axisRows1A
  | 0x1b => axisRows1B
  | 0x1c => axisRows1C
  | 0x1d => axisRows1D
  | 0x1e => axisRows1E
  | 0x1f => axisRows1F
  | 0x20 => axisRows20
  | 0x21 => axisRows21
  | 0x22 => axisRows22
  | 0x23 => axisRows23
  | 0x28 => axisRows28
  | 0x29 => axisRows29
  | 0x30 => axisRows30
  | 0x31 => axisRows31
  | 0x32 => axisRows32
  | 0x33 => axisRows33
  | 0x34 => axisRows34
  | 0x35 => axisRows35
  | 0x36 => axisRows36
  | 0x37 => axisRows37
  | 0x38 => axisRows38
  | 0x39 => axisRows39
  | 0x3a => axisRows3A
  | 0x3b => axisRows3B
  | 0x3c => axisRows3C
  | 0x3d => axisRows3D
  | 0x3e => axisRows3E
  | 0x3f => axisRows3F
  | _ => []

/-- The rows in which an index can stand (R59). -/
def areaRows (idx : Nat) : List ObjRow :=
  if 0xA000 ≤ idx ∧ idx < 0xC000 then axisRows ((idx - 0xA000) % 0x40)
  else if 0xC000 ≤ idx ∧ idx < 0xC200 then rowsGfContext
  else if 0xD000 ≤ idx ∧ idx < 0xD3FE then rowsDomain
  else match idx / 256 with
  | 0x1 => rows01
  | 0x2 => rows02
  | 0x3 => rows03
  | 0x4 => rows04
  | 0x5 => rows05
  | 0x6 => rows06
  | 0x7 => rows07
  | 0x8 => rows08
  | 0x20 => rows20
  | 0x28 => rows28
  | 0x2c => rows2C
  | 0x30 => rows30
  | 0x31 => rows31
  | 0x34 => rows34
  | 0x35 => rows35
  | 0x40 => rows40
  | 0x50 => rows50
  | _ => []

end Sys2Proof.Machine
end

