-- ==== Sys2Proof/Machine/Sha256.lean ====
section
/-! DEFINITION. Machine/Sha256.lean: HMAC-SHA-256, the published standard R8 names for Tally-over-UDP session authentication
(R88: a tag is its first 128 bits). -/

namespace Sys2Proof.Machine

/-- Addition modulo 2 ^ 32. -/
def add32 (a b : Nat) : Nat := (a + b) % 4294967296

/-- Rotation of a 32-bit word right. -/
def rotr32 (x n : Nat) : Nat := ((x >>> n) ||| (x <<< (32 - n))) % 4294967296

/-- The largest r below 2 ^ n, added to r, whose k-th power does not exceed v: one bit at a time. -/
def rootFrom (k v : Nat) : Nat → Nat → Nat
  | 0, r => r
  | n + 1, r => rootFrom k v n (if (r + 2 ^ n) ^ k ≤ v then r + 2 ^ n else r)

/-- A number has no divisor from 2 up to itself. -/
def isPrime (p : Nat) : Bool := decide (2 ≤ p) && (List.range p).all (fun q => decide (q < 2) || p % q != 0)

/-- The first sixty-four primes: those up to 311. -/
def shaPrimes : List Nat := (List.range 312).filter isPrime

/-- The first 32 bits of the fraction of a prime's k-th root, which is below 32. -/
def rootFraction (k p : Nat) : Nat := rootFrom k (p * 2 ^ (32 * k)) 37 0 % 2 ^ 32

/-- The round constants: of the cube roots of the first sixty-four primes. -/
def shaK : List Nat := shaPrimes.map (rootFraction 3)

/-- The initial hash words: of the square roots of the first eight primes. -/
def shaInit : List Nat := (shaPrimes.take 8).map (rootFraction 2)

/-- The next message word from the sixteen words before it, newest last. -/
def shaNextW (w : List Nat) : Nat :=
  let g := fun i => getAt 0 w i
  let s0 := rotr32 (g 1) 7 ^^^ rotr32 (g 1) 18 ^^^ (g 1 >>> 3)
  let s1 := rotr32 (g 14) 17 ^^^ rotr32 (g 14) 19 ^^^ (g 14 >>> 10)
  add32 (add32 (g 0) s0) (add32 (g 9) s1)

/-- One round on the eight working words. -/
def shaRound (h : List Nat) (k w : Nat) : List Nat :=
  let g := fun i => getAt 0 h i
  let e := g 4
  let s1 := rotr32 e 6 ^^^ rotr32 e 11 ^^^ rotr32 e 25
  let ch := (e &&& g 5) ^^^ ((4294967295 - e) &&& g 6)
  let t1 := add32 (add32 (g 7) s1) (add32 ch (add32 k w))
  let a := g 0
  let s0 := rotr32 a 2 ^^^ rotr32 a 13 ^^^ rotr32 a 22
  let mj := (a &&& g 1) ^^^ (a &&& g 2) ^^^ (g 1 &&& g 2)
  [add32 t1 (add32 s0 mj), g 0, g 1, g 2, add32 (g 3) t1, g 4, g 5, g 6]

/-- The rounds of one block: constants left, the window of sixteen message words, the working words. -/
def shaRounds : List Nat → List Nat → List Nat → List Nat
  | [], _, h => h
  | k :: ks, w, h => shaRounds ks (w.drop 1 ++ [shaNextW w]) (shaRound h k (getAt 0 w 0))

/-- The sixteen words of a 64-byte block. -/
def shaWords (b : List Byte) : List Nat := (List.range 16).map (fun i => fieldAt b (4 * i) 4)

/-- The hash words after n blocks of a padded message. -/
def shaBlocks : Nat → List Byte → List Nat → List Nat
  | 0, _, h => h
  | n + 1, m, h =>
    shaBlocks n (m.drop 64) (List.zipWith add32 h (shaRounds shaK (shaWords (m.take 64)) h))

/-- SHA-256 of a byte string. -/
def sha256 (m : List Byte) : List Byte :=
  let padding := (64 - (m.length + 9) % 64) % 64
  let p := m ++ [0x80] ++ List.replicate padding 0 ++ beBytes 8 (8 * m.length)
  (shaBlocks (p.length / 64) p shaInit).flatMap (beBytes 4)

/-- HMAC-SHA-256 with a key of at most 64 bytes. -/
def hmacSha256 (key m : List Byte) : List Byte :=
  let k := key ++ List.replicate (64 - key.length) 0
  sha256 (k.map (fun b => b ^^^ 0x5C) ++ sha256 (k.map (fun b => b ^^^ 0x36) ++ m))

/-- A Tally datagram tag: the first 128 bits (R88). -/
def udpTag (key m : List Byte) : List Byte := (hmacSha256 key m).take 16

end Sys2Proof.Machine
end

