-- ==== Sys2Proof/Machine/State.lean ====
section
/-! DEFINITION. Machine/State.lean: everything the spec gives the block, as plain data. The objects of the dictionary stand in one
sparse table (Dev.dict) and the DOMAIN values in another (Dev.blobs): an object not listed reads as its built-in default
(Machine/ObjTable.lean). What the dictionary does not show stands in the structures below, one per chapter of spec/. The RAM of R554
stands apart in Mem. The queue of waiting commands is State.pending. -/

namespace Sys2Proof.Machine

/-- Why a command cannot be run. Raised only for a command that no sender can put on the block's pins or wires. -/
inductive Fault where
  /-- The command's data break the form of the wire or of the pins that carry it (WellFormed.lean says how). Raised by the meanings
  of the commands that carry such data. Safe: the machine stops where the hardware can meet no such event. -/
  | illFormed
deriving DecidableEq, Repr

/-- Why a command has no meaning in the model. -/
inductive Refusal where
  /-- Raised by Dispatch.lean for a command not modelled yet. Safe. -/
  | notModelled (mnemonic : String)
deriving DecidableEq, Repr

/-! Chapters 01 and 02: device state, the Tally engine, the host port, Tally over UDP, CAN FD, events. -/

/-- A write accepted by the Tally engine and not yet in effect (R65), in order of acceptance. -/
structure QueuedWrite where
  src : Src
  /-- Index × 256 + subindex. -/
  key : Nat
  /-- The held value; a DOMAIN write holds its value in data. -/
  val : Nat
  /-- The DOMAIN value as it stands with this segment (R621). -/
  data : List Byte
  /-- The instant of acceptance, in ns of Dev.now. -/
  acceptedAt : Nat
  /-- Position in the order of acceptance over all sources. -/
  seq : Nat
deriving DecidableEq, Repr

/-- An entry of the timed-action list (R66). -/
structure TimedWrite where
  w : QueuedWrite
  /-- The instant, seconds and nanoseconds. -/
  sec : Nat
  ns : Nat
deriving DecidableEq, Repr

/-- A state transition that waits for its cycle boundary (R31). -/
inductive Transition where
  | none | toConfig | toReady | toRun | toService | toSafeHold
deriving DecidableEq, Repr

/-- The boot step in progress (R589). -/
inductive BootStep where
  /-- Held in reset or without supplies. -/
  | held
  /-- The boot header was bad or could not be read, or neither safety block copy is valid (R591, R596, R597). -/
  | headerBad
  /-- Float done; the synthesisers lock. -/
  | lock
  /-- Dictionary loaded; the end of the sequence is awaited. -/
  | loaded
  /-- The boot sequence is complete. -/
  | done
deriving DecidableEq, Repr

/-- Device-level control (R29 to R39, R584 to R592). -/
structure DevCtl where
  trans : Transition
  /-- The SAFE-HOLD sequence runs from the decision to the entry (R39). -/
  holding : Bool
  /-- The instant of the decision. -/
  decidedAt : Nat
  /-- The STO step has been taken. -/
  stoDone : Bool
  /-- The fold whose axes receive STO at the decision (cause 0x0002). -/
  failedFold : Option Nat
  /-- VCORE, VSER, VPLL, VIO1 to VIO4, VFUSE in range, in this order. -/
  supplies : List Bool
  /-- RESET_N is high. -/
  resetN : Bool
  boot : BootStep
  /-- A SAFE-HOLD cause is left to the standby: no controlled stop, no STO step (R38). -/
  handed : Bool
  /-- A SAFE-HOLD cause found in this command, with the failed fold of cause 0x0002 (R37). -/
  causeReq : Option (Nat × Nat)
  /-- The boot origin of R587. -/
  bootOrigin : Nat
  /-- The clock period of the boundary at which RUN was entered: the carriers of the legs count from there (R409). -/
  enteredRunAt : Nat
  /-- Discovery was complete at the last boundary in CONFIG: AUTO_READY asks no more (R590). -/
  autoAsked : Bool
deriving DecidableEq, Repr

/-- One dictionary image copy in the boot flash (R53 to R57). -/
structure ImageCopy where
  objs : List (Nat × Nat)
  doms : List (Nat × List Byte)
  /-- The safety part: the block in force at the snapshot (R56). -/
  safety : Option (List (Nat × Nat))
  /-- The CRC-32C stored with the safety part. -/
  safetyCrc : Nat
  /-- The stepping field. -/
  stepping : Nat
  /-- The image's own CRC-32C holds. -/
  crcOk : Bool
deriving DecidableEq, Repr

/-- A save in progress (R54). -/
structure SaveJob where
  acceptedAt : Nat
  /-- Written from a safety session. -/
  safety : Bool
  /-- The snapshot, once taken. -/
  snap : Option ImageCopy
deriving DecidableEq, Repr

/-- What the boot flash holds (R54 to R57, R546, R575, R596, R597). -/
structure Flash where
  copy0 : Option ImageCopy
  copy1 : Option ImageCopy
  /-- Copy 1 is the current one. -/
  current1 : Bool
  /-- The boot header is readable and good (R596). -/
  headerOk : Bool
  /-- Each copy of the boot safety block is good (R597). -/
  block0Ok : Bool
  block1Ok : Bool
  /-- The health area's copy is good (R575). -/
  healthOk : Bool
deriving DecidableEq, Repr

/-- The Tally engine (R64 to R70). -/
structure Tally where
  queue : List QueuedWrite
  timed : List TimedWrite
  accSeq : Nat
  /-- DOMAIN values as written so far, by key (R621). -/
  staging : List (Nat × List Byte)
  /-- The pending safety parameter block: the parameters written in it (R64). -/
  pendingBlock : Option (List (Nat × Nat))
  /-- Committed blocks that wait for their safety tick, oldest first; true once a boundary has passed (R64). -/
  committed : List (Bool × Nat × List (Nat × Nat))
  save : Option SaveJob
  restoring : Bool
deriving DecidableEq, Repr

/-- An event record (R97). -/
structure EventRecord where
  source : Nat
  cls : Nat
  seq : Nat
  /-- TIME80 of the occurrence. -/
  time : Nat
  data : Nat
  occ : Nat
deriving DecidableEq, Repr

/-- The event queue of the host port (R96 to R98). -/
structure EventQ where
  /-- The device-wide record count. -/
  seq : Nat
  queue : List EventRecord
  /-- Records dropped since the queue was last full. -/
  episode : Nat
deriving DecidableEq, Repr

/-- A Tally-over-UDP session slot (R86 to R90). -/
structure Session where
  isOpen : Bool
  safety : Bool
  ip : Nat
  port : Nat
  /-- The Ethernet port its OPEN came in on. -/
  eth : Nat
  /-- The session key KS. -/
  key : List Byte
  seqRx : Nat
  seqTx : Nat
  lastValidAt : Nat
deriving DecidableEq, Repr

/-- Access: the host port and Tally over UDP (R76, R83, R89). -/
structure Access where
  /-- A HOST_MODE that waits for a rising edge of HSP_CS_N. -/
  modeReq : Option Nat
  sessions : List Session
  /-- Instants of the failed OPEN datagrams of the last second. -/
  openFails : List Nat
  /-- OPEN is ignored until the block ends. -/
  openBlocked : Bool
  blockedAt : Nat
  /-- The set a reader received last, as its cycle tag + 1: the host port is reader 0, session s is 1 + s; reader × 136 + context
  (R74). -/
  seen : List (Nat × Nat)
deriving DecidableEq, Repr

/-- A CAN FD port (R92, R94). -/
structure CanPort where
  txq : List CanFrame
  /-- Received frames with the TIME80 of their start of frame. -/
  rxq : List (CanFrame × Nat)
  txErr : Nat
  rxErr : Nat
  busOff : Bool
deriving DecidableEq, Repr

/-! Chapter 03: the time base. -/

/-- A synthesiser (R110 to R130). Its state, band and offset stand in the dictionary. -/
structure Pll where
  /-- The band of the last lock, kept while VCORE is present; none before the first (R113, R143). -/
  lastBand : Option Nat
  /-- W and N in use since the last lock began (R140, R141). -/
  window : Nat
  count : Nat
  /-- PLL-S: dither and its seed in use since the last lock began (R112, R141). -/
  dither : Bool
  seed : Nat
  /-- The 32-bit maximal-length sequence whose dither the PLL-S modulator adds (R112). -/
  sequence : Nat
  /-- The relock target, ppb from nominal. -/
  target : Int
  /-- The instant at which the band search began (R113). -/
  searchAt : Nat
  /-- The instant from which the N lock cycles count: the end of the band search, or the last swallowed period (R114, R125). -/
  countFrom : Nat
  /-- The phase build-out register, ps (R130). -/
  buildOut : Int
  /-- A lock has been declared since BOOT. -/
  everLocked : Bool
  /-- The reference was lost during the relock; it restarts when an input qualifies (R127). -/
  suspended : Bool
deriving DecidableEq, Repr

/-- The time base (R100 to R137). -/
structure TimeBase where
  pllT : Pll
  pllS : Pll
  /-- The input last active, 0xFF before the first. -/
  lastRef : Nat
  /-- For REFIN and REFIN2, the instant since which the edges can have been present: the last loss, or the entry to BOOT (R102). -/
  refFrom : List Nat
  /-- The counter runs (R131). -/
  running : Bool
  sec : Nat
  ns : Nat
  /-- The fraction below the nanosecond, 2⁻¹⁶ ns. -/
  frac : Nat
  /-- Clock periods since the last slew mark (R120). -/
  sinceMark : Nat
  /-- Nanoseconds by which a carry has put the counter past the last profile tick, 0 or 1 (R120, R136). -/
  ahead : Nat
  /-- Clock periods since the first PLL-T lock after BOOT, and the period of the last SDCLK edge taken (R136). -/
  periods : Nat
  sdLast : Nat
  /-- The backup compensation of R123, units of 2⁻¹⁶ ns per 1,000 ns. -/
  comp : Int
  /-- Small steps that wait, ppb: one is applied at a time, 1 µs apart (R117). -/
  stepQ : List Int
  /-- Offset before the last small step, and its instant (R104, R117). -/
  prevOffset : Int
  lastStepAt : Option Nat
  /-- A PLL-S setting was written since the last PLL-S lock (R129). -/
  plsWritten : Bool
  /-- A PLL-T relock that waits for the PLL-S lock, with the change of frequency it makes, ppb (R129). -/
  tRelock : Option Int
  /-- A relock of both synthesisers that waits for the end of a relock of PLL-T (R129). -/
  bothPending : Bool
  /-- The SerDes stand still until the return of R125 (R129). -/
  serdesStopped : Bool
  /-- A requested TIME80 step: the instant to set, in ns since 0 s (R132). -/
  stepReq : Option Nat
  /-- A requested step of the time service: the offset to remove, ns (R164). -/
  serviceStep : Option Int
  /-- The time service holds its frequency steps until the return of R125 (R128). -/
  heldService : Bool
deriving DecidableEq, Repr

/-- An IEEE 1588 message the ordinary clock sends (R161, R162). -/
structure PtpMsg where
  /-- messageType: 0x0 Sync, 0x1 Delay_Req, 0x9 Delay_Resp, 0xB Announce. -/
  kind : Nat
  identity : Nat
  portNumber : Nat
  domain : Nat
  seq : Nat
  corr : Nat
  /-- The timestamp field, TIME80. -/
  stamp : Nat
  /-- 0x00 UDP/IPv4, 0x01 IEEE 802.3. -/
  transport : Nat
  /-- logMessageInterval, 8 bits. -/
  log : Nat
  /-- Delay_Resp: the requesting port; Announce: priority1, clockClass, priority2. -/
  extra : List Nat
deriving DecidableEq, Repr

/-- What an Ethernet frame of the Thoek carries. -/
inductive EthPayload where
  /-- A forwarded frame, without its FCS. -/
  | raw (bytes : List Byte)
  | ptp (m : PtpMsg)
  /-- A UDP/IPv4 datagram from the own address: destination, ports, payload. -/
  | udp (dstIp dstPort srcPort : Nat) (bytes : List Byte)
  /-- An ARP reply for an own address (R85): who asked, and the address answered. -/
  | arp (dstMac dstIp ownIp : Nat)
deriving DecidableEq, Repr

/-- An Ethernet frame as it leaves, without its FCS; multi-byte fields most significant byte first (R12). -/
inductive EthFrame where
  /-- A forwarded frame, whole. -/
  | raw (bytes : List Byte)
  /-- An own frame outside IPv4: addresses, EtherType, contents. -/
  | ieee (dst src etherType : Nat) (bytes : List Byte)
  /-- An own IPv4 datagram: the address of the next hop on the link, destination, source, and the datagram from its UDP header on. -/
  | ipv4 (hop dst src : Nat) (bytes : List Byte)
deriving DecidableEq, Repr

/-! Chapter 04: Ethernet and the time service. -/

/-- A frame that waits at an egress port (R145, R146). -/
structure EthQueued where
  /-- 0 forwarded event message, 1 own IEEE 1588 message, 2 any other (R146). -/
  cls : Nat
  payload : EthPayload
  /-- The ingress stamp of a forwarded event message, ns since 0 s. -/
  ingress : Option Int
  /-- The pool channel and the buffers held (R219). -/
  channel : Nat
  buffers : Nat
deriving DecidableEq, Repr

/-- An Ethernet port (R144 to R148). Link and counters stand in the dictionary. -/
structure EthPort where
  busy : Bool
  queue : List EthQueued
  /-- Channel and buffers of the frame being sent. -/
  sending : Option (Nat × Nat)
deriving DecidableEq, Repr

/-- A master heard on the PTP port (R159). -/
structure ForeignMaster where
  identity : Nat
  port : Nat
  ingress : Nat
  /-- The data set in order of comparison. -/
  key : List Nat
  /-- The instant of the Announce that qualified it, once one has (R159). -/
  since : Option Nat
  lastAt : Nat
  count : Nat
  /-- The Announce interval, ns. -/
  interval : Nat
  utc : Nat
deriving DecidableEq, Repr

/-- The ordinary clock and its servo (R158 to R168). -/
structure Ptp where
  foreign : List ForeignMaster
  annInterval : Nat
  lastAnnAt : Nat
  syncInterval : Nat
  lastSyncAt : Nat
  /-- The open Sync: sequence, t1 once known, t2, correction in 2⁻¹⁶ ns. -/
  syncSeq : Nat
  t1 : Option Int
  t2 : Int
  corrSync : Int
  /-- The open Delay_Req: sequence and t3. -/
  reqSeq : Nat
  t3 : Option Int
  /-- The Delay_Req interval of the master, ns, once a Delay_Resp has given it, and the instant of the last Delay_Req (R161). -/
  reqInterval : Option Nat
  reqAt : Option Nat
  /-- Path delays of the last pairs, 2⁻¹⁶ ns, newest first. -/
  delays : List Int
  /-- Offsets of the last acquisition samples with their instants, ns, newest first. -/
  samples : List (Int × Int)
  acqCount : Nat
  /-- y_f, 2⁻¹⁶ ppb (R165). -/
  yf : Int
  clampedLast : Bool
  /-- The last accepted offset, once there is one. -/
  lastO : Option Int
  outliers : Nat
  inLock : Nat
  outLock : Nat
  /-- Updates since y was last clamped; none before the first clamp (R168). -/
  unclamped : Option Nat
  /-- y in force after its clamp, 2⁻¹⁶ ppb, and the part of its correction that PLL-T carries, ppb (R166). -/
  y : Int
  pllPart : Int
  annSeq : Nat
  masterSyncSeq : Nat
deriving DecidableEq, Repr

/-! Chapter 05: the drive rings. -/

/-- Where the discovery of a ring stands (R204, R215). -/
inductive RingPhase where
  /-- Bypass closed. -/
  | off
  /-- Bypass open, discovery runs. -/
  | discovering
  /-- Discovery complete. -/
  | complete
  /-- Steps 4 and 5 are repeated after a write. -/
  | repeating
deriving DecidableEq, Repr

/-- A position of a ring as discovery found it, and what its uplink blocks report. -/
structure RingNode where
  kind : Nat
  axes : Nat
  revision : Nat
  /-- One-way delays from the ports, ns; 0 when a port did not reach it. -/
  dEast : Nat
  dWest : Nat
  /-- NODE_STATUS of its last block (R188). -/
  status : Nat
  /-- A good block came in this cycle. -/
  got : Bool
  /-- Consecutive cycles without a block. -/
  missing : Nat
  lost : Bool
  /-- It has shown the STO flag since the halt frame of the full self-test (R459). -/
  halted : Bool := false
deriving DecidableEq, Repr

/-- A management request that waits for its reply (R203). -/
structure RingRequest where
  /-- The port it left by: 0 east, 1 west. -/
  port : Nat
  dest : Nat
  msgType : Nat
  seq : Nat
  payload : List Byte
  tries : Nat
  sentAt : Nat
deriving DecidableEq, Repr

/-- A ring (R177 to R217). Status, counts and delays stand in the dictionary. -/
structure Ring where
  phase : RingPhase
  /-- The links at the east and west ports are healthy. -/
  eastUp : Bool
  westUp : Bool
  nodes : List RingNode
  closed : Bool
  split : Nat
  /-- Links declared lost, with the instants at which the Thoek learnt of them (R208). -/
  lostLinks : List (Nat × Nat)
  /-- The fold plan in use at the last deadline: its lost links. -/
  plan : List Nat
  healRequested : Bool
  /-- HEAL_CHECK has been sent; it has been answered by both sides. -/
  healChecking : Bool
  healAnswers : List Nat
  /-- Its SerDes have passed their internal loopback since they last had a clock (R215). -/
  looped : Bool
  /-- The arrival of the last block of this cycle, ns from its sample instant (R220). -/
  lastBlock : Nat
  /-- The count of cycles at the last re-measurement (R206). -/
  remeasured : Nat
  /-- Drove frames are being sent. -/
  sending : Bool
  msgSeq : Nat
  requests : List RingRequest
  /-- The next positions to re-measure in the east and west half (R206). -/
  remeasureEast : Nat
  remeasureWest : Nat
  /-- The takeover plan: own position, and D_x(s) + F_s toward the east and the west half (R512). -/
  takeover : Option (Nat × Nat × Nat)
  /-- The delay from the home port as written to this unit as a position (R190). -/
  homeDelay : Nat
  /-- Its own position and home port as this unit knows them as a position: 0, and none, unknown (R190, R203, R207). -/
  ownPos : Nat
  home : Option Nat
  /-- A DISCOVER copy has come back at the opposite port (R204). -/
  returned : Bool
deriving DecidableEq, Repr

/-- What both rings share (R199, R213). -/
structure RingCtl where
  /-- The highest epoch seen: in IDENT, in drove frames, over the twin link, or used. -/
  epochSeen : Nat
  haltSeq : Nat
deriving DecidableEq, Repr

/-- A command record as sent (R187). -/
structure CommandRecord where
  localAxis : Nat
  enable : Bool
  dutyA : Int
  dutyB : Int
  dutyC : Int
  aux : Nat
  carrier : Nat
deriving DecidableEq, Repr

/-- A downlink node block as sent (R186). -/
structure DownBlock where
  position : Nat
  records : List CommandRecord
  /-- The 48-byte safe slot where the node has one. -/
  safe : Option (List Byte)
  crc : Nat
deriving DecidableEq, Repr

/-- A downlink drove frame as sent (R184). -/
structure DroveFrame where
  epoch : Nat
  cycleTag : Nat
  cycleStart : Nat
  lead : Nat
  cycleLen : Nat
  stoGroups : Nat
  turn : Nat
  folded : Bool
  noRun : Bool
  hdrCrc : Nat
  blocks : List DownBlock
deriving DecidableEq, Repr

/-! The control cycle (R24, R71, R136). -/

/-- The cycle. The cycle length has no dictionary object: R24 and R136 make it programmable and name none (DEDUCED, log entry 29). -/
structure Cyc where
  /-- The cycle length, ns. -/
  len : Nat
  /-- The cycle tag of the present cycle (R71). -/
  tag : Nat
  /-- The instant of the last cycle boundary, and its TIME80 in ns since 0 s. -/
  startAt : Nat
  startTime : Nat
  /-- The instant of the next cycle boundary (R136, R516). -/
  nextAt : Nat
  /-- Cycle boundaries since BOOT. -/
  count : Nat
  /-- The dispatch deadline of the present cycle has passed. -/
  dispatched : Bool
deriving DecidableEq, Repr


/-! Chapters 06 and 07: the axis engine, the servo library. -/

/-- The set-points latched at the sample instant (R283). -/
structure SetPoint where
  pos : Nat
  nff : Int
  analogue : Int
  pulse : Nat
deriving DecidableEq, Repr

/-- What a pass hands over: to its commit, or to the set pass (R237, R311). -/
inductive PassResult where
  /-- The vendor servo library: state, outputs, publish words, the table entry it learns, branch outcomes in order. -/
  | servo (st : Servo) (out : Outputs) (pub : List (Nat × Nat)) (rc : Option (Nat × Int)) (br : List Nat)
  /-- The vendor grid-former library: state, leg requests, publish words, table entries it learns, events. -/
  | grid (st : Grid) (legs : List (Nat × Nat)) (pub : List (Nat × Nat)) (rc : List (Nat × Nat × Int)) (events : List (Nat × Nat))
      (trip : Nat)
  /-- A customer domain: bytes of the shadow region by window byte address, mailbox words written. -/
  | code (stores : List (Nat × Nat)) (mbox : List (Nat × Nat))
deriving DecidableEq, Repr

/-- Where a context's work of the cycle stands (R242). -/
structure Work where
  /-- 0 none, 1 ready, 2 running, 3 handed to the set pass, 4 gone. -/
  skim : Nat
  /-- 0 feedback not ready, 1 ready, 2 running, 3 committed, 4 stopped for this cycle. -/
  full : Nat
deriving DecidableEq, Repr

/-- An axis or grid-former context. Configuration, counters and published results stand in the dictionary. -/
structure Axis where
  /-- The last accepted values before this cycle, newest first (x₁, x₂). -/
  hist : List Fb
  /-- Accepted in this cycle. -/
  cur : Option Fb
  sampleCount : Nat
  counted : Bool
  auxIn : Nat
  temp : Nat
  status : Nat
  /-- Whether a record was accepted in the last two cycles, newest first. -/
  accepted : List Bool
  /-- Feedback ready, ns from the sample instant (R231). -/
  readyAt : Option Nat
  /-- The prediction of this cycle's skim pass (R234). -/
  pred : Option Fb
  /-- Consecutive cycles without an accepted record; SAMPLE_COUNT failed to advance in every one of them. -/
  late : Nat
  stuckAll : Bool
  /-- Why no record has been accepted in this cycle (R259, event 0xC0). -/
  lateDetail : Nat
  freeze : Nat
  miss : Nat
  /-- A commit in each of the last cycles, newest first. -/
  commits : List Bool
  /-- AXIS_FLAGS of this cycle as far as they are known before the deadline. -/
  flags : Nat
  commitAt : Option Nat
  recomputed : Bool
  /-- The cause decided for this cycle's deadline, 0 none. -/
  due : Nat
  work : Work
  skim : Option PassResult
  /-- The committed outputs and publish words. -/
  out : Outputs
  pub : List (Nat × Nat)
  servo : Servo
  sp : SetPoint
  /-- Pulse source: accumulated demand, whether the stage was off in the cycle before, the advances of the last cycles, newest first (R275, R285). -/
  pulseDem : Nat
  pulseOff : Bool
  pulseAdv : List Int
  /-- SPECULATE and PREDICT as of the last request for READY; skimmed in this configuration. -/
  predict : Nat
  skimmed : Bool
  /-- The history is seeded at the next accepted record (R513). -/
  seed : Bool
  /-- The counters of B+0x31 since BOOT, SKIMS to SAMPLE_SKIPS, as the next set will show them (R253). -/
  counts : List Nat
  /-- A results set has been published since BOOT (R75). -/
  published : Bool
  /-- The domain whose publish words these are, 255 none (R253). -/
  dom : Nat
deriving DecidableEq, Repr

/-! Chapter 08: folds and lanes. -/

/-- One register bank of a lane (R294). -/
structure Bank where
  d : List Nat
  a : List Int
  p : List Nat
  m : List Nat
  lc : Nat
  flags : Nat
  stack : List Nat
  pc : Nat
deriving DecidableEq, Repr

/-- A register a result lands in. -/
inductive LReg where
  | d (i : Nat)
  | a (i : Nat)
  | p (i : Nat)
  | m (i : Nat)
  | lc
  /-- The flags of a mask. -/
  | flags (mask : Nat)
deriving DecidableEq, Repr

/-- A result in flight (R302). -/
structure Flight where
  reg : LReg
  val : Int
  landAt : Nat
  /-- Readable one instruction later as an accumulator. -/
  early : Bool
deriving DecidableEq, Repr

/-- A store in flight: window bytes or a mailbox word with its mask (R302, R311). -/
structure StoreFlight where
  landAt : Nat
  mbox : Bool
  /-- Window byte address, or mailbox word. -/
  addr : Nat
  /-- The bits written: 24 or 32; a window store lists its bytes, so each entry holds one. -/
  width : Nat
  val : Nat
deriving DecidableEq, Repr

/-- A transcendental result slot (R315). -/
structure TuSlot where
  func : Nat
  a : Nat
  b : Nat
  ready : Bool
  r0 : Nat
  r1 : Nat
  bad : Bool
deriving DecidableEq, Repr

/-- A pass that runs on a lane. -/
structure Pass where
  ctx : Nat
  /-- 0 full, 1 skim, 2 recompute. -/
  kind : Nat
  domain : Nat
  startAt : Nat
  /-- Instructions counted for R302. -/
  n : Nat
  flight : List Flight
  stores : List StoreFlight
  shadow : List (Nat × Nat)
  mbox : List (Nat × Nat)
  /-- Executions the repeated instruction still has (R305). -/
  rep : Option Nat
  /-- A stop that waits for the REP: 1 missed deadline, 2 overrun (R307). -/
  stop : Nat
deriving DecidableEq, Repr

/-- A lane (R294, R313, R572). -/
structure Lane where
  banks : List Bank
  cur : Nat
  t0 : Option TuSlot
  t1 : Option TuSlot
  run : Option Pass
  /-- Consecutive measurements above 2,450 ns. -/
  slow : Nat
  /-- A retirement that takes effect at the next boundary: its LANE_STATE code. -/
  retire : Nat
  /-- Good measurements and self-test since retirement, for RETIRE_CLEAR (R574). -/
  goodRuns : Nat
  /-- The lane would pass its self-test (R573). -/
  sound : Bool
deriving DecidableEq, Repr

/-- A fold (R17). -/
structure Fold where
  lanes : List Lane
  /-- Windows of the bound contexts: context and base, words (R308). -/
  windows : List (Nat × Nat)
  /-- Bases of the loaded domains in the microcode store: domain and first instruction (R322). -/
  code : List (Nat × Nat)
  /-- Shared constants of the loaded domains: domain and base, words. -/
  shared : List (Nat × Nat)
  /-- The spare is in use and R35 applies. -/
  reduced : Bool
  /-- Squashes on each lane in this cycle. -/
  squashes : List Nat
deriving DecidableEq, Repr

/-- A domain image under check (R320): the verdict of the loader and the instruction it names. -/
structure DomainCheck where
  domain : Nat
  reason : Nat
  instr : Nat
deriving DecidableEq, Repr

/-! Chapter 09: profile generators and the pulse engine. -/

/-- A pulse input (R356): filtered levels, the live count, the count latched a cycle earlier. -/
structure PulseIn where
  a : Bool
  b : Bool
  z : Bool
  count : Nat
  last : Nat
deriving DecidableEq, Repr

/-- A pulse output (R357): the position issued so far, pin levels. -/
structure PulseOut where
  issued : Nat
  a : Bool
  b : Bool
deriving DecidableEq, Repr

/-! Chapter 11: leg ports and sense ports. -/

/-- An EDGE record waiting at a port: STATE code and instant in 1/16 ns since 0 s (R402, R409). -/
structure Edge where
  state : Nat
  at16 : Nat
deriving DecidableEq, Repr

/-- The words of a leg request (R408). -/
structure LegReq where
  mode : Nat
  hs : Bool
  ls : Bool
  duty : Int
  phase : Nat
deriving DecidableEq, Repr

/-- A leg port (R398 to R419). State, delay, telemetry and counters stand in the dictionary. -/
structure LegPort where
  /-- A signal is present and the link is healthy. -/
  linked : Bool
  /-- Edge records are discarded until the leg is enabled again (R45). -/
  discard : Bool
  /-- CLEAR has been sent; the next TEL decides (R415). -/
  clearing : Bool
  queue : List Edge
  seq : Nat
  /-- STATE last sent, when it was sent, and the instant it names in 1/16 ns (R407). -/
  state : Nat
  sentAt : Nat
  lastAt16 : Nat := 0
  /-- Nothing is sent before this instant (R417). -/
  silentTo : Nat
  /-- A self-test: the comparator under test, the state to return to. -/
  test : Option Nat
  testFrom : Nat
  /-- The instant of the last TEL, and those of the previous cycle. -/
  telAt : Nat
  clamped : Bool
  refreshed : Bool
  /-- DISABLE holds the leg OFF (R415). -/
  off : Bool
  /-- The last TEL record before the sample instant, and its age there (R366, R428). -/
  telLatch : Nat := 0
  telAge : Nat := 0
  /-- When the link start began (R416). -/
  startAt : Nat := 0
  /-- A link start runs (R416). -/
  starting : Bool := false
  /-- The link is lost and has not restarted; a signal has returned since (R417). -/
  lost : Bool := false
  signal : Bool := false
deriving DecidableEq, Repr

/-- A sense port (R420 to R423): the bits received, newest in bit 0; how many; the run of equal bits. -/
structure SensePort where
  sh : Nat
  n : Nat
  run : Nat
  /-- The fast channel has tripped and not come back within its thresholds (R422). -/
  tripped : Bool := false
deriving DecidableEq, Repr
/-! Chapters 12 and 13: the safety island and the safe connections. Parameters, counters and shown states stand in the dictionary. -/

/-- A safe input pair (R440 to R442). Levels are channel S's at the last tick. -/
structure SafePair where
  /-- The count of R441 in channels S and C. -/
  countS : Nat
  countC : Nat
  fault : Bool
  /-- Both channels were seen demanding together since the fault (R452). -/
  together : Bool
  demanding : Bool
  levA : Bool
  levB : Bool
  /-- Consecutive pulses read correctly. -/
  pulses : Nat
deriving DecidableEq, Repr

/-- A safe output (R443, R444). -/
structure SafeOut where
  on : Bool
  /-- Tick of the last change. -/
  changedAt : Nat
  /-- Consecutive ticks with a mismatch. -/
  bad : Nat
  /-- The instant of the last off-test. -/
  testedAt : Nat
  /-- The off-test last begun: the start of its first pulse and SO_TEST_WIDTH, ns (R444). -/
  pulse : Option (Nat × Nat) := none
  /-- Both readbacks showed the commanded levels at the last tick (R452). -/
  matched : Bool := false
deriving DecidableEq, Repr

/-- A latched lock-out cause from one source (R452). -/
structure Cause where
  code : Nat
  /-- Axis, pair or output; 0xFF none; 0x1FF for a cause copied from the active (R516). -/
  source : Nat
  /-- Consecutive ticks its clearing condition has held. -/
  held : Nat
  cleared : Bool
deriving DecidableEq, Repr

/-- A safety group (R435). Its state stands in GROUP_STATE. -/
structure SafeGroup where
  causes : List Cause
  /-- SS1 runs as the reaction of SLS (R448). -/
  react : Bool
  /-- Tick at which the ramp in progress began. -/
  rampAt : Nat
  /-- SS1 has ended and its demand still stands. -/
  ended : Bool
  /-- SS2 has reached standstill. -/
  sos : Bool
deriving DecidableEq, Repr

/-- Motion monitoring of an axis (R445 to R450): channels S and C by their own position. -/
structure Monitor where
  /-- Positions at the last ticks, POS_1 and POS_2, newest first. -/
  hist : List (Nat × Nat)
  /-- Movement over SPEED_WINDOW ticks and the window, in channels S and C, once there is one. -/
  speed : Option (Int × Int × Nat)
  /-- |v₀| of the ramp: counts per second times its window, in S and C, and the window. -/
  v0 : Option (Int × Int × Nat)
  /-- Consecutive ticks at or below STANDSTILL_SPEED. -/
  still : Nat
  hold : Option (Nat × Nat)
  /-- SDI: direction in force, 0 inactive, and p_ref of S and C. -/
  dir : Int
  refS : Nat
  refC : Nat
deriving DecidableEq, Repr

/-- The reset input as one channel follows it (R454, R455). -/
inductive ResetPhase where
  | idle
  /-- One channel closed since a tick. -/
  | first (at_ : Nat)
  /-- Both closed since a tick. -/
  | held (at_ : Nat)
  /-- One channel open since a tick. -/
  | release (at_ : Nat)
  /-- An attempt was ignored; both must open. -/
  | ignored
  /-- RESET_STUCK; both seen open since a tick. -/
  | stuck (openAt : Option Nat)
  | blocked
deriving DecidableEq, Repr

/-- A safe connection (R470 to R485). -/
structure Conn where
  /-- Transmit: the next SEQ, the payload last sent, one more frame due, ticks since the last frame. -/
  seq : Nat
  sent : List Byte
  again : Bool
  since : Nat
  /-- Receive: a sequence reference exists. -/
  ref : Bool
  /-- The reintegration count and the instant of the last counted frame. -/
  count : Nat
  countAt : Nat
  lastAt : Nat
  /-- A failure found since the last tick: its reason, 0 none. -/
  failing : Nat
  /-- The last two accepted payloads. -/
  prev : List Byte
  last : List Byte
  /-- The payload put in use by the frames so far, the most restrictive values since the last tick, the payload used at it. -/
  staged : List Byte
  worst : Option (List Byte)
  used : List Byte
  /-- Sensor-fault bits since the last tick. -/
  faults : Nat
  /-- The groups whose RESET_GROUP has executed since the last frame with 0xFF, bit g (R456). -/
  resetDone : Nat
  /-- The payload in use last copied to the standby (R500). -/
  copied : List Byte
deriving DecidableEq, Repr

/-- The island (R431 to R459). -/
structure Island where
  running : Bool
  /-- VSAFE_A and VSAFE_B present. -/
  feedA : Bool
  feedB : Bool
  /-- The instant of the last safety tick, or of the start (R136, R137). -/
  tickAt : Nat
  /-- No tick has passed since the feeds came up. -/
  fresh : Bool
  /-- Cause 0x01 waits for the parameter block of the dictionary load (R56, R457). -/
  startup : Bool
  /-- Channels S and C healthy, bits 0 and 1. -/
  healthy : Nat
  /-- Consecutive differing ticks. -/
  differing : Nat
  /-- Ticks that count as differing because of a bad byte in region 0x05 (R561). -/
  scrubBad : Nat
  /-- A full self-test has passed since the last cross-compare fault. -/
  crossOk : Bool
  /-- Items of R459 that failed and have not passed since. -/
  failedItems : Nat
  testing : Bool
  /-- The item tested is the channel self-test of a BOOT alone (R457). -/
  bootTest : Bool := false
  /-- Instant from which SELFTEST_MAX_INTERVAL runs; SELFTEST_OVERDUE raised. -/
  passedAt : Nat
  overdue : Bool
  pairs : List SafePair
  outs : List SafeOut
  groups : List SafeGroup
  monitors : List Monitor
  resetS : ResetPhase
  resetC : ResetPhase
  /-- The LOCKOUT_RESET_REQUESTs that reach execution at this tick, in the order of their commits (R64, R456). -/
  requests : List Nat
  conns : List Conn
  /-- The SAFE_STATUS payload of the last tick and its timestamp, ns since 0 s. -/
  payload : List Byte
  formedAt : Nat
  /-- The receive connections' watchdogs restart at the next tick (R487). -/
  rewatch : Bool := false
  /-- Groups that entered STO since the last deadline; groups that entered a ramp since the last boundary. -/
  stoNew : Nat
  rampNew : Nat
  /-- The last test pulse: channels read low that were not on it, A and B (R442). -/
  lowA : Nat
  lowB : Nat
deriving DecidableEq, Repr

/-! Chapter 14: active and standby operation. -/

/-- What a join still has to send, each taken from the state at the end of the cycle that carries it (R502, R505). -/
inductive BulkItem where
  /-- The copied objects with keys from one on. -/
  | image (key : Nat)
  /-- The copied DOMAIN values from a key on, the first of them from a byte on. -/
  | values (key off : Nat)
  /-- A committed domain image, from a byte on. -/
  | domain (d off : Nat)
  /-- A position of the discovery table. -/
  | ring (ring position : Nat)
  /-- A customer context's window, from a word on. -/
  | area (ctx word : Nat)
  /-- A vendor context's window, from a word on. -/
  | vendor (ctx word : Nat)
  /-- The payload in use of a receive connection. -/
  | payload (conn : Nat)
deriving DecidableEq, Repr

/-- A pair member (R492 to R521). ROLE, PEER_ROLE, the arbiter pins and the counters stand in the dictionary. -/
structure Pair where
  /-- ARB_GRANT as taken, and the instant of a rise not yet in effect. -/
  grant : Bool
  grantAt : Option Nat
  twinUp : Bool
  /-- The standby becomes STALE at the next boundary: event data of TWIN_LOST, 0 none. -/
  staleNext : Nat
  /-- Segments of the COPY frame of this cycle from its boundary: WRITE and RING. -/
  segs : List CopySegment
  /-- Table entries learned at the commits of this cycle, by context, and window bytes committed by customer contexts. -/
  learned : List (Nat × List (Nat × Nat × Int))
  stores : List (Nat × List (Nat × Nat))
  /-- Contexts committed in this cycle. -/
  committed : List Nat
  /-- A COPY frame left with the last deadline; it was acknowledged; an ACK of this cycle, or of the one before, showed an applied copy and
  ROLE STANDBY (R503, R507). -/
  sent : Bool
  acked : Bool
  healthy : Bool
  healthyPrev : Bool
  /-- Standby: a valid CLOSE came in this cycle. -/
  got : Bool
  /-- Standby: the DEVICE_STATE to take at the next boundary. -/
  follow : Option Nat
  /-- Standby: the cycle tag the next boundary takes from a drove frame. -/
  nextTag : Option Nat
  /-- A join runs; JOIN_ID; what it has still to send; at the standby, the bytes in all. -/
  joining : Bool
  joinId : Nat
  bulk : List BulkItem
  total : Nat
  /-- Standby in CONFIG: context segments that wait for its READY (R505). -/
  stash : List CopySegment
  /-- A HANDOVER in effect. -/
  handover : Bool
  /-- Drove frames left with the last deadline. -/
  drove : Bool
  /-- The ISLAND segment applied last, and its cycle tag. -/
  island : List Nat
  islandTag : Nat
  /-- The cycle tag B of a takeover, while cycle B runs. -/
  takeTag : Option Nat
  /-- Cycles since B of a stale takeover, up to 2 (R518), and the age m of its copy. -/
  staleStep : Option Nat
  age : Nat
  /-- ARB_HB and ARB_STALE as driven; none for undriven (R508). -/
  pins : Option Bool × Option Bool
deriving DecidableEq, Repr

/-! Chapter 15: the acquisition engine. Instants are in ns since 0 s. -/

/-- A trigger unit (R527, R528). Its settings stand in the dictionary. -/
structure TrigUnit where
  running : Bool
  startAt : Nat
  /-- Sample instants or SDCLK edges since the start. -/
  n : Nat
  /-- The last sample: time and word, in the sense of POLARITY. -/
  last : Option (Nat × Int)
  /-- Beyond the level by HYST since the last counted crossing: LEVEL_A rising, falling, LEVEL_B rising, falling. -/
  ready : List Bool
  /-- The rising crossing awaiting its partner: of LEVEL_A for PULSE_IN and PULSE_OUT, of LEVEL_B for RUNT and SLEW. -/
  rise : Option Nat
  /-- RUNT: LEVEL_A was crossed since. -/
  sawA : Bool
  /-- TIMEOUT: the last crossing or the start; it has fired since. -/
  ref : Nat
  fired : Bool
  /-- EVENT: occurrences looked at. -/
  seen : Nat
deriving DecidableEq, Repr

/-- A raw sample: its time and the channel words, as unsigned. -/
structure Sample where
  time : Nat
  words : List Nat
deriving DecidableEq, Repr

/-- One channel of a reduction block (R534): minimum, maximum, sum, sum of squares. -/
structure RedPart where
  lo : Int
  hi : Int
  sum : Int
  sq : Nat
deriving DecidableEq, Repr

/-- A reduction block: samples covered, channels. -/
structure RedBlock where
  count : Nat
  parts : List RedPart
deriving DecidableEq, Repr

/-- A recorder (R530 to R544). What its objects show stands in the dictionary. -/
structure Recorder where
  /-- As of the arm: channel mask, fast rate, divider, sample period in ns, capacities, samples per block, SYNC_GROUP, COMPARE_MODE. -/
  mask : Nat
  fast : Bool
  div : Nat
  period : Nat
  cap : Nat
  redCap : Nat
  redBlock : Nat
  group : Nat
  wrap : Bool
  /-- A record is held (ARMED on). -/
  holds : Bool
  /-- Sample instants or SDCLK edges since the arm boundary. -/
  n : Nat
  /-- Raw samples held, newest first. -/
  raw : List Sample
  /-- The open gap: time of its first dropped sample, length. -/
  gap : Option (Nat × Nat)
  gaps : List (Nat × Nat)
  /-- Reduction blocks, newest first, and the block in progress. -/
  blocks : List RedBlock
  block : Option RedBlock
  /-- The window of R532: when it opened, the earliest point with its f, units, own unit. -/
  window : Option (Nat × Nat × Nat)
  units : Nat
  own : Bool
  /-- Samples still to come after the trigger sample is fixed. -/
  toCome : Nat
  /-- A repeat: 0 none, 1 waits for its boundary, 2 waits for the read of a seal. -/
  rearm : Nat
  /-- Samples go out as datagrams (R540): samples collected, SEQUENCE, the stream gap. -/
  stream : Bool
  collected : List Sample
  seq : Nat
  sgap : Option (Nat × Nat)
deriving DecidableEq, Repr

/-- A seal in line (R545). -/
structure Seal where
  recorder : Nat
  image : List Byte
  /-- It runs; when its read of the region ends. -/
  running : Bool
  readTo : Nat
deriving DecidableEq, Repr

/-- The acquisition engine. -/
structure Acq where
  units : List TrigUnit
  recs : List Recorder
  /-- Channel words latched at the sample instant, with NO_VALUE (R526). -/
  latched : List (Nat × Bool)
  /-- The write queue: tenths of a byte held, and the instant (R535). -/
  level : Nat
  levelAt : Nat
  seals : List Seal
  /-- Entries of the incident area: seal value, SEAL_TIME, image (R546). -/
  sealed : List (Nat × Nat × List Byte)
  eraseCount : Nat
  eraseTime : Nat
deriving DecidableEq, Repr


/-! Chapter 16: memory integrity and service life. Macros are numbered region × 128 + macro; byte addresses macro × 32,768 + offset. -/

/-- What the health area of the boot flash keeps through BOOT (R565, R566, R574, R575). -/
structure Health where
  /-- Candidate bytes not yet repaired. -/
  cand : List Nat
  /-- Column candidates: macro, column. -/
  columns : List (Nat × Nat)
  /-- Rows in use as soft repairs: macro, row. -/
  soft : List (Nat × Nat)
  /-- Field fuses programmed: macro, row (true) or column, number. -/
  fuses : List (Nat × Bool × Nat)
  /-- Lanes out of service: fold × 8 + lane, LANE_STATE code. -/
  retired : List (Nat × Nat)
  powerOn : Nat
  run : Nat
  hot : Nat
deriving DecidableEq, Repr

/-- The Float (R558 to R571). -/
structure FloatCtl where
  /-- Bytes corrected, with the instant of the first correction (R566). -/
  seen : List (Nat × Nat)
  /-- Macros counted in SPARES_EXHAUSTED. -/
  exhausted : List Nat
  /-- Bytes whose correction is logged since the last scrub pass (R577). -/
  logged : List Nat
  /-- Split writes since entry to SERVICE. -/
  split : List Nat
  fusing : Bool
  /-- When it began. -/
  fuseAt : Nat := 0
  /-- Fuses and soft repairs applied at the last BOOT. -/
  fused : List (Nat × Bool × Nat)
  /-- Damaged objects and the byte that reads 0 (R562). -/
  damaged : List (Nat × Nat)
deriving DecidableEq, Repr
/-! What a command puts on the pins and wires. -/

/-- An output of the last command. -/
inductive Emit where
  /-- A host-port response: status, tag, REREAD, STALE, data (R79). -/
  | hostResponse (status tag : Nat) (reread stale : Bool) (data : List Byte)
  /-- The bytes, check and all, of the host response, COPY frame or ACK frame listed just before (R77, R498, R503). -/
  | wire (bytes : List Byte)
  /-- EVT_N after a change: true is high (R84). -/
  | evtN (high : Bool)
  /-- An Ethernet frame leaves a port; fcsOk is false for the inverted FCS of R156. -/
  | eth (port : Nat) (frame : EthFrame) (fcsOk : Bool)
  /-- A CAN FD frame starts on the bus (R94). -/
  | can (port : Nat) (frame : CanFrame)
  /-- A ring's bypass after a change (R214, R215). -/
  | bypass (ring : Nat) (closed : Bool)
  /-- A downlink drove frame; port 0 is east (R184). -/
  | drove (ring port : Nat) (frame : DroveFrame)
  /-- A halt frame, sent twice in succession (R198, R199). -/
  | halt (ring port seq epochLow groups crc : Nat)
  /-- A fold notice, sent twice in succession (R207). -/
  | foldNotice (ring port position side crc : Nat)
  /-- A message frame of the Thoek, on one of its ports (R202, R203). -/
  | message (ring port : Nat) (frame : RingMessage)
  /-- A TRIP word on a leg port (R414). -/
  | legTrip (port : Nat)
  /-- An EDGE record: STATE, instant in 1/16 ns since 0 s, SEQ, CRC8 (R402). -/
  | legEdge (port state at16 seq crc : Nat)
  /-- A TIME record: ACTIVE, NS32, EPOCH, CRC8 (R403). -/
  | legTime (port : Nat) (active : Bool) (ns32 epoch crc : Nat)
  /-- A CMD record: CODE, ARG, CRC8 (R404). -/
  | legCmd (port code arg crc : Nat)
  /-- An edge of SDCLK: its clock period, counted from the first PLL-T lock, and the clock periods it stays high (R136). -/
  | sdclk (period high : Nat)
  /-- A safe output's channels after a change (R443). -/
  | safeOut (output : Nat) (a b : Bool)
  /-- An off-test of a safe output: each channel in turn low for width µs (R444). -/
  | offTest (output width : Nat)
  /-- A pulse on test-pulse output n, width µs (R442). -/
  | testPulse (n width : Nat)
  /-- The arbiter pins after a change: ARB_HB, ARB_STALE, none for undriven (R508). -/
  | arb (hb stale : Option Bool)
  /-- A COPY frame on the twin link (R498). -/
  | copy (frame : CopyFrame)
  /-- An ACK frame on the twin link (R503). -/
  | copyAck (ack : CopyAck)
  /-- What a read of CAN_RX returns to its source: the oldest frame record, empty where none waits (R94). -/
  | canRecord (src : Src) (data : List Byte)
deriving DecidableEq, Repr

/-! The whole. -/

/-- Everything but the RAM and the queue of waiting commands. -/
structure Dev where
  /-- Elapsed nanoseconds of the time base's counter, steps excluded (R136). -/
  now : Nat
  /-- The dictionary: objects that differ from their built-in defaults. -/
  dict : List (Nat × Nat)
  /-- DOMAIN values that are not empty. -/
  blobs : List (Nat × List Byte)
  /-- What the last command put on the pins and wires. -/
  emitted : List Emit
  /-- The model's own counter of free values drawn so far. -/
  free : Nat
  /-- Event occurrences, with their times, that no trigger unit has looked at yet (R528). -/
  occurred : List (Nat × Nat)
  /-- Pool channels that dropped a frame in this command (R219). -/
  drops : List Nat
  ctl : DevCtl
  tally : Tally
  flash : Flash
  evq : EventQ
  acc : Access
  can : List CanPort
  tb : TimeBase
  eth : List EthPort
  ptp : Ptp
  rings : List Ring
  ringCtl : RingCtl
  cyc : Cyc
  /-- Contexts 0 to 135. -/
  axes : List Axis
  gf : Grid
  /-- The leg request words committed last, by word of the LEG_REQ area (R408). -/
  legReqs : List (Nat × Nat)
  folds : List Fold
  checks : List DomainCheck
  gens : List Gen
  pulseIn : List PulseIn
  pulseOut : List PulseOut
  legs : List LegPort
  senses : List SensePort
  isl : Island
  pair : Pair
  acq : Acq
  health : Health
  fl : FloatCtl
deriving DecidableEq, Repr

/-- The RAM of R554. -/
structure Mem where
  cells : List (Nat × Nat)
deriving DecidableEq, Repr

/-- The whole machine: the queue of waiting commands, the block, its RAM. -/
structure State where
  pending : List Instr
  dev : Dev
  mem : Mem
deriving DecidableEq, Repr


/-! The machine right after reset: RESET_N has just put the block in BOOT, every supply but VFUSE is in range, RESET_N is still low and the boot
sequence has not begun. Every object stands at its built-in default (no entry in dict or blobs); nothing is queued; RAM lists nothing. -/

/-- The outputs before any commit. -/
def initOut : Outputs := { dutyA := 0, dutyB := 0, dutyC := 0, aux := 0, carrier := 0 }

/-- The servo library's state at BOOT. -/
def initServo : Servo :=
  { xd := 0, xq := 0, xn := 0, xl := List.replicate 6 0, ied := 0, ieq := 0, ie := 0, itTarget := 0, iqStar := 0, s := 0, nLast := 0, nf := 0,
    nStar := 0, nffPrev := 0, phi := 0, xphi := 0, phiSet := false, rcJ := 0, rcLearn := none, rcLastJ := none, rcLearning := false }

/-- The grid-former library's state at BOOT. -/
def initGrid : Grid :=
  { th := 0, dth := 0, w := 0, wd := 0, pf := 0, qf := 0, eRamp := 0, e := 0, win := 0, xl := [0, 0, 0], ie := 0, itTarget := 0,
    sogiA := List.replicate 8 0, sogiB := List.replicate 8 0, r1 := [0, 0, 0], r2 := [0, 0, 0], iePhase := [0, 0, 0],
    diF := [0, 0, 0], iPrev := [0, 0, 0, 0], wSet := 0, vSet := 0, limitedAt := none, limitingFrom := none,
    freeFrom := 0, settleFrom := none, stallNs := 0, unload := false, stopFrom := 0, eStop := 0, pSet := 0, qSet := 0, ownAngle := 0, ownFreq := 0,
    ownAmp := 0, utilAngle := 0, utilFreq := 0, utilAmp := 0, utilFrom := none, syncFrom := none, lostFrom := none,
    rtFrom := List.replicate 4 none, dcLowFrom := none, dcHighFrom := none, isum := 0, permit := false, tieOpen := false,
    utilOkRaised := false, slotOff := List.replicate 16 false, nMin := 4, rcLearn := none, rcLastJ := none, flags := 0,
    running := false, first := false }

/-- A context at BOOT. -/
def initAxis : Axis :=
  { hist := [], cur := none, sampleCount := 0, counted := false, auxIn := 0, temp := 0, status := 0, accepted := [], readyAt := none,
    pred := none, late := 0, stuckAll := false, lateDetail := 1, freeze := 0, miss := 0, commits := [], flags := 0, commitAt := none,
    recomputed := false, due := 0, work := { skim := 0, full := 0 }, skim := none, out := initOut, pub := [],
    servo := initServo, sp := { pos := 0, nff := 0, analogue := 0, pulse := 0 }, pulseDem := 0, pulseOff := true, pulseAdv := [],
    predict := 1, skimmed := false, seed := false, counts := [0, 0, 0, 0, 0, 0, 0], published := false, dom := 255 }

/-- A register bank at pass entry (R294). -/
def initBank : Bank :=
  { d := List.replicate 16 0, a := [0, 0, 0, 0], p := [0, 65536, 0, 0, 0, 0, 0, 0], m := List.replicate 8 0, lc := 0, flags := 0,
    stack := [], pc := 0 }

/-- A lane at BOOT. -/
def initLane : Lane :=
  { banks := [initBank, initBank], cur := 0, t0 := none, t1 := none, run := none, slow := 0, retire := 0, goodRuns := 0, sound := true }

/-- A fold at BOOT. -/
def initFold : Fold :=
  { lanes := List.replicate 8 initLane, windows := [], code := [], shared := [], reduced := false, squashes := List.replicate 8 0 }

/-- A gear not engaged. -/
def noGear : Gear :=
  { mPrev := 0, num := 1, den := 1, word := 0, last := 0, rest := 0, ticks := 0, armed := false, stNum := 1, stDen := 1, stPos := 0,
    onP := false, blend := false, r0Num := 0, r0Den := 1, r1Num := 1, r1Den := 1, u := 0, dir := 0, len := 0, rem := 0, changed := false }

/-- No homing in progress. -/
def noHoming : Homing := { phase := 0, d := 1, method := 0, bounced := false, stopping := false, latch := 0, start := 0, ref := none }

/-- A switch never sampled. -/
def idleSwitch : Switch := { level := false, runLevel := false, run := 0, runPos := 0, locked := false, lockedAt := 0 }

/-- A generator at BOOT. -/
def initGen : Gen :=
  { acc := 0, vel := 0, rho := 0, state := 0, flags := 0, motion := .none, fresh := false, braking := false, pending := .none, dwell := 0,
    cmd := 0, past := [], gear := noGear, home := noHoming, switches := [idleSwitch, idleSwitch, idleSwitch],
    auxPrev := false, zEdge := none, land := false, landFrom := 0, landed := false, landWaited := false, restDir := 0, restAt := 0,
    stopping := false }

/-- A leg port at BOOT. -/
def initLeg : LegPort :=
  { linked := false, discard := false, clearing := false, queue := [], seq := 0, state := 0, sentAt := 0, silentTo := 0,
    test := none, testFrom := 0, telAt := 0, clamped := false, refreshed := false, off := false, telLatch := 0, telAge := 0, startAt := 0 }

/-- A pair, an output, a group and an axis monitor at the island's start (R559). -/
def initPair : SafePair :=
  { countS := 0, countC := 0, fault := false, together := false, demanding := false, levA := false, levB := false, pulses := 0 }
def initSafeOut : SafeOut := { on := false, changedAt := 0, bad := 0, testedAt := 0, pulse := none, matched := false }
def initGroup : SafeGroup := { causes := [], react := false, rampAt := 0, ended := false, sos := false }
def initMonitor : Monitor :=
  { hist := [], speed := none, v0 := none, still := 0, hold := none, dir := 0, refS := 0, refC := 0 }

/-- A connection that has carried nothing. -/
def initConn : Conn :=
  { seq := 0, sent := [], again := false, since := 0, ref := false, count := 0, countAt := 0, lastAt := 0, failing := 0, prev := [],
    last := [], staged := [], worst := none, used := [], faults := 0, resetDone := 0,
    copied := [] }

/-- The island as it starts at an instant. -/
def initIsland (now : Nat) : Island :=
  { running := true, feedA := true, feedB := true, tickAt := now, fresh := true, startup := true, healthy := 3, differing := 0, scrubBad := 0, crossOk := true, failedItems := 0,
    testing := false, bootTest := false, passedAt := now, overdue := false, pairs := List.replicate 16 initPair, outs := List.replicate 8 initSafeOut,
    groups := List.replicate 32 initGroup, monitors := List.replicate 128 initMonitor, resetS := .idle, resetC := .idle,
    requests := [], conns := List.replicate 256 initConn, payload := [], formedAt := 0, rewatch := false, stoNew := 0, rampNew := 0, lowA := 0,
    lowB := 0 }

/-- The pair at BOOT. -/
def initPair14 : Pair :=
  { grant := false, grantAt := none, twinUp := false, staleNext := 0, segs := [], learned := [], stores := [], committed := [],
    sent := false, acked := false, healthy := false, healthyPrev := false, got := false, follow := none, nextTag := none, joining := false, joinId := 0,
    bulk := [], total := 0, stash := [], handover := false, drove := false, island := [], islandTag := 0,
    takeTag := none, staleStep := none, age := 0, pins := (none, none) }

/-- A trigger unit, a recorder and the engine at BOOT; what is sealed stays (R544, R546). -/
def initUnit : TrigUnit :=
  { running := false, startAt := 0, n := 0, last := none, ready := [false, false, false, false], rise := none, sawA := false, ref := 0,
    fired := false, seen := 0 }
def initRec : Recorder :=
  { mask := 0, fast := false, div := 1, period := 0, cap := 0, redCap := 0, redBlock := 256, group := 0, wrap := false, holds := false,
    n := 0, raw := [], gap := none, gaps := [], blocks := [], block := none, window := none, units := 0, own := false,
    toCome := 0, rearm := 0, stream := false, collected := [], seq := 0, sgap := none }
def initAcq : Acq :=
  { units := List.replicate 16 initUnit, recs := List.replicate 4 initRec, latched := [], level := 0, levelAt := 0, seals := [],
    sealed := [], eraseCount := 0, eraseTime := 0 }

/-- A synthesiser at BOOT. -/
def initPll : Pll :=
  { lastBand := none, window := 0, count := 0, dither := false, seed := 0, sequence := 0, target := 0, searchAt := 0, countFrom := 0, buildOut := 0,
    everLocked := false, suspended := false }

/-- The time base at BOOT, entered at an instant (R143). -/
def initTimeBase (now : Nat) : TimeBase :=
  { pllT := initPll, pllS := initPll, lastRef := 0xFF, refFrom := [now, now], running := false, sec := 0, ns := 0, frac := 0, sinceMark := 0,
    ahead := 0, periods := 0, sdLast := 0, comp := 0, stepQ := [], prevOffset := 0, lastStepAt := none, plsWritten := false,
    tRelock := none, bothPending := false, serdesStopped := false, stepReq := none, serviceStep := none, heldService := false }

/-- The ordinary clock at BOOT. -/
def initPtp : Ptp :=
  { foreign := [], annInterval := 0, lastAnnAt := 0, syncInterval := 0, lastSyncAt := 0, syncSeq := 0, t1 := none, t2 := 0, corrSync := 0,
    reqSeq := 0, t3 := none, reqInterval := none, reqAt := none, delays := [], samples := [], acqCount := 0, yf := 0, y := 0, clampedLast := false,
    lastO := none, outliers := 0, inLock := 0, outLock := 0, unclamped := none, pllPart := 0, annSeq := 0, masterSyncSeq := 0 }

/-- A ring with its bypass closed. -/
def emptyRing : Ring :=
  { phase := .off, eastUp := false, westUp := false, nodes := [], closed := false, split := 0, lostLinks := [], plan := [],
    healRequested := false, healChecking := false, healAnswers := [], looped := false, lastBlock := 0, remeasured := 0, sending := false, msgSeq := 0, requests := [],
    remeasureEast := 0, remeasureWest := 0, takeover := none, homeDelay := 0, ownPos := 0, home := none,
    returned := false }

/-- A session slot that is closed. -/
def closedSession : Session :=
  { isOpen := false, safety := false, ip := 0, port := 0, eth := 0, key := [], seqRx := 0, seqTx := 0, lastValidAt := 0 }

/-- An island that has not started. -/
def stoppedIsland : Island := { (initIsland 0) with running := false }

/-- The block as BOOT leaves it, with RESET_N low and no step of the boot sequence taken (R588): the objects at their built-in defaults but
for SAFETY_TICK_SOURCE, the island's oscillator (R137), and ARB_PINS, ARB_STALE asserted (R592). -/
def bootDev : Dev :=
  { now := 0, dict := [(0x024001, 1), (0x050007, 2)], blobs := [], emitted := [], free := 0, occurred := [], drops := [],
    ctl := { trans := .none, holding := false, decidedAt := 0, stoDone := false, failedFold := none,
             supplies := [true, true, true, true, true, true, true, false], resetN := false, boot := .held, handed := false,
             causeReq := none, bootOrigin := 0, enteredRunAt := 0, autoAsked := false },
    tally := { queue := [], timed := [], accSeq := 0, staging := [], pendingBlock := none, committed := [], save := none,
               restoring := false },
    flash := { copy0 := none, copy1 := none, current1 := false, headerOk := true, block0Ok := true, block1Ok := true, healthOk := true },
    evq := { seq := 0, queue := [], episode := 0 },
    acc := { modeReq := none, sessions := List.replicate 8 closedSession, openFails := [], openBlocked := false, blockedAt := 0,
             seen := [] },
    can := List.replicate 2 { txq := [], rxq := [], txErr := 0, rxErr := 0, busOff := false },
    tb := initTimeBase 0, eth := List.replicate 2 { busy := false, queue := [], sending := none }, ptp := initPtp,
    rings := [emptyRing, emptyRing], ringCtl := { epochSeen := 0, haltSeq := 0 },
    cyc := { len := 31250, tag := 0, startAt := 0, startTime := 0, nextAt := 0, count := 0, dispatched := true },
    axes := List.replicate 136 initAxis, gf := initGrid, legReqs := [], folds := List.replicate 8 initFold, checks := [],
    gens := List.replicate 128 initGen, pulseIn := List.replicate 8 { a := false, b := false, z := false, count := 0, last := 0 },
    pulseOut := List.replicate 8 { issued := 0, a := false, b := false }, legs := List.replicate 20 initLeg,
    senses := List.replicate 12 { sh := 0, n := 0, run := 0, tripped := false }, isl := stoppedIsland, pair := initPair14, acq := initAcq,
    health := { cand := [], columns := [], soft := [], fuses := [], retired := [], powerOn := 0, run := 0, hot := 0 },
    fl := { seen := [], exhausted := [], logged := [], split := [], fusing := false, fused := [], damaged := [] } }

/-- The machine right after reset: power has come up, every supply but VFUSE is in range, RESET_N is still low (R587, R592) (DESIGN
CHOICE, log entry 26). -/
def State.reset : State := { pending := [], dev := bootDev, mem := { cells := [] } }

end Sys2Proof.Machine
end

