-- ==== Sys2Proof/Machine/Wire.lean ====
section
/-! DEFINITION. Machine/Wire.lean: the bytes of the Thoek's own frames on Ethernet, most significant byte first (R12): IEEE 1588
messages, UDP datagrams, ARP replies. The layouts are those of the standards the spec names (PRESUMED, log entry 77). -/

namespace Sys2Proof.Machine

/-- The length of a message by its type: Announce, Delay_Resp, Sync or Delay_Req. -/
def PtpMsg.length (m : PtpMsg) : Nat := if m.kind = 0xB then 64 else if m.kind = 9 then 54 else 44

/-- The controlField of version 2. -/
def PtpMsg.control (m : PtpMsg) : Nat :=
  match m.kind with
  | 0 => 0
  | 1 => 1
  | 9 => 3
  | _ => 5

/-- The bytes after the common header: the timestamp, and what the type adds. -/
def PtpMsg.body (m : PtpMsg) : List Byte :=
  let x := fun i => getAt 0 m.extra i
  let own := if m.kind = 0xB then
      beBytes 2 (Config.announceField 1) ++ [0] ++ beBytes 1 (x 0) ++ beBytes 1 (x 1) ++ beBytes 1 (Config.announceField 2)
        ++ beBytes 2 (Config.announceField 3) ++ beBytes 1 (x 2) ++ beBytes 8 m.identity ++ beBytes 2 0 ++ beBytes 1 (Config.announceField 4)
    else if m.kind = 9 then beBytes 8 (x 0) ++ beBytes 2 (x 1)
    else []
  beBytes 10 m.stamp ++ own

/-- An IEEE 1588 message: the common header with versionPTP 2, minorVersionPTP 1, and its body. -/
def PtpMsg.bytes (m : PtpMsg) : List Byte :=
  beBytes 1 m.kind ++ beBytes 1 0x12 ++ beBytes 2 m.length ++ beBytes 1 m.domain ++ [0]
    ++ beBytes 2 (if m.kind = 0xB then Config.announceField 0 else 0) ++ beBytes 8 m.corr ++ beBytes 4 0 ++ beBytes 8 m.identity
    ++ beBytes 2 m.portNumber ++ beBytes 2 m.seq ++ beBytes 1 m.control ++ beBytes 1 m.log ++ m.body

/-- The sum of the 16-bit words of bytes, the last one padded with a zero byte. -/
def wordSum : List Byte → Nat
  | [] => 0
  | [a] => a.toNat * 256
  | a :: b :: t => a.toNat * 256 + b.toNat + wordSum t

/-- A sum folded to 16 bits with end-around carry. -/
def foldSum (v : Nat) : Nat :=
  let a := v % 65536 + v / 65536
  a % 65536 + a / 65536

/-- A UDP datagram from its header on, with its checksum over the IPv4 pseudo-header, or 0x0000 where it carries none. -/
def udpBytes (src dst srcPort dstPort : Nat) (checked : Bool) (payload : List Byte) : List Byte :=
  let len := 8 + payload.length
  let pseudo := beBytes 4 src ++ beBytes 4 dst ++ [0, 17] ++ beBytes 2 len
  let head := beBytes 2 srcPort ++ beBytes 2 dstPort ++ beBytes 2 len
  let sum := 65535 - foldSum (wordSum (pseudo ++ head ++ payload))
  head ++ beBytes 2 (if !checked then 0 else if sum = 0 then 65535 else sum) ++ payload

/-- An ARP reply: the sender's addresses, then the asker's. -/
def arpBytes (ownMac ownIp dstMac dstIp : Nat) : List Byte :=
  beBytes 2 1 ++ beBytes 2 0x0800 ++ [6, 4] ++ beBytes 2 2 ++ beBytes 6 ownMac ++ beBytes 4 ownIp ++ beBytes 6 dstMac ++ beBytes 4 dstIp

/-- A frame's contents filled up with zeros to the 46 bytes Ethernet asks for. -/
def padFrame (l : List Byte) : List Byte := l ++ List.replicate (46 - l.length) 0

/-- The multicast addresses of the time service (R152). -/
abbrev ptpGroup : Nat := 0xE0000181
abbrev ptpGroupMac : Nat := 0x011B19000000

/-- An own IEEE 1588 message as its frame: from a MAC address, or from an IPv4 address to the group with port 319 for an event message,
whose checksum is 0x0000, and 320 for any other (R152, R162). -/
def PtpMsg.frame (m : PtpMsg) (mac ip : Nat) : EthFrame :=
  if m.transport = 1 then .ieee ptpGroupMac mac 0x88F7 (padFrame m.bytes)
  else
    let port := if m.kind ≤ 1 then 319 else 320
    .ipv4 ptpGroup ptpGroup ip (udpBytes ip ptpGroup port port (decide (1 < m.kind)) m.bytes)

end Sys2Proof.Machine
end

