-- ==== Sys2Proof/Machine/Ops.lean ====
section
/-! DEFINITION. Machine/Ops.lean: the named operations every chapter uses: reading and changing a dictionary object or a DOMAIN
value, time, events (R95 to R99), the buffer pool (R218, R219), the free values, and what a command's outcome is. -/

namespace Sys2Proof.Machine

/-! ## Objects -/

/-- The row of an object, where it exists (R47, R59). -/
def rowOf (k : Nat) : Option ObjRow := (areaRows (k / 256)).find? (fun r => r.covers (k / 256) (k % 256))

/-- The built-in defaults that are not one number for every unit of a row (DESIGN CHOICE, log entry 8; DESIGN CHOICE, log entry 25). -/
def specialDefault (k : Nat) : Option Nat :=
  let idx := k / 256
  let sub := k % 256
  if k = Obj.SERIAL then some (Config.serial % 2 ^ 64)
  else if k = Obj.GRADE then some (Config.grade % 2)
  else if k = Obj.PLLS_SEED then some (if Config.serial % 2 ^ 32 = 0 then 1 else Config.serial % 2 ^ 32)
  else if k = Obj.MAC_ADDRESS 0 then some (Config.mac 0 % 2 ^ 48)
  else if k = Obj.MAC_ADDRESS 1 then some (Config.mac 1 % 2 ^ 48)
  else if k = Obj.CLOCK_IDENTITY then
    some (let m := Config.mac 0 % 2 ^ 48; (m >>> 24) * 2 ^ 40 + 0xFFFE * 2 ^ 24 + m % 2 ^ 24)
  else if k = Obj.SAFETY_CRC then some (Config.blockCrc [] % 2 ^ 32)
  else if 0x701 ≤ idx ∧ idx ≤ 0x705 ∧ sub = 5 then some (Config.fusedRows (idx - 0x701) % 2 ^ 16)
  else if 0x701 ≤ idx ∧ idx ≤ 0x705 ∧ sub = 6 then some (Config.fusedColumns (idx - 0x701) % 2 ^ 16)
  else if 0x480 ≤ idx ∧ idx ≤ 0x486 ∧ sub = 0 then some (getAt 0 [128, 128, 128, 128, 32, 32, 256] (idx - 0x480))
  else if 0x480 ≤ idx ∧ idx ≤ 0x486 ∧ sub = 1 then some (getAt 0 [512, 512, 512, 512, 128, 128, 1536] (idx - 0x480))
  else if 0xA000 ≤ idx ∧ idx < 0xC200 ∧ (idx - 0xA000) % 0x40 = 0 ∧ sub = 2 then some ((idx - 0xA000) / 0x40 % 8)
  else if idx = 0x5002 then some sub
  else if 0x5013 = idx ∧ 3 ≤ sub ∧ sub ≤ 5 then some (getAt 0 [4194304, 1677721, 419430] (sub - 3))
  else if idx = 0x5019 ∧ sub < 8 then some (getAt 0 [629145, 200, 2097152, 700, 2936012, 1500, 3565158, 3000] sub)
  else if 0x2000 ≤ idx ∧ idx ≤ 0x2013 ∧ sub = 2 then some (if idx < 0x2010 then 1 else 0)
  else if 0x790 ≤ idx ∧ idx ≤ 0x797 ∧ sub = 7 then some 1
  else none

/-- The built-in default of an object as a held value (R53) (DESIGN CHOICE, log entry 25). -/
def defaultOf (k : Nat) : Nat :=
  match specialDefault k with
  | some v => v
  | none => match rowOf k with
    | some r => r.dflt
    | none => 0

/-- The held value of an object. -/
def Dev.obj (d : Dev) (k : Nat) : Nat := tget defaultOf d.dict k

/-- The held value of a signed or fractional object as an integer of w bits. -/
def Dev.objI (d : Dev) (w k : Nat) : Int := sgn w (d.obj k)

/-- Whether a BOOL object is true. -/
def Dev.objB (d : Dev) (k : Nat) : Bool := d.obj k != 0

/-- The object set to a held value. -/
def Dev.setObj (d : Dev) (k v : Nat) : Dev := { d with dict := tset defaultOf d.dict k v }

/-- The object set to an integer in two's complement of w bits. -/
def Dev.setObjI (d : Dev) (w k : Nat) (v : Int) : Dev := d.setObj k (raw w v)

/-- The BOOL object set. -/
def Dev.setObjB (d : Dev) (k : Nat) (b : Bool) : Dev := d.setObj k (b2n b)

/-- Bit n of an object set or cleared. -/
def Dev.setObjBit (d : Dev) (k n : Nat) (b : Bool) : Dev := d.setObj k (setBit (d.obj k) n b)

/-- A counter object of w bits raised by n, saturating at its maximum. -/
def Dev.bumpBy (d : Dev) (w k n : Nat) : Dev := d.setObj k (satAdd w (d.obj k) n)

/-- A U32 counter object raised by one, saturating. -/
def Dev.bump (d : Dev) (k : Nat) : Dev := d.bumpBy 32 k 1

/-- A DOMAIN value; one not listed is empty. -/
def Dev.blob (d : Dev) (k : Nat) : List Byte := tget (fun _ => []) d.blobs k

/-- The DOMAIN value set. -/
def Dev.setBlob (d : Dev) (k : Nat) (v : List Byte) : Dev := { d with blobs := tset (fun _ => []) d.blobs k v }

/-- An output put on the pins or wires. -/
def Dev.emit (d : Dev) (e : Emit) : Dev := { d with emitted := d.emitted ++ [e] }

/-- A free value drawn: the counter advances, and nothing constrains the value (Config.freeValue) (DESIGN CHOICE, log entry 20). -/
def Dev.draw (d : Dev) (tag : Nat) : Nat × Dev := (Config.freeValue tag d.free, { d with free := d.free + 1 })

/-! ## Device states (R29) -/

/-- BOOT. -/
abbrev stBoot : Nat := 0
/-- CONFIG. -/
abbrev stConfig : Nat := 1
/-- READY. -/
abbrev stReady : Nat := 2
/-- RUN. -/
abbrev stRun : Nat := 3
/-- SERVICE. -/
abbrev stService : Nat := 4
/-- SAFE-HOLD. -/
abbrev stSafeHold : Nat := 5

/-- DEVICE_STATE. -/
def Dev.state (d : Dev) : Nat := d.obj Obj.DEVICE_STATE

/-- Whether cycle boundaries run: every state but BOOT and SAFE-HOLD (R65). -/
def Dev.cycling (d : Dev) : Bool := d.state != stBoot && d.state != stSafeHold

/-- The unit heads the rings and the leg ports: SINGLE or ACTIVE (R403, R492). -/
def Dev.isHead (d : Dev) : Bool := d.obj Obj.ROLE = 0 || d.obj Obj.ROLE = 1

/-! ## Time -/

/-- TIME80 of the present instant plus off ns, as its 80-bit value (R131). -/
def Dev.time80 (d : Dev) (off : Nat) : Nat :=
  let n := d.tb.ns + off
  (d.tb.sec + n / 1000000000) * 2 ^ 32 + n % 1000000000

/-- TIME80 of the present instant plus off ns, as nanoseconds since 0 s. -/
def Dev.timeNs (d : Dev) (off : Nat) : Nat := d.tb.sec * 1000000000 + d.tb.ns + off

/-- The nanoseconds since 0 s of an 80-bit TIME80 value. -/
def nsOfTime80 (t : Nat) : Nat := (t / 2 ^ 32) * 1000000000 + t % 2 ^ 32

/-- The 80-bit TIME80 value of nanoseconds since 0 s. -/
def time80OfNs (n : Nat) : Nat := (n / 1000000000) * 2 ^ 32 + n % 1000000000

/-- NS32 of an instant (R134). -/
def ns32 (n : Nat) : Nat := n % 2 ^ 32

/-- Whether an instant is due by a compare in the mode of COMPARE_MODE (R133, R134). -/
def Dev.isDue (d : Dev) (instant : Nat) : Bool :=
  if d.obj Obj.COMPARE_MODE = 0 then decide (instant ≤ d.timeNs 0)
  else
    let k := raw 32 ((ns32 instant : Int) - (ns32 (d.timeNs 0) : Int))
    k = 0 || 2 ^ 31 ≤ k

/-! ## The buffer pool (R218, R219, R223) -/

/-- The buffers a channel may still take: what is left of its reserve, and the shared buffers while its cap holds. -/
def Dev.poolFits (d : Dev) (c n : Nat) : Bool :=
  let used := d.obj (Obj.POOL_IN_USE c)
  let fromReserve := min n (d.obj (Obj.POOL_RESERVE c) - used)
  decide (n - fromReserve ≤ d.obj Obj.SHARED_FREE) && decide (used + n ≤ d.obj (Obj.POOL_CAP c))

/-- SHARED_FREE kept in step: what neither a reserve nor a total beyond it holds. -/
def Dev.showShared (d : Dev) : Dev :=
  let held := fun c => max (d.obj (Obj.POOL_RESERVE c)) (d.obj (Obj.POOL_IN_USE c))
  d.setObj Obj.SHARED_FREE (2048 - (held 0 + held 1 + held 2 + held 3 + held 4 + held 5 + held 6))

/-- The channel's total set. -/
def Dev.poolSet (d : Dev) (c n : Nat) : Dev :=
  let d := (d.setObj (Obj.POOL_IN_USE c) n).showShared
  d.setObj (Obj.POOL_PEAK c) (max (d.obj (Obj.POOL_PEAK c)) n)

/-- The buffers a frame occupies (R219). -/
def buffersOf (len : Nat) : Nat := ceilDiv len 128

/-- Buffers returned to the pool. -/
def Dev.poolFree (d : Dev) (c n : Nat) : Dev := d.poolSet c (d.obj (Obj.POOL_IN_USE c) - n)

/-! ## Events (R95 to R99) -/

/-- The bytes of an event record (R97). -/
def recordBytes (r : EventRecord) : List Byte :=
  beBytes 1 r.source ++ beBytes 1 r.cls ++ beBytes 2 r.seq ++ beBytes 10 r.time ++ beBytes 4 r.data ++ beBytes 2 r.occ

/-- A record placed in the host queue; EVT_N falls with the first (R84). -/
def Dev.enqueueRecord (d : Dev) (r : EventRecord) : Dev :=
  let d1 := { d with evq := { d.evq with queue := d.evq.queue ++ [r] } }
  if d.evq.queue.isEmpty && d.state != stBoot then d1.emit (.evtN false) else d1

/-- The occurrence of a source counted: latch set, count raised (R96). -/
def Dev.countOccurrence (d : Dev) (src : Nat) : Dev :=
  (d.setObjBit (Obj.EVENT_LATCH (src / 32)) (src % 32) true).bumpBy 16 (Obj.OCCURRENCES src) 1

/-- An occurrence counted, with its time for the trigger units (R96, R528). -/
def Dev.occur (d : Dev) (src : Nat) : Dev :=
  let d := d.countOccurrence src
  { d with occurred := d.occurred ++ [(src, d.timeNs 0)] }

/-- The QUEUE_OVERFLOW record placed once space has returned after drops (R98) (DEDUCED, log entry 41). -/
def Dev.placeOverflow (d : Dev) : Dev :=
  if d.evq.episode = 0 || 64 ≤ d.evq.queue.length then d
  else
    let d := d.occur 5
    let r : EventRecord := { source := 5, cls := 2, seq := d.evq.seq, time := d.time80 0, data := d.evq.episode,
                             occ := d.obj (Obj.OCCURRENCES 5) }
    let d := { d with evq := { d.evq with seq := (d.evq.seq + 1) % 65536, episode := 0 } }
    d.enqueueRecord r

/-- A record offered to the host queue: a full queue drops and counts it (R98). -/
def Dev.hostRecord (d : Dev) (r : EventRecord) : Dev :=
  let d := d.placeOverflow
  if 64 ≤ d.evq.queue.length then
    let d := { d with evq := { d.evq with episode := d.evq.episode + 1 } }
    d.bump Obj.EVENTS_DROPPED
  else d.enqueueRecord r

/-- A Tally datagram: header, body, tag (R86). BODY_LENGTH holds the low 16 bits of the length (DESIGN CHOICE, log entry 42). -/
def tallyDatagram (key : List Byte) (kind session seq : Nat) (body : List Byte) : List Byte :=
  let h := beBytes 2 0x5459 ++ beBytes 1 1 ++ beBytes 1 kind ++ beBytes 2 session ++ beBytes 4 seq ++ beBytes 2 body.length
  h ++ body ++ udpTag key (h ++ body)

/-- The Ethernet ports run: not in BOOT, not in SAFE-HOLD, the SerDes powered and not stopped (R85, R129, R148, R580). -/
def Dev.ethRuns (d : Dev) : Bool := d.cycling && !d.tb.serdesStopped && getAt false d.ctl.supplies 1

/-- The next hop of a datagram: its destination where it is a group or lies on the own subnet, else the gateway, where there is one
(R85, R93). -/
def Dev.nextHop (d : Dev) (dst : Nat) : Option Nat :=
  let mask := d.obj Obj.IPV4_MASK
  if dst / 2 ^ 28 = 14 then some dst
  else if dst &&& mask = d.obj Obj.IPV4_ADDRESS &&& mask then some dst
  else if d.obj Obj.IPV4_GATEWAY = 0 then none
  else some (d.obj Obj.IPV4_GATEWAY)

/-- A payload as the frame that leaves a port (R12, R85, R152). -/
def Dev.frameOf (d : Dev) (p : Nat) (payload : EthPayload) : EthFrame :=
  let ip := d.obj Obj.IPV4_ADDRESS
  let mac := d.obj (Obj.MAC_ADDRESS p)
  match payload with
  | .raw f => .raw f
  | .ptp m => m.frame mac ip
  | .udp dst dstPort srcPort b => .ipv4 ((d.nextHop dst).getD dst) dst ip (udpBytes ip dst srcPort dstPort true b)
  | .arp dstMac dstIp ownIp => .ieee dstMac mac 0x0806 (padFrame (arpBytes mac ownIp dstMac dstIp))

/-- A frame started on an idle egress port. -/
def Dev.ethStart (d : Dev) (p : Nat) (q : EthQueued) (payload : EthPayload) : Dev :=
  let d := { d with eth := upd (fun e => { e with busy := true, sending := some (q.channel, q.buffers) }) d.eth p }
  d.emit (.eth p (d.frameOf p payload) true)

/-- The first waiting frame in the order of R146: by class, then by age. -/
def pickFrame (l : List EthQueued) : Option EthQueued :=
  match l.find? (fun q => q.cls == 0) with
  | some q => some q
  | none => match l.find? (fun q => q.cls == 1) with
    | some q => some q
    | none => l.head?

/-- A frame of the Thoek's own (or one that waits) queued at an egress port; an idle port starts it at once. -/
def Dev.ethQueue (d : Dev) (p : Nat) (q : EthQueued) : Dev :=
  let e := getAt { busy := false, queue := [], sending := none } d.eth p
  if e.busy then { d with eth := upd (fun e => { e with queue := e.queue ++ [q] }) d.eth p }
  else d.ethStart p q q.payload

/-- A frame dropped for lack of buffers: counted at once; POOL_DROP is raised as the command ends (Dev.settle). -/
def Dev.poolDrop (d : Dev) (c : Nat) : Dev :=
  let d := d.bump (Obj.POOL_DROPPED c)
  { d with drops := d.drops ++ [c] }

/-- The pool taken for an own frame of len bytes on channel c, or none. -/
def Dev.poolTake (d : Dev) (c len : Nat) : Option Dev :=
  if d.poolFits c (buffersOf len) then some (d.poolSet c (d.obj (Obj.POOL_IN_USE c) + buffersOf len)) else none

/-- Buffers that a frame takes only for the moment: the channel's peak counts them, or the frame is dropped (R203, R219). -/
def Dev.poolPass (d : Dev) (c len : Nat) : Option Dev :=
  let n := d.obj (Obj.POOL_IN_USE c)
  if d.poolFits c (buffersOf len) then some ((d.poolSet c (n + buffersOf len)).poolSet c n) else none

/-- A received frame of len bytes taken in through its pool channel, or dropped and counted (R218, R219). -/
def Dev.consume (d : Dev) (c len : Nat) (f : Dev → Dev) : Dev :=
  match d.poolPass c len with
  | none => d.poolDrop c
  | some d => f d

/-- A UDP datagram can leave a port: the port runs, there is an own address, and a way to the destination (R85, R93). -/
def Dev.udpLeaves (d : Dev) (p dstIp : Nat) : Bool :=
  d.ethRuns && d.obj (Obj.LINK p) != 0 && d.obj Obj.IPV4_ADDRESS != 0 && (d.nextHop dstIp).isSome

/-- A UDP datagram sent from the own address on an Ethernet port, drawn from pool channel 3 (R218). Without buffers, it is
dropped and counted. -/
def Dev.sendUdp (d : Dev) (p dstIp dstPort srcPort : Nat) (bytes : List Byte) : Dev :=
  if !d.udpLeaves p dstIp then d
  else match d.poolTake 3 (bytes.length + 42) with
    | none => d.poolDrop 3
    | some d => d.ethQueue p { cls := 2, payload := .udp dstIp dstPort srcPort bytes, ingress := none, channel := 3,
                               buffers := buffersOf (bytes.length + 42) }

/-- The session in a slot. -/
def Dev.session (d : Dev) (s : Nat) : Session :=
  getAt { isOpen := false, safety := false, ip := 0, port := 0, eth := 0, key := [], seqRx := 0, seqTx := 0, lastValidAt := 0 }
    d.acc.sessions s

/-- A session changed. -/
def Dev.updSession (d : Dev) (s : Nat) (f : Session → Session) : Dev :=
  { d with acc := { d.acc with sessions := upd f d.acc.sessions s } }

/-- The Tally-over-UDP service is open: an own address and a session key (R85, R93). -/
def Dev.udpService (d : Dev) : Bool :=
  d.obj Obj.IPV4_ADDRESS != 0 && (List.range 4).any (fun i => !(d.blob (Obj.SESSION_KEY i)).isEmpty)

/-- A datagram of a session to its peer, on the port its OPEN came in on: it takes the session's next SEQUENCE whether or not buffers
are left (R86, R90, R99) (DESIGN CHOICE, log entry 42). A closed service sends none (R85). -/
def Dev.sendSession (d : Dev) (s kind : Nat) (body : List Byte) : Dev :=
  if !d.udpService then d else
  let x := d.session s
  let d := d.updSession s (fun x => { x with seqTx := x.seqTx + 1 })
  d.sendUdp x.eth x.ip x.port (d.obj Obj.UDP_PORT) (tallyDatagram x.key kind (s + 1) (x.seqTx + 1) body)

/-- Whether a session's own mask has a source's bit (R99); source 0x05 goes to no session (R98). -/
def Dev.sessionWants (d : Dev) (src s : Nat) : Bool :=
  (d.session s).isOpen && bit (d.obj (Obj.SESSION_EVENT_MASK s (src / 32))) (src % 32) && src != 5

/-- An occurrence of an event source: latch, count, and the one record it may yield (R96, R99). -/
def Dev.raise (d : Dev) (src data : Nat) : Dev :=
  let had := bit (d.obj (Obj.EVENT_LATCH (src / 32))) (src % 32)
  let d := d.occur src
  let every := [0, 1, 2, 6, 7].contains src
  let hostWants := bit (d.obj (Obj.EVENT_MASK (src / 32))) (src % 32)
  let sessions := (List.range 8).filter (d.sessionWants src)
  if (every || !had) && (hostWants || !sessions.isEmpty) then
    let r : EventRecord := { source := src, cls := b2n every, seq := d.evq.seq, time := d.time80 0, data := data % 2 ^ 32,
                             occ := d.obj (Obj.OCCURRENCES src) }
    let d := { d with evq := { d.evq with seq := (d.evq.seq + 1) % 65536 } }
    let d := if hostWants then d.hostRecord r else d
    sessions.foldl (fun d s => d.sendSession s 3 (recordBytes r)) d
  else d

/-- An event with signed data of 32 bits, saturating. -/
def Dev.raiseI (d : Dev) (src : Nat) (v : Int) : Dev := d.raise src (raw 32 (sat 32 v))

/-- The POOL_DROP events of the command raised (R219, R224). A notification of one that is itself dropped adds its occurrence. -/
def Dev.settle (d : Dev) : Dev :=
  let l := d.drops
  let d := l.foldl (fun d c => d.raise 0x3D c) { d with drops := [] }
  let d := d.drops.foldl (fun d _ => d.occur 0x3D) d
  { d with drops := [] }

/-! ## Outcomes -/

/-- The outcome of every command: a next state. -/
abbrev Res := Host.Outcome State Fault Refusal

/-- The block as a command meets it: nothing put out, no drop and no SAFE-HOLD cause found in it yet. -/
def Dev.fresh (d : Dev) : Dev := { d with emitted := [], drops := [], ctl := { d.ctl with causeReq := none } }

/-- A command that works on everything but the RAM (DESIGN CHOICE, log entry 2). -/
def State.onDev (s : State) (f : Dev → Dev) : Res := .next { s with dev := (f s.dev.fresh).settle }

/-- A command that works on the RAM too (DESIGN CHOICE, log entry 2). -/
def State.onBoth (s : State) (f : Dev × Mem → Dev × Mem) : Res :=
  let r := f (s.dev.fresh, s.mem)
  .next { s with dev := r.1.settle, mem := r.2 }

/-- A command whose data must have the form its wire carries (DESIGN CHOICE, log entry 73). -/
def guardForm (ok : Bool) (r : Res) : Res := if ok then r else .fault .illFormed

end Sys2Proof.Machine
end

