-- ==== Sys2Proof/Machine/Time.lean ====
section
/-! DEFINITION. Machine/Time.lean: the time base: reference inputs, the two synthesisers, relock, backup path and clamp, the TIME80
counter and its steps, and the rate control the time service shares with it (R100 to R138, R166). -/

namespace Sys2Proof.Machine

/-- A SAFE-HOLD cause found while a command runs (R37); the command's meaning decides it at its end. The first stands. -/
def Dev.reqCause (d : Dev) (cause fold : Nat) : Dev :=
  if d.ctl.causeReq.isNone then { d with ctl := { d.ctl with causeReq := some (cause, fold) } } else d

/-! ## The counter (R120, R131) -/

/-- The effective slew: COUNTER_SLEW plus the backup compensation, within ±1,000 ppm (R120). -/
def Dev.effSlew (d : Dev) : Int := clampI (-65536) 65536 (d.objI 16 Obj.COUNTER_SLEW + d.tb.comp)

/-- A count of nanoseconds added to TIME80. -/
def TimeBase.addNs (t : TimeBase) (n : Nat) : TimeBase :=
  let m := t.ns + n
  { t with sec := (t.sec + m / 1000000000) % 2 ^ 48, ns := m % 1000000000 }

/-- The counter up to its next 125th nanosecond under a slew: it takes as many clock periods as that needs, and at a slew mark the
fraction takes the slew, with carry or borrow. A carry at the mark can put it 1 ns past (R120) (DEDUCED, log entry 5). -/
def TimeBase.tick (t : TimeBase) (slew : Int) : TimeBase :=
  let need := 125 - t.ahead
  let toMark := 1000 - t.sinceMark
  if need < toMark then
    { (t.addNs need) with ahead := 0, sinceMark := t.sinceMark + need, periods := t.periods + need }
  else
    let f : Int := t.frac + slew
    let carry := f / 65536
    let n := max toMark ((need : Int) - carry).toNat
    let gained := ((n : Int) + carry).toNat
    { (t.addNs gained) with
      frac := (f % 65536).toNat, ahead := gained - need, sinceMark := n - toMark, periods := t.periods + n }

/-- The nanoseconds the counter gains in k clock periods from now on, under a slew (R120). -/
def TimeBase.gained (t : TimeBase) (slew : Int) (k : Int) : Int := k + (t.frac + slew * ((t.sinceMark + k) / 1000)) / 65536

/-- The clock periods up to the boundary n ns of elapsed time after the last profile tick: the first at which the counter has gained them
(R120, R136). -/
def TimeBase.periodsTo (t : TimeBase) (slew : Int) (n : Nat) : Nat :=
  let want : Int := n - t.ahead
  let guess := 2 * want - t.gained slew want - 4
  match (List.range 9).find? (fun (i : Nat) => decide (want ≤ t.gained slew (guess + (i : Nat)))) with
  | some i => (guess + i).toNat
  | none => n

/-- The counter k × 2⁻⁴⁰ clock periods from now, under the effective slew, in 1/16 ns, rounded down (R409). -/
def Dev.counter16 (d : Dev) (k : Int) : Nat :=
  let marks := (d.tb.sinceMark + k / 2 ^ 40) / 1000
  ((((d.timeNs 0 : Int) * 65536 + d.tb.frac + d.effSlew * marks) * 2 ^ 24 + k) / 2 ^ 36).toNat

/-- TIME80 set to an instant; the fraction below the nanosecond stays (R132) (DESIGN CHOICE, log entry 5). -/
def Dev.setTime (d : Dev) (ns : Nat) : Dev :=
  { d with tb := { d.tb with sec := ns / 1000000000 % 2 ^ 48, ns := ns % 1000000000 } }

/-! ## Synthesisers -/

/-- The backup compensation for a relock target in ppb, in units of 2⁻¹⁶ ns per 1,000 ns, to the nearest unit (R123) (DEDUCED, log entry 13). -/
def compOf (ppb : Int) : Int := (ppb * 65536 + 500000) / 1000000

/-- A phase error in ps kept within minus half to plus half a comparison period (R130). -/
def wrapHalf (period x : Int) : Int := (x + period / 2) % period - period / 2

/-- A phase error as it is measured: 10 ps resolution, within half a comparison period (R107). -/
def measuredPhase (period x : Int) : Int := wrapHalf period (x / 10 * 10)

/-- The comparison period of PLL-T in ps (R111). -/
def Dev.periodT (d : Dev) : Int :=
  match d.obj Obj.PLLT_PRESCALE with
  | 0 => 80000
  | 1 => 40000
  | _ => 20000

/-- The comparison period of PLL-S in ps (R110). -/
abbrev periodS : Int := 40000

/-- The backup path serves: PLL-S locked or coasting (R122, R127). -/
def Dev.backupAvailable (d : Dev) : Bool := d.obj Obj.PLLS_STATE == 3 || d.obj Obj.PLLS_STATE == 4

/-- PLL-T serves: locked or coasting. -/
def Dev.servesT (d : Dev) : Bool := d.obj Obj.PLLT_STATE == 3 || d.obj Obj.PLLT_STATE == 4

/-- PLL-T is relocking: searching, acquiring or gated (R128). -/
def Dev.relockingT (d : Dev) : Bool := [1, 2, 5].contains (d.obj Obj.PLLT_STATE)

/-- A change of PLL-T's own data, and of PLL-S's. -/
def Dev.updT (d : Dev) (f : Pll → Pll) : Dev := { d with tb := { d.tb with pllT := f d.tb.pllT } }
def Dev.updS (d : Dev) (f : Pll → Pll) : Dev := { d with tb := { d.tb with pllS := f d.tb.pllS } }

/-- The band a search starts from: one below that of the last lock, or below the production trim band (R113) (DEDUCED, log entry 75). -/
def startBand (which : Nat) (p : Pll) : Nat := p.lastBand.getD (Config.trimBand which % 64) - 1

/-- The PLL-T band search begins with the W and N of the next lock; without an active input it is suspended (R113, R127, R140). -/
def Dev.searchT (d : Dev) : Dev :=
  let blind : Bool := d.obj Obj.REF_ACTIVE = 0xFF
  let d := (d.setObj Obj.PLLT_STATE (if blind then 5 else 1)).setObj Obj.PLLT_BAND (startBand 0 d.tb.pllT)
  d.updT (fun p => { p with window := d.obj Obj.PLLT_WINDOW, count := d.obj Obj.PLLT_COUNT, searchAt := d.now, suspended := blind })

/-- The PLL-S band search begins with the values that take effect at its lock, and the dither sequence starts from its seed (R112, R113,
R127, R141): a value written after this waits for the next lock (R129). -/
def Dev.searchS (d : Dev) : Dev :=
  let blind : Bool := d.obj Obj.REF_ACTIVE = 0xFF
  let d := (d.setObj Obj.PLLS_STATE (if blind then 5 else 1)).setObj Obj.PLLS_BAND (startBand 1 d.tb.pllS)
  let d := { d with tb := { d.tb with plsWritten := false } }
  d.updS (fun p => { p with window := d.obj Obj.PLLS_WINDOW, count := d.obj Obj.PLLS_COUNT, dither := d.objB Obj.PLLS_DITHER,
                            seed := d.obj Obj.PLLS_SEED, sequence := d.obj Obj.PLLS_SEED, searchAt := d.now, suspended := blind })

/-- What the PLL-S modulator adds to its word: the sequence's present value while dither is on (R112). -/
def Pll.ditherWord (p : Pll) : Nat := if p.dither then p.sequence % 2 ^ 32 else 0

/-- The dither sequence after n comparison cycles (R112) (DESIGN CHOICE, log entry 75). -/
def Pll.dithered (p : Pll) (n : Nat) : Pll :=
  if p.dither then { p with sequence := forN n (fun _ x => Config.ditherNext x % 2 ^ 32) p.sequence } else p

/-- A relock of PLL-T (R122, R123): consumers on the backup path, compensation at the target, band search. Without a backup path the
time base is lost (R37). The two clocks are in phase at the switch and at the return, so the fraction absorbs nothing, and a relock or
another comparison period keeps the build-out registers (R122, R130) (DESIGN CHOICE, log entry 13). -/
def Dev.relockT (d : Dev) (cause : Nat) (target : Int) : Dev :=
  let wasOn := d.objB Obj.BACKUP_ACTIVE
  let d := d.searchT.updT (fun p => { p with target := target })
  let d := { d with tb := { d.tb with comp := compOf target } }
  let d := (d.setObjB Obj.BACKUP_ACTIVE true).raise 0x11 cause
  let d := if wasOn then d else d.raise 0x17 cause
  if d.backupAvailable then d else d.reqCause 3 0

/-- The present PLL-T offset, ppb from nominal. -/
def Dev.offsetT (d : Dev) : Int := d.objI 32 Obj.PLLT_OFFSET

/-- The frequency PLL-T runs at, or will once its relock ends, ppb from nominal. -/
def Dev.goalT (d : Dev) : Int := if d.relockingT then d.tb.pllT.target else d.offsetT

/-- PLL-S is gated or locks in a state in which it relocks (R126, R129). -/
def Dev.waitsForS (d : Dev) : Bool := !d.backupAvailable && (d.state == stBoot || d.state == stConfig)

/-- The sum of the small steps that wait, ppb. -/
def TimeBase.stepSum (t : TimeBase) : Int := t.stepQ.foldl (· + ·) 0

/-- A relock of PLL-T to its goal, the steps that wait, and one change more: the steps requested before it are part of its target, which
then lies within ±500 ppm as each acceptance found it (R118) (DEDUCED, log entry 75). -/
def Dev.relockBy (d : Dev) (change : Int) : Dev :=
  ({ d with tb := { d.tb with stepQ := [] } } : Dev).relockT 3 (d.goalT + d.tb.stepSum + change)

/-- A requested relock of PLL-T by a change of frequency in ppb: at once, or, since PLL-T never relocks while PLL-S is gated, at its
lock (R129). -/
def Dev.requestRelockT (d : Dev) (change : Int) : Dev :=
  if d.waitsForS then { d with tb := { d.tb with tRelock := some (d.tb.tRelock.getD 0 + change) } }
  else d.relockBy change

/-! ## Small steps (R117 to R119, R128) -/

/-- The time service runs as a slave and owns PLLT_STEP and COUNTER_SLEW (R121). -/
def Dev.slaveRuns (d : Dev) : Bool := d.objB Obj.PTP_ENABLE && d.obj Obj.PTP_ROLE == 1

/-- A small step applied to PLL-T, or to its held word. -/
def Dev.smallStep (d : Dev) (ppb : Int) : Dev :=
  let d := { d with tb := { d.tb with prevOffset := d.offsetT, lastStepAt := some d.now } }
  let d := d.setObjI 32 Obj.PLLT_DRIFT (d.objI 32 Obj.PLLT_DRIFT + ppb)
  d.setObjI 32 Obj.PLLT_OFFSET (d.offsetT + ppb)

/-- A small step can be applied: PLL-T serves, and 1 µs has passed since the last one (R117, R128). -/
def Dev.stepReady (d : Dev) : Bool :=
  d.servesT && (match d.tb.lastStepAt with
    | none => true
    | some t => decide (t + 1000 ≤ d.now))

/-- A step refused as its target left ±500 ppm after its acceptance (R118) (DEDUCED, log entry 75). -/
def Dev.refuseStep (d : Dev) : Dev := d.raise 8 (0x0210 * 65536 + 7)

/-- The first step that waits, once it can be applied; one that would take PLLT_DRIFT past ±200 ppm starts a relock, and one that would
leave ±500 ppm waits for a relock that is due, or is refused (R118). -/
def Dev.pumpStep (d : Dev) : Dev :=
  match d.tb.stepQ with
  | [] => d
  | ppb :: t =>
    if !d.stepReady then d
    else
      let out : Bool := 500000 < absI (d.offsetT + ppb)
      if out && d.tb.tRelock.isSome then d
      else
        let d := { d with tb := { d.tb with stepQ := t } }
        if out then
          let d := if d.slaveRuns then { d with ptp := { d.ptp with pllPart := d.ptp.pllPart - ppb } } else d
          d.refuseStep
        else if absI (d.objI 32 Obj.PLLT_DRIFT + ppb) ≤ 200000 then d.smallStep ppb
        else d.requestRelockT ppb

/-- What waits in small steps, ppb. -/
def Dev.queuedSteps (d : Dev) : Int := d.tb.stepSum + d.tb.tRelock.getD 0

/-- A step request's target lies within ±500 ppm of nominal (R118). -/
def Dev.stepInRange (d : Dev) (ppb : Int) : Bool := decide (absI (d.goalT + d.queuedSteps + ppb) ≤ 500000)

/-- A PLLT_STEP taking effect: a small step, or a relock to the requested frequency; one whose target has left ±500 ppm since its
acceptance is refused (R117, R118) (DEDUCED, log entry 75). -/
def Dev.pllStep (d : Dev) (ppb : Int) : Dev :=
  if !d.stepInRange ppb then d.refuseStep
  else if absI ppb ≤ 2000 then ({ d with tb := { d.tb with stepQ := d.tb.stepQ ++ [ppb] } } : Dev).pumpStep
  else d.requestRelockT ppb

/-- The dither over the last tick: the comparison cycles of 40 ns that ended in it (R110, R112). -/
def Dev.ditherTick (d : Dev) : Dev :=
  if d.obj Obj.PLLS_STATE = 0 then d else d.updS (fun p => p.dithered (d.now / 40 - (d.now - 125) / 40))

/-- One profile tick of 125 ns of the counter (R136) (DESIGN CHOICE, log entry 4); a small step that waits is applied. -/
def Dev.tickTime (d : Dev) : Dev :=
  let d := ({ d with now := d.now + 125 } : Dev).ditherTick
  if d.tb.running then ({ d with tb := d.tb.tick d.effSlew } : Dev).pumpStep
  else if d.tb.pllT.everLocked then { d with tb := { d.tb with periods := d.tb.periods + 125 } }
  else d

/-! ## The service's rate (R121, R128, R165, R166) -/

/-- A change of frequency cut into small steps of at most ±2 ppm (R117, R166) (DEDUCED, log entry 15). -/
def cutSteps : Nat → Int → List Int
  | 0, _ => []
  | n + 1, x => if x = 0 then [] else (clampI (-2000) 2000 x) :: cutSteps n (x - clampI (-2000) 2000 x)

/-- y, in 2⁻¹⁶ ppb, put in force: the correction −y goes to PLL-T in small steps as far as R117 and R118 allow, the rest to
COUNTER_SLEW; while PLL-T relocks its steps are held and the whole goes to COUNTER_SLEW (R166) (DEDUCED, log entry 14). -/
def Dev.applyRate (d : Dev) (y : Int) : Dev :=
  let d := (d.setObjI 32 Obj.RATE_CORRECTION (y / 65536))
  let d := { d with ptp := { d.ptp with y := y } }
  if d.relockingT then
    ({ d with tb := { d.tb with heldService := true } } : Dev).setObjI 16 Obj.COUNTER_SLEW (sat 16 ((-y + 500000) / 1000000))
  else
    let drift := d.objI 32 Obj.PLLT_DRIFT + d.queuedSteps
    let goal := d.goalT + d.queuedSteps
    let change := clampI (-200000 - drift) (200000 - drift) (-y / 65536 - d.ptp.pllPart)
    let change := clampI (-500000 - goal) (500000 - goal) change
    let part := d.ptp.pllPart + change
    let d := { d with ptp := { d.ptp with pllPart := part }, tb := { d.tb with stepQ := d.tb.stepQ ++ cutSteps 500 change } }
    (d.pumpStep).setObjI 16 Obj.COUNTER_SLEW (sat 16 ((-y - part * 65536 + 500000) / 1000000))

/-! ## Relocks by a write (R122, R129) -/

/-- SerDes clock gone: ring, twin-link and Ethernet SerDes stop (R129). The bypasses are closed by the ring chapter. -/
def Dev.stopSerdes (d : Dev) : Dev := { d with tb := { d.tb with serdesStopped := true } }

/-- PLL-S relocked on request, and PLL-T after it (R129): in BOOT nothing serves the SerDes yet. -/
def Dev.relockBoth (d : Dev) : Dev :=
  let d := if d.state == stConfig then d.searchS.stopSerdes else d.searchS
  ({ d with tb := { d.tb with tRelock := some (d.tb.tRelock.getD 0) } } : Dev).raise 0x13 3

/-- PLLT_RELOCK taking effect (R122, R129): PLL-S first when one of its settings was written since its last lock began; while PLL-T
relocks, PLL-S is its backup path and waits for the end of it (DEDUCED, log entry 12). -/
def Dev.relockWrite (d : Dev) : Dev :=
  if d.state == stConfig && d.tb.plsWritten then
    if d.relockingT then { d with tb := { d.tb with bothPending := true } } else d.relockBoth
  else d.requestRelockT 0

/-- A relock of both that has waited for PLL-T starts, in CONFIG alone. -/
def Dev.relockPending (d : Dev) : Dev :=
  if !d.tb.bothPending || d.relockingT then d
  else
    let d := { d with tb := { d.tb with bothPending := false } }
    if d.state == stConfig then d.relockBoth else d

/-! ## References (R102 to R107) -/

/-- A PLL-T loop resumes from its held word, with build-out when the phase error lies beyond ±W (R107, R130). -/
def Dev.resumeT (d : Dev) (phase : Int) : Dev :=
  let phase := measuredPhase d.periodT phase
  let d := d.setObj Obj.PLLT_STATE 3
  if absI phase ≤ d.tb.pllT.window then d
  else
    let d := d.setObjI 32 Obj.PHASE_BUILD_OUT (wrapHalf d.periodT (d.objI 32 Obj.PHASE_BUILD_OUT + phase))
    d.raiseI 0x16 phase

/-- The same for PLL-S, whose register no object shows; its build-out is an event of its own (R130) (DESIGN CHOICE, log entry 13). -/
def Dev.resumeS (d : Dev) (phase : Int) : Dev :=
  let phase := measuredPhase periodS phase
  let d := d.setObj Obj.PLLS_STATE 3
  if absI phase ≤ d.tb.pllS.window then d
  else (d.updS (fun p => { p with buildOut := wrapHalf periodS (p.buildOut + phase) })).raiseI 0x16 phase

/-- Both loops locked or coasting meet an input more than 200 ppm off: they relock under R129 where PLL-S may, else PLL-T alone does
and PLL-S resumes (R107, R126) (DEDUCED, log entry 12). -/
def Dev.adoptFar (d : Dev) : Dev :=
  if d.backupAvailable && d.servesT && (d.state == stBoot || d.state == stConfig) then d.relockBoth
  else
    let d := if d.backupAvailable then d.setObj Obj.PLLS_STATE 3 else d
    if d.servesT then d.requestRelockT 0 else d

/-- The loops meet an input within 200 ppm. -/
def Dev.adoptNear (d : Dev) (phaseT phaseS : Int) : Dev :=
  let d := if d.backupAvailable then d.resumeS phaseS else d
  if d.servesT then d.resumeT phaseT else d

/-- A synthesiser that waits for a reference starts its band search: a suspended relock, or the first lock of BOOT (R109, R127). -/
def Dev.startSearches (d : Dev) : Dev :=
  let first := fun (st : Nat) => d.obj st == 0 && d.ctl.boot == .lock
  let d1 := if d.tb.pllS.suspended || first Obj.PLLS_STATE then d.searchS else d
  if d.tb.pllT.suspended || first Obj.PLLT_STATE then d1.searchT else d1

/-- A qualified input adopted (R107) (DEDUCED, log entry 12). The first adoption of a BOOT raises no REF_SWITCH, and after a loss the old
input in its data is the one last active (DESIGN CHOICE, log entry 12). -/
def Dev.adopt (d : Dev) (input : Nat) (diff phaseT phaseS : Int) : Dev :=
  let old := d.tb.lastRef
  let d := (d.setObj Obj.REF_ACTIVE input).setObjBit Obj.REF_STATUS 2 false
  let d := { d with tb := { d.tb with lastRef := input } }
  let d := if d.tb.pllT.everLocked then d.raise 0x15 (old * 256 + input) else d
  (if 200000 < absI diff then d.adoptFar else d.adoptNear phaseT phaseS).startSearches

/-- A qualified input is the one to use (R105, R106) (DEDUCED, log entry 12). -/
def Dev.refChosen (d : Dev) (input : Nat) : Bool :=
  let act := d.obj Obj.REF_ACTIVE
  let named := d.objB Obj.REF_REVERT && d.obj Obj.REF_SELECT == input
  if act = 0xFF then d.tb.lastRef == 0xFF || d.objB Obj.REF_AUTO || d.tb.lastRef == input || named else act != input && named

/-- REF_QUALIFIED: the edges present for REF_QUAL_TIME since the last loss, the frequency within ±1,000 ppm (R102, R105, R106, R109)
(DEDUCED, log entry 12). -/
def Dev.refQualified (d : Dev) (input : Nat) (freq diff phaseT phaseS : Int) : Dev :=
  let due := getAt 0 d.tb.refFrom input + d.obj Obj.REF_QUAL_TIME * 1000000
  if 1000000 < absI freq || d.now < due || bit (d.obj Obj.REF_STATUS) input then d
  else
    let d := d.setObjBit Obj.REF_STATUS input true
    if d.refChosen input then d.adopt input diff phaseT phaseS else d

/-- An input that is qualified already is adopted once an object names it (R105, R106). What it measures then is free (DESIGN CHOICE,
log entry 20). -/
def Dev.refCheck (d : Dev) : Dev :=
  match [0, 1].find? (fun i => bit (d.obj Obj.REF_STATUS) i && d.refChosen i) with
  | none => d
  | some i =>
    let a := d.draw 0x107
    let b := a.2.draw 0x107
    let c := b.2.draw 0x107
    c.2.adopt i ((a.1 % 2000001 : Nat) - 1000000) (b.1 % 80000 : Nat) (c.1 % 40000 : Nat)

/-- PLL-T holds the word of 8 comparison cycles before the loss: a step applied since is taken back (R104). -/
def Dev.coastT (d : Dev) : Dev :=
  let recent := match d.tb.lastStepAt with
    | none => false
    | some t => decide (((d.now : Int) - t) * 1000 < 8 * d.periodT)
  let back := if recent then d.offsetT - d.tb.prevOffset else 0
  let d := d.setObj Obj.PLLT_STATE 4
  if back = 0 then d
  else
    let d := (d.setObjI 32 Obj.PLLT_OFFSET (d.offsetT - back)).setObjI 32 Obj.PLLT_DRIFT (d.objI 32 Obj.PLLT_DRIFT - back)
    let d := { d with tb := { d.tb with prevOffset := d.offsetT } }
    if d.slaveRuns then { d with ptp := { d.ptp with pllPart := d.ptp.pllPart - back } } else d

/-- A synthesiser that loses its reference coasts, or suspends a relock (R104, R127). -/
def Dev.coast (d : Dev) : Dev :=
  let st := d.obj Obj.PLLT_STATE
  let d := if st = 3 then d.coastT
    else if st = 1 ∨ st = 2 then (d.setObj Obj.PLLT_STATE 5).updT (fun p => { p with suspended := true })
    else d
  let ss := d.obj Obj.PLLS_STATE
  if ss = 3 then d.setObj Obj.PLLS_STATE 4
  else if ss = 1 ∨ ss = 2 then (d.setObj Obj.PLLS_STATE 5).updS (fun p => { p with suspended := true })
  else d

/-- REF_LOSS (R103 to R105): the numbers describe the other input, for its adoption (DEDUCED, log entry 12). -/
def Dev.refLoss (d : Dev) (input : Nat) (diff phaseT phaseS : Int) : Dev :=
  let d := d.setObjBit Obj.REF_STATUS input false
  let d := { d with tb := { d.tb with refFrom := setAt d.tb.refFrom input d.now } }
  if d.obj Obj.REF_ACTIVE != input then d
  else
    let d := d.setObj Obj.REF_ACTIVE 0xFF
    let d := (d.setObjBit Obj.REF_STATUS 2 true).coast
    let d := d.raise 0x14 input
    if d.objB Obj.REF_AUTO && bit (d.obj Obj.REF_STATUS) (1 - input) then d.adopt (1 - input) diff phaseT phaseS else d

/-! ## Lock and unlock -/

/-- BAND_SEARCH_DONE, after one step of 2 µs at least: acquisition starts, and the N lock cycles count from here (R113, R114)
(DEDUCED, log entry 75). -/
def Dev.bandSearchDone (d : Dev) (pll : PllId) (band : Nat) : Dev :=
  match pll with
  | .t =>
    if d.obj Obj.PLLT_STATE = 1 ∧ d.tb.pllT.searchAt + 2000 ≤ d.now then
      ((d.setObj Obj.PLLT_STATE 2).setObj Obj.PLLT_BAND band).updT (fun p => { p with countFrom := d.now })
    else d
  | .s =>
    if d.obj Obj.PLLS_STATE = 1 ∧ d.tb.pllS.searchAt + 2000 ≤ d.now then
      ((d.setObj Obj.PLLS_STATE 2).setObj Obj.PLLS_BAND band).updS (fun p => { p with countFrom := d.now })
    else d

/-- The N lock cycles have passed since the count started (R114, R125). -/
def Pll.counted (p : Pll) (period : Int) (now : Nat) : Bool := decide ((p.count : Int) * period ≤ ((now : Int) - p.countFrom) * 1000)

/-- The counter starts at 0 s, 0 ns at the first PLL-T lock after BOOT; SDCLK is counted from there (R131, R136). -/
def Dev.startCounter (d : Dev) : Dev :=
  if d.tb.running || d.state == stSafeHold then d
  else { d with tb := { d.tb with running := true, sec := 0, ns := 0, frac := 0, sinceMark := 0, ahead := 0, periods := 0, sdLast := 0 } }

/-- PLL-T lock declared; consumers return from the backup path (R114, R125), the SerDes restart (R129); the service's held steps are
applied (R128). -/
def Dev.lockT (d : Dev) : Dev :=
  let t := d.tb.pllT
  let d := d.setObj Obj.PLLT_STATE 3
  let d := (d.setObjI 32 Obj.PLLT_OFFSET t.target).setObj Obj.PLLT_DRIFT 0
  let d := d.updT (fun _ => { t with lastBand := some (d.obj Obj.PLLT_BAND), everLocked := true })
  let d := { d with tb := { d.tb with comp := 0, serdesStopped := d.tb.serdesStopped && !d.backupAvailable, lastStepAt := none } }
  let d := d.startCounter
  let wasOn := d.objB Obj.BACKUP_ACTIVE
  let d := d.setObjB Obj.BACKUP_ACTIVE false
  let d := if wasOn then d.raise 0x18 0 else d
  let d := d.raise 0x10 (d.obj Obj.PLLT_BAND)
  let held := d.tb.heldService
  let d := { d with tb := { d.tb with heldService := false } }
  ((if held && d.slaveRuns then d.applyRate d.ptp.y else d).pumpStep).relockPending

/-- PLLT_LOCK: N comparison cycles within ±W since the count started, and no period swallowed in them (R114, R125). -/
def Dev.pllTLock (d : Dev) : Dev :=
  if d.obj Obj.PLLT_STATE = 2 ∧ d.tb.pllT.counted d.periodT d.now then d.lockT else d

/-- PLLS_LOCK: a pending PLL-T relock starts, and without one the SerDes have their clock again (R114, R129) (DEDUCED, log entry 45). -/
def Dev.lockS (d : Dev) : Dev :=
  if d.obj Obj.PLLS_STATE != 2 || !d.tb.pllS.counted periodS d.now then d
  else
    let d := d.setObj Obj.PLLS_STATE 3
    let d := d.updS (fun p => { p with lastBand := some (d.obj Obj.PLLS_BAND), everLocked := true })
    let pending := d.tb.tRelock
    let d := { d with tb := { d.tb with tRelock := none, serdesStopped := d.tb.serdesStopped && pending.isSome } }
    let d := d.raise 0x12 (d.obj Obj.PLLS_BAND)
    match pending with
    | none => d
    | some change => d.relockBy change

/-- PLL-T loses lock on an active input (R115): a relock to the same target. -/
def Dev.unlockT (d : Dev) (cause : Nat) : Dev :=
  if d.obj Obj.PLLT_STATE = 3 ∧ d.obj Obj.REF_ACTIVE ≠ 0xFF then d.relockT cause d.offsetT else d

/-- PLL-S, serving, loses lock (R115, R124, R126): it relocks in BOOT and CONFIG; elsewhere it stays gated, which is SAFE-HOLD cause
0x0006. While PLL-T's consumers are on the backup path the time base is lost, cause 0x0003. -/
def Dev.dropS (d : Dev) (cause : Nat) : Dev :=
  let relocks := d.state == stBoot || d.state == stConfig
  let d := if d.state == stBoot then d.searchS else if d.state == stConfig then d.searchS.stopSerdes else d.setObj Obj.PLLS_STATE 5
  let d := d.raise 0x13 cause
  if d.objB Obj.BACKUP_ACTIVE then d.reqCause 3 0 else if relocks then d else d.reqCause 6 0

/-- PLLS_UNLOCK: a phase error on an active input (R115). -/
def Dev.unlockS (d : Dev) (cause : Nat) : Dev := if d.obj Obj.PLLS_STATE = 3 then d.dropS cause else d

/-- CLAMP (R124, R125): a swallowed period on the output in use is a loss of lock, coasting or not; one in the N lock cycles starts
their count again. -/
def Dev.clamp (d : Dev) (pll : PllId) (n : Nat) : Dev :=
  match pll with
  | .t =>
    if d.servesT then (d.raise 0x19 n).relockT 2 d.offsetT
    else if d.obj Obj.PLLT_STATE = 2 then d.updT (fun p => { p with countFrom := d.now })
    else d
  | .s =>
    if d.backupAvailable then (d.raise 0x19 n).dropS 2
    else if d.obj Obj.PLLS_STATE = 2 then d.updS (fun p => { p with countFrom := d.now })
    else d

/-! ## The source of the safety tick (R137) -/

/-- The safety tick comes from the island's own oscillator. -/
def Dev.ownTick (d : Dev) : Bool := d.obj Obj.SAFETY_TICK_SOURCE != 0

/-- The island leaves the counter for its own oscillator, or returns (DEDUCED, log entry 46). -/
def Dev.tickSource (d : Dev) (own : Bool) : Dev :=
  if d.ownTick = own then d else (d.setObjB Obj.SAFETY_TICK_SOURCE own).raise 0x1B (b2n own)

/-- PLL-T or the backup path serves the time base, and the counter runs. -/
def Dev.counterServes (d : Dev) : Bool :=
  d.tb.running && (if d.objB Obj.BACKUP_ACTIVE then d.backupAvailable else d.servesT)

/-- The tick's source as the time base stands. -/
def Dev.refreshTick (d : Dev) : Dev := d.tickSource (!d.counterServes)

/-! ## Steps of TIME80 (R132) -/

/-- The effects every step has: timed actions discarded, STEP_COUNT, TIME_STEP. -/
def Dev.stepDone (d : Dev) : Dev :=
  let n := d.tally.timed.length
  let d := { d with tally := { d.tally with timed := [] } }
  (d.bumpBy 16 Obj.STEP_COUNT 1).raise 0x1A n

/-- The servo after its step: histories cleared, TRACKING (R164). -/
def Dev.servoStepped (d : Dev) : Dev :=
  let p := { d.ptp with delays := [], samples := [], lastO := none, outliers := 0, inLock := 0, outLock := 0, t1 := none, t3 := none }
  { (d.setObj Obj.SERVO_STATE 4) with ptp := p }

/-- A pending step applied, in CONFIG and READY alone (R132). -/
def Dev.timeStep (d : Dev) : Dev :=
  if d.state != stConfig && d.state != stReady then d
  else match d.tb.stepReq with
    | some t => ({ d with tb := { d.tb with stepReq := none } }.setTime t).stepDone
    | none => match d.tb.serviceStep with
      | some o =>
        let d := { d with tb := { d.tb with serviceStep := none } }
        ((d.setTime (d.timeNs 0 + o).toNat).stepDone).servoStepped
      | none => d

/-- TIME_STEP: a pending step at a cycle boundary (R132). The boundary's sample instant then carries the new time. -/
def Dev.stepNow (d : Dev) : Dev :=
  if !d.cycling || d.cyc.startAt != d.now then d
  else
    let e := d.timeStep
    { e with cyc := { e.cyc with startTime := e.timeNs 0 } }

/-! ## Meanings -/

/-- BAND_SEARCH_DONE. -/
def execBandSearchDone (pll : PllId) (band : Fin 64) (s : State) : Res := s.onDev (fun d => d.bandSearchDone pll band)

/-- TIME_STEP. -/
def execTimeStep (s : State) : Res := s.onDev Dev.stepNow

end Sys2Proof.Machine
end

