-- ==== Sys2Proof/Machine/Eth.lean ====
section
/-! DEFINITION. Machine/Eth.lean: the two-port Ethernet line, its egress queues and the transparent clock (R144 to R157), and ARP
(R85). The contents a frame brings to the Thoek itself come as commands of their own. -/

namespace Sys2Proof.Machine

/-! ## Frames -/

/-- The EtherType of a frame and the offset of its payload, past one IEEE 802.1Q tag (R152). -/
def etherType (f : List Byte) : Nat × Nat :=
  if fieldAt f 12 2 = 0x8100 then (fieldAt f 16 2, 18) else (fieldAt f 12 2, 14)

/-- The offset of the PTP header of an IEEE 1588 message and whether it travels in UDP/IPv4, for the transports supported. -/
def ptpOffset (f : List Byte) : Option (Nat × Bool) :=
  let (t, o) := etherType f
  if t = 0x88F7 then some (o, false)
  else if t = 0x0800 ∧ fieldAt f (o + 9) 1 = 17 then
    let u := o + 4 * (fieldAt f o 1 % 16)
    let p := fieldAt f (u + 2) 2
    if p = 319 ∨ p = 320 then some (u + 8, true) else none
  else none

/-- Whether a frame is a Sync or a Delay_Req in a supported transport and version, with its header of 34 bytes
whole (R152, R153) (DESIGN CHOICE for the length, log entry 18). -/
def isEventMessage (f : List Byte) : Option (Nat × Bool) :=
  match ptpOffset f with
  | none => none
  | some (o, v4) =>
    let version := fieldAt f (o + 1) 1
    if fieldAt f o 1 % 16 ≤ 1 ∧ version % 16 = 2 ∧ version / 16 ≤ 1 ∧ o + 34 ≤ f.length then some (o, v4) else none

/-- Whether a frame is an IEEE 1588 event message over UDP/IPv6 (R157). -/
def isIpv6Event (f : List Byte) : Bool :=
  let (t, o) := etherType f
  t == 0x86DD && fieldAt f (o + 6) 1 == 17 && fieldAt f (o + 42) 2 == 319 && fieldAt f (o + 48) 1 % 16 ≤ 3

/-- len bytes of a frame replaced at an offset. -/
def patch (f : List Byte) (off : Nat) (v : List Byte) : List Byte := f.take off ++ v ++ f.drop (off + v.length)

/-- The correctionField after a residence time in ns, saturating (R153, R155). -/
def addResidence (corr : Nat) (residence : Int) : Nat :=
  let v := sgn 64 corr + residence * 65536
  if corr = 0x7FFFFFFFFFFFFFFF ∨ (0x7FFFFFFFFFFFFFFF : Int) < v then 0x7FFFFFFFFFFFFFFF else raw 64 v

/-- A forwarded event message as it leaves: residence added, UDP checksum 0 (R153, R154). -/
def correctFrame (f : List Byte) (residence : Int) : List Byte :=
  match isEventMessage f with
  | none => f
  | some (o, v4) =>
    let f := patch f (o + 8) (beBytes 8 (addResidence (fieldAt f (o + 8) 8) residence))
    if v4 then patch f (o - 2) [0, 0] else f

/-- The ingress stamp of port p at off ns past the present instant, ns since 0 s, latency removed (R149, R150). -/
def Dev.ingressStamp (d : Dev) (p off : Nat) : Int := d.timeNs off - d.objI 16 (Obj.INGRESS_LATENCY p)

/-- The egress stamp of port p (R149, R150). -/
def Dev.egressStamp (d : Dev) (p off : Nat) : Int := d.timeNs off + d.objI 16 (Obj.EGRESS_LATENCY p)

/-- A message of the ordinary clock as it leaves: an own Sync carries the egress stamp of its copy (R162); a Delay_Req notes its
t3. -/
def Dev.stampOwn (d : Dev) (p off : Nat) (m : PtpMsg) : Dev × PtpMsg :=
  let t := d.egressStamp p off
  if m.kind = 0 then (d, { m with stamp := time80OfNs t.toNat })
  else if m.kind = 1 then
    (if d.ptp.reqSeq = m.seq then { d with ptp := { d.ptp with t3 := some t } } else d, m)
  else (d, m)

/-- What of a frame is written as it leaves a port at off ns past the present instant: the residence of a forwarded event message, which
is counted, and the stamp of an own message (R153, R162). -/
def Dev.asItLeaves (d : Dev) (p off : Nat) (q : EthQueued) : EthPayload × Dev :=
  match q.payload, q.ingress with
  | .raw f, some t =>
    if d.objB Obj.TC_ENABLE then (.raw (correctFrame f (d.egressStamp p off - t)), d.bump (Obj.TC_CORRECTED p)) else (.raw f, d)
  | .ptp m, _ =>
    let r := d.stampOwn p off m
    (.ptp r.2, r.1)
  | pl, _ => (pl, d)

/-- A frame starts at an egress port at off ns past the present instant. -/
def Dev.ethSend (d : Dev) (p off : Nat) (q : EthQueued) : Dev :=
  let r := d.asItLeaves p off q
  r.2.ethStart p q r.1

/-- The residence of a cut-through frame, ns: at least its first 64 bytes, at most 1,000 ns (R145, R147) (DESIGN CHOICE, log entry 20). -/
def Dev.cutThrough (d : Dev) : Nat × Dev :=
  let x := d.draw 0x147
  (512 + x.1 % 489, x.2)

/-- The state of an egress port. -/
def Dev.ethPort (d : Dev) (p : Nat) : EthPort := getAt { busy := false, queue := [], sending := none } d.eth p

/-- A frame sent on an idle port at once, or queued behind the one being sent (R146). -/
def Dev.ethOffer (d : Dev) (p off : Nat) (q : EthQueued) : Dev :=
  if (d.ethPort p).busy then { d with eth := upd (fun e => { e with queue := e.queue ++ [q] }) d.eth p }
  else d.ethSend p off q

/-! ## Reception and forwarding (R145, R156, R157) -/

/-- Whether a frame is addressed to the Thoek alone: the address of either port, whichever it came in on (R145) (DESIGN CHOICE, log
entry 18). -/
def Dev.isOwnMac (d : Dev) (f : List Byte) : Bool :=
  fieldAt f 0 6 == d.obj (Obj.MAC_ADDRESS 0) || fieldAt f 0 6 == d.obj (Obj.MAC_ADDRESS 1)

/-- A frame passed on to the other port: cut-through on an idle port, else through the pool's Ethernet reservation. A copy cut through
with a bad FCS ends with the inverted FCS (R145, R156) (DEDUCED, log entry 18). The event messages of R146 are Sync and Delay_Req over the
transports of R152, with TC_ENABLE 0 too; Pdelay messages and UDP/IPv6 ones go with the other frames (DESIGN CHOICE, log entry 18). -/
def Dev.forward (d : Dev) (p off : Nat) (f : List Byte) (fcsOk : Bool) : Dev :=
  let e := 1 - p
  let ev := (isEventMessage f).isSome
  let q : EthQueued := { cls := if ev then 0 else 2, payload := .raw f, ingress := if ev then some (d.ingressStamp p off) else none,
                         channel := 2, buffers := 0 }
  if !(d.ethPort e).busy then
    let c := d.cutThrough
    if fcsOk then c.2.ethSend e (off + c.1) q
    else
      let r := c.2.asItLeaves e (off + c.1) q
      let d := { r.2 with eth := upd (fun x => { x with busy := true, sending := none }) r.2.eth e }
      ((d.emit (.eth e (d.frameOf e r.1) false)).bump (Obj.TC_ERRORS p)).raise 0x28 p
  else if !fcsOk then d
  else match d.poolTake 2 f.length with
    | none => (d.bump (Obj.FORWARD_DROPPED p)).poolDrop 2
    | some d => d.ethOffer e off { q with buffers := buffersOf f.length }

/-- ETH_FRAME_RX (DEDUCED, log entry 18). -/
def Dev.ethFrameRx (d : Dev) (p off : Nat) (f : List Byte) (fcsOk : Bool) : Dev :=
  if !d.ethRuns || d.obj (Obj.LINK p) = 0 then d
  else
    let d := if fcsOk then d else d.bump (Obj.RX_FCS_ERRORS p)
    let d := if fcsOk && isIpv6Event f then (d.bump (Obj.IPV6_EVENTS p)).raise 0x29 p else d
    if d.obj (Obj.LINK (1 - p)) = 0 || d.isOwnMac f then d else d.forward p off f fcsOk

/-- ETH_EGRESS_TX: the frame being sent has ended; the next waiting frame is sent in the order of R146. -/
def Dev.ethEgressTx (d : Dev) (p off : Nat) : Dev :=
  let e := d.ethPort p
  let d := match e.sending with
    | some (c, n) => d.poolFree c n
    | none => d
  let d := { d with eth := upd (fun e => { e with busy := false, sending := none }) d.eth p }
  match pickFrame e.queue with
  | some q =>
    if !d.ethRuns then d
    else ({ d with eth := upd (fun e => { e with queue := e.queue.erase q }) d.eth p }).ethSend p off q
  | none => d

/-- A port's frames dropped, their buffers returned. -/
def Dev.ethFlush (d : Dev) (p : Nat) : Dev :=
  let e := d.ethPort p
  let d := e.queue.foldl (fun d q => d.poolFree q.channel q.buffers) d
  let d := match e.sending with
    | some (c, n) => d.poolFree c n
    | none => d
  { d with eth := upd (fun _ => { busy := false, queue := [], sending := none }) d.eth p }

/-- A link is up at 1,000 Mbit/s: a module's, or a PHY's whose auto-negotiation word says link (bit 15) and 1,000 Mbit/s ([11:10] = 2)
(R144) (PRESUMED, log entry 77). -/
def linkUp (r : LinkReport) : Bool :=
  match r with
  | .down => false
  | .module => true
  | .phy w => bit w.toNat 15 && bits w.toNat 11 10 == 2

/-- ETH_LINK (R144): a link that goes down empties its queue. -/
def Dev.ethLink (d : Dev) (p : Nat) (report : LinkReport) : Dev :=
  let up := linkUp report
  if d.tb.serdesStopped && up then d
  else if (d.obj (Obj.LINK p) != 0) == up then d
  else
    let d := d.setObjB (Obj.LINK p) up
    (if up then d else d.ethFlush p).raise 0x2A (b2n up * 256 + p)

/-- The unit answers on an address: its own, and on PAIR_ADDRESS the ACTIVE of a pair (R85, R515). -/
def Dev.ownsIp (d : Dev) (ip : Nat) : Bool :=
  ip != 0 && (ip == d.obj Obj.IPV4_ADDRESS || (ip == d.obj Obj.PAIR_ADDRESS && d.obj Obj.ROLE == 1))

/-- ARP_REQUEST: answered for the own address, on the port it came in on (R85). -/
def Dev.arpRequest (d : Dev) (p target senderIp senderMac : Nat) : Dev :=
  if !d.ethRuns || d.obj (Obj.LINK p) = 0 || !d.ownsIp target then d
  else match d.poolTake 3 64 with
    | none => d.poolDrop 3
    | some d => d.ethOffer p 0 { cls := 2, payload := .arp senderMac senderIp target, ingress := none, channel := 3, buffers := buffersOf 64 }

/-! ## Meanings -/

/-- ETH_FRAME_RX. -/
def execEthFrameRx (port : Fin 2) (frame : List Byte) (fcsOk : Bool) (off : Fin 125) (s : State) : Res :=
  guardForm (decide (60 ≤ frame.length) && decide (frame.length ≤ 1518)) (s.onDev (fun d => d.ethFrameRx port off frame fcsOk))

/-- ETH_EGRESS_TX. -/
def execEthEgressTx (port : Fin 2) (off : Fin 125) (s : State) : Res := s.onDev (fun d => d.ethEgressTx port off)

/-- ETH_LINK. -/
def execEthLink (port : Fin 2) (report : LinkReport) (s : State) : Res := s.onDev (fun d => d.ethLink port report)

/-- ARP_REQUEST. -/
def execArpRequest (eth : Fin 2) (target senderIp : BitVec 32) (senderMac : BitVec 48) (s : State) : Res :=
  s.onDev (fun d => d.arpRequest eth target.toNat senderIp.toNat senderMac.toNat)

end Sys2Proof.Machine
end

