-- ==== Sys2Proof/Machine/Ptp.lean ====
section
/-! DEFINITION. Machine/Ptp.lean: the ordinary clock and its servo (R158 to R168). -/

namespace Sys2Proof.Machine

/-- DISABLED. -/
abbrev svDisabled : Nat := 0
/-- LISTENING. -/
abbrev svListening : Nat := 1
/-- ACQUIRING. -/
abbrev svAcquiring : Nat := 2
/-- STEP_PENDING. -/
abbrev svStepPending : Nat := 3
/-- TRACKING. -/
abbrev svTracking : Nat := 4
/-- LOCKED. -/
abbrev svLocked : Nat := 5
/-- HOLDOVER. -/
abbrev svHoldover : Nat := 6
/-- MASTER. -/
abbrev svMaster : Nat := 7

/-- SERVO_STATE. -/
def Dev.servo (d : Dev) : Nat := d.obj Obj.SERVO_STATE

/-- 2 ^ log seconds in ns, for the log of a message's interval. -/
def intervalNs (log : Int) : Nat := if 0 ≤ log then 1000000000 * 2 ^ log.toNat else 1000000000 / 2 ^ (-log).toNat

/-- Whether the ordinary clock's PTP port hears Ethernet port p (R158). -/
def Dev.ptpHears (d : Dev) (p : Nat) : Bool := d.ethRuns && (d.obj Obj.PTP_PORT == 2 || d.obj Obj.PTP_PORT == p)

/-- Whether it takes a message that arrived on port p: by its transport, version and domain (R152, R158). -/
def Dev.ptpTakes (d : Dev) (p : Nat) (h : PtpHdr) : Bool :=
  d.ptpHears p && h.ieee == (d.obj Obj.PTP_TRANSPORT == 1) && h.version.toNat % 16 == 2 && decide (h.version.toNat / 16 ≤ 1)
    && h.domain.toNat == d.obj Obj.PTP_DOMAIN

/-- A message of the ordinary clock queued at an Ethernet port, from pool channel 3 (DESIGN CHOICE, log entry 19). -/
def Dev.ptpSend (d : Dev) (p off : Nat) (m : PtpMsg) : Dev :=
  if !d.ethRuns || d.obj (Obj.LINK p) = 0 then d
  else match d.poolTake 3 128 with
    | none => d.poolDrop 3
    | some d => d.ethOffer p off { cls := 1, payload := .ptp m, ingress := none, channel := 3, buffers := buffersOf 128 }

/-- A received message consumed: it passes through pool channel 3 (R218), one buffer at most as it leaves room for all that clause 13 of
IEEE 1588-2019 puts in it (DESIGN CHOICE, log entry 19). -/
def Dev.ptpConsume (d : Dev) (f : Dev → Dev) : Dev := d.consume 3 128 f

/-- The ports on which a master's Announce and Sync leave (R162). -/
def Dev.ptpPorts (d : Dev) : List Nat := match d.obj Obj.PTP_PORT with
  | 0 => [0]
  | 1 => [1]
  | _ => [0, 1]

/-- The logMessageInterval of an own message: of a Delay_Req 0x7F, of the others the object that paces them (R161, R162). -/
def Dev.ptpLog (d : Dev) (kind : Nat) : Nat :=
  match kind with
  | 0 => d.obj Obj.LOG_SYNC_INTERVAL
  | 1 => 0x7F
  | 9 => d.obj Obj.LOG_DELAY_REQ_INTERVAL
  | _ => d.obj Obj.LOG_ANNOUNCE_INTERVAL

/-- The fields every own message has. -/
def Dev.ptpMsg (d : Dev) (kind seq : Nat) : PtpMsg :=
  { kind := kind, identity := d.obj Obj.CLOCK_IDENTITY, portNumber := 1, domain := d.obj Obj.PTP_DOMAIN, seq := seq, corr := 0,
    stamp := 0, transport := d.obj Obj.PTP_TRANSPORT, log := d.ptpLog kind, extra := [] }

/-! ## The servo's output (R165, R167) -/

/-- 500 ppm in 2⁻¹⁶ ppb, the limit of y, y_f and y_p. -/
abbrev rateLimit : Int := 500000 * 65536

/-- FREQ_PART shows y_f in whole ppb (DEDUCED, log entry 17). -/
def Dev.showFreq (d : Dev) : Dev := d.setObjI 32 Obj.FREQ_PART (d.ptp.yf / 65536)

/-- The frequency part alone: y_p := 0 (R163, R167). -/
def Dev.freqOnly (d : Dev) : Dev := d.showFreq.applyRate d.ptp.yf

/-- The update of R165 on an accepted offset in ns; rates in 2⁻¹⁶ ppb. -/
def Dev.servoUpdate (d : Dev) (o : Int) : Dev :=
  let yp := clampI (-rateLimit) rateLimit (d.obj Obj.SERVO_KP * o)
  let yf := if d.ptp.clampedLast then d.ptp.yf else clampI (-rateLimit) rateLimit (d.ptp.yf + d.obj Obj.SERVO_KI * o)
  let y := yf + yp
  let clamped : Bool := decide (rateLimit < absI y)
  let due := match d.ptp.unclamped with
    | none => true
    | some n => 16 ≤ n
  let count := if clamped then some 0 else d.ptp.unclamped.map (· + 1)
  let d := { d with ptp := { d.ptp with yf := yf, clampedLast := clamped, unclamped := count } }
  let d := if clamped && due then d.raiseI 0x27 (y / 65536) else d
  d.showFreq.applyRate (clampI (-rateLimit) rateLimit y)

/-! ## States -/

/-- The ordinary clock without a master and without a step to make: what the servo holds, its rate, stays. -/
def Dev.forgetMaster (d : Dev) : Dev :=
  let d := ((d.setObj Obj.MASTER_IDENTITY 0).setObj Obj.MASTER_PORT 0).setObj Obj.MASTER_INGRESS 0xFF
  let p := { d.ptp with t1 := none, t3 := none, syncInterval := 0, reqInterval := none, samples := [], delays := [], acqCount := 0 }
  { d with ptp := p, tb := { d.tb with serviceStep := none } }

/-- PTP_ENABLE or PTP_ROLE written (R158, R163): LISTENING keeps y_f alone; out of the slave role no master is heard or followed. -/
def Dev.ptpConfigured (d : Dev) : Dev :=
  if d.slaveRuns then
    (if d.servo = svDisabled ∨ d.servo = svMaster then (d.setObj Obj.SERVO_STATE svListening).freqOnly else d)
  else
    let d := d.forgetMaster
    let d := { d with ptp := { d.ptp with foreign := [] }, tb := { d.tb with heldService := false } }
    d.setObj Obj.SERVO_STATE (if d.objB Obj.PTP_ENABLE then svMaster else svDisabled)

/-- A master selected (R159, R163): ACQUIRING, or TRACKING without a step out of HOLDOVER (PRESUMED, log entry 16). -/
def Dev.selectMaster (d : Dev) (f : ForeignMaster) : Dev :=
  let from6 := d.servo == svHoldover
  let d := d.forgetMaster
  let d := ((d.setObj Obj.MASTER_IDENTITY f.identity).setObj Obj.MASTER_PORT f.port).setObj Obj.MASTER_INGRESS f.ingress
  let d := (d.setObj Obj.UTC_OFFSET f.utc).setObj Obj.SERVO_STATE (if from6 then svTracking else svAcquiring)
  let p := { d.ptp with annInterval := f.interval, lastAnnAt := d.now, lastSyncAt := d.now, outliers := 0, lastO := none, inLock := 0,
                        outLock := 0 }
  ({ d with ptp := p }).raise 0x20 (f.identity % 2 ^ 32)

/-- A master is selected. -/
def Dev.hasMaster (d : Dev) : Bool := d.obj Obj.MASTER_INGRESS != 0xFF

/-- A message comes from the selected master, on the port it is followed on. -/
def Dev.fromMaster (d : Dev) (p : Nat) (h : PtpHdr) : Bool :=
  d.slaveRuns && d.ptpTakes p h && d.hasMaster
    && h.identity.toNat == d.obj Obj.MASTER_IDENTITY && h.port.toNat == d.obj Obj.MASTER_PORT && p == d.obj Obj.MASTER_INGRESS

/-- One data set is better than another: the first difference in the order of comparison decides (IEEE 1588-2019 clause 9.3). -/
def betterKey : List Nat → List Nat → Bool
  | a :: s, b :: t => if a = b then betterKey s t else decide (a < b)
  | _, _ => false

/-- The key of an Announce, in the order of comparison. -/
def announceKey (h : PtpHdr) (a : AnnounceSet) (p : Nat) : List Nat :=
  [a.priority1.toNat, a.clockClass.toNat, a.accuracy.toNat, a.variance.toNat, a.priority2.toNat, a.gmIdentity.toNat,
   a.stepsRemoved.toNat, h.identity.toNat, h.port.toNat, p]

/-- A foreign master is still heard: an Announce within four of its intervals. -/
def ForeignMaster.alive (f : ForeignMaster) (now : Nat) : Bool := decide (now ≤ f.lastAt + 4 * f.interval)

/-- The foreign-master list with an Announce entered; the second within four intervals qualifies its master, and one not heard for four
starts again (PRESUMED, log entry 16). -/
def enterForeign (l : List ForeignMaster) (now : Nat) (h : PtpHdr) (a : AnnounceSet) (p : Nat) : List ForeignMaster × ForeignMaster :=
  let same := fun f : ForeignMaster => f.identity == h.identity.toNat && f.port == h.port.toNat && f.ingress == p
  let base : ForeignMaster :=
    { identity := h.identity.toNat, port := h.port.toNat, ingress := p, key := announceKey h a p, since := none, lastAt := now,
      count := 1, interval := intervalNs (sgn 8 h.logInterval.toNat), utc := a.utcOffset.toNat }
  let f := match l.find? same with
    | some o => if o.alive now then { base with since := some (o.since.getD now), count := o.count + 1 } else base
    | none => base
  (l.filter (fun x => !same x) ++ [f], f)

/-- The better of two foreign masters. -/
def betterMaster (a b : ForeignMaster) : ForeignMaster := if betterKey b.key a.key then b else a

/-- The best qualified master heard (R159). -/
def Dev.bestMaster (d : Dev) : Option ForeignMaster :=
  match d.ptp.foreign.filter (fun f => f.since.isSome && f.alive d.now) with
  | [] => none
  | f :: t => some (t.foldl betterMaster f)

/-- With no master, the best qualified one is followed. -/
def Dev.seekMaster (d : Dev) : Dev :=
  match d.bestMaster with
  | some f => d.selectMaster f
  | none => d

/-- The selected master's entry in the list. -/
def Dev.presentMaster (d : Dev) : Option ForeignMaster :=
  d.ptp.foreign.find? (fun x => x.identity == d.obj Obj.MASTER_IDENTITY && x.port == d.obj Obj.MASTER_PORT && x.ingress == d.obj Obj.MASTER_INGRESS)

/-- A master may take the place of the selected one: better, and qualified for four of its intervals (R159). -/
def Dev.mayReplace (d : Dev) (f : ForeignMaster) : Bool :=
  (match f.since with
   | some t => decide (t + 4 * f.interval ≤ d.now)
   | none => false) &&
  (match d.presentMaster with
   | some m => betterKey f.key m.key
   | none => true)

/-- PTP_ANNOUNCE_RX (R159, R160) (PRESUMED, log entry 16). -/
def Dev.announceRx (d : Dev) (p : Nat) (h : PtpHdr) (a : AnnounceSet) : Dev :=
  if !d.slaveRuns || !d.ptpTakes p h then d
  else d.ptpConsume fun d =>
    let r := enterForeign d.ptp.foreign d.now h a p
    let f := r.2
    let d := { d with ptp := { d.ptp with foreign := r.1 } }
    if d.fromMaster p h then
      let d := d.setObj Obj.UTC_OFFSET f.utc
      { d with ptp := { d.ptp with annInterval := f.interval, lastAnnAt := d.now } }
    else if !d.hasMaster then d.seekMaster
    else if d.mayReplace f then d.selectMaster f
    else d

/-- PTP_MASTER_LOST (R160, R163): HOLDOVER out of TRACKING and LOCKED, else LISTENING; then the best other master is followed. -/
def Dev.masterLost (d : Dev) : Dev :=
  let p := d.ptp
  let lost := p.lastAnnAt + d.obj Obj.ANNOUNCE_RECEIPT_TIMEOUT * p.annInterval ≤ d.now
    || (p.syncInterval != 0 && p.lastSyncAt + 4 * p.syncInterval ≤ d.now)
  if !d.slaveRuns || !d.hasMaster || !lost then d
  else
    let id := d.obj Obj.MASTER_IDENTITY
    let wasRunning := d.servo == svTracking || d.servo == svLocked
    let keep := p.foreign.filter (fun x => x.identity != id)
    let d := ({ d with ptp := { p with foreign := keep } } : Dev).forgetMaster
    let d := d.setObj Obj.SERVO_STATE (if wasRunning then svHoldover else svListening)
    let d := if wasRunning then d.raise 0x21 (id % 2 ^ 32) else d
    d.freqOnly.seekMaster

/-! ## Samples (R149 to R151, R165) -/

/-- PTP_SYNC_RX. -/
def Dev.syncRx (d : Dev) (p : Nat) (h : PtpHdr) (twoStep : Bool) (origin off : Nat) : Dev :=
  if !d.fromMaster p h then d
  else d.ptpConsume fun d =>
    let q := { d.ptp with syncInterval := intervalNs (sgn 8 h.logInterval.toNat), lastSyncAt := d.now, syncSeq := h.seq.toNat }
    let t1 : Option Int := if twoStep then none else some (nsOfTime80 origin)
    { d with ptp := { q with t1 := t1, t2 := d.ingressStamp p off, corrSync := sgn 64 h.corr.toNat } }

/-- PTP_FOLLOW_UP_RX. -/
def Dev.followUpRx (d : Dev) (p : Nat) (h : PtpHdr) (origin : Nat) : Dev :=
  if !d.fromMaster p h || d.ptp.syncSeq != h.seq.toNat || d.ptp.t1.isSome then d
  else d.ptpConsume fun d =>
    { d with ptp := { d.ptp with t1 := some (nsOfTime80 origin : Int), corrSync := d.ptp.corrSync + sgn 64 h.corr.toNat } }

/-- The slope of the offset over the samples, in 2⁻¹⁶ ppb (R167): newest first. -/
def slopeRate (l : List (Int × Int)) : Int :=
  match l.head?, l.getLast? with
  | some a, some b => if a.2 = b.2 then 0 else (a.1 - b.1) * 65536000000000 / (a.2 - b.2)
  | _, _ => 0

/-- The mean of integers, toward minus infinity. -/
def meanI (l : List Int) : Int := if l.isEmpty then 0 else l.foldl (· + ·) 0 / l.length

/-- STEP_PENDING (R163, R167): the rate in force corrected by the slope that remains, so that TIME80 runs at network rate (DEDUCED,
log entry 14). -/
def Dev.deferStep (d : Dev) (mean : Int) : Dev :=
  let d := d.setObj Obj.SERVO_STATE svStepPending
  let d := { d with ptp := { d.ptp with yf := clampI (-rateLimit) rateLimit (d.ptp.y + slopeRate d.ptp.samples) } }
  (d.raiseI 0x23 mean).freqOnly

/-- A step of the service that its boundary did not take (R132, R163). -/
def Dev.stepDeferred (d : Dev) : Dev :=
  match d.tb.serviceStep with
  | some o => if d.servo = svAcquiring then d.deferStep (-o) else d
  | none => d

/-- The end of ACQUIRING (R164). -/
def Dev.acquired (d : Dev) (mean : Int) : Dev :=
  let d := d.raiseI 0x22 mean
  if !d.objB Obj.STEP_ARM then d.setObj Obj.SERVO_STATE svTracking
  else
    let d := d.setObj Obj.STEP_ARM 0
    if absI mean ≤ d.obj Obj.STEP_MIN then d.setObj Obj.SERVO_STATE svTracking
    else
      let d := { d with tb := { d.tb with serviceStep := some (-mean) } }
      if d.state == stConfig || d.state == stReady then d else d.deferStep mean

/-- An accepted offset in TRACKING or LOCKED: limits, update, lock and unlock (R163, R165, R168). -/
def Dev.trackSample (d : Dev) (o : Int) : Dev :=
  let d := if (d.obj Obj.OFFSET_LIMIT : Int) < absI o then d.raiseI 0x26 o else d
  let d := d.servoUpdate o
  let thr : Int := d.obj Obj.LOCK_THRESHOLD
  let inL := if absI o ≤ thr then d.ptp.inLock + 1 else 0
  let outL := if 4 * thr < absI o then d.ptp.outLock + 1 else 0
  let d := { d with ptp := { d.ptp with inLock := inL, outLock := outL } }
  if d.servo = svTracking ∧ 16 ≤ inL then
    ({ (d.setObj Obj.SERVO_STATE svLocked) with ptp := { d.ptp with outLock := 0 } }).raise 0x24 0
  else if d.servo = svLocked ∧ 4 ≤ outL then
    ({ (d.setObj Obj.SERVO_STATE svTracking) with ptp := { d.ptp with inLock := 0 } }).raiseI 0x25 o
  else d

/-- The outlier rule of R165: the sample is discarded, unless it is the fourth in a row. It holds in every state of the servo (DESIGN CHOICE,
log entry 17). -/
def Dev.isOutlier (d : Dev) (o : Int) : Bool :=
  match d.ptp.lastO with
  | none => false
  | some l => d.obj Obj.OUTLIER != 0 && decide ((d.obj Obj.OUTLIER : Int) < absI (o - l)) && decide (d.ptp.outliers < 3)

/-- A new offset sample in ns. -/
def Dev.offsetSample (d : Dev) (o : Int) : Dev :=
  if d.isOutlier o then { d with ptp := { d.ptp with outliers := d.ptp.outliers + 1 } }
  else
    let d := { d with ptp := { d.ptp with outliers := 0, lastO := some o } }
    let d := d.setObjI 64 Obj.OFFSET o
    if d.servo = svAcquiring ∧ d.tb.serviceStep.isNone then
      let n := d.obj Obj.ACQ_SAMPLES
      let l := ((o, (d.now : Int)) :: d.ptp.samples).take n
      let d := { d with ptp := { d.ptp with samples := l, acqCount := d.ptp.acqCount + 1 } }
      if n ≤ d.ptp.acqCount then d.acquired (meanI (l.map (·.1))) else d
    else if d.servo = svTracking ∨ d.servo = svLocked then d.trackSample o
    else d

/-- PTP_DELAY_RESP_RX: the pair completes an offset sample (R161, R165) (DEDUCED, log entry 17). -/
def Dev.delayRespRx (d : Dev) (p : Nat) (h : PtpHdr) (received reqIdentity reqPort : Nat) : Dev :=
  if !d.fromMaster p h || reqIdentity != d.obj Obj.CLOCK_IDENTITY || reqPort != 1 || h.seq.toNat != d.ptp.reqSeq then d
  else d.ptpConsume fun d =>
    let d := { d with ptp := { d.ptp with reqInterval := some (intervalNs (sgn 8 h.logInterval.toNat)) } }
    match d.ptp.t1, d.ptp.t3 with
    | some t1, some t3 =>
      let t4 : Int := nsOfTime80 received
      let path := (((d.ptp.t2 - t3) + (t4 - t1)) * 65536 - d.ptp.corrSync - sgn 64 h.corr.toNat) / 2
      let l := (path :: d.ptp.delays).take (d.obj Obj.DELAY_AVG)
      let avg := meanI l
      let o := ((d.ptp.t2 - t1) * 65536 - avg - d.ptp.corrSync) / 65536
      let d := { d with ptp := { d.ptp with delays := l, t3 := none } }
      (d.setObjI 32 Obj.MEAN_PATH_DELAY (sat 32 (avg / 65536))).offsetSample o
    | _, _ => d

/-! ## Transmission (R161, R162) -/

/-- The next Delay_Req may leave: never sooner after the last one than LOG_DELAY_REQ_INTERVAL allows, nor than half the master's
interval, which is how far requests are spread (R161). -/
def Dev.reqAllowed (d : Dev) : Bool :=
  match d.ptp.reqAt with
  | none => true
  | some t => decide (t + max (intervalNs (d.objI 8 Obj.LOG_DELAY_REQ_INTERVAL)) (d.ptp.reqInterval.getD 0 / 2) ≤ d.now)

/-- PTP_DELAY_REQ_TX: on the port of the selected master. -/
def Dev.delayReqTx (d : Dev) (off : Nat) : Dev :=
  if !d.slaveRuns || !d.hasMaster || !d.reqAllowed then d
  else
    let seq := (d.ptp.reqSeq + 1) % 65536
    let d := { d with ptp := { d.ptp with reqSeq := seq, t3 := none, reqAt := some d.now } }
    d.ptpSend (d.obj Obj.MASTER_INGRESS) off (d.ptpMsg 1 seq)

/-- The clock runs as a master. -/
def Dev.masterRuns (d : Dev) : Bool := d.objB Obj.PTP_ENABLE && d.obj Obj.PTP_ROLE == 2

/-- PTP_ANNOUNCE_TX. -/
def Dev.announceTx (d : Dev) : Dev :=
  if !d.masterRuns then d
  else
    let m := { d.ptpMsg 0xB d.ptp.annSeq with extra := [d.obj Obj.PRIORITY1, d.obj Obj.CLOCK_CLASS, d.obj Obj.PRIORITY2] }
    let d := { d with ptp := { d.ptp with annSeq := (d.ptp.annSeq + 1) % 65536 } }
    d.ptpPorts.foldl (fun d p => d.ptpSend p 0 m) d

/-- PTP_SYNC_TX. -/
def Dev.syncTx (d : Dev) (off : Nat) : Dev :=
  if !d.masterRuns then d
  else
    let m := d.ptpMsg 0 d.ptp.masterSyncSeq
    let d := { d with ptp := { d.ptp with masterSyncSeq := (d.ptp.masterSyncSeq + 1) % 65536 } }
    d.ptpPorts.foldl (fun d p => d.ptpSend p off m) d

/-- PTP_DELAY_REQ_RX: answered on the port it arrived on, with its ingress stamp. -/
def Dev.delayReqRx (d : Dev) (p : Nat) (h : PtpHdr) (off : Nat) : Dev :=
  if !d.masterRuns || !d.ptpTakes p h then d
  else d.ptpConsume fun d =>
    let m := { d.ptpMsg 9 h.seq.toNat with corr := h.corr.toNat, stamp := time80OfNs (d.ingressStamp p off).toNat,
                                           extra := [h.identity.toNat, h.port.toNat] }
    d.ptpSend p 0 m

/-! ## Meanings -/

/-- PTP_SYNC_RX. -/
def execPtpSyncRx (port : Fin 2) (h : PtpHdr) (twoStep : Bool) (origin : BitVec 80) (off : Fin 125) (s : State) : Res :=
  s.onDev (fun d => d.syncRx port h twoStep origin.toNat off)

/-- PTP_FOLLOW_UP_RX. -/
def execPtpFollowUpRx (port : Fin 2) (h : PtpHdr) (origin : BitVec 80) (s : State) : Res :=
  s.onDev (fun d => d.followUpRx port h origin.toNat)

/-- PTP_ANNOUNCE_RX. -/
def execPtpAnnounceRx (port : Fin 2) (h : PtpHdr) (set : AnnounceSet) (s : State) : Res :=
  s.onDev (fun d => d.announceRx port h set)

/-- PTP_DELAY_REQ_RX. -/
def execPtpDelayReqRx (port : Fin 2) (h : PtpHdr) (off : Fin 125) (s : State) : Res := s.onDev (fun d => d.delayReqRx port h off)

/-- PTP_DELAY_REQ_TX. -/
def execPtpDelayReqTx (off : Fin 125) (s : State) : Res := s.onDev (fun d => d.delayReqTx off)

/-- PTP_ANNOUNCE_TX. -/
def execPtpAnnounceTx (s : State) : Res := s.onDev Dev.announceTx

/-- PTP_SYNC_TX. -/
def execPtpSyncTx (off : Fin 125) (s : State) : Res := s.onDev (fun d => d.syncTx off)

end Sys2Proof.Machine
end

