-- ==== Sys2Proof/Machine/Ring.lean ====
section
/-! DEFINITION. Machine/Ring.lean: the drive rings: bypass, discovery and delivery bounds, fold and heal, messages, halt frames,
uplink blocks and the frames' bytes (R177 to R224). -/

namespace Sys2Proof.Machine

/-! ## Reading the ring state -/

/-- Ring r. -/
def Dev.ring (d : Dev) (r : Nat) : Ring := getAt emptyRing d.rings r

/-- Ring r changed. -/
def Dev.updRing (d : Dev) (r : Nat) (f : Ring → Ring) : Dev := { d with rings := upd f d.rings r }

/-- RING_ENABLE of ring r. -/
def Dev.ringEnabled (d : Dev) (r : Nat) : Bool := bit (d.obj Obj.RING_ENABLE) r

/-- The bypass of ring r is open. -/
def Dev.ringOpen (d : Dev) (r : Nat) : Bool := !bit (d.obj Obj.BYPASS_STATE) r

/-- The node at a position, 1 to N. -/
def Ring.node (g : Ring) (p : Nat) : Option RingNode := if p = 0 then none else (g.nodes.drop (p - 1)).head?

/-- The positions each port serves: the halves of discovery, the fold plan's, or the
takeover plan's (R178, R209, R512). Nearest first. -/
def Ring.served (g : Ring) (lost : List Nat) : List Nat × List Nat :=
  let n := g.nodes.length
  match g.takeover with
  | some (p, _, _) => ((List.range (n - p)).map (fun i => p + 1 + i), (List.range (p - 1)).map (fun i => p - 1 - i))
  | none =>
  let east := match lost.min? with
    | none => g.split
    | some l => l
  let west := match lost.max? with
    | none => g.split
    | some l => l
  ((List.range east).map (· + 1), ((List.range (n - west)).map (fun i => n - i)))

/-- SAFE_SLOTS of a position. -/
def Dev.safeSlots (d : Dev) (r p : Nat) : Nat := d.obj (Obj.SAFE_SLOTS r (p - 1))

/-- Bytes of a node's downlink block (R186); a standby Thoek hosts no axis and has none. -/
def Dev.downBytes (d : Dev) (r : Nat) (g : Ring) (p : Nat) : Nat :=
  match g.node p with
  | none => 0
  | some n => if n.axes = 0 then 0 else 8 + 16 * n.axes + (if bit (d.safeSlots r p) 0 then 48 else 0)

/-- Bytes of a node's uplink block (R188). -/
def Dev.upBytes (d : Dev) (r : Nat) (g : Ring) (p : Nat) : Nat :=
  match g.node p with
  | none => 0
  | some n => if n.axes = 0 then 0 else 12 + 24 * n.axes + (if bit (d.safeSlots r p) 1 then 48 else 0)

/-- D(h) of a position from a port: east 0, west 1. -/
def Ring.delay (g : Ring) (port p : Nat) : Nat :=
  match g.node p with
  | none => 0
  | some n => if port = 0 then n.dEast else n.dWest

/-! ## Delivery bounds (R25, R193, R196) -/

/-- The scatter bound over positions given nearest first. -/
def Dev.scatter (d : Dev) (r : Nat) (g : Ring) (port : Nat) : List Nat → Nat
  | [] => 0
  | p :: far =>
    max (4 * (36 + ((p :: far).map (d.downBytes r g)).foldl (· + ·) 0) + g.delay port p) (d.scatter r g port far)

/-- A(h) carried along the positions, nearest first; a is A(h − 1) and b the size of that node's block. -/
def Dev.gatherFrom (d : Dev) (r : Nat) (g : Ring) (port : Nat) : List Nat → Nat → Nat → Nat
  | [], a, b => a + 4 * b
  | p :: far, a, b => d.gatherFrom r g port far (max (g.delay port p + 120) (a + 4 * b)) (d.upBytes r g p)

/-- The gather bound of a direction. -/
def Dev.gather (d : Dev) (r : Nat) (g : Ring) (port : Nat) (l : List Nat) : Nat :=
  if l.isEmpty then 0 else d.gatherFrom r g port l 0 0

/-- The one-way delay of a direction: D(H) + 160 ns (R25). -/
def Ring.oneWay (g : Ring) (port : Nat) (l : List Nat) : Nat :=
  match l.getLast? with
  | none => 0
  | some p => g.delay port p + 160

/-- The largest of the four delivery bounds under a split. -/
def Dev.splitBound (d : Dev) (r : Nat) (g : Ring) (s : Nat) : Nat :=
  let h := ({ g with split := s } : Ring).served []
  max (max (d.scatter r g 0 h.1) (d.scatter r g 1 h.2)) (max (d.gather r g 0 h.1) (d.gather r g 1 h.2))

/-- The split that minimises the largest bound among 1 to n, the larger on a tie (R205). -/
def Dev.bestSplit (d : Dev) (r : Nat) (g : Ring) : Nat → Nat
  | 0 => 1
  | 1 => 1
  | n + 1 =>
    let b := d.bestSplit r g n
    if d.splitBound r g (n + 1) ≤ d.splitBound r g b then n + 1 else b

/-- The worst folded path over every break position (R27, R196). -/
def Dev.foldedWorst (d : Dev) (r : Nat) (g : Ring) : Nat :=
  (List.range (g.nodes.length + 1)).foldl (fun m l =>
    let h := g.served [l]
    max m (max (max (g.oneWay 0 h.1) (d.gather r g 0 h.1)) (max (g.oneWay 1 h.2) (d.gather r g 1 h.2)))) 0

/-! ## Bypass (R214 to R216) -/

/-- A bypass closes: the ring is as though the Thoek were absent. A loopback passed holds while the SerDes keep their clock. -/
def Dev.closeBypass (d : Dev) (r : Nat) : Dev :=
  let kept : Bool := (d.ring r).looped && !d.tb.serdesStopped && d.backupAvailable
  if !d.ringOpen r then d.updRing r (fun g => { g with looped := kept })
  else
    let d := d.setObjBit Obj.BYPASS_STATE r true
    let d := d.setObjBit (Obj.RING_STATUS r) 0 false
    let d := d.updRing r (fun g => { emptyRing with msgSeq := g.msgSeq, looped := kept })
    let d := d.emit (.bypass r true)
    d.raise 0x3C (r * 256 + 1)

/-- Every bypass closes. -/
def Dev.closeBypasses (d : Dev) : Dev := (d.closeBypass 0).closeBypass 1

/-- The ring SerDes have their clock and their supplies: PLL-S locked or coasting, VCORE and VSER in range; VCORE is out of range from
cause 0x0004 on (R37, R214) (DEDUCED, log entry 79). -/
def Dev.serdesRun (d : Dev) : Bool :=
  d.cycling && !d.tb.serdesStopped && d.backupAvailable && getAt false d.ctl.supplies 0 && getAt false d.ctl.supplies 1
    && !(d.ctl.holding && d.obj Obj.SAFE_HOLD_CAUSE == 4)

/-- The bypass of a ring opens once nothing of R214 holds and the loopback has passed; in CONFIG the head's discovery starts (R204,
R215). -/
def Dev.openBypass (d : Dev) (r : Nat) : Dev :=
  if d.ringOpen r || !d.ringEnabled r || !d.serdesRun || !(d.ring r).looped then d
  else
    let d := d.setObjBit Obj.BYPASS_STATE r false
    let d := d.updRing r (fun g => { g with phase := if d.state == stConfig && d.isHead then .discovering else .off })
    let d := d.emit (.bypass r false)
    d.raise 0x3C (r * 256)

/-- RING_LOOPBACK_DONE (R215). -/
def Dev.loopbackDone (d : Dev) (r : Nat) : Dev :=
  if !d.serdesRun then d else (d.updRing r (fun g => { g with looped := true })).openBypass r

/-! ## Messages (R202, R203) -/

/-- The present epoch. -/
def Dev.epoch (d : Dev) : Nat := d.obj (Obj.EPOCH 0)

/-- A port of the Thoek sends and receives: its link is healthy (R181, R207). -/
def Ring.portUp (g : Ring) (port : Nat) : Bool := if port = 0 then g.eastUp else g.westUp

/-- The home direction of a position: the port that serves it (R203). -/
def Ring.homePort (g : Ring) (p : Nat) : Nat := b2n (!(g.served g.plan).1.contains p)

/-- The bytes a message frame's CRC-32 covers (R202). -/
def messageBytes (m : RingMessage) : List Byte :=
  let padding := (4 - m.payload.length % 4) % 4
  [3, m.dest, m.src] ++ [m.msgType, m.seq] ++ beBytes 2 m.payload.length ++ beBytes 2 m.epochLow.toNat ++ [0, 0] ++ m.payload
    ++ List.replicate padding 0

/-- A message frame with its CRC-32 word. -/
def sealMessage (m : RingMessage) : RingMessage := { m with crc := BitVec.ofNat 32 (crc32 (messageBytes m)) }

/-- The words of a payload, each by its width in bytes, most significant byte first (R12); the manual lays out none (DESIGN CHOICE,
log entry 78). -/
def fieldsBytes (l : List (Nat × Nat)) : List Byte := l.flatMap (fun e => beBytes e.1 e.2)

/-- A frame of the Thoek's own. -/
def ownMessage (src dest msgType seq epoch : Nat) (payload : List Byte) : RingMessage :=
  sealMessage { dest := BitVec.ofNat 8 dest, src := BitVec.ofNat 8 src, msgType := BitVec.ofNat 8 msgType, seq := BitVec.ofNat 8 seq,
                epochLow := BitVec.ofNat 16 epoch, payload := payload, crc := 0 }

/-- A frame put on ports of a ring through its pool channel; a port whose link is lost sends nothing (R203, R207). The channel is charged
for payload and the 12 bytes of header, without padding, CRC-32 and EOF: R203 speaks of payloads, R219 of frames (DESIGN CHOICE, log
entry 78). -/
def Dev.putMessage (d : Dev) (r : Nat) (ports : List Nat) (m : RingMessage) : Dev :=
  match d.poolPass r (m.payload.length + 12) with
  | none => d.poolDrop r
  | some d => (ports.filter (d.ring r).portUp).foldl (fun d p => d.emit (.message r p m)) d

/-- A message frame sent on ports, without waiting for a reply. -/
def Dev.sendMessage (d : Dev) (r : Nat) (ports : List Nat) (dest msgType : Nat) (payload : List Byte) : Dev :=
  let seq := (d.ring r).msgSeq
  let d := d.updRing r (fun g => { g with msgSeq := (g.msgSeq + 1) % 256 })
  d.putMessage r ports (ownMessage 0 dest msgType seq (d.epoch % 65536) payload)

/-- A management request sent on a port, to be repeated until its reply comes. -/
def Dev.sendRequestOn (d : Dev) (r port dest msgType : Nat) (payload : List Byte) : Dev :=
  let q : RingRequest :=
    { port := port, dest := dest, msgType := msgType, seq := (d.ring r).msgSeq, payload := payload, tries := 0, sentAt := d.now }
  (d.sendMessage r [port] dest msgType payload).updRing r (fun g => { g with requests := g.requests ++ [q] })

/-- The same on the home direction of a position. -/
def Dev.sendRequest (d : Dev) (r dest msgType : Nat) (payload : List Byte) : Dev :=
  d.sendRequestOn r ((d.ring r).homePort dest) dest msgType payload

/-- The request in line for a repeat: the oldest one unanswered for 1 ms. -/
def Dev.overdue (d : Dev) (r : Nat) : Option RingRequest := (d.ring r).requests.find? (fun q => q.sentAt + 1000000 ≤ d.now)

/-- A request given up: one of HEAL_CHECK ends its re-measurement, which may start again (R203, R211). -/
def Ring.giveUp (g : Ring) (q : RingRequest) : Ring :=
  if q.msgType = 8 then { g with healChecking := false, healAnswers := [], requests := g.requests.filter (fun x => x.msgType != 8) } else g

/-- MESSAGE_RETRY_TIMEOUT: repeated up to three times, then given up (R203); by the head alone (R516). -/
def Dev.retryTimeout (d : Dev) (r : Nat) : Dev :=
  match if d.isHead then d.overdue r else none with
  | none => d
  | some q =>
    let d := d.updRing r (fun g => { g with requests := g.requests.erase q })
    if 3 ≤ q.tries then d.updRing r (fun g => g.giveUp q)
    else
      let q2 := { q with tries := q.tries + 1, sentAt := d.now }
      let d := d.updRing r (fun g => { g with requests := g.requests ++ [q2] })
      d.putMessage r [q.port] (ownMessage 0 q.dest q.msgType q.seq (d.epoch % 65536) q.payload)

/-! ## Discovery (R204, R205) -/

/-- D: half the mean of the round trips less the turnarounds, in whole ns; 0 where no exchange was had (R204) (DEDUCED, log entry 48). -/
def delayOf (l : List DelayExchange) : Nat :=
  min 65535 ((sumOf (l.map (fun e => e.trip.toNat)) - sumOf (l.map (fun e => e.turnaround.toNat))) / (2 * max 1 l.length))

/-- A reported position as the ring keeps it. -/
def nodeOf (n : NodeReport) : RingNode :=
  { kind := n.kind.toNat, axes := n.axes, revision := n.revision.toNat, dEast := delayOf n.east, dWest := delayOf n.west, status := 0,
    got := false, missing := 0, lost := false, halted := false }

/-- The identity and delays of every position shown in the dictionary; absent positions read 0. -/
def Dev.showNodes (d : Dev) (r : Nat) (l : List RingNode) : Dev :=
  forN 64 (fun i d =>
    match (l.drop i).head? with
    | none => ((d.setObj (Obj.NODE_IDENT r i) 0).setObj (Obj.HOP_DELAY_EAST r i) 0).setObj (Obj.HOP_DELAY_WEST r i) 0
    | some n =>
      let d := d.setObj (Obj.NODE_IDENT r i) (n.kind * 2 ^ 24 + n.axes * 2 ^ 16 + n.revision)
      (d.setObj (Obj.HOP_DELAY_EAST r i) n.dEast).setObj (Obj.HOP_DELAY_WEST r i) n.dWest) d

/-- AXIS_SLOT of an axis as (ring, position, local axis), when it is bound. -/
def Dev.axisSlot (d : Dev) (n : Nat) : Option (Nat × Nat × Nat) :=
  let v := d.obj (Obj.AXIS_SLOT n)
  if bits v 15 14 < 2 then some (bits v 15 14, bits v 13 8 + 1, bits v 1 0) else none

/-- The axis bound to a ring, position and local axis. -/
def Dev.axisAt (d : Dev) (r p l : Nat) : Option Nat := (List.range 128).find? (fun n => d.axisSlot n == some (r, p, l))

/-- The axis groups of the local axes of a position, 0xFF for an axis without one (step 5; R201). -/
def Dev.groupsAt (d : Dev) (r p axes : Nat) : List Nat :=
  (List.range axes).map (fun l => match d.axisAt r p l with
    | some n => d.obj (Obj.AXIS_GROUP n)
    | none => 0xFF)

/-- Step 5: delays, home port, axis groups and safe slots written to every node. -/
def Dev.writeNodes (d : Dev) (r : Nat) : Dev :=
  let g := d.ring r
  let east := (g.served (g.lostLinks.map (·.1))).1
  forN g.nodes.length (fun i d =>
    match g.node (i + 1) with
    | none => d
    | some n =>
      let home := b2n (!east.contains (i + 1))
      (d.sendRequestOn r home (i + 1) 5 (fieldsBytes [(2, n.dEast), (2, n.dWest), (1, home)])).sendRequestOn r home (i + 1) 6
        (fieldsBytes ((1, d.safeSlots r (i + 1)) :: (d.groupsAt r (i + 1) n.axes).map (fun v => (1, v))))) d

/-- The position of a Thoek in the standby role on a ring, 0 none (R494, R522). -/
def Ring.standby (g : Ring) : Nat := match g.nodes.findIdx? (fun n => n.kind == 0xF0) with
  | some i => i + 1
  | none => 0

/-- D_x(s) + F_s of a standby position s toward its east and west half (R512) (DESIGN CHOICE, log entry 22). -/
def Ring.offsets (g : Ring) (s : Nat) : Nat × Nat :=
  let f := Config.forwardDelay % 121
  match g.node s with
  | some n => (n.dEast + f, n.dWest + f)
  | none => (f, f)

/-- The ring as a standby at position s would serve it: its delays are those of discovery less the offsets. -/
def Ring.asTakeover (g : Ring) (s : Nat) : Ring :=
  let o := g.offsets s
  { g with takeover := some (s, o.1, o.2), nodes := g.nodes.map (fun n => { n with dEast := n.dEast - o.1, dWest := n.dWest - o.2 }) }

/-- The takeover bounds of a ring shown (R512, R522). -/
def Dev.takeoverBounds (d : Dev) (r : Nat) : Dev :=
  let s := (d.ring r).standby
  let g := (d.ring r).asTakeover s
  let h := g.served []
  let put := fun (d : Dev) (k v : Nat) => d.setObj k (if s = 0 then 0 else min v 65535)
  let d := d.setObj (Obj.STANDBY_POSITION r) s
  let d := put (put d (Obj.TAKEOVER_SCATTER_EAST r) (d.scatter r g 0 h.1)) (Obj.TAKEOVER_SCATTER_WEST r) (d.scatter r g 1 h.2)
  put (put d (Obj.TAKEOVER_GATHER_EAST r) (d.gather r g 0 h.1)) (Obj.TAKEOVER_GATHER_WEST r) (d.gather r g 1 h.2)

/-- The links a ring runs without from its discovery on: of an open ring, the one at which the east port's discovery stopped (R205). -/
def openLinks (closed : Bool) (l : List RingNode) : List (Nat × Nat) :=
  if closed then [] else [((l.takeWhile (fun n => n.dEast != 0)).length, 0)]

/-- The delays and identity of a position as the ring's head has written them. -/
def Dev.ringSegment (d : Dev) (r p : Nat) (n : RingNode) : CopySegment :=
  .ring r p n.kind n.axes (d.obj (Obj.HOP_DELAY_EAST r (p - 1))) (d.obj (Obj.HOP_DELAY_WEST r (p - 1)))

/-- What an ACTIVE unit has written to a position, for the COPY frame (R498, R500). -/
def Dev.noteRing (d : Dev) (r p : Nat) (n : RingNode) : Dev :=
  if d.obj Obj.ROLE = 1 then { d with pair := { d.pair with segs := d.pair.segs ++ [d.ringSegment r p n] } } else d

/-- The positions the east port serves, and R25's one-way delays of the two directions, as the ring now runs (R220). -/
def Dev.showHalves (d : Dev) (r : Nat) : Dev :=
  let g := d.ring r
  let h := g.served g.plan
  let d := d.setObj (Obj.SPLIT_ACTIVE r) h.1.length
  (d.setObj (Obj.DELAY_EAST r) (min (g.oneWay 0 h.1) 65535)).setObj (Obj.DELAY_WEST r) (min (g.oneWay 1 h.2) 65535)

/-- A part of the ring lies between two lost links. -/
def Ring.segmented (g : Ring) : Bool :=
  match (g.lostLinks.map (·.1)).min?, (g.lostLinks.map (·.1)).max? with
  | some a, some b => decide (a < b)
  | _, _ => false

/-- Steps 4 to 6: split, bounds, status, DISCOVERY_DONE. A ring that has folded since stays on its plan. While SPLIT exceeds the
positions found, the split is the automatic one and RING_BOUNDS names direction 0x00: the spec states neither (DESIGN CHOICE, log
entry 48). -/
def Dev.finishDiscovery (d : Dev) (r : Nat) : Dev :=
  let g := d.ring r
  let n := g.nodes.length
  let want := d.obj (Obj.SPLIT r)
  let bad : Bool := decide (n < want)
  let s := if want = 0 ∨ bad then (if n ≤ 1 then n else d.bestSplit r g (n - 1)) else want
  let folded := !g.lostLinks.isEmpty
  let g := { g with split := s, phase := RingPhase.complete, plan := g.lostLinks.map (·.1),
                    requests := g.requests.filter (fun q => q.msgType != 3) }
  let d := d.updRing r (fun _ => g)
  let h := g.served g.plan
  let sE := d.scatter r g 0 h.1
  let sW := d.scatter r g 1 h.2
  let gE := d.gather r g 0 h.1
  let gW := d.gather r g 1 h.2
  let oE := g.oneWay 0 h.1
  let oW := g.oneWay 1 h.2
  let fw := d.foldedWorst r g
  let late : Bool := decide (4500 < oE) || decide (4500 < oW)
  let bounds : Bool := bad || decide (4500 < sE) || decide (4500 < sW) || decide (4500 < gE) || decide (4500 < gW)
  let st := 1 + 2 * b2n g.closed + 4 * b2n folded + 8 * b2n (decide (fw ≤ 4500)) + 16 * b2n late + 32 * b2n bounds + 64 * b2n g.segmented
  let d := ((d.setObj (Obj.RING_STATUS r) st).setObj (Obj.NODE_COUNT r) n).showHalves r
  let d := ((d.setObj (Obj.SCATTER_EAST r) (min sE 65535)).setObj (Obj.SCATTER_WEST r) (min sW 65535))
  let d := ((d.setObj (Obj.GATHER_EAST r) (min gE 65535)).setObj (Obj.GATHER_WEST r) (min gW 65535))
  let d := d.setObj (Obj.FOLDED_WORST r) (min fw 65535)
  let d := d.setObj (Obj.FOLD_LINK r) (match g.plan with
    | l :: _ => l
    | [] => 0xFF)
  let d := if 4500 < oE then d.raise 0x31 (r * 256) else d
  let d := if 4500 < oW then d.raise 0x31 (r * 256 + 1) else d
  let d := if bad then d.raise 0x32 (r * 256) else d
  let d := if 4500 < fw then d.raise 0x33 (min fw 65535 * 65536 + r) else d
  let d := (d.ring r).nodes.zipIdx.foldl (fun d e => d.noteRing r (e.2 + 1) e.1) ((d.writeNodes r).takeoverBounds r)
  d.raise 0x30 r

/-- Step 2: DISCOVER to every node, from a port whose link is healthy. -/
def Dev.sendDiscover (d : Dev) (r port : Nat) : Dev :=
  if d.state == stConfig && d.isHead && d.ringOpen r && (d.ring r).phase == .discovering then d.sendMessage r [port] 0xFF 1 [0] else d

/-- Discovery starts on an open ring: DISCOVER from each port whose link is healthy already. -/
def Dev.startDiscovery (d : Dev) (r : Nat) : Dev :=
  if !d.ringOpen r then d
  else ((d.updRing r (fun g => { g with phase := .discovering, sending := false, takeover := none, returned := false })).sendDiscover r 0).sendDiscover r 1

/-- Step 3: an IDENT that comes in on a port brings its position eight DELAY_REQ exchanges from there. -/
def Dev.delayExchanges (d : Dev) (r port p : Nat) : Dev :=
  if (d.ring r).phase == .discovering then forN 8 (fun _ d => d.sendRequestOn r port p 3 []) d else d

/-- DISCOVERY_DONE: the findings of steps 1 to 3, or their repetition with the findings kept. closed: the copy that left a port has come
back at the other (R204). -/
def Dev.discoveryDone (d : Dev) (r : Nat) (closed : Bool) (l : List NodeReport) : Dev :=
  let g := d.ring r
  if d.state != stConfig || !d.ringOpen r || !d.isHead then d
  else match g.phase with
    | .discovering =>
      let nodes := (l.take 64).map nodeOf
      let top := (l.take 64).foldl (fun m n => max m n.epoch.toNat) d.ringCtl.epochSeen
      let d := { d with ringCtl := { d.ringCtl with epochSeen := top } }
      let closed := closed || g.returned
      let d := d.updRing r (fun g => { g with
        nodes := nodes
        closed := closed
        lostLinks := openLinks closed nodes
        eastUp := g.eastUp || nodes.any (fun n => n.dEast != 0)
        westUp := g.westUp || nodes.any (fun n => n.dWest != 0) })
      (d.showNodes r nodes).finishDiscovery r
    | .repeating => d.finishDiscovery r
    | _ => d

/-- A write or a commit in CONFIG makes a discovered ring repeat steps 4 and 5 (R204) (DEDUCED, log entry 48). -/
def Dev.repeatDiscovery (d : Dev) (r : Nat) : Dev :=
  if d.state == stConfig && (d.ring r).phase == .complete then
    (d.setObjBit (Obj.RING_STATUS r) 0 false).updRing r (fun g => { g with phase := .repeating })
  else d

/-- Discovery is complete on every enabled ring (R30). -/
def Dev.discoveryComplete (d : Dev) : Bool :=
  [0, 1].all (fun r => !d.ringEnabled r || (d.ring r).phase == .complete)

/-- What the head of a takeover plan adds to a delay of its own before it writes it: D_x(s) + F_s of that half (R512). -/
def Ring.offset (g : Ring) (port : Nat) : Nat :=
  match g.takeover with
  | some (_, e, w) => if port = 0 then e else w
  | none => 0

/-- DELAY_REMEASURE (R206): one position per direction, in turn; own is the delay from the port that measured it. -/
def Dev.remeasureOne (d : Dev) (r port p own : Nat) : Dev :=
  let k := if port = 0 then Obj.HOP_DELAY_EAST r (p - 1) else Obj.HOP_DELAY_WEST r (p - 1)
  let new := own + (d.ring r).offset port
  let diff : Int := (new : Int) - d.obj k
  if absI diff ≤ 1 then d
  else
    let d := d.setObj k new
    let note := fun n : RingNode => if port = 0 then { n with dEast := own } else { n with dWest := own }
    let d := (d.updRing r (fun g => { g with nodes := upd note g.nodes (p - 1) })).showHalves r
    let d := match (d.ring r).node p with
      | some n => d.noteRing r p n
      | none => d
    let d := d.sendRequest r p 5 (fieldsBytes [(2, d.obj (Obj.HOP_DELAY_EAST r (p - 1))), (2, d.obj (Obj.HOP_DELAY_WEST r (p - 1))), (1, port)])
    if 10 < absI diff then d.raise 0x3E (raw 16 diff * 65536 + r * 256 + p) else d

/-- The next position of a half to be measured. -/
def nextOf (l : List Nat) (i : Nat) : Option Nat := (l.drop (i % max l.length 1)).head?

/-- DELAY_REMEASURE, every REMEASURE_PERIOD cycles (R206). -/
def Dev.remeasure (d : Dev) (r east west : Nat) : Dev :=
  if ! [stReady, stRun, stService].contains d.state || (d.ring r).phase != .complete || !d.isHead
    || d.cyc.count < (d.ring r).remeasured + d.obj Obj.REMEASURE_PERIOD then d
  else
    let g := d.ring r
    let h := g.served g.plan
    let d := match nextOf h.1 g.remeasureEast with
      | some p => d.remeasureOne r 0 p east
      | none => d
    let d := match nextOf h.2 g.remeasureWest with
      | some p => d.remeasureOne r 1 p west
      | none => d
    let count := d.cyc.count
    d.updRing r (fun g =>
      { g with remeasureEast := g.remeasureEast + 1, remeasureWest := g.remeasureWest + 1, remeasured := count })

/-! ## Fold and heal (R207 to R211) -/

/-- A link learnt to be lost by the head of a discovered ring: FOLD raised, the plan follows at the deadline of R208. -/
def Dev.learnLoss (d : Dev) (r l : Nat) : Dev :=
  let g := d.ring r
  if !d.isHead || (g.phase != .complete && g.phase != .repeating) then d
  else if g.lostLinks.any (fun x => x.1 == l) then d.updRing r (fun g => { g with healChecking := false, healAnswers := [] })
  else
    let d := d.updRing r (fun g => { g with lostLinks := g.lostLinks ++ [(l, d.now)], healChecking := false, healAnswers := [] })
    let d := if g.lostLinks.isEmpty then d.setObj (Obj.FOLD_LINK r) l else d
    let d := (d.setObjBit (Obj.RING_STATUS r) 2 true).bump (Obj.FOLDS r)
    let d := d.raise 0x34 (r * 256 + l)
    if (d.ring r).segmented && !bit (d.obj (Obj.RING_STATUS r)) 6 then (d.setObjBit (Obj.RING_STATUS r) 6 true).raise 0x36 r else d

/-- The bytes a fold notice's CRC covers (R207). -/
def foldCrc (position side : Nat) : Nat := crc16 (beBytes 1 position ++ beBytes 1 side ++ [0])

/-- FOLD_NOTICE_RX (R207, R208) (DEDUCED, log entry 48). -/
def Dev.foldNotice (d : Dev) (r position side crc : Nat) : Dev :=
  if !d.ringOpen r || crc != foldCrc position side || position = 0 || (d.ring r).nodes.length < position || 1 < side then d
  else d.learnLoss r (if side = 0 then position - 1 else position)

/-- RING_LINK_LOSS at a port of the Thoek: it folds, and sends a fold notice from its other port, with the side as the head counts it: a
position's east transmit line leads away from the head's east port (R181, R207, R493) (DEDUCED, log entry 48). That no port of either ring
has a link left is no cause 0x0006 (R37) (DESIGN CHOICE, log entry 31). -/
def Dev.linkLoss (d : Dev) (r port errors : Nat) : Dev :=
  let d := d.bumpBy 32 (Obj.CODE_ERRORS r) errors
  if !d.ringOpen r || !(d.ring r).portUp port then d
  else
    let d := d.updRing r (fun g => if port = 0 then { g with eastUp := false } else { g with westUp := false })
    let p := if d.isHead then 0 else (d.ring r).ownPos
    let side := if d.isHead then port else 1 - port
    let d := if (d.ring r).portUp (1 - port) then d.emit (.foldNotice r (1 - port) p side (foldCrc p side)) else d
    d.learnLoss r (if port = 0 then 0 else (d.ring r).nodes.length)

/-- Whether the side of a lost link at a position (0 or N + 1: the Thoek's own port) reports HEAL_READY. -/
def Ring.sideReady (g : Ring) (p : Nat) : Bool :=
  if p = 0 then g.eastUp
  else match g.node p with
    | none => g.westUp
    | some n => bit n.status 6

/-- Every lost link is ready to heal on both sides. -/
def Ring.healReady (g : Ring) : Bool :=
  !g.lostLinks.isEmpty && g.lostLinks.all (fun x => g.sideReady x.1 && g.sideReady (x.1 + 1))

/-- The positions whose delays a heal re-measures: those beside the lost links, and those a port has never reached (R211) (DEDUCED, log
entry 48). -/
def Ring.healSides (g : Ring) : List Nat :=
  let beside := g.lostLinks.flatMap (fun x => [x.1, x.1 + 1])
  ((List.range g.nodes.length).map (· + 1)).filter (fun p => beside.contains p || g.delay 0 p == 0 || g.delay 1 p == 0)

/-- With both sides ready, the delays across the link are re-measured with HEAL_CHECK; a side that is ready no longer ends it (R211). -/
def Dev.startHeal (d : Dev) (r : Nat) : Dev :=
  let g := d.ring r
  if !d.isHead || !g.healReady then d.updRing r (fun g => { g with healChecking := false, healAnswers := [] })
  else if g.healChecking then d
  else
    let d := d.updRing r (fun g => { g with healChecking := true, healAnswers := [] })
    g.healSides.foldl (fun d p => d.sendRequest r p 8 []) d

/-- The reply to a HEAL_CHECK: the side has answered, with the delays from both ports as measured across the link (R211) (DESIGN CHOICE,
log entry 78). -/
def Dev.healAnswer (d : Dev) (r p : Nat) (payload : List Byte) : Dev :=
  let d := d.updRing r (fun g => { g with healAnswers := g.healAnswers ++ [p] })
  if payload.length < 4 then d
  else
    let e := fieldAt payload 0 2
    let w := fieldAt payload 2 2
    let d := (d.setObj (Obj.HOP_DELAY_EAST r (p - 1)) e).setObj (Obj.HOP_DELAY_WEST r (p - 1)) w
    (d.updRing r (fun g => { g with nodes := upd (fun n => { n with dEast := e, dWest := w }) g.nodes (p - 1) })).showHalves r

/-- The re-measurement is complete and the heal is wanted: it takes place at the next deadline. -/
def Dev.healDue (d : Dev) (r : Nat) : Bool :=
  let g := d.ring r
  g.healChecking && g.healReady && g.healSides.all (fun p => g.healAnswers.contains p) && (d.objB Obj.AUTO_HEAL || g.healRequested)

/-- The ring returns to the discovery plan (R211). -/
def Dev.heal (d : Dev) (r : Nat) : Dev :=
  let l := match (d.ring r).lostLinks with
    | x :: _ => x.1
    | [] => 0xFF
  let d := d.updRing r (fun g => { g with lostLinks := [], plan := [], healChecking := false, healAnswers := [], healRequested := false })
  let d := (d.setObjBit (Obj.RING_STATUS r) 2 false).setObjBit (Obj.RING_STATUS r) 6 false
  let d := ((d.setObj (Obj.FOLD_LINK r) 0xFF).bump (Obj.HEALS r)).showHalves r
  d.raise 0x35 (r * 256 + l)

/-- The plan the drove frames of this deadline follow: links learnt of at least 1 µs before it (R208), or a heal (DEDUCED, log entry 48). -/
def Dev.planAtDeadline (d : Dev) (r : Nat) : Dev :=
  if (d.ring r).takeover.isSome then d.updRing r (fun g => { g with plan := [] })
  else if d.healDue r then d.heal r
  else (d.updRing r (fun g => { g with plan := (g.lostLinks.filter (fun x => x.2 + 1000 ≤ d.now)).map (·.1) })).showHalves r

/-- RING_LINK_HEALTHY (R181): a port's link is back; the far side's HEAL_READY completes the pair. In discovery, DISCOVER leaves there. -/
def Dev.linkHealthy (d : Dev) (r port : Nat) : Dev :=
  if !d.ringOpen r then d
  else
    let d := d.updRing r (fun g => if port = 0 then { g with eastUp := true } else { g with westUp := true })
    if (d.ring r).phase == .complete then d.startHeal r else d.sendDiscover r port

/-- A message taken at a Thoek in the position role: DISCOVER is answered with IDENT and goes on with its hop count, a delay request is
answered with a delay response, the other requests with a reply of their own type, on the port each came in on (R203, R204, R494). A
DISCOVER at the west port comes from the head's east port, so its hop count is the position; before the position is known, replies carry
the hop count. What the unit measures has no stated value (DEDUCED, log entry 49). SET_DELAY gives the home port and the delay from it
(R190). -/
def Dev.positionDo (d : Dev) (r port : Nat) (m : RingMessage) : Dev :=
  let hop := fieldAt m.payload 0 1 + 1
  let d := if m.msgType = 1 && port = 1 then d.updRing r (fun g => { g with ownPos := hop })
    else if m.dest != 0xFF then d.updRing r (fun g => { g with ownPos := m.dest.toNat })
    else d
  let src := if (d.ring r).ownPos = 0 then hop else (d.ring r).ownPos
  let reply := fun (d : Dev) (msgType : Nat) (payload : List Byte) =>
    d.putMessage r [port] (ownMessage src 0 msgType m.seq.toNat (d.ringCtl.epochSeen % 65536) payload)
  if m.msgType = 1 then
    let d := reply d 2 (fieldsBytes [(1, hop), (1, 0xF0), (1, 0), (4, d.ringCtl.epochSeen)])
    if (d.ring r).portUp (1 - port) then
      d.emit (.message r (1 - port) (sealMessage { m with payload := fieldsBytes [(1, hop)] ++ m.payload.drop 1 }))
    else d
  else if m.msgType = 3 then (let x := d.draw 0x49; reply x.2 4 (fieldsBytes [(2, x.1)]))
  else if m.msgType = 5 then
    let home := fieldAt m.payload 4 1
    let delay := fieldAt m.payload (if home = 0 then 0 else 2) 2
    reply (d.updRing r (fun g => { g with homeDelay := delay, home := some home })) 5 []
  else if m.msgType = 6 then reply d 6 []
  else if m.msgType = 8 then (let x := d.draw 0x49; let y := x.2.draw 0x49; reply y.2 8 (fieldsBytes [(2, x.1), (2, y.1)]))
  else d

/-- MESSAGE_FRAME_RX in the position role: taken when it is for this position or for all, with the highest epoch accepted, and through
buffers of the ring's channel (R202, R203). -/
def Dev.positionRx (d : Dev) (r port : Nat) (m : RingMessage) : Dev :=
  let own := (d.ring r).ownPos
  let mine := m.dest == 0xFF || (m.dest != 0 && (own == 0 || m.dest.toNat == own))
  if !mine || m.src != 0 || m.epochLow.toNat != d.ringCtl.epochSeen % 65536 || 1024 < m.payload.length then d
  else match d.poolPass r (m.payload.length + 12) with
    | none => d.poolDrop r
    | some d => d.positionDo r port m

/-- A reply: its request is answered (R203, R211). -/
def Dev.answerRequest (d : Dev) (r : Nat) (m : RingMessage) : Dev :=
  match (d.ring r).requests.find? (fun q => q.dest == m.src.toNat && q.seq == m.seq.toNat) with
  | none => d
  | some q =>
    let d := d.updRing r (fun g => { g with requests := g.requests.erase q })
    if q.msgType = 8 then d.healAnswer r q.dest m.payload else d

/-- MESSAGE_FRAME_RX from a node, through the ring's pool channel (R202, R203, R204, R213) (DEDUCED, log entry 44). -/
def Dev.messageRx (d : Dev) (r port : Nat) (m : RingMessage) : Dev :=
  if !d.ringOpen r || crc32 (messageBytes m) != m.crc.toNat || (m.dest != 0 && m.dest != 0xFF) || 1024 < m.payload.length then d
  else match d.poolPass r (m.payload.length + 12) with
    | none => d.poolDrop r
    | some d =>
      if m.msgType = 1 then d.updRing r (fun g => { g with returned := g.returned || g.phase == .discovering })
      else if m.msgType = 2 then
        let seen := max d.ringCtl.epochSeen (if m.payload.length < 7 then m.epochLow.toNat else fieldAt m.payload 3 4)
        ({ d with ringCtl := { d.ringCtl with epochSeen := seen } } : Dev).delayExchanges r port m.src.toNat
      else d.answerRequest r m

/-! ## Uplink blocks (R188, R189, R195) -/

/-- The 24 bytes of a feedback record (R189). -/
def feedbackBytes (f : Feedback) : List Byte :=
  beBytes 1 (f.localAxis * 64) ++ [f.status] ++ beBytes 2 f.count.toNat ++ beBytes 4 f.position.toNat ++ beBytes 3 f.iA.toNat
    ++ beBytes 3 f.iB.toNat ++ beBytes 3 f.iC.toNat ++ beBytes 3 f.vdc.toNat ++ beBytes 2 f.aux.toNat ++ [f.temp, 0]

/-- The bytes BLOCK_CRC covers (R188). -/
def uplinkBytes (b : UplinkBlock) : List Byte :=
  [2, b.position, b.status] ++ beBytes 2 b.tagLow.toNat ++ beBytes 2 b.epochLow.toNat ++ b.records.flatMap feedbackBytes
    ++ b.safe.getD []

/-- What an uplink block tells the ring engine: late and bad blocks are counted and discarded (none), the others noted (R188, R195)
(DEDUCED, log entry 48). -/
def Dev.uplinkCheck (d : Dev) (r off : Nat) (b : UplinkBlock) : Dev × Bool :=
  let p := b.position.toNat
  if !d.ringOpen r then (d, false)
  else if d.cyc.dispatched then (d.bump (Obj.LATE_BLOCKS r), false)
  else if crc16 (uplinkBytes b) != b.crc.toNat then ((d.bump (Obj.BLOCK_CRC_ERRORS r)).raise 0x39 (r * 256 + p), false)
  else if ((d.ring r).node p).isNone then (d, false)
  else
    let wasLost := match (d.ring r).node p with
      | some n => n.lost
      | none => false
    let note := fun n : RingNode =>
      { n with got := true, lost := false, status := b.status.toNat, halted := n.halted || bit b.status.toNat 3 }
    let came := d.now + off - d.cyc.startAt
    let d := d.updRing r (fun g => { g with nodes := upd note g.nodes (p - 1), lastBlock := came })
    let d := if wasLost then d.raise 0x38 (r * 256 + p) else d
    let d := if bit b.status.toNat 4 then d.raise 0x3A (r * 256 + p) else d
    (if (d.ring r).lostLinks.isEmpty then d else d.startHeal r, true)

/-- LAST_GATHER of the cycle that ends (R220). -/
def Dev.showGather (d : Dev) (r : Nat) : Dev :=
  (d.setObj (Obj.LAST_GATHER r) (min (d.ring r).lastBlock 65535)).updRing r (fun g => { g with lastBlock := 0 })

/-- At the deadline, every position without a block is counted; two consecutive cycles without one and without a fold report it lost
(R224). -/
def Dev.missingBlocks (d : Dev) (r : Nat) : Dev :=
  let g := d.ring r
  let d := forN g.nodes.length (fun i d =>
    match g.node (i + 1) with
    | none => d
    | some n =>
      if n.got || n.axes = 0 then d
      else
        let d := d.bump (Obj.MISSING_BLOCKS r)
        if 1 ≤ n.missing ∧ g.lostLinks.isEmpty ∧ !n.lost then
          (d.updRing r (fun g => { g with nodes := upd (fun n => { n with lost := true }) g.nodes i })).raise 0x37 (r * 256 + i + 1)
        else d) d
  d.updRing r (fun g => { g with nodes := g.nodes.map (fun n => { n with missing := if n.got || !g.lostLinks.isEmpty then 0 else n.missing + 1, got := false }) })

/-! ## Frames sent (R184 to R187, R198, R199) -/

/-- The 16 bytes of a command record (R187). -/
def commandBytes (c : CommandRecord) : List Byte :=
  beBytes 1 (c.localAxis * 64) ++ beBytes 1 (if c.enable then 128 else 0) ++ beBytes 3 (raw 24 c.dutyA) ++ beBytes 3 (raw 24 c.dutyB)
    ++ beBytes 3 (raw 24 c.dutyC) ++ beBytes 2 c.aux ++ beBytes 2 c.carrier ++ [0]

/-- A node block with its check (R186). -/
def mkBlock (p : Nat) (l : List CommandRecord) (safe : Option (List Byte)) : DownBlock :=
  let body := beBytes 1 p ++ beBytes 1 l.length ++ beBytes 1 (b2n safe.isSome) ++ [0] ++ l.flatMap commandBytes ++ safe.getD []
  { position := p, records := l, safe := safe, crc := crc16 body }

/-- The bytes HDR_CRC covers (R184). -/
def headerBytes (f : DroveFrame) : List Byte :=
  beBytes 4 f.epoch ++ beBytes 4 f.cycleTag ++ beBytes 10 f.cycleStart ++ beBytes 2 f.lead ++ beBytes 2 f.cycleLen
    ++ beBytes 4 f.stoGroups ++ beBytes 1 f.turn ++ beBytes 1 f.blocks.length
    ++ beBytes 2 (32768 * b2n f.folded + 16384 * b2n f.noRun)

/-- A frame with its HDR_CRC. -/
def sealHeader (f : DroveFrame) : DroveFrame := { f with hdrCrc := crc16 (headerBytes f) }

/-- The CRC of a halt frame (R198). -/
def haltCrc (seq epochLow groups : Nat) : Nat := crc16 (beBytes 1 seq ++ beBytes 2 epochLow ++ beBytes 4 groups)

/-- An STO decision of the island sends a halt frame on every enabled port of both rings, but toward no lost link (R199, R207) (DEDUCED,
log entry 48). -/
def Dev.sendHalt (d : Dev) (groups : Nat) : Dev :=
  let live := [0, 1].filter (fun r => d.ringEnabled r && d.ringOpen r)
  if groups = 0 || live.isEmpty || !d.isHead then d
  else
    let seq := (d.ringCtl.haltSeq + 1) % 256
    let d := { d with ringCtl := { d.ringCtl with haltSeq := seq } }
    let e := d.epoch % 65536
    let c := haltCrc seq e groups
    let d := live.foldl (fun d r =>
      (([0, 1].filter (d.ring r).portUp).foldl (fun d p => d.emit (.halt r p seq e groups c)) d).bump (Obj.HALTS_SENT r)) d
    d.raise 0x3B groups

/-- The epoch raised by one over every value seen, as the Thoek starts to send drove frames (R213). -/
def Dev.raiseEpoch (d : Dev) : Dev :=
  let e := (max d.ringCtl.epochSeen d.epoch + 1) % 2 ^ 32
  let d := (d.setObj (Obj.EPOCH 0) e).setObj (Obj.EPOCH 1) e
  { d with ringCtl := { d.ringCtl with epochSeen := e } }

/-! ## Meanings -/

/-- FOLD_NOTICE_RX. -/
def execFoldNoticeRx (ring : Fin 2) (position side : Byte) (crc : BitVec 16) (s : State) : Res :=
  s.onDev (fun d => d.foldNotice ring position.toNat side.toNat crc.toNat)

/-- RING_LINK_LOSS. -/
def execRingLinkLoss (ring port : Fin 2) (codeErrors : BitVec 32) (s : State) : Res :=
  s.onDev (fun d => d.linkLoss ring port codeErrors.toNat)

/-- RING_LINK_HEALTHY. -/
def execRingLinkHealthy (ring port : Fin 2) (s : State) : Res := s.onDev (fun d => d.linkHealthy ring port)

/-- MESSAGE_RETRY_TIMEOUT. -/
def execMessageRetryTimeout (ring : Fin 2) (s : State) : Res := s.onDev (fun d => d.retryTimeout ring)

/-- RING_LOOPBACK_DONE. -/
def execRingLoopbackDone (ring : Fin 2) (s : State) : Res := s.onDev (fun d => d.loopbackDone ring)

/-- DISCOVERY_DONE. -/
def execDiscoveryDone (ring : Fin 2) (closed : Bool) (nodes : List NodeReport) (s : State) : Res :=
  guardForm (decide (nodes.length ≤ 64)) (s.onDev (fun d => d.discoveryDone ring closed nodes))

/-- DELAY_REMEASURE. -/
def execDelayRemeasure (ring : Fin 2) (east west : BitVec 16) (s : State) : Res :=
  s.onDev (fun d => d.remeasure ring east.toNat west.toNat)

end Sys2Proof.Machine
end

