-- ==== Sys2Proof/Machine/SafeFrame.lean ====
section
/-! DEFINITION. Machine/SafeFrame.lean: the safe frame layer (R468 to R491): frames, the receive checks, the state of a connection at
a safety tick, the payload in use, and sending. -/

namespace Sys2Proof.Machine

/-- The numbers n for which the object (base + n):sub differs from its built-in default. -/
def Dev.listed (d : Dev) (base count sub : Nat) : List Nat :=
  d.dict.filterMap (fun e =>
    if base ≤ e.1 / 256 ∧ e.1 / 256 < base + count ∧ e.1 % 256 = sub then some (e.1 / 256 - base) else none)

/-- The enabled connections of a direction: 0 receive, 1 transmit (R470). -/
def Dev.connsOf (d : Dev) (dir : Nat) : List Nat :=
  (d.listed 0x3400 256 0).filter (fun n => d.objB (Obj.CONN_ENABLE n) && d.obj (Obj.CN_DIRECTION n) == dir)

/-- A connection. -/
def Dev.conn (d : Dev) (n : Nat) : Conn := getAt initConn d.isl.conns n

/-- The island changed. -/
def Dev.updIsl (d : Dev) (f : Island → Island) : Dev := { d with isl := f d.isl }

/-- A connection changed. -/
def Dev.updConn (d : Dev) (n : Nat) (f : Conn → Conn) : Dev := d.updIsl (fun i => { i with conns := upd f i.conns n })

/-- The island sends and accepts safe frames (R476); a pair member that is not ACTIVE does not (R516). -/
def Dev.safeLive (d : Dev) : Bool := d.isl.running && d.cycling && d.isHead

/-! ## Frames -/

/-- A safe frame (R468, R469). -/
def safeFrame (identity tag seq ts : Nat) (payload : List Byte) : List Byte :=
  let body := beBytes 2 seq ++ beBytes 4 ts ++ payload
  beBytes 1 (128 + (payload.length - 1)) ++ beBytes 2 tag ++ body ++ beBytes 4 (crc32c (beBytes 4 identity ++ body))

/-- The frame in what a carrier delivers; none where MARK or the length fails (R477). On a ring slot and on CAN FD the padding is cut. -/
def cutFrame (carrier : Nat) (data : List Byte) : Option (List Byte) :=
  let n := 14 + fieldAt data 0 1 % 64
  if fieldAt data 0 1 / 64 ≠ 2 then none
  else if carrier = 0 ∨ carrier = 2 then (if n ≤ data.length then some (data.take n) else none)
  else if data.length = n then some data
  else none

/-- Zero bytes up to a length. -/
def padTo (n : Nat) (l : List Byte) : List Byte := l ++ List.replicate (n - l.length) 0

/-- The CAN FD data length that holds a safe frame (R472). -/
def canLength (n : Nat) : Nat := ([16, 20, 24, 32, 48].find? (fun k => n ≤ k)).getD 48

/-- The substitute payload (R480). -/
def substitute (kind len : Nat) : List Byte :=
  (List.range len).map (fun i => if i = 0 then BitVec.ofNat 8 kind else if kind = 2 ∧ i = 26 then 0xFF else 0)

/-! ## The payload in use (R478, R484) -/

/-- The direction of a payload byte: 0 copied, 1 restrictive at 1, 2 restrictive at 0, 3 any change is permissive, 4 RESET_GROUP. -/
def byteRule (kind i : Nat) : Nat :=
  if kind = 2 then (if i = 0 then 0 else if i ≤ 20 then 1 else if i ≤ 24 then 3 else if i = 25 then 2 else if i = 26 then 4 else 0)
  else if kind = 3 then (if i = 0 then 0 else if i ≤ 4 then 2 else if i ≤ 8 then 1 else if i = 9 then 2 else 0)
  else 0

/-- A byte in use after an accepted frame: old in use, prev of the frame before (if any), last of this frame. -/
def mergeByte (rule old : Nat) (prev : Option Nat) (last : Nat) : Nat :=
  match rule with
  | 1 => last ||| (old &&& prev.getD 255)
  | 2 => last &&& (old ||| prev.getD 0)
  | 3 =>
    let diff := match prev with
      | none => 255
      | some p => p ^^^ last
    (last &&& (255 - diff)) ||| (old &&& diff)
  | 4 => if prev = some last then last else 255
  | _ => last

/-- A byte of a payload. -/
def byteAt (l : List Byte) (i : Nat) : Nat := fieldAt l i 1

/-- The payload in use after an accepted frame (R484); sensor faults of SAFE_MOTION frames gather until the tick. -/
def mergePayload (kind faults : Nat) (old prev last : List Byte) : List Byte :=
  (List.range last.length).map (fun i =>
    let v := mergeByte (byteRule kind i) (byteAt old i) (if prev.isEmpty then none else some (byteAt prev i)) (byteAt last i)
    BitVec.ofNat 8 (if kind = 1 ∧ i = 1 then v ||| faults else v))

/-- The most restrictive values carried since the last tick, with one more frame (R478). -/
def worstOf (kind : Nat) (acc : Option (List Byte)) (old now last : List Byte) : Option (List Byte) :=
  some ((List.range last.length).map (fun i =>
    let l := byteAt last i
    let a := fun dflt => match acc with
      | some x => byteAt x i
      | none => dflt
    BitVec.ofNat 8 (match byteRule kind i with
      | 1 => a 0 ||| l
      | 2 => a 255 &&& l
      | 4 => if l = 255 ∨ (byteAt now i = 255 ∧ byteAt old i ≠ 255) then 255 else a 0
      | _ => 0)))

/-- The payload used at a tick: what is in use, held to the most restrictive values since the last tick (R478). -/
def usePayload (kind : Nat) (staged : List Byte) (worst : Option (List Byte)) : List Byte :=
  match worst with
  | none => staged
  | some w => (List.range staged.length).map (fun i =>
    let v := byteAt staged i
    BitVec.ofNat 8 (match byteRule kind i with
      | 1 => v ||| byteAt w i
      | 2 => v &&& byteAt w i
      | 4 => if byteAt w i = 255 then 255 else v
      | _ => v))

/-! ## SAFE_MOTION (R439, R445, R485) -/

/-- POS_1, POS_2 and the sensor-fault bit of a local axis, when the payload holds it. -/
def motionOf (p : List Byte) (l : Nat) : Option (Nat × Nat × Bool) :=
  let m := byteAt p 1
  let off := 2 + 8 * popCount l (m % 2 ^ l)
  if bit m l && byteAt p 0 == 1 && decide (off + 8 ≤ p.length) then some (fieldAt p off 4, fieldAt p (off + 4) 4, bit m (4 + l))
  else none

/-- The local axes whose positions step by more than MOTION_STEP_MAX between two frames (R485). -/
def stepFaults (limit : Nat) (old new : List Byte) : List Nat :=
  (List.range 4).filter (fun l => match motionOf old l, motionOf new l with
    | some a, some b => decide ((limit : Int) < absI (sgn 32 (raw 32 ((b.1 : Int) - a.1))))
        || decide ((limit : Int) < absI (sgn 32 (raw 32 ((b.2.1 : Int) - a.2.1))))
    | _, _ => false)

/-- The axis a connection's local axis stands for (R445, R221). -/
def Dev.safeAxis (d : Dev) (n l : Nat) : Nat :=
  ((d.listed 0x3100 128 1).find? (fun a => d.obj (Obj.SAFE_POS_CONN a) == n
    && (match d.axisSlot a with
        | some s => s.2.2 == l
        | none => false))).getD 0xFF

/-- A payload's length is the one R439 gives its kind; SAFE_MOTION's follows from its mask, at most three axes. -/
def payloadFits (payload : List Byte) : Bool :=
  match byteAt payload 0 with
  | 1 =>
    let k := popCount 4 (byteAt payload 1 % 16)
    decide (k ≤ 3) && payload.length == 2 + 8 * k
  | 2 => payload.length == 27
  | 3 => payload.length == 10
  | _ => false

/-- The lengths a kind can have (R439, R489). -/
def kindLengths (kind : Nat) : List Nat := if kind = 1 then [2, 10, 18, 26] else if kind = 2 then [27] else if kind = 3 then [10] else []

/-! ## Receiving (R473, R477, R481) -/

/-- A connection's state shown. -/
def Dev.showConn (d : Dev) (n st reason : Nat) : Dev := (d.setObj (Obj.CONN_STATE n) st).setObj (Obj.CN_FAIL_REASON n) reason

/-- A check that fails a connection: the reintegration count restarts; VALID and WAIT_ACK fail at the next tick (R477, R478). -/
def Dev.connBad (d : Dev) (n reason : Nat) : Dev :=
  let st := d.obj (Obj.CONN_STATE n)
  d.updConn n (fun c => { c with count := 0, failing := if (st = 2 ∨ st = 4) ∧ c.failing = 0 then reason else c.failing })

/-- The reintegration count with an accepted frame (R481). -/
def reintegrate (c : Conn) (d step exp now : Nat) : Nat :=
  if c.ref && decide (1 ≤ d) && decide (d ≤ step) && decide (0 < c.count) && decide (now - c.countAt ≤ exp) then c.count + 1 else 1

/-- An accepted frame of a connection. -/
def Dev.connAccept (d : Dev) (n seq age now : Nat) (window : Bool) (payload : List Byte) : Dev :=
  let c := d.conn n
  let kind := d.obj (Obj.CN_KIND n)
  let steps := if window && kind == 1 then stepFaults (d.obj (Obj.CN_MOTION_STEP_MAX n)) c.last payload else []
  let d := steps.foldl (fun d l => d.raise 0x8E (n * 256 + d.safeAxis n l)) d
  let marked := steps.foldl (fun m l => m ||| 2 ^ (4 + l)) (byteAt payload 1)
  let payload := if kind = 1 then payload.take 1 ++ [BitVec.ofNat 8 marked] ++ payload.drop 2 else payload
  let faults := if kind = 1 then c.faults ||| (marked &&& 0xF0) else c.faults
  let count := if window then c.count
    else reintegrate c (raw 16 ((seq : Int) - d.obj (Obj.CN_LAST_SEQ n))) (d.obj (Obj.CN_MAX_SEQ_STEP n)) (d.obj (Obj.CN_T_EXP n) * 1000) now
  let staged := if window then mergePayload kind faults c.staged c.last payload else c.staged
  let worst := if window then worstOf kind c.worst c.staged staged payload else c.worst
  let d := d.updConn n (fun c => { c with
    ref := true, count := count, countAt := now, lastAt := now, prev := c.last, last := payload, faults := faults
    staged := staged, worst := worst
    resetDone := if kind = 2 ∧ byteAt payload 26 = 255 then 0 else c.resetDone })
  let d := (d.setObj (Obj.CN_LAST_SEQ n) seq).setObj (Obj.CN_LAST_AGE n) age
  d.bump (Obj.CN_FRAMES_ACCEPTED n)

/-- The checks of R477 on a frame dispatched to a connection. -/
def Dev.connReceive (d : Dev) (n : Nat) (data : List Byte) (now t32 : Nat) : Dev :=
  let crcBad := (d.bump (Obj.CN_CRC_ERRORS n)).raise 0x8D (n * 256)
  match cutFrame (d.obj (Obj.CN_CARRIER n)) data with
  | none => crcBad
  | some f =>
    let len := f.length - 13
    let seq := fieldAt f 3 2
    let payload := slice f 9 len
    if crc32c (beBytes 4 (d.obj (Obj.CN_IDENTITY n)) ++ slice f 3 (6 + len)) ≠ fieldAt f (9 + len) 4 then crcBad
    else
      let age := sgn 32 (raw 32 ((t32 : Int) - fieldAt f 5 4))
      if (d.obj (Obj.CN_MAX_AGE n) * 1000 : Int) < age then (d.bump (Obj.CN_TIME_ERRORS n)).connBad n 3
      else if age < -(d.obj (Obj.CN_TS_TOL n) * 1000 : Int) then (d.bump (Obj.CN_TIME_ERRORS n)).connBad n 4
      else
        let window := d.obj (Obj.CONN_STATE n) == 2
        let diff := raw 16 ((seq : Int) - d.obj (Obj.CN_LAST_SEQ n))
        if window && diff = 0 then d.bump (Obj.CN_DUPLICATES n)
        else if window && decide (d.obj (Obj.CN_MAX_SEQ_STEP n) < diff) then (d.bump (Obj.CN_SEQ_ERRORS n)).connBad n 2
        else if len ≠ d.obj (Obj.CN_LENGTH n) ∨ byteAt payload 0 ≠ d.obj (Obj.CN_KIND n) ∨ !payloadFits payload then d.connBad n 5
        else d.connAccept n seq (raw 32 age) now window payload

/-- The receive connection a frame belongs to (R473) (DEDUCED, log entry 66). -/
def Dev.matchConn (d : Dev) (src : SafeSource) (data : List Byte) : Option Nat :=
  if data.length < 3 then none
  else (d.connsOf 0).find? (fun n => d.obj (Obj.CN_TAG n) == fieldAt data 1 2 && (match src with
    | .ring r p => d.obj (Obj.CN_CARRIER n) == 0 && d.obj (Obj.CN_ROUTE n) % 512 == r.toNat * 256 + p.toNat
    | .eth => d.obj (Obj.CN_CARRIER n) == 1
    | .can p x id => d.obj (Obj.CN_CARRIER n) == 2 && d.obj (Obj.CN_ROUTE n) == p.toNat * 2 ^ 31 + b2n x * 2 ^ 30 + id.toNat
    | .twin => d.obj (Obj.CN_CARRIER n) == 3))

/-- A safe frame at the island: its connection's, or unmatched (R473). -/
def Dev.safeTake (d : Dev) (src : SafeSource) (data : List Byte) (off : Nat) : Dev :=
  match d.matchConn src data with
  | some n => d.connReceive n data (d.now + off) (ns32 (d.timeNs off))
  | none => (d.bump Obj.UNMATCHED).raise 0x8D (0xFF * 256)

/-- A safe frame arrives at the island, off ns from the present tick; over Ethernet it comes through pool channel 3 (R218, R472). A ring slot
that begins with 0x00 is empty (R197) (DEDUCED, log entry 66). -/
def Dev.safeRx (d : Dev) (src : SafeSource) (data : List Byte) (off : Nat) : Dev :=
  let empty := match src with
    | .ring _ _ => byteAt data 0 == 0
    | _ => false
  if !d.safeLive || empty then d
  else if src = .eth then d.consume 3 (data.length + 42) (fun d => d.safeTake src data off)
  else d.safeTake src data off

/-- Whether a CAN FD identifier belongs to a receive connection (R473). -/
def Dev.canIsSafe (d : Dev) (p : Nat) (x : Bool) (id : Nat) : Bool :=
  (d.connsOf 0).any (fun n => d.obj (Obj.CN_CARRIER n) == 2 && d.obj (Obj.CN_ROUTE n) == p * 2 ^ 31 + b2n x * 2 ^ 30 + id)

/-! ## A connection at a safety tick (R478 to R483) -/

/-- The connections in VALID counted. -/
def Dev.countValid (d : Dev) : Dev :=
  d.setObj Obj.CONNS_VALID ((d.listed 0x3400 256 0).filter (fun n => d.obj (Obj.CONN_STATE n) == 2)).length

/-- A connection fails: the substitute from here (R479, R480). -/
def Dev.connFail (d : Dev) (n reason : Nat) : Dev :=
  let sub := substitute (d.obj (Obj.CN_KIND n)) (d.obj (Obj.CN_LENGTH n))
  let d := d.updConn n (fun c => { c with failing := 0, count := 0, worst := none, faults := 0, staged := sub, used := sub })
  (((d.showConn n 3 reason).bump (Obj.CN_FAILURES n)).raise 0x8A (n * 256 + reason)).countValid

/-- A connection enters VALID; how: 0 from STARTING, 1 automatic, 2 acknowledged. The last two frames are compared with the substitute. -/
def Dev.connValid (d : Dev) (n how : Nat) : Dev :=
  let kind := d.obj (Obj.CN_KIND n)
  let sub := substitute kind (d.obj (Obj.CN_LENGTH n))
  let c := d.conn n
  let now := mergePayload kind 0 sub c.prev c.last
  let d := d.updConn n (fun c => { c with worst := none, faults := 0, staged := now, used := now })
  ((d.setObj (Obj.CONN_STATE n) 2).raise 0x8B (n * 256 + how)).countValid

/-- The watchdog of a VALID connection has run out (R478). -/
def Dev.connExpired (d : Dev) (n : Nat) : Bool :=
  d.obj (Obj.CONN_STATE n) == 2 && decide ((d.conn n).lastAt + d.obj (Obj.CN_T_EXP n) * 1000 < d.now)

/-- SAFE_CONN_TIMEOUT. -/
def Dev.connTimeout (d : Dev) (n : Nat) : Dev :=
  if d.isl.running && d.isHead && d.objB (Obj.CONN_ENABLE n) && d.obj (Obj.CN_DIRECTION n) == 0 && d.connExpired n then d.connFail n 1 else d

/-- A receive connection's decisions at a tick. -/
def Dev.connTick (d : Dev) (n : Nat) : Dev :=
  let st := d.obj (Obj.CONN_STATE n)
  let c := d.conn n
  if st = 0 || !d.isHead then d
  else if d.ownTick then (if st = 3 then d else d.connFail n 3)
  else if c.failing ≠ 0 then d.connFail n c.failing
  else if st = 2 then
    if d.connExpired n then d.connFail n 1
    else d.updConn n (fun c => { c with used := usePayload (d.obj (Obj.CN_KIND n)) c.staged c.worst, worst := none, faults := 0 })
  else
    let count := if c.countAt + d.obj (Obj.CN_T_EXP n) * 1000 < d.now then 0 else c.count
    let d := d.updConn n (fun c => { c with count := count })
    if st = 4 ∨ count < d.obj (Obj.CN_REINT_FRAMES n) then d
    else if st = 3 ∧ d.obj (Obj.CN_REINT_MODE n) = 1 then (d.setObj (Obj.CONN_STATE n) 4).raise 0x8C (n * 256)
    else d.connValid n (if st = 1 then 0 else 1)

/-- An acknowledgement through a reset of a group (R482); a failure on the tick prevails (R483). -/
def Dev.connAck (d : Dev) (g : Nat) : Dev :=
  (d.connsOf 0).foldl (fun d n =>
    if d.obj (Obj.CONN_STATE n) = 4 ∧ d.obj (Obj.CN_ACK_GROUP n) = g ∧ (d.conn n).failing = 0 then d.connValid n 2 else d) d

/-- A connection started: a receive connection in STARTING, a transmit connection in VALID with SEQ 0 while the island sends. -/
def Dev.connStart (d : Dev) (n reason : Nat) : Dev :=
  let sub := substitute (d.obj (Obj.CN_KIND n)) (d.obj (Obj.CN_LENGTH n))
  let d := d.updConn n (fun _ => { initConn with staged := sub, used := sub })
  if d.obj (Obj.CN_DIRECTION n) = 1 then d.showConn n (if d.safeLive then 2 else 0) reason else d.showConn n 1 reason

/-- Entry to CONFIG from BOOT: every enabled connection starts (R476). A connection that is already sending or receiving goes on. -/
def Dev.connsStart (d : Dev) : Dev := ((d.listed 0x3400 256 0).foldl (fun d n => if d.objB (Obj.CONN_ENABLE n) then d.connStart n 0 else d) d).countValid

/-- The island stops sending: every transmit connection shows CLOSED (R479). -/
def Dev.connsSilent (d : Dev) : Dev := ((d.connsOf 1).foldl (fun d n => d.showConn n 0 (d.obj (Obj.CN_FAIL_REASON n))) d).countValid

/-! ## Sending (R472, R474, R475) -/

/-- The next frame of a transmit connection with the payload and timestamp of the last tick. -/
def Dev.nextSafe (d : Dev) (n : Nat) : List Byte × Dev :=
  let c := d.conn n
  let f := safeFrame (d.obj (Obj.CN_IDENTITY n)) (d.obj (Obj.CN_TAG n)) c.seq (ns32 d.isl.formedAt) d.isl.payload
  let d := d.updConn n (fun c => { c with seq := (c.seq + 1) % 65536, sent := d.isl.payload, since := 0 })
  (f, d.bump (Obj.CN_FRAMES_SENT n))

/-- A transmit connection carries SAFE_STATUS, the one kind the island sends (R439). -/
def Dev.sendsStatus (d : Dev) (n carrier : Nat) : Bool :=
  d.obj (Obj.CN_CARRIER n) == carrier && d.obj (Obj.CN_KIND n) == 3 && !d.isl.payload.isEmpty

/-- A frame put on a CAN FD port: it waits behind those queued, or starts at once (R94). A full queue of 16 takes
none (DESIGN CHOICE, log entry 43). A pair member that is not ACTIVE sends nothing (R516) (DEDUCED, log entry 66). -/
def Dev.canQueue (d : Dev) (p : Nat) (f : CanFrame) : Dev :=
  let q := getAt { txq := [], rxq := [], txErr := 0, rxErr := 0, busOff := false } d.can p
  if !d.isHead || 16 ≤ q.txq.length then d
  else
  let d := { d with can := upd (fun (q : CanPort) => { q with txq := q.txq ++ [f] }) d.can p }
  if q.txq.isEmpty && !q.busOff then d.emit (.can p f) else d

/-- A frame of a connection on Ethernet or CAN FD (DEDUCED, log entry 66). -/
def Dev.sendSafe (d : Dev) (n : Nat) : Dev :=
  let r := d.obj (Obj.CN_ROUTE n)
  let x := d.nextSafe n
  let d := x.2
  if d.obj (Obj.CN_CARRIER n) = 1 then
    d.sendUdp (d.obj (Obj.CN_ROUTE_2 n) % 2) r (d.obj Obj.SAFE_UDP_PORT) (d.obj Obj.SAFE_UDP_PORT) x.1
  else
    let p := r / 2 ^ 31
    if d.objB (Obj.CAN_ENABLE p) then
      d.canQueue p { ext := bit r 30, fd := true, brs := d.obj (Obj.DATA_RATE p) != 0, id := BitVec.ofNat 29 r,
                     data := padTo (canLength x.1.length) x.1 }
    else d

/-- The frames of a tick on Ethernet and CAN FD: a changed payload, and once more at the next tick. -/
def Dev.safeTickSend (d : Dev) : Dev :=
  if !d.safeLive then d
  else (d.connsOf 1).foldl (fun d n =>
    if !(d.sendsStatus n 1 || d.sendsStatus n 2) then d
    else
      let c := d.conn n
      let d := d.updConn n (fun c => { c with since := c.since + 1 })
      if c.sent ≠ d.isl.payload then (d.sendSafe n).updConn n (fun c => { c with again := true })
      else if c.again then (d.sendSafe n).updConn n (fun c => { c with again := false })
      else d) d

/-- SAFE_SEND_PERIOD. -/
def Dev.safePeriod (d : Dev) (n : Nat) : Dev :=
  if d.safeLive && (d.connsOf 1).contains n && (d.sendsStatus n 1 || d.sendsStatus n 2)
      && decide (d.obj (Obj.CN_SEND_PERIOD n) ≤ (d.conn n).since) then d.sendSafe n
  else d

/-- The 48-byte slot of a node in the drove frames of a deadline, with the frame of the connection routed there. -/
def Dev.safeSlot (d : Dev) (r p : Nat) : List Byte × Dev :=
  match (d.connsOf 1).find? (fun n => d.sendsStatus n 0 && d.obj (Obj.CN_ROUTE n) % 512 == r * 256 + p) with
  | some n =>
    if d.safeLive then
      let x := d.nextSafe n
      (padTo 48 x.1, x.2)
    else (padTo 48 [], d)
  | none => (padTo 48 [], d)

/-! ## Meanings -/

/-- SAFE_FRAME_RX. -/
def execSafeFrameRx (source : SafeSource) (data : List Byte) (off : Fin 125) (s : State) : Res :=
  s.onDev (fun d => d.safeRx source data off)

/-- SAFE_CONN_TIMEOUT. -/
def execSafeConnTimeout (conn : Fin 256) (s : State) : Res := s.onDev (fun d => d.connTimeout conn)

/-- SAFE_SEND_PERIOD. -/
def execSafeSendPeriod (conn : Fin 256) (s : State) : Res := s.onDev (fun d => d.safePeriod conn)

end Sys2Proof.Machine
end

