-- ==== Sys2Proof/Machine/Island.lean ====
section
/-! DEFINITION. Machine/Island.lean: the safety functions (R431 to R467): inputs, discrepancy, motion monitoring, group states,
lock-outs, resets, safe outputs, test pulses, the self-test and the safety tick. The two channels stand side by side where they can
differ: in what they sample and in the position each uses. Group states and lock-outs stand once: R431 makes a removal the decision of
either channel and a release the decision of both (DESIGN CHOICE, log entry 62). -/

namespace Sys2Proof.Machine

/-- A safety group, a pair, an output, a monitor. -/
def Dev.sgroup (d : Dev) (g : Nat) : SafeGroup := getAt initGroup d.isl.groups g
def Dev.updGroup (d : Dev) (g : Nat) (f : SafeGroup → SafeGroup) : Dev := d.updIsl (fun i => { i with groups := upd f i.groups g })
def Dev.spair (d : Dev) (i : Nat) : SafePair := getAt initPair d.isl.pairs i
def Dev.updPair (d : Dev) (i : Nat) (f : SafePair → SafePair) : Dev := d.updIsl (fun x => { x with pairs := upd f x.pairs i })
def Dev.sout (d : Dev) (o : Nat) : SafeOut := getAt initSafeOut d.isl.outs o
def Dev.updOut (d : Dev) (o : Nat) (f : SafeOut → SafeOut) : Dev := d.updIsl (fun x => { x with outs := upd f x.outs o })
def Dev.monitor (d : Dev) (a : Nat) : Monitor := getAt initMonitor d.isl.monitors a
def Dev.updMonitor (d : Dev) (a : Nat) (f : Monitor → Monitor) : Dev := d.updIsl (fun x => { x with monitors := upd f x.monitors a })

/-- SAFETY_TICK_COUNT. -/
def Dev.tick (d : Dev) : Nat := d.obj Obj.SAFETY_TICK_COUNT

/-- Ticks from one count to the present, the count wrapping. -/
def Dev.ticksSince (d : Dev) (t : Nat) : Nat := raw 32 ((d.tick : Int) - t)

/-- The state of a group (R435): 0 RUN_PERMITTED, 1 SS1_RAMP, 2 SS2_RAMP, 3 SOS, 4 STO. -/
def Dev.groupState (d : Dev) (g : Nat) : Nat := d.obj (Obj.GROUP_STATE g) % 8

/-- The groups in STO, as STO_GROUPS shows them (R184, R437); with the island stopped, every group. -/
def Dev.stoGroups (d : Dev) : Nat :=
  if d.isl.running then (List.range 32).foldl (fun m g => if d.groupState g = 4 then m + 2 ^ g else m) 0 else 2 ^ 32 - 1

/-- Device-state STO (R436), and the STO step of SAFE-HOLD (R39). -/
def Dev.held (d : Dev) : Bool := d.state == stBoot || d.state == stConfig || d.state == stSafeHold || d.ctl.stoDone

/-! ## Lock-outs (R452) -/

/-- A group's state, lock bit and causes shown (DEDUCED, log entry 63). -/
def Dev.showGroup (d : Dev) (g st : Nat) : Dev :=
  let l := (d.sgroup g).causes
  let d := d.setObj (Obj.GROUP_STATE g) (st + if l.isEmpty then 0 else 128)
  d.setObj (Obj.LOCKOUT_CAUSES g) (l.foldl (fun m c => m ||| 2 ^ (c.code - 1)) 0)

/-- A cause latched in a group from a source (DEDUCED, log entry 63). -/
def Dev.latch (d : Dev) (code source g : Nat) : Dev :=
  let l := (d.sgroup g).causes
  if l.any (fun c => c.code == code && c.source == source) then d
  else
    let known := l.any (fun c => c.code == code)
    let d := d.updGroup g (fun x => { x with causes := x.causes ++ [{ code := code, source := source, held := 0, cleared := false }] })
    let d := if l.isEmpty then d.setObj (Obj.LOCKOUT_FIRST g) code else d
    let d := d.showGroup g (d.groupState g)
    if known then d else d.raise 0x81 (source % 256 * 65536 + g * 256 + code)

/-- A cause latched in every group of a mask. -/
def Dev.latchMask (d : Dev) (code source mask : Nat) : Dev := (bitsSet 32 mask).foldl (fun d g => d.latch code source g) d

/-! ## Group states (R435 to R437) -/

/-- The demands that stand at a tick, one bit a group. -/
structure Demands where
  sto : Nat
  ss1 : Nat
  ss2 : Nat
  sls : Nat
  slp : Nat
  sdi : Nat

/-- What an applied copy no older than 3 cycles holds a group of a unit that is no head to; without one, STO (R516). -/
def Dev.copiedState (d : Dev) (g : Nat) : Nat :=
  if d.isHead then 0
  else if !d.pair.island.isEmpty && decide (raw 32 ((d.cyc.tag : Int) - d.pair.islandTag) ≤ 3) then
    getAt 0 d.pair.island g / 2 ^ 24 % 8
  else 4

/-- The more restrictive of two group states (R435). -/
def tighter (a b : Nat) : Nat :=
  let rank := fun s => if s = 4 then 3 else if s = 1 then 2 else if s = 0 then 0 else 1
  if rank a < rank b then b else a

/-- A group whose configured axes all lie in the failed fold of cause 0x0002 (R36) (DEDUCED, log entry 31). -/
def Dev.foldSto (d : Dev) (g : Nat) : Bool :=
  match d.ctl.failedFold with
  | none => false
  | some f =>
    let l := (d.listed 0x3100 128 1).filter (fun a => d.obj (Obj.AXIS_GROUP a) == g && d.objB (Obj.CONFIGURED a))
    !l.isEmpty && l.all (fun a => d.obj (Obj.CTX_FOLD a) == f)

/-- The state a group takes under the demands that stand in this unit. -/
def Dev.ownWanted (d : Dev) (dem : Demands) (g : Nat) : Nat :=
  let x := d.sgroup g
  let ss1 := bit dem.ss1 g || x.react
  let locked := x.causes.any (fun c => !(x.react && c.code == 8 && d.obj (Obj.SLS_REACTION c.source) == 2))
  if d.held || d.foldSto g || bit dem.sto g || locked || (ss1 && x.ended) then 4
  else if ss1 then 1
  else if bit dem.ss2 g then (if x.sos then 3 else 2)
  else 0

/-- The state a group takes (DESIGN CHOICE, log entry 62; DEDUCED, log entry 63). -/
def Dev.wanted (d : Dev) (dem : Demands) (g : Nat) : Nat := tighter (d.ownWanted dem g) (d.copiedState g)

/-- The monitored axes of a group (R445). -/
def Dev.axesOf (d : Dev) (g : Nat) : List Nat := (d.listed 0x3100 128 1).filter (fun a => d.obj (Obj.AXIS_GROUP a) == g)

/-- A ramp begins: v₀ is the speed of this tick (R446). -/
def Dev.rampStart (d : Dev) (g : Nat) : Dev :=
  let d := d.updGroup g (fun x => { x with rampAt := d.tick })
  (d.axesOf g).foldl (fun d a => d.updMonitor a (fun m => { m with v0 := m.speed.map (fun s => (absI s.1, absI s.2.1, s.2.2)) })) d

/-- A group put in a state: the event, and what entry to it brings (R437). -/
def Dev.setGroup (d : Dev) (g st : Nat) : Dev :=
  let old := d.groupState g
  let d := d.showGroup g st
  if st = old then d
  else
    let d := d.raise 0x80 (g * 256 + d.obj (Obj.GROUP_STATE g))
    let d := if st = 4 then d.updIsl (fun i => { i with stoNew := i.stoNew ||| 2 ^ g }) else d
    let d := if st = 4 ∨ st = 0 then d.updGroup g (fun x => { x with react := false }) else d
    let d := if st ≠ 3 then d.updGroup g (fun x => { x with sos := false }) else d
    if st = 1 ∨ st = 2 then (d.updIsl (fun i => { i with rampNew := i.rampNew ||| 2 ^ g })).rampStart g else d

/-! ## Safe outputs (R443, R444) -/

/-- An output driven. -/
def Dev.driveOut (d : Dev) (o : Nat) (on : Bool) : Dev :=
  if (d.sout o).on = on then d
  else
    let d := d.updOut o (fun x => { x with on := on, changedAt := d.tick, bad := 0, testedAt := d.now, pulse := none })
    d.emit (.safeOut o on on)

/-- Whether an output's conditions hold (DESIGN CHOICE, log entry 62). -/
def Dev.outWanted (d : Dev) (o : Nat) : Bool :=
  let mode := d.obj (Obj.SO_MODE o)
  let c := d.obj (Obj.SO_CONN o)
  let asked := d.objB (Obj.CONN_ENABLE c) && d.obj (Obj.CN_DIRECTION c) == 0 && d.obj (Obj.CN_KIND c) == 2
    && bit (byteAt (d.conn c).used 25) o
  d.isl.running && getAt false d.ctl.supplies 3 && (mode == 1 || mode == 2) && d.groupState (d.obj (Obj.SO_GROUP o)) != 4 && (mode == 1 || asked)

/-- Every output follows its conditions. -/
def Dev.driveOuts (d : Dev) : Dev := forN 8 (fun o d => d.driveOut o (d.outWanted o)) d

/-- Cause 0x05 from an output: both channels de-energised. -/
def Dev.outFault (d : Dev) (o chans : Nat) : Dev :=
  let d := (d.driveOut o false).raise 0x86 (o * 256 + chans)
  d.latch 5 o (d.obj (Obj.SO_GROUP o))

/-- The level commanded of a channel (0 A, 1 B) at an instant, and the instant of its last change: an off-test puts the channels low in
turn (R444) (DEDUCED, log entry 64). -/
def SafeOut.channel (x : SafeOut) (c now : Nat) : Bool × Option Nat :=
  match x.pulse with
  | none => (x.on, none)
  | some (t, w) =>
    if now < t + c * w then (x.on, none)
    else if now < t + (c + 1) * w then (false, some (t + c * w))
    else (x.on, some (t + (c + 1) * w))

/-- A channel's readback at the present tick: it differs from the level commanded, and SO_SETTLE has passed since the level's last change. -/
def Dev.channelBad (d : Dev) (o c rb : Nat) : Bool × Bool :=
  let x := d.sout o
  let e := x.channel c d.now
  let settle := d.obj (Obj.SO_SETTLE o)
  let settled := decide (settle ≤ d.ticksSince x.changedAt * 100) && (match e.2 with
    | some t => decide (t + settle * 1000 ≤ d.now)
    | none => true)
  (bit rb o != e.1, settled)

/-- The readback at a tick. -/
def Dev.readback (d : Dev) (rbA rbB o : Nat) : Dev :=
  let a := d.channelBad o 0 rbA
  let b := d.channelBad o 1 rbB
  let wrong := b2n (a.1 && a.2) + 2 * b2n (b.1 && b.2)
  let bad := if wrong ≠ 0 then (d.sout o).bad + 1 else 0
  let d := d.updOut o (fun x => { x with bad := bad, matched := !a.1 && !b.1 })
  if bad = 2 then d.outFault o wrong else d

/-- SO_STATE shown. -/
def Dev.showOut (d : Dev) (rbA rbB o : Nat) : Dev :=
  let fault := d.isl.groups.any (fun g => g.causes.any (fun c => c.code == 5 && c.source == o))
  d.setObj (Obj.SO_STATE o) (b2n (d.sout o).on + 2 * b2n (bit rbA o) + 4 * b2n (bit rbB o) + 8 * b2n fault)

/-- The whole device state STO taken at once: at a change of DEVICE_STATE and at the STO step (R39, R436). -/
def Dev.stoAll (d : Dev) : Dev :=
  if !d.isl.running then d
  else
    let before := d.stoGroups
    let d := forN 32 (fun g d => d.setGroup g 4) d
    (if before = d.stoGroups then d else d.sendHalt d.stoGroups).driveOuts

/-! ## Safe inputs (R440, R441) -/

/-- Channel A and channel B of a pair demand, by its type. -/
def pairLevels (type a b i : Nat) : Bool × Bool := (!bit a i, if type = 1 then bit b i else !bit b i)

/-- Cause 0x03 of a pair (DEDUCED, log entry 64). -/
def Dev.discFault (d : Dev) (i : Nat) : Dev :=
  let p := d.spair i
  let n := d.obj (Obj.DISC_TICKS i)
  if p.fault || !(decide (n < p.countS) || decide (n < p.countC)) then d
  else
    let d := d.updPair i (fun p => { p with fault := true, together := false })
    let d := (d.setObjBit (Obj.SI_STATE i) 4 true).raise 0x85 (i * 256 + 3)
    d.latchMask 3 i (d.obj (Obj.SI_GROUPS i))

/-- A pair sampled by both channels (DEDUCED, log entry 64). -/
def Dev.pairTick (d : Dev) (s c : SafeSample) (i : Nat) : Dev :=
  let type := d.obj (Obj.SI_TYPE i)
  let ls := pairLevels type s.a.toNat s.b.toNat i
  let lc := pairLevels type c.a.toNat c.b.toNat i
  let d := d.updPair i (fun p => { p with
    countS := if ls.1 = ls.2 then 0 else p.countS + 1
    countC := if lc.1 = lc.2 then 0 else p.countC + 1 })
  let d := d.discFault i
  let both := ls.1 && ls.2 && lc.1 && lc.2
  let none := !(ls.1 || ls.2 || lc.1 || lc.2)
  let d := d.updPair i (fun p => { p with
    fault := p.fault && !(p.together && none)
    together := p.fault && (p.together || both) && !(p.together && none) })
  let p := d.spair i
  let demanding := !none || p.fault
  let d := d.updPair i (fun p => { p with demanding := demanding, levA := bit s.a.toNat i, levB := bit s.b.toNat i })
  let d := d.setObj (Obj.SI_STATE i) (b2n (bit s.a.toNat i) + 2 * b2n (bit s.b.toNat i) + 4 * b2n demanding
    + 8 * b2n (p.countS != 0 || p.countC != 0) + 16 * b2n p.fault)
  let f := d.obj (Obj.SI_FUNCTION i)
  if demanding ∧ 1 ≤ f ∧ f ≤ 3 ∧ d.objB (Obj.SI_RESTART i) then d.latchMask 2 i (d.obj (Obj.SI_GROUPS i)) else d

/-- The demands of the pairs. -/
def Dev.pairDemand (d : Dev) (f : Nat) : Nat :=
  (List.range 16).foldl (fun m i => if (d.spair i).demanding ∧ d.obj (Obj.SI_FUNCTION i) = f then m ||| d.obj (Obj.SI_GROUPS i) else m) 0

/-- The demands of the SAFE_DEMAND payloads in use. -/
def Dev.connDemand (d : Dev) (off : Nat) : Nat :=
  (d.connsOf 0).foldl (fun m n => if d.obj (Obj.CN_KIND n) = 2 then m ||| fieldAt (d.conn n).used off 4 else m) 0

/-- The demands that stand. -/
def Dev.safeDemands (d : Dev) : Demands :=
  { sto := d.pairDemand 1 ||| d.connDemand 1, ss1 := d.pairDemand 2 ||| d.connDemand 5, ss2 := d.pairDemand 3 ||| d.connDemand 9
    sls := d.pairDemand 4 ||| d.connDemand 13, slp := d.pairDemand 5 ||| d.connDemand 17, sdi := d.pairDemand 6 ||| d.connDemand 21 }

/-! ## Test pulses (R442) -/

/-- Whether a pair has a test pulse on either channel (DEDUCED, log entry 64). -/
def Dev.tested (d : Dev) (i : Nat) : Bool := d.obj (Obj.SI_TEST_A i) < 4 || d.obj (Obj.SI_TEST_B i) < 4

/-- A pulse read wrongly. -/
def Dev.crossShort (d : Dev) (i : Nat) : Dev :=
  let d := d.updPair i (fun p => { p with pulses := 0 })
  (d.raise 0x85 (i * 256 + 4)).latchMask 4 i (d.obj (Obj.SI_GROUPS i))

/-- TEST_PULSE: pulse n, with the levels read before it ends. -/
def Dev.testPulse (d : Dev) (n a b : Nat) : Dev :=
  if !d.isl.running || !d.isHead || d.tick % d.obj Obj.TP_PERIOD != n then d
  else
    let d := d.emit (.testPulse n (d.obj Obj.TP_WIDTH))
    let d := d.updIsl (fun i => { i with lowA := 0, lowB := 0 })
    forN 16 (fun i d =>
      let p := d.spair i
      let ta := d.obj (Obj.SI_TEST_A i)
      let tb := d.obj (Obj.SI_TEST_B i)
      let wrong := (ta == n && bit a i && p.levA) || (tb == n && bit b i && p.levB)
      let lowA := ta < 4 && ta != n && !bit a i && p.levA
      let lowB := tb < 4 && tb != n && !bit b i && p.levB
      let d := d.updIsl (fun x => { x with lowA := setBit x.lowA i lowA, lowB := setBit x.lowB i lowB })
      if !d.tested i then d
      else if wrong then d.crossShort i
      else d.updPair i (fun p => { p with pulses := if lowA || lowB then p.pulses else p.pulses + 1 })) d

/-- The tick after a pulse: a channel that read low during a pulse not its own and is high again is short-circuited; one that
stays low was no fault. -/
def Dev.pulseAfter (d : Dev) (s : SafeSample) : Dev :=
  let la := d.isl.lowA
  let lb := d.isl.lowB
  if la = 0 ∧ lb = 0 then d
  else
    let d := forN 16 (fun i d =>
      if (bit la i && bit s.a.toNat i) || (bit lb i && bit s.b.toNat i) then d.crossShort i
      else if bit la i || bit lb i then d.updPair i (fun p => { p with pulses := p.pulses + 1 })
      else d) d
    d.updIsl (fun i => { i with lowA := 0, lowB := 0 })

/-! ## Motion monitoring (R445 to R450). A speed is a movement in counts over a window in ticks; a tick is 100 µs. -/

/-- |movement| × 10,000 / window > limit, in counts per second. -/
def faster (move : Int) (window : Nat) (limit : Int) : Bool := decide (limit * window < absI move * 10000)

/-- Either channel moves faster than a limit; without a speed, none. -/
def Monitor.over (m : Monitor) (limit : Int) : Bool :=
  match m.speed with
  | some (s, c, w) => faster s w limit || faster c w limit
  | none => false

/-- Both channels have a speed at or below a limit. -/
def Monitor.within (m : Monitor) (limit : Int) : Bool := m.speed.isSome && !m.over limit

/-- Signed 32-bit difference of two positions. -/
def posDiff (a b : Nat) : Int := sgn 32 (raw 32 ((a : Int) - b))

/-- The movement of channels S and C over the window, once the history holds it (DEDUCED, log entry 63). -/
def speedOf (hist : List (Nat × Nat)) (w : Nat) : Option (Int × Int × Nat) :=
  match hist.head?, (hist.drop w).head? with
  | some n, some o => some (posDiff n.1 o.1, posDiff n.2 o.2, w)
  | _, _ => none

/-- SAFE_SPEED: counts per second; the spec states no rounding, so a fraction goes up or down freely (DEDUCED, log entry 63). -/
def Dev.showSpeed (d : Dev) (a : Nat) : Dev :=
  match (d.monitor a).speed with
  | none => d
  | some (s, _, w) =>
    let q := s * 10000 / w
    if s * 10000 % w = 0 then d.setObjI 32 (Obj.SAFE_SPEED a) (sat 32 q)
    else
      let x := d.draw 0x12
      x.2.setObjI 32 (Obj.SAFE_SPEED a) (sat 32 (q + (x.1 % 2 : Nat)))

/-- SLS and SLP of an axis in a group (R448, R450). -/
def Dev.limitsTick (d : Dev) (dem : Demands) (g a p1 p2 : Nat) : Dev :=
  let m := d.monitor a
  let sls := (d.objB (Obj.SLS_ALWAYS g) || bit dem.sls g) && m.over (d.obj (Obj.SLS_LIMIT a))
  let fresh := !(d.sgroup g).causes.any (fun c => c.code == 8)
  let d := if sls then
      let d := if fresh ∧ d.obj (Obj.SLS_REACTION a) = 2 ∧ d.groupState g ≠ 4 then d.updGroup g (fun x => { x with react := true }) else d
      d.latch 8 a g
    else d
  let lo := d.objI 32 (Obj.SLP_LOW a)
  let hi := d.objI 32 (Obj.SLP_HIGH a)
  let out := [p1, p2].any (fun p => decide (sgn 32 p < lo) || decide (hi < sgn 32 p))
  if (d.objB (Obj.SLP_ALWAYS g) || bit dem.slp g) && out then d.latch 10 a g else d

/-- The positions of a monitored axis in the payload in use. -/
def Dev.motionIn (d : Dev) (a : Nat) : Option (Nat × Nat × Bool) :=
  let n := d.obj (Obj.SAFE_POS_CONN a)
  match d.axisSlot a with
  | some (_, _, l) => if d.obj (Obj.CN_KIND n) = 1 ∧ d.obj (Obj.CONN_STATE n) = 2 then motionOf (d.conn n).used l else none
  | none => none

/-- A monitored axis at a tick (R445). One in no group has its speed and position too; it latches nothing. -/
def Dev.motionTick (d : Dev) (dem : Demands) (a : Nat) : Dev :=
  let g := d.obj (Obj.AXIS_GROUP a)
  let cause := fun (d : Dev) code => if g < 32 then d.latch code a g else d
  match d.motionIn a with
  | none => cause (d.updMonitor a (fun m => { m with hist := [], speed := none, still := 0 })) 7
  | some (p1, p2, fault) =>
    let d := d.updMonitor a (fun m =>
      let hist := ((p1, p2) :: m.hist).take 65
      { m with hist := hist, speed := speedOf hist (d.obj (Obj.SPEED_WINDOW a)) })
    let d := (d.setObj (Obj.SAFE_POSITION a) p1).showSpeed a
    let d := if fault ∨ (d.obj (Obj.POS_TOL a) : Int) < absI (posDiff p1 p2) then cause d 6 else d
    let low := (d.monitor a).within (d.obj (Obj.STANDSTILL_SPEED a))
    let d := d.updMonitor a (fun m => { m with still := if low then m.still + 1 else 0 })
    if g < 32 then d.limitsTick dem g a p1 p2 else d

/-- The envelope of R446 in one channel: |v| > max(v₀ − SS_DECEL × k ticks, 0) + SS_MARGIN. -/
def overEnvelope (move : Int) (w : Nat) (v0 : Int) (w0 : Nat) (decel margin k : Int) : Bool :=
  let left := v0 * 10000 * 10000 - decel * k * w0
  decide ((if left < 0 then 0 else left) * w + margin * w * w0 * 10000 < absI move * 10000 * 10000 * w0)

/-- An axis violates the envelope of its ramp. -/
def Dev.rampViolated (d : Dev) (g a : Nat) : Bool :=
  let m := d.monitor a
  let k : Int := d.ticksSince (d.sgroup g).rampAt
  let decel : Int := d.obj (Obj.SS_DECEL a)
  let margin : Int := d.obj (Obj.SS_MARGIN a)
  match m.speed, m.v0 with
  | some (s, c, w), some (s0, c0, w0) => overEnvelope s w s0 w0 decel margin k || overEnvelope c w c0 w0 decel margin k
  | _, _ => false

/-- Every monitored axis of the group has held standstill (R446). -/
def Dev.groupStill (d : Dev) (g : Nat) : Bool :=
  let l := d.axesOf g
  !l.isEmpty && l.all (fun a => decide (d.obj (Obj.STANDSTILL_TIME g) * 10 ≤ (d.monitor a).still))

/-- SS1_TIME_MAX has passed. -/
def Dev.rampTimedOut (d : Dev) (g : Nat) : Bool := decide (d.obj (Obj.SS1_TIME_MAX g) * 10 ≤ d.ticksSince (d.sgroup g).rampAt)

/-- STANDSTILL_REACHED: SS1 ends, SS2 enters SOS with its hold positions. -/
def Dev.standstill (d : Dev) (g : Nat) : Dev :=
  let st := d.groupState g
  if !d.groupStill g then d
  else if st = 1 then d.updGroup g (fun x => { x with ended := true })
  else if st = 2 then
    let d := (d.axesOf g).foldl (fun d a => d.updMonitor a (fun m => { m with hold := m.hist.head? })) d
    d.updGroup g (fun x => { x with sos := true })
  else d

/-- SS1_TIMEOUT: SS1 ends; SS2 without standstill latches cause 0x0B. -/
def Dev.rampTimeout (d : Dev) (g : Nat) : Dev :=
  let st := d.groupState g
  if !d.rampTimedOut g then d
  else if st = 1 then d.updGroup g (fun x => { x with ended := true })
  else if st = 2 && !d.groupStill g then d.latch 11 0xFF g
  else d

/-- The direction SDI permits: 1 positive, −1 negative (R449). -/
def Dev.sdiWanted (d : Dev) (dem : Demands) (g a : Nat) : Int :=
  let m := d.obj (Obj.SDI_MODE a)
  if m = 2 ∨ (m = 3 ∧ bit dem.sdi g) then -1 else 1

/-- One channel of SDI: the new reference and whether it is violated. -/
def sdiStep (dir : Int) (ref p : Nat) (tol : Int) : Nat × Bool :=
  let ahead := posDiff p ref * dir
  if 0 < ahead then (p, false) else (ref, decide (tol < -ahead))

/-- SDI of an axis at a tick. -/
def Dev.sdiTick (d : Dev) (dem : Demands) (g st a : Nat) : Dev :=
  let m := d.monitor a
  if d.obj (Obj.SDI_MODE a) = 0 ∨ st = 4 then d.updMonitor a (fun m => { m with dir := 0 })
  else match m.hist.head? with
    | none => d
    | some (p1, p2) =>
      let want := d.sdiWanted dem g a
      let still := (d.axesOf g).all (fun a => (d.monitor a).within (d.obj (Obj.STANDSTILL_SPEED a)))
      if m.dir = 0 ∨ (m.dir ≠ want ∧ (d.obj (Obj.SDI_MODE a) ≠ 3 ∨ still)) then
        d.updMonitor a (fun m => { m with dir := want, refS := p1, refC := p2 })
      else
        let tol : Int := d.obj (Obj.SDI_TOL a)
        let s := sdiStep m.dir m.refS p1 tol
        let c := sdiStep m.dir m.refC p2 tol
        let d := d.updMonitor a (fun m => { m with refS := s.1, refC := c.1 })
        if s.2 || c.2 then d.latch 9 a g else d

/-- SOS of an axis (R447). -/
def Dev.sosTick (d : Dev) (g a : Nat) : Dev :=
  let m := d.monitor a
  match m.hist.head?, m.hold with
  | some (p1, p2), some (h1, h2) =>
    let tol : Int := d.obj (Obj.STANDSTILL_TOL a)
    if tol < absI (posDiff p1 h1) ∨ tol < absI (posDiff p2 h2) then d.latch 12 a g else d
  | _, _ => d

/-- The functions of a group at a tick: ramps, SOS, SDI (DEDUCED, log entry 63). -/
def Dev.groupTick (d : Dev) (dem : Demands) (g : Nat) : Dev :=
  let x := d.sgroup g
  let d := if x.ended && !(bit dem.ss1 g || x.react) then d.updGroup g (fun x => { x with ended := false }) else d
  let d := d.setGroup g (d.wanted dem g)
  let st := d.groupState g
  let axes := d.axesOf g
  let d := if st = 1 ∨ st = 2 then axes.foldl (fun d a => if d.rampViolated g a then d.latch 11 a g else d) d else d
  let d := if st = 3 then axes.foldl (fun d a => d.sosTick g a) d else d
  let d := axes.foldl (fun d a => d.sdiTick dem g st a) d
  (d.standstill g).rampTimeout g

/-! ## Clearing and resets (R452 to R456) -/

/-- The ticks (for cause 0x04 the pulses) a cause's clearing condition must hold. -/
def needHeld (code : Nat) : Nat := if code = 5 ∨ code = 6 ∨ code = 7 then 10000 else if code = 4 then 8 else 1

/-- The clearing condition of a cause at this tick (R452). -/
def Dev.causeCond (d : Dev) (dem : Demands) (g : Nat) (c : Cause) : Bool :=
  let s := c.source
  if 0x100 ≤ s then d.isHead
  else match c.code with
  | 2 => !(d.spair s).demanding
  | 3 => !(d.spair s).fault
  | 4 => decide (8 ≤ (d.spair s).pulses)
  | 5 => (d.sout s).matched
  | 6 => match d.motionIn s with
    | some (p1, p2, f) => !f && decide (absI (posDiff p1 p2) ≤ d.obj (Obj.POS_TOL s))
    | none => false
  | 7 => (d.motionIn s).isSome
  | 8 => (d.monitor s).within (d.obj (Obj.SLS_LIMIT s))
  | 10 => match d.motionIn s with
    | some (p1, p2, _) => !(d.objB (Obj.SLP_ALWAYS g) || bit dem.slp g)
        || [p1, p2].all (fun p => decide (d.objI 32 (Obj.SLP_LOW s) ≤ sgn 32 p) && decide (sgn 32 p ≤ d.objI 32 (Obj.SLP_HIGH s)))
    | none => !(d.objB (Obj.SLP_ALWAYS g) || bit dem.slp g)
  | 13 => d.isl.crossOk
  | 14 => d.isl.failedItems = 0
  | _ => true

/-- How long a cause's condition has held, in what needHeld counts (DEDUCED, log entry 65). -/
def Dev.heldFor (d : Dev) (c : Cause) : Nat := if c.code = 4 then (d.spair c.source).pulses else c.held

/-- LOCKOUT_CAUSE_CLEARED: the timed condition of a cause is complete (DEDUCED, log entry 65). -/
def Dev.lockCleared (d : Dev) (g code source : Nat) : Dev :=
  d.updGroup g (fun x => { x with causes := x.causes.map (fun c =>
    if c.code = code ∧ c.source = source ∧ needHeld code ≤ d.heldFor c then { c with cleared := true } else c) })

/-- The clearing conditions of every group's causes at a tick. -/
def Dev.causesTick (d : Dev) (dem : Demands) (g : Nat) : Dev :=
  let l := (d.sgroup g).causes
  if l.isEmpty then d
  else
    let d := d.updGroup g (fun x => { x with causes := x.causes.map (fun c =>
      let ok := d.causeCond dem g c
      { c with held := if ok then c.held + 1 else 0, cleared := c.cleared && ok }) })
    l.foldl (fun d c => d.lockCleared g c.code c.source) d

/-- A reset of a group from a source executes: the source is permitted and every cause has cleared, none of them latched on this tick
(R453, R454 step 4, R456). -/
def Dev.resetOk (d : Dev) (newIn : List Nat) (g src : Nat) : Bool :=
  let l := (d.sgroup g).causes
  bit (d.obj (Obj.RESET_SOURCES g)) src && (l.isEmpty || (!newIn.contains g && l.all (fun c => c.cleared)))

/-- A reset of a group from a source: 0 SRST, 1 connection, 2 session (R454 step 4, R456). new: a cause was latched on this tick (R453). -/
def Dev.resetGroup (d : Dev) (newIn : List Nat) (g src : Nat) : Dev :=
  if !bit (d.obj (Obj.RESET_SOURCES g)) src then (if src = 0 then d else d.raise 0x83 (g * 256 + 2))
  else
    let d := d.connAck g
    let l := (d.sgroup g).causes
    if l.isEmpty then d
    else if newIn.contains g || !l.all (fun c => c.cleared) then d.raise 0x83 (g * 256 + 1)
    else
      let d := (d.axesOf g).foldl (fun d a => if l.any (fun c => c.code == 9 && c.source == a) then
        d.updMonitor a (fun m => match m.hist.head? with
          | some (p1, p2) => { m with refS := p1, refC := p2 }
          | none => m) else d) d
      let d := d.updGroup g (fun x => { x with causes := [] })
      let d := (d.setObj (Obj.LOCKOUT_FIRST g) 0).showGroup g (d.groupState g)
      d.raise 0x82 (g * 256 + src)

/-- What a step of the reset input brings: RESET_INPUT data, or a reset. -/
inductive ResetOut where
  | none
  | event (data : Nat)
  | execute
deriving DecidableEq, Repr

/-- The reset input's first tick after the feeds come up (R455). -/
def resetFirst (a b : Bool) : ResetPhase × ResetOut := if a || b then (.blocked, .event 5) else (.idle, .none)

/-- Ticks between two counts, the count wrapping. -/
def ticks (t t0 : Nat) : Nat := raw 32 ((t : Int) - t0)

/-- A release judged: both open within 500 ticks of the first (R454 steps 3 and 4). -/
def resetRelease (a b : Bool) (t : Nat) (from_ : Nat) : ResetPhase × ResetOut :=
  if a || b then (.release from_, .none) else (.idle, if ticks t from_ ≤ 500 then .execute else .event 1)

/-- The reset input at a tick (R454, R455); t counts ticks (DEDUCED, log entry 64). -/
def resetStep (ph : ResetPhase) (a b : Bool) (t : Nat) : ResetPhase × ResetOut :=
  match ph with
  | .idle => if a && b then (.held t, .none) else if a || b then (.first t, .none) else (.idle, .none)
  | .first t0 =>
    if a && b then (if ticks t t0 ≤ 500 then (.held t, .none) else (.ignored, .event 1))
    else if a || b then (.first t0, .none)
    else (.idle, .none)
  | .held t0 =>
    if 50001 ≤ ticks t t0 then (.stuck (if a || b then none else some t), .event 3)
    else if a && b then (.held t0, .none)
    else if ticks t t0 < 2000 then (if a || b then .ignored else .idle, .event 2)
    else resetRelease a b t t
  | .release t0 => resetRelease a b t t0
  | .ignored => if a || b then (.ignored, .none) else (.idle, .none)
  | .stuck o =>
    if a || b then (.stuck none, .none)
    else match o with
      | none => (.stuck (some t), .none)
      | some t0 => if 10000 ≤ ticks t t0 then (.idle, .event 4) else (.stuck (some t0), .none)
  | .blocked => if a || b then (.blocked, .none) else (.idle, .none)

/-- RESET_INPUT_STATE (R462). -/
def resetCode (ph : ResetPhase) : Nat :=
  match ph with
  | .held _ => 1
  | .release _ => 1
  | .stuck _ => 2
  | .blocked => 3
  | _ => 0

/-- RESET_INPUT_STATE follows channel S. -/
def Dev.showReset (d : Dev) : Dev := d.setObj Obj.RESET_INPUT_STATE (resetCode d.isl.resetS)

/-- The events of the two channels' reset inputs: each once. -/
def Dev.resetEvents (d : Dev) (x y : ResetOut) : Dev :=
  let one := fun (d : Dev) (o : ResetOut) => match o with
    | .event n => d.raise 0x84 n
    | _ => d
  if x = y then one d x else one (one d x) y

/-- The reset input at a tick; a reset executes when both channels decide it on the same tick (R431). -/
def Dev.srstTick (d : Dev) (s c : SafeSample) (newIn : List Nat) : Dev :=
  let fresh := d.isl.fresh
  let t := d.tick
  let x := if fresh then resetFirst s.srstA s.srstB else resetStep d.isl.resetS s.srstA s.srstB t
  let y := if fresh then resetFirst c.srstA c.srstB else resetStep d.isl.resetC c.srstA c.srstB t
  let d := d.updIsl (fun i => { i with fresh := false, resetS := x.1, resetC := y.1 })
  let d := (d.resetEvents x.2 y.2).showReset
  if x.2 = .execute ∧ y.2 = .execute then
    (bitsSet 32 (d.obj Obj.RESET_GROUPS)).foldl (fun d g => d.resetGroup newIn g 0) d
  else d

/-- Resets from RESET_GROUP of the SAFE_DEMAND payloads in use, each group once until a frame with 0xFF (R456). A RESET_CONN of 0xFF names
no connection (R465). -/
def Dev.connResets (d : Dev) (newIn : List Nat) : Dev :=
  (d.connsOf 0).foldl (fun d n =>
    let c := d.conn n
    let g := byteAt c.used 26
    if d.obj (Obj.CN_KIND n) ≠ 2 ∨ c.used.length < 27 ∨ 32 ≤ g ∨ bit c.resetDone g then d
    else
      let d := d.updConn n (fun c => { c with resetDone := setBit c.resetDone g true })
      if n ≠ 0xFF ∧ d.obj (Obj.RESET_CONN g) = n then d.resetGroup newIn g 1 else d) d

/-- The committed LOCKOUT_RESET_REQUESTs, at the tick their blocks apply: an executed one reads 0xFF from then on (R62, R456). -/
def Dev.requestReset (d : Dev) (newIn : List Nat) : Dev :=
  d.isl.requests.foldl (fun d g =>
    let done := d.resetOk newIn g 2
    (d.resetGroup newIn g 2).setObj Obj.LOCKOUT_RESET_REQUEST (if done then 0xFF else g))
    (d.updIsl (fun i => { i with requests := [] }))

/-! ## The parameter block (R64, R458, R483) -/

/-- Every safety parameter that differs from its built-in default: the block in force, whose CRC SAFETY_CRC shows. A reset request is
no parameter that stays in force. -/
def Dev.blockInForce (d : Dev) : List (Nat × Nat) :=
  d.dict.filter (fun e => e.1 != Obj.LOCKOUT_RESET_REQUEST && (match rowOf e.1 with
    | some r => r.rights == .rws
    | none => false))

/-- The block with parameters written over it. -/
def mergeBlock (block writes : List (Nat × Nat)) : List (Nat × Nat) := writes.foldl (fun m e => tset defaultOf m e.1 e.2) block

/-- The parameters of a connection, subindices 0x00 to 0x11. -/
def Dev.connParams (d : Dev) (n : Nat) : List Nat := (List.range 18).map (fun s => d.obj (0x340000 + 256 * n + s))

/-- A block takes effect: the parameters, the connections it changes, the monitors it moves, a reset request (R64, R456, R483). -/
def Dev.applyBlock (d : Dev) (writes : List (Nat × Nat)) : Dev :=
  let old := d
  let request := (writes.filter (fun e => e.1 == Obj.LOCKOUT_RESET_REQUEST)).getLast?.map (·.2)
  let d := (writes.filter (fun e => e.1 != Obj.LOCKOUT_RESET_REQUEST)).foldl (fun d e => d.setObj e.1 e.2) d
  let d := d.setObj Obj.SAFETY_CRC (Config.blockCrc d.blockInForce % 2 ^ 32)
  let d := match request with
    | some g => (d.setObj Obj.LOCKOUT_RESET_REQUEST g).updIsl (fun i => { i with requests := if g < 32 then i.requests ++ [g] else i.requests })
    | none => d
  let touched := (writes.filterMap (fun e => if 0x3400 ≤ e.1 / 256 ∧ e.1 / 256 < 0x3500 then some (e.1 / 256 - 0x3400) else none)).eraseDups
  let d := touched.foldl (fun d n =>
    if d.connParams n = old.connParams n then d
    else if !d.objB (Obj.CONN_ENABLE n) then (if old.objB (Obj.CONN_ENABLE n) then d.showConn n 0 0 else d)
    else if old.objB (Obj.CONN_ENABLE n) then (d.connStart n 6).raise 0x8A (n * 256 + 6)
    else d.connStart n 0) d
  let d := d.countValid
  let moved := (writes.filterMap (fun e => if 0x3100 ≤ e.1 / 256 ∧ e.1 / 256 < 0x3180 then some (e.1 / 256 - 0x3100) else none)).eraseDups
  let d := moved.foldl (fun d a => if d.obj (Obj.SAFE_POS_CONN a) = old.obj (Obj.SAFE_POS_CONN a) then d
    else d.updMonitor a (fun _ => initMonitor)) d
  if moved.any (fun a => d.obj (Obj.AXIS_GROUP a) != old.obj (Obj.AXIS_GROUP a)) then (d.repeatDiscovery 0).repeatDiscovery 1 else d

/-- The committed blocks that apply at this tick, in the order of their commits: those a boundary has passed (R64). -/
def Dev.dueBlocks (d : Dev) : List (List (Nat × Nat)) := (d.tally.committed.filter (fun e => e.1)).map (fun e => e.2.2)

/-- Committed blocks apply at the first tick at or after the boundary that follows their commit (R64). -/
def Dev.applyCommitted (d : Dev) : Dev :=
  if d.tally.committed.all (fun e => !e.1) then d
  else d.dueBlocks.foldl (fun d b => d.applyBlock b) { d with tally := { d.tally with committed := d.tally.committed.filter (fun e => !e.1) } }

/-! ## The tick -/

/-- The SAFE_STATUS payload (R439). -/
def Dev.statusPayload (d : Dev) : List Byte :=
  let lock := (List.range 32).foldl (fun m g => if (d.sgroup g).causes.isEmpty then m else m + 2 ^ g) 0
  [3] ++ beBytes 4 (2 ^ 32 - 1 - d.stoGroups) ++ beBytes 4 lock ++ beBytes 1 (d.isl.healthy % 4)

/-- ISLAND_STATUS (R462). -/
def Dev.showIsland (d : Dev) : Dev :=
  d.setObj Obj.ISLAND_STATUS (d.isl.healthy % 4 + 4 * b2n d.isl.feedA + 8 * b2n d.isl.feedB + 16 * b2n d.isl.overdue)

/-- The channels compare (R432). The channel found unhealthy is the model's free value (DESIGN CHOICE, log entry 62). -/
def Dev.crossCompare (d : Dev) (differ : Bool) : Dev :=
  if !differ then d.updIsl (fun i => { i with differing := 0 })
  else
    let d := (d.bump Obj.CROSS_COMPARE_ERRORS).updIsl (fun i => { i with differing := i.differing + 1 })
    if d.isl.differing < 2 then d
    else
      let x := d.draw 0x13
      let d := x.2.updIsl (fun i => { i with crossOk := false, healthy := x.1 % 3 })
      (d.latchMask 13 0xFF (2 ^ 32 - 1)).reqCause 7 0

/-- The groups whose causes grew since an earlier state of the island. -/
def newCauses (old new : List SafeGroup) : List Nat :=
  (List.range 32).filter (fun g => decide ((getAt initGroup old g).causes.length < (getAt initGroup new g).causes.length))

/-- SELFTEST_OVERDUE (R459): hours since the last full self-test beyond the interval. -/
def Dev.overdueCheck (d : Dev) : Dev :=
  let h := (d.now - d.isl.passedAt) / 3600000000000
  if d.isl.running && !d.isl.overdue && decide (d.obj Obj.SELFTEST_MAX_INTERVAL * 3600000000000 ≤ d.now - d.isl.passedAt) then
    ((d.updIsl (fun i => { i with overdue := true })).raise 0x89 (min h (2 ^ 32 - 1))).showIsland
  else d

/-- Inputs, motion, groups, resets and outputs of a tick. -/
def Dev.evaluate (d : Dev) (s c : SafeSample) (rbA rbB : Nat) (old : List SafeGroup) : Dev :=
  let d := forN 16 (fun i d => d.pairTick s c i) (d.pulseAfter s)
  let dem := d.safeDemands
  let d := (d.listed 0x3100 128 1).foldl (fun d a => d.motionTick dem a) d
  let d := forN 8 (fun o d => d.readback rbA rbB o) d
  let d := forN 32 (fun g d => d.groupTick dem g) d
  let d := forN 32 (fun g d => d.causesTick dem g) d
  let newIn := newCauses old d.isl.groups
  let d := ((d.srstTick s c newIn).connResets newIn).requestReset newIn
  let dem := d.safeDemands
  let d := forN 32 (fun g d => d.setGroup g (d.wanted dem g)) d
  forN 8 (fun o d => d.showOut rbA rbB o) d.driveOuts

/-- The first tick after a takeover restarts the watchdogs of the receive connections (R487). -/
def Dev.restartWatch (d : Dev) : Dev :=
  if !d.isl.rewatch then d
  else (d.connsOf 0).foldl (fun d n => d.updConn n (fun c => { c with lastAt := d.now, countAt := d.now })) (d.updIsl (fun i => { i with rewatch := false }))

/-- What a tick does. differ: the channels' decisions, group states or lock-outs differ though their samples agree. -/
def Dev.takeTick (d : Dev) (s c : SafeSample) (rbA rbB : Nat) (differ : Bool) : Dev :=
  let before := d.stoGroups
  let old := d.isl.groups
  let d := d.setObj Obj.SAFETY_TICK_COUNT ((d.tick + 1) % 2 ^ 32)
  let d := d.crossCompare (differ || s != c || decide (0 < d.isl.scrubBad))
  let d := d.updIsl (fun i => { i with scrubBad := i.scrubBad - 1 })
  let d := d.applyCommitted.restartWatch
  let d := ((d.connsOf 0).foldl (fun d n => d.connTick n) d).evaluate s c rbA rbB old
  let now := d.stoGroups
  let d := if now &&& (2 ^ 32 - 1 - before) = 0 then d else d.sendHalt now
  let d := d.updIsl (fun i => { i with payload := d.statusPayload, formedAt := d.timeNs 0 })
  d.safeTickSend.showIsland

/-- A tick is taken: the island runs, and 100 µs after the last one, counted on its source, the island's oscillator within its 2 % (R136, R137) (DEDUCED, log
entry 76). -/
def Dev.tickDue (d : Dev) : Bool := d.isl.running && decide (d.isl.tickAt + (if d.ownTick then 98000 else 100000) ≤ d.now)

/-- The levels the channels read: without VIO1 every safe input reads low (R599). -/
def Dev.pinsRead (d : Dev) (s : SafeSample) : SafeSample :=
  if getAt false d.ctl.supplies 3 then s else { a := 0, b := 0, srstA := false, srstB := false }

/-- SAFETY_TICK. -/
def Dev.safetyTick (d : Dev) (s c : SafeSample) (rbA rbB : Nat) (differ : Bool) : Dev :=
  if !d.tickDue then d else (d.updIsl (fun i => { i with tickAt := d.now })).takeTick (d.pinsRead s) (d.pinsRead c) rbA rbB differ

/-! ## Feeds and self-test (R433, R457, R459) -/

/-- The objects the island holds: 0x3000 to 0x35FF. -/
def ofIsland (k : Nat) : Bool := decide (0x3000 ≤ k / 256) && decide (k / 256 ≤ 0x35FF)

/-- The island starts after both feeds were absent: its memory is initialised; cause 0x01 waits for the parameters (R457, R559). -/
def Dev.islandStart (d : Dev) : Dev :=
  ({ d with dict := d.dict.filter (fun e => !ofIsland e.1),
            isl := { (initIsland d.now) with feedA := d.isl.feedA, feedB := d.isl.feedB } } : Dev).showIsland

/-- Cause 0x01 of a cold start, by the parameters the dictionary load has put in force (R56, R457) (DEDUCED, log entry 74). -/
def Dev.startupLock (d : Dev) : Dev :=
  if !d.isl.startup then d
  else forN 32 (fun g d => if d.objB (Obj.STARTUP_LOCKOUT g) then d.latch 1 0xFF g else d) (d.updIsl (fun i => { i with startup := false }))

/-- The island stops: outputs unpowered, bypasses closed (R214, R433). -/
def Dev.islandStop (d : Dev) : Dev :=
  let d := forN 8 (fun o d => d.driveOut o false) d
  (d.updIsl (fun i => { i with running := false, testing := false })).closeBypasses

/-- The feeds as reported; without either, the island stops. It starts again within BOOT (R433, R585, R589). -/
def Dev.vsafe (d : Dev) (a b : Bool) : Dev :=
  if d.isl.feedA = a ∧ d.isl.feedB = b then d
  else
    let was := d.isl.running
    let d := d.updIsl (fun i => { i with feedA := a, feedB := b })
    let d := d.raise 0x87 (b2n a + 2 * b2n b)
    (if !a && !b && was then d.islandStop else d).showIsland

/-- Every node has shown the STO flag in an uplink block since the halt frame of the full self-test (R459). -/
def Dev.haltAcked (d : Dev) : Bool := d.rings.all (fun r => r.nodes.all (fun n => n.halted))

/-- SAFETY_SELFTEST_DONE: items passed, in the order of R459. The last item, the reset input, has no part in the full self-test: the
integrator proof-tests it (R459) (DEDUCED, log entry 64). -/
def Dev.islandTested (d : Dev) (items : Nat) : Dev :=
  if !d.isl.running || !d.isl.testing then d
  else if d.isl.bootTest then
    let d := d.updIsl (fun i => { i with testing := false, bootTest := false })
    if bit items 0 then d else ((d.updIsl (fun i => { i with crossOk := false, failedItems := i.failedItems ||| 1 })).latchMask 14 0xFF (2 ^ 32 - 1))
  else
    let items := if d.haltAcked then items else setBit items 6 false
    let result := 2 ^ 31 + items
    let d := (d.setObj Obj.ISLAND_SELFTEST_RESULT result).setObj Obj.LAST_SELFTEST (d.time80 0)
    let d := d.updIsl (fun i => { i with testing := false, failedItems := 127 - items % 128 })
    let d := if items % 128 = 127 then d.updIsl (fun i => { i with crossOk := true, healthy := 3, passedAt := d.now, overdue := false })
      else d.latchMask 14 0xFF (2 ^ 32 - 1)
    (d.raise 0x88 result).showIsland

/-- The output test of the full self-test: each channel of an assigned output on and off, then back to its commanded level (R459) (DEDUCED,
log entry 64). -/
def Dev.outputsTest (d : Dev) : Dev :=
  forN 8 (fun o d =>
    if d.obj (Obj.SO_MODE o) = 0 then d
    else
      let on := (d.sout o).on
      ((d.emit (.safeOut o true false)).emit (.safeOut o false true)).emit (.safeOut o on on)) d

/-- Every pulse on every assigned channel (R459). -/
def Dev.pulsesTest (d : Dev) : Dev :=
  forN 4 (fun n d =>
    if (List.range 16).any (fun i => d.obj (Obj.SI_TEST_A i) == n || d.obj (Obj.SI_TEST_B i) == n) then d.emit (.testPulse n (d.obj Obj.TP_WIDTH))
    else d) d

/-- SELFTEST_COMMAND takes effect in SERVICE: the full self-test begins, with the outputs and pulses exercised and a halt frame of all
groups, which each node's uplink STO flag acknowledges (R459). -/
def Dev.islandTestStart (d : Dev) : Dev :=
  if d.state == stService && d.isl.running then
    let d := (d.updIsl (fun i => { i with testing := true, bootTest := false })).outputsTest.pulsesTest
    (forN 2 (fun r d => d.updRing r (fun g => { g with nodes := g.nodes.map (fun n => { n with halted := false }) })) d).sendHalt (2 ^ 32 - 1)
  else d

/-- SO_OFF_TEST: each channel in turn off from 10 µs after the last tick, and whether its readback shows low before the test ends (R444). -/
def Dev.offTest (d : Dev) (o : Nat) (lowA lowB : Bool) : Dev :=
  let period := d.obj (Obj.SO_TEST_PERIOD o)
  if !d.isl.running || !(d.sout o).on || period = 0 || decide (d.now < (d.sout o).testedAt + period * 1000000000) then d
  else
    let w := d.obj (Obj.SO_TEST_WIDTH o)
    let d := d.updOut o (fun x => { x with testedAt := d.now, pulse := some (d.isl.tickAt + 10000, w * 1000) })
    let d := d.emit (.offTest o w)
    if lowA && lowB then d
    else (d.raise 0x86 (o * 256 + b2n (!lowA) + 2 * b2n (!lowB))).latch 5 o (d.obj (Obj.SO_GROUP o))

/-- A group ramps. -/
def Dev.rampsNow (d : Dev) (g : Nat) : Bool := d.groupState g == 1 || d.groupState g == 2

/-- A group's end of ramp taken at once: its state follows, with a halt frame on entry to STO. -/
def Dev.rampEnd (d : Dev) (g : Nat) : Dev :=
  let before := d.stoGroups
  let d := d.setGroup g (d.wanted d.safeDemands g)
  (if d.stoGroups = before then d else d.sendHalt d.stoGroups).driveOuts

/-- RESET_STUCK: a hold of 50,001 ticks in both channels (R455). -/
def Dev.resetStuck (d : Dev) : Dev :=
  let stuck := fun ph => match ph with
    | .held t0 => decide (50001 ≤ d.ticksSince t0)
    | _ => false
  if d.isl.running && stuck d.isl.resetS && stuck d.isl.resetC then
    ((d.updIsl (fun i => { i with resetS := .stuck none, resetC := .stuck none })).raise 0x84 3).showReset
  else d

/-- RESET_STUCK_CLEARED: both channels open for 1 s (R455). -/
def Dev.resetStuckCleared (d : Dev) : Dev :=
  let clear := fun ph => match ph with
    | .stuck (some t0) => decide (10000 ≤ d.ticksSince t0)
    | _ => false
  if d.isl.running && clear d.isl.resetS && clear d.isl.resetC then
    ((d.updIsl (fun i => { i with resetS := .idle, resetC := .idle })).raise 0x84 4).showReset
  else d

/-! ## Meanings -/

/-- DISCREPANCY_FAULT. -/
def execDiscrepancyFault (pair : Fin 16) (s : State) : Res := s.onDev (fun d => if d.isl.running then d.discFault pair else d)

/-- TEST_PULSE. -/
def execTestPulse (pulse : Fin 4) (a b : BitVec 16) (s : State) : Res := s.onDev (fun d => d.testPulse pulse a.toNat b.toNat)

/-- SO_OFF_TEST. -/
def execSoOffTest (output : Fin 8) (lowA lowB : Bool) (s : State) : Res := s.onDev (fun d => d.offTest output lowA lowB)

/-- SS1_TIMEOUT: the ramp of a group in SS1_RAMP or SS2_RAMP ends. -/
def execSs1Timeout (group : Fin 32) (s : State) : Res :=
  s.onDev (fun d => if d.isl.running && d.rampsNow group && d.rampTimedOut group then (d.rampTimeout group).rampEnd group else d)

/-- STANDSTILL_REACHED: the ramp of a group in SS1_RAMP or SS2_RAMP ends. -/
def execStandstillReached (group : Fin 32) (s : State) : Res :=
  s.onDev (fun d => if d.isl.running && d.rampsNow group && d.groupStill group then (d.standstill group).rampEnd group else d)

/-- RESET_STUCK. -/
def execResetStuck (s : State) : Res := s.onDev Dev.resetStuck

/-- RESET_STUCK_CLEARED. -/
def execResetStuckCleared (s : State) : Res := s.onDev Dev.resetStuckCleared

/-- LOCKOUT_CAUSE_CLEARED. -/
def execLockoutCauseCleared (group : Fin 32) (cause source : Byte) (s : State) : Res :=
  s.onDev (fun d => if d.isl.running then d.lockCleared group cause.toNat source.toNat else d)

/-- SAFETY_SELFTEST_DONE. -/
def execSafetySelftestDone (items : Byte) (s : State) : Res := s.onDev (fun d => d.islandTested items.toNat)

/-- SELFTEST_OVERDUE. -/
def execSelftestOverdue (s : State) : Res := s.onDev Dev.overdueCheck

end Sys2Proof.Machine
end

