-- ==== Sys2Proof/Machine/Leg.lean ====
section
/-! DEFINITION. Machine/Leg.lean: leg ports, edge records and the duty limits, telemetry, trips, link start and loss, self-tests,
sense ports with their filters (R398 to R430). -/

namespace Sys2Proof.Machine

/-- A leg port at rest. -/
def idleLeg : LegPort :=
  { linked := false, discard := false, clearing := false, queue := [], seq := 0, state := 0, sentAt := 0, silentTo := 0,
    test := none, testFrom := 0, telAt := 0, clamped := false, refreshed := false, off := false, telLatch := 0,
    telAge := 0, startAt := 0 }

/-- Leg port n. -/
def Dev.leg (d : Dev) (n : Nat) : LegPort := getAt idleLeg d.legs n

/-- Leg port n changed. -/
def Dev.updLeg (d : Dev) (n : Nat) (f : LegPort → LegPort) : Dev := { d with legs := upd f d.legs n }

/-- LEG_STATE of port n. -/
def Dev.legState (d : Dev) (n : Nat) : Nat := d.obj (Obj.LEG_STATE n)

/-- ACTIVE of the TIME records (R403). -/
def Dev.legActive (d : Dev) : Bool := d.isHead && [stReady, stRun, stService].contains d.state

/-- A port's downlink carries words: its link is enabled, the unit is neither in BOOT nor in SAFE-HOLD, no silence runs (R417, R424). -/
def Dev.legSends (d : Dev) (n : Nat) : Bool :=
  d.cycling && d.objB (Obj.LINK_ENABLE n) && decide ((d.leg n).silentTo ≤ d.now)

/-- The slot a port is mapped to (R370). -/
def Dev.slotOf (d : Dev) (n : Nat) : Option Nat := (List.range 16).find? (fun s => d.obj (Obj.HB_PORT s) == n)

/-! ## Records (R400 to R404) -/

/-- CRC8 over bits [55:8] of a record given by the value of those bits. -/
def legCrc (v : Nat) : Nat := crc8 (beBytes 6 v)

/-- A CMD record sent (R404). -/
def Dev.legCmd (d : Dev) (n code arg : Nat) : Dev :=
  if d.legSends n then d.emit (.legCmd n code arg (legCrc (code * 2 ^ 40 + arg * 256))) else d

/-- An EDGE record sent: SEQ rises by one (R402). -/
def Dev.sendEdge (d : Dev) (n : Nat) (e : Edge) : Dev :=
  let q := ((d.leg n).seq + 1) % 256
  let t := ns32 (e.at16 / 16)
  let c := legCrc (e.state * 2 ^ 46 + (e.at16 % 16) * 2 ^ 42 + t * 256 + q)
  let d := d.updLeg n (fun l => { l with seq := q, state := e.state, sentAt := d.now, lastAt16 := e.at16 })
  d.emit (.legEdge n e.state e.at16 q c)

/-- LEG_TIME_RECORD: none while the link starts (R403, R416, R424). -/
def Dev.legTimeRecord (d : Dev) (n off : Nat) : Dev :=
  if !d.legSends n || (d.leg n).starting then d
  else
    let t := ns32 (d.timeNs off + d.obj (Obj.LEG_DELAY n))
    let ep := d.obj (Obj.EPOCH 0) % 256
    d.emit (.legTime n d.legActive t ep (legCrc (b2n d.legActive * 2 ^ 47 + t * 256 + ep)))

/-- EDGE_RECORD_SEND: the first record that waits, once its time lies within 20 µs; none leaves with less than 2 µs (R407). -/
def Dev.edgeSend (d : Dev) (n : Nat) : Dev :=
  match (d.leg n).queue with
  | [] => d
  | e :: t =>
    let at0 := e.at16 / 16
    if d.timeNs 0 + 20000 < at0 then d
    else
      let d := d.updLeg n (fun l => { l with queue := t })
      if at0 < d.timeNs 0 + 2000 || (d.leg n).discard || !d.legSends n || d.state != stRun || !d.isHead then d else d.sendEdge n e

/-- LEG_STATE_REPEAT: the held state sent again after QUEUE_DRY / 2, at an instant the rule leaves open between 2 µs and 20 µs
ahead, not before the record sent last and before the next (R407) (DEDUCED, log entry 61). -/
def Dev.stateRepeat (d : Dev) (n : Nat) : Dev :=
  let l := d.leg n
  if d.state != stRun || l.discard || (d.slotOf n).isNone || !d.legSends n || !d.isHead
      || d.now < l.sentAt + d.obj (Obj.QUEUE_DRY n) / 2 then d
  else
    let lo := max (d.timeNs 0 + 2000) (ceilDiv l.lastAt16 16)
    let hi := match l.queue with
      | [] => d.timeNs 0 + 20000
      | e :: _ => min (d.timeNs 0 + 20000) (e.at16 / 16 - 1)
    if hi < lo then d
    else
      let r := d.draw 11
      r.2.sendEdge n { state := l.state, at16 := (lo + r.1 % (hi - lo + 1)) * 16 }

/-! ## Duty limits and edges (R408 to R411) -/

/-- DUTY_FLOOR and DUTY_CEILING as the exact fractions, in 2⁻²³ toward minus infinity (R410). -/
def Dev.dutyLimits (d : Dev) (n : Nat) : Int × Int :=
  let p : Int := max 1 (d.obj Obj.GF_PWM_PERIOD)
  let f : Int := (d.obj (Obj.DT_MIN n) + d.obj (Obj.HS_MIN_ON n) : Nat)
  let c : Int := (d.obj (Obj.DT_MIN n) + d.obj (Obj.LS_MIN_ON n) : Nat)
  (sat24 (f * 8388608 / p), sat24 ((p - c) * 8388608 / p))

/-- The ceiling of a refresh period (R410). -/
def Dev.refreshCeiling (d : Dev) (n : Nat) : Int :=
  let p : Int := max 1 (d.obj Obj.GF_PWM_PERIOD)
  sat24 ((p - (d.obj (Obj.DT_MIN n) + d.obj (Obj.REFRESH_TIME n) : Nat)) * 8388608 / p)

/-- The limits computed for every port at the request for READY. -/
def Dev.showDutyLimits (d : Dev) : Dev :=
  forN 20 (fun n d =>
    let l := d.dutyLimits n
    (d.setObjI 24 (Obj.DUTY_FLOOR n) l.1).setObjI 24 (Obj.DUTY_CEILING n) l.2) d

/-- The request of a slot as committed (R408). -/
def Dev.legReq (d : Dev) (s : Nat) : LegReq :=
  let w := fun k => tget (fun _ => 0) d.legReqs (4 * s + k)
  { mode := w 0 % 4, hs := bit (w 0) 2, ls := bit (w 0) 3, duty := sgn 24 (w 1), phase := w 2 % 65536 }

/-- The edges of the update instants of one apply interval, in PWM mode (R409). The carrier's count of clock periods at the apply instants
is lo and hi. Each entry is STATE and its exact instant in 2⁻⁴⁰ clock periods of the count. Also how many duties were clamped, and whether a
refresh period was met. -/
def pwmEdges (p dt phase : Nat) (clampAt : Bool → Nat → Int × Bool × Bool) (lo hi : Nat) : List (Nat × Int) × Nat × Bool :=
  -- instants in 2⁻¹⁷ clock periods: even half periods are peaks, odd ones valleys
  let half := p * 65536
  let peak0 := (half + 2 * phase * p) % (2 * half)
  let first := ceilDiv (lo * 131072 + 2 * half - peak0) half
  (List.range ((hi - lo) * 131072 / half + 2)).foldl (fun acc k =>
    let j := first + k
    let t := j * half + peak0 - 2 * half
    if t < lo * 131072 || hi * 131072 ≤ t then acc
    else
      let isPeak := j % 2 = 0
      let c := clampAt isPeak j
      let dq := if isPeak then c.1 else 8388608 - c.1
      let at40 : Int := t * 8388608 + dq * half
      (acc.1 ++ [(0, at40 - dt * 2 ^ 39), (if isPeak then 2 else 1, at40 + dt * 2 ^ 39)], acc.2.1 + b2n c.2.1, acc.2.2 || c.2.2))
    ([], 0, false)

/-- The apply interval that begins at the next boundary: the clock periods from now to its two ends, and the carrier's count now (R409). -/
structure ApplySpan where
  toLo : Nat
  toHi : Nat
  count : Nat

/-- A slot's records: they follow those already sent and queued for earlier instants. A slot that leaves PWM sends no record of its
carrier for an instant at or after the apply instant; where one was sent before the deadline, the new state follows it at once
(R407, R409, R411) (DEDUCED, log entry 61). -/
def Dev.slotEdges (d : Dev) (s n : Nat) (span : ApplySpan) (off : Bool) : Dev :=
  let q := d.legReq s
  let l := d.leg n
  let conflict := !off && (q.mode = 3 || (q.mode = 2 && q.hs && q.ls))
  let d := if conflict then
      (d.bump (Obj.CONFLICTS n)).raise 0x90 (n + 256 * (if q.mode = 3 then 2 else 1)) else d
  let target : Nat := if off || conflict then 0 else if q.mode = 2 then (if q.hs then 1 else if q.ls then 2 else 0) else 0
  if !off && q.mode = 1 then
    let lim := d.dutyLimits n
    let p := max 1 (d.obj Obj.GF_PWM_PERIOD)
    let rn := d.obj (Obj.REFRESH_N n)
    let refresh := fun (isPeak : Bool) (j : Nat) => rn != 0 && (if isPeak then j / 2 else (j - 1) / 2) % rn == 0
    let clampAt := fun (isPeak : Bool) (j : Nat) =>
      let hi := if refresh isPeak j then d.refreshCeiling n else lim.2
      let v := clampI lim.1 hi q.duty
      (v, decide (v ≠ q.duty), refresh isPeak j)
    let r := pwmEdges p (d.obj (Obj.DT_MIN n)) q.phase clampAt (span.count + span.toLo) (span.count + span.toHi)
    let edges := r.1.map (fun e => ({ state := e.1, at16 := d.counter16 (e.2 - span.count * 2 ^ 40) } : Edge))
    let d := forN r.2.1 (fun _ d => (d.bump (Obj.DUTY_CLAMPS n)).raise 0x97 n) d
    d.updLeg n (fun l => { l with queue := l.queue ++ edges, clamped := r.2.1 != 0, refreshed := r.2.2 })
  else
    let apply16 := d.counter16 (span.toLo * 2 ^ 40)
    let kept := l.queue.filter (fun e => decide (e.at16 < apply16))
    let last := kept.getLastD { state := l.state, at16 := l.lastAt16 }
    let d := d.updLeg n (fun l => { l with queue := kept })
    if last.state = target && decide (last.at16 < apply16) then d
    else
      let t := max apply16 last.at16
      let edges := if last.state != 0 && target != 0 && last.state != target
        then [{ state := 0, at16 := t }, { state := target, at16 := t + 16 * d.obj (Obj.DT_MIN n) }]
        else [({ state := target, at16 := t } : Edge)]
      d.updLeg n (fun l => { l with queue := l.queue ++ edges })

/-- The grid-former runs: GF_STATE is neither OFF nor TRIPPED, where every slot is OFF (R379). -/
def Dev.gfRunning (d : Dev) : Bool := d.obj Obj.GF_STATE != 0 && d.obj Obj.GF_STATE != 6

/-- The records of every mapped slot computed at the dispatch deadline; a slot that R368, R378 or a trip sets OFF ignores its words
(R379, R407, R408). -/
def Dev.dispatchEdges (d : Dev) (slotOff : Nat → Bool) (span : ApplySpan) : Dev :=
  let d := forN 20 (fun n d => d.updLeg n (fun l => { l with clamped := false, refreshed := false })) d
  if d.state != stRun || !d.isHead then d
  else forN 16 (fun s d =>
    let n := d.obj (Obj.HB_PORT s)
    if 20 ≤ n || (d.leg n).discard then d
    else
      let st := d.legState n
      let off := !d.gfRunning || slotOff s || (d.leg n).off || !(d.leg n).linked || (st != 2 && st != 3)
      let d := if st = 2 && !off then d.setObj (Obj.LEG_STATE n) 3 else d
      let d := if st = 3 && off then d.setObj (Obj.LEG_STATE n) 2 else d
      d.slotEdges s n span off) d

/-- RUN is left: every leg is OFF, no EDGE record waits, and no port is SWITCHING (R424). -/
def Dev.legsRest (d : Dev) : Dev :=
  forN 20 (fun n d =>
    let d := d.updLeg n (fun l => { l with queue := [], state := 0 })
    if d.legState n = 3 then d.setObj (Obj.LEG_STATE n) 2 else d) d

/-! ## Telemetry, faults, clearing (R405, R413, R415) -/

/-- A port put in FAULT. -/
def Dev.legFault (d : Dev) (n cause : Nat) : Dev :=
  let d := (d.setObj (Obj.LEG_STATE n) 5).setObj (Obj.LEG_FAULT_CAUSE n) cause
  let d := d.updLeg n (fun l => { l with clearing := false, test := none, queue := [] })
  d.raise 0x92 (n + 256 * cause)

/-- LEG_TEL_RX: a TEL record; one that fails its check is counted (R401, R405, R415), and nothing else is (DESIGN CHOICE, log entry 61). -/
def Dev.telRx (d : Dev) (n tel off : Nat) : Dev :=
  if !d.cycling || !d.objB (Obj.LINK_ENABLE n) then d
  else if legCrc (tel / 256) != tel % 256 then d.bump (Obj.RX_ERRORS n)
  else
    let d := d.setObj (Obj.TELEMETRY n) tel
    let d := d.updLeg n (fun l => { l with telAt := d.now + off })
    let d := if bits tel 41 39 != 0 then
        (d.bump (Obj.DRIVER_REPORTS n)).raise 0x94
          (n + 256 * b2n (bit tel 41) + 512 * b2n (bit tel 40) + 1024 * b2n (bit tel 39))
      else d
    let code := bits tel 50 48
    if (d.leg n).clearing then
      if !bit tel 51 && !bit tel 37 then
        (d.setObj (Obj.LEG_STATE n) 2).updLeg n (fun l => { l with clearing := false, discard := false, queue := [] })
      else d.legFault n code
    else if bit tel 51 && (d.legState n = 2 || d.legState n = 3) then d.legFault n code
    else d

/-- Every sense port whose FAST_MAP includes the leg lies within its fast thresholds (R415). -/
def Dev.fastClear (d : Dev) (n : Nat) : Bool :=
  (List.range 12).all (fun p => !bit (d.obj (Obj.FAST_MAP p)) n || !bit (d.obj (Obj.SENSE_STATUS p)) 1)

/-- ENABLE of a port: CLEAR is sent and the next TEL decides (R415). -/
def Dev.legEnable (d : Dev) (n : Nat) : Dev :=
  if ! [0, 4, 5].contains (d.legState n) || !d.fastClear n then d
  else
    let d := d.updLeg n (fun l => { l with clearing := true, off := false })
    d.legCmd n 0x20 0

/-- The ports that may run a self-test: not mapped, or mapped while the grid-former is OFF or TRIPPED; in SERVICE every port (R419). -/
def Dev.testEligible (d : Dev) (n : Nat) : Bool :=
  if d.state = stService then true
  else d.state = stRun && d.objB (Obj.SELFTEST_IN_RUN n)
    && ((d.slotOf n).isNone || d.obj Obj.GF_STATE = 0 || d.obj Obj.GF_STATE = 6)

/-- A self-test begun: the leg OFF, no edge queued (R418). -/
def Dev.startTest (d : Dev) (n : Nat) : Dev :=
  let l := d.leg n
  if !l.linked || !l.queue.isEmpty || l.state != 0 || l.test.isSome || ! [0, 2, 4, 5].contains (d.legState n) then d
  else
    let st := d.legState n
    let d := d.updLeg n (fun l => { l with test := some 0, testFrom := st })
    let d := (d.setObj (Obj.LEG_STATE n) 7).setObj (Obj.LEG_SELFTEST_RESULT n) 0
    d.legCmd n 0x10 0

/-- The result of a self-test: any comparator that fails puts the port in FAULT (R418). -/
def Dev.testResult (d : Dev) (n pass back : Nat) : Dev :=
  let d := d.setObj (Obj.LEG_SELFTEST_RESULT n) (pass + 128)
  let d := d.updLeg n (fun l => { l with test := none })
  let d := if pass = 63 then d.setObj (Obj.LEG_STATE n) back else d.legFault n 0x10
  d.raise 0x95 (n + 256 * (pass + 128))

/-- SELFTEST_DONE: the sequence over comparators 0 to 5 ends; the commands of comparators 1 to 5 have gone out. -/
def Dev.selftestDone (d : Dev) (n pass : Nat) : Dev :=
  if (d.leg n).test.isNone then d
  else
    let d := forN 5 (fun i d => d.legCmd n (0x11 + i) 0) d
    d.testResult n pass (d.leg n).testFrom

/-- LEG_SELFTEST_PERIOD (R419). -/
def Dev.selftestPeriod (d : Dev) (n : Nat) : Dev := if d.state = stRun && d.testEligible n then d.startTest n else d

/-! ## Link start and loss (R416, R417) -/

/-- A link start begun. -/
def Dev.startLink (d : Dev) (n : Nat) : Dev :=
  if !d.objB (Obj.LINK_ENABLE n) || !d.cycling then d
  else
    let d := d.updLeg n (fun l => { l with linked := false, queue := [], test := none, clearing := false,
                                           state := 0, off := false, startAt := d.now, starting := true, lost := false, signal := false })
    d.setObj (Obj.LEG_STATE n) 1

/-- LEG_LINK_START_DONE: delay, settings, self-test. A leg that was tripped stays TRIPPED until it is enabled (R45, R415). -/
def Dev.startDone (d : Dev) (n rt pass : Nat) : Dev :=
  if !(d.leg n).starting then d
  else
    let d := d.updLeg n (fun l => { l with starting := false })
    let delay := (rt - 40) / 2
    let d := forN 8 (fun i d => d.legCmd n 0x30 i) d
    let d := d.setObj (Obj.LEG_DELAY n) delay
    if 60 < delay then d.legFault n 0x11
    else
      let d := (d.legCmd n 1 (d.obj (Obj.T_GW_MAX n))).legCmd n 2 (d.obj (Obj.QUEUE_DRY n))
      let d := forN 6 (fun i d => d.legCmd n (0x10 + i) 0) d
      let d := d.updLeg n (fun l => { l with linked := true })
      let d := d.raise 0x93 (n + 256)
      d.testResult n pass (if (d.leg n).discard then 4 else 2)

/-- LEG_START_TIMEOUT: 5 ms have passed (R416). -/
def Dev.startTimeout (d : Dev) (n : Nat) : Dev :=
  if (d.leg n).starting ∧ (d.leg n).startAt + 5000000 ≤ d.now then
    (d.updLeg n (fun l => { l with starting := false })).legFault n 0x12
  else d

/-- LEG_LINK_LOSS: TRIP, then silence of 10 µs; a port whose link still starts loses it too. -/
def Dev.legLoss (d : Dev) (n : Nat) : Dev :=
  if !d.objB (Obj.LINK_ENABLE n) || !d.cycling then d
  else if (d.leg n).lost then d.updLeg n (fun l => { l with signal := false })
  else
    let d := if d.legSends n then d.emit (.legTrip n) else d
    let d := d.updLeg n (fun l => { l with linked := false, silentTo := d.now + 10000, queue := [], test := none, clearing := false,
                                           state := 0, starting := false, lost := true, signal := false })
    (d.setObj (Obj.LEG_STATE n) 6).raise 0x93 n

/-- A lost port whose signal has returned restarts once its silence is over. -/
def Dev.legRestart (d : Dev) (n : Nat) : Dev :=
  let l := d.leg n
  if l.lost && l.signal && decide (l.silentTo ≤ d.now) then d.startLink n else d

/-- LEG_SIGNAL_RETURN: the port restarts, or waits for the end of its silence. -/
def Dev.signalReturn (d : Dev) (n : Nat) : Dev :=
  if (d.leg n).lost then (d.updLeg n (fun l => { l with signal := true })).legRestart n else d

/-- The ports that have waited for the end of their silence, at a profile tick (R136, R417). -/
def Dev.legRestarts (d : Dev) : Dev := forN 20 (fun n d => d.legRestart n) d

/-- A LEG_COMMAND that takes effect (R415, R416, R419). -/
def Dev.legCommand (d : Dev) (n v : Nat) : Dev :=
  match v with
  | 1 => d.legEnable n
  | 2 =>
    let d := d.updLeg n (fun l => { l with off := true, queue := [], clearing := false, test := none })
    d.setObj (Obj.LEG_STATE n) 0
  | 3 => if d.testEligible n then d.startTest n else d
  | 4 => d.startLink n
  | _ => d

/-! ## Protective turn-off (R43 to R45, R414, R422) -/

/-- The sense ports whose fast channel stands beyond its threshold. -/
def Dev.fastPorts (d : Dev) : List Nat :=
  (List.range 12).filter (fun p => d.objB (Obj.FAST_ENABLE p) && bit (d.obj (Obj.SENSE_STATUS p)) 1)

/-- The leg ports turned off by sense ports. -/
def Dev.fastLegs (d : Dev) (l : List Nat) : List Nat :=
  (List.range 20).filter (fun n => l.any (fun p => bit (d.obj (Obj.FAST_MAP p)) n))

/-- One leg port tripped: TRIP preempts, later edge records are discarded; a link that starts or is lost goes on as it was (R45, R414). -/
def Dev.tripLeg (d : Dev) (n : Nat) : Dev :=
  let d := if d.legSends n then d.emit (.legTrip n) else d
  let d := d.updLeg n (fun l => { l with queue := [], discard := true, clearing := false, test := none, state := 0 })
  (d.setObj (Obj.LEG_STATE n) 4).bump (Obj.TRIPS n)

/-- A sense port that has received nothing. -/
def emptySense : SensePort := { sh := 0, n := 0, run := 0, tripped := false }

/-- Sense port p. -/
def Dev.sensePort (d : Dev) (p : Nat) : SensePort := getAt emptySense d.senses p

/-- A fast channel's trip counted, once until it is back within its thresholds (DEDUCED, log entry 61). -/
def Dev.countFast (d : Dev) (p : Nat) : Dev :=
  if (d.sensePort p).tripped then d
  else ({ d with senses := setAt d.senses p { d.sensePort p with tripped := true } } : Dev).bump (Obj.FAST_TRIPS p)

/-- The island's decision for every fast channel beyond its threshold: the ports and legs concerned (R44). -/
def Dev.fastTrip (d : Dev) : Dev × List Nat :=
  let ports := d.fastPorts
  let legs := d.fastLegs ports
  let fresh := legs.filter (fun n => d.legState n != 4 || (d.leg n).clearing)
  if fresh.isEmpty && ports.all (fun p => (d.sensePort p).tripped) then (d, [])
  else
    let d := ports.foldl Dev.countFast d
    let d := fresh.foldl Dev.tripLeg d
    let mask := fun (l : List Nat) => l.foldl (fun m i => m + 2 ^ i) 0
    (d.raise 0x91 (mask fresh * 4096 + mask ports), fresh)

/-! ## Sense ports (R420 to R423) -/

/-- Running sums of a list. -/
def prefixSums : Nat → List Nat → List Nat
  | a, [] => [a]
  | a, x :: t => a :: prefixSums (a + x) t

/-- Sums over every window of n consecutive elements. -/
def boxSums (n : Nat) (l : List Nat) : List Nat :=
  let p := prefixSums 0 l
  List.zipWith (fun a b => a - b) (p.drop n) p

/-- The output of a sinc filter of the given order and ratio over the newest bits: x = 2ρ − 1 less an offset in 2⁻²³, exact, in units of
2⁻²³ / n ^ order (R420, R421). -/
def sincValue (order n sh : Nat) (offset : Int) : Int :=
  let l := (List.range (order * n - order + 1)).map (fun i => b2n (bit sh i))
  let s := ((List.range order).foldl (fun l _ => boxSums n l) l).headD 0
  (2 * s * 8388608 : Nat) - (8388608 + offset) * (n ^ order : Nat)

/-- The value a port would latch now: narrowed and saturated once (R421). -/
def Dev.senseNow (d : Dev) (p : Nat) : Int :=
  let n := d.obj (Obj.MAIN_OSR p)
  let x := sincValue 3 n (getAt emptySense d.senses p).sh (d.objI 24 (Obj.SENSE_OFFSET p))
  sat24 (gainScaled (d.obj (Obj.SENSE_GAIN p)) * x / (2 ^ 39 * max 1 (n ^ 3) : Nat))

/-- The clock is present at the SDCLK pins: this unit drives it, or its peer does (R424, R426). -/
def Dev.sdclkRuns (d : Dev) : Bool := d.legActive || (!d.isHead && [stReady, stRun, stService].contains d.state)

/-- The values latched at a sample instant (R421). -/
def Dev.latchSense (d : Dev) : Dev :=
  if !d.sdclkRuns then d
  else forN 12 (fun p d => if d.objB (Obj.SENSE_ENABLE p) then d.setObjI 24 (Obj.SENSE_VALUE p) (d.senseNow p) else d) d

/-- One bit received at a port: shift register, run of equal bits, fast channel (R422, R423). -/
def Dev.senseBit (d : Dev) (p : Nat) (b : Bool) : Dev :=
  if !d.objB (Obj.SENSE_ENABLE p) then d
  else
    let s := getAt emptySense d.senses p
    let same := s.n != 0 && bit s.sh 0 == b
    let sh := (s.sh * 2 + b2n b) % 2 ^ 768
    let run := if same then min 64 (s.run + 1) else 1
    let d := { d with senses := setAt d.senses p { s with sh := sh, n := min 768 (s.n + 1), run := run } }
    let d := if same then d else d.setObjBit (Obj.SENSE_STATUS p) 0 false
    let beyond := d.objB (Obj.FAST_ENABLE p) &&
      (let n := d.obj (Obj.FAST_OSR p)
       let y := sincValue 2 n sh (d.objI 24 (Obj.SENSE_OFFSET p))
       decide (d.objI 24 (Obj.FAST_HIGH p) * (n ^ 2 : Nat) < y) || decide (y < d.objI 24 (Obj.FAST_LOW p) * (n ^ 2 : Nat)))
    let d := if beyond then d else { d with senses := setAt d.senses p { d.sensePort p with tripped := false } }
    d.setObjBit (Obj.SENSE_STATUS p) 1 beyond

/-- The bits of one SDCLK edge. -/
def Dev.senseEdge (d : Dev) (v : Nat) : Dev :=
  if d.sdclkRuns then forN 12 (fun p d => d.senseBit p (bit v p)) d else d

/-- SENSE_STUCK (R423). -/
def Dev.senseStuck (d : Dev) (p : Nat) : Dev :=
  if (getAt emptySense d.senses p).run < 64 || bit (d.obj (Obj.SENSE_STATUS p)) 0 then d
  else (d.setObjBit (Obj.SENSE_STATUS p) 0 true).raise 0x96 p

/-- FAST_RESPONSE of a port (R422). -/
def Dev.showFast (d : Dev) (p : Nat) : Dev :=
  d.setObj (Obj.FAST_RESPONSE p) (min 65535 (2 * d.obj (Obj.FAST_OSR p) * d.obj Obj.SDCLK_DIV + 200))

/-! ## LEG_TEL words (R428) -/

/-- The telemetry of every leg port as it stands at the sample instant (R366, R428). -/
def Dev.latchTel (d : Dev) : Dev :=
  forN 20 (fun n d => d.updLeg n (fun l => { l with telLatch := d.obj (Obj.TELEMETRY n), telAge := min 0xFFFFFF (d.now - l.telAt) })) d

/-- A word of the LEG_TEL area: slot s, word k. -/
def Dev.legTelWord (d : Dev) (s k : Nat) : Nat :=
  let n := d.obj (Obj.HB_PORT s)
  if 20 ≤ n then 0
  else
    let l := d.leg n
    match k with
    | 0 => bits l.telLatch 55 32
    | 1 => bits l.telLatch 31 8
    | 2 => d.legState n + 256 * b2n l.clamped + 512 * b2n l.refreshed
    | _ => l.telAge

/-! ## Meanings -/

/-- LEG_TEL_RX. -/
def execLegTelRx (port : Fin 20) (tel : BitVec 56) (off : Fin 125) (s : State) : Res :=
  s.onDev (fun d => d.telRx port tel.toNat off)

/-- LEG_LINK_START_DONE. -/
def execLegLinkStartDone (port : Fin 20) (roundTrip : BitVec 16) (pass : BitVec 6) (s : State) : Res :=
  s.onDev (fun d => d.startDone port roundTrip.toNat pass.toNat)

/-- LEG_START_TIMEOUT. -/
def execLegStartTimeout (port : Fin 20) (s : State) : Res := s.onDev (fun d => d.startTimeout port)

/-- LEG_LINK_LOSS. -/
def execLegLinkLoss (port : Fin 20) (s : State) : Res := s.onDev (fun d => d.legLoss port)

/-- LEG_SIGNAL_RETURN. -/
def execLegSignalReturn (port : Fin 20) (s : State) : Res := s.onDev (fun d => d.signalReturn port)

/-- EDGE_RECORD_SEND. -/
def execEdgeRecordSend (port : Fin 20) (s : State) : Res := s.onDev (fun d => d.edgeSend port)

/-- LEG_STATE_REPEAT. -/
def execLegStateRepeat (port : Fin 20) (s : State) : Res := s.onDev (fun d => d.stateRepeat port)

/-- LEG_TIME_RECORD. -/
def execLegTimeRecord (port : Fin 20) (off : Fin 125) (s : State) : Res := s.onDev (fun d => d.legTimeRecord port off)

/-- SELFTEST_DONE. -/
def execSelftestDone (port : Fin 20) (pass : BitVec 6) (s : State) : Res := s.onDev (fun d => d.selftestDone port pass.toNat)

/-- LEG_SELFTEST_PERIOD. -/
def execLegSelftestPeriod (port : Fin 20) (s : State) : Res := s.onDev (fun d => d.selftestPeriod port)

/-- SENSE_STUCK. -/
def execSenseStuck (port : Fin 12) (s : State) : Res := s.onDev (fun d => d.senseStuck port)

end Sys2Proof.Machine
end

