-- ==== Sys2Proof/Machine/Sched.lean ====
section
/-! DEFINITION. Machine/Sched.lean: microcode domains' headers (R319) and the fold scheduler: which lane carries a context, which
contexts skim, SLOW_PHASE, and the budget (R225, R226, R232, R239 to R243, R35). The assignment is free wherever the budget holds
(Config.laneChoice, Config.phaseChoice); where that choice does not fit, a levelled one is tried. -/

namespace Sys2Proof.Machine

/-! ## Domain headers (R319) -/

/-- A field of a domain image's header. -/
def hdr (image : List Byte) (off len : Nat) : Nat := fieldAt image off len

/-- The image of a domain. -/
def Dev.image (d : Dev) (dom : Nat) : List Byte := d.blob (Obj.DOMAIN_IMAGE dom)

/-- FLAGS of a domain: [0] SPECULABLE, [1] USES_LEG, [2] GRID. -/
def Dev.domFlags (d : Dev) (dom : Nat) : Nat := if dom = 0 then 1 else if dom = 1 then 6 else d.obj (Obj.DOMAIN_FLAGS dom)

/-- CODE_LENGTH. -/
def Dev.codeLength (d : Dev) (dom : Nat) : Nat :=
  if dom < 2 then Config.vendorHeader dom 0 % 7681 else d.obj (Obj.CODE_LENGTH dom)

/-- CTX_WORDS. -/
def Dev.ctxWords (d : Dev) (dom : Nat) : Nat := if dom < 2 then Config.vendorHeader dom 1 % 32769 else hdr (d.image dom) 12 2

/-- SHARED_WORDS. -/
def Dev.sharedWords (d : Dev) (dom : Nat) : Nat := if dom < 2 then Config.vendorHeader dom 2 % 32769 else hdr (d.image dom) 16 2

/-- REP_MAX; 16 for the grid-former library (R367). -/
def Dev.repMax (d : Dev) (dom : Nat) : Nat :=
  if dom = 0 then Config.vendorHeader 0 3 % 65536 else if dom = 1 then 16 else hdr (d.image dom) 20 2

/-- The domain of a context. -/
def Dev.domOf (d : Dev) (c : Nat) : Nat := d.obj (Obj.CTX_DOMAIN c)

/-- FULL_COST of a context in a phase (R240); 2,180 for the grid-former library (R367). -/
def Dev.fullCost (d : Dev) (c phase : Nat) : Nat :=
  match d.domOf c with
  | 0 => Config.servoFullCost phase % 65536
  | 1 => 2180
  | n => hdr (d.image n) (32 + 2 * phase) 2

/-- SKIM_COST of a context in a phase. -/
def Dev.skimCost (d : Dev) (c phase : Nat) : Nat :=
  match d.domOf c with
  | 0 => Config.servoSkimCost phase % 65536
  | 1 => 0
  | n => hdr (d.image n) (48 + 2 * phase) 2

/-- Whether a phase is a run of a divider under a SLOW_PHASE (R243). -/
def slowRun (phase slow div : Nat) : Bool := phase % max div 1 == slow % max div 1

/-- Whether a limit loop of a context takes part and selects V_DC. -/
def Dev.usesVdc (d : Dev) (c : Nat) : Bool :=
  (List.range 6).any (fun l => d.obj (Obj.LIM_GROUP c (l + 1)) != 0 && d.obj (Obj.LIM_VARIABLE c (l + 1)) == 1)

/-- C_set from the numbers of corrected words, quantities and branch records (R239). -/
def setSlots (nw nf nb : Nat) : Nat := 16 + nw * (nf + 1) + nb * (nf + 3)

/-- C_set of a context in a phase: the declarations of R288 for the servo library; of a customer domain, whose header states no counts, a
free figure within the limits of R235 (DESIGN CHOICE, log entry 54). -/
def Dev.setCost (d : Dev) (c phase slow : Nat) : Nat :=
  if d.domOf c != 0 then 16 + Config.customerSetCost (d.domOf c) % 225
  else
    let speed := slowRun phase slow (d.obj (Obj.SPEED_DIV c))
    let pos := d.obj (Obj.STRUCTURE c) == 3 && slowRun phase slow (d.obj (Obj.POSITION_DIV c))
    let nw := 6 + b2n (speed && d.obj (Obj.SPEED_FILTER c) != 0) + b2n (speed && d.obj (Obj.RC_MODE c) != 0)
    let nb := 4 + (if speed then 3 else 0) + b2n pos
    let nf := if speed && d.usesVdc c then 5 else 4
    setSlots nw nf nb

/-- A charge c(x) of R240. -/
def charge (x : Nat) : Nat := max (x + 1) 95

/-! ## Contexts of a fold -/

/-- Whether a context is configured (R225). -/
def Dev.configured (d : Dev) (c : Nat) : Bool := d.objB (Obj.CONFIGURED c)

/-- The configured contexts of a fold in number order. -/
def Dev.contextsOf (d : Dev) (f : Nat) : List Nat :=
  (List.range 136).filter (fun c => d.configured c && d.obj (Obj.CTX_FOLD c) == f)

/-- Lanes that take contexts: assigned, or a spare in use (R20, R21, R578). -/
def Dev.lanesInService (d : Dev) (f : Nat) : List Nat :=
  (List.range 8).filter (fun l => let s := d.obj (Obj.LANE_STATE f l); s == 0 || s == 2)

/-- A context as the scheduler places it. -/
structure Placed where
  ctx : Nat
  lane : Nat
  slow : Nat
  skim : Bool

/-- A(h) + 4 × B(h) at one node on the way out of a direction (R193). -/
def Dev.arrivalAt (d : Dev) (r : Nat) (g : Ring) (port p : Nat) : List Nat → Nat → Nat → Nat
  | [], a, b => a + 4 * b
  | q :: far, a, b =>
    let a' := max (g.delay port q + 120) (a + 4 * b)
    if q = p then a' + 4 * d.upBytes r g q else d.arrivalAt r g port p far a' (d.upBytes r g q)

/-- When a context's feedback is ready at the latest, ns from the sample instant (R193, R231, R232). -/
def Dev.readyBound (d : Dev) (c : Nat) : Nat :=
  match d.axisSlot c with
  | none => 0
  | some (r, p, _) =>
    let g := d.ring r
    let h := g.served (g.lostLinks.map (·.1))
    (if h.1.contains p then d.arrivalAt r g 0 p h.1 0 0 else d.arrivalAt r g 1 p h.2 0 0) + 100

/-! ## The budget (R240, R241) -/

/-- Slots a lane runs in t ns: at the floor, or at its own measured floor where R35 applies; a lane not measured since BOOT counts at the
floor (DESIGN CHOICE, log entry 23). -/
def Dev.slotsIn (d : Dev) (f l t : Nat) (measured : Bool) : Nat :=
  if measured && d.obj (Obj.LANE_FLOOR_TIME f l) != 0 then t * 1024 / d.obj (Obj.LANE_FLOOR_TIME f l) else t * 380 / 1000

/-- The late window of a cycle, ns. -/
def Dev.lateWindow (d : Dev) : Nat := d.cyc.len - 9500

/-- The early load of a lane in a phase. -/
def Dev.earlyLoad (d : Dev) (l : List Placed) (lane phase : Nat) : Nat :=
  ((l.filter (fun p => p.lane == lane && p.skim)).map (fun p => charge (d.skimCost p.ctx phase))).foldl (· + ·) 0

/-- A list of numbers with one placed in falling order. -/
def insertFalling (x : Nat) : List Nat → List Nat
  | [] => [x]
  | y :: t => if y ≤ x then x :: y :: t else y :: insertFalling x t

/-- Numbers in falling order. -/
def falling (l : List Nat) : List Nat := l.foldr insertFalling []

/-- The late load of a lane in a phase. -/
def Dev.lateLoad (d : Dev) (f : Nat) (l : List Placed) (lane phase : Nat) : Nat :=
  let mine := l.filter (fun p => p.lane == lane)
  let skims := mine.filter (·.skim)
  let full := ((mine.filter (fun p => !p.skim)).map (fun p => charge (d.fullCost p.ctx phase))).foldl (· + ·) 0
  let sets := (skims.map (fun p => charge (d.setCost p.ctx phase p.slow))).foldl (· + ·) 0
  let r := min (d.obj (Obj.SQUASH_RESERVE f)) skims.length
  let again := (((falling (skims.map (fun p => d.fullCost p.ctx phase))).take r).map charge).foldl (· + ·) 0
  full + sets + again + (mine.map (fun p => d.repMax (d.domOf p.ctx))).foldl max 0

/-- Whether one lane meets the early inequality in every phase. -/
def Dev.earlyOk (d : Dev) (f : Nat) (l : List Placed) (measured : Bool) (lane : Nat) : Bool :=
  (List.range 8).all (fun φ => d.earlyLoad l lane φ ≤ d.slotsIn f lane 4500 measured)

/-- Whether the lanes named meet both inequalities in every phase. -/
def Dev.budgetOk (d : Dev) (f : Nat) (l : List Placed) (lanes : List Nat) (measured : Bool) : Bool :=
  lanes.all (fun lane => d.earlyOk f l measured lane
    && (List.range 8).all (fun φ => d.lateLoad f l lane φ ≤ d.slotsIn f lane d.lateWindow measured))

/-- The largest lane late load over the phases. -/
def Dev.worstLate (d : Dev) (f : Nat) (l : List Placed) (lanes : List Nat) : Nat :=
  (lanes.map (fun lane => ((List.range 8).map (d.lateLoad f l lane)).foldl max 0)).foldl max 0

/-! ## Assignment (R226, R232, R243) -/

/-- Contexts in order of falling key. -/
def byKey (key : Nat → Nat) (c : Nat) : List Nat → List Nat
  | [] => [c]
  | x :: t => if key x < key c then c :: x :: t else x :: byKey key c t

/-- Which placed contexts skim: those of SPECULATE 0x01, and under 0x02 the latest first while the lane's early budget holds (R232). -/
def Dev.chooseSkims (d : Dev) (f : Nat) (l : List Placed) (measured : Bool) : List Placed :=
  let may := fun c => bit (d.domFlags (d.domOf c)) 0 && decide (c < 128)
  let l := l.map (fun p => { p with skim := d.obj (Obj.SPECULATE p.ctx) == 1 && may p.ctx })
  let auto := (l.filter (fun p => d.obj (Obj.SPECULATE p.ctx) == 2 && may p.ctx
    && decide (d.obj (Obj.SKIM_AFTER f) < d.readyBound p.ctx))).map (·.ctx)
  (auto.foldl (fun a c => byKey d.readyBound c a) []).foldl (fun l c =>
    let m := l.map (fun p => if p.ctx = c then { p with skim := true } else p)
    if (m.filter (fun p => p.ctx == c)).all (fun p => d.earlyOk f m measured p.lane) then m else l) l

/-- What the choice of the slow phases of a fold rests on: its contexts, each with its full costs. -/
def Dev.phaseLoad (d : Dev) (f : Nat) : List Nat := (d.contextsOf f).flatMap (fun c => c :: (List.range 8).map (d.fullCost c))

/-- The SLOW_PHASE chosen for a context (R243) (DESIGN CHOICE, log entry 23). -/
def Dev.slowPhase (d : Dev) (f c : Nat) : Nat := Config.phaseChoice (d.phaseLoad f) c % 8

/-- The free assignment: a lane and a SLOW_PHASE per context, chosen by the machine and not stated (DESIGN CHOICE, log entry 23). -/
def Dev.freePlacing (d : Dev) (f : Nat) (lanes : List Nat) (measured : Bool) : List Placed :=
  d.chooseSkims f ((d.contextsOf f).map (fun c =>
    { ctx := c, lane := getAt 0 lanes (Config.laneChoice c lanes.length d.free % max lanes.length 1),
      slow := d.slowPhase f c, skim := false })) measured

/-- The lane with the least cost so far, the lowest number on a tie. -/
def lightest (l : List (Nat × Nat)) : Nat := match l with
  | [] => 0
  | x :: t => (t.foldl (fun a b => if b.2 < a.2 then b else a) x).1

/-- A levelled assignment: each context to the lane least loaded so far, with the SLOW_PHASE given (DESIGN CHOICE, log entry 23). -/
def Dev.levelPlacing (d : Dev) (f : Nat) (lanes : List Nat) (measured : Bool) (keep : List Placed) (rest : List Nat)
    (slow : Nat → Nat) : List Placed :=
  let cost := fun c => ((List.range 8).map (d.fullCost c)).foldl max 0
  let order := rest.foldl (fun a c => byKey cost c a) []
  let l := order.foldl (fun (l : List Placed) c =>
    let lane := lightest (lanes.map (fun n => (n, ((l.filter (fun p => p.lane == n)).map (fun p => charge (cost p.ctx))).foldl (· + ·) 0)))
    l ++ [{ ctx := c, lane := lane, slow := slow c, skim := false }]) keep
  d.chooseSkims f l measured

/-- An assignment that meets the budget, if one is found (DESIGN CHOICE, log entry 23). -/
def Dev.assign (d : Dev) (f : Nat) : Option (List Placed) :=
  let lanes := d.lanesInService f
  let m := (getAt initFold d.folds f).reduced
  let a := d.freePlacing f lanes m
  if (d.contextsOf f).isEmpty then some []
  else if lanes.isEmpty then none
  else if d.budgetOk f a lanes m then some a
  else
    let b := d.levelPlacing f lanes m [] (d.contextsOf f) (d.slowPhase f)
    if d.budgetOk f b lanes m then some b else none

/-- The axis or grid-former context n. -/
def Dev.updAxis (d : Dev) (c : Nat) (g : Axis → Axis) : Dev := { d with axes := upd g d.axes c }

/-- An assignment put into effect: LANE, SLOW_PHASE, skims (R226, R243). -/
def Dev.install (d : Dev) (f : Nat) (l : List Placed) : Dev :=
  let d := l.foldl (fun d p =>
    let d := d.setObj (Obj.CTX_LANE p.ctx) p.lane
    let d := if p.ctx < 128 then d.setObj (Obj.SLOW_PHASE p.ctx) p.slow else d
    d.updAxis p.ctx (fun a => { a with skimmed := p.skim, predict := d.obj (Obj.PREDICT p.ctx) })) d
  (d.setObj (Obj.WORST_LATE_LOAD f) (d.worstLate f l (d.lanesInService f))).setObj (Obj.LATE_SLOTS f) (d.lateWindow * 380 / 1000)

/-- The assignment in force, from the objects. -/
def Dev.placed (d : Dev) (f : Nat) : List Placed :=
  (d.contextsOf f).map (fun c =>
    { ctx := c, lane := d.obj (Obj.CTX_LANE c), slow := if c < 128 then d.obj (Obj.SLOW_PHASE c) else 0,
      skim := match (d.axes.drop c).head? with
        | some a => a.skimmed
        | none => false })

/-! ## Retired lanes (R20, R35, R573) -/

/-- LANES_IN_SERVICE kept in step. -/
def Dev.showLanes (d : Dev) (f : Nat) : Dev := d.setObj (Obj.LANES_IN_SERVICE f) (d.lanesInService f).length

/-- Contexts of a retired lane moved to the other lanes at their measured floors, where they fit; the others stay on their lanes, and every
SLOW_PHASE stays (R35, R226, R243) (DESIGN CHOICE, log entry 23). -/
def Dev.spread (d : Dev) (f lane : Nat) : Option (List Placed) :=
  let lanes := d.lanesInService f
  let keep := (d.placed f).filter (fun p => p.lane != lane)
  let rest := ((d.placed f).filter (fun p => p.lane == lane)).map (·.ctx)
  let pick := fun c => getAt 0 lanes (Config.laneChoice c lanes.length d.free % max lanes.length 1)
  let a := (d.placed f).map (fun p => if p.lane = lane then { p with lane := pick p.ctx } else p)
  if lanes.isEmpty && !rest.isEmpty then none
  else if d.budgetOk f a lanes true then some a
  else
    let b := d.levelPlacing f lanes true keep rest (fun c => if c < 128 then d.obj (Obj.SLOW_PHASE c) else 0)
    if d.budgetOk f b lanes true then some b else none

/-- A schedule is in force: that of the last request for READY (R226). In CONFIG the next request judges the load that is being configured
(R28, R35). -/
def Dev.scheduled (d : Dev) : Bool := [stReady, stRun, stService].contains d.state

/-- A retirement at a cycle boundary: the spare takes the lane's contexts, or R35 applies. code is the lane's new LANE_STATE. -/
def Dev.retireLane (d : Dev) (f lane code : Nat) : Dev :=
  let was := d.obj (Obj.LANE_STATE f lane)
  let d := (d.setObj (Obj.LANE_STATE f lane) code).raise 0x67 (code * 65536 + f * 256 + lane)
  let d := { d with health := { d.health with retired := d.health.retired ++ [(f * 8 + lane, code)] } }
  if was = 1 ∨ 3 ≤ was then d
  else match (List.range 8).find? (fun l => d.obj (Obj.LANE_STATE f l) == 1) with
    | some spare =>
      let d := (d.contextsOf f).foldl (fun d c =>
        if d.obj (Obj.CTX_LANE c) = lane then d.setObj (Obj.CTX_LANE c) spare else d) d
      (d.setObj (Obj.LANE_STATE f spare) 2).showLanes f
    | none =>
      let d := d.showLanes f
      let d := { d with folds := upd (fun x => { x with reduced := true }) d.folds f }
      if !d.scheduled then d
      else match d.spread f lane with
      | some l => (d.install f l).raise 0xCA ((d.lanesInService f).length * 65536 + 0xF000 + f)
      | none => d.reqCause 1 0

/-- After a measurement under R35, the load must still fit the measured floors. -/
def Dev.recheckBudget (d : Dev) (f : Nat) : Dev :=
  let r := (getAt initFold d.folds f).reduced
  if r && d.scheduled && !d.budgetOk f (d.placed f) (d.lanesInService f) true then d.reqCause 1 0 else d

end Sys2Proof.Machine
end

