-- ==== Sys2Proof/Machine/Trig.lean ====
section
/-! DEFINITION. Machine/Trig.lean: the transcendental unit's functions (R314). The exact function is evaluated in fixed point of
60 fraction bits; the unit's result is a free choice within the stated error of it, the same for the same inputs (R260). -/

namespace Sys2Proof.Machine

/-- π/2 in units of 2⁻⁶⁰. -/
def halfPi60 : Int := 1811004864519280710

/-- A product of two fixed-point numbers of 60 fraction bits. -/
def mul60 (a b : Int) : Int := sra (a * b) 60

/-- The sum of the Taylor series whose next term is t; k is that term's order. -/
def taylor : Nat → Int → Nat → Int → Int
  | 0, _, _, _ => 0
  | n + 1, x2, k, t => t + taylor n x2 (k + 2) (-(mul60 t x2 / ((k + 1) * (k + 2) : Nat)))

/-- Sine of r × 2⁻⁴⁰ of a quarter turn. -/
def sinQuarter (r : Int) : Int :=
  let x := sra (r * halfPi60) 40
  taylor 12 (mul60 x x) 1 x

/-- Cosine of r × 2⁻⁴⁰ of a quarter turn. -/
def cosQuarter (r : Int) : Int :=
  let x := sra (r * halfPi60) 40
  taylor 12 (mul60 x x) 0 (2 ^ 60)

/-- Sine and cosine of a turn fraction of 42 bits, in units of 2⁻⁶⁰. -/
def sinCos60 (u : Nat) : Int × Int :=
  let v := u % 2 ^ 42
  let r : Int := (v % 2 ^ 40 : Nat)
  match v / 2 ^ 40 with
  | 0 => (sinQuarter r, cosQuarter r)
  | 1 => (cosQuarter r, -sinQuarter r)
  | 2 => (-sinQuarter r, -cosQuarter r)
  | _ => (-cosQuarter r, sinQuarter r)

/-- Bisection for the angle of (x, y) in the first quadrant, in units of 2⁻⁴⁰ of a quarter turn. -/
def angleFrom (x y : Int) : Nat → Int → Int
  | 0, r => r
  | n + 1, r =>
    let c := r + 2 ^ n
    angleFrom x y n (if x * sinQuarter c ≤ y * cosQuarter c then c else r)

/-- The angle of a vector in units of 2⁻⁴⁰ of a quarter turn, from −2 to 2 quarter turns. -/
def angle40 (y x : Int) : Int :=
  let r := angleFrom (absI x) (absI y) 40 0
  let r := if x < 0 then 2 ^ 41 - r else r
  if y < 0 then -r else r

/-- A result the unit may give: within err steps of v × 2 ^ (−sh), chosen freely, saturating in Q1.23. -/
def tuNear (func a b sel : Nat) (v : Int) (sh : Nat) (err : Int) : Int :=
  let lo := -sra (-v) sh - err
  let hi := sra v sh + err
  sat24 (lo + ((Config.tuError func a b sel : Nat) : Int) % (hi - lo + 1))

/-- SINCOS of a turn fraction of 24 bits. -/
def tuSin (a : Nat) : Int := tuNear 0 a 0 0 (sinCos60 (a % 2 ^ 24 * 2 ^ 18)).1 37 2

/-- The cosine. -/
def tuCos (a : Nat) : Int := tuNear 0 a 0 1 (sinCos60 (a % 2 ^ 24 * 2 ^ 18)).2 37 2

/-- ATAN2: the angle in half turns. -/
def tuAngle (y x : Int) : Int :=
  if y = 0 ∧ x = 0 then 0 else tuNear 1 (raw 24 y) (raw 24 x) 0 (angle40 y x) 18 2

/-- ATAN2: the magnitude. -/
def tuMag (y x : Int) : Int :=
  if y = 0 ∧ x = 0 then 0
  else
    let q := (x * x + y * y).toNat
    let f := isqrt q
    let lo : Int := (if f * f = q then f else f + 1 : Nat) - 2
    let hi : Int := f + 2
    sat24 (max 0 (lo + ((Config.tuError 1 (raw 24 y) (raw 24 x) 1 : Nat) : Int) % (hi - lo + 1)))

/-- SQRT, truncated; a negative input gives 0. -/
def tuSqrt (a : Int) : Int := if a < 0 then 0 else (isqrt (a.toNat * 2 ^ 23) : Nat)

/-- RECIP: mantissa and exponent; an input of 0 or less gives 0x7F_FFFF and 23. -/
def tuRecip (a : Int) : Int × Int :=
  if a ≤ 0 then (8388607, 23)
  else
    let k := log2Below 24 a.toNat
    let s : Nat := min 23 (if a.toNat = 2 ^ k then 24 - k else 23 - k)
    let p : Int := 2 ^ (46 - s)
    let lo := clampI 4194304 8388607 (-((-p) / a) - 1)
    let hi := clampI 4194304 8388607 (p / a + 1)
    (clampI 4194304 8388607 (lo + ((Config.tuError 3 (raw 24 a) 0 0 : Nat) : Int) % (hi - lo + 1)), s)

/-- The two results of a request and whether TRD sets V and SV: function and raw 24-bit inputs (R314) (DESIGN CHOICE, log entry 24). -/
def tuResult (func a b : Nat) : Nat × Nat × Bool :=
  match func with
  | 0 => (raw 24 (tuSin a), raw 24 (tuCos a), false)
  | 1 => (raw 24 (tuAngle (sgn 24 a) (sgn 24 b)), raw 24 (tuMag (sgn 24 a) (sgn 24 b)), false)
  | 2 => (raw 24 (tuSqrt (sgn 24 a)), 0, decide (sgn 24 a < 0))
  | _ =>
    let r := tuRecip (sgn 24 a)
    (raw 24 r.1, raw 24 r.2, decide (sgn 24 a ≤ 0))

end Sys2Proof.Machine
end

