-- ==== Sys2Proof/Machine/Servo.lean ====
section
/-! DEFINITION. Machine/Servo.lean: the vendor servo library (R260 to R282, R286 to R288, R293). The current stage follows, operation
for operation, the number forms of the listing in chapter 08; the other stages form exact sums and narrow each assignment to Q1.23 once (DEDUCED, log entry 55). An
accumulator value is an integer in units of 2⁻⁴⁶; those of the listing wrap to 56 bits. -/

namespace Sys2Proof.Machine

/-! ## Forms -/

/-- A value wrapped to the 56 bits of an accumulator (R294, R296). -/
def acc56 (i : Int) : Int := sgn 56 (raw 56 i)

/-- NARR with saturation: bits [46:23] of an accumulator (DEDUCED, log entry 55). -/
def narrS (i : Int) : Int := sat24 (sra i 23)

/-- NARR with saturation has an exact result outside Q1.23. -/
def narrSat (i : Int) : Bool := narrS i != sra i 23

/-- A product with a gain in gain form, in an accumulator: the mantissa's exact product, shifted (R262) (DEDUCED, log entry 55). -/
def gainAcc (g : Nat) (x : Int) : Int := acc56 (shiftI (gainMant g * x) (gainShift g))

/-- A gain applied to a count, narrowed to Q1.23 with saturation. -/
def gainCount (g : Nat) (x : Int) : Int := sat24 (sra (gainScaled g * x) 16)

/-- The integrating step x := x + K × e on a Q1.47 integrator whose bit 0 is 0 (R261, R274; listing slots 27 to 37, 52 to 62). -/
def integrate (x : Int) (g : Nat) (e : Int) : Int :=
  let a := acc56 (sra x 1 + gainAcc g e)
  narrS a * 16777216 + (a % 8388608) * 2

/-- Bits [47:24] of an integrator. -/
def intHigh (x : Int) : Int := sra x 24

/-- A limit with its outcome: 0 inside, 1 upper, 2 lower (R236, LIM). -/
def limitTo (a lo hi : Int) : Int × Nat := if hi < a then (hi, 1) else if a < lo then (lo, 2) else (a, 0)

/-- The lowest member of a group, the lower number on a tie (R236). -/
def minMember (l : List (Nat × Int)) : Nat × Int := match l with
  | [] => (0, 0)
  | x :: t => t.foldl (fun a b => if b.2 < a.2 then b else a) x

/-- The highest member. -/
def maxMember (l : List (Nat × Int)) : Nat × Int := match l with
  | [] => (0, 0)
  | x :: t => t.foldl (fun a b => if a.2 < b.2 then b else a) x

/-- The electrical angle of a position (R263). -/
def Dev.theta (d : Dev) (c x : Nat) : Nat :=
  raw 32 (((x : Int) - d.obj (Obj.ENC_OFFSET c)) * d.obj (Obj.POLE_PAIRS c) * ((2 ^ 32 / max 1 (d.obj (Obj.COUNTS_PER_REV c)) : Nat) : Int))

/-! ## The repetitive controller's table (R277 to R279, R282) -/

/-- An entry of RC_TABLE; an entry not yet written is 0. -/
def Dev.rcEntry (d : Dev) (key j : Nat) : Int := sgn 24 (fieldAt (d.blob key) (3 * j) 3)

/-- RC_TABLE with an entry written. -/
def Dev.rcPut (d : Dev) (key len j : Nat) (v : Int) : Dev :=
  let t := d.blob key
  let t := t ++ List.replicate (3 * len - t.length) 0
  d.setBlob key (t.take (3 * j) ++ beBytes 3 (raw 24 v) ++ t.drop (3 * j + 3))

/-- The learnt value of an entry (R279), saturating. -/
def rcLearned (w : Nat → Int) (len j : Nat) (q0 q1 q2 : Int) (gain : Nat) (e : Int) : Int :=
  let at' := fun k => w (k % max len 1)
  narrS (q0 * at' j + q1 * at' (j + len - 1) + q1 * at' (j + 1) + q2 * at' (j + len - 2) + q2 * at' (j + 2) + gainAcc gain e)

/-! ## One pass -/

/-- What a pass of the servo library reads besides the dictionary: the state, x₁ and x₂, V₁, the feedback, the set-points, whether
the stage is on and whether this is a speed or a position run. -/
structure ServoIn where
  st : Servo
  x1 : Nat
  x2 : Nat
  v1 : Int
  fb : Fb
  sp : SetPoint
  on : Bool
  speed : Bool
  pos : Bool

/-- What the current stage gives. -/
structure CurrentOut where
  xd : Int
  xq : Int
  ied : Int
  ieq : Int
  iD : Int
  iQ : Int
  mD : Int
  mQ : Int
  limD : Nat
  limQ : Nat
  thP : Nat
  dutyA : Int
  dutyB : Int
  dutyC : Int
  top : Nat
  bottom : Nat
  /-- The argument of a branch record saturates (R237). -/
  argSat : Bool

/-- The current stage (R266, R267) (DEDUCED, log entry 55). -/
def Dev.currentStage (d : Dev) (c : Nat) (x : ServoIn) : CurrentOut :=
  let th1 := d.theta c x.x1
  let dth := sgn 32 (raw 32 ((th1 : Int) - d.theta c x.x2))
  let dq := sra dth 8
  let thP := raw 32 ((th1 : Int) + dth)
  let adv := sat24 ((d.obj (Obj.ANGLE_ADVANCE c) : Nat) * 262144)
  let thM := raw 32 ((th1 : Int) + sra (dq * adv) 13)
  let we := narrS (dq * 6588397 * 4)
  let sum := sat24 (x.fb.ib + x.fb.ic)
  let diff := sat24 (x.fb.ib - x.fb.ic)
  let ial := narrS (5592405 * x.fb.ia - 2796202 * sum)
  let ibe := narrS (4843165 * diff)
  let sn := tuSin (thP / 256)
  let cs := tuCos (thP / 256)
  let xd := integrate x.st.xd (d.obj (Obj.KI_I c)) x.st.ied
  let xq := integrate x.st.xq (d.obj (Obj.KI_I c)) x.st.ieq
  let iD := narrS (ial * cs + ibe * sn)
  let iQ := narrS (ibe * cs - ial * sn)
  let ed := sat24 (d.objI 24 (Obj.ID_DEMAND c) - iD)
  let eq := sat24 (x.st.iqStar - iQ)
  let dec := d.objB (Obj.DECOUPLE c)
  let kp := d.obj (Obj.KP_I c)
  let term := fun g v => if dec then gainAcc g v else 0
  let vd := narrS (acc56 (sra xd 1 + gainAcc kp ed - term (d.obj (Obj.L_Q c)) (narrS (we * iQ))))
  let vq := narrS (acc56 (sra xq 1 + gainAcc kp eq + term (d.obj (Obj.PSI_F c)) we + term (d.obj (Obj.L_D c)) (narrS (we * iD))))
  let r := tuRecip (max x.v1 (d.objI 24 (Obj.VDC_MIN c)))
  let arg := fun v => shiftI (v * r.1) r.2
  let lim := fun v m => limitTo (narrS (arg v)) (-m) m
  let mD := lim vd (d.objI 24 (Obj.MD_MAX c))
  let mQ := lim vq (d.objI 24 (Obj.MQ_MAX c))
  let snM := tuSin (thM / 256)
  let csM := tuCos (thM / 256)
  let al := mD.1 * csM - mQ.1 * snM
  let pa := narrS al
  let mbe := narrS (mD.1 * snM + mQ.1 * csM)
  let half := sat24 (-(sra pa 1))
  let beta := narrS (7264747 * mbe)
  let pb := sat24 (half + beta)
  let pc := sat24 (half - beta)
  let l := [(0, pa), (1, pb), (2, pc)]
  let top := maxMember l
  let bottom := minMember l
  let z := sat24 (4194304 - sra (sat24 (top.2 + bottom.2)) 1)
  { xd := xd, xq := xq, ied := if mD.2 = 0 then ed else 0, ieq := if mQ.2 = 0 then eq else 0, iD := iD, iQ := iQ, mD := mD.1,
    mQ := mQ.1, limD := mD.2, limQ := mQ.2, thP := thP, dutyA := sat24 (z + pa), dutyB := sat24 (z + pb), dutyC := sat24 (z + pc),
    top := top.1, bottom := bottom.1
    argSat := narrSat (arg vd) || narrSat (arg vq) || narrSat al || pb != half + beta || pc != half - beta }

/-- φ of the repetitive controller at the start of a cycle (R277). -/
def Dev.rcPhase (d : Dev) (c : Nat) (st : Servo) (x1 : Nat) : Nat :=
  let period : Int := max 1 (d.obj (Obj.RC_PERIOD c)) 
  if st.phiSet then (((st.phi : Int) + sgn 32 (raw 32 ((x1 : Int) - st.xphi))) % period).toNat
  else ((raw 32 ((x1 : Int) - d.obj (Obj.RC_ORIGIN c)) : Int) % period).toNat

/-- What a speed run gives. -/
structure SpeedOut where
  st : Servo
  rc : Option (Nat × Int)
  br : List Nat
  pub : List (Nat × Nat)
  winner : Nat
  argSat : Bool

/-- The limit loop in a member slot of a group: GROUP code (R270). -/
def Dev.loopIn (d : Dev) (c code : Nat) : Option Nat :=
  ((List.range 6).map (· + 1)).find? (fun l => d.obj (Obj.LIM_GROUP c l) == code)

/-- The error of a limit loop (R271). -/
def Dev.loopError (d : Dev) (c l : Nat) (iQ vdc nf : Int) : Int :=
  let y := match d.obj (Obj.LIM_VARIABLE c l) with
    | 0 => iQ
    | 1 => vdc
    | _ => nf
  let e := d.objI 24 (Obj.LIM_LIMIT c l) - y
  sat24 (if d.obj (Obj.LIM_POLARITY c l) = 0 then e else -e)

/-- The position, speed and competition stages of a speed run (R269 to R273, R277 to R279), after the current stage cs. -/
def Dev.speedRun (d : Dev) (c : Nat) (x : ServoIn) (st : Servo) (cs : CurrentOut) : SpeedOut :=
  let str := d.obj (Obj.STRUCTURE c)
  -- deferred integration
  let step := fun (me : Nat) (v : Int) (g : Nat) => if st.itTarget = me then integrate v g st.ie else v
  let xn := step 1 st.xn (d.obj (Obj.KI_N c))
  let xl := st.xl.zipIdx.map (fun p => step (2 + p.2) p.1 (d.obj (Obj.LIM_KI c (p.2 + 1))))
  -- position and speed stages
  let ep := clampI (-8388607) 8388607 (sgn 32 (raw 32 ((x.sp.pos : Int) - x.fb.pos)))
  let dmax := d.objI 24 (Obj.SPEED_DEMAND_MAX c)
  let kp := d.obj (Obj.KP_P c)
  let wanted := gainAcc (d.obj (Obj.KV_FF c)) x.sp.nff + shiftI (gainMant kp * ep) (gainShift kp + 23)
  let nStar := if str = 3 then (if x.pos then limitTo (narrS wanted) (-dmax) dmax else (st.nStar, 0))
    else if str = 2 then limitTo x.sp.nff (-dmax) dmax else (st.nStar, 0)
  let n := gainCount (d.obj (Obj.SPEED_SCALE c)) st.s
  let flt := d.objI 24 (Obj.SPEED_FILTER c)
  let nf := if flt = 0 then n else narrS (st.nf * 8388608 + flt * (n - st.nf))
  let en := sat24 (nStar.1 - nf)
  let aff := sat24 (x.sp.nff - st.nffPrev)
  -- repetitive controller
  let mode := d.obj (Obj.RC_MODE c)
  let len := d.obj (Obj.RC_LENGTH c)
  let key := Obj.RC_TABLE c
  let rc := st.rcLearn.map (fun p => (p.1, rcLearned (d.rcEntry key) len p.1 (d.objI 24 (Obj.RC_Q0 c)) (d.objI 24 (Obj.RC_Q1 c))
    (d.objI 24 (Obj.RC_Q2 c)) (d.obj (Obj.RC_GAIN c)) p.2))
  let table := fun k => match rc with
    | some (j, v) => if k = j then v else d.rcEntry key k
    | none => d.rcEntry key k
  let j := if mode = 1 then (st.rcJ + 1) % max len 1
    else if mode = 2 then st.phi * len / max 1 (d.obj (Obj.RC_PERIOD c)) else st.rcJ
  let lead := d.obj (Obj.RC_LEAD c)
  let k := if mode = 2 ∧ nf < 0 then (j + len - lead % max len 1) % max len 1 else (j + lead) % max len 1
  let om := d.objI 24 (Obj.RC_OUT_MAX c)
  let urc := if mode = 0 || !x.on then 0 else (limitTo (table k) (-om) om).1
  -- competition
  let own := intHigh xn * 8388608 + gainAcc (d.obj (Obj.KP_N c)) en + gainAcc (d.obj (Obj.KA c)) aff + urc * 8388608
  let cand := fun l => intHigh (getAt 0 xl (l - 1)) * 8388608 + gainAcc (d.obj (Obj.LIM_KP c l)) (d.loopError c l cs.iQ x.fb.vdc nf)
  let slots := fun base => ((List.range 3).map (· + 1)).filterMap (fun m => (d.loopIn c (base + m)).map (fun l => (m, l)))
  let mins := (0, if str = 1 then x.sp.analogue else narrS own) :: (slots 16).map (fun p => (p.1, narrS (cand p.2)))
  let w := minMember mins
  let maxs := (0, w.2) :: (slots 32).map (fun p => (p.1, narrS (cand p.2)))
  let v := maxMember maxs
  let iqMax := d.objI 24 (Obj.IQ_MAX c)
  let iq := limitTo v.2 (-iqMax) iqMax
  -- conditional integration
  let blocked := iq.1 != v.2 || (d.objB (Obj.FREEZE_ON_MOD c) && (cs.limD != 0 || cs.limQ != 0))
  let chosen : Option (Nat × Int) :=
    if blocked then none
    else
      let loop := if v.1 = 0 then (if w.1 = 0 then none else d.loopIn c (16 + w.1)) else d.loopIn c (32 + v.1)
      match loop with
      | some l => some (1 + l, d.loopError c l cs.iQ x.fb.vdc nf)
      | none => if v.1 = 0 ∧ w.1 = 0 ∧ str ≠ 1 then some (1, en) else none
  let target := match chosen with
    | some p => p.1
    | none => 0
  let learns := x.on && mode != 0 && !d.objB (Obj.RC_FREEZE c) && target = 1 &&
    (mode = 1 || (decide (d.objI 24 (Obj.RC_MIN_SPEED c) ≤ absI nf) && st.rcLastJ != some j))
  let ie := match chosen with
    | some p => p.2
    | none => 0
  let st := { st with xn := xn, xl := xl, nStar := nStar.1, s := 0, nLast := n, nf := nf, iqStar := iq.1, itTarget := target, ie := ie,
                      nffPrev := x.sp.nff, rcJ := j, rcLearn := if learns then some (j, en) else none, rcLearning := learns }
  let st := if learns then { st with rcLastJ := some j } else st
  let member := fun (l : List (Nat × Int)) (dflt : Int) m => match l.find? (fun p => p.1 == m) with
    | some p => raw 24 p.2
    | none => raw 24 dflt
  let loops := (List.range 6).foldl (fun s i => setBit s (3 + i) (target == 2 + i)) (if target = 1 then 4 else 0)
  let pub := [(Obj.IQ_DEMAND c, raw 24 iq.1), (Obj.SPEED c, raw 24 (if x.on then nf else n)), (Obj.SPEED_DEMAND c, raw 24 nStar.1),
      (Obj.CLAMPED c, b2n (iq.1 != v.2)), (Obj.RC_OUTPUT c, raw 24 urc), (Obj.INTEGRATING c, loops)]
    ++ (if x.pos && str == 3 then [(Obj.POSITION_DEMAND c, x.sp.pos), (Obj.POSITION_ERROR c, raw 32 (sgn 32 (raw 32 ((x.sp.pos : Int) - x.fb.pos))))] else [])
    ++ (List.range 4).map (fun m => (Obj.MIN_CANDIDATE c m, member mins 8388607 m))
    ++ (List.range 4).map (fun m => (Obj.MAX_CANDIDATE c m, member maxs (-8388608) m))
  { st := st, rc := rc, br := [w.1, v.1, iq.2] ++ (if x.pos then [nStar.2] else []), pub := pub, winner := v.1 * 16 + w.1
    argSat := (x.pos && str == 3 && narrSat wanted) || (str != 1 && narrSat own) || (slots 16 ++ slots 32).any (fun p => narrSat (cand p.2)) }

/-- The state with the stage off (R275); an update still due for the repetitive controller stays due (R279, R292). -/
def Dev.stageOff (d : Dev) (c : Nat) (st : Servo) : Servo :=
  { st with xd := 0, xq := 0, xn := d.objI 24 (Obj.SPEED_INT_PRELOAD c) * 16777216,
            xl := (List.range 6).map (fun l => d.objI 24 (Obj.LIM_INT_INIT c (l + 1)) * 16777216),
            ie := 0, ied := 0, ieq := 0, itTarget := 0, nf := st.nLast }

/-- A pass of the vendor servo library on given feedback; its branch list begins with whether an argument saturates (R267 to R279, R290, R293) (DESIGN CHOICE, log entry 21; DEDUCED, log entry 55). -/
def Dev.servoPass (d : Dev) (c : Nat) (x : ServoIn) : PassResult :=
  let st := { x.st with phi := d.rcPhase c x.st x.x1, xphi := x.x1, phiSet := true,
                        s := sat24 (x.st.s + sgn 32 (raw 32 ((x.fb.pos : Int) - x.x1))) }
  let cs := d.currentStage c x
  let st := { st with xd := cs.xd, xq := cs.xq, ied := cs.ied, ieq := cs.ieq }
  let r : SpeedOut := if x.speed then d.speedRun c x st cs else { st := st, rc := none, br := [], pub := [], winner := 0, argSat := false }
  let st := if x.on then r.st else d.stageOff c r.st
  let integrating := fun (old : Nat) => if x.on then setBit (setBit old 0 (cs.limD == 0)) 1 (cs.limQ == 0) else 0
  let pub := [(Obj.I_D c, raw 24 cs.iD), (Obj.I_Q c, raw 24 cs.iQ), (Obj.M_D c, raw 24 cs.mD), (Obj.M_Q c, raw 24 cs.mQ),
      (Obj.MOD_LIMITED c, b2n (cs.limD != 0) + 2 * b2n (cs.limQ != 0)), (Obj.ANGLE_E c, cs.thP),
      (Obj.X_D c, raw 24 (intHigh st.xd)), (Obj.X_Q c, raw 24 (intHigh st.xq)), (Obj.X_SPEED c, raw 24 (intHigh st.xn))]
    ++ st.xl.zipIdx.map (fun p => (Obj.X_LIMIT c p.2, raw 24 (intHigh p.1)))
    ++ r.pub.filter (fun p => p.1 != Obj.INTEGRATING c)
    ++ [(Obj.INTEGRATING c, integrating (match r.pub.find? (fun p => p.1 == Obj.INTEGRATING c) with
        | some p => p.2
        | none => d.obj (Obj.INTEGRATING c)))]
    ++ (if x.speed then [(Obj.WINNER c, r.winner)] else [])
  .servo st { dutyA := cs.dutyA, dutyB := cs.dutyB, dutyC := cs.dutyC, aux := d.obj (Obj.AUX_COMMAND c),
              carrier := d.obj (Obj.CARRIER_OFFSET c) } pub r.rc
    ([b2n (cs.argSat || r.argSat), cs.limD, cs.limQ, cs.top, cs.bottom] ++ r.br)

end Sys2Proof.Machine
end

