-- ==== Sys2Proof/Machine/Grid.lean ====
section
/-! DEFINITION. Machine/Grid.lean: the vendor grid-former library (R364 to R397). Quantities are Q2.22 per unit, integrators and
filters Q2.46 per unit, gains in gain form (R371); each assignment narrows once toward −∞ and saturates (DEDUCED, log entry 60). -/

namespace Sys2Proof.Machine

/-! ## Bases and conversions (R371) -/

/-- GF_STATE codes (R379). -/
abbrev gfOff : Nat := 0
/-- STARTING. -/
abbrev gfStarting : Nat := 1
/-- FORMING. -/
abbrev gfForming : Nat := 2
/-- SYNCING. -/
abbrev gfSyncing : Nat := 3
/-- PARALLEL. -/
abbrev gfParallel : Nat := 4
/-- STOPPING. -/
abbrev gfStopping : Nat := 5
/-- TRIPPED. -/
abbrev gfTripped : Nat := 6

/-- GF_STATE. -/
def Dev.gfState (d : Dev) : Nat := d.obj Obj.GF_STATE

/-- f_b in Hz. -/
def Dev.gfBase (d : Dev) : Nat := if d.obj Obj.GF_F_NOM = 1 then 60 else 50

/-- √2 × 2³⁰. -/
def sqrt2x30 : Int := 1518500249

/-- √3 × 2³⁰. -/
def sqrt3x30 : Int := 1859775393

/-- 2π × 2³⁰. -/
def twoPix30 : Int := 6746518852

/-- A voltage reading of full scale fs mV in Q2.22 per unit of V_b = √2 × GF_V_NOM. -/
def Dev.puVolt (d : Dev) (fs : Nat) (raw : Int) : Int :=
  sat24 (raw * fs * 2 ^ 30 / (2000 * (max 1 (d.obj Obj.GF_V_NOM) : Nat) * sqrt2x30))

/-- A current reading in Q2.22 per unit of I_b = √2 × S_b / (3 × GF_V_NOM). -/
def Dev.puAmp (d : Dev) (raw : Int) : Int :=
  sat24 (raw * d.obj (Obj.GF_FS 1) * (3 * d.obj Obj.GF_V_NOM : Nat) * 2 ^ 30 / (2000 * sqrt2x30 * (max 1 (d.obj Obj.GF_S_RATED) : Nat)))

/-- A sense value (R366, R421). -/
def Dev.sense (d : Dev) (p : Nat) : Int := d.objI 24 (Obj.SENSE_VALUE p)

/-- Whether the grid-former owns a sense port (R369). -/
def Dev.gfOwns (d : Dev) (p : Nat) : Bool := d.objB Obj.GF_ENABLE && bit (d.obj Obj.GF_SENSE_USE) p

/-- V_DC in mV, from its sense port. -/
def Dev.gfVdc (d : Dev) : Int := d.sense 8 * d.obj (Obj.GF_FS 2) / 8388608

/-- A per-unit object. -/
def Dev.pu (d : Dev) (k : Nat) : Int := d.objI 24 k

/-- A Q2.46 integrator narrowed to Q2.22. -/
def narrow46 (x : Int) : Int := sat24 (sra x 24)

/-- A Q2.46 value held in range. -/
def sat48 (x : Int) : Int := sat 48 x

/-- A filter step y + a × (x − y) with a in Q1.23, on Q2.46 values. -/
def filter46 (a x y : Int) : Int := sat48 (y + sra (a * (x - y)) 23)

/-- The coefficient 2π × f × T in Q1.23. -/
def Dev.omegaT (d : Dev) (f : Nat) : Int := sat24 (twoPix30 * f * d.cyc.len * 8388608 / (1000000000 * 2 ^ 30))

/-- A gain times a Q2.22 value, as Q2.46. -/
def gain46 (g : Nat) (x : Int) : Int := sra (gainScaled g * x) 15

/-! ## Estimators (R372, R380, R384) -/

/-- Angle in Q1.23 half turns and amplitude of three phase voltages (Clarke without the zero sequence, then ATAN2). -/
def clarke (a b c : Int) : Int × Int :=
  let al := sat24 ((2 * a - b - c) / 3)
  let be := sat24 ((b - c) * 2 ^ 30 / sqrt3x30)
  (tuAngle be al, tuMag be al)

/-- The low-passed frequency from the change of angle in a cycle, Q2.46 per unit. -/
def Dev.freqStep (d : Dev) (old angle : Nat) (f : Int) : Int :=
  let now := sgn 24 (raw 24 ((angle : Int) - old)) * 1000000000 * 2 ^ 22 / (d.gfBase * d.cyc.len : Nat)
  filter46 (d.omegaT 10) (sat48 now) f

/-- One step of the generalised integrator: α, β and the signal (R372) (DEDUCED, log entry 60). -/
def Dev.sogi (d : Dev) (w al be x : Int) : Int × Int :=
  let e := sra (gainScaled (d.obj Obj.GF_SOGI_GAIN) * (x * 2 ^ 24 - al)) 39
  let al := sat48 (al + sra (w * (e - be)) 23)
  (al, sat48 (be + sra (w * al) 23))

/-! ## Lost half-bridges (R378) -/

/-- Slots of the inverter: leg L, bridge b. -/
def Dev.gfSlots (d : Dev) : List Nat :=
  (List.range 4).flatMap (fun l => (List.range (d.obj Obj.GF_BRIDGES)).map (fun b => 4 * l + b))

/-- A used slot whose port reports a fault or link loss (DEDUCED, log entry 60). -/
def Dev.slotLost (d : Dev) (s : Nat) : Bool := [4, 5, 6].contains (d.legTelWord s 2 % 256)

/-- A slot whose port reports a fault or link loss now: a latched FAULT in its telemetry, or LOST. -/
def Dev.slotFaulty (d : Dev) (s : Nat) : Bool :=
  let n := d.obj (Obj.HB_PORT s)
  decide (n < 20) && (bit (d.obj (Obj.TELEMETRY n)) 51 || (d.leg n).lost)

/-- The running bridges of a leg under a set of slots held OFF. -/
def Dev.running (d : Dev) (off : List Bool) (l : Nat) : Nat :=
  ((List.range (d.obj Obj.GF_BRIDGES)).filter (fun b => !getAt false off (4 * l + b))).length

/-! ## The pass -/

/-- A value moved toward zero or a step, no faster than lim. -/
def toward (x target lim : Int) : Int := x + clampI (-lim) lim (target - x)

/-- swing_free (R373). -/
def Grid.free (g : Grid) (state : Nat) : Bool := state != gfStarting && g.limitedAt.isNone

/-- What starts to hold is timed from now on; what stops holding has no time. -/
def since (now : Nat) (holds : Bool) (t : Option Nat) : Option Nat :=
  if !holds then none else match t with
    | some x => some x
    | none => some now

/-- The phase part for one phase (R375): r1, r2, di_f, e, istar clamped, ie, vinv. -/
structure PhaseOut where
  r1 : Int
  r2 : Int
  diF : Int
  err : Int
  clamped : Bool
  vinv : Int

/-- The phase part. x is the phase, δ its displacement in 2⁻²⁴ turns. The first duties after OFF are those of vadv alone: the centre of
the duty range at a black start, the measured voltage at a start on a live bus (R383, R384) (DEDUCED, log entry 60). -/
def Dev.phasePart (d : Dev) (g : Grid) (w : Int) (x : Nat) (v i ipk urc : Int) : PhaseOut :=
  let δ : Nat := x * 16777216 / 3
  let th := (g.th / 2 ^ 24 + 16777216 - δ) % 16777216
  let thAdv := ((g.th + g.dth * 3 / 2) % 2 ^ 48 / 2 ^ 24 + 16777216 - δ) % 16777216
  let r2 := getAt 0 g.r2 x
  let r1 := sat48 (getAt 0 g.r1 x + sra (w * (gain46 (d.obj Obj.GF_K_RV) (getAt 0 g.iePhase x) - r2)) 23)
  let r2 := sat48 (r2 + sra (w * r1) 23)
  let di := filter46 (d.omegaT (d.obj Obj.GF_VI_FILTER)) ((i - getAt 0 g.iPrev x) * 16777216) (getAt 0 g.diF x)
  let xv := -(-(di * d.pu Obj.GF_X_V * 1000000000 * 2 ^ 7) / (twoPix30 * (d.gfBase * d.cyc.len : Nat)))
  let vref := sat24 (sra (g.e * tuCos th - d.pu Obj.GF_R_V * i * 2 - xv) 23)
  let err := sat24 (vref - v)
  let wanted := sra (gain46 (d.obj Obj.GF_K_PV) err + r1 + urc * 16777216) 24
  let star := limitTo wanted (-ipk) ipk
  let vadv := g.e * tuCos thAdv * 2
  { r1 := r1, r2 := r2, diF := di, err := err, clamped := star.2 != 0,
    vinv := if g.first then sat24 (sra vadv 24) else sat24 (sra (vadv + gain46 (d.obj Obj.GF_K_PI) (star.1 - i)) 24) }

/-- The common part up to E (R372 to R374). amps are the four current amplitudes, vdc is per unit. Answers the state and c[0]. -/
def Dev.commonPart (d : Dev) (g : Grid) (st : Nat) (p q vdc : Int) (amps : List Int) (iLim nLim : Int) : Grid × Int :=
  let a := d.omegaT (d.obj Obj.GF_PQ_FILTER)
  let len : Int := d.cyc.len
  let pf := filter46 a (p * 16777216) g.pf
  let qf := filter46 a (q * 16777216) g.qf
  let ramp : Int := max 1 (d.obj Obj.GF_BS_RAMP_TIME * 1000000)
  let part := min ramp ((d.now - g.stopFrom : Nat) : Int)
  let wset := d.pu Obj.GF_F_SET * 16777216 + g.wSet
  let mp := max 1 (gainScaled (d.obj Obj.GF_M_P))
  let vset := d.pu Obj.GF_V_SET * 16777216 + g.vSet
  let nq := max 1 (gainScaled (d.obj Obj.GF_N_Q))
  let unloading := st = gfStopping && g.unload
  let p0 := if unloading then g.pSet + ((g.w - wset) * 2 ^ 39 / mp - g.pSet) * part / ramp else d.pu Obj.GF_P_SET * 16777216
  let q0 := if unloading then g.qSet + (((g.ownAmp * 16777216 - vset) * 2 ^ 39 / nq) - g.qSet) * part / ramp
    else d.pu Obj.GF_Q_SET * 16777216
  let free := g.free st
  let bracket := p0 - pf - (g.w - wset) * 2 ^ 39 / mp - sra (gainScaled (d.obj Obj.GF_D) * (g.w - g.wd)) 39
  let w := if st = gfStarting then d.pu Obj.GF_F_SET * 16777216 else if free then sat48 (g.w + bracket * len * 2 ^ 38 / (1000000000 * max 1 (gainScaled (d.obj Obj.GF_H)))) else g.w
  let wd := if free then sat48 (g.wd + (w - g.wd) * len * 2 ^ 39 / (1000000000 * max 1 (gainScaled (d.obj Obj.GF_T_D)))) else g.wd
  let dth := raw 48 (w * 4 * d.gfBase * len / 1000000000)
  let emax := d.pu Obj.GF_E_MAX
  let droop := clampI (d.pu Obj.GF_E_MIN) emax
    (sra (vset - sra (gainScaled (d.obj Obj.GF_N_Q) * (qf - q0)) 39) 24)
  let ramped := st = gfStarting || (st = gfStopping && !g.unload)
  let e0 := if ramped then min droop (sra g.eRamp 24) else droop
  let ki := fun (m : Nat) => d.obj (if m = 3 then Obj.GF_KI_DC else Obj.GF_KI_IL)
  let xl := g.xl.zipIdx.map (fun x => if g.itTarget = x.2 + 1 then sat48 (x.1 + gain46 (ki (x.2 + 1)) g.ie) else x.1)
  let amax := max (max (getAt 0 amps 0) (getAt 0 amps 1)) (getAt 0 amps 2)
  let errs := [0, sat24 (iLim - amax), sat24 (nLim - getAt 0 amps 3), sat24 (vdc - d.pu Obj.GF_VDC_LIM)]
  let cand := fun (m : Nat) =>
    sat24 (sra (getAt 0 xl (m - 1) + gain46 (d.obj (if m = 3 then Obj.GF_KP_DC else Obj.GF_KP_IL)) (getAt 0 errs m)) 24)
  let win := minMember [(0, e0), (1, cand 1), (2, cand 2), (3, cand 3)]
  let win := if g.first then (0, g.e) else win
  let e := limitTo win.2 0 emax
  let integrates := win.1 != 0 && e.2 = 0
  ({ g with pf := pf, qf := qf, w := w, wd := wd, dth := dth, th := (g.th + dth) % 2 ^ 48, xl := xl, win := win.1, e := e.1,
            ie := if integrates then getAt 0 errs win.1 else 0, itTarget := if integrates then win.1 else 0 }, e0)

/-- Modulation (R376): d_A, d_B, d_C, d_N and MOD_LIMITED, from the three voltages and V_DC per unit. -/
def Dev.modulate (d : Dev) (va vb vc vdc : Int) : List Int × Bool :=
  let r := tuRecip vdc
  let m := [va, vb, vc].map (fun v => narrS (shiftI (v * r.1) r.2))
  let lo := d.objI 24 Obj.GF_DUTY_MIN
  let hi := d.objI 24 Obj.GF_DUTY_MAX
  let top := m.foldl max (getAt 0 m 0)
  let bot := m.foldl min (getAt 0 m 0)
  let limited := decide (hi - lo < top - bot)
  let m := if limited then m.map (fun x => x * (hi - lo) / (top - bot)) else m
  let top := m.foldl max (getAt 0 m 0)
  let bot := m.foldl min (getAt 0 m 0)
  let n := clampI lo hi (sra (hi + lo - top - bot) 1)
  (m.map (fun x => clampI lo hi (n + x)) ++ [n], limited)

/-- The pass of the grid-former library (R372 to R378, R385 to R388, R392, R393) (DESIGN CHOICE, log entry 21; DEDUCED, log entry 60). -/
def Dev.gridPass (d : Dev) (g : Grid) : PassResult :=
  let st := d.gfState
  let on := st != gfOff && st != gfTripped
  -- measurement
  let v := [0, 1, 2].map (fun p => d.puVolt (d.obj (Obj.GF_FS 0)) (d.sense p))
  let i := [4, 5, 6, 7].map (fun p => d.puAmp (d.sense p))
  let vdc := d.puVolt (d.obj (Obj.GF_FS 2)) (d.sense 8)
  let va := getAt 0 v 0
  let vb := getAt 0 v 1
  let vc := getAt 0 v 2
  let ia := getAt 0 i 0
  let ib := getAt 0 i 1
  let ic := getAt 0 i 2
  let p := sat24 ((va * ia + vb * ib + vc * ic) * 2 / (3 * 2 ^ 22))
  let q := sat24 (((vb - vc) * ia + (vc - va) * ib + (va - vb) * ic) * 2 * 2 ^ 8 / (3 * sqrt3x30))
  let own := clarke va vb vc
  let ownFreq := d.freqStep g.ownAngle (raw 24 own.1) g.ownFreq
  let hasU := d.gfOwns 10 && d.gfOwns 11
  let ub := d.puVolt (d.obj (Obj.GF_FS 4)) (d.sense 10)
  let uc := d.puVolt (d.obj (Obj.GF_FS 4)) (d.sense 11)
  let ua := (2 * ub + uc) / 3
  let ubc := (uc - ub) / 3
  let util := if hasU then clarke ua ubc (-ua - ubc) else (0, 0)
  let utilFreq := if hasU then d.freqStep g.utilAngle (raw 24 util.1) g.utilFreq else 0
  let w23 := sat24 (sra (g.dth * twoPix30) 55)
  let vne := if d.gfOwns 3 then d.puVolt (d.obj (Obj.GF_FS 0)) (d.sense 3) else 0
  let sg := (i ++ v ++ [vne]).zipIdx.map (fun x => d.sogi w23 (getAt 0 g.sogiA x.2) (getAt 0 g.sogiB x.2) x.1)
  let amps := sg.map (fun x => tuMag (narrow46 x.2) (narrow46 x.1))
  -- lost bridges
  let off := (List.range 16).map (fun s => getAt false g.slotOff s || (on && d.gfSlots.contains s && d.slotLost s))
  let lostNow := (List.range 16).filter (fun s => getAt false off s && !getAt false g.slotOff s)
  let nMin := if on then (List.range 4).foldl (fun m l => min m (d.running off l)) g.nMin else g.nMin
  let bridges := max 1 (d.obj Obj.GF_BRIDGES)
  let eff := fun (k : Nat) => d.pu k * nMin / bridges
  -- set-points in SYNCING (R385)
  let len : Int := d.cyc.len
  let rate := fun (perSecond : Int) => perSecond * len / 1000000000
  let kf := fun (k : Int) (x : Int) => k * x * len / 1000000000
  let wl := rate (sra (2 * 2 ^ 46) 0 / 1000)
  let vl := rate (5 * 2 ^ 46 / 100)
  let g := if st = gfSyncing then
      { g with wSet := g.wSet + clampI (-wl) wl (kf 2 (g.utilFreq + d.pu Obj.GF_SC_SLIP * 16777216 - g.w)),
               vSet := g.vSet + clampI (-vl) vl (kf 5 ((g.utilAmp - g.ownAmp) * 16777216)) }
    else { g with wSet := toward g.wSet 0 wl, vSet := toward g.vSet 0 vl }
  -- repetitive learning deferred from the last cycle (R377)
  let rlen := max 1 (d.obj Obj.GF_RC_LENGTH)
  let learned : List (Nat × Nat × Int) := match g.rcLearn with
    | none => []
    | some (j, l) => l.zipIdx.filterMap (fun e => e.1.map (fun err => (e.2, j, rcLearned (d.rcEntry (Obj.GF_RC_TABLE e.2)) rlen j
        (d.objI 24 (Obj.GF_RC_Q 0)) (d.objI 24 (Obj.GF_RC_Q 1)) (d.objI 24 (Obj.GF_RC_Q 2)) (d.obj Obj.GF_RC_GAIN) err)))
  let table := fun (x k : Nat) => match learned.find? (fun e => e.1 == x && e.2.1 == k) with
    | some e => e.2.2
    | none => d.rcEntry (Obj.GF_RC_TABLE x) k
  -- the law
  let free := g.free st
  let c := if on then d.commonPart g st p q vdc amps (eff Obj.GF_I_LIM) (eff Obj.GF_I_N_LIM) else (g, 0)
  let g := c.1
  let j := g.th * rlen / 2 ^ 48
  let om := d.pu Obj.GF_RC_OUT_MAX
  let rc := d.objB Obj.GF_RC_ENABLE
  let urc := fun x => if rc then (limitTo (sra (table x ((j + d.obj Obj.GF_RC_LEAD) % rlen)) 0) (-om) om).1 else 0
  let w23 := sat24 (sra (g.dth * twoPix30) 55)
  let ph := (List.range 3).map (fun x => d.phasePart g w23 x (getAt 0 v x) (getAt 0 i x) (eff Obj.GF_I_PEAK) (urc x))
  let clampAny := on && ph.any (·.clamped)
  let mod := d.modulate (getAt 0 (ph.map (·.vinv)) 0) (getAt 0 (ph.map (·.vinv)) 1) (getAt 0 (ph.map (·.vinv)) 2) vdc
  let limitedNow := on && (g.win != 0 || clampAny)
  let period := 1000000000 / d.gfBase
  let learns := rc && on && [gfForming, gfSyncing, gfParallel].contains st && free && !limitedNow
    && decide (g.freeFrom + period ≤ d.now) && g.rcLastJ != some j
  -- utility, station, DC and current conditions
  let utilOk := hasU && decide (d.pu Obj.GF_U_V_MIN ≤ util.2) && decide (util.2 ≤ d.pu Obj.GF_U_V_MAX)
    && decide (d.pu Obj.GF_U_F_MIN * 16777216 ≤ utilFreq) && decide (utilFreq ≤ d.pu Obj.GF_U_F_MAX * 16777216)
  let utilFrom := since d.now utilOk g.utilFrom
  let okTime := match utilFrom with
    | some t => (d.now - t) / 1000000000
    | none => 0
  let dphi := sgn 24 (raw 24 (util.1 - own.1))
  let ahead := dphi + sra ((utilFreq - ownFreq) * (d.gfBase * d.obj Obj.GF_SC_CLOSE_TIME : Nat) / 1000) 22
  let conds := st = gfSyncing && decide (d.obj Obj.GF_SC_UTIL_TIME ≤ okTime) && utilOk
    && decide (absI (util.2 - own.2) ≤ d.pu Obj.GF_SC_DV) && decide (absI (utilFreq - ownFreq) ≤ d.pu Obj.GF_SC_DF * 16777216)
    && decide (absI ahead * 360 ≤ (d.obj Obj.GF_SC_DPHI * 16777216 : Nat))
  let below := fun (n : Nat) => st = gfParallel && decide (own.2 < d.pu (Obj.GF_RT_V n))
  let vdcMv := d.gfVdc
  let isum := absI (ia + ib + ic + getAt 0 i 3)
  let ramp := fun (e : Int) (up : Bool) =>
    let whole := if up then d.pu Obj.GF_V_SET * 16777216 else g.eStop
    let part := whole * len / (max 1 (d.obj Obj.GF_BS_RAMP_TIME) * 1000000 : Nat)
    if up then min whole (e + part) else max 0 (e - part)
  let eRamp := if st = gfStarting then (if g.win = 0 then ramp g.eRamp true else g.eRamp)
    else if st = gfStopping && !g.unload then ramp g.eRamp false else g.eRamp
  let g' : Grid :=
    { g with r1 := if on then ph.map (·.r1) else g.r1, r2 := if on then ph.map (·.r2) else g.r2, diF := ph.map (·.diF), iPrev := i,
             iePhase := ph.map (fun x => if x.clamped || !on then 0 else x.err), sogiA := sg.map (·.1), sogiB := sg.map (·.2),
             ownAngle := raw 24 own.1, ownFreq := ownFreq, ownAmp := own.2, utilAngle := raw 24 util.1, utilFreq := utilFreq,
             utilAmp := util.2, eRamp := eRamp,
             stallNs := if st = gfStarting && g.win != 0 then g.stallNs + d.cyc.len else g.stallNs,
             settleFrom := since d.now (st = gfStarting && decide (d.pu Obj.GF_V_SET * 16777216 ≤ eRamp)) g.settleFrom,
             limitedAt := if limitedNow then some d.now else if on then g.limitedAt else none,
             limitingFrom := if limitedNow then since d.now true g.limitingFrom else if on then g.limitingFrom else none,
             freeFrom := if limitedNow || st = gfStarting || !on then d.now else g.freeFrom,
             utilFrom := utilFrom, syncFrom := since d.now conds g.syncFrom,
             lostFrom := since d.now (st = gfParallel && hasU && !utilOk) g.lostFrom,
             rtFrom := (List.range 4).map (fun n => since d.now (below n) (getAt none g.rtFrom n)),
             dcLowFrom := since d.now (on && decide (vdcMv < d.obj Obj.GF_VDC_TRIP_LOW)) g.dcLowFrom,
             dcHighFrom := since d.now (on && decide ((d.obj Obj.GF_VDC_TRIP_HIGH : Int) < vdcMv)) g.dcHighFrom,
             isum := if on && decide (d.pu Obj.GF_ISUM_LIMIT < isum) then g.isum + 1 else 0,
             permit := g.permit && conds, utilOkRaised := g.utilOkRaised && utilOk, slotOff := off, nMin := nMin,
             rcLearn := if learns then some (j, ph.map (fun x => if x.clamped then none else some x.err)) else none,
             rcLastJ := if learns then some j else g.rcLastJ, first := g.first && !on }
  let flags := [st = gfStarting && g'.win != 0, clampAny, g'.limitingFrom.isSome, on && !(g'.free st), g'.permit, g'.tieOpen,
    d.objB Obj.GF_TIE, utilOk, mod.2 && on, learns, off.any id].zipIdx.foldl (fun f x => setBit f x.2 x.1) 0
  let g' := { g' with flags := flags }
  let dead := on && (List.range 4).any (fun l => d.running off l = 0)
  let legs := (List.range 16).flatMap (fun s =>
    let l := s / 4
    let b := s % 4
    let runs := on && !dead && decide (b < bridges) && !getAt false off s
    [(4 * s, b2n runs), (4 * s + 1, if runs then raw 24 (getAt 0 mod.1 l) else 0),
     (4 * s + 2, if runs then (65536 * b / bridges + l * d.obj Obj.GF_LEG_STAGGER) % 65536 else 0), (4 * s + 3, 0)])
  let mHz := fun (f : Int) => raw 32 (sra (f * (d.gfBase * 1000 : Nat)) 46)
  let pub := [(Obj.GF_ROTOR_FREQ, mHz g'.w), (Obj.GF_ROTOR_ANGLE, g'.th / 65536), (Obj.GF_P, raw 32 (narrow46 g'.pf)),
      (Obj.GF_Q, raw 32 (narrow46 g'.qf)), (Obj.GF_E_DROOP, raw 32 c.2), (Obj.GF_E, raw 32 g'.e), (Obj.GF_WINNER, g'.win),
      (Obj.GF_FLAGS, flags), (Obj.GF_VDC, raw 32 vdcMv),
      (Obj.GF_IDC, if d.gfOwns 9 then raw 32 (d.sense 9 * d.obj (Obj.GF_FS 3) / 8388608) else 0),
      (Obj.GF_V_NE, raw 32 (if d.gfOwns 3 then getAt 0 amps 7 else 0)), (Obj.GF_U_FREQ, mHz utilFreq), (Obj.GF_U_AMP, raw 32 util.2),
      (Obj.GF_DELTA_V, raw 32 (util.2 - own.2)), (Obj.GF_DELTA_F, mHz (utilFreq - ownFreq)),
      (Obj.GF_DELTA_PHI, raw 32 (dphi * 36000 / 16777216)), (Obj.GF_UTIL_OK_TIME, min okTime (2 ^ 32 - 1))]
    ++ (List.range 4).map (fun n => (Obj.GF_AMP n, raw 32 (getAt 0 amps n)))
    ++ (List.range 3).map (fun n => (Obj.GF_V_AMP n, raw 32 (getAt 0 amps (4 + n))))
  let events := (if limitedNow && g.limitingFrom.isNone then [(0xB2, g'.win + 256 * b2n clampAny)] else [])
    ++ lostNow.map (fun s => (0xB8, s + 256 * d.obj (Obj.HB_PORT s)))
    ++ (if g.permit && !conds then [(0xB4, 0)] else [])
  .grid g' legs pub learned events (if dead then 7 else 0)

/-! ## Trips and states (R379 to R390) -/

/-- GF_STATE changed, with its event. -/
def Dev.setGf (d : Dev) (st : Nat) : Dev :=
  if d.gfState = st then d else (d.setObj Obj.GF_STATE st).raise 0xB0 (d.gfState * 256 + st)

/-- Every grid-former slot requested OFF. -/
def Dev.gfLegsOff (d : Dev) : Dev := { d with legReqs := [] }

/-- SYNC_PERMIT falls when the state leaves SYNCING (R386, R397). -/
def Dev.dropPermit (d : Dev) : Dev :=
  if d.gf.permit then ({ d with gf := { d.gf with permit := false } }).raise 0xB4 0 else d

/-- A trip (R389); TIE_OPEN_REQUEST waits for GF_TIE (R387). -/
def Dev.gfTrip (d : Dev) (cause : Nat) : Dev :=
  if d.gfState = gfOff ∨ d.gfState = gfTripped then d
  else
    let d := (d.gfLegsOff.setObj Obj.GF_TRIP_CAUSE cause).raise 0xB1 cause
    d.dropPermit.setGf gfTripped

/-- Whether a trip cause's condition is present (R389: CLEAR_TRIP). A trip for lost legs stays while some leg has no bridge that reports
neither fault nor link loss, a trip for missed commits while context 128 still misses them (DEDUCED, log entry 60). -/
def Dev.gfCausePresent (d : Dev) (cause : Nat) : Bool :=
  match cause with
  | 1 => decide (d.gfVdc < d.obj Obj.GF_VDC_TRIP_LOW)
  | 2 => decide ((d.obj Obj.GF_VDC_TRIP_HIGH : Int) < d.gfVdc)
  | 3 => decide (d.pu Obj.GF_ISUM_LIMIT < absI (([4, 5, 6, 7].map (fun p => d.puAmp (d.sense p))).foldl (· + ·) 0))
  | 4 => decide (d.obj Obj.GF_MISS_LIMIT ≤ (getAt initAxis d.axes 128).miss)
  | 7 => (List.range 4).any (fun l => (List.range (d.obj Obj.GF_BRIDGES)).all (fun b => d.slotFaulty (4 * l + b)))
  | 8 => d.fastPorts.any (fun p => (d.fastLegs [p]).any (fun n => (d.slotOf n).isSome))
  | _ => false

/-- The amplitude and frequency of the own voltage lie in the utility window (R380). -/
def Dev.ownInWindow (d : Dev) : Bool :=
  decide (d.pu Obj.GF_U_V_MIN ≤ d.gf.ownAmp) && decide (d.gf.ownAmp ≤ d.pu Obj.GF_U_V_MAX)
    && decide (d.pu Obj.GF_U_F_MIN * 16777216 ≤ d.gf.ownFreq) && decide (d.gf.ownFreq ≤ d.pu Obj.GF_U_F_MAX * 16777216)

/-- The condition of a GF_COMMAND (R380). -/
def Dev.gfCondition (d : Dev) (cmd : Nat) : Bool :=
  let st := d.gfState
  let start := st = gfOff && d.state = stRun && d.objB Obj.GF_ENABLE && decide ((d.obj Obj.GF_VDC_START_MIN : Int) ≤ d.gfVdc)
  match cmd with
  | 1 => start && !d.objB Obj.GF_TIE && decide (d.gf.ownAmp < 419430)
  | 2 => start && d.ownInWindow
  | 3 => st = gfForming && !d.objB Obj.GF_TIE && d.gfOwns 10 && d.gfOwns 11
  | 4 => st = gfSyncing
  | 5 => [gfStarting, gfForming, gfSyncing, gfParallel].contains st
  | 6 => st = gfTripped && !d.gfCausePresent (d.obj Obj.GF_TRIP_CAUSE)
  | _ => false

/-- What every change out of OFF sets (R374, R378). -/
def Dev.gfFresh (d : Dev) : Grid :=
  let emax := d.pu Obj.GF_E_MAX * 16777216
  { d.gf with xl := [emax, emax, emax], ie := 0, itTarget := 0, r1 := [0, 0, 0], r2 := [0, 0, 0], iePhase := [0, 0, 0], pf := 0, qf := 0,
              wSet := 0, vSet := 0, limitedAt := none, limitingFrom := none, freeFrom := d.now, settleFrom := none, stallNs := 0,
              slotOff := List.replicate 16 false, nMin := d.obj Obj.GF_BRIDGES, permit := false, win := 0,
              rcLearn := none, rcLastJ := none, unload := false, running := true, first := true }

/-- A GF_COMMAND at its boundary (R380 to R384, R389) (DEDUCED, log entry 60). -/
def Dev.gfExecute (d : Dev) (cmd : Nat) : Dev :=
  if !d.gfCondition cmd then d.raise 0xB0 (d.gfState * 257)
  else match cmd with
  | 1 =>
    let f := d.pu Obj.GF_F_SET * 16777216
    ({ d with gf := { d.gfFresh with th := 0, w := f, wd := f, eRamp := 0, e := 0,
                                     dth := raw 48 (f * 4 * d.gfBase * d.cyc.len / 1000000000) } }).setGf gfStarting
  | 2 =>
    let w := d.gf.ownFreq
    let d := { d with gf := { d.gfFresh with th := d.gf.ownAngle * 2 ^ 24, w := w, wd := w, e := d.gf.ownAmp,
                                             dth := raw 48 (w * 4 * d.gfBase * d.cyc.len / 1000000000) } }
    d.setGf (if d.objB Obj.GF_TIE then gfParallel else gfForming)
  | 3 => d.setGf gfSyncing
  | 4 => (Dev.dropPermit { d with gf := { d.gf with syncFrom := none } }).setGf gfForming
  | 5 =>
    let unload := d.gfState = gfParallel
    let e := d.gf.e * 16777216
    (Dev.dropPermit { d with gf := { d.gf with unload := unload, stopFrom := d.now, eRamp := e, eStop := e,
                                               pSet := d.pu Obj.GF_P_SET * 16777216,
                                               qSet := d.pu Obj.GF_Q_SET * 16777216 } }).setGf gfStopping
  | _ =>
    let d := (d.gfSlots.map (fun s => d.obj (Obj.HB_PORT s))).foldl (fun d n =>
      if n < 20 ∧ (d.legState n = 4 ∨ d.legState n = 5) then (if d.fastClear n then d.legEnable n else d) else d) d
    (d.setObj Obj.GF_TRIP_CAUSE 0).setGf gfOff

/-- A change of GF_TIE at its boundary (R381, R387). -/
def Dev.gfTie (d : Dev) (closed : Bool) : Dev :=
  let st := d.gfState
  let d := d.setObjB Obj.GF_TIE closed
  let d := if closed then d else { d with gf := { d.gf with tieOpen := false } }
  if closed then
    if st = gfSyncing then d.dropPermit.setGf gfParallel
    else if st = gfForming ∨ st = gfStarting then (d.raise 0xB7 st).setGf gfParallel
    else d
  else if st = gfParallel then d.setGf gfForming else d

/-- The grid-former's legs go OFF (R382, R379). -/
def Dev.gfOffNow (d : Dev) : Dev := (Dev.dropPermit { d.gfLegsOff with gf := { d.gf with running := false } }).setGf gfOff

/-- BS_SETTLE_DONE (R383). -/
def Dev.bsSettleDone (d : Dev) : Dev :=
  match d.gf.settleFrom with
  | some t => if d.gfState = gfStarting ∧ t + d.obj Obj.GF_BS_SETTLE * 1000000 ≤ d.now then
      ({ d with gf := { d.gf with wd := d.gf.w } }).setGf gfForming else d
  | none => d

/-- STALL (R383) (DEDUCED, log entry 60). -/
def Dev.gfStall (d : Dev) : Dev :=
  if d.gfState = gfStarting ∧ d.obj Obj.GF_BS_STALL_MAX * 1000000 < d.gf.stallNs
  then (d.raise 0xBA (d.gf.stallNs / 1000000)).gfTrip 6 else d

/-- RT_RELEASE_EXPIRY: swing_free becomes 1 again; in STARTING it stays 0, and LIMITING stays set (R373, R388, R393). -/
def Dev.rtRelease (d : Dev) : Dev :=
  match d.gf.limitedAt with
  | none => d
  | some t =>
    if d.gfState = gfStarting ∨ d.now < t + d.obj Obj.GF_RT_RELEASE * 1000000 then d
    else
      let ms := match d.gf.limitingFrom with
        | some f => (d.now - f) / 1000000
        | none => 0
      let d := { d with gf := { d.gf with limitedAt := none, limitingFrom := none, freeFrom := d.now,
                                          flags := setBit (setBit d.gf.flags 2 false) 3 false } }
      d.raise 0xB3 (min ms (2 ^ 32 - 1))

/-- SYNC_PERMIT (R386). -/
def Dev.syncPermit (d : Dev) : Dev :=
  match d.gf.syncFrom with
  | some t => if d.gfState = gfSyncing ∧ !d.gf.permit ∧ t + d.obj Obj.GF_SC_TIME * 1000000 ≤ d.now then
      ({ d with gf := { d.gf with permit := true } }).raise 0xB4 1 else d
  | none => d

/-- UTILITY_OK (R386). -/
def Dev.utilityOk (d : Dev) : Dev :=
  match d.gf.utilFrom with
  | some t => if !d.gf.utilOkRaised ∧ t + d.obj Obj.GF_SC_UTIL_TIME * 1000000000 ≤ d.now then
      ({ d with gf := { d.gf with utilOkRaised := true } }).raise 0xB6 0 else d
  | none => d

/-- The first RT_CURVE point violated for its time (R387). -/
def Dev.rtViolated (d : Dev) : Option Nat :=
  (List.range 4).find? (fun n => match getAt none d.gf.rtFrom n with
    | some t => decide (t + d.obj (Obj.GF_RT_T n) * 1000000 < d.now)
    | none => false)

/-- UTILITY_LOST (R387). -/
def Dev.utilityLost (d : Dev) : Dev :=
  if d.gfState != gfParallel || d.gf.tieOpen then d
  else
    let window := match d.gf.lostFrom with
      | some t => decide (t + 100000000 ≤ d.now)
      | none => false
    if window then ({ d with gf := { d.gf with tieOpen := true } }).raise 0xB5 1
    else match d.rtViolated with
      | some n => ({ d with gf := { d.gf with tieOpen := true } }).raise 0xB5 ((n + 1) * 256 + 2)
      | none => d

/-- GF_STOP_DONE (R382). -/
def Dev.gfStopDone (d : Dev) : Dev :=
  let small := fun (x : Int) => decide (absI (narrow46 x) < 83886)
  let ramp := d.obj Obj.GF_BS_RAMP_TIME * 1000000
  if d.gfState != gfStopping then d
  else if d.gf.unload then
    if (small d.gf.pf && small d.gf.qf) || decide (d.gf.stopFrom + 2 * ramp ≤ d.now) then d.gfOffNow else d
  else if d.gf.eRamp = 0 then d.gfOffNow else d

/-- A trip that a condition held for a time decides (R389). -/
def Dev.gfTripAfter (d : Dev) (t : Option Nat) (ns cause : Nat) : Dev :=
  match t with
  | some x => if x + ns ≤ d.now then d.gfTrip cause else d
  | none => d

/-- A cycle in which context 128 has not committed (R368, R397). -/
def Dev.gfHeld (d : Dev) (missed : Nat) : Dev := if missed = 0 then d else d.raise 0xB9 missed

/-- GF_MISSED_COMMITS (R368): missed counts the consecutive cycles without a commit. -/
def Dev.gfMissed (d : Dev) (missed : Nat) : Dev :=
  if d.obj Obj.GF_MISS_LIMIT ≤ missed then d.gfLegsOff.gfTrip 4 else d

/-- GF_LIMIT_TOO_LONG (R388). -/
def Dev.gfLimitLong (d : Dev) : Dev :=
  match d.gf.limitingFrom with
  | some t => if t + d.obj Obj.GF_LIMIT_MAX * 1000000 < d.now then d.gfTrip 5 else d
  | none => d

/-- RC_CLEAR of the grid-former (R377). -/
def Dev.gfRcClear (d : Dev) : Dev := (List.range 3).foldl (fun d x => d.setBlob (Obj.GF_RC_TABLE x) []) d

/-! ## Meanings -/

/-- BS_SETTLE_DONE. -/
def execBsSettleDone (s : State) : Res := s.onDev Dev.bsSettleDone

/-- STALL. -/
def execStall (s : State) : Res := s.onDev Dev.gfStall

/-- RT_RELEASE_EXPIRY. -/
def execRtReleaseExpiry (s : State) : Res := s.onDev Dev.rtRelease

/-- SYNC_PERMIT. -/
def execSyncPermit (s : State) : Res := s.onDev Dev.syncPermit

/-- UTILITY_OK. -/
def execUtilityOk (s : State) : Res := s.onDev Dev.utilityOk

/-- UTILITY_LOST. -/
def execUtilityLost (s : State) : Res := s.onDev Dev.utilityLost

/-- GF_STOP_DONE. -/
def execGfStopDone (s : State) : Res := s.onDev Dev.gfStopDone

/-- GF_TRIP_DC_LOW. -/
def execGfTripDcLow (s : State) : Res := s.onDev (fun d => d.gfTripAfter d.gf.dcLowFrom 10000000 1)

/-- GF_TRIP_DC_HIGH. -/
def execGfTripDcHigh (s : State) : Res := s.onDev (fun d => d.gfTripAfter d.gf.dcHighFrom 1000000 2)

/-- GF_TRIP_CURRENT_SUM. -/
def execGfTripCurrentSum (s : State) : Res := s.onDev (fun d => if 3 ≤ d.gf.isum then d.gfTrip 3 else d)

/-- GF_LIMIT_TOO_LONG. -/
def execGfLimitTooLong (s : State) : Res := s.onDev Dev.gfLimitLong

end Sys2Proof.Machine
end

