-- ==== Sys2Proof/Machine/Memory.lean ====
section
/-! DEFINITION. Machine/Memory.lean: the RAM of R554: 13-bit symbols, the checker, write-back, candidates and the memory log
(R554 to R568, R577). A symbol is held as data + 256 × check. -/

namespace Sys2Proof.Machine

/-- The macro number of region g and macro m. -/
def macroOf (g m : Nat) : Nat := g * 128 + m

/-- The macros of a region (R554). -/
def regionMacros (g : Nat) : Nat := getAt 0 [64, 16, 128, 8, 4, 2] g

/-- The byte address of an offset in a macro. -/
def memAddr (g m off : Nat) : Nat := macroOf g m * 32768 + off

/-- The region of a byte address. -/
def regionAt (a : Nat) : Nat := a / 32768 / 128

/-- The check field of a data byte (R555). -/
def checkOf (v : Nat) : Nat :=
  [0x07, 0x0B, 0x0D, 0x0E, 0x13, 0x15, 0x19, 0x1C].zipIdx.foldl (fun c x => if bit v x.2 then c ^^^ x.1 else c) 0

/-- The unwritten marker: data 0x00, check 0x1F (R556). -/
def marker : Nat := 0x1F00

/-- What every byte holds that nothing has written since BOOT (R558) (DEDUCED, log entry 27). -/
def memDefault : Nat → Nat := fun _ => marker

/-- The symbol at a byte address. -/
def Mem.sym (m : Mem) (a : Nat) : Nat := tget memDefault m.cells a

/-- A symbol stored. -/
def Mem.setSym (m : Mem) (a v : Nat) : Mem := { m with cells := tset memDefault m.cells a v }

/-- A byte written with fresh check bits (R557). -/
def Mem.put (m : Mem) (a v : Nat) : Mem := m.setSym a (v % 256 + 256 * checkOf (v % 256))

/-- Bytes written from an address on. -/
def Mem.putBytes (m : Mem) : Nat → List Nat → Mem
  | _, [] => m
  | a, v :: t => (m.put a v).putBytes (a + 1) t

/-- The outcome of a read (R556). -/
inductive ReadOutcome where
  | ok | corrected | unwritten | uncorrectable
deriving DecidableEq, Repr

/-- Outcome, syndrome and data of a symbol read through the checker (R556). -/
def readSym (v : Nat) : ReadOutcome × Nat × Nat :=
  let x := v % 256
  let s := checkOf x ^^^ (v / 256 % 32)
  if s = 0 then (.ok, s, x)
  else match [0x07, 0x0B, 0x0D, 0x0E, 0x13, 0x15, 0x19, 0x1C].idxOf? s with
    | some i => (.corrected, s, setBit x i (!bit x i))
    | none =>
      if [1, 2, 4, 8, 16].contains s then (.corrected, s, x)
      else if s = 0x1F then (.unwritten, s, 0)
      else (.uncorrectable, s, 0)

/-- The canonical form of the RAM (DEDUCED, log entry 27). -/
def Mem.wf (m : Mem) : Bool := twf memDefault m.cells

/-- The event data of a byte: region, macro, offset (R579). -/
def memEvent (a : Nat) : Nat := regionAt a * 2 ^ 24 + (a / 32768 % 128) * 65536 + a % 32768

/-- A MEM_LOG entry placed at the front (R577). -/
def Dev.logMem (d : Dev) (a field synd kind reader : Nat) : Dev :=
  let e := beBytes 10 (d.time80 0) ++ beBytes 1 (regionAt a) ++ beBytes 1 (a / 32768 % 128) ++ beBytes 2 field
    ++ beBytes 2 (synd * 2048 + kind * 256 + reader)
  let d := forN 15 (fun i d => d.setBlob (Obj.MEM_LOG (15 - i)) (d.blob (Obj.MEM_LOG (14 - i)))) d
  d.setBlob (Obj.MEM_LOG 0) e

/-- Rows and columns fused in a macro: production fuses and the field fuses applied at the last BOOT. -/
def Dev.fusedOf (d : Dev) (mac : Nat) (row : Bool) : Nat :=
  (if row then Config.macroFusedRows mac % 5 else Config.macroFusedColumns mac % 3)
    + (d.fl.fused.filter (fun f => f.1 == mac && f.2.1 == row)).length

/-- Free soft-repair slots of a macro (R567). -/
def Dev.softFree (d : Dev) (mac : Nat) : Nat :=
  min 2 (4 - d.fusedOf mac true) - (d.health.soft.filter (fun s => s.1 == mac)).length

/-- The candidate rows of a macro that are not excused by a column candidate (R566). -/
def Dev.rowCandidate (d : Dev) (mac row : Nat) : Bool :=
  d.health.cand.any (fun a => a / 32768 == mac && a % 32768 / 64 == row && !d.health.columns.contains (mac, a % 64))

/-- The number of rows and columns that are candidates in a region (R576). -/
def Dev.countCandidates (d : Dev) (g : Nat) : Nat :=
  let rows := (d.health.cand.map (fun a => a / 64)).eraseDups.filter (fun r => r / 512 / 128 == g)
  rows.length + (d.health.columns.filter (fun c => c.1 / 128 == g)).length

/-- Entries a fuse command would program: soft-repaired rows and column candidates not yet fused (R569). -/
def Dev.fusePending (d : Dev) : List (Nat × Bool × Nat) :=
  ((d.health.soft.map (fun s => (s.1, true, s.2))) ++ (d.health.columns.map (fun c => (c.1, false, c.2)))).filter
    (fun f => !d.health.fuses.contains f)

/-- CANDIDATES and FUSE_PENDING kept in step. -/
def Dev.showHealth (d : Dev) (g : Nat) : Dev :=
  (d.setObj (Obj.CANDIDATES g) (min (d.countCandidates g) 65535)).setObj Obj.FUSE_PENDING (min d.fusePending.length 65535)

/-- A byte that becomes a hard-fault candidate (R566, R568). -/
def Dev.addCandidate (d : Dev) (a synd reader : Nat) : Dev :=
  if d.health.cand.contains a then d
  else
    let mac := a / 32768
    let g := regionAt a
    let d := { d with health := { d.health with cand := d.health.cand ++ [a] } }
    let d := (d.logMem a (a % 32768) synd 3 reader).raise 0x62 (memEvent a)
    let rows := (d.health.cand.filter (fun b => b / 32768 == mac && b % 64 == a % 64)).length
    let d := if 2 ≤ rows ∧ !d.health.columns.contains (mac, a % 64) then
        let d := { d with health := { d.health with columns := d.health.columns ++ [(mac, a % 64)] } }
        (d.logMem a (a % 64) synd 4 reader).raise 0x62 (memEvent a)
      else d
    let d := d.showHealth g
    if d.rowCandidate mac (a % 32768 / 64) && d.softFree mac = 0 && !d.fl.exhausted.contains mac then
      let d := { d with fl := { d.fl with exhausted := d.fl.exhausted ++ [mac] } }
      let d := d.bumpBy 16 (Obj.SPARES_EXHAUSTED g) 1
      (d.logMem a (a % 32768) 0 6 reader).raise 0x64 (g * 2 ^ 24 + (mac % 128) * 65536)
    else d

/-- A CORRECTED read examined for a candidate: the second one within the window makes it (R566). -/
def Dev.seeCorrected (d : Dev) (a synd reader : Nat) : Dev :=
  let window := d.obj Obj.CANDIDATE_WINDOW * 3600000000000
  match d.fl.seen.find? (fun x => x.1 == a) with
  | some (_, t) =>
    if d.now ≤ t + window then d.addCandidate a synd reader
    else { d with fl := { d.fl with seen := d.fl.seen.map (fun x => if x.1 == a then (a, d.now) else x) } }
  | none => { d with fl := { d.fl with seen := d.fl.seen ++ [(a, d.now)] } }

/-- A CORRECTED read counted, logged and examined for a candidate (R563, R566, R577). -/
def Dev.noteCorrected (d : Dev) (a synd reader : Nat) : Dev :=
  let d := (d.bump (Obj.CORRECTED_COUNT (regionAt a))).raise 0x60 (memEvent a)
  let d := if d.fl.logged.contains a then d
    else (d.logMem a (a % 32768) synd 1 reader : Dev)
  let d := { d with fl := { d.fl with logged := if d.fl.logged.contains a then d.fl.logged else d.fl.logged ++ [a] } }
  d.seeCorrected a synd reader

/-- An UNCORRECTABLE read counted and logged (R561). -/
def Dev.noteUncorrectable (d : Dev) (a synd reader : Nat) : Dev :=
  let d := (d.bump (Obj.UNCORRECTABLE_COUNT (regionAt a))).raise 0x61 (memEvent a)
  d.logMem a (a % 32768) synd 2 reader

/-- The two halves every RAM command works on. -/
abbrev DM := Dev × Mem

/-- A read through the checker with its reactions: write-back of a corrected byte, the marker over an uncorrectable one outside
regions 1 and 5 (R561, R563) (DEDUCED, log entry 70). -/
def readChecked (x : DM) (reader a : Nat) : ReadOutcome × Nat × DM :=
  let r := readSym (x.2.sym a)
  match r.1 with
  | .ok => (.ok, r.2.2, x)
  | .unwritten => (.unwritten, 0, x)
  | .corrected => (.corrected, r.2.2, (x.1.noteCorrected a r.2.1 reader, x.2.put a r.2.2))
  | .uncorrectable =>
    let g := regionAt a
    (.uncorrectable, 0, (x.1.noteUncorrectable a r.2.1 reader, if g = 1 ∨ g = 5 then x.2 else x.2.setSym a marker))

end Sys2Proof.Machine
end

