-- ==== Sys2Proof/Machine/Profile.lean ====
section
/-! DEFINITION. Machine/Profile.lean: profile generators, gearing, switches and homing, the pulse engine (R325 to R363). -/

namespace Sys2Proof.Machine

/-! ## Records at rest and access -/

/-- The generator of axis n. -/
def Dev.gen (d : Dev) (n : Nat) : Gen := getAt initGen d.gens n

/-- The generator of axis n stored, with PROFILE_STATE and PROFILE_FLAGS. -/
def Dev.putGen (d : Dev) (n : Nat) (g : Gen) : Dev :=
  let d := { d with gens := setAt d.gens n g }
  (d.setObj (Obj.PROFILE_STATE n) g.state).setObj (Obj.PROFILE_FLAGS n) g.flags

/-- A flag of PROFILE_FLAGS set or cleared. -/
def Gen.flag (g : Gen) (i : Nat) (b : Bool) : Gen := { g with flags := setBit g.flags i b }

/-! ## Units (R325 to R327) -/

/-- A speed in counts/s as units of 2⁻⁴⁸ count per tick, the magnitude rounded down (R326). -/
def speedUnits (v : Int) : Int := sgnI v * (absI v * (2 ^ 48 * 125) / 1000000000)

/-- An acceleration in counts/s² as a step per tick. -/
def accelUnits (a : Int) : Int := a * (2 ^ 48 * 15625) / 1000000000000000000

/-- The integer part, 40 bits signed. -/
def Gen.int (g : Gen) : Int := sgn 40 (raw 40 (sra g.acc 24))

/-- The accumulator advanced, 64 bits wrapping. -/
def Gen.add (g : Gen) (x : Int) : Gen := { g with acc := sgn 64 (raw 64 (g.acc + x)) }

/-- The raw position of axis n (R327). -/
def Dev.rawPos (d : Dev) (n : Nat) : Nat := raw 32 ((d.gen n).int + d.obj (Obj.HOME_ORIGIN n))

/-- VELOCITY, counts/s. -/
def Gen.velocity (g : Gen) : Int := g.vel * 1000000000 / (2 ^ 48 * 125)

/-- The speeds and steps a generator uses. -/
structure GenCfg where
  vs : Int
  ve : Int
  vb : Int
  vmax : Int
  a1 : Int
  a2 : Int
  d1 : Int
  d2 : Int
deriving DecidableEq, Repr

/-- The configuration of axis n; homing replaces VMAX (R331, R353). -/
def Dev.genCfg (d : Dev) (n : Nat) : GenCfg :=
  let g := d.gen n
  let vm := d.obj (Obj.VMAX n)
  let cap := if g.home.phase = 0 then vm
    else if g.home.phase = 1 then min vm (d.obj (Obj.HOME_SPEED_FAST n)) else min vm (d.obj (Obj.HOME_SPEED_SLOW n))
  let acc := fun i => accelUnits (d.obj (Obj.ACCELS n i))
  { vs := speedUnits (min (d.obj (Obj.VS n)) cap : Nat), ve := speedUnits (min (d.obj (Obj.VE n)) cap : Nat),
    vb := speedUnits (d.obj (Obj.VB n)), vmax := speedUnits cap, a1 := acc 0, a2 := acc 1, d1 := acc 2, d2 := acc 3 }

/-! ## Ramps (R332, R333) -/

/-- One step up: A1 below Vb, A2 from it on, capped. -/
def GenCfg.up (c : GenCfg) (cap u : Int) : Int :=
  if u < c.vb then max u (min (u + c.a1) (min c.vb cap)) else max u (min (u + c.a2) cap)

/-- One step down toward a floor: D2 above max(Vb, Ve') or a higher floor, D1 below it; a floor under Ve' lowers that of D1 alone (R332,
R337). -/
def GenCfg.down (c : GenCfg) (floor u : Int) : Int :=
  let f := max (max c.vb c.ve) floor
  if f < u then max (u - c.d2) f else max (min u floor) (u - c.d1)

/-- Σ ⌊(a·i + b) / m⌋ for i below n, with a and b at least 0. -/
def floorSum : Nat → Nat → Nat → Nat → Nat → Nat
  | 0, _, _, _, _ => 0
  | fuel + 1, n, m, a, b =>
    if n = 0 then 0
    else
      let base := (n * (n - 1) / 2) * (a / m) + n * (b / m)
      let a := a % m
      let b := b % m
      let y := a * n + b
      if y < m then base else base + floorSum fuel (y / m) a m (y % m)

/-- The words' sum of one ramp segment from u down to f by steps of s: the last step lands on f. neg sums the words of a negative
velocity, which round away from zero. -/
def segSum (neg : Bool) (u f s : Int) : Int :=
  if u ≤ f ∨ s ≤ 0 then 0
  else
    let n := ((u - f + s - 1) / s).toNat
    let bias : Int := if neg then 16777215 else 0
    -- the values u − s, …, u − (n − 1)s, then f; summed in rising order
    let low := u - (n - 1 : Nat) * s + bias
    (floorSum 80 (n - 1) 16777216 s.toNat low.toNat : Nat) + (f + bias) / 16777216

/-- The distance a deceleration from speed u to Ve' covers, in 2⁻²⁴ counts. -/
def GenCfg.stopDist (c : GenCfg) (neg : Bool) (u : Int) : Int :=
  let f := max c.vb c.ve
  segSum neg u f c.d2 + segSum neg (min u f) c.ve c.d1

/-- The word of a signed velocity. -/
def wordOf (v : Int) : Int := sra v 24

/-! ## Starting, stopping and landing -/

/-- Standstill: the velocity is 0 and the state given. -/
def Gen.rest (g : Gen) (state : Nat) : Gen :=
  { g with vel := 0, motion := .none, braking := false, fresh := false, state := state }

/-- The signed distance to an integer target in 2⁻²⁴ counts, by the signed 40-bit difference of the integer parts (R329). -/
def Gen.toTarget (g : Gen) (t : Int) : Int := sgn 40 (raw 40 (t - g.int)) * 16777216 - g.acc % 16777216

/-- The direction in which a motion starts from standstill. -/
def Gen.heading (g : Gen) : Motion → Int
  | .move t => if g.toTarget t < 0 then -1 else 1
  | .speed vt => sgnI vt
  | _ => 0

/-- A motion begun from standstill: its first tick jumps to the start speed (R331, R337) (DEDUCED, log entry 58). -/
def Gen.start (g : Gen) (m : Motion) : Gen :=
  let g := { g with motion := m, fresh := true, braking := false, vel := 0, pending := .none }
  let g := (g.flag 0 false).flag 1 false
  if g.home.phase = 0 then { g with state := 1 } else g

/-- A wait of so many ticks before a motion (R336). -/
def Gen.waitFor (g : Gen) (ticks : Nat) (m : Motion) : Gen :=
  { g with motion := .dwell, dwell := ticks, pending := m, vel := 0, state := if g.home.phase = 0 then 5 else g.state }

/-- A motion asked for at an instant, from standstill: in the direction opposite to the last motion it starts DWELL ticks after that
motion's end at the earliest (R336) (DEDUCED, log entry 58). -/
def Gen.startAt (g : Gen) (dwell now : Nat) (m : Motion) : Gen :=
  let gone := (now - g.restAt) / 125 + 1
  if g.restDir ≠ 0 ∧ g.heading m = -g.restDir ∧ gone < dwell then g.waitFor (dwell - gone) m else g.start m

/-- A stop begun (R339); at standstill the generator is at rest already. -/
def Gen.beginStop (g : Gen) : Gen :=
  if g.vel = 0 then g.rest (if g.home.phase = 0 then 0 else g.state)
  else { g with motion := .stop, pending := .none, fresh := false, braking := true, state := if g.home.phase = 0 then 3 else g.state }

/-- The state code shown for a motion outside homing. -/
def Gen.show (g : Gen) (st : Nat) : Gen := if g.home.phase = 0 then { g with state := st } else g

/-- A target reached (R334). -/
def Gen.landOn (g : Gen) (t : Int) : Gen :=
  let g := { g with acc := sgn 64 (raw 64 (t * 16777216)), landed := true }
  (g.rest (if g.home.phase = 0 then 0 else g.state)).flag 0 true

/-- One tick of a move with direction s (1 or −1) (DEDUCED, log entry 58). -/
def Gen.tickMove (c : GenCfg) (g : Gen) (t : Int) : Gen :=
  let r0 := g.toTarget t
  let s : Int := if g.vel < 0 then -1 else if 0 < g.vel then 1 else if r0 < 0 then -1 else 1
  let r := s * r0
  let u := absI g.vel
  let fits := fun x : Int => s * wordOf (s * x) + c.stopDist (decide (s < 0)) x ≤ r
  let plan : Int × Nat × Bool :=
    if g.fresh then (sra c.vs 24 * 16777216, 1, !decide (fits (sra c.vs 24 * 16777216)))
    else if g.braking then
      let v := c.down c.ve u
      (v, if u ≤ c.ve then 4 else 3, true)
    else
      let v := if c.vmax < u then max c.vmax (c.down c.vmax u) else c.up c.vmax u
      if fits v then (v, if v < u then 3 else if v = c.vmax then 2 else 1, false)
      else (c.down c.ve u, if u ≤ c.ve then 4 else 3, true)
  let w := s * wordOf (s * plan.1)
  if r ≤ w then g.landOn t
  else
    let g := { g with vel := s * plan.1, fresh := false, braking := plan.2.2 }
    (g.add (s * w)).show plan.2.1

/-- One tick toward a signed speed (R337). From standstill the word jumps and the register's low bits are 0, as in R331. -/
def Gen.tickSpeed (c : GenCfg) (g : Gen) (vt : Int) : Gen :=
  let goal := min (absI vt) c.vmax
  let s : Int := if vt = 0 then sgnI g.vel else sgnI vt
  let u := absI g.vel
  if vt = 0 then
    let v := c.down c.ve u
    if u ≤ c.ve ∨ v ≤ c.ve then g.rest 0
    else ({ g with vel := s * v, fresh := false }.add (wordOf (s * v))).show 3
  else
    let v := if g.fresh then sra (min c.vs goal) 24 * 16777216
      else if u < goal then min goal (c.up goal u)
      else if goal < u then max goal (c.down (min (max c.ve goal) goal) u)
      else u
    let st := if v = goal then 2 else if u ≤ v then 1 else 3
    ({ g with vel := s * v, fresh := false }.add (wordOf (s * v))).show st

/-- One tick of a stop or of a reversal's deceleration: at Ve' the word becomes 0 (R338, R339) (DEDUCED, log entry 58). -/
def Gen.tickStop (c : GenCfg) (g : Gen) (dwell : Nat) : Gen :=
  let s := sgnI g.vel
  let u := absI g.vel
  let v := c.down c.ve u
  if u ≤ c.ve ∨ v ≤ c.ve then
    match g.pending with
    | .none => g.rest (if g.home.phase = 0 then 0 else g.state)
    | m => g.waitFor (dwell - 1) m
  else ({ g with vel := s * v }.add (wordOf (s * v))).show 3

/-- One tick of a gear: the word, and at the last tick what remains (R344). -/
def Gen.tickGear (g : Gen) : Gen :=
  match g.gear.ticks with
  | 0 => g
  | 1 => { (g.add g.gear.rest) with gear := { g.gear with ticks := 0, last := g.gear.word } }
  | n + 2 => { (g.add g.gear.word) with gear := { g.gear with ticks := n + 1, last := g.gear.word } }

/-- One tick of a generator (R325). -/
def Gen.tick (c : GenCfg) (dwell : Nat) (g : Gen) : Gen :=
  if g.state = 6 then g.tickGear
  else match g.motion with
    | .none => g
    | .dwell => { g with dwell := g.dwell - 1 }
    | .move t => g.tickMove c t
    | .speed vt => g.tickSpeed c vt
    | .stop => g.tickStop c dwell

/-- Whether a generator has anything to do at a tick. -/
def Gen.busy (g : Gen) : Bool := g.state = 6 || g.motion != .none

/-! ## Homing (R352 to R355) -/

/-- The switch that is the reference of a method: 0 negative limit, 1 positive limit, 2 home. -/
def homeSwitch (method : Nat) : Nat :=
  match method with
  | 1 => 0 | 5 => 0 | 2 => 1 | 6 => 1 | _ => 2

/-- The approach direction. -/
def homeDir (method : Nat) : Int := if [1, 4, 5, 8, 10].contains method then -1 else 1

/-- The method ends on an index. -/
def homeIndexed (method : Nat) : Bool := 5 ≤ method && method ≤ 10

/-- The gear given up: the motion goes on at the word of the last cycle (R344), which a stop at a boundary finds before the new cycle's first
tick; an armed change stays armed. -/
def Gen.disengage (g : Gen) : Gen :=
  let e := g.gear
  { g with vel := e.last * 16777216, motion := .none, state := 2, fresh := false, braking := false
           gear := { noGear with armed := e.armed, stNum := e.stNum, stDen := e.stDen, stPos := e.stPos } }

/-- Homing given up by a stop: a dwell runs to its end, a motion ramps down (R336, R339). -/
def Gen.leaveHoming (g : Gen) : Gen :=
  if g.motion = .dwell then { g with home := noHoming, state := 5, pending := .none }
  else { g with home := noHoming, state := 3 }.beginStop

/-- HOME_STATE shown while a phase runs. -/
def Dev.showPhase (d : Dev) (n p : Nat) : Dev := d.setObj (Obj.HOME_STATE n) p

/-- A phase begun from standstill or in motion: the speed run of R353. -/
def Dev.homePhase (d : Dev) (n p : Nat) (s : Int) : Dev :=
  let g := d.gen n
  let g := { g with home := { g.home with phase := p, stopping := false }, state := 7 }
  let v := if p = 1 then d.obj (Obj.HOME_SPEED_FAST n) else d.obj (Obj.HOME_SPEED_SLOW n)
  let target := s * speedUnits v
  let g := if g.vel = 0 then g.startAt (d.obj (Obj.DWELL n)) d.now (.speed target)
    else if sgnI g.vel = s then { g with motion := .speed target, fresh := false, braking := false }
    else { g with motion := .stop, pending := .speed target }
  (d.putGen n g).showPhase n p

/-- A homing fault: stop, FAULTED, HOMED cleared (R355). -/
def Dev.homeFault (d : Dev) (n cause : Nat) : Dev :=
  let g := d.gen n
  if g.home.phase = 0 then d
  else
    let d := d.putGen n g.leaveHoming
    ((d.setObj (Obj.HOME_STATE n) 8).setObj (Obj.HOME_FAULT n) cause).setObj (Obj.HOMED n) 0

/-- The last phase: the reference is known; stop, then R354 at a boundary. -/
def Dev.homeFound (d : Dev) (n ref : Nat) : Dev :=
  let g := d.gen n
  let g := { g with home := { g.home with phase := 5, ref := some ref, stopping := true } }
  (d.putGen n g.beginStop).showPhase n 5

/-- Standstill at the end of a phase's stop: the next phase begins (R353). -/
def Dev.homeNext (d : Dev) (n : Nat) : Dev :=
  let g := d.gen n
  if !g.home.stopping || g.motion != .none then d
  else match g.home.phase with
    | 1 => if g.home.bounced then d.homePhase n 1 (-g.home.d) else d.homePhase n 2 (-g.home.d)
    | 2 => d.homePhase n 3 g.home.d
    | _ => d

/-- The stop that ends a phase, or the first leg of a bounce; at standstill the next phase begins at once (R353). -/
def Dev.homeStop (d : Dev) (n : Nat) (bounce : Bool) : Dev :=
  let g := d.gen n
  (d.putGen n ({ g with home := { g.home with stopping := true, bounced := g.home.bounced || bounce } }.beginStop)).homeNext n

/-- R354 at the boundary after H5. -/
def Dev.homeFinish (d : Dev) (n : Nat) : Dev :=
  let g := d.gen n
  match g.home.ref with
  | none => d
  | some r =>
    if g.home.phase != 5 || g.motion != .none then d
    else
      let old := d.obj (Obj.HOME_ORIGIN n)
      let new := raw 32 ((r : Int) - d.objI 32 (Obj.HOME_POSITION n))
      let shift := sgn 32 (raw 32 ((old : Int) - new))
      let g := g.add (shift * 16777216)
      let g := { g with home := noHoming, state := 0, past := g.past.map (fun a => sgn 64 (raw 64 (a + shift * 16777216))) }
      let d := d.putGen n g
      let d := (d.setObj (Obj.HOME_ORIGIN n) new).setObj (Obj.HOME_REFERENCE n) r
      (d.setObj (Obj.HOMED n) 1).setObj (Obj.HOME_STATE n) 6

/-- The method names none, or a switch or index whose source is none: HOME is discarded (R352). -/
def Dev.homeLacks (d : Dev) (n : Nat) : Bool :=
  let m := d.obj (Obj.HOME_METHOD n)
  let src := getAt 0xFF [d.obj (Obj.LIMIT_NEG_SRC n), d.obj (Obj.LIMIT_POS_SRC n), d.obj (Obj.HOME_SRC n)] (homeSwitch m)
  m = 0 || (1 ≤ m && m ≤ 8 && src = 0xFF) || (5 ≤ m && m ≤ 10 && d.obj (Obj.INDEX_SOURCE n) = 0xFF)

/-- HOME at its boundary (R352 to R354); method 0x0B takes its reference at this boundary (R353). -/
def Dev.homeStart (d : Dev) (n : Nat) : Dev :=
  let m := d.obj (Obj.HOME_METHOD n)
  let sw := homeSwitch m
  let g := d.gen n
  if d.homeLacks n then d.putGen n (g.flag 7 true)
  else
    let d := (d.setObj (Obj.HOMED n) 0).setObj (Obj.HOME_FAULT n) 0
    let dir := homeDir m
    let h : Homing := { phase := 1, d := dir, method := m, bounced := false, stopping := false, latch := 0, start := g.acc, ref := none }
    let g := { g with home := h, state := 7 }
    let d := d.putGen n g
    if m = 0x0B then
      (d.putGen n { g with home := { h with phase := 5, stopping := true, ref := some (d.rawPos n) } }).homeFinish n
    else if 9 ≤ m then
      let d := d.putGen n { g with home := { h with latch := d.rawPos n } }
      d.homePhase n 4 dir
    else if (getAt idleSwitch g.switches sw).level then d.homePhase n 2 (-dir)
    else d.homePhase n 1 dir

/-- The index position found while H4 runs (R351, R353). -/
def Dev.homeIndex (d : Dev) (n pos : Nat) : Dev :=
  let g := d.gen n
  if g.home.phase != 4 then d
  else
    let beyond := g.home.d * sgn 32 (raw 32 ((pos : Int) - g.home.latch))
    if (d.obj (Obj.INDEX_WINDOW n) : Int) < beyond then d.homeFault n 5 else d.homeFound n pos

/-- The index source of an axis looked at with an accepted record (R351): a toggle of the AUX_IN bit, or a Z edge of the cycle before,
between the accepted positions at its ends; prev is the one a cycle earlier. A Z edge without both positions is not used (DEDUCED, log entry 59). -/
def Dev.indexSample (d : Dev) (n aux pos : Nat) (prev : Option Nat) : Dev :=
  let src := d.obj (Obj.INDEX_SOURCE n)
  let g := d.gen n
  if 0x10 ≤ src ∧ src ≤ 0x1F then
    let level := bit aux (src - 16)
    let d := d.putGen n { g with auxPrev := level }
    if level != g.auxPrev then d.homeIndex n pos else d
  else match g.zEdge with
    | none => d
    | some z =>
      if d.cyc.startAt ≤ z then d
      else
        let d := d.putGen n { g with zEdge := none }
        match prev with
        | some xj =>
          if z + d.cyc.len < d.cyc.startAt then d
          else
            let diff := sgn 32 (raw 32 ((pos : Int) - xj))
            let t : Int := (z + d.cyc.len - d.cyc.startAt : Nat)
            d.homeIndex n (raw 32 ((xj : Int) + diff * t / (max 1 d.cyc.len : Nat)))
        | none => d

/-- Travel and window checks at a sample instant (R353, R355). -/
def Dev.homeCheck (d : Dev) (n : Nat) : Dev :=
  let g := d.gen n
  if g.home.phase = 0 then d
  else
    let travel := absI (sra (sgn 64 (raw 64 (g.acc - g.home.start))) 24)
    let most : Int := d.obj (Obj.HOME_MAX_TRAVEL n)
    if most ≠ 0 ∧ most < travel then d.homeFault n 3
    else if g.home.phase = 4 ∧ (d.obj (Obj.INDEX_WINDOW n) : Int)
        < g.home.d * sgn 32 (raw 32 ((d.rawPos n : Int) - g.home.latch)) then d.homeFault n 5
    else d

/-! ## Stops the generator takes by itself (R339 to R343) -/

/-- R339: STOP, from any state. -/
def Dev.genStop (d : Dev) (n : Nat) : Dev :=
  let g := d.gen n
  match g.state with
  | 0 => d
  | 8 => d
  | 5 => d.putGen n { g with pending := .none }
  | 6 => d.putGen n g.disengage.beginStop
  | 7 => (d.putGen n g.leaveHoming).setObj (Obj.HOME_STATE n) 7
  | _ => d.putGen n ({ g with pending := .none }.flag 1 false).beginStop

/-- HELD at a sample instant: the demand follows the actual position x (R342). -/
def Dev.genHeld (d : Dev) (n : Nat) (x : Option Nat) : Dev :=
  let d := d.homeFault n 4
  let g := d.gen n
  let i := g.int
  let i := match x with
    | none => i
    | some p => i + sgn 32 (raw 32 ((p : Int) - d.obj (Obj.HOME_ORIGIN n) - i))
  let g := { (if g.state = 6 then g.disengage else g) with acc := sgn 64 (raw 64 (i * 16777216)), pending := .none, dwell := 0 }
  d.putGen n ((g.rest 8).flag 1 false)

/-- The limit switch in a direction of travel is active. -/
def Gen.limitActive (g : Gen) (s : Int) : Bool :=
  if s < 0 then (getAt idleSwitch g.switches 0).level else if 0 < s then (getAt idleSwitch g.switches 1).level else false

/-- The present direction of travel. -/
def Gen.direction (g : Gen) : Int := if g.state = 6 then sgnI g.gear.word else sgnI g.vel

/-- Limits hold an axis back: LIMIT_ENFORCE stands and no homing runs. -/
def Dev.limitsHold (d : Dev) (n : Nat) (s : Int) : Bool :=
  d.objB (Obj.LIMIT_ENFORCE n) && (d.gen n).home.phase = 0 && (d.gen n).limitActive s

/-- R343: a limit active in the direction of travel stops the generator, as the limit or the direction becomes so (DEDUCED, log entry 58). -/
def Dev.limitStop (d : Dev) (n : Nat) : Dev :=
  if d.limitsHold n (d.gen n).direction then
    let d := d.genStop n
    d.putGen n ((d.gen n).flag 5 true)
  else d

/-! ## Switches (R349, R350) -/

/-- A sample of every switch from an accepted record. -/
def Dev.switchSample (d : Dev) (n aux pos : Nat) : Dev :=
  let srcs := [d.obj (Obj.LIMIT_NEG_SRC n), d.obj (Obj.LIMIT_POS_SRC n), d.obj (Obj.HOME_SRC n)]
  let pol := d.obj (Obj.SWITCH_POLARITY n)
  let one := fun (s : Switch) (src i : Nat) =>
    if 16 ≤ src || s.locked then s
    else
      let l := bit aux src != bit pol i
      if l == s.runLevel && s.run != 0 then { s with run := min (s.run + 1) 1000000 }
      else { s with runLevel := l, run := 1, runPos := pos }
  let g := d.gen n
  d.putGen n { g with switches := (g.switches.zip (srcs.zip [0, 1, 2])).map (fun x => one x.1 x.2.1 x.2.2) }

/-- n_q of R349. -/
def Dev.qualCount (d : Dev) (n : Nat) : Nat := max 1 (ceilDiv (d.obj (Obj.QUAL_TIME n) * 1000) d.cyc.len)

/-- What a qualified edge does to a homing (R353, R355). -/
def Dev.homeEdge (d : Dev) (n sw : Nat) (level : Bool) (pos : Nat) : Dev :=
  let g := d.gen n
  let h := g.home
  let m := h.method
  let homeMethod := [3, 4, 7, 8].contains m
  let limitIn := fun s : Int => if s < 0 then 0 else 1
  if h.phase = 0 then d
  else if m < 9 && sw = homeSwitch m then
    match h.phase, level with
    | 1, true =>
      if h.bounced && !h.stopping then d.homePhase n 2 (-h.d)
      else if h.stopping then d
      else d.homeStop n false
    | 2, false => d.homeStop n false
    | 3, true =>
      let d := d.putGen n { g with home := { h with latch := pos } }
      if homeIndexed m then d.homePhase n 4 h.d else d.homeFound n pos
    | _, _ => d
  else if sw = 2 || !level then d
  else if homeMethod && h.phase = 1 && sw = limitIn h.d && !h.bounced then
    d.homeStop n true
  else if sw = limitIn (-h.d) then d.homeFault n (if h.bounced && h.phase = 1 then 2 else 1)
  else if homeMethod && h.phase != 1 && h.phase != 5 then d.homeFault n 1
  else d

/-- SWITCH_QUALIFIED: a run of n_q samples at a new level (R349); a limit met in homing is homing's alone (R343). -/
def Dev.switchQualified (d : Dev) (n sw : Nat) : Dev :=
  let g := d.gen n
  let s := getAt idleSwitch g.switches sw
  if s.locked || s.runLevel == s.level || s.run < d.qualCount n then d
  else
    let g := { g with switches := setAt g.switches sw { s with level := s.runLevel, locked := true, lockedAt := d.now, run := 0 } }
    let d := d.putGen n (g.flag (2 + sw) s.runLevel)
    let d := d.homeEdge n sw s.runLevel s.runPos
    if s.runLevel && sw != 2 && g.home.phase = 0 then d.limitStop n else d

/-- SWITCH_LOCKOUT_END (R350). -/
def Dev.lockoutEnd (d : Dev) (n sw : Nat) : Dev :=
  let g := d.gen n
  let s := getAt idleSwitch g.switches sw
  if !s.locked || d.now < s.lockedAt + d.obj (Obj.LOCKOUT n) * 1000000 then d
  else d.putGen n { g with switches := setAt g.switches sw { s with locked := false, run := 0 } }

/-! ## Gearing (R344 to R347) -/

/-- The position last accepted for an axis before this sample instant, if any (R344). -/
def Dev.lastPosition (d : Dev) (n : Nat) : Option Nat :=
  let a := getAt initAxis d.axes n
  match a.cur with
  | some x => some x.pos
  | none => a.hist.head?.map (·.pos)

/-- The stage is on for the vendor library (R275). -/
def Dev.stageOn (d : Dev) (c : Nat) : Bool := d.state = stRun && (d.obj (Obj.AXIS_STATE c) = 2 || d.obj (Obj.AXIS_STATE c) = 3)

/-- A pulse input at rest. -/
def idlePulseIn : PulseIn := { a := false, b := false, z := false, count := 0, last := 0 }

/-- The advance of a pulse source's demand at this sample instant (R285). -/
def Dev.pulseAdvance (d : Dev) (c : Nat) : Int :=
  let port := d.obj (Obj.SETPOINT_PORT c)
  let moved := sgn 32 (raw 32 ((d.obj (Obj.PI_COUNT port) : Int) - (getAt idlePulseIn d.pulseIn port).last))
  sgn 32 (raw 32 (moved * d.objI 16 (Obj.PULSE_SCALE c)))

/-- The demand of a pulse source at this sample instant: it follows the accepted position while the stage is off (R275, R285). -/
def Dev.pulseDemand (d : Dev) (c : Nat) : Nat :=
  let a := getAt initAxis d.axes c
  let on := d.stageOn c
  let base := if on && !a.pulseOff then a.pulseDem else (d.lastPosition c).getD a.pulseDem
  if on then raw 32 ((base : Int) + d.pulseAdvance c) else base

/-- The raw position demand of an axis latched at this sample instant, from its set-point source (R283, R344). -/
def Dev.demandOf (d : Dev) (n : Nat) : Nat := if d.obj (Obj.SETPOINT_SOURCE n) = 3 then d.pulseDemand n else d.rawPos n

/-- The master position before compensation (R344). -/
def Dev.masterRaw (d : Dev) (n : Nat) : Nat :=
  let i := d.obj (Obj.MASTER_INDEX n)
  match d.obj (Obj.MASTER_KIND n) with
  | 1 => d.obj (Obj.PI_COUNT i)
  | 2 => (d.lastPosition i).getD 0
  | 3 => d.demandOf i
  | _ => 0

/-- q / den with remainder carried: the advance of a travel under a ratio, in 2⁻²⁴ counts. -/
def gearPart (travel num : Int) (den : Nat) (rho : Int) : Int × Int :=
  let q := travel * num * 16777216 + rho
  let a := q / (max den 1 : Nat)
  (a, q - a * (max den 1 : Nat))

/-- The integral of the blend's ratio from travel u to v, both clamped to 0 … L, as an exact fraction over 2·L·d0·d1 (R347). -/
def blendIntegral (r0n : Int) (r0d : Nat) (r1n : Int) (r1d len : Nat) (u v : Int) : Int :=
  let l : Int := len
  let a : Int := r0n * r1d
  let b : Int := r1n * r0d
  -- outside 0 … L the ratio is R0 below and R1 above
  let f := fun x : Int =>
    if x < 0 then 2 * l * a * x else if l < x then (a + b) * l * l + 2 * l * b * (x - l) else 2 * l * a * x + (b - a) * x * x
  f v - f u

/-- The follower's advance for a travel Δ of the master in this cycle (R344, R346, R347). A blend whose master has not moved yet takes its
direction from the first travel; it carries a remainder of its own, from 0 (DEDUCED, log entry 80). -/
def Gen.gearAdvance (g : Gen) (delta : Int) : Int × Gen :=
  let e := { g.gear with dir := if g.gear.dir = 0 then sgnI delta else g.gear.dir }
  if e.blend then
    let u' := e.u + e.dir * delta
    let den : Int := 2 * e.len * e.r0Den * e.r1Den
    let q := e.dir * blendIntegral e.r0Num e.r0Den e.r1Num e.r1Den e.len e.u u' * 16777216 + e.rem
    let a := q / max den 1
    let done := decide ((e.len : Int) ≤ u')
    -- at its end the ratio is R1 everywhere
    let e := if done then { e with blend := false, num := e.r1Num, den := e.r1Den, u := u' } else { e with u := u', rem := q - a * den }
    (a, { g with gear := e })
  else
    let r := gearPart delta e.num e.den g.rho
    (r.1, { g with rho := r.2 })

/-- A staged change that takes effect at a master position (R346, R347): the new ratio, blended over len counts in direction dir, 0 where
the first travel gives it. The remainder ρ goes on. -/
def Gen.gearChange (g : Gen) (num : Int) (den len : Nat) (dir : Int) : Gen :=
  let e := g.gear
  if len = 0 then { g with gear := { e with num := num, den := den } }
  else
    { g with gear := { e with blend := true, r0Num := e.num, r0Den := e.den, r1Num := num, r1Den := den, u := 0, dir := dir
                              len := len, rem := 0 } }

/-- A write of GEAR_NUM or GEAR_DEN that took effect at this boundary, at the master position of it (R346). -/
def Gen.gearRewrite (g : Gen) (num : Int) (den len : Nat) : Gen :=
  if !g.gear.changed then g else { g with gear := { g.gear with changed := false } }.gearChange num den len 0

/-- A gear at a sample instant: the advance of the cycle that begins, spread over its ticks, then the ratio written for this boundary, which
stands against the staged one of a crossing met on the way (R344, R346). -/
def Dev.gearCycle (d : Dev) (n : Nat) : Dev :=
  let g := d.gen n
  if g.state != 6 then d
  else
    let m0 := d.masterRaw n
    let c := d.obj (Obj.MASTER_COMP n)
    let diff := sgn 32 (raw 32 ((m0 : Int) - g.gear.mPrev))
    -- MASTER_COMP extrapolates both ends alike, so Δ is taken on the compensated values
    let m := raw 32 ((m0 : Int) + c * diff)
    let mp := d.obj (Obj.MASTER_POSITION n)
    let delta := if c = 0 then diff else sgn 32 (raw 32 ((m : Int) - mp))
    let d := d.setObj (Obj.MASTER_POSITION n) m
    let p := sgn 32 (raw 32 ((g.gear.stPos : Int) - (if c = 0 then g.gear.mPrev else mp)))
    let reaches := (decide (0 < delta) && decide (0 < p) && decide (p ≤ delta))
      || (decide (delta < 0) && decide (delta ≤ p) && decide (p < 0))
    let crosses := g.gear.armed && delta != 0 && (g.gear.onP || reaches)
    let at0 : Int := if reaches then p else 0
    let num := d.objI 32 (Obj.GEAR_NUM n)
    let den := d.obj (Obj.GEAR_DEN n)
    let g := { g with gear := { g.gear with mPrev := m0 } }
    let r : Int × Gen := if crosses then
        let a := g.gearAdvance at0
        let g := a.2.gearChange g.gear.stNum g.gear.stDen (d.obj (Obj.BLEND_LENGTH n)) (sgnI delta)
        let g := { g with gear := { g.gear with armed := false } }
        let b := g.gearAdvance (delta - at0)
        (a.1 + b.1, b.2)
      else g.gearAdvance delta
    let d := if crosses && !g.gear.changed then
        (d.setObj (Obj.GEAR_NUM n) (raw 32 g.gear.stNum)).setObj (Obj.GEAR_DEN n) g.gear.stDen
      else d
    let d := if crosses then d.setObj (Obj.STAGE_ARM n) 0 else d
    let ticks := max 1 (d.cyc.len / 125)
    let w := r.1 / (ticks : Nat)
    let g := { r.2 with vel := w * 16777216, gear := { r.2.gear with word := w, rest := r.1 - w * (ticks - 1 : Nat), ticks := ticks } }
    (d.putGen n (g.gearRewrite num den (d.obj (Obj.BLEND_LENGTH n)))).limitStop n

/-- GEAR_ENGAGE at its boundary (R345); a change armed before stays armed (DEDUCED, log entry 80). -/
def Dev.gearEngage (d : Dev) (n : Nat) : Dev :=
  let g := d.gen n
  let m := d.masterRaw n
  let num := d.objI 32 (Obj.GEAR_NUM n)
  let den := d.obj (Obj.GEAR_DEN n)
  let len := d.obj (Obj.BLEND_LENGTH n)
  let e := { g.gear with mPrev := m, word := 0, last := 0, rest := 0, ticks := 0, blend := false, changed := false, onP := g.gear.stPos == m
                         num := if len = 0 then num else 0, den := if len = 0 then den else 1 }
  let g := { g with state := 6, rho := 0, gear := e, motion := .none, vel := 0 }
  let g := if len = 0 then g else g.gearChange num den len 0
  (d.putGen n (g.flag 0 false)).setObj (Obj.MASTER_POSITION n) m

/-- STAGE_ARM of 1 taking effect (R346). -/
def Dev.stageArm (d : Dev) (n : Nat) : Dev :=
  let g := d.gen n
  let p := d.obj (Obj.STAGE_POSITION n)
  let e := { g.gear with armed := true, stNum := d.objI 32 (Obj.STAGED_NUM n), stDen := d.obj (Obj.STAGED_DEN n), stPos := p,
                         onP := d.masterRaw n == p }
  d.putGen n { g with gear := e }

/-- A write of GEAR_NUM or GEAR_DEN while the gear is engaged: a staged change once the travel up to this boundary is taken (R346). -/
def Dev.gearWrite (d : Dev) (n : Nat) : Dev :=
  let g := d.gen n
  if g.state != 6 then d else d.putGen n { g with gear := { g.gear with changed := true } }

/-! ## Commands (R329, R337, R338) -/

/-- A motion command from the present motion: it waits for a dwell's end, continues, reverses, or starts (R336 to R338). -/
def Gen.replan (g : Gen) (c : GenCfg) (dwell now : Nat) (m : Motion) : Gen :=
  if g.motion = .dwell then { g with pending := m }
  else if g.vel = 0 then (if m = .speed 0 then g.rest 0 else g.startAt dwell now m)
  else
    let s := sgnI g.vel
    let stop := c.stopDist (decide (s < 0)) (absI g.vel)
    let ahead := match m with
      | .move t => decide (stop ≤ s * g.toTarget t)
      | .speed vt => vt == 0 || sgnI vt == s
      | _ => true
    if ahead then ({ g with motion := m, braking := false, pending := .none }.flag 1 false).flag 0 false
    else ({ g with motion := .stop, pending := m, state := 3 }.flag 1 true).flag 0 false

/-- A MOVE or VELOCITY that takes effect in GEARED or HOMING ends that mode and plans from its present word; a homing is then ABORTED
(DEDUCED, log entry 80). -/
def Dev.leaveMode (d : Dev) (n : Nat) : Dev :=
  let g := d.gen n
  if g.state = 6 then d.putGen n g.disengage
  else if g.home.phase = 0 then d
  else (d.putGen n { g with home := noHoming, pending := .none, state := if g.motion = .dwell then 5 else 2 }).setObj (Obj.HOME_STATE n) 7

/-- A profile command executed at its boundary; enabled says whether the axis is ENABLED then (DEDUCED, log entry 44). -/
def Dev.genCommand (d : Dev) (n : Nat) (enabled : Bool) : Dev :=
  let g := d.gen n
  let cmd := g.cmd
  let d := d.putGen n { g with cmd := 0 }
  let g := d.gen n
  let discard := d.putGen n (g.flag 7 true)
  let took := d.putGen n (((g.flag 7 false).flag 5 false).flag 6 false)
  let start := fun (m : Motion) (s : Int) =>
    if d.objB (Obj.LIMIT_ENFORCE n) && g.limitActive s then discard
    else
      let d := took.leaveMode n
      d.putGen n { (d.gen n).replan (d.genCfg n) (d.obj (Obj.DWELL n)) d.now m with landWaited := false, landed := false }
  let move := fun (t : Int) =>
    if d.obj (Obj.HOME_STATE n) = 8 then discard else start (.move t) (sgnI (g.toTarget t))
  if !enabled && cmd != 4 && cmd != 7 then discard
  else match cmd with
    | 1 => move (d.objI 64 (Obj.TARGET n))
    | 2 => move (sgn 40 (raw 40 (g.int + d.objI 64 (Obj.TARGET n))))
    | 3 =>
      let vt := speedUnits (d.objI 32 (Obj.TARGET_SPEED n))
      start (.speed vt) (sgnI vt)
    | 4 => took.genStop n
    | 5 => if g.state = 0 then took.gearEngage n else discard
    | 6 => if g.state = 0 && !d.homeLacks n then took.homeStart n else discard
    | 7 =>
      if [7, 8].contains (d.obj (Obj.HOME_STATE n)) then
        took.setObj (Obj.HOME_STATE n) (if d.objB (Obj.HOMED n) then 6 else 0)
      else took
    | _ => d

/-- DWELL_END (R336): the pending motion starts, unless its limit has become active (R343); a homing phase that waited begins
(DEDUCED, log entry 58). -/
def Dev.dwellEnd (d : Dev) (n : Nat) : Dev :=
  let g := d.gen n
  if g.motion != .dwell || g.dwell != 0 then d
  else
    let idle := (g.rest (if g.home.phase = 0 then 0 else 7)).flag 1 false
    match g.pending with
    | .none => d.putGen n { idle with pending := .none }
    | .speed 0 => d.putGen n { idle with pending := .none }
    | m =>
      if d.limitsHold n (g.heading m) then d.putGen n ({ idle with pending := .none }.flag 5 true)
      else d.putGen n (g.start m)

/-! ## LAND (R341) -/

/-- Whether a LAND axis counts as at standstill for R39. -/
def Gen.landStill (g : Gen) : Bool := g.state = 8 || (g.state = 0 && ((g.landed && bit g.flags 0) || g.landWaited))

/-- LAND_WAIT_EXPIRY: no move accepted for LAND_WAIT since the decision or the last landing. -/
def Dev.landWait (d : Dev) (n : Nat) : Dev :=
  let g := d.gen n
  if g.land && g.state = 0 && decide (g.landFrom + d.obj (Obj.LAND_WAIT n) * 1000000 ≤ d.now)
  then d.putGen n { g with landWaited := true }
  else d

/-! ## Set-point latch (R327) -/

/-- n_ff of the generator: the advance over the last SPEED_DIV cycles times SPEED_SCALE. -/
def Dev.genNff (d : Dev) (n : Nat) : Int :=
  let g := d.gen n
  let k := d.obj (Obj.SPEED_DIV n)
  match (g.past.drop (k - 1)).head? with
  | none => 0
  | some a => sat24 (sra (gainScaled (d.obj (Obj.SPEED_SCALE n)) * sgn 64 (raw 64 (g.acc - a))) 40)

/-- The accumulator remembered at a sample instant, after n_ff has been taken. -/
def Dev.genMark (d : Dev) (n : Nat) : Dev :=
  let g := d.gen n
  { d with gens := setAt d.gens n { g with past := (g.acc :: g.past).take 8 } }

/-! ## Pulse engine (R356, R357) -/

/-- A pulse output at rest. -/
def idlePulseOut : PulseOut := { issued := 0, a := false, b := false }

/-- The place of quadrature levels in the sequence 00, 10, 11, 01. -/
def quadPlace (a b : Bool) : Nat :=
  match a, b with
  | false, false => 0
  | true, false => 1
  | true, true => 2
  | false, true => 3

/-- PULSE_INPUT_EDGE: new accepted levels at the pins. -/
def Dev.pulseEdge (d : Dev) (p : Nat) (pa pb : Bool) : Dev :=
  let inv := d.obj (Obj.PI_INVERT p)
  let a := pa != bit inv 0
  let b := pb != bit inv 1
  let q := getAt idlePulseIn d.pulseIn p
  let up := fun k : Int => raw 32 ((q.count : Int) + k)
  let put := fun (d : Dev) (c : Nat) => { d with pulseIn := setAt d.pulseIn p { q with a := a, b := b, count := c } }
  match d.obj (Obj.PI_MODE p) with
  | 1 =>
    match (quadPlace a b + 4 - quadPlace q.a q.b) % 4 with
    | 1 => put d (up 1)
    | 3 => put d (up (-1))
    | 2 => put (d.bump (Obj.PI_ERRORS p)) q.count
    | _ => put d q.count
  | 2 => put d (if a && !q.a then up (if b then 1 else -1) else q.count)
  | 3 => put d (up ((if a && !q.a then 1 else 0) - (if b && !q.b then 1 else 0)))
  | _ => put d q.count

/-- PULSE_Z_EDGE: each edge stamped; every homing that waits for an index on the input remembers the first one (R351, R352) (DEDUCED, log
entry 59). -/
def Dev.pulseZ (d : Dev) (p off : Nat) (high : Bool) : Dev :=
  let z := high != bit (d.obj (Obj.PI_INVERT p)) 2
  let q := getAt idlePulseIn d.pulseIn p
  let d := { d with pulseIn := setAt d.pulseIn p { q with z := z } }
  if z = q.z || d.obj (Obj.PI_MODE p) = 0 then d
  else
    let d := d.setObj (Obj.PI_Z_TIME p) (d.time80 off)
    forN 128 (fun n d =>
      if d.obj (Obj.INDEX_SOURCE n) = 0x20 + p ∧ (d.gen n).home.phase = 4 ∧ (d.gen n).zEdge = none then
        { d with gens := upd (fun g => { g with zEdge := some (d.now + off) }) d.gens n }
      else d) d

/-- One tick of a pulse output. -/
def Dev.pulseOutTick (d : Dev) (o : Nat) : Dev :=
  let mode := d.obj (Obj.PO_MODE o)
  if mode = 0 then d
  else
    let n := d.obj (Obj.PO_AXIS o)
    let q := getAt idlePulseOut d.pulseOut o
    let back := sgn 32 (raw 32 ((d.rawPos n : Int) - q.issued))
    let dir := decide (0 < back)
    let step := raw 32 ((q.issued : Int) + sgnI back)
    let q' := if mode = 1 then
        if q.a then { q with a := false }
        else if back = 0 then q
        else if q.b != dir then { q with b := dir }
        else { q with a := true, issued := step }
      else if back = 0 then q
      else
        let k := (quadPlace q.a q.b + (if dir then 1 else 3)) % 4
        { q with a := k = 1 || k = 2, b := k = 2 || k = 3, issued := step }
    let left := sgn 32 (raw 32 ((d.rawPos n : Int) - q'.issued))
    let d := { d with pulseOut := setAt d.pulseOut o q' }
    let d := d.setObj (Obj.PO_BACKLOG o) (raw 32 left)
    if left = 0 then d
    else
      let d := d.bump (Obj.PO_OVERRUNS o)
      d.putGen n ((d.gen n).flag 6 true)

/-- The outputs rest at their idle level (R357). -/
def Dev.pulseRest (d : Dev) : Dev := { d with pulseOut := d.pulseOut.map (fun q => { q with a := false, b := false }) }

/-- The levels at a pulse output's pins A and B: what the output drives, inverted where PO_INVERT says (R363). -/
def Dev.pulsePins (d : Dev) (o : Nat) : Bool × Bool :=
  let q := getAt idlePulseOut d.pulseOut o
  let inv := d.obj (Obj.PO_INVERT o)
  (q.a != bit inv 0, q.b != bit inv 1)

/-- POSITION_USER: the integer part of the accumulator, from 40 bits (R359). -/
def Gen.userPosition (g : Gen) : Int := sgn 40 (raw 40 (g.acc / 2 ^ 24))

/-- Master counts until a blend's travel reaches its length, 0 without a blend (R347, R361). -/
def Gen.blendLeft (g : Gen) : Nat := if g.gear.blend then ((g.gear.len : Int) - g.gear.u).toNat else 0

/-- VELOCITY in counts/s, toward −∞: 8,000,000 ticks a second of the velocity register (R325, R359). -/
def Gen.countsPerSecond (g : Gen) : Int := sat 32 (g.vel * 8000000 / 2 ^ 48)

/-- A generator's tick at an instant: a dwell that has run out ends first; the end of a motion is remembered, and a homing phase that ends
at standstill leads to the next (R325, R336, R353). -/
def Dev.genTick (d : Dev) (n : Nat) : Dev :=
  if !(d.gen n).busy then d
  else
    let d := d.dwellEnd n
    let g := d.gen n
    let t := g.tick (d.genCfg n) (d.obj (Obj.DWELL n))
    let t := if g.vel ≠ 0 ∧ t.vel = 0 then { t with restDir := sgnI g.vel, restAt := d.now } else t
    let t := if !bit g.flags 0 && bit t.flags 0 then { t with landFrom := d.now } else t
    (d.putGen n t).homeNext n

/-- One profile tick of every generator and output (R325, R357): no generator ticks in BOOT, CONFIG or SAFE-HOLD, nor in a unit that is no
head (R498, R516); the outputs rest in BOOT and SAFE-HOLD alone, in a unit of any role. -/
def Dev.profileTick (d : Dev) : Dev :=
  let d := d.tickTime.legRestarts
  let head : Bool := d.obj Obj.ROLE == 0 || d.obj Obj.ROLE == 1
  let d := if head && [stReady, stRun, stService].contains d.state then forN 128 (fun n d => d.genTick n) d else d
  if d.state != stBoot && d.state != stSafeHold then forN 8 (fun o d => d.pulseOutTick o) d else d

/-- What a generator does at a sample instant by itself: its gear, its homing's checks, and R354. -/
def Dev.genBoundary (d : Dev) (n : Nat) : Dev := ((d.gearCycle n).homeCheck n).homeFinish n

/-- A boundary passed while the generators run forward: their own part of it, and the mark that n_ff starts from. -/
def Dev.genPass (d : Dev) (ns : List Nat) : Dev :=
  let d := ns.foldl (fun d n => d.genBoundary n) d
  (ns.filter (fun n => d.obj (Obj.SETPOINT_SOURCE n) != 2 && d.obj (Obj.SETPOINT_SOURCE n) != 3)).foldl (fun d n => d.genMark n) d

/-- Every generator run forward m cycles from the copied state, with what each boundary up to the present one brings (R328, R513). -/
def Dev.runForward (d : Dev) (m : Nat) : Dev :=
  let now := d.now
  let ticks := d.cyc.len / 125
  let ns := (List.range 128).filter (fun n => d.obj (Obj.CONFIGURED n) = 1)
  let d := forN m (fun i d =>
    (ns.foldl (fun d n =>
      forN ticks (fun k d => { d with now := now - ((m - i) * ticks - (k + 1)) * 125 }.genTick n) d) d).genPass ns) d
  { d with now := now }

/-! ## Meanings -/


/-- DWELL_END. -/
def execDwellEnd (axis : Fin 128) (s : State) : Res := s.onDev (fun d => d.dwellEnd axis)

/-- LAND_WAIT_EXPIRY. -/
def execLandWaitExpiry (axis : Fin 128) (s : State) : Res := s.onDev (fun d => d.landWait axis)

/-- SWITCH_QUALIFIED. -/
def execSwitchQualified (axis : Fin 128) (which : Fin 3) (s : State) : Res := s.onDev (fun d => d.switchQualified axis which)

/-- SWITCH_LOCKOUT_END. -/
def execSwitchLockoutEnd (axis : Fin 128) (which : Fin 3) (s : State) : Res := s.onDev (fun d => d.lockoutEnd axis which)

/-- PULSE_INPUT_EDGE. -/
def execPulseInputEdge (input : Fin 8) (a b : Bool) (s : State) : Res := s.onDev (fun d => d.pulseEdge input a b)

/-- PULSE_Z_EDGE. -/
def execPulseZEdge (input : Fin 8) (high : Bool) (off : Fin 125) (s : State) : Res := s.onDev (fun d => d.pulseZ input off high)

end Sys2Proof.Machine
end

