-- ==== Sys2Proof/Machine/Axis.lean ====
section
/-! DEFINITION. Machine/Axis.lean: the axis engine but for the lanes (R225 to R259, R283 to R285): feedback intake, prediction,
set-point latches, commits, fault reactions, axis commands, what reaches the wire and the results window at the deadline. -/

namespace Sys2Proof.Machine

/-- Context c. -/
def Dev.axis (d : Dev) (c : Nat) : Axis := getAt initAxis d.axes c

/-- The axis state (R227). -/
def Dev.axisState (d : Dev) (c : Nat) : Nat := d.obj (Obj.AXIS_STATE c)

/-- Contexts are computed: READY, RUN and SERVICE, in a unit that computes its axes (R229, R516); a failed fold is not (R36). -/
def Dev.computes (d : Dev) (c : Nat) : Bool :=
  d.legActive && d.configured c && d.ctl.failedFold != some (d.obj (Obj.CTX_FOLD c))

/-- One more in a counter of B+0x31, which saturates (R253). -/
def Axis.counted1 (a : Axis) (i : Nat) : Axis := { a with counts := setAt a.counts i (min (getAt 0 a.counts i + 1) (2 ^ 32 - 1)) }

/-- A flag of AXIS_FLAGS set for this cycle. -/
def Axis.flag (a : Axis) (i : Nat) : Axis := { a with flags := setBit a.flags i true }

/-! ## Feedback intake (R230, R231) -/

/-- The history seeded after a takeover: x₁ and x₂ behind the accepted position by the copied movement (R513) (DEDUCED, log entry 51). -/
def Axis.seedHist (a : Axis) (x : Fb) : Axis :=
  match a.hist with
  | [y1, y2] =>
    let step := (y1.pos : Int) - y2.pos
    let x1 := raw 32 ((x.pos : Int) - step)
    { a with seed := false, hist := [{ y1 with pos := x1, vdc := x.vdc }, { y2 with pos := raw 32 ((x1 : Int) - step) }] }
  | _ => { a with seed := false }

/-- Count continuity of an axis is unproven: HOMED reads 0 (R354). -/
def Dev.unhome (d : Dev) (n : Nat) : Dev := if n < 128 then d.setObj (Obj.HOMED n) 0 else d

/-- A record that passes the block's checks, for context n. i is its place in the block (DESIGN CHOICE, log entry 50). -/
def Dev.acceptRecord (d : Dev) (n i off : Nat) (tagLow : Nat) (f : Feedback) : Dev :=
  let a := d.axis n
  let cnt := f.count.toNat
  if !d.configured n || a.cur.isSome then d
  else if tagLow != d.cyc.tag % 65536 then d.updAxis n (fun a => { a with lateDetail := 4 })
  else if f.localAxis.val != i then d.updAxis n (fun a => { a with lateDetail := 6 })
  else if a.counted && cnt = a.sampleCount then d.updAxis n (fun a => { a with lateDetail := 5 }.flag 2)
  else
    let skipped := (cnt + 65535 - a.sampleCount) % 65536
    let skip := a.counted && skipped != 0
    let fb : Fb := { pos := f.position.toNat, ia := f.iA.toInt, ib := f.iB.toInt, ic := f.iC.toInt, vdc := f.vdc.toInt }
    let x := d.draw 231
    let ready := min 65534 (x.2.now + off - x.2.cyc.startAt + x.1 % 101)
    let d := x.2.updAxis n (fun a =>
      let a := if a.seed then a.seedHist fb else a
      let a := { a with cur := some fb, sampleCount := cnt, counted := true, auxIn := f.aux.toNat, temp := f.temp.toNat,
                        status := f.status.toNat, readyAt := some ready, lateDetail := 0,
                        work := { a.work with full := if a.work.full = 0 then 1 else a.work.full } }
      if skip then a.flag 14 else a)
    let d := if skip then (d.raise 0xC8 (skipped * 65536 + n)).unhome n else d
    let prev := if a.accepted.head? = some true then a.hist.head?.map (·.pos) else none
    if n < 128 then (d.switchSample n f.aux.toNat f.position.toNat).indexSample n f.aux.toNat f.position.toNat prev else d

/-- A checked uplink block's records handed to their folds (R195, R230). -/
def Dev.intake (d : Dev) (r off : Nat) (b : UplinkBlock) : Dev :=
  b.records.zipIdx.foldl (fun d x => match d.axisAt r b.position.toNat x.2 with
    | some n => d.acceptRecord n x.2 off b.tagLow.toNat x.1
    | none => d) d

/-- A block that failed its check: the detail of event 0xC0 for the axes of its position (R259). -/
def Dev.refuseBlock (d : Dev) (r p : Nat) : Dev :=
  forN 4 (fun l d => match d.axisAt r p l with
    | some n => d.updAxis n (fun a => if a.cur.isNone then { a with lateDetail := 2 } else a)
    | none => d) d

/-- A block that arrives after the deadline of its cycle: event 0xC0 with detail 0x03 for the axes of its position that have no record
(R230, R259) (DESIGN CHOICE, log entry 50). -/
def Dev.lateBlock (d : Dev) (r p : Nat) : Dev :=
  forN 4 (fun l d => match d.axisAt r p l with
    | some n => if d.computes n && (d.axis n).cur.isNone then d.raise 0xC0 (3 * 65536 + n) else d
    | none => d) d

/-! ## Prediction (R233, R234) -/

/-- x̂ from the two last accepted values, under PREDICT (DEDUCED, log entry 51). -/
def predictFb (rule : Nat) (x1 x2 : Fb) : Fb :=
  if rule = 0 then x1
  else
    let lin := fun (a b : Int) => sat24 (a + sat24 (a - b))
    { pos := raw 32 (2 * (x1.pos : Int) - x2.pos), ia := lin x1.ia x2.ia, ib := lin x1.ib x2.ib, ic := lin x1.ic x2.ic,
      vdc := lin x1.vdc x2.vdc }

/-- The prediction errors e_0 to e_4. -/
def fbError (x p : Fb) : List Int :=
  [sgn 32 (raw 32 ((x.pos : Int) - p.pos)), sat24 (x.ia - p.ia), sat24 (x.ib - p.ib), sat24 (x.ic - p.ic), sat24 (x.vdc - p.vdc)]

/-- Whether an error limit is exceeded (R237). -/
def Dev.errBeyond (d : Dev) (c : Nat) (e : List Int) : Bool :=
  decide ((d.obj (Obj.ERR_LIMIT_POSITION c) : Int) < absI (getAt 0 e 0))
    || (List.range 3).any (fun i => decide (d.objI 24 (Obj.ERR_LIMIT_I c i) < absI (getAt 0 e (i + 1))))
    || decide (d.objI 24 (Obj.ERR_LIMIT_V_DC c) < absI (getAt 0 e 4))

/-! ## The sample instant -/

/-- The analogue source (R284). -/
def Dev.analogue (d : Dev) (c : Nat) : Int :=
  let a := d.sense (d.obj (Obj.SETPOINT_PORT c))
  let t := sat24 (gainMul (d.obj (Obj.AN_GAIN c)) (sat24 (a - d.objI 24 (Obj.AN_OFFSET c))))
  let dead := d.objI 24 (Obj.AN_DEADBAND c)
  if absI t ≤ dead then 0 else t - sgnI t * dead

/-- The set-points latched at the sample instant (R283 to R285). -/
def Dev.latchSetPoint (d : Dev) (c : Nat) : Dev :=
  match d.obj (Obj.SETPOINT_SOURCE c) with
  | 2 =>
    let s := d.analogue c
    d.updAxis c (fun a => { a with sp := { pos := a.sp.pos, nff := s, analogue := s, pulse := 0 } })
  | 3 =>
    let p := d.obj (Obj.PI_COUNT (d.obj (Obj.SETPOINT_PORT c)))
    let last := (d.pulseAdvance c :: (d.axis c).pulseAdv).take 8
    let sum := (last.take (d.obj (Obj.SPEED_DIV c))).foldl (· + ·) 0
    let dem := d.pulseDemand c
    d.updAxis c (fun a => { a with pulseOff := !d.stageOn c, pulseDem := dem, pulseAdv := last,
                                   sp := { pos := dem, nff := gainCount (d.obj (Obj.SPEED_SCALE c)) sum, analogue := 0, pulse := p } })
  | _ => (d.updAxis c (fun a => { a with sp := { pos := d.rawPos c, nff := d.genNff c, analogue := 0, pulse := 0 } })).genMark c

/-- A context's cycle begins: history, prediction, set-points, the work of the cycle (R233, R242, R366). No object names a set-point source
for the contexts of the grid-former: their latches hold 0 (DESIGN CHOICE, log entry 60). -/
def Dev.beginCycle (d : Dev) (c : Nat) : Dev :=
  let a := d.axis c
  let hist := match a.cur with
    | some x => (x :: a.hist).take 2
    | none => a.hist
  let accepted := (a.cur.isSome :: a.accepted).take 2
  let pred := match hist with
    | [x1, x2] => if a.skimmed && accepted == [true, true] then some (predictFb a.predict x1 x2) else none
    | _ => none
  let grid := decide (128 ≤ c)
  let d := d.updAxis c (fun a =>
    { a with hist := hist, accepted := accepted, cur := none, pred := pred, readyAt := if grid then some 500 else none, lateDetail := 1,
             flags := 0, due := 0, commitAt := none, recomputed := false, skim := none,
             work := { skim := b2n pred.isSome, full := b2n grid } })
  if grid then d else d.latchSetPoint c

/-- A sample instant for an axis whose stage is off: the generator holds the actual position (R275, R342). -/
def Dev.holdIfOff (d : Dev) (c : Nat) : Dev :=
  if d.stageOn c then d else d.genHeld c ((d.axis c).hist.head?.map (·.pos))

/-! ## Vendor passes -/

/-- What the servo library reads in this cycle, for a feedback. -/
def Dev.servoIn (d : Dev) (c : Nat) (fb : Fb) : ServoIn :=
  let a := d.axis c
  let x1 := a.hist.head?.getD fb
  let x2 := ((a.hist.drop 1).head?).getD x1
  let slow := d.obj (Obj.SLOW_PHASE c)
  { st := a.servo, x1 := x1.pos, x2 := x2.pos, v1 := x1.vdc, fb := fb, sp := a.sp, on := d.stageOn c,
    speed := slowRun d.cyc.tag slow (d.obj (Obj.SPEED_DIV c)), pos := slowRun d.cyc.tag slow (d.obj (Obj.POSITION_DIV c)) }

/-- Entries of a list put into another by key. -/
def putPub (old new : List (Nat × Nat)) : List (Nat × Nat) := new.foldl (fun m e => tput m e.1 e.2) old

/-- What a commit of any context records (R238, R248). -/
def Dev.noteCommit (d : Dev) (c : Nat) : Dev :=
  let d := d.updAxis c (fun a => { a with commitAt := some (d.now - d.cyc.startAt), work := { a.work with full := 3 }, miss := 0 })
  if d.obj Obj.ROLE = 1 then { d with pair := { d.pair with committed := d.pair.committed ++ [c] } } else d

/-- Table entries a commit learned, kept for the COPY frame (R500). -/
def Dev.notePair (d : Dev) (c : Nat) (l : List (Nat × Nat × Int)) : Dev :=
  if d.obj Obj.ROLE = 1 && !l.isEmpty then { d with pair := { d.pair with learned := d.pair.learned ++ [(c, l)] } } else d

/-- A commit of the servo library, in one step (R238). -/
def Dev.commitServo (d : Dev) (c : Nat) (st : Servo) (out : Outputs) (pub : List (Nat × Nat)) (rc : Option (Nat × Int)) : Dev :=
  let d := d.updAxis c (fun a => { a with servo := st, out := out, pub := putPub a.pub pub })
  let d := match rc with
    | some (j, v) => ((d.rcPut (Obj.RC_TABLE c) (d.obj (Obj.RC_LENGTH c)) j v).bump (Obj.RC_VISITS c)).notePair c [(0, j, v)]
    | none => d
  let d := if d.obj (Obj.RC_MODE c) = 0 then d
    else (((d.setObj (Obj.RC_INDEX c) st.rcJ).setObjB (Obj.RC_LEARNING c) st.rcLearning).setObj (Obj.RC_PHASE c) st.phi)
  d.noteCommit c

/-- A commit of the grid-former library. Legs, rotor, tables, events and trips are context 128's alone; any other context publishes its
results (R238, R364, R378, R389). -/
def Dev.commitGrid (d : Dev) (c : Nat) (g : Grid) (legs pub : List (Nat × Nat)) (rc : List (Nat × Nat × Int)) (events : List (Nat × Nat))
    (trip : Nat) : Dev :=
  let d := (d.updAxis c (fun a => { a with pub := putPub a.pub pub }))
  if c ≠ 128 then d.noteCommit c
  else
  let d := { d with gf := g, legReqs := legs.filter (fun e => e.2 != 0) }
  let d := rc.foldl (fun d e => d.rcPut (Obj.GF_RC_TABLE e.1) (d.obj Obj.GF_RC_LENGTH) e.2.1 e.2.2) d
  let d := events.foldl (fun d e => d.raise e.1 e.2) (d.notePair c rc)
  let d := d.noteCommit c
  if trip = 0 then d else d.gfTrip trip

/-! ## Fault reactions (R247 to R252) -/

/-- The state a cause leads to. -/
def reactionState (cause reaction st : Nat) : Nat :=
  if st = 2 ∧ reaction = 2 ∧ (cause = 4 ∨ cause = 5) then 3 else 4

/-- The fault reaction of a cause, at most one decided per axis and cycle; it changes the records of this deadline (DEDUCED, log entry 52). -/
def Dev.faultReaction (d : Dev) (n cause : Nat) : Dev :=
  let st := d.axisState n
  if st = 0 ∨ st = 4 ∨ (d.axis n).due ≠ 0 ∨ 128 ≤ n then d
  else
    let new := reactionState cause (d.obj (Obj.FAULT_REACTION n)) st
    let d := (d.setObj (Obj.AXIS_STATE n) new).setObj (Obj.FAULT_CAUSE n) cause
    let d := d.updAxis n (fun a => { a with due := cause })
    let d := d.raise 0xC6 ((cause * 256 + new) * 65536 + n)
    if new != 3 then d else if (d.gen n).home.phase = 0 then d.genStop n else d.homeFault n 4

/-- Consecutive cycles without an accepted record, this one included. -/
def Dev.lateNow (d : Dev) (n : Nat) : Nat :=
  let a := d.axis n
  if a.cur.isSome || d.cyc.dispatched then a.late else a.late + 1

/-- FEEDBACK_LOST (R249) (DESIGN CHOICE, log entry 50). -/
def Dev.feedbackLost (d : Dev) (n : Nat) : Dev :=
  let a := d.axis n
  if !d.computes n || a.cur.isSome || a.due != 0 || d.lateNow n < d.obj (Obj.FB_LATE_LIMIT n) then d
  else
    let stuck := bit a.flags 2 && (a.late = 0 || a.stuckAll || d.cyc.dispatched)
    let cause := if stuck && (a.stuckAll || a.late = 0) && bit (d.obj (Obj.FREEZE_MODE n)) 0 then 2 else 1
    let st := d.axisState n
    let d := if st = 4 then d
      else (if cause = 2 then d.raise 0xC2 (a.sampleCount * 65536 + n)
        else d.raise 0xC1 (min 65535 (d.lateNow n) * 65536 + n)).unhome n
    (d.updAxis n (fun a => if st = 4 then a else a.flag 1)).faultReaction n cause

/-- The demands R250 compares: of the servo library, or what a customer domain publishes in their place (DEDUCED, log entry 52). -/
def Dev.demands (d : Dev) (n : Nat) : Int × Int :=
  let a := d.axis n
  if d.domOf n = 0 then (a.servo.iqStar, a.servo.nStar)
  else (sgn 24 (tget (fun _ => 0) a.pub (Obj.PUBLISH n 0x32 2)), sgn 24 (tget (fun _ => 0) a.pub (Obj.PUBLISH n 0x33 1)))

/-- The freeze count with this cycle's record (R250) (DEDUCED, log entry 52). -/
def Dev.freezeNow (d : Dev) (n : Nat) : Nat :=
  let a := d.axis n
  match a.cur with
  | none => a.freeze
  | some x =>
    if d.cyc.dispatched then a.freeze
    else
      let mode := d.obj (Obj.FREEZE_MODE n)
      let same := match a.hist.head? with
        | some h => decide (absI (sgn 32 (raw 32 ((x.pos : Int) - h.pos))) ≤ (d.obj (Obj.FREEZE_WINDOW n) : Int))
        | none => false
      let q := d.demands n
      if bit mode 1 && same && decide (d.objI 24 (Obj.FREEZE_TORQUE n) < absI q.1)
          && (!bit mode 2 || decide (d.objI 24 (Obj.FREEZE_SPEED n) < absI q.2)) then a.freeze + 1 else 0

/-- POSITION_FROZEN (R250). -/
def Dev.positionFrozen (d : Dev) (n : Nat) : Dev :=
  let limit := ceilDiv (d.obj (Obj.FREEZE_TIME n) * 1000000) (max 1 d.cyc.len)
  let c := d.freezeNow n
  if !d.computes n || !bit (d.obj (Obj.FREEZE_MODE n)) 1 || c < limit || (d.axis n).due != 0 || d.axisState n = 4 then d
  else ((d.raise 0xC3 (min 65535 c * 65536 + n)).updAxis n (fun a => a.flag 3)).faultReaction n 3

/-- Consecutive cycles without a commit, this one included when it has an accepted record and no context fault, which has a cause of its own
(R247, R248) (DEDUCED, log entry 52). -/
def Dev.missNow (d : Dev) (n : Nat) : Nat :=
  let a := d.axis n
  if d.cyc.dispatched || a.cur.isNone || a.work.full = 3 || bit a.flags 15 then a.miss else a.miss + 1

/-- MISS_LIMIT_REACHED (R248). -/
def Dev.missReached (d : Dev) (n : Nat) : Dev :=
  if !d.computes n || d.missNow n < d.obj (Obj.MISS_LIMIT n) || (d.axis n).work.full = 3 || (d.axis n).cur.isNone || bit (d.axis n).flags 15 then d
  else d.faultReaction n 4

/-- Whether the cause shown has cleared (R251). -/
def Dev.causeCleared (d : Dev) (n : Nat) : Bool :=
  let a := d.axis n
  match d.obj (Obj.FAULT_CAUSE n) with
  | 1 => a.accepted == [true, true]
  | 2 => a.accepted == [true, true]
  | 4 => a.commits == [true, true]
  | 5 => !bit a.status 5
  | _ => true

/-- Whether an axis's generator counts as at standstill (R340, R341). -/
def Dev.stands (d : Dev) (n : Nat) : Bool := if (d.gen n).land then (d.gen n).landStill else !(d.gen n).busy

/-- At a cycle boundary, STOPPING ends in FAULT at standstill, and so does an axis in the controlled stop of a SAFE-HOLD, whatever the STO
step has made of it since (R251, R340, R341) (DEDUCED, log entry 52). -/
def Dev.stoppingEnds (d : Dev) : Dev :=
  forN 128 (fun n d =>
    let st := d.axisState n
    if st = 3 && d.stands n then
      (d.setObj (Obj.AXIS_STATE n) 4).raise 0xC6 ((d.obj (Obj.FAULT_CAUSE n) * 256 + 4) * 65536 + n)
    else if (d.gen n).stopping && d.stands n then
      (d.setObj (Obj.AXIS_STATE n) 4).putGen n { d.gen n with stopping := false }
    else d) d

/-! ## Axis commands (R228) -/

/-- The condition of an AXIS_COMMAND; an axis of a failed fold is in STO and is not enabled again (R36, R228). -/
def Dev.axisCondition (d : Dev) (n cmd : Nat) : Bool :=
  match cmd with
  | 1 => d.state = stRun && d.axisState n = 1 && !bit (d.axis n).status 7 && d.ctl.failedFold != some (d.obj (Obj.CTX_FOLD n))
  | 2 => d.axisState n != 0
  | 3 => d.axisState n = 4 && d.causeCleared n
  | _ => false

/-- An AXIS_COMMAND at its boundary; one whose condition no longer holds does nothing (DEDUCED, log entry 44). -/
def Dev.axisExecute (d : Dev) (n cmd : Nat) : Dev :=
  if !d.axisCondition n cmd then d
  else match cmd with
  | 1 => (d.setObj (Obj.AXIS_STATE n) 2).putGen n ((d.gen n).rest 0)
  | 2 => d.setObj (Obj.AXIS_STATE n) 1
  | _ => (d.setObj (Obj.AXIS_STATE n) 1).setObj (Obj.FAULT_CAUSE n) 0

/-! ## The deadline (R244 to R255) -/

/-- The command record of an axis; outside RUN none is enabled (R227, R229, R244). -/
def Dev.commandRecord (d : Dev) (n l : Nat) : CommandRecord :=
  let o := (d.axis n).out
  let st := d.axisState n
  match if d.state != stRun && (st = 2 || st = 3) then 1 else st with
  | 2 => { localAxis := l, enable := true, dutyA := o.dutyA, dutyB := o.dutyB, dutyC := o.dutyC, aux := o.aux, carrier := o.carrier }
  | 3 => { localAxis := l, enable := true, dutyA := o.dutyA, dutyB := o.dutyB, dutyC := o.dutyC, aux := o.aux, carrier := o.carrier }
  | 4 => { localAxis := l, enable := false, dutyA := 0, dutyB := 0, dutyC := 0, aux := d.obj (Obj.SAFE_AUX n), carrier := o.carrier }
  | _ => { localAxis := l, enable := false, dutyA := 0, dutyB := 0, dutyC := 0, aux := o.aux, carrier := o.carrier }

/-- The pass that would commit has been stopped as an overrun, or waits for the end of a REP to be (R246, R307). -/
def Dev.overran (d : Dev) (c : Nat) : Bool :=
  (d.axis c).work.full = 4 ||
    (getAt initFold d.folds (d.obj (Obj.CTX_FOLD c))).lanes.any (fun l => match l.run with
      | some p => p.ctx == c && p.kind != 1 && p.stop == 2
      | none => false)

/-- What a cycle counts for a context at its deadline (R244 to R250): late, missed, frozen, and the reactions. -/
def Dev.closeCycle (d : Dev) (c : Nat) : Dev :=
  let a := d.axis c
  let grid := decide (128 ≤ c)
  let noRecord := a.cur.isNone && !grid
  let d := if noRecord then
      (d.updAxis c (fun a => { a.flag 0 with skim := none })).raise 0xC0 (a.lateDetail * 65536 + c)
    else d
  let d := if bit a.flags 15 && !grid then d.faultReaction c 6 else d
  let d := if noRecord then d.feedbackLost c else d
  let d := if !grid then d.positionFrozen c else d
  let committed : Bool := a.work.full == 3
  let missed := !noRecord && !committed && !bit a.flags 15 && !d.overran c
  let d := if missed then d.updAxis c (fun a => a.flag 4) else d
  let d := if !noRecord && !committed && !grid then d.missReached c else d
  let d := if !grid && a.cur.isSome && bit a.status 5 &&
      (d.axisState c = 2 || d.axisState c = 1 || (d.axisState c = 3 && d.obj (Obj.FAULT_CAUSE c) != 5)) then d.faultReaction c 5 else d
  let late := d.lateNow c
  let miss := d.missNow c
  let freeze := if grid then 0 else d.freezeNow c
  d.updAxis c (fun a =>
    let a := if committed then a else a.flag 8
    { a with late := if noRecord then late else 0, stuckAll := noRecord && bit a.flags 2 && (a.late = 0 || a.stuckAll),
             miss := if grid then (if committed then 0 else a.miss + 1) else miss, freeze := freeze,
             commits := (committed :: a.commits).take 2 })

/-- PASS_KIND (R255) (DEDUCED, log entry 52). -/
def Dev.passKind (d : Dev) (c : Nat) : Nat :=
  let a := d.axis c
  let f := bit a.flags
  if c < 128 && d.axisState c = 4 then 6
  else if f 15 then 5
  else if f 0 then 3
  else if f 4 then 4
  else if f 5 && a.work.full != 3 then 7
  else if a.recomputed then 2
  else if f 7 then 1
  else 0

/-- The flags of R254 complete. -/
def Dev.axisFlags (d : Dev) (c : Nat) : Nat :=
  let a := d.axis c
  if 128 ≤ c then a.flags
  else
    let on := a.cur.isSome
    let st := d.axisState c
    let f := setBit (setBit a.flags 16 (on && bit a.status 4)) 12 (on && bit a.status 5)
    setBit (setBit (setBit f 11 (on && bit a.status 6)) 10 (on && bit a.status 7)) 9 (st = 3 || st = 4)

/-- What a cycle of any state counts for a context: its counters, event 0xC4 and the costs of its phase (R245, R253, R256). -/
def Dev.countContext (d : Dev) (c : Nat) : Dev :=
  let a := d.axis c
  let φ := d.cyc.tag % 8
  let d := if bit a.flags 4 then d.raise 0xC4 (d.passKind c * 65536 + c) else d
  let d := d.setObj (Obj.FULL_COST c) (d.fullCost c φ)
  let d := if 128 ≤ c then d else d.setObj (Obj.SKIM_COST c) (if a.skimmed then d.skimCost c φ else 0)
  let marks := [(7, 1), (6, 2), (0, 3), (4, 4), (5, 5), (14, 6)].filter (fun m => bit a.flags m.1)
  d.updAxis c (fun a => marks.foldl (fun a m => a.counted1 m.2) a)

/-- The counters as a set shows them; a grid-former context has MISSED_DEADLINES and OVERRUNS alone (R253, R365). -/
def Dev.showCounts (d : Dev) (c : Nat) : Dev :=
  let n := (d.axis c).counts
  let d := (d.setObj (Obj.MISSED_DEADLINES c) (getAt 0 n 4)).setObj (Obj.OVERRUNS c) (getAt 0 n 5)
  if 128 ≤ c then d
  else ((((d.setObj (Obj.SKIMS c) (getAt 0 n 0)).setObj (Obj.SKIM_COMMITS c) (getAt 0 n 1)).setObj (Obj.SQUASHES c)
    (getAt 0 n 2)).setObj (Obj.LATE_COUNT c) (getAt 0 n 3)).setObj (Obj.SAMPLE_SKIPS c) (getAt 0 n 6)

/-- A context's results published (R71, R253, R365). -/
def Dev.publish (d : Dev) (c : Nat) : Dev :=
  let a := d.axis c
  let kind := d.passKind c
  let d := (d.showCounts c).updAxis c (fun a => { a with published := true })
  let d := ((d.setObj (Obj.CYCLE_TAG c) d.cyc.tag).setObj (Obj.AXIS_FLAGS c) (d.axisFlags c)).setObj (Obj.PASS_KIND c) kind
  let d := d.setObj (Obj.COMMIT_TIME c) (match a.commitAt with
    | some t => min t 65535
    | none => 65535)
  let d := a.pub.foldl (fun d e => d.setObj e.1 e.2) d
  if 128 ≤ c then d
  else
    let d := d.setObj (Obj.RES_AXIS_STATE c) (d.axisState c)
    let d := d.setObj (Obj.FEEDBACK_READY c) (match a.readyAt with
      | some t => t
      | none => 65535)
    let d := match a.cur with
      | some x => ((d.setObj (Obj.SAMPLE_COUNT c) a.sampleCount).setObj (Obj.POSITION_FB c) x.pos).setObj (Obj.PREDICTION_ERROR c)
          (match a.pred with
            | some p => if a.work.skim = 3 then raw 32 (getAt 0 (fbError x p) 0) else 0
            | none => 0)
      | none => d.setObj (Obj.PREDICTION_ERROR c) 0
    let r := d.commandRecord c 0
    ((d.setObjI 24 (Obj.DUTY_A c) r.dutyA).setObjI 24 (Obj.DUTY_B c) r.dutyB).setObjI 24 (Obj.DUTY_C c) r.dutyC

/-- SLACK_MIN and the squash reserve of a fold at the deadline (R258, R259). -/
def Dev.closeFold (d : Dev) (f : Nat) : Dev :=
  let x := getAt initFold d.folds f
  let deadline := d.cyc.len - 5000
  let last := (d.contextsOf f).filterMap (fun c => (d.axis c).commitAt)
  let slack := last.foldl (fun m t => min m (deadline - t)) (2 ^ 32 - 1)
  let d := d.setObj (Obj.SLACK_MIN f) (min (d.obj (Obj.SLACK_MIN f)) slack)
  let spent := (List.range 8).filter (fun l =>
    let skims := ((d.contextsOf f).filter (fun c => d.obj (Obj.CTX_LANE c) == l && (d.axis c).skimmed)).length
    decide (min (d.obj (Obj.SQUASH_RESERVE f)) skims < getAt 0 x.squashes l))
  let d := if spent.isEmpty then d else spent.foldl (fun d l => d.raise 0xC9 (l * 65536 + 0xF000 + f)) (d.bump (Obj.SQUASH_OVERFLOWS f))
  { d with folds := upd (fun x => { x with squashes := List.replicate 8 0 }) d.folds f }

/-! ## Meanings -/

/-- FEEDBACK_LOST. -/
def execFeedbackLost (axis : Fin 128) (s : State) : Res := s.onDev (fun d => d.feedbackLost axis)

/-- POSITION_FROZEN. -/
def execPositionFrozen (axis : Fin 128) (s : State) : Res := s.onDev (fun d => d.positionFrozen axis)

/-- MISS_LIMIT_REACHED. -/
def execMissLimitReached (axis : Fin 128) (s : State) : Res := s.onDev (fun d => d.missReached axis)

/-- GF_MISSED_COMMITS. -/
def execGfMissedCommits (s : State) : Res :=
  s.onDev (fun d => let a := d.axis 128
    if d.computes 128 then d.gfMissed (if d.cyc.dispatched || a.work.full = 3 then a.miss else a.miss + 1) else d)

end Sys2Proof.Machine
end

