-- ==== Sys2Proof/Machine/Roles.lean ====
section
/-! DEFINITION. Machine/Roles.lean: the roles of a pair member, the arbiter pins, and which writes the standby receives (R492 to R497,
R507 to R509). -/

namespace Sys2Proof.Machine

/-- The pair changed. -/
def Dev.updPair14 (d : Dev) (f : Pair → Pair) : Dev := { d with pair := f d.pair }

/-- Differences of cycle tags. -/
def tagDiff (a b : Nat) : Nat := raw 32 ((a : Int) - b)

/-! ## Roles and pins (R492, R508, R509) -/

/-- The bank of the arbiter pins has its supply (R580). -/
def Dev.arbPowered (d : Dev) : Bool := getAt false d.ctl.supplies 3

/-- ARB_STALE in the present role and state, as an arbiter reads it: undriven is asserted. -/
def Dev.staleLevel (d : Dev) : Bool := d.state == stSafeHold || 3 ≤ d.obj Obj.ROLE || !d.isl.running
  || (d.state == stBoot && d.ctl.boot != .loaded) || !d.arbPowered

/-- The pins shown and driven: neither without VIO1, and ARB_STALE not while the island is stopped (R508). -/
def Dev.showArb (d : Dev) (hb : Bool) : Dev :=
  let d := d.setObj Obj.ARB_PINS (b2n hb + 2 * b2n d.staleLevel + 4 * b2n d.pair.grant)
  let pins := (if d.arbPowered then some hb else none, if d.arbPowered && d.isl.running then some d.staleLevel else none)
  if d.pair.pins = pins then d else (d.updPair14 (fun p => { p with pins := pins })).emit (.arb pins.1 pins.2)

/-- ARB_STALE and ARB_GRANT shown, ARB_HB as it stands. -/
def Dev.refreshArb (d : Dev) : Dev := d.showArb (bit (d.obj Obj.ARB_PINS) 0)

/-- A role taken. -/
def Dev.setRole (d : Dev) (r : Nat) : Dev :=
  let old := d.obj Obj.ROLE
  if old = r then d.refreshArb
  else ((d.setObj Obj.ROLE r).raise 0x50 (old * 256 + r)).refreshArb

/-- PAIR_MODE as it takes effect: a member without the grant waits (R492, R494). -/
def Dev.pairMode (d : Dev) : Dev :=
  if !d.objB Obj.PAIR_MODE then d.setRole 0
  else if d.obj Obj.ROLE = 0 then (d.updPair14 (fun p => { p with grantAt := if p.grant then some 0 else p.grantAt })).setRole 5
  else d

/-- The heartbeat at a boundary (R509). -/
def Dev.heartbeat (d : Dev) : Dev :=
  let runs := [stReady, stRun, stService].contains d.state && !d.ctl.holding && !d.pair.handover && d.isl.running
    && (!d.isHead || d.pair.drove)
  d.showArb (bit (d.obj Obj.ARB_PINS) 0 != runs)

/-! ## What is copied (R496) -/

/-- An object or DOMAIN value is copied to the standby (R496). -/
def isCopied (k : Nat) : Bool :=
  let i := k / 256
  let out := (0x100 ≤ i && i ≤ 0x3FF) || (0x500 ≤ i && i ≤ 0x51F) || (0x600 ≤ i && i ≤ 0x77F) || (0x790 ≤ i && i ≤ 0x7FF) || (0x800 ≤ i && i ≤ 0x8FF)
  match rowOf k with
  | some r => r.rights != .ro && !out
  | none => false

/-- A write that takes effect noted for the COPY frame of the cycle (R496). -/
def Dev.copyWrite (d : Dev) (k v : Nat) (data : List Byte) : Dev :=
  if d.obj Obj.ROLE = 1 && isCopied k then d.updPair14 (fun p => { p with segs := p.segs ++ [.write k v data] }) else d

/-- The standby is healthy and not stale for R38: an ACK of this cycle or the one before, with RESULT 0x00 and ROLE STANDBY (R507). -/
def Dev.standbyHealthy (d : Dev) : Bool :=
  d.obj Obj.ROLE = 1 && d.obj Obj.PEER_ROLE != 4 && (d.pair.healthy || d.pair.healthyPrev)

end Sys2Proof.Machine
end

