-- ==== Sys2Proof/Machine/Acq.lean ====
section
/-! DEFINITION. Machine/Acq.lean: the acquisition engine: capture channels, trigger units, recorders, the stream, records sealed into the
incident area (R524 to R553). -/

namespace Sys2Proof.Machine

/-! ## Reading the engine -/

/-- Trigger unit u. -/
def Dev.unit (d : Dev) (u : Nat) : TrigUnit := getAt initUnit d.acq.units u

/-- Trigger unit u changed. -/
def Dev.updUnit (d : Dev) (u : Nat) (f : TrigUnit → TrigUnit) : Dev := { d with acq := { d.acq with units := upd f d.acq.units u } }

/-- Recorder r. -/
def Dev.recorder (d : Dev) (r : Nat) : Recorder := getAt initRec d.acq.recs r

/-- Recorder r changed. -/
def Dev.updRec (d : Dev) (r : Nat) (f : Recorder → Recorder) : Dev := { d with acq := { d.acq with recs := upd f d.acq.recs r } }

/-- REC_STATE: 0 IDLE, 1 ARMED, 2 TRIGGERED, 3 COMPLETE (R531). -/
def Dev.recState (d : Dev) (r : Nat) : Nat := d.obj (Obj.REC_STATE r)

/-- A REC_FLAGS bit set (R551). -/
def Dev.recFlag (d : Dev) (r n : Nat) : Dev := d.setObjBit (Obj.REC_FLAGS r) n true

/-- An acquisition time as COMPARE_MODE has it (R539). -/
def acqTime (wrap : Bool) (ns : Nat) : Nat := if wrap then ns32 ns else time80OfNs ns

/-- Channels of a mask. -/
def channelsOf (mask : Nat) : List Nat := bitsSet 48 mask

/-! ## Capture channels (R524 to R526) -/

/-- The source kind of a channel. -/
def Dev.chKind (d : Dev) (c : Nat) : Nat := d.obj (Obj.CH_SOURCE c) >>> 24

/-- A channel takes a results object, and so is known at the dispatch deadline. -/
def Dev.isResult (d : Dev) (c : Nat) : Bool := d.chKind c == 3

/-- The channel word of a source without a value (R525). -/
abbrev noValue : Nat × Bool := (0x80000000, true)

/-- Whether CH_SOURCE names a source that exists, with its detail in range (R524). -/
def sourceOk (v : Nat) : Bool :=
  let x := v % 2 ^ 24
  match v / 2 ^ 24 with
  | 0 | 4 => x == 0
  | 1 | 2 => x < 12
  | 3 =>
    let idx := x / 256
    0xA000 ≤ idx && idx < 0xC200 && 0x30 ≤ idx % 0x40 &&
      (match rowOf x with
        | some r => !r.ty.isDomain && r.ty != .time80
        | none => false)
  | 5 => x < 2
  | 6 => x < 20
  | 7 => x < 256
  | _ => false

/-- The word of a held value: sign-extended where its type is signed (R524). -/
def channelWord (ty : ObjType) (v : Nat) : Nat :=
  match ty with
  | .i8 | .i16 | .i32 | .i64 | .q23 | .q47 => raw 32 (heldValue ty v)
  | _ => wireOf ty v % 2 ^ 32

/-- A results object at the deadline; a unit that publishes none has no value. -/
def Dev.resultWord (d : Dev) (k : Nat) : Nat × Bool :=
  let c := (k / 256 - 0xA000) / 0x40
  if !d.isHead || !d.configured c then noValue
  else match rowOf k with
    | some r => (channelWord (if 2 ≤ d.domOf c && 0x32 ≤ k / 256 % 0x40 then .u32 else r.ty) (d.obj k), false)
    | none => noValue

/-- The fast channel's output of a sense port (R422). -/
def Dev.fastNow (d : Dev) (p : Nat) : Int :=
  let n := d.obj (Obj.FAST_OSR p)
  sat24 (sincValue 2 n (getAt emptySense d.senses p).sh (d.objI 24 (Obj.SENSE_OFFSET p)) / max 1 (n ^ 2))

/-- A bit mask of the numbers below n with a property. -/
def maskOf (n : Nat) (f : Nat → Bool) : Nat := (List.range n).foldl (fun m i => if f i then m + 2 ^ i else m) 0

/-- The present word of a channel, other than a results object. -/
def Dev.channelNow (d : Dev) (fast : Bool) (c : Nat) : Nat × Bool :=
  let x := d.obj (Obj.CH_SOURCE c) % 2 ^ 24
  match d.chKind c with
  | 1 => if d.objB (Obj.SENSE_ENABLE x) then (raw 32 (if fast then d.senseNow x else d.objI 24 (Obj.SENSE_VALUE x)), false) else noValue
  | 2 => if d.objB (Obj.SENSE_ENABLE x) && d.objB (Obj.FAST_ENABLE x) then (raw 32 (d.fastNow x), false) else noValue
  | 4 => (maskOf 16 (fun i => (d.spair i).demanding) + 65536 * maskOf 16 (fun i => (d.spair i).fault), false)
  | 5 => (if x = 0 then 2 ^ 32 - 1 - d.stoGroups else maskOf 32 (fun g => !(d.sgroup g).causes.isEmpty), false)
  | 6 => if d.objB (Obj.LINK_ENABLE x) && (d.leg x).telAt != 0 then (bits (d.obj (Obj.TELEMETRY x)) 55 24, false) else noValue
  | 7 => (d.obj (Obj.OCCURRENCES x), false)
  | _ => noValue

/-- A channel's word at the present sample. -/
def Dev.channelAt (d : Dev) (fast : Bool) (c : Nat) : Nat × Bool :=
  if d.isResult c then d.resultWord (d.obj (Obj.CH_SOURCE c) % 2 ^ 24)
  else if fast then d.channelNow true c
  else getAt noValue d.acq.latched c

/-- A channel can be sampled at a rate: Off at none, fast only kinds 0x01, 0x02 and 0x06. -/
def Dev.rateOk (d : Dev) (fast : Bool) (c : Nat) : Bool :=
  let k := d.chKind c
  k != 0 && (!fast || k = 1 || k = 2 || k = 6)

/-! ## The store's division (R530) -/

/-- Bytes of a recorder's region after its header and gap list. -/
def Dev.regionBytes (d : Dev) (r : Nat) : Nat := d.obj (Obj.REC_SIZE r) * 1024 - 1088

/-- Bytes of the raw area. -/
def Dev.rawBytes (d : Dev) (r : Nat) : Nat := d.regionBytes r * (8 - d.obj (Obj.RED_SHARE r)) / 8

/-- The raw capacity in samples. -/
def Dev.rawCapacity (d : Dev) (r : Nat) : Nat :=
  let n := (channelsOf (d.obj (Obj.REC_CHANNELS r))).length
  if n = 0 then 0 else d.rawBytes r / (4 * n)

/-- The reduction capacity in blocks. -/
def Dev.redCapacity (d : Dev) (r : Nat) : Nat :=
  let n := (channelsOf (d.obj (Obj.REC_CHANNELS r))).length
  if n = 0 then 0 else (d.regionBytes r - d.rawBytes r) / (20 * n)

/-- CAPACITY and STORE_FREE shown. -/
def Dev.showStore (d : Dev) : Dev :=
  let d := forN 4 (fun r d => d.setObj (Obj.REC_CAPACITY r) (d.rawCapacity r)) d
  d.setObj Obj.STORE_FREE (4096 - sumOf ((List.range 4).map (fun r => d.obj (Obj.REC_SIZE r))))

/-- Whether a REC_SIZE meets the division rules beside what the other recorders' sizes can be. -/
def recSizeOk (others : Nat → Nat) (r v : Nat) : Bool :=
  v % 64 == 0 && decide (sumOf ((List.range 4).map (fun i => if i = r then v else others i)) ≤ 4096)

/-! ## The record image (R536 to R538) -/

/-- A gap entry's 16 bytes. -/
def gapBytes (wrap : Bool) (g : Nat × Nat) : List Byte := beBytes 10 (acqTime wrap g.1) ++ beBytes 4 g.2 ++ [0, 0]

/-- A block's bytes: per channel minimum, maximum, mean and sum of squares. -/
def blockBytes (b : RedBlock) : List Byte :=
  b.parts.flatMap (fun p => beBytes 4 (raw 32 p.lo) ++ beBytes 4 (raw 32 p.hi) ++ beBytes 4 (raw 32 (p.sum / (max 1 b.count : Nat)))
    ++ beBytes 8 p.sq)

/-- The 64-byte header. -/
def Dev.recordHeader (d : Dev) (r : Nat) : List Byte :=
  let x := d.recorder r
  beBytes 2 1 ++ beBytes 1 r ++ beBytes 1 (channelsOf x.mask).length ++ beBytes 6 x.mask ++ beBytes 10 (d.obj (Obj.TRIGGER_TIME r))
    ++ beBytes 1 (d.obj (Obj.TRIGGER_FRAC r)) ++ beBytes 2 (d.obj (Obj.TRIGGER_UNITS r)) ++ beBytes 4 x.period
    ++ beBytes 4 (d.obj (Obj.PRE_HELD r)) ++ beBytes 4 (d.obj (Obj.POST_HELD r)) ++ beBytes 2 x.redBlock ++ beBytes 4 x.blocks.length
    ++ beBytes 2 x.gaps.length ++ beBytes 2 (d.obj (Obj.REC_FLAGS r)) ++ beBytes 4 (d.obj Obj.SERIAL) ++ beBytes 1 x.group
    ++ beBytes 1 (b2n x.wrap)
    ++ beBytes 10 (match x.raw.getLast? with
      | some s => acqTime x.wrap s.time
      | none => 0)
    ++ [0, 0, 0]

/-- The record image. -/
def Dev.recordImage (d : Dev) (r : Nat) : List Byte :=
  let x := d.recorder r
  d.recordHeader r ++ x.gaps.flatMap (gapBytes x.wrap) ++ List.replicate (16 * (64 - x.gaps.length)) 0
    ++ x.raw.reverse.flatMap (fun s => s.words.flatMap (beBytes 4)) ++ x.blocks.reverse.flatMap blockBytes

/-- RECORD can be read: the recorder is COMPLETE, or released with its record still held (R531, R536). -/
def Dev.recordReadable (d : Dev) (r : Nat) : Bool := d.recState r == 3 || (d.recState r == 0 && (d.recorder r).holds)

/-! ## Sealed records (R545 to R547) -/

/-- CHAIN_START. -/
def Dev.chainStart (d : Dev) : Nat :=
  crc32c (beBytes 10 d.acq.eraseTime ++ beBytes 8 (d.obj Obj.SERIAL) ++ beBytes 4 d.acq.eraseCount)

/-- The incident area shown in the dictionary. -/
def Dev.showSealed (d : Dev) : Dev :=
  let l := d.acq.sealed
  let total := sumOf (l.map (fun e => e.2.2.length))
  let d := (d.setObj Obj.SEAL_COUNT l.length).setObj Obj.SEAL_SPACE ((8388608 - total) / 1024)
  let d := ((d.setObj Obj.CHAIN_START d.chainStart).setObj Obj.ERASE_COUNT d.acq.eraseCount).setObj Obj.ERASE_TIME d.acq.eraseTime
  forN 32 (fun e d =>
    let x := getAt (0, 0, []) l e
    ((d.setObj (Obj.SEAL_VALUE e) x.1).setObj (Obj.SEAL_TIME e) x.2.1).setBlob (Obj.SEALED_RECORD e) x.2.2) d

/-- The first seal in line starts; the time its read takes is free within 50 ms. -/
def Dev.startSeal (d : Dev) : Dev :=
  match d.acq.seals with
  | [] => d
  | s :: t =>
    if s.running then d
    else
      let x := d.draw 545
      { x.2 with acq := { d.acq with seals := { s with running := true, readTo := d.now + x.1 % 50000001 } :: t } }

/-- A seal requested. -/
def Dev.requestSeal (d : Dev) (r : Nat) : Dev :=
  let s : Seal := { recorder := r, image := d.recordImage r, running := false, readTo := 0 }
  ({ d with acq := { d.acq with seals := d.acq.seals ++ [s] } } : Dev).startSeal

/-- A seal still has this recorder's region to read. -/
def Dev.sealReads (d : Dev) (r : Nat) : Bool := d.acq.seals.any (fun s => s.recorder == r && (!s.running || decide (d.now < s.readTo)))

/-- SEAL_DONE of a seal: entry, result, recorder. -/
def Dev.sealEvent (d : Dev) (entry result r : Nat) : Dev := d.raise 0xA7 (r * 65536 + result * 256 + entry)

/-- SEAL_DONE: the running seal becomes an entry, or the area is full; the next one starts (DEDUCED, log entry 69). -/
def Dev.sealDone (d : Dev) : Dev :=
  match d.acq.seals with
  | [] => d
  | s :: t =>
    if !s.running || d.now < s.readTo then d
    else
      let l := d.acq.sealed
      let e := l.length
      let d := { d with acq := { d.acq with seals := t } }
      let total := sumOf (l.map (fun e => e.2.2.length)) + s.image.length
      let d := if 32 ≤ e ∨ 8388608 < total then d.sealEvent e 1 s.recorder
        else
          let prev := match l.getLast? with
            | some x => x.1
            | none => d.chainStart
          let time := acqTime (d.obj Obj.COMPARE_MODE != 0) (d.timeNs 0)
          let v := crc32c (beBytes 4 prev ++ beBytes 10 time ++ beBytes 8 (d.obj Obj.SERIAL) ++ s.image)
          let d := { d with acq := { d.acq with sealed := l ++ [(v, time, s.image)] } }
          (d.showSealed.recFlag s.recorder 10).sealEvent e 0 s.recorder
      d.startSeal

/-- The seals not finished are abandoned (R544, R546). -/
def Dev.abandonSeals (d : Dev) : Dev :=
  let l := d.acq.seals
  l.foldl (fun d s => d.sealEvent d.acq.sealed.length 2 s.recorder) { d with acq := { d.acq with seals := [] } }

/-- ERASE_SEALED taking effect (R547). -/
def Dev.eraseSealed (d : Dev) : Dev :=
  let n := (d.acq.eraseCount + 1) % 2 ^ 32
  let d := { d with acq := { d.acq with sealed := [], eraseCount := n, eraseTime := acqTime (d.obj Obj.COMPARE_MODE != 0) (d.timeNs 0) } }
  d.showSealed.raise 0xA8 n

/-! ## The stream (R540, R541) -/

/-- A datagram's header. -/
def Dev.streamHeader (d : Dev) (r kind time count : Nat) : List Byte :=
  let x := d.recorder r
  beBytes 2 0x4143 ++ beBytes 1 1 ++ beBytes 1 kind ++ beBytes 1 r ++ beBytes 1 (channelsOf x.mask).length ++ beBytes 4 x.seq
    ++ beBytes 10 (acqTime x.wrap time) ++ beBytes 4 count ++ beBytes 4 x.period ++ [0, 0, 0, 0]

/-- A stream datagram sent through pool channel 6, or none when the channel cannot take it (DEDUCED, log entry 69). -/
def Dev.streamSend (d : Dev) (r : Nat) (bytes : List Byte) : Option Dev :=
  let p := d.obj Obj.STREAM_ETH_PORT
  if !d.udpLeaves p (d.obj Obj.STREAM_ADDRESS) then some d
  else match d.poolTake 6 (bytes.length + 42) with
    | none => none
    | some d =>
      let port := d.obj Obj.STREAM_PORT
      let d := d.ethQueue p { cls := 2, payload := .udp (d.obj Obj.STREAM_ADDRESS) port port bytes, ingress := none, channel := 6,
                              buffers := buffersOf (bytes.length + 42) }
      some (d.updRec r (fun x => { x with seq := (x.seq + 1) % 2 ^ 32 }))

/-- The gap datagram that must go before any other. -/
def Dev.streamGap (d : Dev) (r : Nat) : Dev :=
  match (d.recorder r).sgap with
  | none => d
  | some (t, n) => match d.streamSend r (d.streamHeader r 2 t n) with
    | none => d.poolDrop 6
    | some d => (d.updRec r (fun x => { x with sgap := none })).raise 0xA5 (min n 0xFFFFFF * 256 + r)

/-- The samples collected sent as a datagram, or dropped into the stream gap. -/
def Dev.streamFlush (d : Dev) (r : Nat) : Dev :=
  let x := d.recorder r
  match x.collected with
  | [] => d
  | s :: _ =>
    let d := d.updRec r (fun x => { x with collected := [] })
    let d := d.streamGap r
    let n := x.collected.length
    let lose := fun (d : Dev) => (d.updRec r (fun x => { x with sgap := match x.sgap with
      | some (t, m) => some (t, m + n)
      | none => some (s.time, n) })).recFlag r 11
    if (d.recorder r).sgap.isSome then lose d
    else match d.streamSend r (d.streamHeader r 1 s.time n ++ x.collected.flatMap (fun s => s.words.flatMap (beBytes 4))) with
      | some d => d
      | none => lose (d.poolDrop 6)

/-- A sample collected for the stream. -/
def Dev.streamSample (d : Dev) (r : Nat) (s : Sample) : Dev :=
  let x := d.recorder r
  if !x.stream then d
  else
    let k := 1440 / (4 * max 1 (channelsOf x.mask).length)
    let d := d.updRec r (fun x => { x with collected := x.collected ++ [s] })
    if k ≤ x.collected.length + 1 then d.streamFlush r else d

/-- The trigger datagram. -/
def Dev.streamTrigger (d : Dev) (r point : Nat) : Dev :=
  if !(d.recorder r).stream then d
  else
    let d := (d.streamFlush r).streamGap r
    match d.streamSend r (d.streamHeader r 3 point (d.recorder r).units) with
    | some d => d
    | none => d.poolDrop 6

/-- The stream of a recorder ends. -/
def Dev.streamEnd (d : Dev) (r : Nat) : Dev := (d.streamFlush r).updRec r (fun x => { x with stream := false })

/-! ## Group messages (R542) -/

/-- An acquisition message to every node of both rings. -/
def Dev.sendAcq (d : Dev) (op group time origin : Nat) : Dev :=
  let payload := beBytes 1 op ++ beBytes 1 group ++ beBytes 10 (time80OfNs time) ++ beBytes 4 origin
  [0, 1].foldl (fun d r => if d.ringOpen r && d.isHead then d.sendMessage r [0, 1] 0xFF 7 payload else d) d

/-- The recorder is a group member. -/
def Dev.isMember (d : Dev) (r : Nat) : Bool := bit (d.obj (Obj.REC_MODE r)) 3

/-- SERIAL [31:0]. -/
def Dev.serialLow (d : Dev) : Nat := d.obj Obj.SERIAL % 2 ^ 32

/-! ## Recorders (R531 to R535) -/

/-- The open gap closed into the gap list; REC_GAP (R535). -/
def Dev.closeGap (d : Dev) (r : Nat) : Dev :=
  match (d.recorder r).gap with
  | none => d
  | some g =>
    let full := decide (64 ≤ (d.recorder r).gaps.length)
    let d := d.updRec r (fun x => { x with
      gap := none
      gaps := if full then upd (fun e => (e.1, min (e.2 + g.2) (2 ^ 32 - 1))) x.gaps 63 else x.gaps ++ [g] })
    let d := if full then d.recFlag r 4 else d
    (d.recFlag r 3).raise 0xA4 (min g.2 0xFFFFFF * 256 + r)

/-- A recorder becomes COMPLETE: the block in progress is stored, REC_COMPLETE raised, an auto-seal requested (R533, R534, R545). -/
def Dev.complete (d : Dev) (r : Nat) (aborted : Bool) : Dev :=
  let d := d.closeGap r
  let d := d.updRec r (fun x => { x with
    blocks := (match x.block with
      | some b => b :: x.blocks
      | none => x.blocks).take x.redCap
    block := none
    window := none
    rearm := if bit (d.obj (Obj.REC_MODE r)) 0 && !aborted then 1 else 0 })
  let d := if aborted then d.recFlag r 7 else d
  let d := d.setObj (Obj.REC_STATE r) 3
  let d := d.raise 0xA2 (d.obj (Obj.REC_FLAGS r) * 256 + r)
  if bit (d.obj (Obj.REC_MODE r)) 2 then d.requestSeal r else d

/-- The trigger sample is fixed (R532, R533): what is held before the point and from it on; FIRE of a member from its own unit
(DEDUCED, log entry 69). -/
def Dev.fixTrigger (d : Dev) (r openAt point f : Nat) : Dev :=
  let x := d.recorder r
  let pre := x.raw.filter (fun s => decide (s.time < point))
  let post := x.raw.filter (fun s => decide (point ≤ s.time))
  let late := match x.raw.getLast? with
    | some s => decide (point < s.time)
    | none => false
  let want := d.obj (Obj.PRE_COUNT r)
  let held := min want pre.length
  let posts := d.obj (Obj.POST_COUNT r)
  let after := min posts (x.cap - held)
  let d := d.updRec r (fun x => { x with
    raw := post.drop (post.length - after) ++ pre.take held
    window := some (openAt, point, f)
    toCome := after - post.length })
  let d := ((d.setObj (Obj.TRIGGER_TIME r) (acqTime x.wrap point)).setObj (Obj.TRIGGER_FRAC r) f).setObj (Obj.TRIGGER_UNITS r) x.units
  let d := ((d.setObj (Obj.PRE_HELD r) held).setObj (Obj.POST_HELD r) after).setObj (Obj.REC_STATE r) 2
  let d := if pre.length < want then d.recFlag r 1 else d
  let d := if late then d.recFlag r 2 else d
  let d := d.raise 0xA1 (x.units * 256 + r)
  let d := if x.cap - held < posts then (d.recFlag r 0).raise 0xA3 (min after 0xFFFFFF * 256 + r) else d
  let d := d.streamTrigger r point
  let d := if x.own && d.isMember r && bit (d.obj (Obj.REC_MODE r)) 4 then
      (d.sendAcq 0xA2 x.group point d.serialLow).raise 0xA6 (d.serialLow % 2 ^ 24 * 256)
    else d
  if after ≤ post.length then d.complete r false else d

/-- The window of an ARMED recorder has run its one cycle, and the point has come (R532) (DEDUCED, log entry 69). -/
def Dev.windowEnd (d : Dev) (r : Nat) : Dev :=
  if d.recState r != 1 then d
  else match (d.recorder r).window with
    | none => d
    | some (o, p, f) => if o + d.cyc.len ≤ d.timeNs 0 ∧ p ≤ d.timeNs 0 then d.fixTrigger r o p f else d

/-- A trigger decision a recorder receives: from a unit, from FORCE (unit none), or remote (R532, R543). -/
def Dev.receive (d : Dev) (r : Nat) (unit : Option Nat) (remote : Bool) (point f : Nat) : Dev :=
  let d := d.windowEnd r
  if d.recState r = 1 then
    let d := if remote then d.recFlag r 6 else if unit.isNone then d.recFlag r 5 else d
    d.updRec r (fun x => { x with
      window := match x.window with
        | none => some (d.timeNs 0, point, f)
        | some (o, p, g) => if point < p ∨ (point = p ∧ f < g) then some (o, point, f) else some (o, p, g)
      units := match unit with
        | some u => setBit x.units u true
        | none => x.units
      own := x.own || unit.isSome })
  else if d.recState r = 2 then d.recFlag r 12
  else d

/-- A unit decides: counted, shown, raised, delivered (R529). -/
def Dev.decideUnit (d : Dev) (u point f : Nat) : Dev :=
  let d := d.bump (Obj.TRG_COUNT u)
  let d := d.setObj (Obj.TRG_LAST_TIME u) (acqTime (d.obj Obj.COMPARE_MODE != 0) point)
  let d := d.raise 0xA0 u
  forN 4 (fun r d => if bit (d.obj (Obj.TRG_MASK r)) u then d.receive r (some u) false point f else d) d

/-- A fire that reaches the member recorders of a group; it goes to the standby as a write of SYNC_FIRE (R543). -/
def Dev.fire (d : Dev) (group : Option Nat) (point origin : Nat) : Dev :=
  let d := d.raise 0xA6 (origin % 2 ^ 24 * 256 + 1)
  forN 4 (fun r d =>
    if d.isMember r && (match group with
      | some g => g == (d.recorder r).group
      | none => true) then d.receive r none true point 0 else d) d

/-- A sample added to the reduction (R534). -/
def addReduction (words : List Nat) (b : Option RedBlock) : RedBlock :=
  let v := words.map (sgn 32)
  match b with
  | none => { count := 1, parts := v.map (fun s => { lo := s, hi := s, sum := s, sq := (s * s).toNat }) }
  | some b => { count := b.count + 1, parts := List.zipWith (fun p (s : Int) =>
      { lo := min p.lo s, hi := max p.hi s, sum := p.sum + s, sq := min (p.sq + (s * s).toNat) (2 ^ 64 - 1) }) b.parts v }

/-- A block whose sum of squares has saturated. -/
def RedBlock.saturated (b : RedBlock) : Bool := b.parts.any (fun p => p.sq == 2 ^ 64 - 1)

/-- The write queue drains at 400 MB/s or faster: the excess is free (R535). -/
def Dev.drainQueue (d : Dev) : Dev :=
  let left := d.acq.level - 4 * (d.timeNs 0 - d.acq.levelAt)
  if left = 0 then { d with acq := { d.acq with level := 0, levelAt := d.timeNs 0 } }
  else
    let x := d.draw 535
    { x.2 with acq := { d.acq with level := left - x.1, levelAt := d.timeNs 0 } }

/-- A sample of a recorder at time t; nothing is stored after the decision of a SAFE-HOLD cause (R526, R532 to R535, R540, R544). -/
def Dev.takeSample (d : Dev) (r t : Nat) : Dev :=
  let d := d.windowEnd r
  let x := d.recorder r
  let got := (channelsOf x.mask).map (d.channelAt x.fast)
  let s : Sample := { time := t, words := got.map (·.1) }
  let st := d.recState r
  if (st != 1 && st != 2) || d.ctl.holding then d.streamSample r s
  else
    let d := if got.any (·.2) then d.recFlag r 8 else d
    let b := addReduction s.words x.block
    let d := if b.saturated then d.recFlag r 9 else d
    let d := d.updRec r (fun x => if x.redBlock ≤ b.count then { x with block := none, blocks := (b :: x.blocks).take x.redCap }
                                  else { x with block := some b })
    let d := d.drainQueue
    let size := 40 * s.words.length
    if 655360 < d.acq.level + size then
      let d := (d.bump (Obj.REC_DROPPED r)).updRec r (fun x => { x with gap := match x.gap with
        | some g => some (g.1, g.2 + 1)
        | none => some (t, 1) })
      d.streamSample r s
    else
      let d := { d with acq := { d.acq with level := d.acq.level + size } }
      let d := d.setObj Obj.QUEUE_PEAK (max (d.obj Obj.QUEUE_PEAK) (ceilDiv d.acq.level 10))
      let d := d.closeGap r
      let d := d.updRec r (fun x => { x with raw := if st = 1 then (s :: x.raw).take x.cap else s :: x.raw, toCome := x.toCome - 1 })
      let d := d.streamSample r s
      if st = 2 && (d.recorder r).toCome = 0 then d.complete r false else d

/-! ## Recorder commands (R531) -/

/-- A unit's settings allow its use at an arm: its channel can be sampled at its rate, and levels are in order (R528, R531) (DEDUCED, log entry 69). -/
def Dev.unitOk (d : Dev) (u : Nat) : Bool :=
  d.obj (Obj.TRG_TYPE u) = 0 || d.obj (Obj.TRG_TYPE u) = 7 ||
    (d.rateOk (d.obj (Obj.TRG_RATE u) = 1) (d.obj (Obj.TRG_CHANNEL u)) &&
      (! [4, 6].contains (d.obj (Obj.TRG_TYPE u)) || decide (d.objI 32 (Obj.LEVEL_B u) < d.objI 32 (Obj.LEVEL_A u))))

/-- The status an ARM meets. -/
def Dev.armStatus (d : Dev) (r : Nat) : Nat :=
  let mask := d.obj (Obj.REC_CHANNELS r)
  if ! [0, 3].contains (d.recState r) then 0x0008
  else if d.obj (Obj.REC_SIZE r) = 0 || mask = 0 || decide (d.rawCapacity r ≤ d.obj (Obj.PRE_COUNT r))
      || !(channelsOf mask).all (d.rateOk (d.obj (Obj.REC_RATE r) = 1)) || !(bitsSet 16 (d.obj (Obj.TRG_MASK r))).all d.unitOk then 0x0007
  else if d.sealReads r then 0x0008
  else 0

/-- ARM taking effect: a new record (DEDUCED, log entry 69). -/
def Dev.armRec (d : Dev) (r : Nat) : Dev :=
  let fast := d.obj (Obj.REC_RATE r) = 1
  let div := d.obj (Obj.REC_DIV r)
  let old := d.recorder r
  let streams := bit (d.obj (Obj.REC_MODE r)) 1
  let d := if old.stream && !streams then d.streamEnd r else d
  let x : Recorder := { initRec with
    mask := d.obj (Obj.REC_CHANNELS r), fast := fast, div := div, period := div * (if fast then d.obj Obj.SDCLK_DIV else d.cyc.len)
    cap := d.rawCapacity r, redCap := d.redCapacity r, redBlock := d.obj (Obj.RED_BLOCK r), group := d.obj Obj.SYNC_GROUP
    wrap := d.obj Obj.COMPARE_MODE != 0, holds := true, stream := streams, seq := (d.recorder r).seq
    collected := (d.recorder r).collected, sgap := (d.recorder r).sgap }
  let d := d.updRec r (fun _ => x)
  let d := [Obj.TRIGGER_TIME r, Obj.TRIGGER_FRAC r, Obj.TRIGGER_UNITS r, Obj.PRE_HELD r, Obj.POST_HELD r, Obj.REC_DROPPED r,
    Obj.REC_FLAGS r].foldl (fun d k => d.setObj k 0) d
  let d := d.setObj (Obj.REC_STATE r) 1
  if d.isMember r then d.sendAcq 0xA1 x.group (d.timeNs 0) d.serialLow else d

/-- The record ended early with ABORTED, keeping what is held (DEDUCED, log entry 69). -/
def Dev.abortRec (d : Dev) (r : Nat) : Dev :=
  let x := d.recorder r
  if d.recState r = 1 then
    (((d.setObj (Obj.PRE_HELD r) x.raw.length).setObj (Obj.POST_HELD r) 0).complete r true)
  else if d.recState r = 2 then (d.setObj (Obj.POST_HELD r) (x.raw.length - d.obj (Obj.PRE_HELD r))).complete r true
  else d

/-- The status a REC_COMMAND meets (R531). -/
def Dev.recStatus (d : Dev) (r v : Nat) : Nat :=
  let st := d.recState r
  match v with
  | 1 => d.armStatus r
  | 2 => if st = 1 ∨ st = 2 then 0 else 0x0008
  | 3 => if st = 1 then 0 else 0x0008
  | _ => if st = 3 then 0 else 0x0008

/-- A REC_COMMAND that takes effect at its boundary (DEDUCED, log entry 69). -/
def Dev.recCommand (d : Dev) (r v : Nat) : Dev :=
  if d.recStatus r v != 0 then d
  else match v with
    | 1 => d.armRec r
    | 2 =>
      let d := (d.abortRec r).streamEnd r
      if d.isMember r then d.sendAcq 0xA3 (d.recorder r).group (d.timeNs 0) d.serialLow else d
    | 3 => d.receive r none false (d.timeNs 0) 0
    | 4 => d.requestSeal r
    | _ => ((d.streamEnd r).setObj (Obj.REC_STATE r) 0).updRec r (fun x => { x with rearm := 0 })

/-- A repeat that waits arms again once no seal reads its region (R533). -/
def Dev.rearm (d : Dev) (r : Nat) : Dev :=
  if (d.recorder r).rearm = 2 && d.recState r = 3 && d.armStatus r = 0 then d.armRec r else d

/-- A channel or a unit is used by an ARMED or TRIGGERED recorder (R531). -/
def Dev.recUses (d : Dev) (f : Nat → Bool) : Bool := (List.range 4).any (fun r => (d.recState r = 1 || d.recState r = 2) && f r)

/-- A recorder uses trigger unit u. -/
def Dev.usesUnit (d : Dev) (u r : Nat) : Bool := bit (d.obj (Obj.TRG_MASK r)) u

/-- A recorder uses channel c, itself or through a unit. -/
def Dev.usesChannel (d : Dev) (c r : Nat) : Bool :=
  bit (d.obj (Obj.REC_CHANNELS r)) c ||
    (bitsSet 16 (d.obj (Obj.TRG_MASK r))).any (fun u => d.obj (Obj.TRG_TYPE u) != 0 && d.obj (Obj.TRG_CHANNEL u) = c)

/-! ## Trigger units (R527 to R529) -/

/-- A unit's sample period in ns. -/
def Dev.unitPeriod (d : Dev) (u : Nat) : Nat :=
  d.obj (Obj.TRG_DIV u) * (if d.obj (Obj.TRG_RATE u) = 1 then d.obj Obj.SDCLK_DIV else d.cyc.len)

/-- The levels in the sense of POLARITY: reversed directions stand as negated words; RUNT and SLEW exchange the levels (R528). -/
def Dev.unitLevels (d : Dev) (u : Nat) : Int × Int :=
  let a := d.objI 32 (Obj.LEVEL_A u)
  let b := d.objI 32 (Obj.LEVEL_B u)
  if d.obj (Obj.TRG_POLARITY u) = 0 then (a, b)
  else if [4, 6].contains (d.obj (Obj.TRG_TYPE u)) then (-b, -a) else (-a, -b)

/-- A rising crossing of a level between two samples, as time and f (R527). -/
def crossUp (period t0 : Nat) (s0 s1 l : Int) : Option (Nat × Nat) :=
  if s0 ≤ l ∧ l < s1 then
    let f := (256 * (l - s0) / (s1 - s0)).toNat
    some (t0 + f * period / 256, f)
  else none

/-- A falling crossing. -/
def crossDown (period t0 : Nat) (s0 s1 l : Int) : Option (Nat × Nat) := crossUp period t0 (-s0) (-s1) (-l)

/-- A crossing counted only with its hysteresis met. -/
def counted (ready : List Bool) (i : Nat) (c : Option (Nat × Nat)) : Option (Nat × Nat) := if getAt false ready i then c else none

/-- The hysteresis conditions a word meets: LEVEL_A rising, falling, LEVEL_B rising, falling (R527). -/
def beyond (s a b h : Int) : List Bool := [decide (s ≤ a - h), decide (a + h ≤ s), decide (s ≤ b - h), decide (b + h ≤ s)]

/-- W_MAX has passed by a time without the awaited crossing: the point (R528). -/
def Dev.wmaxPoint (d : Dev) (u t : Nat) : Option Nat :=
  let x := d.unit u
  let w := d.obj (Obj.W_MAX u)
  if w = 0 then none
  else match d.obj (Obj.TRG_TYPE u) with
    | 3 => match x.rise with
      | some r => if r + w ≤ t then some (r + w) else none
      | none => none
    | 5 => if !x.fired && x.ref + w ≤ t then some (x.ref + w) else none
    | _ => none

/-- A unit fires because W_MAX has passed without a crossing up to its last sample. -/
def Dev.wmaxExpiry (d : Dev) (u : Nat) : Dev :=
  if !(d.unit u).running then d
  else match (d.unit u).last with
    | none => d
    | some (t, _) => match d.wmaxPoint u t with
      | none => d
      | some p => (d.updUnit u (fun x => { x with rise := none, fired := true })).decideUnit u p 0

/-- A width within the bounds whose sides are enabled. -/
def widthIn (w lo hi : Nat) : Bool := (lo = 0 || lo ≤ w) && (hi = 0 || w ≤ hi)

/-- A sample of a unit: its crossings, its state, the decision they make (R528). -/
def Dev.unitSample (d : Dev) (u t : Nat) : Dev :=
  let w := (d.channelAt (d.obj (Obj.TRG_RATE u) = 1) (d.obj (Obj.TRG_CHANNEL u))).1
  let s : Int := if d.obj (Obj.TRG_POLARITY u) = 0 then sgn 32 w else -(sgn 32 w)
  let d := d.wmaxExpiry u
  let x := d.unit u
  let l := d.unitLevels u
  let h : Int := d.obj (Obj.HYST u)
  let per := d.unitPeriod u
  let c := match x.last with
    | none => (none, none, none, none)
    | some (t0, s0) => (counted x.ready 0 (crossUp per t0 s0 s l.1), counted x.ready 1 (crossDown per t0 s0 s l.1),
                        counted x.ready 2 (crossUp per t0 s0 s l.2), counted x.ready 3 (crossDown per t0 s0 s l.2))
  let used := [c.1.isSome, c.2.1.isSome, c.2.2.1.isSome, c.2.2.2.isSome]
  let ready := List.zipWith (fun (a : Bool × Bool) n => (a.1 && !a.2) || n) (List.zip x.ready used) (beyond s l.1 l.2 h)
  let lo := d.obj (Obj.W_MIN u)
  let hi := d.obj (Obj.W_MAX u)
  let keep := fun (d : Dev) => d.updUnit u (fun x => { x with last := some (t, s), ready := ready })
  let riseA := match c.1 with
    | some r => some r.1
    | none => x.rise
  let r : Option Nat × Bool × Option (Nat × Nat) := match d.obj (Obj.TRG_TYPE u) with
    | 1 => (none, false, c.1)
    | 2 => match c.2.1, x.rise with
      | some q, some p => (none, false, if widthIn (q.1 - p) lo hi then some q else none)
      | _, _ => (riseA, false, none)
    | 3 => match c.2.1, x.rise with
      | some q, some p => (none, false, if lo != 0 && decide (q.1 - p < lo) then some q
                                        else if hi != 0 && decide (p + hi ≤ q.1) then some (p + hi, 0) else none)
      | _, _ => (riseA, false, none)
    | 4 => match c.2.2.2, x.rise with
      | some q, some _ => (none, false, if x.sawA then none else some q)
      | _, _ => match c.2.2.1 with
        | some q => (some q.1, c.1.isSome, none)
        | none => (x.rise, x.sawA || c.1.isSome, none)
    | 6 =>
      let from_ := match c.2.2.1 with
        | some q => some q.1
        | none => if c.2.2.2.isSome then none else x.rise
      match c.1, from_ with
        | some q, some p => (none, false, if (lo != 0 && decide (q.1 - p < lo)) || (hi != 0 && decide (hi < q.1 - p)) then some q else none)
        | _, _ => (from_, false, none)
    | 5 => (none, false, match c.1 with
      | some q => if !x.fired && hi != 0 && decide (x.ref + hi ≤ q.1) then some (x.ref + hi, 0) else none
      | none => none)
    | _ => (none, false, none)
  let d := (keep d).updUnit u (fun x => { x with rise := r.1, sawA := r.2.1 })
  let d := if d.obj (Obj.TRG_TYPE u) = 5 then match c.1 with
      | some q => d.updUnit u (fun x => { x with ref := q.1, fired := false })
      | none => d
    else d
  match r.2.2 with
  | some (p, f) => d.decideUnit u p f
  | none => d

/-- Occurrences an EVENT unit has not looked at yet, decided one by one (DEDUCED, log entry 69). -/
def Dev.eventUnit (d : Dev) (u : Nat) : Dev :=
  let l := d.occurred.drop (d.unit u).seen
  let d := d.updUnit u (fun x => { x with seen := x.seen + l.length })
  l.foldl (fun d e => if e.1 = d.obj (Obj.TRG_EVENT u) && decide ((d.unit u).startAt ≤ e.2) then d.decideUnit u e.2 0 else d) d

/-- Units start and stop as TRG_TYPE says (R527). -/
def Dev.unitsRun (d : Dev) : Dev :=
  forN 16 (fun u d =>
    let on := d.obj (Obj.TRG_TYPE u) != 0
    if on == (d.unit u).running then d
    else d.updUnit u (fun x => if on then { initUnit with running := true, startAt := d.timeNs 0, ref := d.timeNs 0, seen := x.seen }
                               else { initUnit with seen := x.seen })) d

/-- The samples of every cycle-rate or fast unit that passes a test; a channel whose kind has no samples at the unit's rate brings it none
(R524, R526). -/
def Dev.sampleUnits (d : Dev) (fast : Bool) (p : Nat → Bool) (t : Nat) : Dev :=
  forN 16 (fun u d =>
    let x := d.unit u
    if !x.running || (d.obj (Obj.TRG_RATE u) = 1) != fast || d.obj (Obj.TRG_TYPE u) = 7 || !p (d.obj (Obj.TRG_CHANNEL u))
      || !d.rateOk fast (d.obj (Obj.TRG_CHANNEL u)) then d
    else
      let d := d.updUnit u (fun x => { x with n := x.n + 1 })
      if x.n % max 1 (d.obj (Obj.TRG_DIV u)) = 0 then d.unitSample u t else d) d

/-- The samples of every recorder at a rate that passes a test. -/
def Dev.sampleRecs (d : Dev) (fast : Bool) (p : Nat → Bool) (t : Nat) : Dev :=
  forN 4 (fun r d =>
    let x := d.recorder r
    let st := d.recState r
    if x.fast != fast || !p x.mask || !(st = 1 || st = 2 || (st = 3 && x.stream)) then d
    else
      let d := d.updRec r (fun x => { x with n := x.n + 1 })
      if x.n % max 1 x.div = 0 then d.takeSample r t else d) d

/-- A mask has a channel that takes a results object. -/
def Dev.maskResult (d : Dev) (m : Nat) : Bool := (channelsOf m).any d.isResult

/-- Occurrences that every unit has had before it go; those its decisions raised stay for the units that looked earlier (R528). -/
def Dev.forget (d : Dev) (n : Nat) : Dev :=
  { d with occurred := d.occurred.drop n, acq := { d.acq with units := d.acq.units.map (fun (x : TrigUnit) => { x with seen := x.seen - n }) } }

/-- The engine at a cycle boundary: repeats, units, events, the channels latched and the samples that need no results object. -/
def Dev.acqBoundary (d : Dev) : Dev :=
  let d := forN 4 (fun r d => if (d.recorder r).rearm = 0 then d else (d.updRec r (fun x => { x with rearm := 2 })).rearm r) d
  let d := d.unitsRun
  let n := d.occurred.length
  let d := forN 16 (fun u d => if d.obj (Obj.TRG_TYPE u) = 7 && (d.unit u).running then d.eventUnit u else d) d
  let d := d.forget n
  let d := { d with acq := { d.acq with latched := (List.range 48).map (fun c => if d.isResult c then noValue else d.channelNow false c) } }
  let t := d.cyc.startTime
  let d := d.sampleRecs false (fun m => !d.maskResult m) t
  d.sampleUnits false (fun c => !d.isResult c) t

/-- The engine at the dispatch deadline: the samples that hold a results object. -/
def Dev.acqDispatch (d : Dev) : Dev :=
  let t := d.cyc.startTime
  let d := d.sampleRecs false d.maskResult t
  d.sampleUnits false d.isResult t

/-- The engine at an SDCLK edge (R526, R529). -/
def Dev.acqEdge (d : Dev) (t : Nat) : Dev :=
  if !d.cycling then d
  else
    let d := forN 16 (fun u d => if d.obj (Obj.TRG_TYPE u) = 7 && (d.unit u).running && d.obj (Obj.TRG_RATE u) = 1 then d.eventUnit u else d) d
    let d := d.sampleRecs true (fun _ => true) t
    d.sampleUnits true (fun _ => true) t

/-- The decision of a SAFE-HOLD cause: every record in progress ends; writing to the store stops (R544). -/
def Dev.acqStop (d : Dev) : Dev :=
  forN 4 (fun r d => (d.abortRec r).updRec r (fun x => { x with rearm := 0 })) d

/-- The engine at BOOT: no record; what is sealed stays (R544, R546). -/
def Dev.acqReset (d : Dev) : Dev :=
  ({ d with acq := { initAcq with sealed := d.acq.sealed, eraseCount := d.acq.eraseCount, eraseTime := d.acq.eraseTime } } : Dev).showSealed

/-- A FIRE message from a node: taken for the group, and relayed to every node (R542, R543). -/
def Dev.acqFire (d : Dev) (m : RingMessage) : Dev :=
  let p := m.payload
  if !d.isHead || m.dest != 0 || m.msgType != 7 || p.length != 16 || fieldAt p 0 1 != 0xA2 then d
  else
    let group := fieldAt p 1 1
    let time := fieldAt p 2 10
    let origin := fieldAt p 12 4
    let d := d.fire (some group) (nsOfTime80 time) origin
    let d := d.copyWrite Obj.SYNC_FIRE time []
    d.sendAcq 0xA2 group (nsOfTime80 time) origin

/-! ## Meanings -/

/-- TRIGGER_WMAX_EXPIRY. -/
def execTriggerWmaxExpiry (unit : Fin 16) (s : State) : Res := s.onDev (fun d => d.wmaxExpiry unit)

/-- TRIGGER_WINDOW_END. -/
def execTriggerWindowEnd (recorder : Fin 4) (s : State) : Res := s.onDev (fun d => d.windowEnd recorder)

/-- REC_REARM. -/
def execRecRearm (recorder : Fin 4) (s : State) : Res := s.onDev (fun d => d.rearm recorder)

/-- SEAL_DONE. -/
def execSealDone (s : State) : Res := s.onDev Dev.sealDone

end Sys2Proof.Machine
end

