-- ==== Sys2Proof/Machine/Hold.lean ====
section
/-! DEFINITION. Machine/Hold.lean: the change of the device state, and SAFE-HOLD: the decision of a cause, the controlled stops, the
STO step and the entry at the next boundary (R31, R36 to R39, R340, R341). -/

namespace Sys2Proof.Machine

/-- EVT_N as BOOT is left: low where records wait (R84). -/
def Dev.eventPin (d : Dev) : Dev := if d.state == stBoot && !d.evq.queue.isEmpty then d.emit (.evtN false) else d

/-- RUN is left: the legs rest, and a grid-former that still runs is OFF (R379, R424) (DEDUCED, log entry 60). -/
def Dev.leaveRun (d : Dev) : Dev :=
  if d.state != stRun then d
  else
    let d := if d.gfRunning then d.gfOffNow else d
    d.legsRest

/-- DEVICE_STATE changed, with its event (R29, R95). -/
def Dev.goState (d : Dev) (st : Nat) : Dev :=
  if d.state = st then d else (d.leaveRun.eventPin.setObj Obj.DEVICE_STATE st).raise 0x06 (d.state * 256 + st)

/-- A state request rejected (R29). -/
def Dev.rejectState (d : Dev) (reason : Nat) : Dev := d.setObj Obj.STATE_REJECT reason

/-- The stage of an axis is driven: ENABLED or STOPPING. -/
def Dev.driven (d : Dev) (n : Nat) : Bool := d.axisState n = 2 || d.axisState n = 3

/-- The axes of the failed fold receive STO at the decision: their records carry ENABLE = 0, and a group that lies in the fold alone
enters STO (R36). -/
def Dev.failFold (d : Dev) (f : Nat) : Dev :=
  let l := (List.range 128).filter (fun n => d.driven n && d.obj (Obj.CTX_FOLD n) == f)
  let d := { d with ctl := { d.ctl with failedFold := some f } }
  let d := l.foldl (fun d n => d.setObj (Obj.AXIS_STATE n) 1) d
  if !d.isl.running then d
  else
    let before := d.stoGroups
    let d := forN 32 (fun g d => if d.foldSto g then d.setGroup g 4 else d) d
    (if before = d.stoGroups then d else d.sendHalt d.stoGroups).driveOuts

/-- The controlled stop of an axis at the decision (R340, R341) (DEDUCED, log entry 31). -/
def Dev.controlledStop (d : Dev) (n : Nat) : Dev :=
  if !d.computes n || !d.driven n then d
  else if d.axisState n = 2 && d.obj (Obj.SAFE_HOLD_ACTION n) = 1 then
    let d := if (d.gen n).state = 6 || (d.gen n).state = 7 then d.genStop n else d
    d.putGen n { d.gen n with land := true, landFrom := d.now, landed := false, landWaited := false, stopping := true }
  else
    let d := d.genStop n
    d.putGen n { d.gen n with stopping := true }

/-- Every axis whose stage is driven stands still (R39). -/
def Dev.allStand (d : Dev) : Bool := (List.range 128).all (fun n => !d.driven n || d.stands n)

/-- The STO step of R39: STO for every axis group, and the grid-former's legs OFF (DEDUCED, log entry 31). -/
def Dev.stoStep (d : Dev) : Dev :=
  if !d.ctl.holding || d.ctl.stoDone then d
  else (({ d with ctl := { d.ctl with stoDone := true } } : Dev).stoAll).gfTrip 9

/-- The STO step is due: every axis stands still, or SAFE_HOLD_STOP_TIME has passed. -/
def Dev.stoDue (d : Dev) : Bool :=
  d.ctl.holding && !d.ctl.stoDone &&
    (d.allStand || decide (d.ctl.decidedAt + d.obj Obj.SAFE_HOLD_STOP_TIME * 1000000 ≤ d.now))

/-- Whether SAFE-HOLD is entered at this boundary. -/
def Dev.entersHold (d : Dev) : Bool := d.ctl.holding && (d.ctl.stoDone || d.ctl.handed)

/-- The leg links fall silent (R39, R424) (DEDUCED, log entry 31). -/
def Dev.legsSilent (d : Dev) : Dev :=
  forN 20 (fun n d =>
    let d := d.updLeg n (fun l => { l with linked := false, queue := [], test := none, clearing := false, state := 0 })
    if d.legState n = 3 then d.setObj (Obj.LEG_STATE n) 2 else d) d

/-- Every session closed; writes accepted from them stay accepted (R85). -/
def Dev.dropSessions (d : Dev) : Dev :=
  let d := forN 8 (fun s d => (d.setObj (Obj.SESSION_STATE s) 0).updSession s (fun x => { x with isOpen := false })) d
  { d with tally := { d.tally with pendingBlock := none } }

/-- The entry into SAFE-HOLD at a cycle boundary (R39). Writes and requests that wait take no effect any more (R31, R65) (DEDUCED, log entry 31). -/
def Dev.enterHold (d : Dev) : Dev :=
  let asked := d.tally.queue.any (fun w => w.key == Obj.STATE_REQUEST) || d.tally.timed.any (fun t => t.w.key == Obj.STATE_REQUEST)
  let d := d.abandonSeals.legsSilent
  let d := forN 2 (fun r d => d.updRing r (fun g => { g with sending := false })) d
  let d := d.closeBypasses
  let d := if asked then d.rejectState 3 else d
  let d := { d with tally := { d.tally with queue := [], timed := [] }, tb := { d.tb with running := false } }
  let d := ((d.tickSource true).goState stSafeHold).stoAll
  let d := ((d.showArb (bit (d.obj Obj.ARB_PINS) 0)).connsSilent).dropSessions
  (d.pulseRest.ethFlush 0).ethFlush 1

/-- A cause in the boot sequence: no cycle runs and nothing moves, so the steps of R39 follow at once (R30, R39) (DEDUCED, log entry 31). -/
def Dev.holdInBoot (d : Dev) (cause : Nat) : Dev :=
  let d : Dev := { d with ctl := { d.ctl with holding := true, decidedAt := d.now } }
  ((d.setObj Obj.SAFE_HOLD_CAUSE cause).raise 0x07 cause).stoStep.enterHold

/-- The cause found in this command decided: the sequence of R39, or the end of the heartbeat for a takeover (R38). A later cause, or one
in SAFE-HOLD or while a reset holds the unit, changes nothing (DEDUCED, log entry 31). -/
def Dev.holdDecide (d : Dev) : Dev :=
  match d.ctl.causeReq with
  | none => d
  | some (cause, fold) =>
    let d := { d with ctl := { d.ctl with causeReq := none } }
    if d.state == stBoot && (d.ctl.boot == .lock || d.ctl.boot == .loaded) then d.holdInBoot cause
    else if !d.cycling || d.ctl.holding then d
    else
      let handed := d.standbyHealthy
      let d := if d.ctl.trans = .none then d else d.rejectState 3
      let d := { d with ctl := { d.ctl with holding := true, decidedAt := d.now, trans := .none, handed := handed, stoDone := false } }
      let d := ((d.setObj Obj.SAFE_HOLD_CAUSE cause).raise 0x07 cause).acqStop
      if handed then d
      else
        let d := if cause = 2 then d.failFold fold else d
        if cause = 1 ∨ cause = 2 then forN 128 (fun n d => d.controlledStop n) d else d.stoStep

/-- A command that may find a SAFE-HOLD cause: the cause is decided as it ends. -/
def State.onDevH (s : State) (f : Dev → Dev) : Res := s.onDev (fun d => (f d).holdDecide)

/-- The same for a command that works on the RAM too. -/
def State.onBothH (s : State) (f : Dev × Mem → Dev × Mem) : Res :=
  s.onBoth (fun x => ((f x).1.holdDecide, (f x).2))

/-! ## Meanings of the events that end in a decision alone -/

/-- VCORE_OUT_OF_RANGE: the bypasses close at once, cause 0x0004 (R214, R581). -/
def execVcoreOutOfRange (s : State) : Res := s.onDevH (fun d => d.closeBypasses.reqCause 4 0)

/-- TRANSPORT_HANDSHAKE_TIMEOUT: cause 0x0005 (R37). -/
def execTransportHandshakeTimeout (s : State) : Res := s.onDevH (fun d => d.reqCause 5 0)

/-- FOLD_SCHEDULER_FAULT: cause 0x0002 (R37). -/
def execFoldSchedulerFault (fold : Fin 8) (s : State) : Res := s.onDevH (fun d => d.reqCause 2 fold)

/-- SAFE_HOLD_STO_STEP: the axes stand still, or the stop time has passed (R39). -/
def execSafeHoldStoStep (s : State) : Res := s.onDev (fun d => if d.stoDue then d.stoStep else d)

end Sys2Proof.Machine
end

