-- ==== Sys2Proof/Machine/Lane.lean ====
section
/-! DEFINITION. Machine/Lane.lean: the lanes (R294 to R318): registers, the exposed pipeline, the instructions, passes, banks, the
transcendental unit, the mailbox, the set pass, and overruns. An instruction command runs only while a customer pass stands at
exactly that instruction of its domain; the vendor libraries' passes are computed as a whole at their END (Servo.lean, Grid.lean). -/

namespace Sys2Proof.Machine

/-! ## Instruction words (R297 to R299) -/

/-- A format A word. -/
def wordA (op : Nat) (x : FmtA) : Nat :=
  op * 2 ^ 58 + b2n x.sat * 2 ^ 57 + x.dst.toNat * 2 ^ 52 + x.srcA.toNat * 2 ^ 47 + x.srcB.toNat * 2 ^ 42 + x.srcC.toNat * 2 ^ 37
    + b2n x.vs * 2 ^ 36 + x.shift.toNat * 2 ^ 31 + x.pmove.kind.toNat * 2 ^ 29 + x.pmove.reg.toNat * 2 ^ 24 + x.pmove.pp.toNat * 2 ^ 21
    + x.pmove.pm.toNat * 2 ^ 18 + x.pmove.upd.toNat * 2 ^ 16

/-- A format I word. -/
def wordI (op : Nat) (x : FmtI) : Nat :=
  op * 2 ^ 58 + b2n x.sat * 2 ^ 57 + x.dst.toNat * 2 ^ 51 + x.srcA.toNat * 2 ^ 46 + x.imm.toNat

/-- A format M word. -/
def wordM (op : Nat) (x : FmtM) : Nat :=
  op * 2 ^ 58 + x.reg.toNat * 2 ^ 52 + x.pp.toNat * 2 ^ 49 + x.pm.toNat * 2 ^ 46 + x.upd.toNat * 2 ^ 44 + x.disp.toNat

/-- A format X word. -/
def wordX (op : Nat) (x : FmtX) : Nat := op * 2 ^ 58 + x.dst.toNat * 2 ^ 51 + x.src.toNat * 2 ^ 45

/-- A format C word. -/
def wordC (op : Nat) (x : FmtC) : Nat :=
  op * 2 ^ 58 + x.cond.toNat * 2 ^ 54 + b2n x.lcsrc * 2 ^ 53 + x.count.toNat * 2 ^ 41 + x.target.toNat * 2 ^ 28

/-- A format T word. -/
def wordT (op : Nat) (x : FmtT) : Nat :=
  op * 2 ^ 58 + x.dst.toNat * 2 ^ 52 + x.srcA.toNat * 2 ^ 47 + x.srcB.toNat * 2 ^ 42 + x.func.toNat * 2 ^ 39 + b2n x.slot * 2 ^ 38
    + b2n x.sel * 2 ^ 37

/-! ## Fold memory (R308, R309, R554) -/

/-- The byte address of a byte of a fold's context SRAM. -/
def foldByte (f off : Nat) : Nat := memAddr 0 (8 * f + off / 32768) (off % 32768)

/-- The byte address of a byte of a fold's microcode store. -/
def codeByte (f off : Nat) : Nat := memAddr 1 (2 * f + off / 32768) (off % 32768)

/-- Fold f. -/
def Dev.fold (d : Dev) (f : Nat) : Fold := getAt initFold d.folds f

/-- Lane l of fold f. -/
def Dev.lane (d : Dev) (f l : Nat) : Lane := getAt initLane (d.fold f).lanes l

/-- Lane l of fold f changed. -/
def Dev.updLane (d : Dev) (f l : Nat) (g : Lane → Lane) : Dev :=
  { d with folds := upd (fun x => { x with lanes := upd g x.lanes l }) d.folds f }

/-- The bank in use. -/
def Lane.bank (x : Lane) : Bank := getAt initBank x.banks x.cur

/-- The bank in use changed. -/
def Lane.setBank (x : Lane) (b : Bank) : Lane := { x with banks := setAt x.banks x.cur b }

/-- Bytes read through the checker; none at an unwritten or uncorrectable one (R247). reader is the lane (R577). -/
def readBytes (reader : Nat) : DM → Nat → Nat → Nat → Option Nat × DM
  | x, _, 0, acc => (some acc, x)
  | x, a, n + 1, acc =>
    let r := readChecked x reader a
    match r.1 with
    | .ok => readBytes reader r.2.2 (a + 1) n (acc * 256 + r.2.1)
    | .corrected => readBytes reader r.2.2 (a + 1) n (acc * 256 + r.2.1)
    | _ => (none, r.2.2)

/-- The same for the bytes of a word, whose first has the byte offset off: the value, or the offset of the byte that cannot be read. -/
def readWord (reader : Nat) : DM → Nat → Nat → Nat → Nat → Except Nat Nat × DM
  | x, _, _, 0, acc => (.ok acc, x)
  | x, a, off, n + 1, acc =>
    let r := readChecked x reader a
    match r.1 with
    | .ok => readWord reader r.2.2 (a + 1) (off + 1) n (acc * 256 + r.2.1)
    | .corrected => readWord reader r.2.2 (a + 1) (off + 1) n (acc * 256 + r.2.1)
    | _ => (.error off, r.2.2)

/-! ## The mailbox (R317, R318) -/

/-- The feedback a pass sees: the prediction in a skim pass. -/
def Axis.passFb (a : Axis) (kind : Nat) : Fb :=
  ((if kind = 1 then a.pred else a.cur).getD { pos := 0, ia := 0, ib := 0, ic := 0, vdc := 0 })

/-- What a mailbox word holds at entry. An RW word without a stated content holds a free value. -/
def Dev.mboxEntry (d : Dev) (c kind domain w : Nat) : Nat :=
  let a := d.axis c
  let fb := a.passFb kind
  let x := d.servoIn c fb
  let grid := bit (d.domFlags domain) 2
  if w = 0 then fb.pos
  else if w ≤ 4 then raw 24 (getAt 0 [fb.ia, fb.ib, fb.ic, fb.vdc] (w - 1))
  else if w = 5 then a.auxIn
  else if w = 6 then a.temp
  else if w = 7 then a.sampleCount * 256 + a.status
  else if w = 8 then x.x1
  else if w = 9 then x.x2
  else if w = 0xA then raw 24 x.v1
  else if w = 0xB then d.theta c x.x1
  else if w = 0xC then raw 32 ((d.theta c x.x1 : Int) - d.theta c x.x2)
  else if w = 0x10 then kind + 4 * b2n x.speed + 8 * b2n x.pos + 16 * (d.cyc.tag % 8)
  else if w = 0x11 then d.state * 256 + (if c < 128 then d.axisState c else 0)
  else if w = 0x12 then d.cyc.tag
  else if w = 0x13 then c
  else if w = 0x20 then a.sp.pos
  else if w = 0x21 then raw 24 a.sp.nff
  else if w = 0x22 then raw 24 a.sp.analogue
  else if w = 0x23 then a.sp.pulse
  else if 0x40 ≤ w ∧ w ≤ 0x44 then
    getAt 0 [raw 24 a.out.dutyA, raw 24 a.out.dutyB, raw 24 a.out.dutyC, a.out.aux, a.out.carrier] (w - 0x40)
  else if 0x50 ≤ w ∧ w ≤ 0xBF then tget (fun _ => 0) a.pub (Obj.PUBLISH c (0x32 + (w - 0x50) / 8) ((w - 0x50) % 8))
  else if 0xC0 ≤ w ∧ w ≤ 0x33F then Config.freeValue 318 w % 2 ^ 32
  else if 0x340 ≤ w ∧ w ≤ 0x37F ∧ grid then tget (fun _ => 0) d.legReqs (w - 0x340)
  else if 0x380 ≤ w ∧ w ≤ 0x3BF ∧ grid then d.legTelWord ((w - 0x380) / 4) ((w - 0x380) % 4)
  else if 0x3C0 ≤ w ∧ w ≤ 0x3CB ∧ grid then raw 24 (d.sense (w - 0x3C0))
  else 0

/-- The bits of a mailbox word that a pass may write; 0 for a reserved or RO word. -/
def mboxMask (grid : Bool) (w : Nat) : Nat :=
  if w = 0x14 ∨ w = 0x15 then 0x1F
  else if 0x40 ≤ w ∧ w ≤ 0x42 then 0xFFFFFF
  else if w = 0x43 ∨ w = 0x44 then 0xFFFF
  else if 0x50 ≤ w ∧ w ≤ 0x33F then 0xFFFFFFFF
  else if 0x340 ≤ w ∧ w ≤ 0x37F ∧ grid then getAt 0 [0xF, 0xFFFFFF, 0xFFFF, 0] (w % 4)
  else 0

/-- A mailbox word as the pass reads it. -/
def Dev.mboxRead (d : Dev) (p : Pass) (w : Nat) : Nat :=
  match p.mbox.find? (fun e => e.1 == w) with
  | some e => e.2
  | none => d.mboxEntry p.ctx p.kind p.domain w

/-! ## The exposed pipeline (R302, R311) -/

/-- A landed result in a bank. -/
def Bank.write (b : Bank) (r : LReg) (v : Int) : Bank :=
  match r with
  | .d i => { b with d := setAt b.d i (raw 24 v) }
  | .a i => { b with a := setAt b.a i (acc56 v) }
  | .p i => { b with p := setAt b.p i (raw 17 v) }
  | .m i => { b with m := setAt b.m i (raw 28 v) }
  | .lc => { b with lc := raw 13 v }
  | .flags mask => { b with flags := (List.range 7).foldl (fun f i => if bit mask i then setBit f i (bit (raw 7 v) i) else f) b.flags }

/-- A landed store: window bytes to the shadow region, mailbox words to the pass's copy. -/
def Dev.landStore (d : Dev) (p : Pass) (s : StoreFlight) : Pass :=
  if s.mbox then
    let mask := mboxMask (bit (d.domFlags p.domain) 2) s.addr
    let old := d.mboxRead p s.addr
    let new := if s.width = 24 then old / 2 ^ 24 * 2 ^ 24 + s.val % 2 ^ 24 else s.val
    if mask = 0 then p else { p with mbox := tput p.mbox s.addr (new &&& mask) }
  else { p with shadow := tput p.shadow s.addr (s.val % 256) }

/-- Results whose distance has passed land, oldest producer first. n is the number of the instruction about to issue. -/
def Dev.land (d : Dev) (b : Bank) (p : Pass) (n : Nat) : Bank × Pass :=
  let b := (p.flight.filter (fun x => decide (x.landAt ≤ n))).foldl (fun b x => b.write x.reg x.val) b
  let p := (p.stores.filter (fun s => decide (s.landAt ≤ n))).foldl d.landStore p
  (b, { p with flight := p.flight.filter (fun x => decide (n < x.landAt)), stores := p.stores.filter (fun s => decide (n < s.landAt)) })

/-- Where PC goes after an instruction. -/
inductive PcMove where
  | next | jump (t : Nat) | call (t : Nat) | ret
deriving DecidableEq, Repr

/-- A result an instruction produces: register, value, distance, early accumulator. -/
structure Wr where
  reg : LReg
  val : Int
  dist : Nat
  early : Bool

/-- What an instruction does: results, one load (register, word address, 32 bits), one store (word address, 32 bits, value), one
post-update, the PC, the repetitions it starts, whether it ends the pass. -/
structure Act where
  wr : List Wr
  load : Option (LReg × Nat × Bool)
  store : Option (Nat × Bool × Nat)
  post : Option (Nat × Nat)
  pc : PcMove
  rep : Option Nat
  ends : Bool

/-- An instruction that does nothing. -/
def noAct : Act := { wr := [], load := none, store := none, post := none, pc := .next, rep := none, ends := false }

/-- A store in flight, byte by byte in the window, as a word in the mailbox. -/
def storeFlights (n addr : Nat) (wide : Bool) (v : Nat) : List StoreFlight :=
  if 0x10000 ≤ addr then [{ landAt := n + 2, mbox := true, addr := addr - 0x10000, width := if wide then 32 else 24, val := v }]
  else
    let byte := fun (k : Nat) => ({ landAt := n + 2, mbox := false, addr := 4 * addr + k, width := 8, val := v / 2 ^ (8 * (3 - k)) } : StoreFlight)
    if wide then [byte 0, byte 1, byte 2, byte 3] else [byte 1, byte 2, byte 3]

/-- The distinct words a pass has stored in its window, in flight or landed (R312). -/
def Pass.words (p : Pass) : List Nat :=
  let landed : List Nat := p.shadow.map (fun e => e.1 / 4)
  let flying : List Nat := (p.stores.filter (fun s => !s.mbox)).map (fun s => s.addr / 4)
  (landed ++ flying).eraseDups

/-- A load: the landed shadow, the mailbox copy, or the fold's SRAM through the checker. The error is the byte offset of a context fault:
that of the byte not readable, or of a word outside the ranges (R247, R308) (DEDUCED, log entry 56). -/
def loadWord (x : DM) (f l : Nat) (p : Pass) (addr : Nat) (wide : Bool) : Except Nat Nat × DM :=
  let d := x.1
  let k := if wide then 0 else 1
  if 0x10000 ≤ addr ∧ addr ≤ 0x103FF then
    let v := d.mboxRead p (addr - 0x10000)
    (.ok (if wide then v else v % 2 ^ 24), x)
  else if addr < d.ctxWords p.domain then
    let base := 4 * tget (fun _ => 0) (d.fold f).windows p.ctx
    (List.range (4 - k)).foldl (fun acc i => match acc.1 with
      | .error _ => acc
      | .ok v =>
        let off := 4 * addr + k + i
        match p.shadow.find? (fun e => e.1 == off) with
        | some e => (.ok (v * 256 + e.2), acc.2)
        | none => readWord (8 * f + l) acc.2 (foldByte f (base + off)) off 1 v) (.ok 0, x)
  else if 0x18000 ≤ addr ∧ addr < 0x18000 + d.sharedWords p.domain then
    let base := 4 * tget (fun _ => 0) (d.fold f).shared p.domain
    readWord (8 * f + l) x (foldByte f (base + 4 * (addr - 0x18000) + k)) (4 * addr + k) (4 - k) 0
  else (.error (4 * addr), x)

/-- Whether a store's address may be written at all (R308). -/
def Dev.mayStore (d : Dev) (p : Pass) (addr : Nat) : Bool :=
  addr < d.ctxWords p.domain || (0x10000 ≤ addr && addr ≤ 0x103FF)

/-- The detail of the context fault that a store is: a word outside the ranges by its byte offset, the 257th distinct word by 0xFFFF
(R304, R308, R312). -/
def Dev.badStore (d : Dev) (p : Pass) (s : Option (Nat × Bool × Nat)) : Option Nat :=
  match s with
  | none => none
  | some (addr, _, _) =>
    if !d.mayStore p addr then some (4 * addr)
    else if addr < 0x10000 && !p.words.contains addr && decide (256 ≤ p.words.length) then some 0xFFFF
    else none

/-- Every register result still in flight lands in the pass's bank (R313). -/
def Lane.landAll (x : Lane) : Lane :=
  match x.run with
  | some p => x.setBank (p.flight.foldl (fun b r => b.write r.reg r.val) x.bank)
  | none => x

/-- A pass ends without a commit: its results in flight land in its bank, its shadow, mailbox copy, stores and requests are discarded
(R311, R313, R315). -/
def Dev.dropPass (d : Dev) (f l : Nat) : Dev :=
  d.updLane f l (fun x => { x.landAll with run := none, t0 := none, t1 := none, cur := 1 - x.cur })

/-- The work item of a pass marked as stopped: a skim pass leaves its context to a full pass, another ends the context's cycle. A pass of
an earlier cycle, which a REP has carried past the boundary, leaves this cycle's work alone (R245, R307). -/
def Dev.stopWork (d : Dev) (p : Pass) : Dev :=
  if p.startAt < d.cyc.startAt then d
  else d.updAxis p.ctx (fun a => { a with work := if p.kind = 1 then { a.work with skim := 4 } else { a.work with full := 4 } })

/-- A context fault of context c (R247, R304). -/
def Dev.faultContext (d : Dev) (c detail : Nat) (ends : Bool) : Dev :=
  let d := d.updAxis c (fun a => if ends then { a.flag 15 with work := { a.work with skim := 4, full := 4 }, skim := none } else a.flag 15)
  d.raise 0xC7 (detail % 65536 * 65536 + c)

/-- A context fault in a pass, which stops at once. -/
def Dev.contextFault (d : Dev) (f l : Nat) (p : Pass) (detail : Nat) : Dev :=
  (d.dropPass f l).faultContext p.ctx detail (decide (d.cyc.startAt ≤ p.startAt))

/-- A stop that waited for a REP is carried out (R307). -/
def Dev.endStopped (d : Dev) (f l : Nat) (p : Pass) : Dev := (d.dropPass f l).stopWork p

/-- The issue of one instruction of a customer pass: match, landing, action, memory, PC, REP. A PC that reaches CODE_LENGTH faults at once,
but for the END that stands last (R304) (DEDUCED, log entry 53). -/
def laneIssue (x : DM) (f l word : Nat) (act : Lane → Bank → Pass → Act) : DM :=
  let d := x.1
  match (d.lane f l).run with
  | none => x
  | some p =>
    let lane := d.lane f l
    let bank := lane.bank
    if p.domain < 2 || !d.computes p.ctx then x
    else if d.codeLength p.domain ≤ bank.pc then (d.contextFault f l p 0xFFFF, x.2)
    else
      let base := tget (fun _ => 0) (d.fold f).code p.domain
      let r := readBytes (8 * f + l) x (codeByte f (8 * (base + bank.pc))) 8 0
      match r.1 with
      | none => (r.2.1.reqCause 2 f, r.2.2)
      | some w =>
        if w != word then x
        else
          let d := r.2.1
          let s := d.land bank p p.n
          let b := s.1
          let p := s.2
          let a := act lane b p
          let ld : Except Nat Nat × DM := match a.load with
            | none => (.ok 0, (d, r.2.2))
            | some (_, addr, wide) => loadWord (d, r.2.2) f l p addr wide
          let stack : Option (List Nat) := match a.pc with
            | .call _ => if 2 ≤ b.stack.length then none else some ((b.pc + 1) :: b.stack)
            | .ret => if b.stack.isEmpty then none else some (b.stack.drop 1)
            | _ => some b.stack
          match ld.1, stack with
          | .ok v, some st =>
            match d.badStore p a.store with
            | some detail => (ld.2.1.contextFault f l p detail, ld.2.2)
            | none =>
              let n := p.n
              let flights := a.wr.map (fun w => ({ reg := w.reg, val := w.val, landAt := n + w.dist, early := w.early } : Flight))
              let flights := match a.load with
                | some (reg, _, wide) => flights ++ [{ reg := reg, val := if wide then sgn 32 v else v, landAt := n + 3, early := false }]
                | none => flights
              let flights := match a.post with
                | some (i, q) => flights ++ [{ reg := .p i, val := q, landAt := n + 1, early := false }]
                | none => flights
              let stores := match a.store with
                | some (addr, wide, v) => storeFlights n addr wide v
                | none => []
              let taken := match a.pc with
                | .next => false
                | _ => true
              let inRep := p.rep.isSome
              let left := match p.rep with
                | some k => k - 1
                | none => 0
              let pc := match a.pc with
                | .jump t => t
                | .call t => t
                | .ret => b.stack.headD 0
                | .next => if inRep && left != 0 then b.pc
                  else match a.rep with
                    | some 0 => b.pc + 2
                    | _ => b.pc + 1
              let rep := if inRep then (if left = 0 then none else some left) else match a.rep with
                | some 0 => none
                | r => r
              let p := { p with flight := p.flight ++ flights, stores := p.stores ++ stores, rep := rep, n := n + (if taken then 3 else 1) }
              let d := ld.2.1.updLane f l (fun y => { y.setBank { b with pc := pc, stack := st } with run := some p })
              if d.codeLength p.domain ≤ pc && !a.ends then (d.contextFault f l p 0xFFFF, ld.2.2)
              else if p.stop != 0 && rep.isNone then (d.endStopped f l p, ld.2.2)
              else (d, ld.2.2)
          | .error off, some _ => (ld.2.1.contextFault f l p off, ld.2.2)
          | _, none => (ld.2.1.contextFault f l p 0xFFFF, ld.2.2)

/-! ## Operands and forms (R295, R296) -/

/-- A D register, or Z, by its 5-bit code. -/
def Bank.rd (b : Bank) (c : BitVec 5) : Int := if c.toNat < 16 then sgn 24 (getAt 0 b.d c.toNat) else 0

/-- An A register, or Z. -/
def Bank.ra (b : Bank) (c : BitVec 5) : Int := if 16 ≤ c.toNat ∧ c.toNat < 20 then getAt 0 b.a (c.toNat - 16) else 0

/-- An accumulator as MAC, MSU or WIDEL reads it: the newest early result into it, else the register (R302). -/
def Bank.accum (b : Bank) (p : Pass) (c : BitVec 5) : Int :=
  match (p.flight.filter (fun x => x.early && x.reg == .a (c.toNat - 16))).getLast? with
  | some x => if 16 ≤ c.toNat ∧ c.toNat < 20 then x.val else 0
  | none => b.ra c

/-- sh: the SHIFT field, or the register shift when VS = 1. -/
def Bank.sh (b : Bank) (x : FmtA) : Int :=
  if x.vs then sgn 5 (if x.srcC.toNat < 16 then getAt 0 b.d x.srcC.toNat % 32 else 0) else sgn 5 x.shift.toNat

/-- An exact result num × 2 ^ (−drop), in least significant bits of the destination of w bits, fitted under the S bit: the value and
whether it lay outside (R296) (DEDUCED, log entry 56). -/
def fit (w : Nat) (s : Bool) (num : Int) (drop : Nat) : Int × Bool :=
  let hi : Int := (2 ^ (w - 1) - 1) * 2 ^ drop
  let lo : Int := -(2 ^ (w - 1)) * 2 ^ drop
  let inside := decide (lo ≤ num) && decide (num ≤ hi)
  (if inside then sra num drop else if s then (if 0 < num then 2 ^ (w - 1) - 1 else -(2 ^ (w - 1))) else sgn w (raw w (sra num drop)), !inside)

/-- An exact value shifted by sh, as numerator and dropped bits. -/
def shifted (v sh : Int) : Int × Nat := if 0 ≤ sh then (v * 2 ^ sh.toNat, 0) else (v, (-sh).toNat)

/-- A result for a 5-bit destination; Z discards. d is 2 for D and 3 for A registers (DEDUCED, log entry 56). -/
def wrReg (c : BitVec 5) (v : Int) (early : Bool) : List Wr :=
  if c.toNat < 16 then [{ reg := .d c.toNat, val := v, dist := 2, early := false }]
  else if c.toNat < 20 then [{ reg := .a (c.toNat - 16), val := v, dist := 3, early := early }]
  else []

/-- Flags written: mask and values (DEDUCED, log entry 56). -/
def wrFlags (mask v : Nat) : List Wr := [{ reg := .flags mask, val := v, dist := 2, early := false }]

/-- Z and N of a value. -/
def flagsZN (v : Int) : Nat := b2n (v == 0) + 2 * b2n (decide (v < 0))

/-- Z, N, V and SV of a fitted result; SV is set, never cleared. -/
def wrZNV (r : Int × Bool) : List Wr := wrFlags (if r.2 then 15 else 7) (flagsZN r.1 + (if r.2 then 12 else 0))

/-- V and SV of a fitted result. -/
def wrV (r : Int × Bool) : List Wr := wrFlags (if r.2 then 12 else 4) (if r.2 then 12 else 0)

/-- Whether a condition holds (R301). -/
def condHolds (flags cond : Nat) : Bool :=
  let z := bit flags 0
  let n := bit flags 1
  let v := bit flags 2
  let lu := bit flags 4
  let ll := bit flags 5
  let sb := bit flags 6
  match cond with
  | 0 => true
  | 1 => z
  | 2 => !z
  | 3 => n
  | 4 => !n
  | 5 => !n && !z
  | 6 => n || z
  | 7 => v
  | 8 => !v
  | 9 => bit flags 3
  | 10 => lu
  | 11 => ll
  | 12 => lu || ll
  | 13 => sb
  | 14 => !sb
  | _ => false

/-- The post-update of an address register (R298, R299). -/
def Bank.postUpdate (b : Bank) (pp pm : BitVec 3) (upd : BitVec 2) : Option (Nat × Nat) :=
  let p := getAt 0 b.p pp.toNat
  let m := getAt 0 b.m pm.toNat
  let len := bits m 27 16
  let step := sgn 16 (m % 65536)
  match upd.toNat with
  | 1 => some (pp.toNat, (p + 1) % 2 ^ 17)
  | 2 => some (pp.toNat, (p + 2 ^ 17 - 1) % 2 ^ 17)
  | 3 =>
    if len = 0 then some (pp.toNat, raw 17 (p + step))
    else
      let lg := if len = 1 then 0 else log2Below 12 (len - 1) + 1
      let base := p / 2 ^ lg * 2 ^ lg
      some (pp.toNat, raw 17 (base + (((p - base : Nat) : Int) + step) % len))
  | _ => none

/-- The parallel move of a format A instruction (R298). -/
def Bank.pmove (b : Bank) (x : FmtA) (a : Act) : Act :=
  let q := x.pmove
  let addr := getAt 0 b.p q.pp.toNat
  match q.kind.toNat with
  | 1 => { a with load := some (.d q.reg.toNat, addr, false), post := b.postUpdate q.pp q.pm q.upd }
  | 2 => { a with store := some (addr, false, getAt 0 b.d q.reg.toNat), post := b.postUpdate q.pp q.pm q.upd }
  | _ => a

/-- A format A instruction: its results from the bank and the pass, and its parallel move. -/
def State.fmtA (s : State) (f l op : Nat) (x : FmtA) (g : Bank → Pass → List Wr) : Res :=
  s.onBothH (fun y => laneIssue y f l (wordA op x) (fun _ b p => b.pmove x { noAct with wr := g b p }))

/-- The address of a format M access. -/
def Bank.maddr (b : Bank) (x : FmtM) : Nat := (getAt 0 b.p x.pp.toNat + x.disp.toNat) % 2 ^ 17

/-! ## Register classes of formats I and X (R295) -/

/-- A register by its 6-bit code, for reading: its raw bits. -/
def Bank.r6 (b : Bank) (c : Nat) : Nat :=
  if c < 16 then getAt 0 b.d c
  else if 24 ≤ c ∧ c < 32 then getAt 0 b.p (c - 24)
  else if 32 ≤ c ∧ c < 40 then getAt 0 b.m (c - 32)
  else if c = 40 then b.lc
  else if c = 41 then b.flags
  else 0

/-- A register by its 6-bit code, for writing: A codes and reserved ones take nothing. -/
def wr6 (c v : Nat) : List Wr :=
  let w := fun (r : LReg) => [({ reg := r, val := v, dist := 2, early := false } : Wr)]
  if c < 16 then w (.d c)
  else if 24 ≤ c ∧ c < 32 then w (.p (c - 24))
  else if 32 ≤ c ∧ c < 40 then w (.m (c - 32))
  else if c = 40 then w .lc
  else if c = 41 then w (.flags 127)
  else []

/-! ## Format A (R300) -/

/-- NOP. -/
def execNop (fold lane : Fin 8) (x : FmtA) (s : State) : Res := s.fmtA fold lane 0x00 x (fun _ _ => [])

/-- MPY. -/
def execMpy (fold lane : Fin 8) (x : FmtA) (s : State) : Res :=
  s.fmtA fold lane 0x01 x (fun b _ => wrReg x.dst (b.rd x.srcA * b.rd x.srcB) true)

/-- MAC. -/
def execMac (fold lane : Fin 8) (x : FmtA) (s : State) : Res :=
  s.fmtA fold lane 0x02 x (fun b p =>
    let r := fit 56 x.sat (b.accum p x.dst + b.rd x.srcA * b.rd x.srcB) 0
    wrReg x.dst r.1 true ++ wrV r)

/-- MSU. -/
def execMsu (fold lane : Fin 8) (x : FmtA) (s : State) : Res :=
  s.fmtA fold lane 0x03 x (fun b p =>
    let r := fit 56 x.sat (b.accum p x.dst - b.rd x.srcA * b.rd x.srcB) 0
    wrReg x.dst r.1 true ++ wrV r)

/-- ADDA. -/
def execAdda (fold lane : Fin 8) (x : FmtA) (s : State) : Res :=
  s.fmtA fold lane 0x04 x (fun b _ =>
    let r := fit 56 x.sat (b.ra x.srcA + b.ra x.srcB) 0
    wrReg x.dst r.1 false ++ wrZNV r)

/-- SUBA. -/
def execSuba (fold lane : Fin 8) (x : FmtA) (s : State) : Res :=
  s.fmtA fold lane 0x05 x (fun b _ =>
    let r := fit 56 x.sat (b.ra x.srcA - b.ra x.srcB) 0
    wrReg x.dst r.1 false ++ wrZNV r)

/-- ASHA. -/
def execAsha (fold lane : Fin 8) (x : FmtA) (s : State) : Res :=
  s.fmtA fold lane 0x06 x (fun b _ =>
    let v := shifted (b.ra x.srcA) (b.sh x)
    let r := fit 56 x.sat v.1 v.2
    wrReg x.dst r.1 false ++ wrZNV r)

/-- NARR. -/
def execNarr (fold lane : Fin 8) (x : FmtA) (s : State) : Res :=
  s.fmtA fold lane 0x07 x (fun b _ =>
    let v := shifted (b.ra x.srcA) (b.sh x)
    let r := fit 24 x.sat v.1 (v.2 + 23)
    wrReg x.dst r.1 false ++ wrZNV r)

/-- NARRL. -/
def execNarrl (fold lane : Fin 8) (x : FmtA) (s : State) : Res :=
  s.fmtA fold lane 0x08 x (fun b _ =>
    let v := shifted (b.ra x.srcA) (b.sh x)
    let outside := (fit 24 true v.1 (v.2 + 23)).2
    let low : Int := sra v.1 v.2 % 8388608 * 2
    wrReg x.dst (if x.sat && outside then (if 0 < v.1 then 0xFFFFFE else 0) else low) false)

/-- WIDE. -/
def execWide (fold lane : Fin 8) (x : FmtA) (s : State) : Res :=
  s.fmtA fold lane 0x09 x (fun b _ =>
    let v := shifted (b.rd x.srcA * 8388608) (b.sh x)
    let r := fit 56 x.sat v.1 v.2
    wrReg x.dst r.1 true ++ wrZNV r)

/-- WIDEL. -/
def execWidel (fold lane : Fin 8) (x : FmtA) (s : State) : Res :=
  s.fmtA fold lane 0x0A x (fun b p =>
    let r := fit 56 x.sat (b.accum p x.dst + (raw 24 (b.rd x.srcA) / 2 : Nat)) 0
    wrReg x.dst r.1 true ++ wrV r)

/-- WDIF. -/
def execWdif (fold lane : Fin 8) (x : FmtA) (s : State) : Res :=
  s.fmtA fold lane 0x0B x (fun b _ =>
    let v := sgn 32 (raw 32 (b.ra x.srcA - b.ra x.srcB))
    wrReg x.dst v false ++ wrFlags 3 (flagsZN v))

/-- ADD. -/
def execAdd (fold lane : Fin 8) (x : FmtA) (s : State) : Res :=
  s.fmtA fold lane 0x0C x (fun b _ =>
    let r := fit 24 x.sat (b.rd x.srcA + b.rd x.srcB) 0
    wrReg x.dst r.1 false ++ wrZNV r)

/-- SUB. -/
def execSub (fold lane : Fin 8) (x : FmtA) (s : State) : Res :=
  s.fmtA fold lane 0x0D x (fun b _ =>
    let r := fit 24 x.sat (b.rd x.srcA - b.rd x.srcB) 0
    wrReg x.dst r.1 false ++ wrZNV r)

/-- ABS. -/
def execAbs (fold lane : Fin 8) (x : FmtA) (s : State) : Res :=
  s.fmtA fold lane 0x0E x (fun b _ =>
    let r := fit 24 x.sat (absI (b.rd x.srcA)) 0
    wrReg x.dst r.1 false ++ wrZNV r)

/-- NEG. -/
def execNeg (fold lane : Fin 8) (x : FmtA) (s : State) : Res :=
  s.fmtA fold lane 0x0F x (fun b _ =>
    let r := fit 24 x.sat (-(b.rd x.srcA)) 0
    wrReg x.dst r.1 false ++ wrZNV r)

/-- MIN. -/
def execMin (fold lane : Fin 8) (x : FmtA) (s : State) : Res :=
  s.fmtA fold lane 0x10 x (fun b _ =>
    let sb := decide (b.rd x.srcB < b.rd x.srcA)
    let v := if sb then b.rd x.srcB else b.rd x.srcA
    wrReg x.dst v false ++ wrFlags 67 (flagsZN v + 64 * b2n sb))

/-- MAX. -/
def execMax (fold lane : Fin 8) (x : FmtA) (s : State) : Res :=
  s.fmtA fold lane 0x11 x (fun b _ =>
    let sb := decide (b.rd x.srcA < b.rd x.srcB)
    let v := if sb then b.rd x.srcB else b.rd x.srcA
    wrReg x.dst v false ++ wrFlags 67 (flagsZN v + 64 * b2n sb))

/-- SEL: COND stands in bits [34:31]. -/
def execSel (fold lane : Fin 8) (x : FmtA) (s : State) : Res :=
  s.fmtA fold lane 0x12 x (fun b _ =>
    wrReg x.dst (if condHolds b.flags (x.shift.toNat % 16) then b.rd x.srcA else b.rd x.srcB) false)

/-- LIM (DEDUCED, log entry 56). -/
def execLim (fold lane : Fin 8) (x : FmtA) (s : State) : Res :=
  s.fmtA fold lane 0x13 x (fun b _ =>
    let a := b.rd x.srcA
    let lu := decide (b.rd x.srcC < a)
    let below := decide (a < b.rd x.srcB)
    let v := if lu then b.rd x.srcC else if below then b.rd x.srcB else a
    wrReg x.dst v false ++ wrFlags 51 (flagsZN v + 16 * b2n lu + 32 * b2n (below && !lu)))

/-- ASH. -/
def execAsh (fold lane : Fin 8) (x : FmtA) (s : State) : Res :=
  s.fmtA fold lane 0x14 x (fun b _ =>
    let v := shifted (b.rd x.srcA) (b.sh x)
    let r := fit 24 x.sat v.1 v.2
    wrReg x.dst r.1 false ++ wrZNV r)

/-- CMP. -/
def execCmp (fold lane : Fin 8) (x : FmtA) (s : State) : Res :=
  s.fmtA fold lane 0x15 x (fun b _ => wrFlags 7 (flagsZN (b.rd x.srcA - b.rd x.srcB)))

/-- MOV: D to D, or A to A. -/
def execMov (fold lane : Fin 8) (x : FmtA) (s : State) : Res :=
  s.fmtA fold lane 0x16 x (fun b _ =>
    wrReg x.dst (if 16 ≤ x.dst.toNat ∧ x.dst.toNat < 20 then b.ra x.srcA else b.rd x.srcA) false)

/-! ## Format I (R300) -/

/-- A format I instruction. -/
def State.fmtI (s : State) (f l op : Nat) (x : FmtI) (g : Bank → List Wr) : Res :=
  s.onBothH (fun y => laneIssue y f l (wordI op x) (fun _ b _ => { noAct with wr := g b }))

/-- LDI. -/
def execLdi (fold lane : Fin 8) (x : FmtI) (s : State) : Res := s.fmtI fold lane 0x18 x (fun _ => wr6 x.dst.toNat x.imm.toNat)

/-- ADDI: a P destination takes its source from the P register named by the same code (DEDUCED, log entry 56). -/
def execAddi (fold lane : Fin 8) (x : FmtI) (s : State) : Res :=
  s.fmtI fold lane 0x19 x (fun b =>
    let c := x.dst.toNat
    if 24 ≤ c ∧ c < 32 then wr6 c ((getAt 0 b.p (x.srcA.toNat - 24) + x.imm.toNat % 2 ^ 17) % 2 ^ 17)
    else
      let r := fit 24 x.sat (b.rd x.srcA + sgn 24 (x.imm.toNat % 2 ^ 24)) 0
      (if c < 16 then [({ reg := .d c, val := r.1, dist := 2, early := false } : Wr)] else []) ++ wrZNV r)

/-- CMPI. -/
def execCmpi (fold lane : Fin 8) (x : FmtI) (s : State) : Res :=
  s.fmtI fold lane 0x1A x (fun b => wrFlags 7 (flagsZN (b.rd x.srcA - sgn 24 (x.imm.toNat % 2 ^ 24))))

/-! ## Format M (R300) -/

/-- A format M instruction. -/
def State.fmtM (s : State) (f l op : Nat) (x : FmtM) (g : Bank → Act) : Res :=
  s.onBothH (fun y => laneIssue y f l (wordM op x) (fun _ b _ => g b))

/-- LD. -/
def execLd (fold lane : Fin 8) (x : FmtM) (s : State) : Res :=
  s.fmtM fold lane 0x20 x (fun b =>
    { noAct with load := some (.d x.reg.toNat, b.maddr x, false), post := b.postUpdate x.pp x.pm x.upd })

/-- ST. -/
def execSt (fold lane : Fin 8) (x : FmtM) (s : State) : Res :=
  s.fmtM fold lane 0x21 x (fun b =>
    { noAct with store := some (b.maddr x, false, raw 24 (b.rd x.reg)), post := b.postUpdate x.pp x.pm x.upd })

/-- LDW. -/
def execLdw (fold lane : Fin 8) (x : FmtM) (s : State) : Res :=
  s.fmtM fold lane 0x22 x (fun b =>
    { noAct with load := some (.a (x.reg.toNat - 16), b.maddr x, true), post := b.postUpdate x.pp x.pm x.upd })

/-- STW. -/
def execStw (fold lane : Fin 8) (x : FmtM) (s : State) : Res :=
  s.fmtM fold lane 0x23 x (fun b =>
    { noAct with store := some (b.maddr x, true, raw 32 (b.ra x.reg)), post := b.postUpdate x.pp x.pm x.upd })

/-- MBR. -/
def execMbr (fold lane : Fin 8) (x : FmtM) (s : State) : Res :=
  s.fmtM fold lane 0x24 x (fun _ => { noAct with load := some (.d x.reg.toNat, 0x10000 + x.disp.toNat % 1024, false) })

/-- MBW. -/
def execMbw (fold lane : Fin 8) (x : FmtM) (s : State) : Res :=
  s.fmtM fold lane 0x25 x (fun b => { noAct with store := some (0x10000 + x.disp.toNat % 1024, false, raw 24 (b.rd x.reg)) })

/-- MBRW. -/
def execMbrw (fold lane : Fin 8) (x : FmtM) (s : State) : Res :=
  s.fmtM fold lane 0x26 x (fun _ => { noAct with load := some (.a (x.reg.toNat - 16), 0x10000 + x.disp.toNat % 1024, true) })

/-- MBWW. -/
def execMbww (fold lane : Fin 8) (x : FmtM) (s : State) : Res :=
  s.fmtM fold lane 0x27 x (fun b => { noAct with store := some (0x10000 + x.disp.toNat % 1024, true, raw 32 (b.ra x.reg)) })

/-- MOVX (DEDUCED, log entry 56). -/
def execMovx (fold lane : Fin 8) (x : FmtX) (s : State) : Res :=
  s.onBothH (fun y => laneIssue y fold lane (wordX 0x28 x) (fun _ b _ => { noAct with wr := wr6 x.dst.toNat (b.r6 x.src.toNat) }))

/-! ## Format C (R300, R303 to R306) -/

/-- A format C instruction. -/
def State.fmtC (s : State) (f l op : Nat) (x : FmtC) (g : Bank → Pass → Act) : Res :=
  s.onBothH (fun y => laneIssue y f l (wordC op x) (fun _ b p => g b p))

/-- BR. -/
def execBr (fold lane : Fin 8) (x : FmtC) (s : State) : Res :=
  s.fmtC fold lane 0x30 x (fun b _ => if condHolds b.flags x.cond.toNat then { noAct with pc := .jump x.target.toNat } else noAct)

/-- CALL. -/
def execCall (fold lane : Fin 8) (x : FmtC) (s : State) : Res :=
  s.fmtC fold lane 0x31 x (fun b _ => if condHolds b.flags x.cond.toNat then { noAct with pc := .call x.target.toNat } else noAct)

/-- RET. -/
def execRet (fold lane : Fin 8) (x : FmtC) (s : State) : Res :=
  s.fmtC fold lane 0x32 x (fun b _ => if condHolds b.flags x.cond.toNat then { noAct with pc := .ret } else noAct)

/-- REP: COUNT + 1 executions, or LC bounded by REP_LC_MAX. -/
def execRep (fold lane : Fin 8) (x : FmtC) (s : State) : Res :=
  s.onBothH (fun y => laneIssue y fold lane (wordC 0x33 x) (fun _ b p =>
    let cap := hdr (y.1.image p.domain) 22 2
    if x.lcsrc then { noAct with rep := some (min b.lc cap), wr := if cap < b.lc then wrFlags 12 12 else [] }
    else { noAct with rep := some (x.count.toNat + 1) }))

/-- CLRF. -/
def execClrf (fold lane : Fin 8) (x : FmtC) (s : State) : Res := s.fmtC fold lane 0x35 x (fun _ _ => { noAct with wr := wrFlags 8 0 })

/-! ## Format T and the transcendental unit (R314 to R316) -/

/-- A result slot of a lane set. -/
def Lane.setSlot (y : Lane) (slot : Bool) (t : Option TuSlot) : Lane := if slot then { y with t1 := t } else { y with t0 := t }

/-- A result slot. -/
def Lane.slot (y : Lane) (slot : Bool) : Option TuSlot := if slot then y.t1 else y.t0

/-- TREQ: the older request of the slot is discarded. -/
def treq (y : DM) (f l : Nat) (x : FmtT) : DM :=
  let before := ((y.1.lane f l).run.map (·.n)).getD 0
  let t : Option TuSlot := match (y.1.lane f l).run with
    | some p => let b := (y.1.land (y.1.lane f l).bank p p.n).1
      some { func := x.func.toNat, a := raw 24 (b.rd x.srcA), b := raw 24 (b.rd x.srcB), ready := false, r0 := 0, r1 := 0, bad := false }
    | none => none
  let z := laneIssue y f l (wordT 0x38 x) (fun _ _ _ => noAct)
  match (z.1.lane f l).run with
  | some p => if p.n = before then z else (z.1.updLane f l (fun y => y.setSlot x.slot t), z.2)
  | none => z

/-- TREQ. -/
def execTreq (fold lane : Fin 8) (x : FmtT) (s : State) : Res := s.onBothH (fun y => treq y fold lane x)

/-- TRD: waits while the slot's results are not ready; a slot without a request reads 0 and sets V and SV. -/
def execTrd (fold lane : Fin 8) (x : FmtT) (s : State) : Res :=
  s.onBothH (fun y =>
    let waits := match (y.1.lane fold lane).slot x.slot with
      | some t => !t.ready
      | none => false
    if waits then y
    else laneIssue y fold lane (wordT 0x39 x) (fun lane _ _ =>
      let r : Nat × Bool := match lane.slot x.slot with
        | some t => (if x.sel then t.r1 else t.r0, t.bad)
        | none => (0, true)
      let res : List Wr := if x.dst.toNat < 16 then [{ reg := .d x.dst.toNat, val := r.1, dist := 3, early := false }] else []
      { noAct with wr := res ++ wrV (0, r.2) }))

/-- TRANSCENDENTAL_RESULT. -/
def Dev.tuReady (d : Dev) (f l : Nat) (slot : Bool) : Dev :=
  d.updLane f l (fun y => y.setSlot slot ((y.slot slot).map (fun t =>
    let r := tuResult t.func t.a t.b
    { t with ready := true, r0 := r.1, r1 := r.2.1, bad := r.2.2 })))

/-- TRANSCENDENTAL_RESULT. -/
def execTranscendentalResult (fold lane : Fin 8) (slot : Bool) (s : State) : Res := s.onDevH (fun d => d.tuReady fold lane slot)

/-! ## Passes: start, end, commit (R242, R310, R311, R313) -/

/-- A work item of a lane: ready time, context, kind: 0 full, 1 skim, 2 set pass (DEDUCED, log entry 53). -/
def Dev.items (d : Dev) (f l : Nat) : List (Nat × Nat × Nat) :=
  ((d.contextsOf f).filter (fun c => d.obj (Obj.CTX_LANE c) == l && d.computes c)).filterMap (fun c =>
    let a := d.axis c
    if a.work.skim = 1 then some (0, c, 1)
    else if a.work.full != 1 then none
    else some (a.readyAt.getD 0, c, if a.work.skim = 3 then 2 else 0))

/-- The item that became ready first, the lower context number on a tie (DEDUCED, log entry 53). -/
def firstItem (l : List (Nat × Nat × Nat)) : Option (Nat × Nat × Nat) :=
  match l with
  | [] => none
  | x :: t => some (t.foldl (fun a b => if b.1 < a.1 then b else a) x)

/-- D0 to D15 from context words 0 to 15, or the offset of the byte that cannot be read (R247, R294, R313). -/
def preload (x : DM) (f l c : Nat) : Except Nat (List Nat) × DM :=
  let base := 4 * tget (fun _ => 0) (x.1.fold f).windows c
  (List.range 16).foldl (fun acc i => match acc.1 with
    | .error _ => acc
    | .ok ds =>
      let r := readWord (8 * f + l) acc.2 (foldByte f (base + 4 * i + 1)) (4 * i + 1) 3 0
      (match r.1 with
        | .ok v => .ok (ds ++ [v])
        | .error off => .error off, r.2)) (.ok [], x)

/-- A pass started in a lane's bank. A vendor pass reads its window in the preload alone; what else it reads there the spec does not say
(R247, R313) (DEDUCED, log entry 53). -/
def startPass (x : DM) (f l c kind : Nat) : DM :=
  let d := x.1
  let dom := d.domOf c
  let p : Pass := { ctx := c, kind := kind, domain := dom, startAt := d.now, n := 0, flight := [], stores := [], shadow := [], mbox := [],
                    rep := none, stop := 0 }
  let go := fun (d : Dev) (b : Bank) => d.updLane f l (fun y => { y.setBank b with run := some p, t0 := none, t1 := none })
  let mark := fun (d : Dev) => d.updAxis c (fun a =>
    { a with work := if kind = 1 then { a.work with skim := 2 } else { a.work with full := 2 } })
  let r := preload x f l c
  match r.1 with
  | .error off => ((mark (go r.2.1 initBank)).contextFault f l p off, r.2.2)
  | .ok ds =>
    let pc := if dom < 2 then 0 else hdr (d.image dom) (if kind = 1 then 10 else 8) 2
    (mark (go r.2.1 { initBank with d := ds, pc := pc }), r.2.2)

/-- PASS_START. -/
def passStart (x : DM) (f l : Nat) : DM :=
  let d := x.1
  if (d.lane f l).run.isSome || d.cyc.dispatched then x
  else match firstItem (d.items f l) with
    | some (_, c, kind) => if kind = 2 then x else startPass x f l c kind
    | none => x

/-- PASS_START. -/
def execPassStart (fold lane : Fin 8) (s : State) : Res := s.onBothH (fun x => passStart x fold lane)

/-- A customer pass's shadow and mailbox committed, in one step (R238). -/
def commitCode (x : DM) (f c : Nat) (stores mbox : List (Nat × Nat)) : DM :=
  let d := x.1
  let base := 4 * tget (fun _ => 0) (d.fold f).windows c
  let m := stores.foldl (fun (m : Mem) e => m.put (foldByte f (base + e.1)) e.2) x.2
  let o := (d.axis c).out
  let w := fun (k dflt : Nat) => match mbox.find? (fun e => e.1 == k) with
    | some e => e.2
    | none => dflt
  let out : Outputs := { dutyA := sgn 24 (w 0x40 (raw 24 o.dutyA)), dutyB := sgn 24 (w 0x41 (raw 24 o.dutyB)),
                         dutyC := sgn 24 (w 0x42 (raw 24 o.dutyC)), aux := w 0x43 o.aux, carrier := w 0x44 o.carrier }
  let pub := (mbox.filter (fun e => decide (0x50 ≤ e.1) && decide (e.1 ≤ 0xBF))).map (fun e =>
    (Obj.PUBLISH c (0x32 + (e.1 - 0x50) / 8) ((e.1 - 0x50) % 8), e.2))
  let d := d.updAxis c (fun a => { a with out := out, pub := putPub a.pub pub })
  let legWords := mbox.filter (fun e => decide (0x340 ≤ e.1) && decide (e.1 ≤ 0x37F))
  let legs := legWords.foldl (fun l e => tset (fun _ => 0) l (e.1 - 0x340) e.2) d.legReqs
  let d := if c = 128 then { d with legReqs := legs } else d
  let d := if d.obj Obj.ROLE = 1 then { d with pair := { d.pair with stores := d.pair.stores ++ [(c, stores)] } } else d
  (d.noteCommit c, m)

/-- A result committed. -/
def commitResult (x : DM) (f c : Nat) (r : PassResult) : DM :=
  match r with
  | .servo st out pub rc _ => (x.1.commitServo c st out pub rc, x.2)
  | .grid g legs pub rc ev trip => (x.1.commitGrid c g legs pub rc ev trip, x.2)
  | .code stores mbox => commitCode x f c stores mbox

/-- END of a pass: a skim pass hands over, another commits; the lane switches banks. -/
def endPass (x : DM) (f l : Nat) (p : Pass) : DM :=
  let d := x.1
  let lane := d.lane f l
  let s := d.land lane.bank p (p.n + 4)
  let d := d.updLane f l (fun y => { y.setBank s.1 with run := none, t0 := none, t1 := none, cur := 1 - y.cur })
  let r := match p.domain with
    | 0 => d.servoPass p.ctx (d.servoIn p.ctx ((d.axis p.ctx).passFb p.kind))
    | 1 => d.gridPass d.gf
    | _ => .code s.2.shadow s.2.mbox
  if p.kind = 1 then
    (d.updAxis p.ctx (fun a => { a.counted1 0 with skim := some r, work := { a.work with skim := 3 } }), x.2)
  else
    let y := commitResult (d, x.2) f p.ctx r
    if p.kind = 2 then (y.1.updAxis p.ctx (fun a => { a with recomputed := true }), y.2) else y

/-- END: of a vendor pass at any time, of a customer pass where its code says so. -/
def execEnd (fold lane : Fin 8) (x : FmtC) (s : State) : Res :=
  s.onBothH (fun y =>
    match (y.1.lane fold lane).run with
    | none => y
    | some p =>
      if !y.1.computes p.ctx then y
      else if p.domain < 2 then endPass y fold lane p
      else
        let z := laneIssue y fold lane (wordC 0x34 x) (fun _ _ _ => { noAct with ends := true })
        match (z.1.lane fold lane).run with
        | some q => if q.n = p.n then z else endPass z fold lane q
        | none => z)

/-! ## The set pass (R236 to R239, R318) -/

/-- The outcome of a branch record of a customer domain (R236, R318) (DEDUCED, log entry 54). -/
def branchOutcome (kind lo hi : Nat) (args : List Int) : Nat :=
  let a := getAt 0 args 0
  match kind with
  | 1 => (limitTo a (sgn 24 lo) (sgn 24 hi)).2
  | 2 => (minMember (args.zipIdx.map (fun x => (x.2, x.1)))).1
  | 3 => (maxMember (args.zipIdx.map (fun x => (x.2, x.1)))).1
  | 4 => b2n (decide (32768 ≤ a) || decide (a < -32768))
  | 5 => b2n (decide (a < 0))
  | _ => 0

/-- An integer lies within Q1.23. -/
def fits24 (v : Int) : Bool := decide (-8388608 ≤ v) && decide (v ≤ 8388607)

/-- A correction: the gains of an entry applied to the errors, shifted, narrowed but not yet saturated. -/
def correction (g : List Nat) (sh : Nat) (e : List Int) : Int :=
  let acc := sgn 24 (getAt 0 g 0) * getAt 0 e 0 * 8388608
    + ((List.range 4).map (fun i => sgn 24 (getAt 0 g (i + 1)) * getAt 0 e (i + 1))).foldl (· + ·) 0
  sra (shiftI acc (sgn 5 (sh % 32))) 23

/-- The declarations of a skim pass applied to the errors: the mailbox and shadow with corrected words, or none for a squash. -/
def Dev.correctCode (d : Dev) (c : Nat) (stores mbox : List (Nat × Nat)) (e : List Int) : Option (List (Nat × Nat) × List (Nat × Nat)) :=
  let dom := d.domOf c
  let w := fun (k : Nat) => match mbox.find? (fun x => x.1 == k) with
    | some x => x.2
    | none => d.mboxEntry c 1 dom k
  let gains := fun (base : Nat) => (List.range 5).map (fun i => w (base + i) % 2 ^ 24)
  let nw := min 16 (w 0x14 % 32)
  let nb := min 16 (w 0x15 % 32)
  let branchOk := (List.range nb).all (fun b =>
    let base := 0x140 + 32 * b
    let head := w base
    let args := (List.range (bits head 6 4 % 4 + 1)).map (fun m =>
      let mb := base + 4 + 7 * m
      (sgn 24 (w mb), correction (gains (mb + 1)) (w (mb + 6)) e))
    args.all (fun a => fits24 a.2 && fits24 (a.1 + a.2)) && branchOutcome (head % 16) (w (base + 1) % 2 ^ 24) (w (base + 2) % 2 ^ 24) (args.map (fun a => a.1 + a.2)) == bits head 11 8)
  if !branchOk then none
  else (List.range nw).foldl (fun acc k => match acc with
    | none => none
    | some (st, mb) =>
      let base := 0xC0 + 8 * k
      let t := w base % 2 ^ 17
      let by_ := correction (gains (base + 2)) (w (base + 7)) e
      let v := sgn 24 (w (base + 1)) + by_
      if !fits24 by_ || !fits24 v then none
      else
        let r := raw 24 v
        if 0x10040 ≤ t ∧ t ≤ 0x10044 then some (st, tput mb (t - 0x10000) (r &&& mboxMask false (t - 0x10000)))
        else some (tput (tput (tput st (4 * t + 1) (r / 65536)) (4 * t + 2) (r / 256 % 256)) (4 * t + 3) (r % 256), mb)) (some (stores, mbox))

/-- A declared word that names no word of the context's window and no output: the byte offset of the first such target (R308, R318). -/
def Dev.badTarget (d : Dev) (c : Nat) (mbox : List (Nat × Nat)) : Option Nat :=
  let w := fun (k : Nat) => match mbox.find? (fun x => x.1 == k) with
    | some x => x.2
    | none => d.mboxEntry c 1 (d.domOf c) k
  let targets := (List.range (min 16 (w 0x14 % 32))).map (fun k => w (0xC0 + 8 * k) % 2 ^ 17)
  (targets.find? (fun t => !(t < d.ctxWords (d.domOf c)) && !(0x10040 ≤ t && t ≤ 0x10044))).map (4 * ·)

/-- The quantities that take part in the declarations of a customer's skim pass: those with a gain other than 0 (R239). -/
def declaredQuantities (w : Nat → Nat) (nw nb : Nat) : Nat :=
  let word := fun (i k : Nat) => w (0xC0 + 8 * k + 2 + i) % 2 ^ 24 != 0
  let branch := fun (i b : Nat) =>
    (List.range (bits (w (0x140 + 32 * b)) 6 4 % 4 + 1)).any (fun m => w (0x140 + 32 * b + 4 + 7 * m + 1 + i) % 2 ^ 24 != 0)
  ((List.range 5).filter (fun i => (List.range nw).any (word i) || (List.range nb).any (branch i))).length

/-- C_set of the set pass that waits: by the declarations of a customer's skim pass (R239, R246). -/
def Dev.setCostNow (d : Dev) (c : Nat) : Nat :=
  match (d.axis c).skim with
  | some (.code _ mbox) =>
    let w := fun (k : Nat) => match mbox.find? (fun x => x.1 == k) with
      | some x => x.2
      | none => d.mboxEntry c 1 (d.domOf c) k
    let nw := min 16 (w 0x14 % 32)
    let nb := min 16 (w 0x15 % 32)
    setSlots nw (declaredQuantities w nw nb) nb
  | _ => d.setCost c (d.cyc.tag % 8) (d.obj (Obj.SLOW_PHASE c))

/-- A free error within the bound of R239 for n quantities (DEDUCED, log entry 54). -/
def Dev.drawError (d : Dev) (n : Nat) : Int × Dev :=
  let r := d.draw 239
  ((r.1 % (2 * n + 3) : Nat) - ((n : Int) + 1), r.2)

/-- A word a set pass corrects: the skim pass's value, the exact value on the real feedback, the quantities it depends on (R288). -/
structure Corrected where
  skim : Int
  full : Int
  qs : List Nat

/-- A corrected word: unchanged where none of its quantities has an error, else the exact value with the error R239 allows; none where it
leaves Q1.23 (R237, R239) (DEDUCED, log entry 54). -/
def Dev.correctWord (d : Dev) (e : List Int) (x : Corrected) : Option Int × Dev :=
  if x.qs.all (fun q => getAt 0 e q == 0) then (some x.skim, d)
  else
    let r := d.drawError x.qs.length
    (if fits24 (x.full + r.1) then some (x.full + r.1) else none, r.2)

/-- Words corrected in order; none as soon as one leaves its range. -/
def Dev.correctWords (d : Dev) (e : List Int) (l : List Corrected) : Option (List Int) × Dev :=
  l.foldl (fun (acc : Option (List Int) × Dev) x =>
    let r := acc.2.correctWord e x
    (match acc.1, r.1 with
      | some vs, some v => some (vs ++ [v])
      | _, _ => none, r.2)) (some [], d)

/-- The exact error that is to be integrated, and the quantities it depends on: the speed loop's, or that of the limit loop chosen
(R269, R271, R273). -/
def Dev.exactError (d : Dev) (c : Nat) (st : Servo) (fb : Fb) (iQ : Int) (pos : Bool) : Int × List Nat :=
  if st.itTarget = 1 then (st.nStar - st.nf, if pos || d.obj (Obj.STRUCTURE c) != 1 then [0] else [])
  else if st.itTarget = 0 then (0, [])
  else
    let l := st.itTarget - 1
    let v := d.obj (Obj.LIM_VARIABLE c l)
    let y := if v = 0 then iQ else if v = 1 then fb.vdc else st.nf
    let x := d.objI 24 (Obj.LIM_LIMIT c l) - y
    (if d.obj (Obj.LIM_POLARITY c l) = 0 then x else -x, if v = 0 then [1, 2, 3] else if v = 1 then [4] else [0])

/-- The servo library's result after its set pass: what the skim pass wrote, with the words of R288 corrected toward the full pass on the
real feedback; none for a squash (R235, R237, R288) (DEDUCED, log entry 54). -/
def Dev.correctServo (d : Dev) (c : Nat) (e : List Int) (x : ServoIn) (skim : PassResult) : Option PassResult × Dev :=
  match skim, d.servoPass c x with
  | .servo st out pub rc br, .servo st' out' pub' _ br' =>
    if br.drop 1 != br'.drop 1 || br'.head? != some 0 then (none, d)
    else
      let iOf := fun k => sgn 24 (tget (fun _ => 0) pub' k)
      let iabc := [1, 2, 3]
      let free := fun (i : Nat) => x.on && getAt 0 br' i == 0
      let err := d.exactError c st' x.fb (iOf (Obj.I_Q c)) x.pos
      let slow := d.objI 24 (Obj.SPEED_FILTER c) != 0
      let base : List Corrected :=
        [⟨out.dutyA, out'.dutyA, iabc⟩, ⟨out.dutyB, out'.dutyB, iabc⟩, ⟨out.dutyC, out'.dutyC, iabc⟩,
         ⟨st.ied, d.objI 24 (Obj.ID_DEMAND c) - iOf (Obj.I_D c), if free 1 then iabc else []⟩,
         ⟨st.ieq, x.st.iqStar - iOf (Obj.I_Q c), if free 2 then iabc else []⟩]
      let more : List Corrected :=
        if x.speed then
          [⟨st.ie, err.1, if x.on then err.2 else []⟩, ⟨st.nf, st'.nf, if slow then [0] else []⟩,
           ⟨match st.rcLearn with
             | some p => p.2
             | none => 0, st'.nStar - st'.nf, if st.rcLearn.isSome then [0] else []⟩]
        else [⟨st.s, x.st.s + sgn 32 (raw 32 ((x.fb.pos : Int) - x.x1)), [0]⟩]
      let r := d.correctWords e (base ++ more)
      (r.1.map (fun v =>
        let g := fun i => getAt 0 v i
        let out := { out with dutyA := g 0, dutyB := g 1, dutyC := g 2 }
        let st := { st with ied := g 3, ieq := g 4 }
        let st := if x.speed then { st with ie := g 5, nf := g 6, rcLearn := st.rcLearn.map (fun p => (p.1, g 7)) } else { st with s := g 5 }
        .servo st out pub rc br), r.2)
  | _, _ => (none, d)

/-- The set pass proper: a result to commit, or none for a squash (DEDUCED, log entry 53). -/
def Dev.setResult (d : Dev) (c : Nat) (e : List Int) (fb : Fb) : Option PassResult × Dev :=
  match (d.axis c).skim with
  | some (.code stores mbox) => ((d.correctCode c stores mbox e).map (fun r => .code r.1 r.2), d)
  | some r => d.correctServo c e (d.servoIn c fb) r
  | none => (none, d)

/-- The target of a declared word a set pass may not reach, where it gets so far (R308, R318) (DEDUCED, log entry 54). -/
def Dev.setFault (d : Dev) (c : Nat) : Option Nat :=
  match (d.axis c).skim with
  | some (.code _ mbox) => d.badTarget c mbox
  | _ => none

/-- SET_PASS (R237). -/
def setPass (x : DM) (f l : Nat) : DM :=
  let d := x.1
  if (d.lane f l).run.isSome || d.cyc.dispatched then x
  else match firstItem (d.items f l) with
    | some (_, c, 2) =>
      let a := d.axis c
      match a.cur, a.pred with
      | some fb, some p =>
        let e := fbError fb p
        let beyond := d.errBeyond c e
        let r := if beyond then (none, d) else d.setResult c e fb
        let bad := if beyond then none else d.setFault c
        (match bad with
        | some off => (d.faultContext c off true, x.2)
        | none => match r.1 with
        | some res =>
          let y := commitResult (r.2, x.2) f c res
          (y.1.updAxis c (fun a => { a.flag 7 with skim := none }), y.2)
        | none =>
          let d := r.2.updAxis c (fun a =>
            let a := { a.flag 6 with skim := none }
            if beyond then a.flag 13 else a)
          let d := { d with folds := upd (fun y => { y with squashes := upd (· + 1) y.squashes l }) d.folds f }
          startPass (d, x.2) f l c 2)
      | _, _ => x
    | _ => x

/-- SET_PASS. -/
def execSetPass (fold lane : Fin 8) (s : State) : Res := s.onBothH (fun x => setPass x fold lane)

/-! ## Stops (R245 to R247, R307) -/

/-- A pass stopped at its next instruction boundary outside a REP. why: 1 missed deadline, 2 overrun. -/
def Dev.stopPass (d : Dev) (f l why : Nat) : Dev :=
  match (d.lane f l).run with
  | none => d
  | some p =>
    if p.rep.isSome then d.updLane f l (fun y => { y with run := some { p with stop := why } }) else d.endStopped f l p

/-- COMPUTE_OVERRUN of a context (R246, R254). -/
def Dev.noteOverrun (d : Dev) (c slots : Nat) : Dev := (d.updAxis c (fun a => a.flag 5)).raise 0xC5 (min slots 65535 * 65536 + c)

/-- PASS_OVERRUN. slots is the elapsed time in floor slots. On a lane without a pass it tells of the set pass that is due: its skim results
are discarded and the output is held (R246) (DEDUCED, log entry 53). -/
def Dev.passOverrun (d : Dev) (f l slots : Nat) : Dev :=
  let margin := d.obj (Obj.OVERRUN_MARGIN f)
  match (d.lane f l).run with
  | none =>
    (match firstItem (d.items f l) with
    | some (_, c, 2) =>
      if d.cyc.dispatched || slots < d.setCostNow c + margin then d
      else (d.noteOverrun c slots).updAxis c (fun a => { a with skim := none, work := { a.work with full := 4 } })
    | _ => d)
  | some p =>
    let φ := d.cyc.tag % 8
    let cost := if p.kind = 1 then d.skimCost p.ctx φ else d.fullCost p.ctx φ
    if p.stop != 0 || slots < cost + margin then d else (d.noteOverrun p.ctx slots).stopPass f l 2

/-- PASS_OVERRUN. -/
def execPassOverrun (fold lane : Fin 8) (slots : BitVec 32) (s : State) : Res := s.onDevH (fun d => d.passOverrun fold lane slots.toNat)

/-- At the deadline, every pass of the cycle that has not committed is stopped (R245). -/
def Dev.stopAll (d : Dev) : Dev := forN 8 (fun f d => forN 8 (fun l d => d.stopPass f l 1) d) d

end Sys2Proof.Machine
end

