-- ==== Sys2Proof/Machine/Loader.lean ====
section
/-! DEFINITION. Machine/Loader.lean: the check of a domain image (R319, R320), and the loading of the folds at the request for READY
(R322, R323). -/

namespace Sys2Proof.Machine

/-! ## Register classes and unused fields (R295, R297 to R300) -/

/-- A 5-bit code of a D register or Z. -/
def isD (c : Nat) : Bool := c < 16 || c == 31

/-- A 5-bit code of an A register or Z. -/
def isA (c : Nat) : Bool := (16 ≤ c && c < 20) || c == 31

/-- A 6-bit code of a D, P or M register, LC or FLAGS. -/
def is6 (c : Nat) : Bool := c < 16 || (24 ≤ c && c < 42)

/-- What a format A instruction uses: S, DST, SRCA, SRCB, SRCC, a shift; each register field 0 unused, 1 D, 2 A. -/
structure UsesA where
  s : Bool
  dst : Nat
  a : Nat
  b : Nat
  c : Nat
  sh : Bool

/-- The fields of each format A opcode (R300). -/
def usesA : List UsesA := [
  ⟨false, 0, 0, 0, 0, false⟩, ⟨false, 2, 1, 1, 0, false⟩, ⟨true, 2, 1, 1, 0, false⟩, ⟨true, 2, 1, 1, 0, false⟩,
  ⟨true, 2, 2, 2, 0, false⟩, ⟨true, 2, 2, 2, 0, false⟩, ⟨true, 2, 2, 0, 0, true⟩, ⟨true, 1, 2, 0, 0, true⟩,
  ⟨true, 1, 2, 0, 0, true⟩, ⟨true, 2, 1, 0, 0, true⟩, ⟨true, 2, 1, 0, 0, false⟩, ⟨false, 2, 2, 2, 0, false⟩,
  ⟨true, 1, 1, 1, 0, false⟩, ⟨true, 1, 1, 1, 0, false⟩, ⟨true, 1, 1, 0, 0, false⟩, ⟨true, 1, 1, 0, 0, false⟩,
  ⟨false, 1, 1, 1, 0, false⟩, ⟨false, 1, 1, 1, 0, false⟩, ⟨false, 1, 1, 1, 0, false⟩, ⟨true, 1, 1, 1, 1, false⟩,
  ⟨true, 1, 1, 0, 0, true⟩, ⟨false, 0, 1, 1, 0, false⟩, ⟨false, 3, 3, 0, 0, false⟩]

/-- A register field agrees with its class; class 3 is MOV's, D or A. -/
def classOk (k c : Nat) : Bool :=
  match k with
  | 0 => c == 0
  | 1 => isD c
  | 2 => isA c
  | _ => isD c || isA c

/-- Check 0x05 of one word: opcode not reserved, unused and reserved fields 0. -/
def fieldsOk (w : Nat) : Bool :=
  let op := bits w 63 58
  if op ≤ 0x16 then
    let u := getAt ⟨false, 0, 0, 0, 0, false⟩ usesA op
    let vs := bit w 36
    let sh := bits w 35 31
    let kind := bits w 30 29
    (u.s || !bit w 57) && (u.dst != 0 || bits w 56 52 == 0) && (u.a != 0 || bits w 51 47 == 0) && (u.b != 0 || bits w 46 42 == 0)
      && (u.c != 0 || vs || bits w 41 37 == 0) && (!vs || (u.sh && sh == 0))
      && (u.sh || (op == 0x12 && sh < 15) || sh == 0)
      && kind != 3 && bits w 15 0 == 0 && (kind != 0 || bits w 30 0 == 0) && (bits w 17 16 == 3 || bits w 20 18 == 0)
  else if op = 0x18 then !bit w 57 && bits w 50 32 == 0
  else if op = 0x19 then bits w 45 32 == 0 && (bits w 56 51 < 16 || !bit w 57)
  else if op = 0x1A then !bit w 57 && bits w 56 51 == 0 && bits w 45 32 == 0
  else if 0x20 ≤ op ∧ op ≤ 0x23 then !bit w 57 && bits w 43 17 == 0 && (bits w 45 44 == 3 || bits w 48 46 == 0)
  else if 0x24 ≤ op ∧ op ≤ 0x27 then !bit w 57 && bits w 51 10 == 0
  else if op = 0x28 then !bit w 57 && bits w 44 0 == 0
  else if op = 0x30 ∨ op = 0x31 then bits w 57 54 != 15 && bits w 53 41 == 0 && bits w 27 0 == 0
  else if op = 0x32 then bits w 57 54 != 15 && bits w 53 0 == 0
  else if op = 0x33 then bits w 57 54 == 0 && bits w 40 0 == 0 && (!bit w 53 || bits w 52 41 == 0)
  else if op = 0x34 ∨ op = 0x35 then bits w 57 0 == 0
  else if op = 0x38 then !bit w 57 && bits w 56 52 == 0 && !bit w 41 && bits w 37 0 == 0
    && (bits w 41 39 == 1 || bits w 46 42 == 0)
  else if op = 0x39 then !bit w 57 && bits w 51 39 == 0 && bits w 36 0 == 0
  else false

/-- Check 0x06 of one word: register codes valid for their field and instruction. -/
def codesOk (w : Nat) : Bool :=
  let op := bits w 63 58
  if op ≤ 0x16 then
    let u := getAt ⟨false, 0, 0, 0, 0, false⟩ usesA op
    let dst := bits w 56 52
    let a := bits w 51 47
    classOk u.dst dst && classOk u.a a && classOk u.b (bits w 46 42)
      && (if bit w 36 then bits w 41 37 < 16 else classOk u.c (bits w 41 37))
      && (op != 0x16 || dst == 31 || a == 31 || (dst < 16) == (a < 16))
      && (bits w 30 29 == 0 || bits w 28 24 < 16)
  else if op = 0x18 then is6 (bits w 56 51) && bits w 56 51 != 41
  else if op = 0x19 then
    (bits w 56 51 < 16 && isD (bits w 50 46)) || (24 ≤ bits w 56 51 && bits w 56 51 < 32 && 24 ≤ bits w 50 46)
  else if op = 0x1A then isD (bits w 50 46)
  else if [0x20, 0x21, 0x24, 0x25].contains op then bits w 56 52 < 16
  else if [0x22, 0x23, 0x26, 0x27].contains op then 16 ≤ bits w 56 52 && bits w 56 52 < 20
  else if op = 0x28 then is6 (bits w 56 51) && is6 (bits w 50 45)
  else if op = 0x38 then isD (bits w 51 47) && isD (bits w 46 42)
  else if op = 0x39 then isD (bits w 56 52)
  else true

/-- Check 0x07 of one word. -/
def targetOk (len w : Nat) : Bool :=
  let op := bits w 63 58
  !(op == 0x30 || op == 0x31) || decide (bits w 40 28 < len)

/-- Check 0x08 of a word and the one after it. -/
def repOk (repMax w : Nat) (next : Option Nat) : Bool :=
  bits w 63 58 != 0x33 || match next with
    | none => false
    | some v => (bits v 63 58 ≤ 0x16 || (0x20 ≤ bits v 63 58 && bits v 63 58 ≤ 0x23)) && decide (bits w 52 41 + 2 ≤ repMax)

/-! ## The image (R319, R320) -/

/-- The code words of an image. -/
def codeWords (image : List Byte) : List Nat := (List.range (hdr image 6 2)).map (fun i => hdr image (64 + 8 * i) 8)

/-- Check 0x04: the header's fields and reserved bits. -/
def headerOk (image : List Byte) : Bool :=
  let flags := hdr image 4 2
  let cl := hdr image 6 2
  let ctx := hdr image 12 2
  let init := hdr image 14 2
  hdr image 0 2 == 1 && flags < 8 && 1 ≤ cl && cl ≤ 7680 && 16 ≤ ctx && ctx ≤ 32768 && 16 ≤ init && init ≤ ctx
    && hdr image 16 2 ≤ 32768 && hdr image 18 2 ≤ 256 && hdr image 22 2 ≤ 4096 && hdr image 24 2 + 8 ≤ ctx && hdr image 26 6 == 0
    && (bit flags 0 || (hdr image 10 2 == 0xFFFF && hdr image 48 16 == 0))

/-- The first word that fails a check, by its index. -/
def firstBad (ok : Nat → Bool) : Nat → List Nat → Option Nat
  | _, [] => none
  | i, w :: t => if ok w then firstBad ok (i + 1) t else some i

/-- The first REP that fails check 0x08. -/
def firstBadRep (repMax : Nat) : Nat → List Nat → Option Nat
  | _, [] => none
  | i, w :: t => if repOk repMax w t.head? then firstBadRep repMax (i + 1) t else some i

/-- The loader's verdict: reason 0 for a valid image, and the instruction index (R320). -/
def checkImage (stepping : Nat) (image : List Byte) : Nat × Nat :=
  let len := image.length
  let cl := hdr image 6 2
  if len < 68 ∨ 65536 < len ∨ len ≠ 64 + 8 * cl + 4 * hdr image 14 2 + 4 * hdr image 16 2 + 4 then (1, 0)
  else if crc32c (image.take (len - 4)) ≠ hdr image (len - 4) 4 then (2, 0)
  else if hdr image 2 2 ≠ stepping then (3, 0)
  else if !headerOk image then (4, 0)
  else
    let ws := codeWords image
    match firstBad fieldsOk 0 ws with
    | some i => (5, i)
    | none => match firstBad codesOk 0 ws with
      | some i => (6, i)
      | none => match firstBad (targetOk cl) 0 ws with
        | some i => (7, i)
        | none => match firstBadRep (hdr image 20 2) 0 ws with
          | some i => (8, i)
          | none =>
            if cl ≤ hdr image 8 2 ∨ (bit (hdr image 4 2) 0 ∧ cl ≤ hdr image 10 2) then (9, 0) else (0, 0)

/-- DOMAIN_COMMIT takes effect: the check runs on the image as it stands. -/
def Dev.domainCommit (d : Dev) (dom : Nat) : Dev :=
  let r := checkImage (d.obj Obj.STEPPING) (d.image dom)
  { d with checks := d.checks.filter (fun c => c.domain != dom) ++ [{ domain := dom, reason := r.1, instr := r.2 }] }

/-- A verdict shown in the domain's objects (R324). -/
def Dev.showCheck (d : Dev) (dom reason instr : Nat) : Dev :=
  let image := d.image dom
  let d := (d.setObj (Obj.DOMAIN_STATE dom) (if reason = 0 then 2 else 3)).setObj (Obj.DOMAIN_REJECT dom) (reason * 2 ^ 24 + instr)
  if reason = 0 then (d.setObj (Obj.CODE_LENGTH dom) (hdr image 6 2)).setObj (Obj.DOMAIN_FLAGS dom) (hdr image 4 2) else d

/-- DOMAIN_CHECK_DONE. -/
def Dev.checkDone (d : Dev) (dom : Nat) : Dev :=
  match d.checks.find? (fun c => c.domain == dom) with
  | none => d
  | some c => ({ d with checks := d.checks.filter (fun c => c.domain != dom) }).showCheck dom c.reason c.instr

/-! ## Loading at the request for READY (R322, R323) -/

/-- The domains bound to a fold's contexts, in number order. -/
def Dev.domainsOf (d : Dev) (f : Nat) : List Nat :=
  let l := (d.contextsOf f).map d.domOf
  (List.range 256).filter l.contains

/-- Whether a domain is one that may be bound: valid, and GRID on the right contexts. -/
def Dev.domainOk (d : Dev) (c : Nat) : Bool :=
  let dom := d.domOf c
  dom < 255 && (dom < 2 || d.obj (Obj.DOMAIN_STATE dom) == 2) && bit (d.domFlags dom) 2 == decide (128 ≤ c)

/-- Whether a fold's domains and windows fit (R322). -/
def Dev.foldFits (d : Dev) (f : Nat) : Bool :=
  let doms := d.domainsOf f
  decide (sumOf (doms.map d.codeLength) ≤ 7680)
    && decide (sumOf ((d.contextsOf f).map (fun c => d.ctxWords (d.domOf c))) + sumOf (doms.map d.sharedWords) ≤ 65536)
    && (d.contextsOf f).all d.domainOk

/-- Bases laid end to end (DESIGN CHOICE, log entry 57). -/
def layOut (size : Nat → Nat) : Nat → List Nat → List (Nat × Nat)
  | _, [] => []
  | b, k :: t => (k, b) :: layOut size (b + size k) t

/-- The RAM with every byte from lo up to hi unwritten. -/
def Mem.clear (m : Mem) (lo hi : Nat) : Mem := { m with cells := m.cells.filter (fun e => decide (e.1 < lo) || decide (hi ≤ e.1)) }

/-- A parameter word in a customer context's window (R323). -/
def Dev.paramWord (d : Dev) (m : Mem) (c i : Nat) : Mem :=
  let f := d.obj (Obj.CTX_FOLD c)
  let base := tget (fun _ => 0) (d.fold f).windows c + hdr (d.image (d.domOf c)) 24 2 + i
  m.putBytes (foldByte f (4 * base)) ((beBytes 4 (d.obj (Obj.CUSTOM_PARAM c i))).map BitVec.toNat)

/-- Bytes of an image stored in a fold's SRAM. -/
def Mem.putFold (m : Mem) (f off : Nat) (l : List Byte) : Mem := m.putBytes (foldByte f off) (l.map BitVec.toNat)

/-- The customer code of a fold's domains put into its instruction RAM (DESIGN CHOICE, log entry 57). -/
def Dev.loadCode (d : Dev) (f : Nat) (code : List (Nat × Nat)) (m : Mem) : Mem :=
  code.foldl (fun (m : Mem) e => if e.1 < 2 then m
    else m.putBytes (codeByte f (8 * e.2)) ((slice (d.image e.1) 64 (8 * d.codeLength e.1)).map BitVec.toNat)) m

/-- The shared constants of a fold's customer domains (DESIGN CHOICE, log entry 57). -/
def Dev.loadShared (d : Dev) (f : Nat) (shared : List (Nat × Nat)) (m : Mem) : Mem :=
  shared.foldl (fun (m : Mem) e =>
    let im := d.image e.1
    if e.1 < 2 then m
    else m.putFold f (4 * e.2) (slice im (64 + 8 * d.codeLength e.1 + 4 * hdr im 14 2) (4 * d.sharedWords e.1))) m

/-- One context's initial words and parameters. The vendor libraries' images are not given: the 16 words a preload reads take free values
(R313, R323) (DESIGN CHOICE, log entry 21). -/
def Dev.loadWindow (d : Dev) (f : Nat) (m : Mem) (e : Nat × Nat) : Mem :=
  let dom := d.domOf e.1
  let im := d.image dom
  if dom < 2 then m.putFold f (4 * e.2) ((List.range 64).map (fun i => BitVec.ofNat 8 (Config.vendorImage dom i)))
  else
    let m := m.putFold f (4 * e.2) (slice im (64 + 8 * d.codeLength dom) (4 * hdr im 14 2))
    (List.range 8).foldl (fun (m : Mem) i => d.paramWord m e.1 i) m

/-- The bit of a fold in FOLDS_LOADED of every occupied domain. -/
def Dev.markLoaded (d : Dev) (f : Nat) (doms : List Nat) : Dev :=
  (List.range 255).foldl (fun (d : Dev) k => if k < 2 ∨ d.obj (Obj.DOMAIN_STATE k) ≠ 0 then
      d.setObjBit (Obj.FOLDS_LOADED k) f (doms.contains k) else d) d

/-- The bytes of a fold's static RAM and of its instruction RAM. -/
def sramBytes : Nat := 4 * 65536
def codeBytes : Nat := 8 * 8192

/-- A fold loaded: code, windows, shared constants, parameters (DESIGN CHOICE, log entry 57). -/
def loadFold (x : DM) (f : Nat) : DM :=
  let d := x.1
  let doms := d.domainsOf f
  let ctxs := d.contextsOf f
  let windows := layOut (fun c => d.ctxWords (d.domOf c)) 0 ctxs
  let top := sumOf (ctxs.map (fun c => d.ctxWords (d.domOf c)))
  let shared := layOut d.sharedWords top doms
  let code := layOut d.codeLength 0 doms
  let d := { d with folds := upd (fun (y : Fold) => { y with windows := windows, shared := shared, code := code }) d.folds f }
  let d := d.markLoaded f doms
  let m := (x.2.clear (foldByte f 0) (foldByte f sramBytes)).clear (codeByte f 0) (codeByte f codeBytes)
  let m := d.loadShared f shared (d.loadCode f code m)
  (d, windows.foldl (d.loadWindow f) m)

/-! ## Meanings -/

/-- DOMAIN_CHECK_DONE. -/
def execDomainCheckDone (domain : Fin 255) (s : State) : Res := s.onDev (fun d => d.checkDone domain)

end Sys2Proof.Machine
end

