-- ==== Sys2Proof/Machine/Life.lean ====
section
/-! DEFINITION. Machine/Life.lean: the Float's commands and the service life: scrubbing, soft repair, field fuses, the split-write test,
lane wear, hour counters (R554 to R579). -/

namespace Sys2Proof.Machine

/-! ## Scrubbing (R561, R562, R564) -/

/-- A byte of a fold's microcode store lies in a loaded domain or in the engine's own microcode (R322, R564). -/
def Dev.codeInUse (d : Dev) (f off : Nat) : Bool :=
  let i := off / 8
  7680 ≤ i || (d.fold f).code.any (fun e => e.2 ≤ i && i < e.2 + d.codeLength e.1)

/-- An object damaged: which object a byte of the dictionary shadow belongs to is the model's free choice (R562) (DEDUCED, log entry 70). -/
def Dev.damageObject (d : Dev) : Dev :=
  let x := d.draw 562
  let k := x.1 % 2 ^ 24
  let y := x.2.draw 563
  if (rowOf k).isNone then y.2
  else
    let d := y.2
    let d := { d with fl := { d.fl with damaged := d.fl.damaged ++ [(k, y.1)] } }
    d.raise 0x6B (k * 256)

/-- A value as it reads with its damaged bytes at 0 (R562). -/
def Dev.damagedBytes (d : Dev) (k : Nat) (l : List Byte) : List Byte :=
  (d.fl.damaged.filter (fun e => e.1 == k)).foldl (fun l e => setAt l (e.2 % max 1 l.length) 0) l

/-- The damage of an object ends at an accepted write. -/
def Dev.repairObject (d : Dev) (k : Nat) : Dev := { d with fl := { d.fl with damaged := d.fl.damaged.filter (fun e => e.1 != k) } }

/-- SCRUB_READ of a byte: upset names the bits of the symbol found changed since it was last written (DEDUCED, log entry 70). -/
def scrubRead (x : DM) (g mac off upset : Nat) : DM :=
  if regionMacros g ≤ mac ∨ x.1.state = stBoot then x
  else
    let a := memAddr g mac off
    let x : DM := if upset = 0 then x else (x.1, x.2.setSym a (x.2.sym a ^^^ upset))
    let r := readChecked x 0 a
    match r.1 with
    | .uncorrectable =>
      let d := r.2.2.1
      if g = 1 then
        if d.codeInUse (mac / 2) (mac % 2 * 32768 + off) then (d.reqCause 2 (mac / 2), r.2.2.2)
        else (d, r.2.2.2.setSym a marker)
      else if g = 4 then (d.damageObject, r.2.2.2)
      else r.2.2
    | _ => r.2.2

/-- SCRUB_PASS_DONE (DEDUCED, log entry 70). -/
def Dev.scrubPass (d : Dev) : Dev :=
  let d := d.bump Obj.SCRUB_PASSES
  ({ d with fl := { d.fl with logged := [] } } : Dev).raise 0x69 (d.obj Obj.SCRUB_PASSES)

/-- ISLAND_SCRUB: a bad byte counts as a difference on the present tick and the next (R561) (DEDUCED, log entry 71). -/
def Dev.islandScrub (d : Dev) (found : Option IslandByte) : Dev :=
  if !d.isl.running then d
  else match found with
    | none => d
    | some b =>
      let a := memAddr 5 b.channel b.offset.toNat
      if b.corrected then d.raise 0x60 (memEvent a)
      else ((d.logMem a (a % 32768) 0 2 0).raise 0x61 (memEvent a)).updIsl (fun i => { i with scrubBad := 2 })

/-! ## Repair (R565 to R569) -/

/-- A row's bytes, corrected and copied to the spare row. -/
def copyRow (m : Mem) (base : Nat) : Mem :=
  forN 64 (fun i m =>
    let r := readSym (m.sym (base + i))
    match r.1 with
    | .corrected => m.put (base + i) r.2.2
    | .uncorrectable => m.setSym (base + i) marker
    | _ => m) m

/-- No lane runs a pass. -/
def Dev.lanesIdle (d : Dev) : Bool := d.folds.all (fun f => f.lanes.all (fun l => l.run.isNone))

/-- SOFT_REPAIR of a row candidate with a free slot; in regions 0 and 1 only between a deadline and the next sample instant, when no
pass is running (R567) (DEDUCED, log entry 70). -/
def softRepair (x : DM) (g m row : Nat) : DM :=
  let d := x.1
  let mac := macroOf g m
  if !d.objB Obj.SOFT_REPAIR_ENABLE || !d.rowCandidate mac row || d.softFree mac = 0 || (g < 2 && !(d.cyc.dispatched && d.lanesIdle)) then x
  else
    let a := mac * 32768 + row * 64
    let d := { d with health := { d.health with soft := d.health.soft ++ [(mac, row)]
                                                cand := d.health.cand.filter (fun c => c / 64 != mac * 512 + row) } }
    let d := { d with fl := { d.fl with seen := d.fl.seen.filter (fun c => c.1 / 64 != mac * 512 + row) } }
    let d := (d.bumpBy 16 (Obj.SOFT_REPAIRS g) 1).showHealth g
    let d := (d.logMem a (a % 32768) 0 5 0).raise 0x63 (g * 2 ^ 24 + m * 65536 + row)
    (d, copyRow x.2 a)

/-- Fuses of one kind programmed in a macro so far. -/
def Dev.fuseCount (d : Dev) (mac : Nat) (row : Bool) : Nat :=
  (if row then Config.macroFusedRows mac % 5 else Config.macroFusedColumns mac % 3)
    + (d.health.fuses.filter (fun f => f.1 == mac && f.2.1 == row)).length

/-- FUSE_COMMAND taking effect. -/
def Dev.fuseStart (d : Dev) : Dev :=
  if d.state != stService then d
  else ({ d with fl := { d.fl with fusing := true, fuseAt := d.now } } : Dev).setObj Obj.FUSE_STATE 1

/-- Pending entries programmed in turn, each where its macro has a spare of its kind left (R569). -/
def Dev.fuseEntries (d : Dev) (l : List (Nat × Bool × Nat)) : Dev :=
  l.foldl (fun d f =>
    if d.fuseCount f.1 f.2.1 < (if f.2.1 then 4 else 2) then { d with health := { d.health with fuses := d.health.fuses ++ [f] } } else d) d

/-- A fuse command that BOOT interrupts: the entries finished by then stay, one at least for each 10 ms that has passed; how many more is
free (R569) (DEDUCED, log entry 70). -/
def Dev.fuseBreak (d : Dev) : Dev :=
  if !d.fl.fusing then d
  else
    let l := d.fusePending
    let least := min l.length ((d.now - d.fl.fuseAt) / 10000000)
    let x := d.draw 569
    x.2.fuseEntries (l.take (least + x.1 % (l.length - least + 1)))

/-- FUSE_DONE: each pending entry with a spare of its kind left is programmed (R569). -/
def Dev.fuseDone (d : Dev) : Dev :=
  if !d.fl.fusing then d
  else
    let l := d.fusePending
    let before := d.health.fuses.length
    let d := d.fuseEntries l
    let done := d.health.fuses.length - before
    let st := if done = l.length then 2 else 3
    let d := { d with fl := { d.fl with fusing := false } }
    let d := (d.setObj Obj.FUSE_STATE st).setObj Obj.FUSE_PENDING (min d.fusePending.length 65535)
    d.raise 0x65 (st * 256 + min done 255)

/-- The repair maps applied at BOOT (R565): the field fuses programmed so far, then the soft repairs left. -/
def Dev.applyRepairs (d : Dev) : Dev :=
  let f := d.health.fuses
  let gone := fun a => f.any (fun e => e.1 == a / 32768 && e.2.2 == (if e.2.1 then a % 32768 / 64 else a % 64))
  let d := { d with health := { d.health with
    cand := d.health.cand.filter (fun a => !gone a)
    columns := d.health.columns.filter (fun c => !f.contains (c.1, false, c.2))
    soft := d.health.soft.filter (fun s => !f.contains (s.1, true, s.2)) } }
  let d := { d with fl := { d.fl with fused := f } }
  forN 5 (fun g d =>
    let n := fun row => (f.filter (fun e => e.1 / 128 == g && e.2.1 == row)).length
    let d := d.setObj (Obj.FUSED_ROWS g) (min 65535 (Config.fusedRows g % 2 ^ 16 + n true))
    let d := d.setObj (Obj.FUSED_COLUMNS g) (min 65535 (Config.fusedColumns g % 2 ^ 16 + n false))
    d.showHealth g) d

/-! ## Split-write test (R570, R571) -/

/-- The byte the test objects name. -/
def Dev.testAddr (d : Dev) : Nat := memAddr (d.obj Obj.TEST_REGION) (d.obj Obj.TEST_MACRO) (d.obj Obj.TEST_OFFSET)

/-- The status a TEST_COMMAND meets. -/
def Dev.testStatus (d : Dev) (v : Nat) : Nat :=
  if d.state != stService then 0x0004
  else if regionMacros (d.obj Obj.TEST_REGION) ≤ d.obj Obj.TEST_MACRO then 0x0007
  else if v = 1 ∧ 64 ≤ d.fl.split.length then 0x0008
  else 0

/-- The code of an outcome in TEST_RESULT. -/
def outcomeCode (o : ReadOutcome) : Nat :=
  match o with
  | .ok => 0
  | .corrected => 1
  | .unwritten => 2
  | .uncorrectable => 3

/-- TEST_RESULT of a symbol. -/
def testResultOf (v : Nat) : Nat :=
  let r := readSym v
  outcomeCode r.1 * 2 ^ 29 + r.2.1 * 2 ^ 24 + r.2.2 * 65536 + (v % 256) * 256 + v / 256 % 32

/-- A TEST_COMMAND taking effect (DEDUCED, log entry 70). -/
def testCommand (x : DM) (v : Nat) : DM :=
  let d := x.1
  if d.testStatus v != 0 then x
  else
    let a := d.testAddr
    match v with
    | 1 =>
      let d := { d with fl := { d.fl with split := d.fl.split ++ [a] } }
      (d.setObj Obj.TEST_WRITES d.fl.split.length, x.2.setSym a (d.obj Obj.TEST_DATA + 256 * (d.obj Obj.TEST_CHECK % 32)))
    | 2 => (d.setObj Obj.TEST_RESULT (testResultOf (x.2.sym a)), x.2)
    | _ =>
      let v := x.2.sym a
      let r := readSym v
      let d := d.setObj Obj.TEST_RESULT (testResultOf v)
      match r.1 with
      | .corrected => (d.seeCorrected a r.2.1 0, x.2.put a r.2.2)
      | .uncorrectable => (d, if regionAt a = 1 then x.2 else x.2.setSym a marker)
      | _ => (d, x.2)

/-- Entry to SERVICE: no split write is kept. -/
def Dev.splitClear (d : Dev) : Dev := ({ d with fl := { d.fl with split := [] } } : Dev).setObj Obj.TEST_WRITES 0

/-- SPLIT_WRITE_RESTORED at the change from SERVICE to READY (R571). -/
def splitRestore (x : DM) : DM :=
  let l := x.1.fl.split.eraseDups
  if l.isEmpty then x
  else
    let bad := l.filter (fun a => (readSym (x.2.sym a)).2.1 != 0)
    (x.1.splitClear.raise 0x6A bad.length, bad.foldl (fun m a => m.setSym a marker) x.2)

/-! ## Lane wear (R572 to R574) -/

/-- A lane of a fold changed. -/
def Dev.updWear (d : Dev) (f l : Nat) (g : Lane → Lane) : Dev :=
  { d with folds := upd (fun (x : Fold) => { x with lanes := upd g x.lanes l }) d.folds f }

/-- A lane set to retire at the next boundary. -/
def Dev.retireSoon (d : Dev) (f l code : Nat) : Dev :=
  if 3 ≤ d.obj (Obj.LANE_STATE f l) ∨ (d.lane f l).retire ≠ 0 then d
  else d.updWear f l (fun x => { x with retire := code, goodRuns := 0 })

/-- LANE_MEASURE of a lane after the deadline, with no pass running (DEDUCED, log entry 71). -/
def Dev.laneMeasure (d : Dev) (f l time corner : Nat) (sound : Bool) : Dev :=
  if !d.cycling || !d.cyc.dispatched || (d.lane f l).run.isSome || decide (d.cyc.startAt + d.cyc.len < d.now + 3000)
      || decide (corner < 4096) || decide (8191 < corner) then d
  else
    let floor := min 65535 (time * corner / 4096)
    let d := (d.setObj (Obj.LANE_TIME f l) time).setObj (Obj.LANE_FLOOR_TIME f l) floor
    let d := d.setObj (Obj.CORNER_FACTOR f) corner
    let slow := (d.lane f l).slow
    let d := d.updWear f l (fun x => { x with sound := sound, slow := if 2450 < floor then x.slow + 1 else 0
                                              goodRuns := if 2450 < floor then 0 else x.goodRuns + 1 })
    let d := if 2450 < floor ∧ slow = 0 then d.raise 0x66 (time * 65536 + f * 256 + l) else d
    let d := if 2450 < floor ∧ slow ≠ 0 then d.retireSoon f l 3 else d
    d.recheckBudget f

/-- The lane self-test of every lane (R573). -/
def Dev.laneSelftest (d : Dev) : Dev :=
  forN 8 (fun f d => forN 8 (fun l d => if (d.lane f l).sound then d else d.retireSoon f l 4) d) d

/-- SPARE_SELFTEST_FAIL: the idle spare of a fold fails its continuous self-test. -/
def Dev.spareFail (d : Dev) (f : Nat) : Dev :=
  match (List.range 8).find? (fun l => d.obj (Obj.LANE_STATE f l) == 1) with
  | some l => (d.updWear f l (fun x => { x with sound := false })).retireSoon f l 4
  | none => d

/-- The retirements that take effect at a boundary, lower lanes first (R573). -/
def Dev.retireDue (d : Dev) : Dev :=
  (List.range 64).foldl (fun d i =>
    let code := (d.lane (i / 8) (i % 8)).retire
    if code = 0 then d
    else (d.updWear (i / 8) (i % 8) (fun x => { x with retire := 0 })).retireLane (i / 8) (i % 8) code) d

/-- A lane may be re-admitted: retired, self-test and two good measurements (R574). -/
def Dev.clearOk (d : Dev) (f l : Nat) : Bool :=
  d.state == stService && 3 ≤ d.obj (Obj.LANE_STATE f l) && (d.lane f l).sound && 2 ≤ (d.lane f l).goodRuns

/-- RETIRE_CLEAR taking effect: the lane serves again where fewer than seven do, and is the idle spare otherwise (DEDUCED, log entry 71). -/
def Dev.retireClear (d : Dev) (f l : Nat) : Dev :=
  if !d.clearOk f l then d
  else
    let few : Bool := decide ((d.lanesInService f).length < 7)
    let d := (d.setObj (Obj.LANE_STATE f l) (if few then 0 else 1)).showLanes f
    let d := { d with health := { d.health with retired := d.health.retired.filter (fun e => e.1 != f * 8 + l) } }
    let d := if (d.lanesInService f).length = 7 then { d with folds := upd (fun (x : Fold) => { x with reduced := false }) d.folds f } else d
    d.raise 0x68 (f * 256 + l)

/-! ## Hours (R575) -/

/-- The hour counters shown. -/
def Dev.showHours (d : Dev) : Dev :=
  ((d.setObj Obj.POWER_ON_HOURS d.health.powerOn).setObj Obj.RUN_HOURS d.health.run).setObj Obj.HOURS_ABOVE_105 d.health.hot

/-- HOUR_COUNTER: an hour of operation has passed; hot when Tj lay above 105 °C (DEDUCED, log entry 71). -/
def Dev.hourPassed (d : Dev) (hot : Bool) : Dev :=
  let h := d.health
  ({ d with health := { h with powerOn := satAdd 32 h.powerOn 1, run := satAdd 32 h.run (b2n (d.state == stRun)),
                               hot := satAdd 32 h.hot (b2n hot) } } : Dev).showHours

/-! ## Meanings -/

/-- SCRUB_PASS_DONE. -/
def execScrubPassDone (s : State) : Res := s.onDev Dev.scrubPass

/-- ISLAND_SCRUB. -/
def execIslandScrub (found : Option IslandByte) (s : State) : Res := s.onDev (fun d => d.islandScrub found)

/-- SOFT_REPAIR. -/
def execSoftRepair (region : Fin 5) (mac : Byte) (row : BitVec 9) (s : State) : Res :=
  s.onBoth (fun x => softRepair x region mac.toNat row.toNat)

/-- FUSE_DONE. -/
def execFuseDone (s : State) : Res := s.onDev Dev.fuseDone

/-- SPARE_SELFTEST_FAIL. -/
def execSpareSelftestFail (fold : Fin 8) (s : State) : Res := s.onDev (fun d => d.spareFail fold)

/-- HOUR_COUNTER. -/
def execHourCounter (hot : Bool) (s : State) : Res := s.onDev (fun d => d.hourPassed hot)

end Sys2Proof.Machine
end

