-- ==== Sys2Proof/Machine/Twin.lean ====
section
/-! DEFINITION. Machine/Twin.lean: the bytes of COPY and ACK frames, most significant byte first (R12, R497 to R503). Data of a kind whose
words the spec does not lay out are free words, or the model's own form (DESIGN CHOICE, log entry 67). -/

namespace Sys2Proof.Machine

/-- The bytes of an object's value (R48). -/
def objSize (k : Nat) : Nat := match rowOf k with
  | some r => r.ty.size
  | none => 0

/-- A segment as it travels: KIND, TARGET, address word, data (R499). -/
structure TwinSegment where
  kind : Nat
  target : Nat
  addr : Nat
  data : List Byte
deriving DecidableEq, Repr

/-- Data filled up with 0x00 to whole words. -/
def wholeWords (l : List Byte) : List Byte := l ++ List.replicate (4 * ceilDiv l.length 4 - l.length) 0

/-- Words as bytes. -/
def wordBytes (l : List Nat) : List Byte := l.flatMap (beBytes 4)

/-- The words a list of (offset, byte) entries touches, rising, a later entry of a byte replacing an earlier one. -/
def touched (l : List (Nat × Nat)) : List (Nat × Nat) :=
  l.foldl (fun (t : List (Nat × Nat)) e =>
    let k := 8 * (3 - e.1 % 4)
    let w := tget (fun _ => 0) t (e.1 / 4)
    tput t (e.1 / 4) (w - bits w (k + 7) k * 2 ^ k + e.2 % 256 * 2 ^ k)) []

/-- The 8 words of an axis's generator (R500). -/
def genWords (g : Gen) (home : Nat) : List Nat :=
  let a := raw 64 g.acc
  let v := raw 64 g.vel
  [a / 2 ^ 32, a % 2 ^ 32, v / 2 ^ 32, v % 2 ^ 32, raw 32 g.rho, g.gear.mPrev % 2 ^ 32, g.state % 256 + home % 256 * 256 + g.flags % 65536 * 65536,
   raw 16 g.gear.u * 65536 + g.dwell % 65536]

/-- Consecutive words or axes of one kind and target travel in one segment. -/
def joinSegment (s : TwinSegment) (l : List TwinSegment) : List TwinSegment :=
  match l with
  | [] => [s]
  | t :: rest =>
    if s.kind = 2 ∧ t.kind = 2 ∧ t.target = s.target + 1 then { s with data := s.data ++ t.data } :: rest
    else if s.kind = 1 ∧ t.kind = 1 ∧ t.target = s.target ∧ t.addr = s.addr + 1 ∧ s.data.length = 4 then
      { s with data := s.data ++ t.data } :: rest
    else s :: l

/-- AXIS_STATE of 128 axes, eight to a word. -/
def statusWords (l : List (Nat × Nat)) : List Nat :=
  (List.range 16).map (fun i => sumOf ((l.filter (fun e => e.1 / 8 == i)).map (fun e => e.2 % 16 * 2 ^ (4 * (e.1 % 8)))))

/-- Which of the bytes of a window are unwritten: a bit for each, in whole words. -/
def markerBytes (l : List Nat) : List Byte :=
  let bitsSet := sumOf (l.zipIdx.map (fun e => if e.1 = 0x1F00 then 2 ^ e.2 else 0))
  beBytes (4 * ceilDiv l.length 32) bitsSet

/-- The segments one of the model's stands for; tag is the cycle's. -/
def twinSegments (tag : Nat) : CopySegment → List TwinSegment
  | .context c =>
    let free := fun i => Config.vendorCopyWord c.ctx tag i % 2 ^ 32
    let n := Config.vendorCopyWords (b2n (128 ≤ c.ctx)) % 256
    { kind := 1, target := c.ctx, addr := free 0 % 2 ^ 17, data := wordBytes ((List.range n).map (fun i => free (i + 1))) } ::
      c.rc.map (fun e => { kind := 1, target := c.ctx, addr := (e.1 * 1024 + e.2.1) % 2 ^ 17, data := beBytes 4 (raw 32 e.2.2) })
  | .window c => (touched c.bytes).map (fun e => { kind := 1, target := c.ctx, addr := e.1, data := beBytes 4 e.2 })
  | .status s =>
    let grid := match s.grid with
      | some (_, st, trip, legs) => [st * 256 + trip % 256] ++ legs.flatMap (fun e => [e.1, e.2])
      | none => []
    [{ kind := 1, target := 128, addr := 0, data := wordBytes (statusWords s.axes ++ grid) }]
  | .profile n g h => [{ kind := 2, target := n, addr := 0, data := wordBytes (genWords g h) }]
  | .island w => [{ kind := 3, target := 0, addr := 0, data := wordBytes w }]
  | .connections w => [{ kind := 4, target := 0, addr := 0, data := wordBytes w }]
  | .payload n b => [{ kind := 5, target := n, addr := 0, data := b }]
  | .write k v data => [{ kind := 6, target := 0, addr := k * 256, data := if data.isEmpty then beBytes (objSize k) v else data }]
  | .safeFrame n b => [{ kind := 7, target := n, addr := 0, data := b }]
  | .ring r p _ _ e w => [{ kind := 8, target := r, addr := p, data := beBytes 2 e ++ beBytes 2 w }]
  | .image lo _ objs => [{ kind := 9, target := 0x100, addr := lo, data := objs.flatMap (fun e => beBytes 3 e.1 ++ beBytes (objSize e.1) e.2) }]
  | .value _ k off total b =>
    [{ kind := 9, target := 0x100, addr := 2 ^ 24 + off, data := beBytes 4 k ++ beBytes 4 total ++ b }]
  | .domain k off _ b => [{ kind := 9, target := 0x200 + k, addr := off, data := b }]
  | .area c w l => [{ kind := 9, target := c, addr := w, data := l.map (BitVec.ofNat 8) ++ markerBytes l }]
  | .vendor c w n _ =>
    [{ kind := 9, target := c.ctx, addr := w, data := wordBytes ((List.range n).map (fun i => Config.vendorCopyWord c.ctx tag (2 ^ 20 + w + i) % 2 ^ 32)) }]

/-- A list of segments as it travels. -/
def wireSegments (tag : Nat) (l : List CopySegment) : List TwinSegment := (l.flatMap (twinSegments tag)).foldr joinSegment []

/-- A segment's bytes: header word, address word, data words (R499). -/
def TwinSegment.bytes (s : TwinSegment) : List Byte :=
  let data := wholeWords s.data
  beBytes 2 (s.kind * 4096 + s.target) ++ beBytes 2 (data.length / 4) ++ beBytes 4 s.addr ++ data

/-- The bytes a list of segments takes. -/
def segsBytes (l : List CopySegment) : Nat := sumOf ((wireSegments 0 l).map (fun s => 8 + 4 * ceilDiv s.data.length 4))

/-- The 32 bytes of a COPY header (R498). -/
def copyHeaderBytes (h : CopyHeader) : List Byte :=
  beBytes 4 h.tag.toNat ++ beBytes 4 h.epoch.toNat ++ beBytes 10 h.cycleStart.toNat ++ [h.state, h.flags] ++ beBytes 2 h.cycleLen.toNat
    ++ beBytes 4 h.remaining.toNat ++ beBytes 2 h.joinId.toNat ++ beBytes 4 0

/-- SOF of a frame type and EOF, the code group as its byte (R497). -/
def twinSof (type : Byte) : List Byte := [0xFB, type, 0, 0]
def twinEof : List Byte := [0xFD, 0, 0, 0]

/-- The words of a COPY frame before CLOSE, without SOF. -/
def copyFrameBody (f : CopyFrame) : List Byte :=
  copyHeaderBytes f.header ++ (wireSegments f.header.tag.toNat f.segments).flatMap TwinSegment.bytes

/-- A COPY frame: SOF, header, segments, CLOSE unless the frame misses a limit, EOF (R498, R500, R501). -/
def copyFrameBytes (f : CopyFrame) : List Byte :=
  let b := copyFrameBody f
  let close : TwinSegment := { kind := 0xF, target := 0, addr := 1 + b.length / 4, data := beBytes 4 (crc32c b) }
  twinSof 0x10 ++ b ++ (if f.closed then close.bytes else []) ++ twinEof

/-- The three words of an ACK before its frame words (R503). -/
def copyAckBytes (a : CopyAck) : List Byte :=
  let b := beBytes 4 a.tag.toNat ++ [a.result, a.role, a.progress, 0]
  twinSof 0x12 ++ b ++ beBytes 4 (crc32c b) ++ twinEof

end Sys2Proof.Machine
end

