-- ==== Sys2Proof/Machine/Pair.lean ====
section
/-! DEFINITION. Machine/Pair.lean: active and standby operation (R492 to R523): roles, the arbiter pins, the COPY frame a cycle sends,
acknowledgements, joining, link loss, takeover, handover. What a standby does with a COPY frame stands in Machine/Copy.lean. -/

namespace Sys2Proof.Machine

/-! ## Parts of the COPY frame (R496 to R503) -/

/-- The last two accepted feedbacks of a context (R266). -/
def Axis.lastTwo (a : Axis) : List Fb :=
  match a.cur with
  | some x => (x :: a.hist).take 2
  | none => a.hist

/-- The committed state of a vendor context. -/
def Dev.vendorCopy (d : Dev) (c : Nat) : CopyContext :=
  let a := d.axis c
  { ctx := c, servo := a.servo, out := a.out, hist := a.lastTwo, rc := (d.pair.learned.filter (fun e => e.1 == c)).flatMap (·.2) }

/-- What a commit of a context leaves for the standby. -/
def Dev.contextSegment (d : Dev) (c : Nat) : CopySegment :=
  if d.domOf c < 2 then .context (d.vendorCopy c)
  else .window { ctx := c, out := (d.axis c).out, hist := (d.axis c).lastTwo,
                 bytes := (d.pair.stores.filter (fun e => e.1 == c)).flatMap (·.2) }

/-- The axes' states and the grid-former's (R391, R514). -/
def Dev.statusSegment (d : Dev) : CopySegment :=
  .status { axes := ((List.range 128).filter d.configured).map (fun n => (n, d.axisState n))
            grid := if d.configured 128 then some (d.gf, d.gfState, d.obj Obj.GF_TRIP_CAUSE, d.legReqs) else none }

/-- The ISLAND segment. -/
def Dev.islandSegment (d : Dev) : CopySegment :=
  .island ((List.range 32).map (fun g => d.obj (Obj.GROUP_STATE g) * 2 ^ 24 + d.obj (Obj.LOCKOUT_CAUSES g) * 256 + d.obj (Obj.LOCKOUT_FIRST g)))

/-- The CONNECTIONS segment, up to the highest enabled connection. -/
def Dev.connSegments (d : Dev) : List CopySegment :=
  match (d.listed 0x3400 256 0).max? with
  | none => []
  | some top => [.connections ((List.range (top + 1)).map (fun n =>
      let c := d.conn n
      let seq := if d.obj (Obj.CN_DIRECTION n) = 1 then (c.seq + 65535) % 65536 else d.obj (Obj.CN_LAST_SEQ n)
      d.obj (Obj.CONN_STATE n) * 2 ^ 24 + min c.count 255 * 65536 + seq))]

/-- The PAYLOAD segments of connections whose payload in use has changed. -/
def Dev.payloadSegments (d : Dev) : List CopySegment :=
  ((d.connsOf 0).filter (fun n => (d.conn n).copied != (d.conn n).used)).map (fun n => .payload n (d.conn n).used)

/-! ## The bulk copy (R501, R505) -/

/-- The entries of a list, from the front, whose sizes fit in a room, and whether all do. -/
def fitting {α : Type} (size : α → Nat) : List α → Nat → List α × Bool
  | [], _ => ([], true)
  | e :: t, room => if size e ≤ room then (let r := fitting size t (room - size e); (e :: r.1, r.2)) else ([], false)

/-- The copied objects that differ from their defaults, and the copied DOMAIN values, with keys from one on (R496). -/
def Dev.imageFrom (d : Dev) (k : Nat) : List (Nat × Nat) := d.dict.filter (fun e => decide (k ≤ e.1) && isCopied e.1)
def Dev.valuesFrom (d : Dev) (k : Nat) : List (Nat × List Byte) := d.blobs.filter (fun e => decide (k ≤ e.1) && isCopied e.1)

/-- Bytes of an object in the image. -/
def imageBytes (e : Nat × Nat) : Nat := 3 + objSize e.1

/-- The symbols of words of a context's window. -/
def Dev.windowSyms (d : Dev) (m : Mem) (c w n : Nat) : List Nat :=
  let f := d.obj (Obj.CTX_FOLD c)
  let base := 4 * (tget (fun _ => 0) (d.fold f).windows c + w)
  let lo := memAddr 0 (8 * f + base / 32768) (base % 32768)
  (List.range (4 * n)).map (fun i => m.sym (lo + i))

/-- As much of a DOMAIN value or an image as a room takes: bytes, and whether they are the last. -/
def sliceFit (b : List Byte) (off room : Nat) : List Byte × Bool :=
  let n := min (4 * (room / 4)) (b.length - off)
  ((b.drop off).take n, decide (b.length ≤ off + n))

/-- What an item of the bulk copy sends in a room of data bytes, and what is left of it. -/
def Dev.itemCut (d : Dev) (m : Mem) (room : Nat) : BulkItem → List CopySegment × Option BulkItem
  | .image k =>
    let l := d.imageFrom k
    let r := fitting imageBytes l room
    if r.2 then ([.image k (2 ^ 24) r.1], none)
    else match (l.drop r.1.length).head? with
      | some e => if r.1.isEmpty then ([], some (.image k)) else ([.image k e.1 r.1], some (.image e.1))
      | none => ([], none)
  | .values k off =>
    match (d.valuesFrom k).head? with
    | none => if room < 8 then ([], some (.values k off)) else ([.value k (2 ^ 24) 0 0 []], none)
    | some e =>
      let from_ := if e.1 = k then off else 0
      let r := sliceFit e.2 from_ (room - 8)
      if r.1.isEmpty && !r.2 then ([], some (.values k off))
      else ([.value k e.1 from_ e.2.length r.1], some (if r.2 then .values (e.1 + 1) 0 else .values e.1 (from_ + r.1.length)))
  | .domain n off =>
    let b := d.image n
    let r := sliceFit b off room
    if r.1.isEmpty && !r.2 then ([], some (.domain n off))
    else ([.domain n off b.length r.1], if r.2 then none else some (.domain n (off + r.1.length)))
  | .ring r p => match (d.ring r).node p with
    | some n => if room < 4 then ([], some (.ring r p)) else ([d.ringSegment r p n], none)
    | none => ([], none)
  | .area c w =>
    let left := d.ctxWords (d.domOf c) - w
    let n := min left ((room / 4 - 1) * 8 / 9)
    if n = 0 then ([], if left = 0 then none else some (.area c w))
    else ([.area c w (d.windowSyms m c w n)], if n = left then none else some (.area c (w + n)))
  | .vendor c w =>
    let left := d.ctxWords (d.domOf c) - w
    let n := min left (room / 4)
    if n = 0 ∧ left ≠ 0 then ([], some (.vendor c w))
    else ([.vendor (d.vendorCopy c) w n (decide (n = left))], if n = left then none else some (.vendor c (w + n)))
  | .payload n =>
    let b := (d.conn n).used
    if room < b.length + 3 then ([], some (.payload n)) else ([.payload n b], none)

/-- The data bytes an item has still to send; none counts as nothing. -/
def Dev.itemBytes (d : Dev) : BulkItem → Nat
  | .image k => max 4 (sumOf ((d.imageFrom k).map imageBytes))
  | .values k off => 8 + sumOf ((d.valuesFrom k).map (fun e => 8 + e.2.length)) - off
  | .domain n off => max 4 ((d.image n).length - off)
  | .ring _ _ => 4
  | .area c w => max 4 (4 * (d.ctxWords (d.domOf c) - w))
  | .vendor c w => max 4 (4 * (d.ctxWords (d.domOf c) - w))
  | .payload n => max 4 (d.conn n).used.length

/-- BULK_REMAINING (DESIGN CHOICE, log entry 67). -/
def Dev.bulkRemaining (d : Dev) : Nat := min (2 ^ 32 - 1) (sumOf (d.pair.bulk.map d.itemBytes))

/-- The BULK of a frame: items in their order, each cut where the room ends; no segment has more data words than COUNT holds (R499,
R501). -/
def Dev.cutBulk (d : Dev) (m : Mem) : Nat → List BulkItem → Nat → List CopySegment × List BulkItem
  | 0, l, _ => ([], l)
  | _, [], _ => ([], [])
  | fuel + 1, i :: t, room =>
    let c := d.itemCut m (min 262140 (room - 8)) i
    match c.2 with
    | some rest => if c.1.isEmpty then ([], rest :: t)
      else (let r := d.cutBulk m fuel (rest :: t) (room - segsBytes c.1); (c.1 ++ r.1, r.2))
    | none => let r := d.cutBulk m fuel t (room - segsBytes c.1); (c.1 ++ r.1, r.2)

/-- A join may run: a standby position on every enabled ring, every takeover bound within 4,500 ns (R505, R512). -/
def Dev.joinPlan (d : Dev) (r : Nat) : Nat :=
  if !d.ringEnabled r then 0
  else if d.obj (Obj.STANDBY_POSITION r) = 0 then 1
  else if [Obj.TAKEOVER_SCATTER_EAST r, Obj.TAKEOVER_SCATTER_WEST r, Obj.TAKEOVER_GATHER_EAST r, Obj.TAKEOVER_GATHER_WEST r].any
    (fun k => decide (4500 < d.obj k)) then 2
  else 0

/-- What a join sends, in the order of R505; then the payloads in use, which travel later only as they change (DEDUCED, log entry 67). -/
def Dev.joinItems (d : Dev) : List BulkItem :=
  let doms := ((List.range 255).filter (fun k => 2 ≤ k ∧ d.obj (Obj.DOMAIN_STATE k) = 2)).map (fun k => BulkItem.domain k 0)
  let rings := [0, 1].flatMap (fun r => (List.range (d.ring r).nodes.length).map (fun i => BulkItem.ring r (i + 1)))
  let windows := ((List.range 144).filter d.configured).map (fun c => if d.domOf c < 2 then BulkItem.vendor c 0 else .area c 0)
  [.image 0, .values 0 0] ++ doms ++ rings ++ windows ++ (d.connsOf 0).map BulkItem.payload

/-- A join starts at the active; a ring whose plan does not allow it raises PLAN_FAULT (R505). -/
def Dev.startJoin (d : Dev) : Dev :=
  let bad := [0, 1].filter (fun r => d.joinPlan r != 0)
  if !bad.isEmpty then bad.foldl (fun d r => d.raise 0x57 (r * 256 + d.joinPlan r)) d
  else d.updPair14 (fun p => { p with joining := true, joinId := (p.joinId + 1) % 65536, bulk := d.joinItems })

/-- COPY_BUDGET of the cycle length (R501). -/
def Dev.copyBudget (d : Dev) : Nat := min 16384 (d.cyc.len * 6 / 10)

/-- At a cycle's boundary, after the commands: the PROFILE segment of the cycle (R501). -/
def Dev.copyProfile (d : Dev) : Dev :=
  if d.obj Obj.ROLE ≠ 1 ∨ d.state = stConfig then d
  else
    let l := ((List.range 128).filter d.configured).map (fun n => CopySegment.profile n (d.gen n) (d.obj (Obj.HOME_STATE n)))
    d.updPair14 (fun p => { p with segs := l ++ p.segs })

/-- The safe frames of twin-link connections for this deadline (R472). -/
def Dev.twinFrames (d : Dev) : List CopySegment × Dev :=
  (d.connsOf 1).foldl (fun acc n =>
    if acc.2.sendsStatus n 3 && acc.2.safeLive then
      let x := acc.2.nextSafe n
      (acc.1 ++ [CopySegment.safeFrame n x.1], x.2)
    else acc) ([], d)

/-- The COPY frame of a cycle, after its deadline (R501); what is noted later goes with the next. Without the SerDes' clock none leaves
(R129). -/
def Dev.copySend (d : Dev) (m : Mem) : Dev :=
  if d.obj Obj.ROLE ≠ 1 ∨ !d.cycling ∨ d.tb.serdesStopped then d
  else
    let t := d.twinFrames
    let d := t.2
    let contexts := if d.state = stConfig then [] else d.pair.committed.map d.contextSegment ++ [d.statusSegment]
    let late := d.islandSegment :: d.connSegments ++ d.payloadSegments ++ t.1
    let body := d.pair.segs ++ contexts
    let bytes := 36 + segsBytes body + segsBytes late + 16
    let fits := decide (bytes ≤ d.copyBudget) && decide (segsBytes late + 16 ≤ 3500)
    let room := d.cyc.len - 1500 - bytes
    let b := if d.pair.joining then d.cutBulk m (d.pair.bulk.length + d.blobs.length + 16) d.pair.bulk room else ([], [])
    let d := d.updPair14 (fun p => { p with bulk := b.2 })
    let header : CopyHeader :=
      { tag := BitVec.ofNat 32 d.cyc.tag, epoch := BitVec.ofNat 32 d.epoch, cycleStart := BitVec.ofNat 80 (time80OfNs d.cyc.startTime),
        state := BitVec.ofNat 8 d.state, flags := BitVec.ofNat 8 (b2n d.pair.joining + 2 * b2n d.pair.handover),
        cycleLen := BitVec.ofNat 16 (d.cyc.len / 125), remaining := BitVec.ofNat 32 d.bulkRemaining,
        joinId := BitVec.ofNat 16 d.pair.joinId }
    let frame : CopyFrame := { header := header, segments := body ++ b.1 ++ late, closed := fits, checked := true }
    let d := (d.emit (.copy frame)).emit (.wire (copyFrameBytes frame))
    let d := (d.setObj Obj.COPY_BYTES (min bytes 65535)).setObj Obj.COPY_PEAK (max (d.obj Obj.COPY_PEAK) (min bytes 65535))
    let d := (d.connsOf 0).foldl (fun d n => d.updConn n (fun c => { c with copied := c.used })) d
    d.updPair14 (fun p => { p with sent := fits, segs := [] })

/-- COPY_ACK_RX (R503, R505, R507). -/
def Dev.copyAck (d : Dev) (a : CopyAck) : Dev :=
  if d.obj Obj.ROLE ≠ 1 ∨ !d.pair.twinUp then d
  else if !a.checked then d.bump Obj.TWIN_ERRORS
  else
    let d := (d.setObj Obj.PEER_ROLE a.role.toNat).setObj Obj.JOIN_PROGRESS a.progress.toNat
    let good := a.result = 0 && a.tag.toNat = d.cyc.tag && d.pair.sent
    let d := if good then (d.setObj Obj.LAST_COPY_TAG d.cyc.tag).updPair14 (fun p =>
      { p with acked := true, healthy := p.healthy || a.role == 2 }) else d
    let d := if good && d.pair.joining && d.pair.bulk.isEmpty then d.updPair14 (fun p => { p with joining := false }) else d
    if a.role = 3 && !d.pair.joining then d.startJoin else d

/-! ## Boundaries (R495, R504, R506) -/

/-- The active at a boundary: a copy without acknowledgement is missed (DEDUCED, log entry 68). -/
def Dev.activeBoundary (d : Dev) (tag : Nat) : Dev :=
  let missed := decide (0 < d.cyc.count) && !d.pair.acked && d.cycling
  let d := if missed then (d.bump Obj.COPIES_MISSED).raise 0x53 tag else d
  let d := if missed && (d.obj Obj.PEER_ROLE = 2 || d.obj Obj.PEER_ROLE = 3) then
      ((d.setObj Obj.PEER_ROLE 4).raise 0x51 3).updPair14 (fun p => { p with joining := false, bulk := [] }) else d
  d.updPair14 (fun p => { p with healthyPrev := p.healthy, healthy := false, acked := false, sent := false, learned := [], stores := [],
                                 committed := [] })

/-- A standby at a boundary: link loss or a missed copy makes it STALE; a STALE one with AUTO_REJOIN joins. What it follows is taken by
the boundary (Machine/Cycle.lean) (DEDUCED, log entry 68). -/
def Dev.standbyBoundary (d : Dev) (tag : Nat) : Dev :=
  let role := d.obj Obj.ROLE
  let d := if role = 2 ∨ role = 3 then
      let missed := !d.pair.got
      let d := if missed then (d.bump Obj.COPIES_MISSED).raise 0x53 tag else d
      if d.pair.staleNext ≠ 0 then d.setRole 4 else if missed then (d.raise 0x51 2).setRole 4 else d
    else if role = 4 ∧ d.objB Obj.AUTO_REJOIN ∧ d.pair.twinUp then d.setRole 3
    else d
  d.updPair14 (fun p => { p with staleNext := 0, got := role = 4 && d.obj Obj.ROLE = 3, follow := none,
                                 joining := p.joining && role = 3 && d.obj Obj.ROLE = 3 })

/-- What a boundary brings a pair member; tag is that of the cycle that ends. -/
def Dev.pairBoundary (d : Dev) (tag : Nat) : Dev :=
  let d := if d.obj Obj.ROLE = 1 then d.activeBoundary tag else if 2 ≤ d.obj Obj.ROLE then d.standbyBoundary tag else d
  d.updPair14 (fun p => { p with takeTag := none })

/-! ## The twin link (R497, R506) -/

/-- TWIN_LINK_LOSS. -/
def Dev.twinLoss (d : Dev) (errors : Nat) : Dev :=
  let d := d.bumpBy 32 Obj.TWIN_ERRORS errors
  if !d.pair.twinUp then d
  else
    let d := d.updPair14 (fun p => { p with twinUp := false })
    let role := d.obj Obj.ROLE
    if role = 1 then ((d.setObj Obj.PEER_ROLE 4).raise 0x51 1).updPair14 (fun p => { p with joining := false, bulk := [] })
    else if role = 2 ∨ role = 3 then (d.raise 0x51 1).updPair14 (fun p => { p with staleNext := 1 })
    else d

/-- What follows the loss of PLL-S or of the SerDes: the bypasses close, and with the SerDes every link they carry goes down (R129, R214). -/
def Dev.serdesFall (d : Dev) : Dev :=
  let gone := d.tb.serdesStopped || !getAt false d.ctl.supplies 1
  let d := if gone || !d.backupAvailable then d.closeBypasses else d
  if gone then ((d.ethLink 0 .down).ethLink 1 .down).twinLoss 0 else d

/-- TWIN_LINK_UP. -/
def Dev.twinRise (d : Dev) : Dev := if d.pair.twinUp then d else (d.updPair14 (fun p => { p with twinUp := true })).raise 0x52 0

/-! ## Grant and takeover (R508 to R519) -/

/-- ARB_GRANT_RISE: stable for 100 ns, taken now; in BOOT the level is only kept until the dictionary load step takes it (R592). -/
def Dev.grantRise (d : Dev) : Dev :=
  if !d.isl.running || d.pair.grant then d
  else if d.state == stBoot && d.ctl.boot != .loaded then d.updPair14 (fun p => { p with grant := true })
  else ((d.updPair14 (fun p => { p with grant := true, grantAt := some d.now })).raise 0x56 1).refreshArb

/-- ARB_GRANT_FALL: an ACTIVE unit stops its head traffic and becomes STALE (R511). -/
def Dev.grantFall (d : Dev) : Dev :=
  if !d.isl.running || !d.pair.grant then d
  else if d.state == stBoot && d.ctl.boot != .loaded then d.updPair14 (fun p => { p with grant := false })
  else
    let d := (d.updPair14 (fun p => { p with grant := false, grantAt := none })).raise 0x56 0
    if d.obj Obj.ROLE = 1 then
      let d := d.updPair14 (fun p => { p with joining := false, bulk := [], segs := [], handover := false, drove := false })
      let d := forN 2 (fun r d => d.updRing r (fun g => { g with sending := false, takeover := none })) d
      (d.setRole 4).connsSilent
    else d.refreshArb

/-- A gratuitous ARP message: an ARP reply for an address to every station, through the pool's channel 3 (R515). -/
def Dev.gratuitousArp (d : Dev) (p ip : Nat) : Dev :=
  if !d.ethRuns || d.obj (Obj.LINK p) = 0 then d
  else match d.poolTake 3 64 with
    | none => d.poolDrop 3
    | some d => d.ethOffer p 0 { cls := 2, payload := .arp 0xFFFFFFFFFFFF ip ip, ingress := none, channel := 3, buffers := buffersOf 64 }

/-- The takeover plan of every ring that runs (R512). -/
def Dev.takeRings (d : Dev) : Dev :=
  forN 2 (fun r d => if d.ringOpen r then
      let s := (d.ring r).standby
      let o := (d.ring r).offsets s
      let d := d.updRing r (fun g =>
        { g with phase := .complete, closed := true, takeover := some (s, o.1, o.2), lostLinks := [], plan := [], sending := true
                 nodes := (g.asTakeover s).nodes })
      ((d.setObjBit (Obj.RING_STATUS r) 3 false).setObj (Obj.NODE_COUNT r) (d.ring r).nodes.length).showHalves r
    else d) d

/-- The three gratuitous ARP messages on PAIR_ADDRESS (R515). -/
def Dev.takeAddress (d : Dev) : Dev :=
  let ip := d.obj Obj.PAIR_ADDRESS
  if ip = 0 then d else forN 2 (fun p d => forN 3 (fun _ d => d.gratuitousArp p ip) d) d

/-- The transmit connections go on in VALID: SEQ of the copy plus 4 is the first sent (R487, R518). -/
def Dev.takeSends (d : Dev) : Dev :=
  ((d.connsOf 1).foldl (fun d n => (d.setObj (Obj.CONN_STATE n) 2).updConn n (fun c => { c with seq := (c.seq + 3) % 65536 })) d).countValid

/-- The transmit connections of a unit that was no head before start (R479, R494). -/
def Dev.startSends (d : Dev) : Dev := ((d.connsOf 1).foldl (fun d n => d.connStart n (d.obj (Obj.CN_FAIL_REASON n))) d).countValid

/-- A takeover counted, with its event: kind 1 normal, 2 stale (R521, R523). -/
def Dev.takeCount (d : Dev) (m kind : Nat) : Dev :=
  ((d.bump Obj.TAKEOVERS).setObj Obj.LAST_TAKEOVER (d.time80 0)).raise 0x55 (min m (2 ^ 24 - 1) * 256 + kind)

/-- A normal takeover from the copy m cycles old: generators and grid-former run forward to this boundary, and its cycle begins for the
grid-former (R513, R514). -/
def Dev.takeNormal (d : Dev) (m : Nat) : Dev :=
  let d := d.takeRings.runForward m
  let d := { d with gf := { d.gf with th := (d.gf.th + m * d.gf.dth) % 2 ^ 48 } }
  let d := { d with axes := d.axes.map (fun (a : Axis) => { a with seed := true, work := { skim := 0, full := 4 } }) }
  forN 8 (fun i d => if d.configured (128 + i) then d.beginCycle (128 + i) else d) d

/-- A stale takeover (R518). -/
def Dev.takeStale (d : Dev) (m : Nat) : Dev :=
  let d := d.takeRings.updPair14 (fun p => { p with staleStep := some 0, age := m })
  let d := ((List.range 128).filter d.configured).foldl (fun d n =>
    let d := d.updAxis n (fun a => { a with servo := d.stageOff n initServo, out := initOut, seed := false, hist := a.hist.take 1,
                                            work := { skim := 0, full := 4 } })
    let d := d.setObj (Obj.AXIS_STATE n) 1
    d.putGen n ((d.gen n).rest 8)) d
  ({ d with gf := { initGrid with slotOff := List.replicate 16 true } } : Dev).gfOffNow

/-- The receive connections at a takeover: in a normal one their watchdogs restart at the first tick (R487), in a stale one they start
(R518). -/
def Dev.takeReceives (d : Dev) (normal : Bool) : Dev :=
  if normal then d.updIsl (fun i => { i with rewatch := true })
  else ((d.connsOf 0).foldl (fun d n => d.connStart n (d.obj (Obj.CN_FAIL_REASON n))) d).countValid

/-- A takeover by a unit that has copied: in CONFIG it runs discovery, whose plan it needs (R204, R512). -/
def Dev.takeCopied (d : Dev) (m : Nat) : Dev :=
  let normal := decide (m ≤ 3)
  let d := if normal then d else d.setObjB Obj.STALE_SERVICE true
  let d := if d.state = stConfig then forN 2 (fun r d => d.startDiscovery r) d else if normal then d.takeNormal m else d.takeStale m
  ((d.takeSends.takeReceives normal).takeCount m (if normal then 1 else 2)).copyProfile

/-- TAKEOVER: the grant takes effect at this boundary (R508, R512). A member that waits in CONFIG runs discovery instead (R494). -/
def Dev.takeover (d : Dev) : Dev :=
  let due := match d.pair.grantAt with
    | some t => decide (t + 1000 ≤ d.cyc.startAt)
    | none => false
  let role := d.obj Obj.ROLE
  if !d.objB Obj.PAIR_MODE || role = 0 || role = 1 || !due || !d.cycling || d.now != d.cyc.startAt then d
  else
    let d := d.updPair14 (fun p =>
      { p with grantAt := none, joining := false, bulk := [], stash := [], segs := [], learned := [], stores := [], committed := [],
               sent := false, acked := false, healthy := false, healthyPrev := false, takeTag := some d.cyc.tag, staleStep := none,
               handover := false, drove := false })
    let d := ((d.setRole 1).raiseEpoch).takeAddress
    if role = 5 then (forN 2 (fun r d => d.startDiscovery r) d).startSends
    else d.takeCopied (tagDiff d.cyc.tag (d.obj Obj.LAST_COPY_TAG))

/-- The catch of a stale takeover, at the second deadline after its boundary, at the velocity of the last two accepted positions: they lie
one cycle apart, or as far as the copy is old (R518) (DEDUCED, log entry 68). -/
def Dev.catchAxes (d : Dev) : Dev :=
  ((List.range 128).filter (fun n => d.configured n && d.obj (Obj.STALE_ACTION n) == 1)).foldl (fun d n =>
    let a := d.axis n
    match a.cur, a.hist with
    | some x1, x2 :: older =>
      let cycles : Int := if older.isEmpty then (d.pair.age : Int) + 1 else 1
      let move := sgn 32 (raw 32 ((x1.pos : Int) - x2.pos))
      let g := d.gen n
      let i := g.int + sgn 32 (raw 32 ((x1.pos : Int) - d.obj (Obj.HOME_ORIGIN n) - g.int))
      let g := { g.rest 3 with acc := sgn 64 (raw 64 (i * 16777216)), vel := move * 2 ^ 48 * 125 / (cycles * d.cyc.len), motion := .stop }
      ((d.setObj (Obj.AXIS_STATE n) 2).putGen n g.beginStop)
    | _, _ => d) d

/-- A position accepted in the cycle of the takeover itself is the earlier of the two. -/
def Dev.catchMark (d : Dev) : Dev :=
  { d with axes := d.axes.map (fun (a : Axis) => match a.cur with
      | some x => { a with hist := [x, x] }
      | none => a) }

/-- The steps of a stale takeover at a deadline. -/
def Dev.staleDeadline (d : Dev) : Dev :=
  match d.pair.staleStep with
  | none => d
  | some 0 => d.catchMark.updPair14 (fun p => { p with staleStep := some 1 })
  | some _ => (d.catchAxes).updPair14 (fun p => { p with staleStep := none })

/-! ## Redundancy commands (R519 to R521) -/

/-- The condition of a REDUNDANCY_COMMAND. -/
def Dev.redundancyOk (d : Dev) (cmd : Nat) : Bool :=
  match cmd with
  | 1 => (List.range 128).all (fun n => !d.configured n || (d.gen n).state = 0 || (d.gen n).state = 8)
  | 2 => d.obj Obj.ROLE = 1 && d.obj Obj.PEER_ROLE = 2
  | 3 => d.obj Obj.ROLE = 4
  | _ => false

/-- A REDUNDANCY_COMMAND as it takes effect at its boundary; the heartbeat of that boundary is the first a handover holds back (R520). -/
def Dev.redundancyExecute (d : Dev) (cmd : Nat) : Dev :=
  if !d.redundancyOk cmd then d
  else match cmd with
  | 1 => if d.objB Obj.STALE_SERVICE then (d.setObjB Obj.STALE_SERVICE false).raise 0x58 0 else d
  | 2 => d.updPair14 (fun p => { p with handover := true })
  | _ => (d.setRole 3).updPair14 (fun p => { p with got := true })

/-- DROVE_FRAME_RX in the position role: the tag, the epoch and the cycle length; a frame of the home port also places the next boundary,
which is left to the unit's own timer otherwise (R190, R213, R516) (DEDUCED, log entry 49). -/
def Dev.droveRx (d : Dev) (r : Nat) (h : DroveHeader) : Dev :=
  let f : DroveFrame := { epoch := h.epoch.toNat, cycleTag := h.tag.toNat, cycleStart := h.cycleStart.toNat, lead := h.lead.toNat,
                          cycleLen := h.cycleLen.toNat, stoGroups := h.stoGroups.toNat, turn := h.turn.toNat, folded := h.folded,
                          noRun := h.noRun, hdrCrc := 0, blocks := [] }
  let bytes := (headerBytes f).take 29 ++ [h.blocks] ++ (headerBytes f).drop 30
  let g := d.ring r
  if d.isHead || !d.ringOpen r || crc16 bytes != h.crc.toNat || h.epoch.toNat < d.ringCtl.epochSeen then d
  else
    let d := { d with ringCtl := { d.ringCtl with epochSeen := max d.ringCtl.epochSeen h.epoch.toNat } }
    let len := 125 * h.cycleLen.toNat
    let d := if 10000 ≤ len ∧ len ≤ 1000000 then { d with cyc := { d.cyc with len := len } } else d
    let at_ := d.now + h.arrival.toNat + h.lead.toNat - g.homeDelay
    let d := if g.home = some h.dir.toNat then { d with cyc := { d.cyc with nextAt := at_ } } else d
    d.updPair14 (fun p => { p with nextTag := some h.tag.toNat })

/-! ## Meanings -/

/-- COPY_ACK_RX. -/
def execCopyAckRx (ack : CopyAck) (s : State) : Res := s.onDev (fun d => d.copyAck ack)

/-- TWIN_LINK_LOSS. -/
def execTwinLinkLoss (errors : BitVec 32) (s : State) : Res := s.onDev (fun d => d.twinLoss errors.toNat)

/-- TWIN_LINK_UP. -/
def execTwinLinkUp (s : State) : Res := s.onDev Dev.twinRise

/-- ARB_GRANT_RISE. -/
def execArbGrantRise (s : State) : Res := s.onDev Dev.grantRise

/-- ARB_GRANT_FALL. -/
def execArbGrantFall (s : State) : Res := s.onDev Dev.grantFall

/-- TAKEOVER. -/
def execTakeover (s : State) : Res := s.onDev Dev.takeover

/-- DROVE_FRAME_RX. -/
def execDroveFrameRx (ring : Fin 2) (header : DroveHeader) (s : State) : Res := s.onDev (fun d => d.droveRx ring header)

end Sys2Proof.Machine
end

