-- ==== Sys2Proof/Machine/Ready.lean ====
section
/-! DEFINITION. Machine/Ready.lean: the requests for a device state (R30 to R32, R590), the checks at the request for READY, and what
entering each state does. -/

namespace Sys2Proof.Machine

/-! ## The checks at the request for READY (R26, R28, R30 and the rules of each chapter) -/

/-- The axes configured. -/
def Dev.configuredAxes (d : Dev) : List Nat := (List.range 128).filter d.configured

/-- No number stands twice in a list. -/
def distinct {α : Type} [BEq α] : List α → Bool
  | [] => true
  | a :: t => !t.contains a && distinct t

/-- The enabled rings meet their delays and bounds (R26, R194, R205). -/
def Dev.ringsOk (d : Dev) : Bool :=
  [0, 1].all (fun r => !d.ringEnabled r || (!bit (d.obj (Obj.RING_STATUS r)) 4 && !bit (d.obj (Obj.RING_STATUS r)) 5))

/-- An AXIS_SLOT names a present position and a local axis the node has (R222). -/
def Dev.slotPresent (d : Dev) (s : Nat × Nat × Nat) : Bool :=
  match (d.ring s.1).node s.2.1 with
  | some n => decide (s.2.2 < n.axes)
  | none => false

/-- Every axis is bound as R222 requires. -/
def Dev.slotsOk (d : Dev) : Bool :=
  let bound := (List.range 128).filterMap d.axisSlot
  distinct bound && bound.all d.slotPresent && d.configuredAxes.all (fun n => (d.axisSlot n).isSome)

/-- The pool's reserves and caps (R219). -/
def Dev.poolOk (d : Dev) : Bool :=
  decide (sumOf ((List.range 7).map (fun c => d.obj (Obj.POOL_RESERVE c))) ≤ 2048) &&
    (List.range 7).all (fun c => decide (d.obj (Obj.POOL_RESERVE c) ≤ d.obj (Obj.POOL_CAP c)) && decide (d.obj (Obj.POOL_CAP c) ≤ 2048))

/-- SPECULATE of a context (R232, R365). -/
def Dev.speculateOk (d : Dev) (c : Nat) : Bool :=
  let s := d.obj (Obj.SPECULATE c)
  if 128 ≤ c then s == 0 else s != 1 || bit (d.domFlags (d.domOf c)) 0

/-- STRUCTURE, dividers and set-point source of an axis (R264, R265) (DEDUCED, log entry 32). -/
def Dev.structureOk (d : Dev) (n : Nat) : Bool :=
  let s := d.obj (Obj.STRUCTURE n)
  let src := d.obj (Obj.SETPOINT_SOURCE n)
  let permitted := match s with
    | 1 => src == 2
    | 2 => src ≤ 2
    | 3 => src != 2
    | _ => true
  decide (d.obj (Obj.SPEED_DIV n) ≤ d.obj (Obj.POSITION_DIV n)) && permitted && !(s == 16 && d.domOf n == 0)

/-- The sense port an axis takes its set-point from. -/
def Dev.analoguePort (d : Dev) (n : Nat) : Option Nat :=
  if d.obj (Obj.SETPOINT_SOURCE n) = 2 then some (d.obj (Obj.SETPOINT_PORT n)) else none

/-- Analogue set-points take ports of their own (R284). -/
def Dev.analogueOk (d : Dev) : Bool :=
  let l := d.configuredAxes.filterMap d.analoguePort
  distinct l && l.all (fun p => !d.gfOwns p)

/-- No two limit loops of an axis name one slot (R270). -/
def Dev.loopsOk (d : Dev) (n : Nat) : Bool :=
  distinct (((List.range 6).map (fun i => d.obj (Obj.LIM_GROUP n (i + 1)))).filter (fun g => g != 0))

/-- The Q-filter's gain is at most 1 (R280): from the three held values. -/
def qFilterOk (q0 q1 q2 : Int) : Bool := decide (absI q0 + 2 * absI q1 + 2 * absI q2 ≤ 8388608)

/-- The repetitive controller of an axis (R276, R280). -/
def Dev.rcOk (d : Dev) (n : Nat) : Bool :=
  qFilterOk (d.objI 24 (Obj.RC_Q0 n)) (d.objI 24 (Obj.RC_Q1 n)) (d.objI 24 (Obj.RC_Q2 n)) &&
    (d.obj (Obj.RC_MODE n) == 0 ||
      (decide (d.obj (Obj.RC_LENGTH n) ≤ d.obj (Obj.RC_PERIOD n)) && d.obj (Obj.STRUCTURE n) != 1))

/-- MD_MAX lies within M_MAX (R268). -/
def Dev.modOk (d : Dev) (n : Nat) : Bool := decide (d.objI 24 (Obj.MD_MAX n) ≤ d.objI 24 (Obj.M_MAX n))

/-- The axis that an axis's gear follows. -/
def Dev.masterAxis (d : Dev) (n : Nat) : Option Nat :=
  if d.obj (Obj.MASTER_KIND n) = 2 ∨ d.obj (Obj.MASTER_KIND n) = 3 then some (d.obj (Obj.MASTER_INDEX n)) else none

/-- Following the masters from an axis ends within k steps. -/
def Dev.mastersEnd (d : Dev) : Nat → Nat → Bool
  | 0, _ => false
  | k + 1, n => match d.masterAxis n with
    | none => true
    | some m => d.mastersEnd k m

/-- The gear of an axis (R348). -/
def Dev.gearOk (d : Dev) (n : Nat) : Bool :=
  let i := d.obj (Obj.MASTER_INDEX n)
  let master := match d.obj (Obj.MASTER_KIND n) with
    | 1 => i < 8 && d.obj (Obj.PI_MODE i) != 0
    | 2 => i < 128 && d.configured i
    | 3 => i < 128 && d.configured i
    | _ => true
  master && d.mastersEnd 129 n && d.obj (Obj.GEAR_DEN n) != 0 && d.obj (Obj.STAGED_DEN n) != 0

/-- A speed lies within the rate of every pulse output that names the axis (R358). -/
def Dev.pulseRateOk (d : Dev) (n vmax : Nat) : Bool :=
  (List.range 8).all (fun o =>
    let mode := d.obj (Obj.PO_MODE o)
    d.obj (Obj.PO_AXIS o) != n || mode == 0 || decide (vmax ≤ if mode = 1 then 4000000 else 8000000))

/-- I_PEAK stands 0.1 per unit above I_LIM (R388): from the two held values (DEDUCED, log entry 32). -/
def peakOk (peak lim : Int) : Bool := decide (lim + 419430 ≤ peak)

/-- The slots of the grid-former (R370). -/
def Dev.bridgesOk (d : Dev) : Bool :=
  let n := d.obj Obj.GF_BRIDGES
  let used := (List.range 16).filter (fun s => decide (s % 4 < n))
  let ports := used.map (fun s => d.obj (Obj.HB_PORT s))
  ports.all (fun p => p < 20 && decide (d.objI 24 Obj.GF_DUTY_MAX ≤ (d.dutyLimits p).2)) && distinct ports &&
    (List.range 16).all (fun s => decide (s % 4 < n) || d.obj (Obj.HB_PORT s) == 255)

/-- The grid-former's configuration (R364, R369, R370, R280, R388) (DEDUCED, log entry 32). -/
def Dev.gfOk (d : Dev) : Bool :=
  !d.objB Obj.GF_ENABLE ||
    (d.configured 128 && d.obj Obj.GF_SENSE_USE &&& 0x1F7 == 0x1F7 && d.bridgesOk)

/-- DUTY_FLOOR lies below DUTY_CEILING on every enabled port (R410). -/
def Dev.dutyOk (d : Dev) : Bool :=
  (List.range 20).all (fun n => decide ((d.dutyLimits n).1 < (d.dutyLimits n).2))

/-- Everything but discovery that the request for READY requires (DEDUCED, log entry 32). -/
def Dev.readyOk (d : Dev) : Bool :=
  let axes := d.configuredAxes
  d.ringsOk && d.slotsOk && d.poolOk && (List.range 136).all (fun c => !d.configured c || d.speculateOk c)
    && axes.all (fun n => d.structureOk n && d.loopsOk n && d.gearOk n && d.pulseRateOk n (d.obj (Obj.VMAX n)))
    && (List.range 128).all (fun n => d.modOk n && d.rcOk n) && d.analogueOk && d.gfOk && d.dutyOk
    && qFilterOk (d.objI 24 (Obj.GF_RC_Q 0)) (d.objI 24 (Obj.GF_RC_Q 1)) (d.objI 24 (Obj.GF_RC_Q 2))
    && peakOk (d.objI 24 Obj.GF_I_PEAK) (d.objI 24 Obj.GF_I_LIM)
    && (List.range 8).all (fun f => d.foldFits f && (d.assign f).isSome)

/-! ## What entering a state does -/

/-- MQ_MAX from M_MAX and MD_MAX (R268). -/
def Dev.showMq (d : Dev) (n : Nat) : Dev :=
  let m := d.objI 24 (Obj.M_MAX n)
  let md := d.objI 24 (Obj.MD_MAX n)
  d.setObj (Obj.MQ_MAX n) (isqrt (m * m - md * md).toNat)

/-- A context at the request for READY: the state of its initial image, with the outputs and publish words last committed; a context bound
to another domain publishes 0 until that domain writes (R253, R317, R323). -/
def Dev.freshContext (d : Dev) (c : Nat) : Dev :=
  let a := d.axis c
  let same := a.dom == d.domOf c
  let isPub := fun k => (List.range 14).any (fun i => k / 256 == Obj.PUBLISH c (0x32 + i) 0 / 256)
  let d : Dev := if same then d else { d with dict := d.dict.filter (fun e => !isPub e.1) }
  d.updAxis c (fun a => { initAxis with published := a.published, counts := a.counts, out := a.out, pub := if same then a.pub else [], dom := d.domOf c })

/-- The assignments put into effect and the folds loaded at the request for READY (R226, R322, R323). -/
def prepare (x : DM) : DM :=
  let d := (List.range 136).foldl (fun d c => if d.configured c then d.freshContext c else d) x.1
  let d := forN 8 (fun f d => match d.assign f with
    | some l => d.install f l
    | none => d) d
  let d := d.configuredAxes.foldl (fun d n => d.showMq n) d.showDutyLimits
  forN 8 (fun f x => loadFold x f) (d, x.2)

/-- Entry to CONFIG: discovery, pair mode, every group in STO (R204, R436, R494); from BOOT the safe connections start, and from another
state they go on (R475, R476). -/
def Dev.enterConfig (d : Dev) : Dev :=
  let start := d.state == stBoot
  let d := (d.goState stConfig).stoAll.pairMode
  let d := forN 2 (fun r d =>
    if !d.ringOpen r then d
    else
      let d := d.setObjBit (Obj.RING_STATUS r) 0 false
      if d.isHead then d.startDiscovery r else d.updRing r (fun g => { g with phase := .off, sending := false, takeover := none })) d
  let d := forN 16 (fun u d => d.updUnit u (fun x => { x with running := false })) d
  if start then d.connsStart else d

/-- Entry to READY. From CONFIG the head starts its drove frames with a new epoch (R213); from SERVICE the split writes are undone
(R571) (DEDUCED, log entry 30). -/
def enterReady (x : DM) : DM :=
  let from_ := x.1.state
  let x := if from_ = stService then splitRestore x else x
  let d := forN 8 (fun f d => d.setObj (Obj.SLACK_MIN f) (2 ^ 32 - 1)) (x.1.goState stReady)
  let d := if from_ = stConfig then
      let d := (d.setObj Obj.QUEUE_PEAK 0).setObj Obj.COPY_PEAK 0
      if d.isHead then
        forN 2 (fun r d => d.updRing r (fun g => { g with sending := d.ringOpen r })) d.raiseEpoch
      else d
    else d
  (d, x.2)

/-- Entry to SERVICE: comparator self-tests on every port, the lane self-test (R419, R571, R573). -/
def Dev.enterService (d : Dev) : Dev :=
  let d := (d.goState stService).splitClear.laneSelftest
  forN 20 (fun n d => if d.testEligible n then d.startTest n else d) d

/-- A transition carried out at its boundary; a SAFE-HOLD cause that arose in the same cycle leaves it to be rejected (R31). -/
def carryOut (x : DM) : DM :=
  let t := if x.1.ctl.causeReq.isSome then Transition.none else x.1.ctl.trans
  let d : Dev := if x.1.ctl.causeReq.isSome then x.1 else { x.1 with ctl := { x.1.ctl with trans := .none } }
  match t with
  | .toConfig => (d.enterConfig, x.2)
  | .toReady => enterReady (d, x.2)
  | .toRun => ({ d.goState stRun with ctl := { d.ctl with enteredRunAt := d.tb.periods } }, x.2)
  | .toService => (d.enterService, x.2)
  | _ => (d, x.2)

/-! ## Requests (R30 to R32) -/

/-- RUN may be left: every axis at standstill with its stage off, the grid-former stopped (R30, R390). At standstill means that its
generator has no motion; the feedback is not looked at (DESIGN CHOICE, log entry 30). -/
def Dev.runStopped (d : Dev) : Bool :=
  (List.range 128).all (fun n => !d.driven n && !(d.gen n).busy) && (d.gfState = gfOff || d.gfState = gfTripped)

/-- SERVICE may be left: no self-test or fuse programming in progress (R30). -/
def Dev.serviceIdle (d : Dev) : Bool :=
  !d.fl.fusing && !d.isl.testing && (List.range 20).all (fun n => d.legState n != 7)

/-- A transition accepted (DEDUCED, log entry 30). -/
def Dev.begin (d : Dev) (t : Transition) : Dev := { d with ctl := { d.ctl with trans := t } }

/-- The ring timing and bounds events of a request for READY that fails on them (R194). -/
def Dev.boundsEvents (d : Dev) : Dev :=
  forN 2 (fun r d =>
    let late := fun (k : Nat) => decide (4500 < d.obj k)
    if !d.ringEnabled r then d
    else
      let d := if late (Obj.SCATTER_EAST r) || late (Obj.GATHER_EAST r) then d.raise 0x32 (r * 256) else d
      if late (Obj.SCATTER_WEST r) || late (Obj.GATHER_WEST r) then d.raise 0x32 (r * 256 + 1) else d) d

/-- The request for READY from CONFIG (R30): discovery first, then the lane self-test and the checks (DEDUCED, log entry 30). -/
def requestReady (x : DM) : DM :=
  let d := x.1
  if !d.discoveryComplete then (d.rejectState 5, x.2)
  else
    let d := d.laneSelftest
    if !d.readyOk then (d.boundsEvents.rejectState 4, x.2)
    else prepare (d.begin .toReady, x.2)

/-- A state request as its write takes effect (R30 to R32, R495) (DEDUCED, log entry 30). -/
def stateRequest (x : DM) (v : Nat) : DM :=
  let d := x.1
  if d.ctl.holding || d.ctl.trans != .none || d.ctl.causeReq.isSome then (d.rejectState 3, x.2)
  else if !d.isHead then (d.rejectState 1, x.2)
  else if d.state = stReady ∧ v = 1 then (d.begin .toConfig, x.2)
  else if d.state = stReady ∧ v = 3 then (d.begin .toRun, x.2)
  else if d.state = stReady ∧ v = 4 then (d.begin .toService, x.2)
  else if d.state = stConfig ∧ v = 2 then requestReady x
  else if d.state = stRun ∧ v = 2 then (if d.runStopped then d.laneSelftest.begin .toReady else d.rejectState 2, x.2)
  else if d.state = stService ∧ v = 2 then (if d.serviceIdle then d.laneSelftest.begin .toReady else d.rejectState 4, x.2)
  else (d.rejectState 1, x.2)

end Sys2Proof.Machine
end

