-- ==== Sys2Proof/Machine/Check.lean ====
section
/-! DEFINITION. Machine/Check.lean: the check of a write at its acceptance: existence, rights, state, length, form and range
(R48 to R52), and the conditions each chapter adds. Where several conditions fail at once, the status is that of the first in the
order written here; the spec states no order (DEDUCED, log entry 33). -/

namespace Sys2Proof.Machine

/-- The first cycle boundary at or after an instant of Dev.now. -/
def Dev.boundaryFrom (d : Dev) (t : Nat) : Nat := d.cyc.nextAt + ceilDiv (t - d.cyc.nextAt) d.cyc.len * d.cyc.len

/-- The boundary at which a write accepted now takes effect (R65). -/
def Dev.effectAt (d : Dev) : Nat := d.boundaryFrom (d.now + 1000)

/-- The boundary at which a timed write accepted now takes effect, in the mode of COMPARE_MODE (R66). -/
def Dev.timedAt (d : Dev) (instant : Nat) : Nat :=
  let ahead := if d.obj Obj.COMPARE_MODE = 0 then ((instant : Int) - d.timeNs 0).toNat else raw 32 ((ns32 instant : Int) - ns32 (d.timeNs 0))
  d.boundaryFrom (d.now + max 1000 ahead)

/-- The accepted writes that wait, timed or not, each with the boundary at which it takes effect. -/
def Dev.coming (d : Dev) : List (Nat × QueuedWrite) :=
  d.tally.queue.map (fun w => (d.boundaryFrom (w.acceptedAt + 1000), w)) ++
    d.tally.timed.map (fun t => (max (d.boundaryFrom (t.w.acceptedAt + 1000)) (d.timedAt (t.sec * 1000000000 + t.ns)), t.w))

/-- The value an object will hold at the boundary b: that of the last write to it in force by then (R65, R281). -/
def Dev.soon (d : Dev) (b k : Nat) : Nat :=
  (d.coming.foldl (fun (a : Nat × Nat × Nat) e =>
    if e.2.key = k ∧ e.1 ≤ b ∧ (a.1 < e.1 ∨ (a.1 = e.1 ∧ a.2.1 ≤ e.2.seq)) then (e.1, e.2.seq, e.2.val) else a) (0, 0, d.obj k)).2.2

/-- The same once the write of v to k is counted, as a signed value of w bits. -/
def Dev.soonWith (d : Dev) (b k v w j : Nat) : Int := sgn w (if j = k then v else d.soon b j)

/-- The largest value an object will hold at the boundary b or after it, by the writes accepted. -/
def Dev.mostFrom (d : Dev) (b k : Nat) : Nat :=
  ((d.coming.filter (fun e => e.2.key == k && decide (b < e.1))).map (·.2.val)).foldl max (d.soon b k)

/-- The frequency steps that wait to take effect by the boundary b, ppb. -/
def Dev.comingSteps (d : Dev) (b : Nat) : Int :=
  (d.coming.filter (fun e => e.2.key == Obj.PLLT_STEP && decide (e.1 ≤ b))).foldl (fun (x : Int) e => x + sgn 32 e.2.val) 0

/-- The command of an axis's generator is open to it (R329, R341, R519). -/
def Dev.profileStatus (d : Dev) (n v : Nat) : Nat :=
  let enabled := d.axisState n = 2
  let idle := (d.gen n).state = 0
  let limited := (d.gen n).land || d.objB Obj.STALE_SERVICE
  let ok := match v with
    | 1 => enabled && d.obj (Obj.HOME_STATE n) != 8
    | 2 => enabled && d.obj (Obj.HOME_STATE n) != 8
    | 3 => enabled && !limited
    | 5 => enabled && idle && d.obj (Obj.MASTER_KIND n) != 0 && !limited
    | 6 => enabled && idle && !limited
    | _ => d.axisState n != 0
  if ok then 0 else 0x0004

/-- An AXIS_COMMAND (R228, R434) (DEDUCED, log entry 44). -/
def Dev.axisStatus (d : Dev) (n v : Nat) : Nat :=
  if d.axisCondition n v && (v != 1 || d.obj (Obj.AXIS_GROUP n) < 32) then 0 else 0x0004

/-- A LEG_COMMAND (R415, R419). -/
def Dev.legStatus (d : Dev) (n v : Nat) : Nat :=
  let ok := match v with
    | 1 => [0, 4, 5].contains (d.legState n) && d.fastClear n
    | 3 => d.testEligible n
    | _ => true
  if ok then 0 else 0x0004

/-- Objects of axis n at offset off, subindex sub. -/
def Dev.axisWrite (d : Dev) (b n off sub k v : Nat) : Nat :=
  let blend := if (d.gen n).gear.blend then 0x0008 else 0
  match off, sub with
  | 0x00, 0x0D => d.axisStatus n v
  | 0x04, 3 => if d.soonWith b k v 24 (Obj.MD_MAX n) ≤ d.soonWith b k v 24 (Obj.M_MAX n) then 0 else 0x0007
  | 0x04, 4 => if d.soonWith b k v 24 (Obj.MD_MAX n) ≤ d.soonWith b k v 24 (Obj.M_MAX n) then 0 else 0x0007
  | 0x07, 3 => if v = 0 then 0x0007 else 0
  | 0x10, 0 => d.profileStatus n v
  | 0x11, 3 => if d.state != stConfig && !d.pulseRateOk n v then 0x0007 else 0
  | 0x19, 0 => blend
  | 0x19, 1 => if v = 0 then 0x0007 else blend
  | 0x1A, 1 => if v = 0 then 0x0007 else 0
  | 0x1A, 3 => blend
  | 0x20, 4 => if v < d.soon b (Obj.RC_LENGTH n) then 0 else 0x0007
  | 0x21, _ =>
    if 1 ≤ sub ∧ sub ≤ 3 then
      (if qFilterOk (d.soonWith b k v 24 (Obj.RC_Q0 n)) (d.soonWith b k v 24 (Obj.RC_Q1 n)) (d.soonWith b k v 24 (Obj.RC_Q2 n)) then 0 else 0x0007)
    else 0
  | _, _ => 0

/-- Objects of the grid-former, 0x5000 to 0x501A (R281, R380, R519). -/
def Dev.gfWrite (d : Dev) (b k v : Nat) : Nat :=
  if k = Obj.GF_COMMAND then
    (if d.gfCondition v && !(v = 1 && d.objB Obj.STALE_SERVICE) then 0 else 0x0004)
  else if k = Obj.GF_I_PEAK ∨ k = Obj.GF_I_LIM then
    (if peakOk (d.soonWith b k v 24 Obj.GF_I_PEAK) (d.soonWith b k v 24 Obj.GF_I_LIM) then 0 else 0x0007)
  else if Obj.GF_RC_Q 0 ≤ k ∧ k ≤ Obj.GF_RC_Q 2 then
    (if qFilterOk (d.soonWith b k v 24 (Obj.GF_RC_Q 0)) (d.soonWith b k v 24 (Obj.GF_RC_Q 1)) (d.soonWith b k v 24 (Obj.GF_RC_Q 2)) then 0
     else 0x0007)
  else if k = Obj.GF_RC_LEAD then (if v < d.soon b Obj.GF_RC_LENGTH then 0 else 0x0007)
  else 0

/-- An object that R281 binds to others. -/
def isBound (k : Nat) : Bool :=
  let idx := k / 256
  let off := (idx - 0xA000) % 0x40
  (0xA000 ≤ idx && idx < 0xC000 && ((off == 0x04 && (k % 256 == 3 || k % 256 == 4)) || (off == 0x21 && 1 ≤ k % 256 && k % 256 ≤ 3)))
    || k == Obj.GF_I_PEAK || k == Obj.GF_I_LIM || (Obj.GF_RC_Q 0 ≤ k && k ≤ Obj.GF_RC_Q 2)

/-- Objects of the acquisition engine, 0x4000 to 0x40A0 (R524, R530, R531, R547). -/
def Dev.acqWrite (d : Dev) (b idx sub v : Nat) : Nat :=
  if idx = 0x4010 then (if !sourceOk v then 0x0007 else if d.recUses (d.usesChannel sub) then 0x0008 else 0)
  else if 0x4040 ≤ idx ∧ idx < 0x4050 then (if d.recUses (d.usesUnit (idx - 0x4040)) then 0x0008 else 0)
  else if 0x4080 ≤ idx ∧ idx < 0x4084 then
    let r := idx - 0x4080
    let busy := if d.recState r = 1 ∨ d.recState r = 2 then 0x0008 else 0
    if sub = 1 then (if recSizeOk (fun i => d.mostFrom b (Obj.REC_SIZE i)) r v then 0 else 0x0007)
    else if sub = 0x0A then d.recStatus r v
    else if [0, 2, 3, 6, 7].contains sub then busy
    else 0
  else if idx = 0x40A0 then (if d.state = stService then 0 else 0x0004)
  else 0

/-- The address of a contiguous mask: ones, then zeros (R93). -/
def contiguous (v : Nat) : Bool := (List.range 33).any (fun n => v == 2 ^ 32 - 2 ^ n)

/-- Objects of the time base, 0x0210 to 0x0230 (R112, R118, R121, R122, R128). -/
def Dev.timeWrite (d : Dev) (b k v : Nat) : Nat :=
  if k = Obj.PLLS_SEED then (if v = 0 then 0x0007 else 0)
  else if k = Obj.PLLT_RELOCK then (if d.state = stConfig ∨ d.state = stService then 0 else 0x0004)
  else if k = Obj.COUNTER_SLEW then (if d.slaveRuns then 0x0008 else 0)
  else if k = Obj.PLLT_STEP then
    (if d.stepInRange (d.comingSteps b + sgn 32 v) then (if d.slaveRuns || d.relockingT then 0x0008 else 0) else 0x0007)
  else 0

/-- Objects of the memories and of service life, 0x0700 to 0x07A0 (R569, R570, R574). -/
def Dev.lifeWrite (d : Dev) (k v : Nat) : Nat :=
  if k = Obj.FUSE_COMMAND then
    (if d.state = stService && getAt false d.ctl.supplies 7 then (if d.fl.fusing then 0x0008 else 0) else 0x0004)
  else if k = Obj.TEST_COMMAND then d.testStatus v
  else if k = Obj.RETIRE_CLEAR then (if d.clearOk (v / 8 % 8) (v % 8) then 0 else 0x0004)
  else 0

/-- Identity, commands and access objects (R54 to R58, R85, R93). -/
def Dev.accessWrite (d : Dev) (b k v : Nat) : Nat :=
  let busy := d.tally.save.isSome || d.tally.restoring
  if k = Obj.SAVE then (if d.state = stRun then 0x0004 else if busy then 0x0008 else 0)
  else if k = Obj.RESTORE then (if d.state ≠ stConfig then 0x0004 else if busy then 0x0008 else 0)
  else if k = Obj.IPV4_MASK then (if contiguous v then 0 else 0x0007)
  else if k = Obj.UDP_PORT then (if v = d.soon b Obj.SAFE_UDP_PORT ∨ v = d.soon b Obj.STREAM_PORT then 0x0007 else 0)
  else if k = Obj.STREAM_PORT then (if v = d.soon b Obj.UDP_PORT then 0x0007 else 0)
  else if k = Obj.SAFE_UDP_PORT then (if v = d.soon b Obj.UDP_PORT then 0x0007 else 0)
  else 0

/-- The conditions that the owner of an object adds to type, rights and range, for a write that takes effect at the boundary b
(DEDUCED, log entry 33). -/
def Dev.ownerStatusAt (d : Dev) (b k v : Nat) : Nat :=
  let idx := k / 256
  let sub := k % 256
  if 0xA000 ≤ idx ∧ idx < 0xC000 then d.axisWrite b ((idx - 0xA000) / 0x40) ((idx - 0xA000) % 0x40) sub k v
  else if 0x5000 ≤ idx ∧ idx < 0x5020 then d.gfWrite b k v
  else if 0x4000 ≤ idx ∧ idx < 0x4100 ∧ k ≠ Obj.STREAM_PORT then d.acqWrite b idx sub v
  else if 0x200 ≤ idx ∧ idx < 0x300 then d.timeWrite b k v
  else if 0x700 ≤ idx ∧ idx < 0x800 then d.lifeWrite k v
  else if 0x2000 ≤ idx ∧ idx < 0x2014 ∧ sub = 1 then d.legStatus (idx - 0x2000) v
  else if idx = 0x430 then (if v / 2 ^ 14 = 2 ∨ (v ≠ 0xFFFF ∧ bits v 7 2 ≠ 0) then 0x0007 else 0)
  else if k = Obj.SELFTEST_COMMAND then (if d.state = stService then 0 else 0x0004)
  else if k = Obj.REDUNDANCY_COMMAND then (if d.redundancyOk v then 0 else 0x0004)
  else d.accessWrite b k v

/-- The same for a write accepted now. -/
def Dev.ownerStatus (d : Dev) (k v : Nat) : Nat := d.ownerStatusAt d.effectAt k v

/-- The source is a safety session (R50, R90). -/
def Dev.inSafety (d : Dev) (src : Src) : Bool :=
  match src with
  | .host => false
  | .session s => (d.session s).isOpen && (d.session s).safety

/-- The value of an object with its vendor domain: objects of domains 0 and 1 are RO (chapter 08). -/
def vendorDomain (k : Nat) : Bool := 0xD000 ≤ k / 256 && k / 256 < 0xD008

/-- SAFE-HOLD leaves only HOST_MODE and EVENT_LATCH open (R65) (DEDUCED, log entry 34). -/
def holdOpen (k : Nat) : Bool := k == Obj.HOST_MODE || k / 256 == 0x611

/-- A safety key may be written (R91): in a safety session, or from the host port in CONFIG while both are empty. -/
def Dev.safetyKeyOpen (d : Dev) (src : Src) : Bool :=
  d.inSafety src ||
    (src == .host && d.state == stConfig && (d.blob (Obj.SAFETY_KEY 0)).isEmpty && (d.blob (Obj.SAFETY_KEY 1)).isEmpty)

/-- Rights and device state (R50, R52, R65, R91, R496) (DEDUCED, log entry 33). -/
def Dev.rightsStatus (d : Dev) (src : Src) (k : Nat) (rights : Rights) : Nat :=
  if d.state = stSafeHold && !holdOpen k then 0x0004
  else if rights = .ro || vendorDomain k then 0x0003
  else if rights = .rws && !d.inSafety src then 0x0005
  else if k / 256 = 0x821 && !d.safetyKeyOpen src then 0x0005
  else if rights = .rwc && d.state ≠ stConfig then 0x0004
  else if !d.isHead && isCopied k then 0x0004
  else 0

/-- The held value of the bytes of a scalar write, or the status that rejects it (R48, R49). -/
def holdBytes (ty : ObjType) (data : List Byte) : Nat × Nat :=
  if data.length ≠ ty.size then (0x0006, 0)
  else match ty with
    | .gain => match f32Scaled (ofBe data) with
      | none => (0x0009, 0)
      | some q => match toGain q with
        | none => (0x0007, 0)
        | some v => (0, v)
    | .pu => match f32Scaled (ofBe data) with
      | none => (0x0009, 0)
      | some q => match toPu q with
        | none => (0x0007, 0)
        | some v => (0, v)
    | _ => (0, ofBe data)

/-- The check of a write to a scalar object that takes effect at the boundary b: the status, and the value as it will be held (DEDUCED,
log entry 33). -/
def Dev.checkWriteAt (d : Dev) (b : Nat) (src : Src) (k : Nat) (data : List Byte) : Nat × Nat :=
  match rowOf k with
  | none => (0x0001, 0)
  | some r =>
    let st := d.rightsStatus src k r.rights
    if st ≠ 0 then (st, 0)
    else
      let h := holdBytes r.ty data
      if h.1 ≠ 0 then h
      else if !r.chk.ok r.ty h.2 then (0x0007, 0)
      else (d.ownerStatusAt b k h.2, h.2)

/-- The same for a write accepted now. -/
def Dev.checkWrite (d : Dev) (src : Src) (k : Nat) (data : List Byte) : Nat × Nat := d.checkWriteAt d.effectAt src k data

/-- The frame of a CAN_TX record, where it is valid (R94). -/
def canFrameOf (data : List Byte) : Option CanFrame :=
  let w := fieldAt data 0 4
  let ext := bit w 31
  let fd := bit w 30
  let len := fieldAt data 4 1
  let good := 5 ≤ data.length && data.length == 5 + len && (len ≤ 8 || (fd && [12, 16, 20, 24, 32, 48, 64].contains len))
    && (ext || w % 2 ^ 29 < 2048) && (fd || !bit w 29)
  if good then some { ext := ext, fd := fd, brs := bit w 29, id := BitVec.ofNat 29 w, data := data.drop 5 } else none

/-- The CAN FD port. -/
def Dev.canPort (d : Dev) (p : Nat) : CanPort := getAt { txq := [], rxq := [], txErr := 0, rxErr := 0, busOff := false } d.can p

/-- The conditions that the owner of a DOMAIN object adds; whole is the value as it would stand (DEDUCED, log entry 39). -/
def Dev.domainStatus (d : Dev) (k off : Nat) (whole : List Byte) : Nat :=
  let idx := k / 256
  if idx = 0x841 ∨ idx = 0x849 then
    let c := d.canPort ((idx - 0x841) / 8)
    let fd := match canFrameOf whole with
      | some f => f.fd
      | none => false
    if off ≠ 0 || (canFrameOf whole).isNone || (fd && d.obj (Obj.DATA_RATE ((idx - 0x841) / 8)) == 0) then 0x0007
    else if c.busOff || 16 ≤ c.txq.length + (d.coming.filter (fun e => e.2.key == k)).length then 0x0008
    else 0
  else if 0xA000 ≤ idx ∧ idx < 0xC000 ∧ (idx - 0xA000) % 0x40 = 0x23 then
    (if d.driven ((idx - 0xA000) / 0x40) then 0x0004 else 0)
  else 0

/-- The fixed length of a DOMAIN value: of a table, 3 bytes for each entry (R282, R377, R621). -/
def Dev.domainLen (d : Dev) (k n : Nat) : Nat :=
  let idx := k / 256
  if 0xA000 ≤ idx ∧ idx < 0xC000 then 3 * d.obj (Obj.RC_LENGTH ((idx - 0xA000) / 0x40))
  else if idx = 0x5014 then 3 * d.obj Obj.GF_RC_LENGTH
  else n

/-- The check of a segment of a DOMAIN value (R621, R622): the status, the value as it stands with the segment, and whether a value of
fixed length is complete (any other always is). -/
def Dev.checkDomain (d : Dev) (src : Src) (k off : Nat) (data : List Byte) : Nat × List Byte × Bool :=
  match rowOf k with
  | none => (0x0001, [], false)
  | some r =>
    let st := d.rightsStatus src k r.rights
    if st ≠ 0 then (st, [], false)
    else match r.ty with
      | .domain maxLen fixedLen =>
        let maxLen := if fixedLen then d.domainLen k maxLen else maxLen
        let held := if off = 0 then [] else tget (fun _ => []) d.tally.staging k
        let whole := held ++ data
        if data.isEmpty || 4096 < data.length then (0x0006, [], false)
        else if held.length ≠ off then (0x0007, [], false)
        else if maxLen < whole.length then (0x0006, [], false)
        else (d.domainStatus k off whole, whole, !fixedLen || whole.length == maxLen)
      | _ => (0x0006, [], false)

end Sys2Proof.Machine
end

