-- ==== Sys2Proof/Machine/Apply.lean ====
section
/-! DEFINITION. Machine/Apply.lean: what a write does as it takes effect: the value it leaves, and the command it gives to the chapter
that owns the object (R54, R65). -/

namespace Sys2Proof.Machine

/-! ## Values left -/

/-- A session or safety key: the only WO objects that hold a setting (R54, R91). -/
def isKey (k : Nat) : Bool := k / 256 == 0x820 || k / 256 == 0x821

/-- A write of the object leaves its value in the dictionary: no command does, and the objects that a write of 1 clears, that read 0, or
that their own chapter sets leave none. -/
def leavesValue (k : Nat) : Bool :=
  match rowOf k with
  | none => false
  | some r => (r.rights != .wo || isKey k) && k / 256 != 0x611 && k != Obj.HOST_MODE && k != Obj.GF_TIE
      && !(0xD000 ≤ k / 256 && k / 256 < 0xD400 && k % 256 == 2)

/-- The value left. -/
def Dev.leaveValue (d : Dev) (k v : Nat) (data : List Byte) : Dev :=
  if !leavesValue k then d
  else match rowOf k with
    | some r => if r.ty.isDomain then d.setBlob k data else d.setObj k v
    | none => d

/-! ## Save and restore (R53 to R58, R562) -/

/-- The image copy that is current. -/
def Flash.current (f : Flash) : Option ImageCopy := if f.current1 then f.copy1 else f.copy0

/-- An object whose value a save keeps (R54). -/
def saved (k : Nat) : Bool :=
  match rowOf k with
  | some r => (r.rights == .rw || r.rights == .rwc || isKey k) && k / 256 != 0x611 && k != Obj.HOST_MODE
  | none => false

/-- A damaged object's value is taken from the current copy (R562). -/
def mendTable {α : Type} (damaged : List Nat) (now old : List (Nat × α)) : List (Nat × α) :=
  (old.filter (fun e => damaged.contains e.1)).foldl (fun m e => tput m e.1 e.2) (now.filter (fun e => !damaged.contains e.1))

/-- The snapshot of a save (R54, R56) (DEDUCED, log entry 35). -/
def Dev.snapshot (d : Dev) (safety : Bool) : ImageCopy :=
  let old := d.flash.current
  let damaged := d.fl.damaged.map (·.1)
  let oldObjs := match old with
    | some c => c.objs
    | none => []
  let oldDoms := match old with
    | some c => c.doms
    | none => []
  let part := if safety then (some d.blockInForce, d.obj Obj.SAFETY_CRC) else match old with
    | some c => (c.safety, c.safetyCrc)
    | none => (none, 0)
  { objs := mendTable damaged (d.dict.filter (fun e => saved e.1)) oldObjs
    doms := mendTable damaged (d.blobs.filter (fun e => saved e.1)) oldDoms
    safety := part.1, safetyCrc := part.2, stepping := d.obj Obj.STEPPING, crcOk := true }

/-- The bytes an image holds: the values it stores, without any header (R598) (DEDUCED, log entry 35). -/
def ImageCopy.bytes (c : ImageCopy) : Nat :=
  let size := fun k => match rowOf k with
    | some r => r.ty.size
    | none => 0
  sumOf (c.objs.map (fun e => size e.1)) + sumOf (c.doms.map (fun e => e.2.length))
    + (match c.safety with
      | some l => sumOf (l.map (fun e => size e.1))
      | none => 0)

/-- A SAVE takes effect: its snapshot is taken. -/
def Dev.saveEffect (d : Dev) : Dev :=
  match d.tally.save with
  | some j => if j.snap.isNone then { d with tally := { d.tally with save := some { j with snap := some (d.snapshot j.safety) } } } else d
  | none => d

/-- SAVE_DONE: the copy written, read back and marked current, or not (R54, R598). ok is false when the read-back failed (DEDUCED, log entry 35). -/
def Dev.saveDone (d : Dev) (ok : Bool) : Dev :=
  match d.tally.save with
  | none => d
  | some j => match j.snap with
    | none => d
    | some c =>
      let d := { d with tally := { d.tally with save := none } }
      if 4194304 < c.bytes then d.raise 1 0x0006
      else if ok then
        let f := if d.flash.current1 then { d.flash with copy0 := some c, current1 := false }
          else { d.flash with copy1 := some c, current1 := true }
        ({ d with flash := f } : Dev).raise 1 0
      else
        let x := d.draw 54
        x.2.raise 1 (max 1 (x.1 % 65536))

/-- RESTORE_DONE: both copies are erased (R57) (DEDUCED, log entry 35). -/
def Dev.restoreDone (d : Dev) : Dev :=
  if !d.tally.restoring then d
  else ({ d with tally := { d.tally with restoring := false }, flash := { d.flash with copy0 := none, copy1 := none } } : Dev).raise 2 0

/-! ## Commands of single chapters -/

/-- A write of 1 to latch bits clears them and their counts (R96). -/
def Dev.clearLatch (d : Dev) (sub mask : Nat) : Dev :=
  (bitsSet 32 mask).foldl (fun d i => (d.setObjBit (Obj.EVENT_LATCH sub) i false).setObj (Obj.OCCURRENCES (32 * sub + i)) 0) d

/-- A frame from the CAN_TX mailbox queued (R94). One whose port is not enabled by then is dropped (DESIGN CHOICE, log entry 43). -/
def Dev.canTx (d : Dev) (p : Nat) (data : List Byte) : Dev :=
  match canFrameOf data with
  | some f => if d.objB (Obj.CAN_ENABLE p) then d.canQueue p f else d
  | none => d

/-- CAN_ENABLE written: a port out of use holds no frames and no errors; their buffers return (R219) (DEDUCED, log entry 37). -/
def Dev.canEnable (d : Dev) (p v : Nat) : Dev :=
  if v ≠ 0 then d
  else
    let d := (d.canPort p).rxq.foldl (fun d e => d.poolFree (4 + p) (buffersOf (e.1.data.length + 15))) d
    ({ d with can := setAt d.can p { txq := [], rxq := [], txErr := 0, rxErr := 0, busOff := false } } : Dev).setObj (Obj.CAN_STATUS p) 0

/-- HEAL_REQUEST (R211): a ring that runs folded is to heal. -/
def Dev.healWrite (d : Dev) (v : Nat) : Dev :=
  forN 2 (fun r d =>
    if bit v r && d.ringOpen r && !(d.ring r).lostLinks.isEmpty then (d.updRing r (fun g => { g with healRequested := true })).startHeal r
    else d) d

/-- RING_ENABLE (R214, R215): the bypass of a ring out of use closes, that of an enabled one opens where it may. -/
def Dev.ringEnableWrite (d : Dev) : Dev := forN 2 (fun r d => if d.ringEnabled r then d.openBypass r else d.closeBypass r) d

/-- LINK_ENABLE of a leg port (R416) (DEDUCED, log entry 37). -/
def Dev.linkWrite (d : Dev) (n v : Nat) : Dev :=
  if v ≠ 0 then d.startLink n
  else (d.updLeg n (fun l => { l with linked := false, queue := [], test := none, clearing := false, state := 0 })).setObj (Obj.LEG_STATE n) 0

/-- CONFIGURED of a context; one out of use has no lane (R225, R227, R256). -/
def Dev.configuredWrite (d : Dev) (c v : Nat) : Dev :=
  let d := if c < 128 then d.setObj (Obj.AXIS_STATE c) v else d
  if v = 0 then d.setObj (Obj.CTX_LANE c) 0xFF else d

/-- RC_CLEAR of an axis (R282). -/
def Dev.rcClear (d : Dev) (n : Nat) : Dev := (d.setBlob (Obj.RC_TABLE n) []).setObj (Obj.RC_VISITS n) 0

/-- GF_TIE: a write that changes nothing has no effect (R381). -/
def Dev.tieWrite (d : Dev) (v : Nat) : Dev := if d.obj Obj.GF_TIE = v then d else d.gfTie (v != 0)

/-- A parameter object reaches its context's window (R323). -/
def paramWrite (x : DM) (c i : Nat) : DM :=
  let d := x.1
  let loaded := (d.fold (d.obj (Obj.CTX_FOLD c))).windows.any (fun e => e.1 == c)
  if d.configured c && decide (2 ≤ d.domOf c) && loaded then (d, d.paramWord x.2 c i) else x

/-- A command to the generator of an axis: the last one accepted before a boundary stands (R329). -/
def Dev.profileWrite (d : Dev) (n v : Nat) : Dev :=
  { d with gens := upd (fun (g : Gen) => { g with cmd := v }) d.gens n }

/-- STAGE_ARM (R346). -/
def Dev.stageWrite (d : Dev) (n v : Nat) : Dev :=
  if v ≠ 0 then d.stageArm n
  else { d with gens := upd (fun (g : Gen) => { g with gear := { g.gear with armed := false } }) d.gens n }

/-! ## The owner of an object acts -/

/-- Objects of axis n. own is false in a standby, whose axes follow the copied state (R500). -/
def axisEffect (x : DM) (own : Bool) (n off sub v : Nat) : DM :=
  let d := x.1
  match off, sub with
  | 0x00, 1 => (d.configuredWrite n v, x.2)
  | 0x00, 0x0D => (if own then d.axisExecute n v else d, x.2)
  | 0x04, 3 => (d.showMq n, x.2)
  | 0x04, 4 => (d.showMq n, x.2)
  | 0x0F, i => paramWrite x n i
  | 0x10, 0 => (if own then d.profileWrite n v else d, x.2)
  | 0x19, 0 => (if own then d.gearWrite n else d, x.2)
  | 0x19, 1 => (if own then d.gearWrite n else d, x.2)
  | 0x1A, 3 => (if own then d.stageWrite n v else d, x.2)
  | 0x20, 3 => (d.updAxis n (fun a => { a with servo := { a.servo with phiSet := false } }), x.2)
  | 0x22, 0 => (d.rcClear n, x.2)
  | _, _ => x

/-- Objects of grid-former context n, 128 to 135 (R225, R323). -/
def contextEffect (x : DM) (n off sub v : Nat) : DM :=
  match off, sub with
  | 0x00, 1 => (x.1.configuredWrite n v, x.2)
  | 0x0F, i => paramWrite x n i
  | _, _ => x

/-- Objects of the time base and of the network time service. -/
def Dev.timeEffect (d : Dev) (k v : Nat) : Dev :=
  if k = Obj.PLLT_PRESCALE then (d.requestRelockT 0).serdesFall
  else if k = Obj.PLLT_STEP then (d.pllStep (sgn 32 v)).serdesFall
  else if k / 256 = 0x200 then d.refCheck.serdesFall
  else if k = Obj.PLLT_RELOCK then d.relockWrite.serdesFall
  else if k / 256 = 0x220 then { d with tb := { d.tb with plsWritten := true } }
  else if k = Obj.TIME_SET then { d with tb := { d.tb with stepReq := some (nsOfTime80 v) } }
  else if k = Obj.SDCLK_DIV then forN 12 (fun p d => d.showFast p) d
  else if k = Obj.PTP_ENABLE ∨ k = Obj.PTP_ROLE then d.ptpConfigured
  else d

/-- Objects of the rings. -/
def Dev.ringEffect (d : Dev) (k v : Nat) : Dev :=
  let idx := k / 256
  if k = Obj.RING_ENABLE then d.ringEnableWrite
  else if k = Obj.HEAL_REQUEST then d.healWrite v
  else if (idx = 0x410 ∨ idx = 0x411) ∧ k % 256 = 2 then d.repeatDiscovery (idx - 0x410)
  else if 0x480 ≤ idx ∧ idx ≤ 0x486 then d.showShared
  else if idx = 0x426 ∨ idx = 0x427 then d.repeatDiscovery (idx - 0x426)
  else d

/-- Objects of the acquisition engine. -/
def Dev.acqEffect (d : Dev) (k v : Nat) : Dev :=
  let idx := k / 256
  let sub := k % 256
  if k = Obj.SYNC_FIRE then d.fire none (nsOfTime80 v) d.serialLow
  else if 0x4040 ≤ idx ∧ idx < 0x4050 ∧ sub = 0 then d.updUnit (idx - 0x4040) (fun u => { u with running := false })
  else if 0x4080 ≤ idx ∧ idx < 0x4084 then
    (if sub = 0x0A then d.recCommand (idx - 0x4080) v else if sub = 0 ∨ sub = 1 ∨ sub = 6 then d.showStore else d)
  else if k = Obj.ERASE_SEALED then d.eraseSealed
  else d

/-- Objects of the grid-former. -/
def Dev.gfEffect (d : Dev) (own : Bool) (k v : Nat) : Dev :=
  if k = Obj.GF_COMMAND then (if own then d.gfExecute v else d)
  else if k = Obj.GF_TIE then (if own then d.tieWrite v else d.setObj k v)
  else if k = Obj.GF_RC_CLEAR then d.gfRcClear
  else d

/-- Objects of the memories and of service life. -/
def lifeEffect (x : DM) (k v : Nat) : DM :=
  if k = Obj.FUSE_COMMAND then (x.1.fuseStart, x.2)
  else if k = Obj.TEST_COMMAND then testCommand x v
  else if k = Obj.RETIRE_CLEAR then (x.1.retireClear (v / 8 % 8) (v % 8), x.2)
  else x

/-- Leg and sense ports. -/
def Dev.portEffect (d : Dev) (own : Bool) (k v : Nat) : Dev :=
  let idx := k / 256
  let sub := k % 256
  if 0x2800 ≤ idx then (if sub = 5 then d.showFast (idx - 0x2800) else d)
  else if sub = 1 then (if own then d.legCommand (idx - 0x2000) v else d)
  else if sub = 2 then d.linkWrite (idx - 0x2000) v
  else d

/-- Identity, access, event, pair and safety objects. -/
def miscEffect (x : DM) (k v : Nat) (data : List Byte) : DM :=
  let d := x.1
  let idx := k / 256
  if k = Obj.STATE_REQUEST then stateRequest x v
  else if k = Obj.SAVE then (d.saveEffect, x.2)
  else if idx = 0x611 then (d.clearLatch (k % 256) v, x.2)
  else if k = Obj.HOST_MODE then ({ d with acc := { d.acc with modeReq := some v } }, x.2)
  else if idx = 0x841 ∨ idx = 0x849 then (d.canTx ((idx - 0x841) / 8) data, x.2)
  else if k = Obj.CAN_ENABLE 0 ∨ k = Obj.CAN_ENABLE 1 then (d.canEnable ((idx - 0x840) / 8) v, x.2)
  else if k = Obj.PAIR_MODE then (d.pairMode, x.2)
  else if k = Obj.REDUNDANCY_COMMAND then (d.redundancyExecute v, x.2)
  else if k = Obj.SELFTEST_COMMAND then (d.islandTestStart, x.2)
  else x

/-- Objects of the microcode domains (R320, R324): a write to an image makes it written and unchecked. -/
def Dev.domainEffect (d : Dev) (k v : Nat) : Dev :=
  let dom := (k / 256 - 0xD000) / 4
  if k = Obj.DOMAIN_COMMIT dom then (if v = 1 then d.domainCommit dom else d)
  else if k = Obj.DOMAIN_IMAGE dom then
    ({ d with checks := d.checks.filter (fun c => c.domain != dom) } : Dev).setObj (Obj.DOMAIN_STATE dom) 1
  else d

/-- What the owner of an object does as a write takes effect. -/
def ownerEffect (x : DM) (own : Bool) (k v : Nat) (data : List Byte) : DM :=
  let idx := k / 256
  if 0xA000 ≤ idx ∧ idx < 0xC000 then axisEffect x own ((idx - 0xA000) / 0x40) ((idx - 0xA000) % 0x40) (k % 256) v
  else if 0xC000 ≤ idx ∧ idx < 0xC200 then contextEffect x (128 + (idx - 0xC000) / 0x40) ((idx - 0xC000) % 0x40) (k % 256) v
  else if 0xD000 ≤ idx ∧ idx < 0xD400 then (x.1.domainEffect k v, x.2)
  else if 0x200 ≤ idx ∧ idx < 0x400 then (x.1.timeEffect k v, x.2)
  else if 0x400 ≤ idx ∧ idx < 0x500 then (x.1.ringEffect k v, x.2)
  else if 0x700 ≤ idx ∧ idx < 0x800 then lifeEffect x k v
  else if 0x2000 ≤ idx ∧ idx < 0x2900 then (x.1.portEffect own k v, x.2)
  else if 0x4000 ≤ idx ∧ idx < 0x5000 then (x.1.acqEffect k v, x.2)
  else if 0x5000 ≤ idx ∧ idx < 0x6000 then (x.1.gfEffect own k v, x.2)
  else miscEffect x k v data

/-- A write takes effect: its value, then what its owner does. -/
def applyObject (x : DM) (own : Bool) (k v : Nat) (data : List Byte) : DM :=
  ownerEffect (x.1.leaveValue k v data, x.2) own k v data

end Sys2Proof.Machine
end

