-- ==== Sys2Proof/Machine/Tally.lean ====
section
/-! DEFINITION. Machine/Tally.lean: the Tally engine: acceptance, safety parameter blocks, the timed-action list, hurdles, and what a
cycle boundary applies (R63 to R70, R471, R485). -/

namespace Sys2Proof.Machine

/-! ## The safety parameter block (R64, R458, R471, R485) -/

/-- The block a commit would put in force: the one in force, what committed blocks still wait, and the pending parameters. -/
def Dev.fullBlock (d : Dev) : List (Nat × Nat) :=
  mergeBlock (mergeBlock d.blockInForce (d.tally.committed.flatMap (fun e => e.2.2))) (d.tally.pendingBlock.getD [])

/-- The connections a block enables. -/
def enabledConns (m : List (Nat × Nat)) : List Nat :=
  (m.filter (fun e => 0x3400 ≤ e.1 / 256 && e.1 / 256 < 0x3500 && e.1 % 256 == 0 && e.2 != 0)).map (fun e => e.1 / 256 - 0x3400)

/-- Identities and receive tags of a block's connections (R471). -/
def connsOk (m : List (Nat × Nat)) : Bool :=
  let v := tget defaultOf m
  let l := enabledConns m
  let rx := l.filter (fun n => v (Obj.CN_DIRECTION n) == 0)
  l.all (fun n => v (Obj.CN_IDENTITY n) != 0) && distinct (l.map (fun n => v (Obj.CN_IDENTITY n)))
    && distinct (rx.map (fun n => (v (Obj.CN_CARRIER n), v (Obj.CN_TAG n))))

/-- The bound on MOTION_STEP_MAX of every monitored axis (R485). -/
def stepsOk (m : List (Nat × Nat)) : Bool :=
  let v := tget defaultOf m
  let l := (m.filter (fun e => 0x3100 ≤ e.1 / 256 && e.1 / 256 < 0x3180 && e.1 % 256 == 1 && e.2 != 255)).map (fun e => (e.1 / 256 - 0x3100, e.2))
  l.all (fun e => decide ((2 * v (Obj.CN_MOTION_STEP_MAX e.2) + 1) * (2 * v (Obj.POS_TOL e.1) + 1) ≤ 2 ^ 28))

/-- The payload length of every enabled connection is one its kind can have (R439, R489) (DEDUCED, log entry 66). -/
def lengthsOk (m : List (Nat × Nat)) : Bool :=
  let v := tget defaultOf m
  (enabledConns m).all (fun n => (kindLengths (v (Obj.CN_KIND n))).contains (v (Obj.CN_LENGTH n)))

/-- The states in which a pending block may be committed (R434, R458). -/
def Dev.commitOpen (d : Dev) : Bool :=
  let l := d.tally.pendingBlock.getD []
  let axis := l.any (fun e => 0x3100 ≤ e.1 / 256 && e.1 / 256 < 0x3180 && e.1 % 256 == 0 && e.2 != d.obj e.1)
  ((d.state == stConfig || d.state == stReady || d.state == stService) && (!axis || d.state == stConfig))
    || (d.state == stRun && l.all (fun e => e.1 == Obj.LOCKOUT_RESET_REQUEST))

/-- A write of SAFETY_COMMIT: the status, and the block committed or discarded; the rejections of R439 and R485 leave it
pending (R52). The block takes its place among the accepted writes (R68). -/
def Dev.commitBlock (d : Dev) (v : Nat) : Nat × Dev :=
  let full := d.fullBlock
  let gone := { d with tally := { d.tally with pendingBlock := none } }
  if !d.commitOpen then (0x0004, d)
  else if Config.blockCrc full % 2 ^ 32 ≠ v then (0x000A, gone)
  else if !connsOk full then (0x0007, gone)
  else if !stepsOk full || !lengthsOk full then (0x0007, d)
  else (0, { d with tally := { d.tally with pendingBlock := none,
                                            accSeq := d.tally.accSeq + 1
                                            committed := d.tally.committed ++ [(false, d.tally.accSeq, d.tally.pendingBlock.getD [])] } })

/-- A parameter of a safety session's pending block. -/
def Dev.pendingWrite (d : Dev) (k v : Nat) : Dev :=
  { d with tally := { d.tally with pendingBlock := some (tput (d.tally.pendingBlock.getD []) k v) } }

/-- An RWS write: into the pending block, or the commit (R64). -/
def Dev.safetyWrite (d : Dev) (k v : Nat) : Nat × Dev := if k = Obj.SAFETY_COMMIT then d.commitBlock v else (0, d.pendingWrite k v)

/-- The object is a safety parameter. -/
def isRws (k : Nat) : Bool := match rowOf k with
  | some r => r.rights == .rws
  | none => false

/-! ## Acceptance (R52, R65) -/

/-- WRITE_REJECTED (R52). -/
def Dev.rejectWrite (d : Dev) (k st : Nat) : Dev := d.raise 8 (k / 256 * 65536 + st)

/-- The write as the engine lists it. -/
def Dev.newWrite (d : Dev) (src : Src) (k v : Nat) (data : List Byte) : QueuedWrite :=
  { src := src, key := k, val := v, data := data, acceptedAt := d.now, seq := d.tally.accSeq }

/-- An accepted write waits for its boundary. -/
def Dev.enqueueWrite (d : Dev) (src : Src) (k v : Nat) (data : List Byte) : Dev :=
  { d with tally := { d.tally with queue := d.tally.queue ++ [d.newWrite src k v data], accSeq := d.tally.accSeq + 1 } }

/-- A save or restore in progress from its acceptance (R58) (DEDUCED, log entry 35). -/
def Dev.beginJob (d : Dev) (src : Src) (k : Nat) : Dev :=
  if k = Obj.SAVE then { d with tally := { d.tally with save := some { acceptedAt := d.now, safety := d.inSafety src, snap := none } } }
  else if k = Obj.RESTORE then { d with tally := { d.tally with restoring := true } }
  else d

/-- A move accepted for an axis that lands starts its LAND_WAIT again (R341). -/
def Dev.noteMove (d : Dev) (k v : Nat) : Dev :=
  match (List.range 128).find? (fun n => k == Obj.PROFILE_COMMAND n) with
  | none => d
  | some n =>
    if (v = 1 ∨ v = 2) ∧ (d.gen n).land then
      { d with gens := upd (fun (g : Gen) => { g with landFrom := d.now, landWaited := false }) d.gens n }
    else d

/-- An accepted scalar write. Some take effect at acceptance (R65, R76); a state request while a SAFE-HOLD sequence runs is rejected
(R31). -/
def Dev.acceptWrite (d : Dev) (src : Src) (k v : Nat) : Nat × Dev :=
  let d := d.repairObject k
  if k = Obj.HOST_MODE then (0, { d with acc := { d.acc with modeReq := some v } })
  else if k / 256 = 0x611 ∧ d.state = stSafeHold then (0, d.clearLatch (k % 256) v)
  else if isRws k then d.safetyWrite k v
  else if k = Obj.STATE_REQUEST ∧ d.ctl.holding then (0, d.rejectState 3)
  else (0, ((d.beginJob src k).noteMove k v).enqueueWrite src k v [])

/-- A segment accepted: it extends the value being written; a value of fixed length waits until it is complete (R621). -/
def Dev.acceptSegment (d : Dev) (src : Src) (k : Nat) (whole : List Byte) (complete fixedLen : Bool) : Dev :=
  let d := d.repairObject k
  let stay := if complete && fixedLen then [] else whole
  let d := { d with tally := { d.tally with staging := tset (fun _ => []) d.tally.staging k stay } }
  if complete then d.enqueueWrite src k 0 whole else d

/-- The type of an object has one fixed length. -/
def fixedDomain (k : Nat) : Bool := match rowOf k with
  | some r => match r.ty with
    | .domain _ f => f
    | _ => false
  | none => false

/-- Whether an object is of type DOMAIN. -/
def isDomain (k : Nat) : Bool := match rowOf k with
  | some r => r.ty.isDomain
  | none => false

/-- A whole value accepted at once discards one that is being written in segments (R621). -/
def Dev.startValue (d : Dev) (k : Nat) (whole : List Byte) : Dev :=
  if !isDomain k then d
  else { d with tally := { d.tally with staging := tset (fun _ => []) d.tally.staging k (if fixedDomain k then [] else whole) } }

/-- A DOMAIN segment offered to the engine (R621): its status. -/
def Dev.segment (d : Dev) (src : Src) (k off : Nat) (data : List Byte) : Nat × Dev :=
  let c := d.checkDomain src k off data
  if c.1 ≠ 0 then (c.1, d.rejectWrite k c.1) else (0, d.acceptSegment src k c.2.1 c.2.2 (fixedDomain k))

/-- A write offered to the engine: its status. A DOMAIN object takes it as its first segment (R621) (DEDUCED, log entry 34). -/
def Dev.offer (d : Dev) (src : Src) (k : Nat) (data : List Byte) : Nat × Dev :=
  if isDomain k then d.segment src k 0 data
  else
    let c := d.checkWrite src k data
    if c.1 ≠ 0 then (c.1, d.rejectWrite k c.1)
    else
      let r := d.acceptWrite src k c.2
      if r.1 = 0 then r else (r.1, r.2.rejectWrite k r.1)

/-- The check of a timed write as an ordinary one at its instant: the status and the value. A DOMAIN object takes a whole value in one
segment, of a fixed length all of it (R621) (DEDUCED, log entry 38). -/
def Dev.timedCheck (d : Dev) (src : Src) (k instant : Nat) (data : List Byte) : Nat × Nat × List Byte :=
  if isDomain k then
    let c := d.checkDomain src k 0 data
    (if c.1 = 0 && !c.2.2 then 0x0006 else c.1, 0, c.2.1)
  else
    let c := d.checkWriteAt (d.timedAt (nsOfTime80 instant)) src k data
    (c.1, c.2, [])

/-- A timed write offered to the engine (R66): its status. In SAFE-HOLD no boundary follows (R65) (DEDUCED, log entry 33; DEDUCED,
log entry 38). -/
def Dev.offerTimed (d : Dev) (src : Src) (k instant : Nat) (data : List Byte) : Nat × Dev :=
  let c := d.timedCheck src k instant data
  let st := if c.1 ≠ 0 then c.1
    else if d.state = stSafeHold then 0x0004
    else if 1000000000 ≤ instant % 2 ^ 32 then 0x0007
    else if d.isDue (nsOfTime80 instant) then 0x000B
    else if 64 ≤ d.tally.timed.length then 0x0008
    else 0
  if st ≠ 0 then (st, d.rejectWrite k st)
  else
    let d := (((d.repairObject k).beginJob src k).noteMove k c.2.1).startValue k c.2.2
    let t : TimedWrite := { w := d.newWrite src k c.2.1 c.2.2, sec := instant / 2 ^ 32, ns := instant % 2 ^ 32 }
    (0, { d with tally := { d.tally with timed := d.tally.timed ++ [t], accSeq := d.tally.accSeq + 1 } })

/-! ## Sessions end (R64, R66, R90) -/

/-- A session closed or lost: a safety session takes its pending block and its timed safety writes with it (DEDUCED, log entry 38). -/
def Dev.endSession (d : Dev) (s : Nat) : Dev :=
  let safety := (d.session s).safety
  let d := (d.setObj (Obj.SESSION_STATE s) 0).updSession s (fun x => { x with isOpen := false, safety := false })
  if !safety then d
  else { d with tally := { d.tally with pendingBlock := none, timed := d.tally.timed.filter (fun t => !isRws t.w.key) } }

/-! ## A boundary applies (R65 to R70) -/

/-- The write list being applied: what waits behind a hurdle stays. -/
structure Pour where
  x : DM
  /-- A write that is not timed, a hurdle too, has taken effect at this boundary. -/
  applied : Bool
  /-- A hurdle holds later writes back. -/
  blocked : Bool
  /-- The writes held back, by their place in the order of acceptance. -/
  wait : List Nat

/-- A write of values bound together by R281 still keeps their rule as it takes effect (DEDUCED, log entry 33). -/
def Dev.stillBound (d : Dev) (w : QueuedWrite) : Bool := !isBound w.key || d.ownerStatusAt 0 w.key w.val == 0

/-- One write takes effect; a timed one that would break a rule of R281 by then is rejected instead (DEDUCED, log entry 11). -/
def takeWrite (x : DM) (w : QueuedWrite) : DM :=
  if isRws w.key then
    let r := x.1.safetyWrite w.key w.val
    (if r.1 = 0 then r.2 else r.2.rejectWrite w.key r.1, x.2)
  else if !x.1.stillBound w then (x.1.rejectWrite w.key 0x0007, x.2)
  else applyObject (x.1.copyWrite w.key w.val w.data, x.2) true w.key w.val w.data

/-- The next write in the order of acceptance, timed or not. A hurdle is a write too: once one before it took effect at this boundary,
whatever comes after it waits for the next; a block committed before it that has not applied yet holds it back too (R64, R68 to R70). A timed hurdle takes effect and completes at its own instant, so a hurdle accepted
later can complete before it (DESIGN CHOICE, log entry 11). -/
def Pour.step (p : Pour) (e : QueuedWrite × Bool) : Pour :=
  let w := e.1
  let hurdle := w.key == Obj.HURDLE
  if p.blocked then { p with wait := p.wait ++ [w.seq] }
  else if hurdle && p.x.1.tally.committed.any (fun c => c.2.1 < w.seq) then { p with blocked := true, wait := p.wait ++ [w.seq] }
  else { p with x := if hurdle then (p.x.1.raise 0 w.val, p.x.2) else takeWrite p.x w
                applied := p.applied || !e.2, blocked := hurdle && p.applied }

/-- A timed write in its place among the others. -/
def mergeSeq (w : QueuedWrite) : List (QueuedWrite × Bool) → List (QueuedWrite × Bool)
  | [] => [(w, true)]
  | e :: t => if w.seq < e.1.seq then (w, true) :: e :: t else e :: mergeSeq w t

/-- A write has been accepted 1 µs or longer. -/
def Dev.ripe (d : Dev) (w : QueuedWrite) : Bool := decide (w.acceptedAt + 1000 ≤ d.now)

/-- A timed write takes effect at this boundary (R66). -/
def Dev.timedDue (d : Dev) (t : TimedWrite) : Bool := d.ripe t.w && d.isDue (t.sec * 1000000000 + t.ns)

/-- The writes that take effect at a boundary are applied in the order of acceptance (DEDUCED, log entry 11). -/
def applyWrites (x : DM) : DM :=
  let d := x.1
  let ripe := d.tally.queue.filter d.ripe
  let due := d.tally.timed.filter d.timedDue
  let later := d.tally.queue.filter (fun w => !d.ripe w)
  let rest := d.tally.timed.filter (fun t => !d.timedDue t)
  let l := due.foldl (fun l t => mergeSeq t.w l) (ripe.map (fun w => (w, false)))
  let p0 : Pour := { x := ({ d with tally := { d.tally with queue := [], timed := [] } }, x.2), applied := false, blocked := false, wait := [] }
  let p := l.foldl Pour.step p0
  let d := p.x.1
  ({ d with tally := { d.tally with queue := ripe.filter (fun w => p.wait.contains w.seq) ++ later ++ d.tally.queue
                                    timed := rest ++ due.filter (fun t => p.wait.contains t.w.seq) } }, p.x.2)

/-- A hurdle accepted before a commit waits itself for a write or a block that was accepted before it (R68). -/
def Dev.commitHeld (d : Dev) (seq : Nat) : Bool :=
  d.tally.queue.any (fun h => h.key == Obj.HURDLE && h.seq < seq
    && (d.tally.queue.any (fun w => w.seq < h.seq) || d.tally.committed.any (fun c => c.2.1 < h.seq)))

/-- A commit made before this boundary applies from the next tick on, unless a hurdle holds it back (R64, R68). -/
def Dev.committedDue (d : Dev) : Dev :=
  { d with tally := { d.tally with committed := d.tally.committed.map (fun e => (e.1 || !d.commitHeld e.2.1, e.2)) } }

/-! ## Writes that are rows of their own -/

/-- The host port answers: outside BOOT, while its bank VIO2 is supplied (R591, R592). -/
def Dev.hostLive (d : Dev) : Bool := d.state != stBoot && getAt false d.ctl.supplies 4

/-- A source can reach the Tally engine: the host port while it answers, a session while it is open and the Ethernet ports run. -/
def Dev.reaches (d : Dev) (src : Src) : Bool :=
  match src with
  | .host => d.hostLive
  | .session s => (d.session s).isOpen && d.ethRuns

/-- A write from a source. -/
def Dev.sourceWrite (d : Dev) (src : Src) (k : Nat) (data : List Byte) : Dev := if d.reaches src then (d.offer src k data).2 else d

/-- A write from a source, as a command. A SAFE-HOLD cause it finds is decided as it ends. -/
def State.write (s : State) (src : Src) (k : Nat) (data : List Byte) : Res := s.onDevH (fun d => d.sourceWrite src k data)

end Sys2Proof.Machine
end

