-- ==== Sys2Proof/Machine/Copy.lean ====
section
/-! DEFINITION. Machine/Copy.lean: what a pair member that is not the head does with a COPY frame (R495, R498 to R506, R516), and how its
device state follows the active's. -/

namespace Sys2Proof.Machine

/-! ## Segments applied (R500, R502) -/

/-- The bytes of a context's window in its fold's SRAM: the first, and how many (R308). -/
def Dev.windowAt (d : Dev) (c : Nat) : Nat × Nat :=
  let f := d.obj (Obj.CTX_FOLD c)
  (foldByte f (4 * tget (fun _ => 0) (d.fold f).windows c), 4 * d.ctxWords (d.domOf c))

/-- CONTEXT of a vendor context: committed state, outputs, feedback history, what its repetitive controller has learned. -/
def Dev.copyContext (d : Dev) (c : CopyContext) : Dev :=
  let d := d.updAxis c.ctx (fun a => { a with servo := c.servo, out := c.out, hist := c.hist, cur := none })
  c.rc.foldl (fun d e => if 128 ≤ c.ctx then d.rcPut (Obj.GF_RC_TABLE e.1) (d.obj Obj.GF_RC_LENGTH) e.2.1 e.2.2
    else d.rcPut (Obj.RC_TABLE c.ctx) (d.obj (Obj.RC_LENGTH c.ctx)) e.2.1 e.2.2) d

/-- CONTEXT of a customer context: outputs, feedback history, committed bytes of its window. -/
def copyWindow (x : DM) (c : CopyWindow) : DM :=
  let w := x.1.windowAt c.ctx
  (x.1.updAxis c.ctx (fun a => { a with out := c.out, hist := c.hist, cur := none }),
   (c.bytes.filter (fun e => decide (e.1 < w.2))).foldl (fun (m : Mem) e => m.put (w.1 + e.1) e.2) x.2)

/-- The axes' states and the grid-former's. -/
def Dev.copyStatus (d : Dev) (s : CopyStatus) : Dev :=
  let d := s.axes.foldl (fun d e => if e.1 < 128 then d.setObj (Obj.AXIS_STATE e.1) e.2 else d) d
  match s.grid with
  | some (g, st, trip, legs) => (({ d with gf := g, legReqs := legs } : Dev).setObj Obj.GF_STATE st).setObj Obj.GF_TRIP_CAUSE trip
  | none => d

/-- BULK of a customer context: words of its window, unwritten bytes too. -/
def copyArea (x : DM) (c word : Nat) (symbols : List Nat) : DM :=
  let w := x.1.windowAt c
  (x.1, (symbols.zipIdx.filter (fun e => decide (4 * word + e.2 < w.2))).foldl (fun (m : Mem) e => m.setSym (w.1 + 4 * word + e.2) (e.1 % 8192)) x.2)

/-- The copied lock-out causes of a group: latched, and cleared when the copy shows them cleared (R516) (DEDUCED, log entry 65). -/
def Dev.copyCauses (d : Dev) (g causes : Nat) : Dev :=
  let d := d.updGroup g (fun x => { x with causes := x.causes.filter (fun c => c.source != 0x1FF || bit causes (c.code - 1)) })
  let d := (bitsSet 16 causes).foldl (fun d i => d.latch (i + 1) 0x1FF g) d
  d.showGroup g (d.groupState g)

/-- ISLAND: every group's state and causes. -/
def Dev.copyIsland (d : Dev) (words : List Nat) (tag : Nat) : Dev :=
  let d := d.updPair14 (fun p => { p with island := words, islandTag := tag })
  if d.isl.running then forN 32 (fun g d => d.copyCauses g (getAt 0 words g / 256 % 65536)) d else d

/-- CONNECTIONS: state, reintegration count and SEQ of each enabled connection. -/
def Dev.copyConns (d : Dev) (words : List Nat) : Dev :=
  ((words.zipIdx.filter (fun e => d.objB (Obj.CONN_ENABLE e.2))).foldl (fun d e =>
    let n := e.2
    let d := d.setObj (Obj.CONN_STATE n) (e.1 / 2 ^ 24 % 256)
    if d.obj (Obj.CN_DIRECTION n) = 1 then d.updConn n (fun c => { c with seq := (e.1 % 65536 + 1) % 65536 })
    else (d.setObj (Obj.CN_LAST_SEQ n) (e.1 % 65536)).updConn n (fun c => { c with count := e.1 / 65536 % 256, ref := true })) d).countValid

/-- RING: a position of the discovery table, shown as at the active (R221). -/
def Dev.copyRing (d : Dev) (r p kind axes east west : Nat) : Dev :=
  if p = 0 ∨ 64 < p then d
  else
    let n : RingNode := { kind := kind, axes := axes, revision := 0, dEast := east, dWest := west, status := 0, got := false,
                          missing := 0, lost := false, halted := false }
    let d := d.updRing r (fun g => { g with nodes := setAt (g.nodes ++ List.replicate (p - g.nodes.length) n) (p - 1) n })
    d.showNodes r (d.ring r).nodes

/-- A table whose copied entries with keys from lo up to hi are replaced by others. -/
def copyTable {α : Type} [DecidableEq α] (dflt : Nat → α) (own : List (Nat × α)) (lo hi : Nat) (new : List (Nat × α)) : List (Nat × α) :=
  new.foldl (fun (m : List (Nat × α)) e => tset dflt m e.1 e.2) (own.filter (fun e => !(isCopied e.1 && lo ≤ e.1 && e.1 < hi)))

/-- The contexts' states as CONFIGURED gives them. -/
def Dev.showConfigured (d : Dev) : Dev := forN 128 (fun n d => d.setObj (Obj.AXIS_STATE n) (d.obj (Obj.CONFIGURED n))) d

/-- A unit in another state than CONFIG whose image differs from the active's enters CONFIG (R505). -/
def Dev.imageDiffers (d : Dev) (same : Bool) : Dev :=
  if d.state == stConfig || same then d else d.updPair14 (fun p => { p with follow := some stConfig })

/-- BULK 0x100: copied objects replace this unit's own; rings and leg links follow their enables. -/
def Dev.copyImage (d : Dev) (lo hi : Nat) (objs : List (Nat × Nat)) : Dev :=
  let old := d
  let objs := objs.filter (fun e => isCopied e.1 && lo ≤ e.1 && e.1 < hi)
  let same := d.dict.filter (fun e => isCopied e.1 && lo ≤ e.1 && e.1 < hi) == objs
  let d : Dev := { d with dict := copyTable defaultOf d.dict lo hi objs }
  let d := ((d.setObj Obj.SAFETY_CRC (Config.blockCrc d.blockInForce % 2 ^ 32)).showStore).showShared
  let d := if d.obj Obj.RING_ENABLE = old.obj Obj.RING_ENABLE then d else d.ringEnableWrite
  let d := forN 20 (fun n d => if d.obj (Obj.LINK_ENABLE n) = old.obj (Obj.LINK_ENABLE n) then d
    else d.linkWrite n (d.obj (Obj.LINK_ENABLE n))) d
  let d := if d.state == stConfig then d.showConfigured else d
  d.imageDiffers same

/-- Bytes of a value from one on, put into what is there of it. -/
def putSlice (old bytes : List Byte) (off total : Nat) : List Byte :=
  (old.take off ++ List.replicate (off - old.length) 0 ++ bytes).take total

/-- BULK 0x100: a copied DOMAIN value; those before it are empty at the active. -/
def Dev.copyValue (d : Dev) (lo k off total : Nat) (bytes : List Byte) : Dev :=
  let old := d.blobs.filter (fun e => isCopied e.1 && lo ≤ e.1 && e.1 < k)
  let d : Dev := { d with blobs := copyTable (fun _ => []) d.blobs lo k [] }
  if isCopied k then
    let new := putSlice (d.blob k) bytes off total
    (d.setBlob k new).imageDiffers (old.isEmpty && new == d.blob k)
  else d.imageDiffers old.isEmpty

/-- BULK 0x200 + d: a committed domain image, valid here as in the active once it is whole. -/
def Dev.copyDomain (d : Dev) (dom off total : Nat) (bytes : List Byte) : Dev :=
  let image := putSlice (d.image dom) bytes off total
  let d := d.setBlob (Obj.DOMAIN_IMAGE dom) image
  if off + bytes.length < total then d
  else
    let r := checkImage (d.obj Obj.STEPPING) image
    d.showCheck dom r.1 r.2

/-- BULK of a vendor context: its outputs, and its state where the windows stand. -/
def Dev.copyVendor (d : Dev) (c : CopyContext) (last whole : Bool) : Dev :=
  if !last then d else if whole then d.copyContext c else d.updAxis c.ctx (fun a => { a with out := c.out })

/-- A segment that goes into the contexts of a cycle in which they compute; inConfig: of one whose active is in CONFIG, where windows hold
nothing that READY keeps. -/
def copyInto (x : DM) (inConfig : Bool) (s : CopySegment) : DM :=
  let d := x.1
  match s with
  | .context c => (d.copyContext c, x.2)
  | .window c => copyWindow x c
  | .status t => (d.copyStatus t, x.2)
  | .area c w l => if inConfig then x else copyArea x c w l
  | .vendor c _ _ last => (d.copyVendor c last !inConfig, x.2)
  | _ => x

/-- Segments that go into contexts. -/
def isContextual : CopySegment → Bool
  | .context _ => true
  | .window _ => true
  | .status _ => true
  | .area _ _ _ => true
  | .vendor _ _ _ _ => true
  | _ => false

/-- One segment applied. A unit in CONFIG has no windows yet: what an active beyond CONFIG sends into contexts waits for the unit's READY
(DESIGN CHOICE, log entry 67). -/
def copySegment (tag st : Nat) (x : DM) (s : CopySegment) : DM :=
  let d := x.1
  if isContextual s then
    if d.state = stConfig ∧ st ≠ stConfig then (d.updPair14 (fun p => { p with stash := p.stash ++ [s] }), x.2)
    else copyInto x (decide (st = stConfig)) s
  else match s with
  | .profile n g h => ((d.putGen n g).setObj (Obj.HOME_STATE n) h, x.2)
  | .island w => (d.copyIsland w tag, x.2)
  | .connections w => (d.copyConns w, x.2)
  | .payload n b => (d.updConn n (fun c => { c with used := b, staged := b }), x.2)
  | .write k v data => if isRws k then (d.applyBlock [(k, v)], x.2) else applyObject x false k v data
  | .safeFrame n b => (if d.isl.running then d.connReceive n b d.now (ns32 (d.timeNs 0)) else d, x.2)
  | .ring r p k a e w => (d.copyRing r p k a e w, x.2)
  | .image lo hi o => (d.copyImage lo hi o, x.2)
  | .value lo k off total b => (d.copyValue lo k off total b, x.2)
  | .domain k off total b => (d.copyDomain k off total b, x.2)
  | _ => x

/-- A segment of the bulk copy. -/
def isBulk : CopySegment → Bool
  | .image _ _ _ => true
  | .value _ _ _ _ _ => true
  | .domain _ _ _ _ => true
  | .area _ _ _ => true
  | .vendor _ _ _ _ => true
  | _ => false

/-- Every segment of a frame in one step, BULK first (R502). -/
def copyApply (x : DM) (f : CopyFrame) : DM :=
  let tag := f.header.tag.toNat
  (f.segments.filter isBulk ++ f.segments.filter (fun s => !isBulk s)).foldl (copySegment tag f.header.state.toNat) x

/-! ## A COPY frame arrives (R494, R503 to R505) -/

/-- The acknowledgement sent (R503). -/
def Dev.acknowledge (d : Dev) (tag result : Nat) : Dev :=
  let ack : CopyAck := { tag := BitVec.ofNat 32 tag, result := BitVec.ofNat 8 result, role := BitVec.ofNat 8 (d.obj Obj.ROLE),
                         progress := BitVec.ofNat 8 (d.obj Obj.JOIN_PROGRESS), checked := true }
  (d.emit (.copyAck ack)).emit (.wire (copyAckBytes ack))

/-- JOIN_PROGRESS from what is still to come. -/
def Dev.joinProgress (d : Dev) (h : CopyHeader) : Dev :=
  let left := h.remaining.toNat
  if h.flags.toNat % 2 = 0 then d
  else
    let d := if d.pair.joinId = h.joinId.toNat && d.pair.total != 0 then d
      else d.updPair14 (fun p => { p with joinId := h.joinId.toNat, total := max 1 left })
    d.setObj Obj.JOIN_PROGRESS (100 - min 100 (left * 100 / max 1 d.pair.total))

/-- A join ends with the copy that leaves nothing to send (R505). -/
def Dev.joinEnds (d : Dev) (h : CopyHeader) : Dev :=
  if d.obj Obj.ROLE = 3 && h.flags.toNat % 2 = 1 && h.remaining = 0 then
    ((d.setRole 2).raise 0x54 h.joinId.toNat).updPair14 (fun p => { p with joining := false, total := 0 })
  else d

/-- The device state to take at the next boundary (R495). -/
def Dev.followNext (d : Dev) (h : CopyHeader) : Dev :=
  let st := h.state.toNat
  if d.pair.follow.isSome then d
  else if d.obj Obj.ROLE = 2 || (d.obj Obj.ROLE = 3 && st = stConfig) then d.updPair14 (fun p => { p with follow := some st })
  else d

/-- A valid frame applied (DEDUCED, log entry 68). -/
def copyTake (x : DM) (f : CopyFrame) : DM :=
  let tag := f.header.tag.toNat
  let d := x.1.updPair14 (fun p => { p with got := true, follow := none, joining := x.1.obj Obj.ROLE = 3 })
  let d := { d with ringCtl := { d.ringCtl with epochSeen := max d.ringCtl.epochSeen f.header.epoch.toNat } }
  let y := copyApply (d, x.2) f
  let d := (y.1.setObj Obj.LAST_COPY_TAG tag).joinProgress f.header
  (((d.joinEnds f.header).followNext f.header).acknowledge tag 0, y.2)

/-- COPY_FRAME_RX: a valid frame makes a WAITING unit in CONFIG a JOINING one; a STALE unit applies nothing (DEDUCED, log entry 68). -/
def copyFrameRx (x : DM) (f : CopyFrame) : DM :=
  let d := x.1
  let tag := f.header.tag.toNat
  if d.isHead || !d.pair.twinUp || !d.cycling then x
  else if !f.closed then (d.acknowledge tag 2, x.2)
  else if !f.checked then ((d.bump Obj.TWIN_ERRORS).acknowledge tag 1, x.2)
  else
    let d := d.setObj Obj.PEER_ROLE 1
    let d := if d.obj Obj.ROLE = 5 && d.state = stConfig then d.setRole 3 else d
    let role := d.obj Obj.ROLE
    let first := role = 3 && !d.pair.joining
    if role ≠ 2 ∧ role ≠ 3 then (d.acknowledge tag 3, x.2)
    else if !first && tag != (d.obj Obj.LAST_COPY_TAG + 1) % 2 ^ 32 then (d.acknowledge tag 3, x.2)
    else copyTake (d, x.2) f

/-! ## Following the active's device state (R495, R505) -/

/-- What waited in CONFIG goes into the contexts (DEDUCED, log entry 68). -/
def takeStash (x : DM) : DM :=
  x.1.pair.stash.foldl (fun x s => copyInto x false s) (x.1.updPair14 (fun p => { p with stash := [] }), x.2)

/-- READY entered from CONFIG: folds loaded, then the copied contexts. -/
def followReady (x : DM) : DM := takeStash (enterReady (prepare x))

/-- The step from READY, RUN or SERVICE into another state. -/
def followOn (x : DM) (st : Nat) : DM :=
  let d := x.1
  if d.state = st then x
  else if st = stReady then enterReady x
  else if st = stRun then ({ d.goState stRun with ctl := { d.ctl with enteredRunAt := d.tb.periods } }, x.2)
  else if st = stService then (d.enterService, x.2)
  else x

/-- The state to follow taken at a boundary. The active's CONFIG makes a standby join again. -/
def followState (x : DM) (follow : Option Nat) : DM :=
  match follow with
  | none => x
  | some st =>
    let d := x.1
    if d.state = st ∨ !d.cycling then x
    else if st = stConfig then ((d.enterConfig.setRole 3).updPair14 (fun p => { p with joining := false, got := true, stash := [] }), x.2)
    else if st = stReady ∨ st = stRun ∨ st = stService then
      (if d.state = stConfig then followOn (followReady x) st else followOn x st)
    else x

/-! ## Meanings -/

/-- COPY_FRAME_RX. -/
def execCopyFrameRx (frame : CopyFrame) (s : State) : Res := s.onBoth (fun x => copyFrameRx x frame)

end Sys2Proof.Machine
end

