-- ==== Sys2Proof/Machine/Cycle.lean ====
section
/-! DEFINITION. Machine/Cycle.lean: the control cycle: what a cycle boundary and a dispatch deadline do, in order (R24), and the safety
tick with what it finds. -/

namespace Sys2Proof.Machine

/-! ## The cycle boundary -/

/-- The next cycle begins: its tag, its instant and the next boundary's (R71, R136) (DEDUCED, log entry 29). -/
def Dev.newCycle (d : Dev) : Dev :=
  let d := (d.showGather 0).showGather 1
  { d with cyc := { d.cyc with tag := (d.cyc.tag + 1) % 2 ^ 32, startAt := d.now, startTime := d.timeNs 0, nextAt := d.now + d.cyc.len
                               dispatched := false } }

/-- A boundary counted; the TIME80 of its sample instant as it stands after a step (R132). -/
def Dev.countCycle (d : Dev) : Dev := { d with cyc := { d.cyc with count := d.cyc.count + 1, startTime := d.timeNs 0 } }

/-- Pulse counts, sense values and telemetry latched at the sample instant (R285, R356, R366, R421). -/
def Dev.latchInputs (d : Dev) : Dev :=
  forN 8 (fun p d =>
    let q := getAt idlePulseIn d.pulseIn p
    ({ d with pulseIn := setAt d.pulseIn p { q with last := d.obj (Obj.PI_COUNT p) } } : Dev).setObj (Obj.PI_COUNT p) q.count) d.latchSense.latchTel

/-- A pair member that is not the head takes its tag from the last drove frame (R516). -/
def Dev.followTag (d : Dev) : Dev :=
  if d.isHead then d
  else match d.pair.nextTag with
    | some t => { (d.updPair14 (fun p => { p with nextTag := none })) with cyc := { d.cyc with tag := t } }
    | none => d

/-- What the pair does at a boundary: losses, joins, and the device state a standby follows. -/
def pairAtBoundary (x : DM) (oldTag : Nat) : DM :=
  let follow := x.1.pair.follow
  let copies := x.1.obj Obj.ROLE = 2 ∨ x.1.obj Obj.ROLE = 3
  let d := (x.1.pairBoundary oldTag).followTag
  if copies then followState (d, x.2) follow else (d, x.2)

/-- AUTO_READY (R590): the first boundary after discovery completes requests READY (DEDUCED, log entry 30). -/
def autoReady (x : DM) : DM :=
  let d := x.1
  let due := d.state == stConfig && d.discoveryComplete
  let ask := due && !d.ctl.autoAsked && d.objB Obj.AUTO_READY && d.obj Obj.ROLE != 5 && d.ctl.trans == .none
  let d : Dev := { d with ctl := { d.ctl with autoAsked := due } }
  if ask then stateRequest (d, x.2) 2 else (d, x.2)

/-- Groups that entered a ramp since the last boundary stop their generators (R437). -/
def Dev.rampStops (d : Dev) : Dev :=
  let mask := d.isl.rampNew
  let d := d.updIsl (fun i => { i with rampNew := 0 })
  if mask = 0 then d
  else forN 128 (fun n d => if d.obj (Obj.AXIS_GROUP n) < 32 && bit mask (d.obj (Obj.AXIS_GROUP n)) then d.genStop n else d) d

/-- The generators at a boundary: gears, homing, the stops of ramps, commands in their order of axes (R329, R344, R353, R354). -/
def Dev.profileBoundary (d : Dev) : Dev :=
  let d := forN 128 (fun n d => d.genBoundary n) d
  let d := forN 128 (fun n d => if (d.gen n).cmd = 0 then d else d.genCommand n (d.axisState n == 2)) d.rampStops
  d.stoppingEnds

/-- The contexts' cycle begins; the generators of axes whose stage is off are held, in CONFIG and in a failed fold too (R229, R242, R275,
R342). -/
def Dev.contextsBegin (d : Dev) : Dev :=
  let d := ((List.range 136).filter d.computes).foldl (fun d c => d.beginCycle c) d
  ((List.range 128).filter (fun n => d.isHead && d.configured n)).foldl (fun d n => d.holdIfOff n) d

/-- What a boundary applies: writes, requests, transitions, time steps. -/
def applyAll (x : DM) (oldTag : Nat) : DM :=
  let y := pairAtBoundary (x.1.latchInputs, x.2) oldTag
  let y := carryOut (autoReady (applyWrites (y.1.retireDue.committedDue, y.2)))
  (y.1.timeStep.stepDeferred.countCycle.refreshTick, y.2)

/-- CYCLE_BOUNDARY, once its instant has come: SAFE-HOLD is entered, or the new cycle begins; axes that stand at the end of a controlled stop
take FAULT before the STO step (R24, R31, R39, R136, R340) (DEDUCED, log entry 76). -/
def cycleBoundary (x : DM) : DM :=
  let d := x.1
  if !d.cycling || d.now < d.cyc.nextAt then x
  else if d.entersHold then (d.stoppingEnds.enterHold, x.2)
  else
    let oldTag := d.cyc.tag
    let d := d.newCycle
    let y := applyAll (if d.stoDue then d.stoppingEnds.stoStep else d, x.2) oldTag
    let d := if y.1.isHead then y.1.profileBoundary else y.1
    (d.contextsBegin.copyProfile.heartbeat.acqBoundary, y.2)

/-! ## The dispatch deadline -/

/-- The ns from this instant to the next cycle boundary. -/
def Dev.toBoundary (d : Dev) : Nat := d.cyc.startAt + d.cyc.len - d.now

/-- Axes of groups in STO, or that have entered it since the last deadline, become DISABLED (R437) (DEDUCED, log entry 52). -/
def Dev.stoDisable (d : Dev) : Dev :=
  let mask := d.isl.stoNew ||| d.stoGroups
  let d := d.updIsl (fun i => { i with stoNew := 0 })
  if mask = 0 then d
  else forN 128 (fun n d =>
    if d.driven n && d.obj (Obj.AXIS_GROUP n) < 32 && bit mask (d.obj (Obj.AXIS_GROUP n)) then d.setObj (Obj.AXIS_STATE n) 1 else d) d

/-- The cycle's end for every context computed; the cycle of a takeover counts nothing for the axes (R244 to R250, R368, R513). -/
def Dev.closeContexts (d : Dev) : Dev :=
  let took := d.pair.takeTag == some d.cyc.tag
  let cs := (List.range 136).filter d.computes
  let d := cs.foldl (fun d c => if took && c < 128 then d else d.closeCycle c) d
  let d := if cs.contains 128 && d.objB Obj.GF_ENABLE then (d.gfHeld (d.axis 128).miss).gfMissed (d.axis 128).miss else d
  d.stopAll.stoDisable

/-- The cycle's counts, and its results; none in SERVICE (R71, R75, R253, R514). -/
def Dev.publishAll (d : Dev) : Dev :=
  let took := d.pair.takeTag == some d.cyc.tag
  let cs := (List.range 136).filter d.computes
  let d := cs.foldl (fun d c => d.countContext c) d
  let d := if d.state = stService then d
    else cs.foldl (fun d c =>
      let d := d.publish c
      if took && c < 128 then d.setObj (Obj.PASS_KIND c) 3 else d) d
  if d.legActive then forN 8 (fun f d => d.closeFold f) d else d

/-- The command records of a position; the slot of an axis that is not configured counts as unbound (R227) (DEDUCED, log entry 48). -/
def Dev.nodeRecords (d : Dev) (r p axes : Nat) : List CommandRecord :=
  let none' : Nat → CommandRecord := fun l =>
    { localAxis := l, enable := false, dutyA := 0, dutyB := 0, dutyC := 0, aux := 0, carrier := 0 }
  (List.range axes).map (fun l => match d.axisAt r p l with
    | some n => if d.configured n then d.commandRecord n l else none' l
    | none => none' l)

/-- The blocks of positions, in the order given (R186). -/
def Dev.nodeBlocks (d : Dev) (r : Nat) (l : List Nat) : List DownBlock × Dev :=
  l.foldl (fun (acc : List DownBlock × Dev) p =>
    match (acc.2.ring r).node p with
    | none => acc
    | some n =>
      if n.axes = 0 then acc
      else
        let s : Option (List Byte) × Dev := if bit (acc.2.safeSlots r p) 0 then
            (let y := acc.2.safeSlot r p; (some y.1, y.2)) else (none, acc.2)
        (acc.1 ++ [mkBlock p (s.2.nodeRecords r p n.axes) s.1], s.2)) ([], d)

/-- One port's drove frame (R184, R512): its half farthest first (DEDUCED, log entry 48). -/
def Dev.droveFrame (d : Dev) (r port : Nat) (half : List Nat) : DroveFrame × Dev :=
  let b := d.nodeBlocks r half.reverse
  let d := b.2
  let g := d.ring r
  let extra := match g.takeover with
    | some (_, e, w) => if port = 0 then e else w
    | none => 0
  (sealHeader { epoch := d.epoch, cycleTag := (d.cyc.tag + 1) % 2 ^ 32, cycleStart := d.time80 d.toBoundary,
                lead := min 65535 (d.toBoundary + extra), cycleLen := d.cyc.len / 125, stoGroups := d.stoGroups,
                turn := half.getLast?.getD 0, folded := !g.plan.isEmpty, noRun := d.state != stRun, hdrCrc := 0, blocks := b.1 }, d)

/-- A port sends its half: not toward a link of its own that is lost (R207) (DEDUCED, log entry 48). -/
def Dev.sendHalf (d : Dev) (r port : Nat) (half : List Nat) : Dev :=
  if !(d.ring r).portUp port then d
  else
    let f := d.droveFrame r port half
    f.2.emit (.drove r port f.1)

/-- The drove frames of a ring at a deadline, after the missing blocks of the cycle are counted (R195, R208, R211). -/
def Dev.sendDrove (d : Dev) (r : Nat) : Dev :=
  if !d.isHead || !(d.ring r).sending || !d.ringOpen r then d
  else
    let d := (d.missingBlocks r).planAtDeadline r
    let h := (d.ring r).served (d.ring r).plan
    (d.sendHalf r 0 h.1).sendHalf r 1 h.2

/-- Edge records for the next apply interval (R407). -/
def Dev.sendEdges (d : Dev) : Dev :=
  let periods := fun (n : Nat) => d.tb.periodsTo d.effSlew n
  d.dispatchEdges (fun s => getAt false d.gf.slotOff s)
    { toLo := periods d.toBoundary, toHi := periods (d.toBoundary + d.cyc.len), count := d.tb.periods - d.ctl.enteredRunAt }

/-- Drove frames leave at this deadline, on one ring at least where any is enabled; none does in CONFIG (R204, R509). -/
def Dev.droveNow (d : Dev) : Bool :=
  d.state != stConfig && (d.obj Obj.RING_ENABLE % 4 == 0 || [0, 1].any (fun r => (d.ring r).sending && d.ringOpen r))

/-- The deadline of this cycle has passed. -/
def Dev.markDispatched (d : Dev) : Dev := { d with cyc := { d.cyc with dispatched := true } }

/-- DISPATCH_DEADLINE, once its instant has come, 5,000 ns before the boundary. A unit that has handed its work over sends nothing more
(R38, R136) (DEDUCED, log entry 76). -/
def Dev.dispatch (d : Dev) (m : Mem) : Dev :=
  if !d.cycling || d.cyc.dispatched || d.now + 5000 < d.cyc.nextAt then d
  else
    if d.ctl.handed then d.markDispatched.updPair14 (fun p => { p with drove := false })
    else
      let d := d.staleDeadline.closeContexts.markDispatched.publishAll
      let d := ((d.sendDrove 0).sendDrove 1).sendEdges.acqDispatch
      (d.updPair14 (fun p => { p with drove := d.droveNow })).copySend m

/-! ## The safety tick -/

/-- SAFETY_TICK: a block applied at this tick goes to the standby as writes (R496). -/
def Dev.tickAndCopy (d : Dev) (s c : SafeSample) (rbA rbB : Nat) (differ : Bool) : Dev :=
  let due := if d.tickDue then d.dueBlocks else []
  due.flatten.foldl (fun d e => d.copyWrite e.1 e.2 []) (d.safetyTick s c rbA rbB differ)

/-! ## Meanings -/

/-- CYCLE_BOUNDARY. -/
def execCycleBoundary (s : State) : Res := s.onBothH cycleBoundary

/-- DISPATCH_DEADLINE. -/
def execDispatchDeadline (s : State) : Res := s.onDevH (fun d => d.dispatch s.mem)

/-- SAFETY_TICK. -/
def execSafetyTick (s c : SafeSample) (rbA rbB : Byte) (differ : Bool) (st : State) : Res :=
  st.onDevH (fun d => d.tickAndCopy s c rbA.toNat rbB.toNat differ)

end Sys2Proof.Machine
end

