-- ==== Sys2Proof/Machine/Boot.lean ====
section
/-! DEFINITION. Machine/Boot.lean: power, RESET_N and the boot sequence up to CONFIG (R584 to R597), with the time-base events that
carry it forward (R102 to R129). -/

namespace Sys2Proof.Machine

/-! ## Entering BOOT (R30, R33, R34, R585, R586, R588) -/

/-- The lanes after BOOT: nothing runs; what is wrong with a lane stays wrong. -/
def bootFolds (l : List Fold) : List Fold :=
  l.map (fun f => { initFold with lanes := f.lanes.map (fun x => { initLane with sound := x.sound }) })

/-- What stays through BOOT: the counter of elapsed time, the flash with its health and incident areas, the island with its objects and
lock-outs, the band of the last lock, supplies, the grant as its pin stands (R34, R143, R546, R559). -/
def Dev.wiped (d : Dev) : Dev :=
  { bootDev with
    now := d.now, dict := d.dict.filter (fun e => ofIsland e.1), free := d.free, emitted := d.emitted, flash := d.flash
    isl := d.isl, health := d.health, folds := bootFolds d.folds
    ctl := { bootDev.ctl with supplies := d.ctl.supplies, resetN := d.ctl.resetN }
    tb := { (initTimeBase d.now) with pllT := { initPll with lastBand := d.tb.pllT.lastBand }, pllS := { initPll with lastBand := d.tb.pllS.lastBand } }
    acq := { initAcq with sealed := d.acq.sealed, eraseCount := d.acq.eraseCount, eraseTime := d.acq.eraseTime }
    pair := { initPair14 with grant := d.pair.grant } }

/-- What leaves the pins as BOOT is entered: bypasses closed, every group in STO, no safe frame sent, EVT_N released. -/
def Dev.releasePins (d : Dev) : Dev :=
  let had := !d.evq.queue.isEmpty && d.state != stBoot
  let d := ((d.closeBypasses.setObj Obj.DEVICE_STATE stBoot).stoAll).connsSilent
  if had then d.emit (.evtN true) else d

/-- BOOT entered, with the value of RESET_CAUSE. ARB_HB holds its level (DEDUCED, log entry 45). The island's return to its own oscillator
raises no event 0x1B, as BOOT empties the queue (DESIGN CHOICE, log entry 30). -/
def Dev.enterBoot (d : Dev) (cause : Nat) : Dev :=
  let pins := d.obj Obj.ARB_PINS
  let d := ((d.fuseBreak.releasePins.wiped.setObj Obj.ARB_PINS pins).setObj Obj.RESET_CAUSE cause).setObj Obj.SAFETY_TICK_SOURCE 1
  d.refreshArb

/-- RESET_N_ASSERT. -/
def Dev.resetAssert (d : Dev) : Dev := ({ d with ctl := { d.ctl with resetN := false } } : Dev).enterBoot 1

/-- A change of the feeds as the island reports it; without either, BOOT (R585). -/
def Dev.feeds (d : Dev) (a b : Bool) : Dev :=
  let had := d.isl.feedA || d.isl.feedB
  let d := d.vsafe a b
  if !a && !b && had then d.enterBoot (if getAt false d.ctl.supplies 0 then 2 else 0) else d

/-! ## Supplies (R580, R584, R592) -/

/-- The place of a rail in DevCtl.supplies; the feeds of VSAFE stand in the island. -/
def Rail.place (r : Rail) : Nat :=
  match r with
  | .vcore => 0
  | .vser => 1
  | .vpll => 2
  | .vio1 => 3
  | .vio2 => 4
  | .vio3 => 5
  | .vio4 => 6
  | .vfuse => 7
  | _ => 8

/-- The rails marked in range or out of it (DEDUCED, log entry 47). -/
def Dev.markRails (d : Dev) (rails : List Rail) (on : Bool) : Dev :=
  { d with ctl := { d.ctl with supplies := rails.foldl (fun l r => if Rail.place r < 8 then setAt l (Rail.place r) on else l) d.ctl.supplies } }

/-- POWER_UP: rails come into range; the outputs of their banks follow. -/
def Dev.powerUp (d : Dev) (rails : List Rail) : Dev :=
  let d := d.markRails rails true
  let d := d.feeds (d.isl.feedA || rails.contains .vsafeA) (d.isl.feedB || rails.contains .vsafeB)
  d.driveOuts.refreshArb

/-- The loss of VSER: no ring can be driven. The loss of VPLL: neither synthesiser serves (DEDUCED, log entry 47). -/
def Dev.clockLoss (d : Dev) (rails : List Rail) : Dev :=
  let heads := [stReady, stRun, stService].contains d.state && d.obj Obj.RING_ENABLE != 0
  let d := if rails.contains .vser then (let d := d.serdesFall; if heads then d.reqCause 6 0 else d) else d
  if rails.contains .vpll then
    (((d.setObj Obj.PLLT_STATE 5).setObj Obj.PLLS_STATE 5).closeBypasses).reqCause 3 0
  else d

/-- POWER_LOSS: rails leave their range. Without VCORE nothing outside the island is left (R143); in BOOT the boot origin comes again
(R587) (DEDUCED, log entry 47). -/
def Dev.powerLoss (d : Dev) (rails : List Rail) : Dev :=
  let d := d.markRails rails false
  let d := d.feeds (d.isl.feedA && !rails.contains .vsafeA) (d.isl.feedB && !rails.contains .vsafeB)
  let d := if rails.contains .vcore then
      { (d.enterBoot 0) with tb := initTimeBase d.now }
    else if d.state = stBoot then (if rails.any (fun r => Rail.place r < 5) then d.enterBoot (d.obj Obj.RESET_CAUSE) else d)
    else d.clockLoss rails
  d.refreshTick.driveOuts.refreshArb

/-! ## The boot origin (R587, R589, R591, R596, R597) -/

/-- The boot origin can come: RESET_N rises with the supplies in range. -/
def Dev.originReady (d : Dev) : Bool :=
  d.state == stBoot && d.ctl.boot == .held && (List.range 5).all (fun i => getAt false d.ctl.supplies i) && (d.isl.feedA || d.isl.feedB)

/-- The island's step: it starts where it did not run, and its channel self-test begins: SAFETY_SELFTEST_DONE brings what it finds (R457,
R592). -/
def Dev.islandBoot (d : Dev) : Dev :=
  let d := if d.isl.running then d else ((d.islandStart).showArb false)
  let d := d.setObjBit Obj.BOOT_STATUS 0 (!d.flash.block0Ok)
  (d.updIsl (fun i => { i with crossOk := true, healthy := 3, differing := 0, testing := true, bootTest := true })).showIsland

/-- Lanes out of service stay out; the spare of their fold is in use (R574). -/
def Dev.bootLanes (d : Dev) : Dev :=
  let d := d.health.retired.foldl (fun d e => d.setObj (Obj.LANE_STATE (e.1 / 8) (e.1 % 8)) e.2) d
  forN 8 (fun f d =>
    let used := d.health.retired.any (fun e => e.1 / 8 == f && e.1 % 8 != 7)
    let d := if used ∧ d.obj (Obj.LANE_STATE f 7) = 1 then d.setObj (Obj.LANE_STATE f 7) 2 else d
    let d := d.showLanes f
    { d with folds := upd (fun (x : Fold) => { x with reduced := decide ((d.lanesInService f).length < 7) }) d.folds f }) d

/-- The health area cannot be read: fuse map only (R591) (DEDUCED, log entry 47). -/
def Dev.healthLost (d : Dev) : Dev :=
  ({ d with health := { d.health with cand := [], columns := [], soft := [], retired := [], powerOn := 0, run := 0, hot := 0 },
            acq := { d.acq with eraseCount := 0, eraseTime := 0 } } : Dev).setObjBit Obj.BOOT_STATUS 1 true

/-- The Float's step, as far as the dictionary shows it (R558, R565). TJ_MAX_SEEN starts below every
measurement (R609). -/
def Dev.floatBoot (d : Dev) : Dev :=
  let d := ((if d.flash.healthOk then d else d.healthLost).applyRepairs.showHours.bootLanes).showSealed
  d.setObjI 16 Obj.TJ_MAX_SEEN (-40)

/-- The image a BOOT applies: the current copy's, or the other's where the current one holds none (DEDUCED, log entry 47). -/
def Flash.image (f : Flash) : Option ImageCopy :=
  match f.current with
  | some c => some c
  | none => if f.current1 then f.copy0 else f.copy1

/-- The saved settings of the time base, which the synthesisers' first lock uses (R112, R141) (DEDUCED, log entry 47). -/
def Dev.loadTimeBase (d : Dev) : Dev :=
  match d.flash.image with
  | none => d
  | some c =>
    if !c.crcOk || c.stepping != d.obj Obj.STEPPING then d
    else (c.objs.filter (fun e => decide (0x200 ≤ e.1 / 256) && decide (e.1 / 256 < 0x300))).foldl (fun d e => d.setObj e.1 e.2) d

/-- BOOT_START: header, island, Float; then the synthesisers lock as soon as an input has qualified (R109) (DEDUCED, log entry 47). -/
def bootStart (x : DM) : DM :=
  let d := x.1
  if !d.originReady then x
  else
    let d : Dev := { d with ctl := { d.ctl with resetN := true, bootOrigin := d.now } }
    if !d.flash.headerOk || (!d.flash.block0Ok && !d.flash.block1Ok) then ({ d with ctl := { d.ctl with boot := .headerBad } }, x.2)
    else
      let d := d.islandBoot.floatBoot
      let d : Dev := { d.loadTimeBase with ctl := { d.ctl with boot := .lock } }
      (if d.obj Obj.REF_ACTIVE = 0xFF then d else d.searchT.searchS, { cells := [] })

/-! ## The dictionary load (R53, R56, R324) -/

/-- The safety parameters put in force: those of a block, the others at their built-in defaults. -/
def Dev.forceBlock (d : Dev) (b : List (Nat × Nat)) : Dev :=
  d.applyBlock (((d.blockInForce.filter (fun e => !b.any (fun w => w.1 == e.1))).map (fun e => (e.1, defaultOf e.1))) ++ b)

/-- DICT_IMAGE_INVALID for the whole image. -/
def Dev.noImage (d : Dev) (data : Nat) : Dev := (d.forceBlock []).setObjBit Obj.BOOT_STATUS 2 true |>.raise 0x0A data

/-- The image's safety part. -/
def Dev.loadSafety (d : Dev) (c : ImageCopy) : Dev :=
  match c.safety with
  | none => (d.forceBlock []).raise 0x0A 1
  | some b => if Config.blockCrc b % 2 ^ 32 = c.safetyCrc then d.forceBlock b else (d.forceBlock []).raise 0x0A 1

/-- The image applied (DEDUCED, log entry 36). -/
def Dev.loadImage (d : Dev) : Dev :=
  match d.flash.image with
  | none => d.noImage 2
  | some c =>
    if !c.crcOk || c.stepping != d.obj Obj.STEPPING then d.noImage 0
    else
      let d := c.objs.foldl (fun d e => d.setObj e.1 e.2) d
      let d := c.doms.foldl (fun d e => d.setBlob e.1 e.2) d
      d.loadSafety c

/-- The domains that hold an image (DEDUCED, log entry 36). -/
def Dev.imageDomains (d : Dev) : List Nat :=
  (d.blobs.filter (fun e => 0xD000 ≤ e.1 / 256 && e.1 / 256 < 0xD3FC && e.1 % 256 == 0 && (e.1 / 256) % 4 == 1)).map (fun e => (e.1 / 256 - 0xD000) / 4)

/-- Saved domain images checked again (DEDUCED, log entry 36). -/
def Dev.recheckDomains (d : Dev) : Dev :=
  d.imageDomains.foldl (fun d n =>
    let c := checkImage (d.obj Obj.STEPPING) (d.image n)
    let d := d.showCheck n c.1 c.2
    if c.1 = 0 then d else d.setObjBit Obj.BOOT_STATUS 3 true) d

/-- Objects that follow from the values loaded (DEDUCED, log entry 36). -/
def Dev.derived (d : Dev) : Dev :=
  let d := forN 128 (fun n d => (if d.configured n then d.setObj (Obj.AXIS_STATE n) 1 else d).showMq n) d
  let d := forN 12 (fun p d => d.showFast p) d
  ((d.showStore.showShared).ptpConfigured).pairMode

/-- The channel self-test of this BOOT is over; without a finding it has passed (DEDUCED, log entry 47). -/
def Dev.islandTestEnds (d : Dev) : Dev :=
  if d.isl.bootTest then d.updIsl (fun i => { i with testing := false, bootTest := false }) else d

/-- The length of the control cycle, 10 µs to 1 ms in steps of 125 ns (R24, R136), in use from the dictionary load (DESIGN CHOICE,
log entry 29). -/
def cycleLength : Nat := 125 * (80 + Config.cycleSteps % 7921)

/-- The dictionary-load step, once both synthesisers have locked (DEDUCED, log entry 74). -/
def Dev.bootLoad (d : Dev) : Dev :=
  if d.state != stBoot || d.ctl.boot != .lock || d.obj Obj.PLLT_STATE != 3 || d.obj Obj.PLLS_STATE != 3 then d
  else
    let d := { d with cyc := { d.cyc with len := cycleLength } }
    let d := d.islandTestEnds.loadImage.startupLock.recheckDomains.derived
    (({ d with ctl := { d.ctl with boot := .loaded } } : Dev).refreshArb).refCheck

/-! ## CONFIG -/

/-- BOOT_SEQUENCE_COMPLETE: CONFIG; cycle boundaries, leg links and discovery start (R589). -/
def Dev.bootComplete (d : Dev) : Dev :=
  if d.state != stBoot || d.ctl.boot != .loaded then d
  else
    let d : Dev := { d with ctl := { d.ctl with boot := .done } }
    let d := d.setObj Obj.BOOT_TIME ((d.now - d.ctl.bootOrigin) / 1000 % 2 ^ 32)
    let d := { d with cyc := { d.cyc with startAt := d.now, startTime := d.timeNs 0, nextAt := d.now + d.cyc.len, dispatched := true } }
    forN 20 (fun n d => d.startLink n) d.enterConfig

/-! ## The time base in BOOT and after -/

/-- What a time-base event brings with it: the links that fall, the tick source of the island (R137), the dictionary load. -/
def Dev.clockStep (d : Dev) : Dev :=
  let d := if d.state == stBoot then d else d.serdesFall
  (d.refreshTick).bootLoad

/-! ## Meanings -/

/-- POWER_UP. -/
def execPowerUp (rails : List Rail) (s : State) : Res := s.onDev (fun d => d.powerUp rails)

/-- POWER_LOSS. -/
def execPowerLoss (rails : List Rail) (s : State) : Res := s.onDevH (fun d => d.powerLoss rails)

/-- RESET_N_ASSERT. -/
def execResetNAssert (s : State) : Res := s.onDev Dev.resetAssert

/-- VSAFE_FEED. -/
def execVsafeFeed (a b : Bool) (s : State) : Res := s.onDev (fun d => d.feeds a b)

/-- BOOT_START. -/
def execBootStart (s : State) : Res := s.onBoth bootStart

/-- BOOT_SEQUENCE_COMPLETE. -/
def execBootSequenceComplete (s : State) : Res := s.onDev Dev.bootComplete

/-- REF_QUALIFIED. -/
def execRefQualified (input : Fin 2) (diff : RefFrequency) (phaseT phaseS : Int) (s : State) : Res :=
  s.onDevH (fun d => (d.refQualified input diff.nominal diff.held phaseT phaseS).clockStep)

/-- REF_LOSS. -/
def execRefLoss (input : Fin 2) (diff phaseT phaseS : Int) (s : State) : Res :=
  s.onDevH (fun d => (d.refLoss input diff phaseT phaseS).clockStep)

/-- PLLT_LOCK. -/
def execPlltLock (s : State) : Res := s.onDevH (fun d => d.pllTLock.clockStep)

/-- PLLT_UNLOCK: cause 1, a phase error beyond ±4W. -/
def execPlltUnlock (s : State) : Res := s.onDevH (fun d => (d.unlockT 1).clockStep)

/-- PLLS_LOCK. -/
def execPllsLock (s : State) : Res := s.onDevH (fun d => d.lockS.clockStep)

/-- PLLS_UNLOCK. -/
def execPllsUnlock (s : State) : Res := s.onDevH (fun d => (d.unlockS 1).clockStep)

/-- CLAMP. -/
def execClamp (pll : PllId) (periods : BitVec 32) (s : State) : Res := s.onDevH (fun d => (d.clamp pll periods.toNat).clockStep)

end Sys2Proof.Machine
end

