-- ==== Sys2Proof/Machine/Access.lean ====
section
/-! DEFINITION. Machine/Access.lean: the ways in: reads and results (R71 to R75, R622), host-port transactions (R76 to R84), Tally over
UDP (R85 to R91), the CAN FD ports (R92, R94). -/

namespace Sys2Proof.Machine

/-! ## Values read (R48, R49, R62, R94, R142, R609, R622) -/

/-- A read's outcome. -/
structure Answer where
  status : Nat
  reread : Bool
  stale : Bool
  data : List Byte

/-- An answer without data. -/
def Answer.ofStatus (st : Nat) : Answer := { status := st, reread := false, stale := false, data := [] }

/-- The frame record of a received frame. -/
def canRecord (f : CanFrame) (t : Nat) : List Byte :=
  beBytes 4 (b2n f.ext * 2 ^ 31 + b2n f.fd * 2 ^ 30 + b2n f.brs * 2 ^ 29 + f.id.toNat) ++ beBytes 1 f.data.length ++ f.data ++ beBytes 10 t

/-- "OLT-9640-" and the letter of the grade. -/
def orderNumber (grade : Nat) : List Byte :=
  [0x4F, 0x4C, 0x54, 0x2D, 0x39, 0x36, 0x34, 0x30, 0x2D, if grade = 0 then 0x41 else 0x45]

/-- A table's value at its fixed length. -/
def fitTo (n : Nat) (l : List Byte) : List Byte := l.take n ++ List.replicate (n - l.length) 0

/-- A DOMAIN value in use. -/
def Dev.domainValue (d : Dev) (k : Nat) : List Byte :=
  let idx := k / 256
  if k = Obj.ORDER_NUMBER then orderNumber (d.obj Obj.GRADE)
  else if idx = 0x843 ∨ idx = 0x84B then
    (match (d.canPort ((idx - 0x843) / 8)).rxq.head? with
    | some (f, t) => canRecord f t
    | none => [])
  else if 0x4090 ≤ idx ∧ idx < 0x4094 then d.recordImage (idx - 0x4090)
  else match rowOf k with
    | some r => match r.ty with
      | .domain n true => fitTo (d.domainLen k n) (d.blob k)
      | _ => d.blob k
    | none => []

/-- A CAN_RX read removes the record it returned, and its buffers return to the pool (R94, R219) (DEDUCED, log entry 43). -/
def Dev.canPop (d : Dev) (p : Nat) : Dev :=
  match (d.canPort p).rxq with
  | [] => d
  | (f, _) :: t =>
    let d := { d with can := upd (fun (q : CanPort) => { q with rxq := t }) d.can p }
    d.poolFree (4 + p) (buffersOf (f.data.length + 15))

/-- A measurement at a read: its value is the unit's own (R609). -/
def Dev.measure (d : Dev) (k : Nat) : Nat × Dev :=
  let x := d.draw k
  if k = Obj.TJ ∨ k = Obj.TJ_MAX_SEEN then
    let t : Int := (x.1 % 191 : Nat) - 40
    let m := max (x.2.objI 16 Obj.TJ_MAX_SEEN) t
    (raw 16 (if k = Obj.TJ then t else m), x.2.setObjI 16 Obj.TJ_MAX_SEEN m)
  else (x.1 % 65536, x.2)

/-- Whether an object is measured at its read (DESIGN CHOICE, log entry 25). -/
def isMeasured (k : Nat) : Bool := decide (Obj.TJ ≤ k) && decide (k ≤ Obj.VFUSE_NOW)

/-- The axis whose generator an object shows as it stands, POSITION_USER or VELOCITY (R359). -/
def liveAxis (k : Nat) : Option Nat :=
  let i := k / 256
  let sub := ((i - 0xA000) % 0x40, k % 256)
  if 0xA000 ≤ i ∧ i < 0xC000 ∧ [(0x10, 4), (0x10, 5), (0x1B, 1)].contains sub then some ((i - 0xA000) / 0x40) else none

/-- What an object shows of the present instant: time, a generator, the copy budget of the cycle length (R142, R359, R361, R501) (DEDUCED, log entry 40). -/
def Dev.live (d : Dev) (k : Nat) : Option Nat :=
  match liveAxis k with
  | some n =>
    let g := d.gen n
    some (if k / 256 % 0x40 = 0x1B then g.blendLeft else if k % 256 = 4 then raw 64 g.userPosition else raw 32 g.countsPerSecond)
  | none =>
    if k = Obj.TIME_NOW then some (d.time80 0)
    else if k = Obj.NS32_NOW then some (ns32 (d.timeNs 0))
    else if k = Obj.COPY_BUDGET then some (min 16384 (6 * d.cyc.len / 10))
    else none

/-- The held value an object reads as. -/
def Dev.readHeld (d : Dev) (k : Nat) : Nat × Dev :=
  if isMeasured k then d.measure k
  else match d.live k with
    | some v => (v, d)
    | none => (d.obj k, d)

/-! ## Results windows (R72 to R75, R253, R365) -/

/-- The context of a results object. -/
def resultCtx (k : Nat) : Option Nat :=
  let i := k / 256
  if 0xA000 ≤ i ∧ i < 0xC200 ∧ 0x30 ≤ (i - 0xA000) % 0x40 then some ((i - 0xA000) / 0x40) else none

/-- The type an object is read in: a PUBLISH word of a customer domain is read whole (R253). -/
def Dev.readType (d : Dev) (k : Nat) (ty : ObjType) : ObjType :=
  match resultCtx k with
  | some c => if 0x32 ≤ (k / 256 - 0xA000) % 0x40 ∧ 2 ≤ d.domOf c then .u32 else ty
  | none => ty

/-- The wire bytes of a scalar object, and the block after the read. -/
def Dev.scalarBytes (d : Dev) (k : Nat) (ty : ObjType) : List Byte × Dev :=
  let v := d.readHeld k
  let t := v.2.readType k ty
  (v.2.damagedBytes k (beBytes t.size (wireOf t v.1)), v.2)

/-- The set at hand is not that of the present cycle, or no new sets are published. -/
def Dev.staleSet (d : Dev) (c : Nat) : Bool := d.obj (Obj.CYCLE_TAG c) != d.cyc.tag || !(d.state == stReady || d.state == stRun)

/-- A reader's read of a context's set: STALE, REREAD, and the set noted as received. -/
def Dev.takeSet (d : Dev) (reader c : Nat) (data : List Byte) : Answer × Dev :=
  let slot := reader * 136 + c
  let tag := d.obj (Obj.CYCLE_TAG c)
  let again := tget (fun _ => 0) d.acc.seen slot == tag + 1
  ({ status := 0, reread := again, stale := d.staleSet c, data := data },
   { d with acc := { d.acc with seen := tput d.acc.seen slot (tag + 1) } })

/-- A context has a set to read. -/
def Dev.hasSet (d : Dev) (c : Nat) : Bool := d.configured c && (d.axis c).published

/-! ## The reads (R50, R51, R536, R622) -/

/-- The right to read an object (DEDUCED, log entry 40). -/
def readStatus (k : Nat) : Nat :=
  match rowOf k with
  | none => 0x0001
  | some r => if r.rights == .wo then 0x0002 else 0

/-- A record can be read once it is complete. -/
def Dev.recordBusy (d : Dev) (k : Nat) : Bool :=
  let idx := k / 256
  decide (0x4090 ≤ idx) && decide (idx < 0x4094) && !d.recordReadable (idx - 0x4090)

/-- Up to len bytes of a DOMAIN value from an offset. Of CAN_RX, every answer with status 0 removes the oldest record, whatever part of it
the answer carries (DESIGN CHOICE, log entry 43). -/
def Dev.readDomain (d : Dev) (k off len : Nat) : Answer × Dev :=
  if d.recordBusy k then (.ofStatus 0x0008, d)
  else
    let v := d.damagedBytes k (d.domainValue k)
    let idx := k / 256
    if v.length < off then (.ofStatus 0x0007, d)
    else ({ status := 0, reread := false, stale := false, data := (v.drop off).take len },
          if idx = 0x843 ∨ idx = 0x84B then d.canPop ((idx - 0x843) / 8) else d)

/-- DOMAIN_READ. -/
def Dev.domainRead (d : Dev) (k off len : Nat) : Answer × Dev :=
  if readStatus k ≠ 0 then (.ofStatus (readStatus k), d)
  else if !isDomain k || len = 0 || 4096 < len then (.ofStatus 0x0006, d)
  else d.readDomain k off len

/-- READ. Of a DOMAIN value, it returns the first 4,096 bytes. -/
def Dev.read (d : Dev) (reader k : Nat) : Answer × Dev :=
  match rowOf k with
  | none => (.ofStatus 0x0001, d)
  | some r =>
    if r.rights == .wo then (.ofStatus 0x0002, d)
    else if r.ty.isDomain then d.readDomain k 0 4096
    else match resultCtx k with
      | some c =>
        if !d.hasSet c then (.ofStatus 0x000C, d)
        else (let v := d.scalarBytes k r.ty; v.2.takeSet reader c v.1)
      | none => (let v := d.scalarBytes k r.ty; ({ status := 0, reread := false, stale := false, data := v.1 }, v.2))

/-- The objects of a results window in order (DEDUCED, log entry 40). -/
def windowKeys (c : Nat) : List Nat :=
  ((List.range 16).flatMap (fun i => (List.range 16).map (fun s => (0xA030 + 0x40 * c + i) * 256 + s))).filter (fun k => (rowOf k).isSome)

/-- The bytes of a whole window. -/
def Dev.windowBytes (d : Dev) (c : Nat) : List Byte :=
  (windowKeys c).flatMap (fun k => match rowOf k with
    | some r => (d.scalarBytes k r.ty).1
    | none => [])

/-- READ_WINDOW: INDEX names the first index of a window. -/
def Dev.readWindow (d : Dev) (reader idx : Nat) : Answer × Dev :=
  if idx < 0xA030 ∨ 0xC200 ≤ idx ∨ (idx - 0xA000) % 0x40 ≠ 0x30 then (.ofStatus 0x0001, d)
  else
    let c := (idx - 0xA000) / 0x40
    if !d.hasSet c then (.ofStatus 0x000C, d) else d.takeSet reader c (d.windowBytes c)

/-! ## The host port (R76 to R84) -/

/-- The bytes of the Address phase (R78). -/
def addrBytes (a : HostAddr) : List Byte := beBytes 2 a.index.toNat ++ beBytes 1 a.sub.toNat ++ [a.tag]

/-- The key an address names. -/
def addrKey (a : HostAddr) : Nat := objKey a.index.toNat a.sub.toNat

/-- The bytes of a response: Wait bytes until it is ready, Ready, the 48-bit header, the data, the Response check (R77, R79). The spec
bounds the time alone, so how many Wait bytes pass is a free value (R81) (DESIGN CHOICE, log entry 40). -/
def Answer.bytes (r : Answer) (tag : Byte) (waits : Nat) : List Byte :=
  let b := beBytes 2 r.status ++ [tag] ++ beBytes 1 (2 * b2n r.reread + b2n r.stale) ++ beBytes 2 r.data.length ++ r.data
  List.replicate waits 0 ++ [0xA5] ++ b ++ beBytes 4 (crc32c b)

/-- The response, and the transaction noted as the last one (R79, R83). -/
def Dev.respond (d : Dev) (tag : Byte) (r : Answer) : Dev :=
  (((d.setObj Obj.LAST_HOST_STATUS r.status).setObj Obj.LAST_HOST_TAG tag.toNat).emit
    (.hostResponse r.status tag.toNat r.reread r.stale r.data)).emit (.wire (r.bytes tag (Config.freeValue 77 d.now % 2500)))

/-- A transaction whose Check phase came in full: phases are the bytes from Address to Data. -/
def Dev.transact (d : Dev) (tag : Byte) (phases : List Byte) (check : Check32) (f : Dev → Answer × Dev) : Dev :=
  if !d.hostLive then d
  else if crc32c phases ≠ check.toNat then (d.raise 3 tag.toNat).respond tag (.ofStatus 0x000D)
  else (let r := f d; r.2.respond tag r.1)

/-- A write's status as an answer. -/
def written (r : Nat × Dev) : Answer × Dev := (.ofStatus r.1, r.2)

/-- EVENT_POP: the oldest record; the overflow record takes the space that returns (R98) (DEDUCED, log entry 40; DEDUCED, log entry 41). -/
def Dev.eventPop (d : Dev) (idx : Nat) : Answer × Dev :=
  if idx ≠ 0 then (.ofStatus 0x0001, d)
  else match d.evq.queue with
    | [] => (.ofStatus 0, d)
    | r :: t =>
      let d : Dev := { d with evq := { d.evq with queue := t } }
      let d := if t.isEmpty && d.evq.episode == 0 then d.emit (.evtN true) else d.placeOverflow
      ({ status := 0, reread := false, stale := false, data := recordBytes r }, d)

/-- HOST_CS_RISE: a HOST_MODE that waits takes effect (R76). -/
def Dev.csRise (d : Dev) : Dev :=
  match d.acc.modeReq with
  | none => d
  | some v => if d.hostLive then ({ d with acc := { d.acc with modeReq := none } } : Dev).setObj Obj.HOST_MODE v else d

/-! ## Tally over UDP (R85 to R91) -/

/-- The service is open: an own address, a session key, ports that run (R85). -/
def Dev.udpOpenFor (d : Dev) (p : Peer) : Bool :=
  d.ethRuns && d.obj (Obj.LINK p.eth) != 0 && d.obj Obj.IPV4_ADDRESS != 0 && (List.range 4).any (fun i => !(d.blob (Obj.SESSION_KEY i)).isEmpty)

/-- KIND of a datagram. -/
def udpKind (g : List Byte) : Nat := fieldAt g 3 1

/-- The form of a Tally datagram: size, MAGIC, VERSION, BODY_LENGTH. -/
def udpFormOk (g : List Byte) : Bool :=
  28 ≤ g.length && g.length ≤ 1472 && fieldAt g 0 2 == 0x5459 && fieldAt g 2 1 == 1 && 28 + fieldAt g 10 2 == g.length

/-- The tag of a datagram under a key. -/
def udpTagOk (key g : List Byte) : Bool := g.drop (g.length - 16) == udpTag key (g.take (g.length - 16))

/-- UDP_AUTH_FAIL with the sender's address. -/
def Dev.authFail (d : Dev) (p : Peer) : Dev := d.raise 4 p.ip.toNat

/-- The key a key slot names (R88); none where the slot is unknown or empty. -/
def Dev.slotKey (d : Dev) (slot : Nat) : Option (List Byte) :=
  let k := if slot < 4 then d.blob (Obj.SESSION_KEY slot) else if slot = 16 ∨ slot = 17 then d.blob (Obj.SAFETY_KEY (slot - 16)) else []
  if k.isEmpty then none else some k

/-- A failed OPEN: the sixteenth within 1 s blocks OPEN (R89). -/
def Dev.openFailed (d : Dev) (p : Peer) : Dev :=
  let l := (d.acc.openFails.filter (fun t => decide (d.now < t + 1000000000))) ++ [d.now]
  let full : Bool := decide (16 ≤ l.length)
  ({ d with acc := { d.acc with openFails := if full then [] else l, openBlocked := full, blockedAt := d.now } } : Dev).authFail p

/-- The slot an OPEN takes: the lowest free one, within the limits of R90. -/
def Dev.freeSlot (d : Dev) (safety : Bool) : Option Nat :=
  if safety && (List.range 8).any (fun s => (d.session s).isOpen && (d.session s).safety) then none
  else (List.range 8).find? (fun s => !(d.session s).isOpen)

/-- OPEN_ACK (R88): S and NT, tagged with the slot key (DEDUCED, log entry 42). -/
def Dev.openAck (d : Dev) (p : Peer) (key nt : List Byte) (n : Nat) : Dev :=
  d.sendUdp p.eth p.ip.toNat p.udp.toNat (d.obj Obj.UDP_PORT) (tallyDatagram key 0x81 n 0 (beBytes 2 n ++ nt))

/-- A session opened in a slot (R88, R90, R93) (DEDUCED, log entry 42). -/
def Dev.openSlot (d : Dev) (p : Peer) (safety : Bool) (ks : List Byte) (s : Nat) : Dev :=
  let x : Session := { isOpen := true, safety := safety, ip := p.ip.toNat, port := p.udp.toNat, eth := p.eth, key := ks, seqRx := 0, seqTx := 0,
                       lastValidAt := d.now }
  let d := d.updSession s (fun _ => x)
  let d := (d.setObj (Obj.SESSION_STATE s) (if safety then 2 else 1)).setObj (Obj.SESSION_PEER s) (p.ip.toNat * 65536 + p.udp.toNat)
  let d := forN 8 (fun i d => d.setObj (Obj.SESSION_EVENT_MASK s i) 0) d
  { d with acc := { d.acc with seen := d.acc.seen.filter (fun e => e.1 / 136 != 1 + s) } }

/-- A good OPEN. The Thoek's nonce is a free value. -/
def Dev.openGood (d : Dev) (p : Peer) (slot : Nat) (key nc : List Byte) : Dev :=
  let x := d.draw 88
  let nt := beBytes 16 x.1
  let d := x.2
  match d.freeSlot (16 ≤ slot) with
  | none => d.openAck p key nt 0
  | some s =>
    let ks := hmacSha256 key ([0x54, 0x41, 0x4C, 0x4C, 0x59] ++ nc ++ nt ++ beBytes 2 (s + 1))
    (d.openSlot p (16 ≤ slot) ks s).openAck p key nt (s + 1)

/-- A received Tally datagram passes through the pool's channel 3; without buffers it is dropped (R218, R219). -/
def Dev.udpIn (d : Dev) (g : List Byte) (f : Dev → Dev) : Dev :=
  match d.poolPass 3 (g.length + 42) with
  | none => d.poolDrop 3
  | some d => f d

/-- OPEN. One that is malformed, or names an unknown or empty slot, counts as failed like one whose tag does not verify (DESIGN CHOICE,
log entry 42). -/
def Dev.udpOpen (d : Dev) (p : Peer) (g : List Byte) : Dev :=
  if !d.udpOpenFor p || d.acc.openBlocked || 1472 < g.length then d
  else d.udpIn g fun d =>
    let slot := fieldAt g 12 1
    match d.slotKey slot with
    | none => d.openFailed p
    | some key =>
      if udpFormOk g && fieldAt g 10 2 == 17 && fieldAt g 4 2 == 0 && udpTagOk key g then d.openGood p slot key ((g.drop 13).take 16)
      else d.openFailed p

/-- A datagram of an open session from its peer, with a good tag and a new SEQUENCE: the slot. -/
def Dev.udpValid (d : Dev) (p : Peer) (g : List Byte) : Option Nat :=
  let n := fieldAt g 4 2
  let x := d.session (n - 1)
  if udpFormOk g && n != 0 && n ≤ 8 && x.isOpen && x.ip == p.ip.toNat && x.port == p.udp.toNat && udpTagOk x.key g && decide (x.seqRx < fieldAt g 6 4)
  then some (n - 1) else none

/-- The session's datagram accepted (DEDUCED, log entry 42). -/
def Dev.udpTake (d : Dev) (s : Nat) (g : List Byte) : Dev := d.updSession s (fun x => { x with seqRx := fieldAt g 6 4, lastValidAt := d.now })

/-- One operation of a request body (R87) (DEDUCED, log entry 42). -/
def Dev.udpOp (d : Dev) (s : Fin 8) (op idx sub : Nat) (data : List Byte) : Answer × Dev :=
  let k := objKey idx sub
  match op with
  | 0x03 => d.read (1 + s) k
  | 0x02 => written (d.offer (.session s) k data)
  | 0x12 => if data.length < 10 then (.ofStatus 0x0006, d.rejectWrite k 0x0006) else written (d.offerTimed (.session s) k (fieldAt data 0 10) (data.drop 10))
  | 0x0D => d.readWindow (1 + s) idx
  | 0x23 => if data.length < 4 then (.ofStatus 0x0006, d) else d.domainRead k (fieldAt data 0 4) 4096
  | 0x22 =>
    if data.length < 4 then (.ofStatus 0x0006, d.rejectWrite k 0x0006)
    else if isDomain k || readStatus k == 1 then written (d.segment (.session s) k (fieldAt data 0 4) (data.drop 4))
    else (.ofStatus 0x0006, d.rejectWrite k 0x0006)
  | _ => (.ofStatus 0x0001, d)

/-- An operation's response header and data. -/
def opResponse (op tag : Nat) (r : Answer) : List Byte :=
  let out := if r.status = 0 then r.data else []
  beBytes 1 op ++ beBytes 1 tag ++ beBytes 2 r.status ++ beBytes 1 (b2n r.stale + 2 * b2n r.reread) ++ [0] ++ beBytes 2 out.length ++ out

/-- The operations of a body in order; fuel bounds their number (DEDUCED, log entry 42). The reserved byte of a header is ignored (R11)
(DESIGN CHOICE, log entry 42). -/
def udpOps (s : Fin 8) : Nat → List Byte → List Byte × Dev → List Byte × Dev
  | 0, _, acc => acc
  | n + 1, body, acc =>
    let len := fieldAt body 6 2
    if body.length < 8 + len then acc
    else
      let op := fieldAt body 0 1
      let r := acc.2.udpOp s op (fieldAt body 2 2) (fieldAt body 4 1) ((body.drop 8).take len)
      udpOps s n (body.drop (8 + len)) (acc.1 ++ opResponse op (fieldAt body 1 1) r.1, r.2)

/-- A request: its operations, then one response. A datagram that belongs to no open session raises UDP_AUTH_FAIL (DESIGN CHOICE,
log entry 42). -/
def Dev.udpRequest (d : Dev) (p : Peer) (g : List Byte) : Dev :=
  if !d.udpOpenFor p || 1472 < g.length then d
  else d.udpIn g fun d => match d.udpValid p g with
    | none => d.authFail p
    | some s =>
      let d := d.udpTake s g
      if udpKind g ≠ 1 then d
      else
        let r := udpOps (Fin.ofNat 8 s) 184 ((g.drop 12).take (fieldAt g 10 2)) ([], d)
        r.2.sendSession s 2 r.1

/-- CLOSE. -/
def Dev.udpClose (d : Dev) (p : Peer) (g : List Byte) : Dev :=
  if !d.udpOpenFor p || 1472 < g.length then d
  else d.udpIn g fun d => match d.udpValid p g with
    | none => d.authFail p
    | some s => (d.udpTake s g).endSession s

/-- SESSION_TIMEOUT. -/
def Dev.sessionTimeout (d : Dev) (s : Nat) : Dev :=
  if (d.session s).isOpen && decide ((d.session s).lastValidAt + d.obj Obj.SESSION_TIMEOUT * 1000000000 ≤ d.now) then d.endSession s else d

/-- UDP_OPEN_BLOCK_END. -/
def Dev.openBlockEnd (d : Dev) : Dev :=
  if d.acc.openBlocked && decide (d.acc.blockedAt + 10000000000 ≤ d.now) then { d with acc := { d.acc with openBlocked := false } } else d

/-! ## CAN FD (R92, R94) -/

/-- The port takes part in its bus (DEDUCED, log entry 43). -/
def Dev.canLive (d : Dev) (p : Nat) : Bool := d.objB (Obj.CAN_ENABLE p) && d.hostLive && !(d.canPort p).busOff

/-- CAN_STATUS shown. -/
def Dev.showCan (d : Dev) (p : Nat) : Dev :=
  let q := d.canPort p
  let st := if q.busOff then 2 else if 127 < q.txErr || 127 < q.rxErr then 1 else 0
  d.setObj (Obj.CAN_STATUS p) (st * 2 ^ 24 + min q.rxErr 255 * 256 + min q.txErr 255)

/-- A port changed, its status shown. -/
def Dev.updCan (d : Dev) (p : Nat) (f : CanPort → CanPort) : Dev := ({ d with can := upd f d.can p } : Dev).showCan p

/-- A filter passes a frame. -/
def filterPasses (v : Nat) (f : CanFrame) : Bool :=
  bit v 63 && bit v 62 == f.ext && (bits v 60 32 ^^^ f.id.toNat) &&& bits v 28 0 == 0

/-- A frame received; one with an error on the bus, or in the FD format at a port set for classical frames, is only counted in the receive
error counter (R94) (DEDUCED, log entry 43). -/
def Dev.canRx (d : Dev) (p : Nat) (f : CanFrame) (ok : Bool) (off : Nat) : Dev :=
  if !d.canLive p then d
  else if !ok || (f.fd && d.obj (Obj.DATA_RATE p) == 0) then d.updCan p (fun q => { q with rxErr := min 255 (q.rxErr + 1) })
  else
    let d := d.updCan p (fun q => { q with rxErr := if 127 < q.rxErr then 119 else q.rxErr - 1 })
    let n := buffersOf (f.data.length + 15)
    if d.canIsSafe p f.ext f.id.toNat then d.safeRx (.can (Fin.ofNat 2 p) f.ext f.id) f.data off
    else if !(List.range 32).any (fun i => filterPasses (d.obj (Obj.RX_FILTER p i)) f) then d
    else match d.poolTake (4 + p) (f.data.length + 15) with
      | none => (d.poolDrop (4 + p)).bump (Obj.RX_DROPPED p)
      | some d => if n = 0 then d else { d with can := upd (fun (q : CanPort) => { q with rxq := q.rxq ++ [(f, d.time80 off)] }) d.can p }

/-- The frame at the head of the queue starts again (DEDUCED, log entry 43). -/
def Dev.canStart (d : Dev) (p : Nat) : Dev :=
  match (d.canPort p).txq with
  | [] => d
  | f :: _ => d.emit (.can p f)

/-- A frame's transmission ends, with the error counter of ISO 11898-1. A frame that failed is sent again (DEDUCED, log entry 43). -/
def Dev.canSent (d : Dev) (p : Nat) (ok : Bool) : Dev :=
  if !d.canLive p || (d.canPort p).txq.isEmpty then d
  else if ok then (d.updCan p (fun q => { q with txq := q.txq.drop 1, txErr := q.txErr - 1 })).canStart p
  else
    let d := d.updCan p (fun q => { q with txErr := q.txErr + 8, busOff := decide (255 < q.txErr + 8) })
    if (d.canPort p).busOff then d else d.canStart p

/-- CAN_BUS_OFF_RECOVERY: the port resumes with its counters at 0 (DEDUCED, log entry 43). -/
def Dev.canRecover (d : Dev) (p : Nat) : Dev :=
  if !(d.canPort p).busOff then d else (d.updCan p (fun q => { q with busOff := false, txErr := 0, rxErr := 0 })).canStart p

/-- The form of a frame on the bus. -/
def canFormOk (f : CanFrame) : Bool :=
  (f.data.length ≤ 8 || (f.fd && [12, 16, 20, 24, 32, 48, 64].contains f.data.length)) && (f.ext || f.id.toNat < 2048) && (f.fd || !f.brs)

/-! ## Meanings -/

/-- A host transaction as a command. -/
def State.host (s : State) (tag : Byte) (phases : List Byte) (check : Check32) (f : Dev → Answer × Dev) : Res :=
  s.onDevH (fun d => d.transact tag phases check f)

/-- READ. -/
def execRead (a : HostAddr) (check : Check32) (s : State) : Res := s.host a.tag (addrBytes a) check (fun d => d.read 0 (addrKey a))

/-- WRITE. -/
def execWrite (a : HostAddr) (data : List Byte) (check : Check32) (s : State) : Res :=
  guardForm (data.length < 65536)
    (s.host a.tag ((addrBytes a) ++ beBytes 2 data.length ++ data) check (fun d => written (d.offer .host (addrKey a) data)))

/-- WRITE_TIMED. -/
def execWriteTimed (a : HostAddr) (instant : BitVec 80) (data : List Byte) (check : Check32) (s : State) : Res :=
  guardForm (data.length < 65536)
    (s.host a.tag ((addrBytes a) ++ beBytes 2 data.length ++ beBytes 10 instant.toNat ++ data) check
      (fun d => written (d.offerTimed .host (addrKey a) instant.toNat data)))

/-- READ_WINDOW. -/
def execReadWindow (a : HostAddr) (check : Check32) (s : State) : Res := s.host a.tag (addrBytes a) check (fun d => d.readWindow 0 a.index.toNat)

/-- DOMAIN_READ (DEDUCED, log entry 39). -/
def execDomainRead (a : HostAddr) (len : BitVec 16) (offset : BitVec 32) (check : Check32) (s : State) : Res :=
  s.host a.tag ((addrBytes a) ++ beBytes 2 len.toNat ++ beBytes 4 offset.toNat) check (fun d => d.domainRead (addrKey a) offset.toNat len.toNat)

/-- DOMAIN_WRITE (DEDUCED, log entry 39). -/
def execDomainWrite (a : HostAddr) (offset : BitVec 32) (data : List Byte) (check : Check32) (s : State) : Res :=
  guardForm (data.length < 65536)
    (s.host a.tag ((addrBytes a) ++ beBytes 2 data.length ++ beBytes 4 offset.toNat ++ data) check
      (fun d => if isDomain (addrKey a) || readStatus (addrKey a) == 1 then written (d.segment .host (addrKey a) offset.toNat data)
        else (.ofStatus 0x0006, d.rejectWrite (addrKey a) 0x0006)))

/-- EVENT_POP. -/
def execEventPop (a : HostAddr) (check : Check32) (s : State) : Res := s.host a.tag (addrBytes a) check (fun d => d.eventPop a.index.toNat)

/-- UNKNOWN_OPCODE: an opcode R80 does not list. -/
def execUnknownOpcode (opcode : Byte) (a : HostAddr) (check : Check32) (s : State) : Res :=
  guardForm (! [0x03, 0x02, 0x12, 0x0D, 0x23, 0x22, 0x1E].contains opcode.toNat)
    (s.host a.tag (addrBytes a) check (fun d => (.ofStatus 0x0001, d)))

/-- HOST_CS_RISE. -/
def execHostCsRise (s : State) : Res := s.onDev Dev.csRise

/-- UDP_OPEN. -/
def execUdpOpen (peer : Peer) (datagram : List Byte) (s : State) : Res :=
  guardForm (udpKind datagram == 0x80) (s.onDev (fun d => d.udpOpen peer datagram))

/-- UDP_REQUEST: any datagram that is no OPEN and no CLOSE. -/
def execUdpRequest (peer : Peer) (datagram : List Byte) (s : State) : Res :=
  guardForm (udpKind datagram != 0x80 && udpKind datagram != 0x82) (s.onDevH (fun d => d.udpRequest peer datagram))

/-- UDP_CLOSE. -/
def execUdpClose (peer : Peer) (datagram : List Byte) (s : State) : Res :=
  guardForm (udpKind datagram == 0x82) (s.onDev (fun d => d.udpClose peer datagram))

/-- SESSION_TIMEOUT. -/
def execSessionTimeout (slot : Fin 8) (s : State) : Res := s.onDev (fun d => d.sessionTimeout slot)

/-- UDP_OPEN_BLOCK_END. -/
def execUdpOpenBlockEnd (s : State) : Res := s.onDev Dev.openBlockEnd

/-- CAN_FRAME_RX. -/
def execCanFrameRx (port : Fin 2) (frame : CanArrival) (off : Fin 125) (s : State) : Res :=
  guardForm (canFormOk frame.frame) (s.onDev (fun d => d.canRx port frame.frame frame.ok off))

/-- CAN_RX: a read of CAN_RX from a source, which gets the record and removes it. -/
def execCanRx (src : Src) (port : Fin 2) (s : State) : Res :=
  s.onDev (fun d => if d.reaches src then (let r := d.readDomain (Obj.CAN_RX port) 0 4096; r.2.emit (.canRecord src r.1.data)) else d)

/-- CAN_FRAME_TX. -/
def execCanFrameTx (port : Fin 2) (ok : Bool) (s : State) : Res := s.onDev (fun d => d.canSent port ok)

/-- CAN_BUS_OFF_RECOVERY. -/
def execCanBusOffRecovery (port : Fin 2) (s : State) : Res := s.onDev (fun d => d.canRecover port)

end Sys2Proof.Machine
end

