-- ==== Sys2Proof/Machine/Commands.lean ====
section
/-! DEFINITION. Machine/Commands.lean: the commands that are writes of one command object, each through the Tally engine's own checks
(R47, R50, R65), and the events that several chapters share. -/

namespace Sys2Proof.Machine

/-! ## Writes of one object -/

/-- A number written to an object by a source. -/
def State.command (s : State) (src : Src) (k v : Nat) : Res := s.write src k (beBytes (objSize k) v)

/-! ## Events shared by chapters -/

/-- An uplink block at the head: the ring engine's check, its records to their folds, its safe slot to the island (R195, R197, R230); a
position only passes it through (R516). -/
def Dev.uplinkBlock (d : Dev) (r : Fin 2) (b : UplinkBlock) (off : Nat) : Dev :=
  if !d.isHead then d else
  let c := d.uplinkCheck r off b
  if c.2 then
    let d := c.1.intake r off b
    match b.safe with
    | some p => d.safeRx (.ring r b.position) p off
    | none => d
  else if !c.1.ringOpen r then c.1
  else if c.1.cyc.dispatched then c.1.lateBlock r b.position.toNat
  else c.1.refuseBlock r b.position.toNat

/-- A message frame that is taken: checked, for this unit, with buffers left (R202, R219). -/
def Dev.messageGood (d : Dev) (r : Nat) (m : RingMessage) : Bool :=
  d.ringOpen r && crc32 (messageBytes m) == m.crc.toNat && (m.dest == 0 || m.dest == 0xFF) && m.payload.length ≤ 1024
    && d.poolFits r (buffersOf (m.payload.length + 12))

/-- A message frame: at the head it is delivered, and a FIRE message goes to the acquisition engine; any other unit answers as a
position (R203, R494, R543). -/
def Dev.messageIn (d : Dev) (r port : Nat) (m : RingMessage) : Dev :=
  if d.isHead then
    let e := d.messageRx r port m
    if d.messageGood r m && m.msgType == 7 then e.acqFire m else e
  else if d.ringOpen r && crc32 (messageBytes m) == m.crc.toNat then d.positionRx r port m
  else d

/-- The trip of the fast channels: the legs, and the grid-former whose slots they carry (R389, R422). -/
def Dev.fastChannelTrip (d : Dev) : Dev :=
  let r := d.fastTrip
  if r.2.any (fun n => (r.1.slotOf n).isSome) then r.1.gfTrip 8 else r.1

/-- The clock period of the next SDCLK edge, counted from the first PLL-T lock (R136). -/
def Dev.nextSdclk (d : Dev) : Nat := (d.tb.sdLast / d.obj Obj.SDCLK_DIV + 1) * d.obj Obj.SDCLK_DIV

/-- An SDCLK edge: one bit of every sense port, the fast-rate recorders and trigger units (R420, R526). The edges of a head fall at every
SDCLK_DIV-th clock period; one before its period has no effect (R136) (DEDUCED, log entry 76). A standby takes those at its pins (R516). -/
def Dev.sdclkEdge (d : Dev) (v off : Nat) : Dev :=
  if d.isHead && decide (d.tb.periods + off < d.nextSdclk) then d
  else
    let d := { d with tb := { d.tb with sdLast := d.nextSdclk } }
    let d := if d.legActive then d.emit (.sdclk d.tb.sdLast (d.obj Obj.SDCLK_DIV / 2)) else d
    (d.senseEdge v).acqEdge (d.timeNs off)

/-- The form of an uplink block: at most four records, a safe slot of 48 bytes (R188). -/
def blockFormOk (b : UplinkBlock) : Bool :=
  b.records.length ≤ 4 && (match b.safe with
    | some p => p.length == 48
    | none => true)

/-! ## Meanings -/

/-- STATE_REQUEST_CONFIG. -/
def execStateRequestConfig (src : Src) (s : State) : Res := s.command src Obj.STATE_REQUEST 1

/-- STATE_REQUEST_READY. -/
def execStateRequestReady (src : Src) (s : State) : Res := s.command src Obj.STATE_REQUEST 2

/-- STATE_REQUEST_RUN. -/
def execStateRequestRun (src : Src) (s : State) : Res := s.command src Obj.STATE_REQUEST 3

/-- STATE_REQUEST_SERVICE. -/
def execStateRequestService (src : Src) (s : State) : Res := s.command src Obj.STATE_REQUEST 4

/-- HOST_MODE. -/
def execHostMode (src : Src) (mode : Byte) (s : State) : Res := s.command src Obj.HOST_MODE mode.toNat

/-- SAVE. -/
def execSave (src : Src) (s : State) : Res := s.command src Obj.SAVE 0x73617665

/-- RESTORE. -/
def execRestore (src : Src) (s : State) : Res := s.command src Obj.RESTORE 0x6C6F6164

/-- HURDLE. -/
def execHurdle (src : Src) (number : BitVec 16) (s : State) : Res := s.command src Obj.HURDLE number.toNat

/-- SAFETY_COMMIT. -/
def execSafetyCommit (src : Src) (crc : Check32) (s : State) : Res := s.command src Obj.SAFETY_COMMIT crc.toNat

/-- EVENT_LATCH_CLEAR. -/
def execEventLatchClear (src : Src) (sub : Fin 8) (mask : BitVec 32) (s : State) : Res := s.command src (Obj.EVENT_LATCH sub) mask.toNat

/-- PLLT_STEP. -/
def execPlltStep (src : Src) (ppb : BitVec 32) (s : State) : Res := s.command src Obj.PLLT_STEP ppb.toNat

/-- PLLT_RELOCK. -/
def execPlltRelock (src : Src) (s : State) : Res := s.command src Obj.PLLT_RELOCK 1

/-- PLLT_PRESCALE. -/
def execPlltPrescale (src : Src) (code : Byte) (s : State) : Res := s.command src Obj.PLLT_PRESCALE code.toNat

/-- COUNTER_SLEW. -/
def execCounterSlew (src : Src) (slew : BitVec 16) (s : State) : Res := s.command src Obj.COUNTER_SLEW slew.toNat

/-- TIME_SET. -/
def execTimeSet (src : Src) (time : BitVec 80) (s : State) : Res := s.command src Obj.TIME_SET time.toNat

/-- HEAL_REQUEST. -/
def execHealRequest (src : Src) (rings : Byte) (s : State) : Res := s.command src Obj.HEAL_REQUEST rings.toNat

/-- AXIS_ENABLE. -/
def execAxisEnable (src : Src) (axis : Fin 128) (s : State) : Res := s.command src (Obj.AXIS_COMMAND axis) 1

/-- AXIS_DISABLE. -/
def execAxisDisable (src : Src) (axis : Fin 128) (s : State) : Res := s.command src (Obj.AXIS_COMMAND axis) 2

/-- CLEAR_FAULT. -/
def execClearFault (src : Src) (axis : Fin 128) (s : State) : Res := s.command src (Obj.AXIS_COMMAND axis) 3

/-- DOMAIN_COMMIT. -/
def execDomainCommit (src : Src) (domain : Fin 255) (s : State) : Res := s.command src (Obj.DOMAIN_COMMIT domain) 1

/-- RC_CLEAR. -/
def execRcClear (src : Src) (axis : Fin 128) (s : State) : Res := s.command src (Obj.RC_CLEAR axis) 1

/-- MOVE_ABSOLUTE. -/
def execMoveAbsolute (src : Src) (axis : Fin 128) (s : State) : Res := s.command src (Obj.PROFILE_COMMAND axis) 1

/-- MOVE_RELATIVE. -/
def execMoveRelative (src : Src) (axis : Fin 128) (s : State) : Res := s.command src (Obj.PROFILE_COMMAND axis) 2

/-- VELOCITY. -/
def execVelocity (src : Src) (axis : Fin 128) (s : State) : Res := s.command src (Obj.PROFILE_COMMAND axis) 3

/-- STOP. -/
def execStop (src : Src) (axis : Fin 128) (s : State) : Res := s.command src (Obj.PROFILE_COMMAND axis) 4

/-- GEAR_ENGAGE. -/
def execGearEngage (src : Src) (axis : Fin 128) (s : State) : Res := s.command src (Obj.PROFILE_COMMAND axis) 5

/-- HOME. -/
def execHome (src : Src) (axis : Fin 128) (s : State) : Res := s.command src (Obj.PROFILE_COMMAND axis) 6

/-- HOME_CLEAR. -/
def execHomeClear (src : Src) (axis : Fin 128) (s : State) : Res := s.command src (Obj.PROFILE_COMMAND axis) 7

/-- STAGE_ARM. -/
def execStageArm (src : Src) (axis : Fin 128) (s : State) : Res := s.command src (Obj.STAGE_ARM axis) 1

/-- BLACK_START. -/
def execBlackStart (src : Src) (s : State) : Res := s.command src Obj.GF_COMMAND 1

/-- START_ON_LIVE. -/
def execStartOnLive (src : Src) (s : State) : Res := s.command src Obj.GF_COMMAND 2

/-- SYNC. -/
def execSync (src : Src) (s : State) : Res := s.command src Obj.GF_COMMAND 3

/-- CANCEL_SYNC. -/
def execCancelSync (src : Src) (s : State) : Res := s.command src Obj.GF_COMMAND 4

/-- GF_STOP. -/
def execGfStop (src : Src) (s : State) : Res := s.command src Obj.GF_COMMAND 5

/-- CLEAR_TRIP. -/
def execClearTrip (src : Src) (s : State) : Res := s.command src Obj.GF_COMMAND 6

/-- GF_TIE. -/
def execGfTie (src : Src) (closed : Bool) (s : State) : Res := s.command src Obj.GF_TIE (b2n closed)

/-- GF_RC_CLEAR. -/
def execGfRcClear (src : Src) (s : State) : Res := s.command src Obj.GF_RC_CLEAR 1

/-- LEG_ENABLE. -/
def execLegEnable (src : Src) (port : Fin 20) (s : State) : Res := s.command src (Obj.LEG_COMMAND port) 1

/-- LEG_DISABLE. -/
def execLegDisable (src : Src) (port : Fin 20) (s : State) : Res := s.command src (Obj.LEG_COMMAND port) 2

/-- LEG_SELFTEST. -/
def execLegSelftest (src : Src) (port : Fin 20) (s : State) : Res := s.command src (Obj.LEG_COMMAND port) 3

/-- LEG_RESTART. -/
def execLegRestart (src : Src) (port : Fin 20) (s : State) : Res := s.command src (Obj.LEG_COMMAND port) 4

/-- SELFTEST_COMMAND. -/
def execSelftestCommand (src : Src) (value : Byte) (s : State) : Res := s.command src Obj.SELFTEST_COMMAND value.toNat

/-- RESUME. -/
def execResume (src : Src) (s : State) : Res := s.command src Obj.REDUNDANCY_COMMAND 1

/-- HANDOVER. -/
def execHandover (src : Src) (s : State) : Res := s.command src Obj.REDUNDANCY_COMMAND 2

/-- REJOIN. -/
def execRejoin (src : Src) (s : State) : Res := s.command src Obj.REDUNDANCY_COMMAND 3

/-- ARM. -/
def execArm (src : Src) (recorder : Fin 4) (s : State) : Res := s.command src (Obj.REC_COMMAND recorder) 1

/-- DISARM. -/
def execDisarm (src : Src) (recorder : Fin 4) (s : State) : Res := s.command src (Obj.REC_COMMAND recorder) 2

/-- FORCE. -/
def execForce (src : Src) (recorder : Fin 4) (s : State) : Res := s.command src (Obj.REC_COMMAND recorder) 3

/-- SEAL. -/
def execSeal (src : Src) (recorder : Fin 4) (s : State) : Res := s.command src (Obj.REC_COMMAND recorder) 4

/-- RELEASE. -/
def execRelease (src : Src) (recorder : Fin 4) (s : State) : Res := s.command src (Obj.REC_COMMAND recorder) 5

/-- SYNC_FIRE. -/
def execSyncFire (src : Src) (time : BitVec 80) (s : State) : Res := s.command src Obj.SYNC_FIRE time.toNat

/-- ERASE_SEALED. -/
def execEraseSealed (src : Src) (value : BitVec 32) (s : State) : Res := s.command src Obj.ERASE_SEALED value.toNat

/-- FUSE_COMMAND. -/
def execFuseCommand (src : Src) (value : BitVec 32) (s : State) : Res := s.command src Obj.FUSE_COMMAND value.toNat

/-- TEST_SPLIT_WRITE. -/
def execTestSplitWrite (src : Src) (s : State) : Res := s.command src Obj.TEST_COMMAND 1

/-- TEST_RAW_READ. -/
def execTestRawRead (src : Src) (s : State) : Res := s.command src Obj.TEST_COMMAND 2

/-- TEST_CHECKED_READ. -/
def execTestCheckedRead (src : Src) (s : State) : Res := s.command src Obj.TEST_COMMAND 3

/-- RETIRE_CLEAR. -/
def execRetireClear (src : Src) (fold lane : Fin 8) (s : State) : Res := s.command src Obj.RETIRE_CLEAR (8 * fold.val + lane.val)

/-- OBJECT_WRITE: any write of a source. -/
def execObjectWrite (src : Src) (index : BitVec 16) (sub : Byte) (data : List Byte) (s : State) : Res :=
  s.write src (objKey index.toNat sub.toNat) data

/-- CAN_TX: one frame record written to the mailbox (R94). -/
def execCanTx (src : Src) (port : Fin 2) (record : List Byte) (s : State) : Res :=
  s.onDevH (fun d => if d.reaches src then (d.segment src (Obj.CAN_TX port) 0 record).2 else d)

/-- SAVE_DONE. -/
def execSaveDone (ok : Bool) (s : State) : Res := s.onDev (fun d => d.saveDone ok)

/-- RESTORE_DONE. -/
def execRestoreDone (s : State) : Res := s.onDev Dev.restoreDone

/-- QUEUE_OVERFLOW. -/
def execQueueOverflow (s : State) : Res := s.onDev Dev.placeOverflow

/-! ## The time base under its service -/

/-- PROFILE_TICK: every generator and output; a small step that waits may start a relock (R118, R325). -/
def execProfileTick (s : State) : Res := s.onDevH Dev.profileTick

/-- PTP_DELAY_RESP_RX. -/
def execPtpDelayRespRx (port : Fin 2) (h : PtpHdr) (received : BitVec 80) (reqIdentity : BitVec 64) (reqPort : BitVec 16)
    (s : State) : Res :=
  s.onDevH (fun d => d.delayRespRx port h received.toNat reqIdentity.toNat reqPort.toNat)

/-- PTP_MASTER_LOST. -/
def execPtpMasterLost (s : State) : Res := s.onDevH Dev.masterLost

/-- UPLINK_BLOCK_RX. -/
def execUplinkBlockRx (ring : Fin 2) (block : UplinkBlock) (off : Fin 125) (s : State) : Res :=
  guardForm (blockFormOk block) (s.onDevH (fun d => d.uplinkBlock ring block off))

/-- MESSAGE_FRAME_RX. -/
def execMessageFrameRx (ring : Fin 2) (port : Fin 2) (msg : RingMessage) (s : State) : Res := s.onDev (fun d => d.messageIn ring port msg)

/-- ACQ_FIRE_RX: a message of type 0x07. -/
def execAcqFireRx (ring : Fin 2) (msg : RingMessage) (s : State) : Res :=
  guardForm (msg.msgType == 7) (s.onDev (fun d => d.messageIn ring 0 msg))

/-- FAST_CHANNEL_TRIP. -/
def execFastChannelTrip (s : State) : Res := s.onDev Dev.fastChannelTrip

/-- SDCLK_EDGE. -/
def execSdclkEdge (bits : BitVec 12) (off : Fin 125) (s : State) : Res := s.onDev (fun d => d.sdclkEdge bits.toNat off)

/-- SCRUB_READ. -/
def execScrubRead (region : Fin 5) (mac : Byte) (offset : BitVec 15) (upset : BitVec 13) (s : State) : Res :=
  s.onBothH (fun x => scrubRead x region mac.toNat offset.toNat upset.toNat)

/-- LANE_MEASURE. -/
def execLaneMeasure (fold lane : Fin 8) (time corner : BitVec 16) (sound : Bool) (s : State) : Res :=
  s.onDevH (fun d => d.laneMeasure fold lane time.toNat corner.toNat sound)

end Sys2Proof.Machine
end

