-- ==== Sys2Proof/Machine/Dispatch.lean ====
section
/-! DEFINITION. Machine/Dispatch.lean: one arm per command, each a direct call of its meaning. -/

namespace Sys2Proof.Machine

def exec (i : Instr) (s : State) : Host.Outcome State Fault Refusal :=
  match i with
  | .powerUp rails => Sys2Proof.Machine.execPowerUp rails s
  | .powerLoss rails => Sys2Proof.Machine.execPowerLoss rails s
  | .resetNAssert => Sys2Proof.Machine.execResetNAssert s
  | .bootStart => Sys2Proof.Machine.execBootStart s
  | .cycleBoundary => Sys2Proof.Machine.execCycleBoundary s
  | .dispatchDeadline => Sys2Proof.Machine.execDispatchDeadline s
  | .stateRequestConfig src => Sys2Proof.Machine.execStateRequestConfig src s
  | .stateRequestReady src => Sys2Proof.Machine.execStateRequestReady src s
  | .stateRequestRun src => Sys2Proof.Machine.execStateRequestRun src s
  | .stateRequestService src => Sys2Proof.Machine.execStateRequestService src s
  | .vcoreOutOfRange => Sys2Proof.Machine.execVcoreOutOfRange s
  | .transportHandshakeTimeout => Sys2Proof.Machine.execTransportHandshakeTimeout s
  | .safeHoldStoStep => Sys2Proof.Machine.execSafeHoldStoStep s
  | .read a check => Sys2Proof.Machine.execRead a check s
  | .write a data check => Sys2Proof.Machine.execWrite a data check s
  | .writeTimed a instant data check => Sys2Proof.Machine.execWriteTimed a instant data check s
  | .readWindow a check => Sys2Proof.Machine.execReadWindow a check s
  | .domainRead a len offset check => Sys2Proof.Machine.execDomainRead a len offset check s
  | .domainWrite a offset data check => Sys2Proof.Machine.execDomainWrite a offset data check s
  | .eventPop a check => Sys2Proof.Machine.execEventPop a check s
  | .unknownOpcode opcode a check => Sys2Proof.Machine.execUnknownOpcode opcode a check s
  | .hostCsRise => Sys2Proof.Machine.execHostCsRise s
  | .hostMode src mode => Sys2Proof.Machine.execHostMode src mode s
  | .objectWrite src index sub data => Sys2Proof.Machine.execObjectWrite src index sub data s
  | .save src => Sys2Proof.Machine.execSave src s
  | .saveDone ok => Sys2Proof.Machine.execSaveDone ok s
  | .restore src => Sys2Proof.Machine.execRestore src s
  | .restoreDone => Sys2Proof.Machine.execRestoreDone s
  | .hurdle src number => Sys2Proof.Machine.execHurdle src number s
  | .safetyCommit src crc => Sys2Proof.Machine.execSafetyCommit src crc s
  | .eventLatchClear src sub mask => Sys2Proof.Machine.execEventLatchClear src sub mask s
  | .queueOverflow => Sys2Proof.Machine.execQueueOverflow s
  | .udpOpen peer datagram => Sys2Proof.Machine.execUdpOpen peer datagram s
  | .udpRequest peer datagram => Sys2Proof.Machine.execUdpRequest peer datagram s
  | .udpClose peer datagram => Sys2Proof.Machine.execUdpClose peer datagram s
  | .sessionTimeout slot => Sys2Proof.Machine.execSessionTimeout slot s
  | .udpOpenBlockEnd => Sys2Proof.Machine.execUdpOpenBlockEnd s
  | .arpRequest eth target senderIp senderMac => Sys2Proof.Machine.execArpRequest eth target senderIp senderMac s
  | .canTx src port record => Sys2Proof.Machine.execCanTx src port record s
  | .canFrameRx port frame off => Sys2Proof.Machine.execCanFrameRx port frame off s
  | .canRx src port => Sys2Proof.Machine.execCanRx src port s
  | .canBusOffRecovery port => Sys2Proof.Machine.execCanBusOffRecovery port s
  | .refQualified input diff phaseT phaseS => Sys2Proof.Machine.execRefQualified input diff phaseT phaseS s
  | .refLoss input diff phaseT phaseS => Sys2Proof.Machine.execRefLoss input diff phaseT phaseS s
  | .bandSearchDone pll band => Sys2Proof.Machine.execBandSearchDone pll band s
  | .plltLock => Sys2Proof.Machine.execPlltLock s
  | .plltUnlock => Sys2Proof.Machine.execPlltUnlock s
  | .pllsLock => Sys2Proof.Machine.execPllsLock s
  | .pllsUnlock => Sys2Proof.Machine.execPllsUnlock s
  | .clamp pll periods => Sys2Proof.Machine.execClamp pll periods s
  | .plltStep src ppb => Sys2Proof.Machine.execPlltStep src ppb s
  | .plltRelock src => Sys2Proof.Machine.execPlltRelock src s
  | .plltPrescale src code => Sys2Proof.Machine.execPlltPrescale src code s
  | .counterSlew src slew => Sys2Proof.Machine.execCounterSlew src slew s
  | .timeSet src time => Sys2Proof.Machine.execTimeSet src time s
  | .timeStep => Sys2Proof.Machine.execTimeStep s
  | .safetyTick chS chC rbA rbB differ => Sys2Proof.Machine.execSafetyTick chS chC rbA rbB differ s
  | .profileTick => Sys2Proof.Machine.execProfileTick s
  | .ethFrameRx port frame fcsOk off => Sys2Proof.Machine.execEthFrameRx port frame fcsOk off s
  | .ethEgressTx port off => Sys2Proof.Machine.execEthEgressTx port off s
  | .ethLink port report => Sys2Proof.Machine.execEthLink port report s
  | .ptpSyncRx port h twoStep origin off => Sys2Proof.Machine.execPtpSyncRx port h twoStep origin off s
  | .ptpFollowUpRx port h origin => Sys2Proof.Machine.execPtpFollowUpRx port h origin s
  | .ptpDelayRespRx port h received reqIdentity reqPort => Sys2Proof.Machine.execPtpDelayRespRx port h received reqIdentity reqPort s
  | .ptpAnnounceRx port h set => Sys2Proof.Machine.execPtpAnnounceRx port h set s
  | .ptpDelayReqRx port h off => Sys2Proof.Machine.execPtpDelayReqRx port h off s
  | .ptpMasterLost => Sys2Proof.Machine.execPtpMasterLost s
  | .ptpDelayReqTx off => Sys2Proof.Machine.execPtpDelayReqTx off s
  | .ptpAnnounceTx => Sys2Proof.Machine.execPtpAnnounceTx s
  | .ptpSyncTx off => Sys2Proof.Machine.execPtpSyncTx off s
  | .uplinkBlockRx ring block off => Sys2Proof.Machine.execUplinkBlockRx ring block off s
  | .healRequest src rings => Sys2Proof.Machine.execHealRequest src rings s
  | .foldNoticeRx ring position side crc => Sys2Proof.Machine.execFoldNoticeRx ring position side crc s
  | .ringLinkLoss ring port codeErrors => Sys2Proof.Machine.execRingLinkLoss ring port codeErrors s
  | .ringLinkHealthy ring port => Sys2Proof.Machine.execRingLinkHealthy ring port s
  | .messageFrameRx ring port msg => Sys2Proof.Machine.execMessageFrameRx ring port msg s
  | .messageRetryTimeout ring => Sys2Proof.Machine.execMessageRetryTimeout ring s
  | .ringLoopbackDone ring => Sys2Proof.Machine.execRingLoopbackDone ring s
  | .discoveryDone ring closed nodes => Sys2Proof.Machine.execDiscoveryDone ring closed nodes s
  | .delayRemeasure ring east west => Sys2Proof.Machine.execDelayRemeasure ring east west s
  | .passStart fold lane => Sys2Proof.Machine.execPassStart fold lane s
  | .setPass fold lane => Sys2Proof.Machine.execSetPass fold lane s
  | .passOverrun fold lane slots => Sys2Proof.Machine.execPassOverrun fold lane slots s
  | .feedbackLost axis => Sys2Proof.Machine.execFeedbackLost axis s
  | .positionFrozen axis => Sys2Proof.Machine.execPositionFrozen axis s
  | .missLimitReached axis => Sys2Proof.Machine.execMissLimitReached axis s
  | .axisEnable src axis => Sys2Proof.Machine.execAxisEnable src axis s
  | .axisDisable src axis => Sys2Proof.Machine.execAxisDisable src axis s
  | .clearFault src axis => Sys2Proof.Machine.execClearFault src axis s
  | .nop fold lane x => Sys2Proof.Machine.execNop fold lane x s
  | .mpy fold lane x => Sys2Proof.Machine.execMpy fold lane x s
  | .mac fold lane x => Sys2Proof.Machine.execMac fold lane x s
  | .msu fold lane x => Sys2Proof.Machine.execMsu fold lane x s
  | .adda fold lane x => Sys2Proof.Machine.execAdda fold lane x s
  | .suba fold lane x => Sys2Proof.Machine.execSuba fold lane x s
  | .asha fold lane x => Sys2Proof.Machine.execAsha fold lane x s
  | .narr fold lane x => Sys2Proof.Machine.execNarr fold lane x s
  | .narrl fold lane x => Sys2Proof.Machine.execNarrl fold lane x s
  | .wide fold lane x => Sys2Proof.Machine.execWide fold lane x s
  | .widel fold lane x => Sys2Proof.Machine.execWidel fold lane x s
  | .wdif fold lane x => Sys2Proof.Machine.execWdif fold lane x s
  | .add fold lane x => Sys2Proof.Machine.execAdd fold lane x s
  | .sub fold lane x => Sys2Proof.Machine.execSub fold lane x s
  | .abs fold lane x => Sys2Proof.Machine.execAbs fold lane x s
  | .neg fold lane x => Sys2Proof.Machine.execNeg fold lane x s
  | .min fold lane x => Sys2Proof.Machine.execMin fold lane x s
  | .max fold lane x => Sys2Proof.Machine.execMax fold lane x s
  | .sel fold lane x => Sys2Proof.Machine.execSel fold lane x s
  | .lim fold lane x => Sys2Proof.Machine.execLim fold lane x s
  | .ash fold lane x => Sys2Proof.Machine.execAsh fold lane x s
  | .cmp fold lane x => Sys2Proof.Machine.execCmp fold lane x s
  | .mov fold lane x => Sys2Proof.Machine.execMov fold lane x s
  | .ldi fold lane x => Sys2Proof.Machine.execLdi fold lane x s
  | .addi fold lane x => Sys2Proof.Machine.execAddi fold lane x s
  | .cmpi fold lane x => Sys2Proof.Machine.execCmpi fold lane x s
  | .ld fold lane x => Sys2Proof.Machine.execLd fold lane x s
  | .st fold lane x => Sys2Proof.Machine.execSt fold lane x s
  | .ldw fold lane x => Sys2Proof.Machine.execLdw fold lane x s
  | .stw fold lane x => Sys2Proof.Machine.execStw fold lane x s
  | .mbr fold lane x => Sys2Proof.Machine.execMbr fold lane x s
  | .mbw fold lane x => Sys2Proof.Machine.execMbw fold lane x s
  | .mbrw fold lane x => Sys2Proof.Machine.execMbrw fold lane x s
  | .mbww fold lane x => Sys2Proof.Machine.execMbww fold lane x s
  | .movx fold lane x => Sys2Proof.Machine.execMovx fold lane x s
  | .br fold lane x => Sys2Proof.Machine.execBr fold lane x s
  | .call fold lane x => Sys2Proof.Machine.execCall fold lane x s
  | .ret fold lane x => Sys2Proof.Machine.execRet fold lane x s
  | .rep fold lane x => Sys2Proof.Machine.execRep fold lane x s
  | .endPass fold lane x => Sys2Proof.Machine.execEnd fold lane x s
  | .clrf fold lane x => Sys2Proof.Machine.execClrf fold lane x s
  | .treq fold lane x => Sys2Proof.Machine.execTreq fold lane x s
  | .trd fold lane x => Sys2Proof.Machine.execTrd fold lane x s
  | .transcendentalResult fold lane slot => Sys2Proof.Machine.execTranscendentalResult fold lane slot s
  | .domainCommit src domain => Sys2Proof.Machine.execDomainCommit src domain s
  | .domainCheckDone domain => Sys2Proof.Machine.execDomainCheckDone domain s
  | .rcClear src axis => Sys2Proof.Machine.execRcClear src axis s
  | .moveAbsolute src axis => Sys2Proof.Machine.execMoveAbsolute src axis s
  | .moveRelative src axis => Sys2Proof.Machine.execMoveRelative src axis s
  | .velocity src axis => Sys2Proof.Machine.execVelocity src axis s
  | .stop src axis => Sys2Proof.Machine.execStop src axis s
  | .gearEngage src axis => Sys2Proof.Machine.execGearEngage src axis s
  | .home src axis => Sys2Proof.Machine.execHome src axis s
  | .homeClear src axis => Sys2Proof.Machine.execHomeClear src axis s
  | .dwellEnd axis => Sys2Proof.Machine.execDwellEnd axis s
  | .landWaitExpiry axis => Sys2Proof.Machine.execLandWaitExpiry axis s
  | .stageArm src axis => Sys2Proof.Machine.execStageArm src axis s
  | .switchQualified axis which => Sys2Proof.Machine.execSwitchQualified axis which s
  | .switchLockoutEnd axis which => Sys2Proof.Machine.execSwitchLockoutEnd axis which s
  | .pulseInputEdge input a b => Sys2Proof.Machine.execPulseInputEdge input a b s
  | .pulseZEdge input high off => Sys2Proof.Machine.execPulseZEdge input high off s
  | .blackStart src => Sys2Proof.Machine.execBlackStart src s
  | .startOnLive src => Sys2Proof.Machine.execStartOnLive src s
  | .sync src => Sys2Proof.Machine.execSync src s
  | .cancelSync src => Sys2Proof.Machine.execCancelSync src s
  | .gfStop src => Sys2Proof.Machine.execGfStop src s
  | .clearTrip src => Sys2Proof.Machine.execClearTrip src s
  | .gfTie src closed => Sys2Proof.Machine.execGfTie src closed s
  | .gfRcClear src => Sys2Proof.Machine.execGfRcClear src s
  | .bsSettleDone => Sys2Proof.Machine.execBsSettleDone s
  | .stall => Sys2Proof.Machine.execStall s
  | .rtReleaseExpiry => Sys2Proof.Machine.execRtReleaseExpiry s
  | .syncPermit => Sys2Proof.Machine.execSyncPermit s
  | .utilityOk => Sys2Proof.Machine.execUtilityOk s
  | .utilityLost => Sys2Proof.Machine.execUtilityLost s
  | .gfStopDone => Sys2Proof.Machine.execGfStopDone s
  | .gfTripDcLow => Sys2Proof.Machine.execGfTripDcLow s
  | .gfTripDcHigh => Sys2Proof.Machine.execGfTripDcHigh s
  | .gfTripCurrentSum => Sys2Proof.Machine.execGfTripCurrentSum s
  | .gfMissedCommits => Sys2Proof.Machine.execGfMissedCommits s
  | .gfLimitTooLong => Sys2Proof.Machine.execGfLimitTooLong s
  | .legEnable src port => Sys2Proof.Machine.execLegEnable src port s
  | .legDisable src port => Sys2Proof.Machine.execLegDisable src port s
  | .legSelftest src port => Sys2Proof.Machine.execLegSelftest src port s
  | .legRestart src port => Sys2Proof.Machine.execLegRestart src port s
  | .legTelRx port tel off => Sys2Proof.Machine.execLegTelRx port tel off s
  | .legLinkStartDone port roundTrip pass => Sys2Proof.Machine.execLegLinkStartDone port roundTrip pass s
  | .legStartTimeout port => Sys2Proof.Machine.execLegStartTimeout port s
  | .legLinkLoss port => Sys2Proof.Machine.execLegLinkLoss port s
  | .legSignalReturn port => Sys2Proof.Machine.execLegSignalReturn port s
  | .edgeRecordSend port => Sys2Proof.Machine.execEdgeRecordSend port s
  | .legStateRepeat port => Sys2Proof.Machine.execLegStateRepeat port s
  | .legTimeRecord port off => Sys2Proof.Machine.execLegTimeRecord port off s
  | .selftestDone port pass => Sys2Proof.Machine.execSelftestDone port pass s
  | .legSelftestPeriod port => Sys2Proof.Machine.execLegSelftestPeriod port s
  | .fastChannelTrip => Sys2Proof.Machine.execFastChannelTrip s
  | .senseStuck port => Sys2Proof.Machine.execSenseStuck port s
  | .discrepancyFault pair => Sys2Proof.Machine.execDiscrepancyFault pair s
  | .testPulse pulse a b => Sys2Proof.Machine.execTestPulse pulse a b s
  | .soOffTest output lowA lowB => Sys2Proof.Machine.execSoOffTest output lowA lowB s
  | .vsafeFeed a b => Sys2Proof.Machine.execVsafeFeed a b s
  | .ss1Timeout group => Sys2Proof.Machine.execSs1Timeout group s
  | .standstillReached group => Sys2Proof.Machine.execStandstillReached group s
  | .resetStuck => Sys2Proof.Machine.execResetStuck s
  | .resetStuckCleared => Sys2Proof.Machine.execResetStuckCleared s
  | .lockoutCauseCleared group cause source => Sys2Proof.Machine.execLockoutCauseCleared group cause source s
  | .selftestCommand src value => Sys2Proof.Machine.execSelftestCommand src value s
  | .safetySelftestDone items => Sys2Proof.Machine.execSafetySelftestDone items s
  | .selftestOverdue => Sys2Proof.Machine.execSelftestOverdue s
  | .safeFrameRx source data off => Sys2Proof.Machine.execSafeFrameRx source data off s
  | .safeConnTimeout conn => Sys2Proof.Machine.execSafeConnTimeout conn s
  | .safeSendPeriod conn => Sys2Proof.Machine.execSafeSendPeriod conn s
  | .copyFrameRx frame => Sys2Proof.Machine.execCopyFrameRx frame s
  | .copyAckRx ack => Sys2Proof.Machine.execCopyAckRx ack s
  | .twinLinkLoss errors => Sys2Proof.Machine.execTwinLinkLoss errors s
  | .twinLinkUp => Sys2Proof.Machine.execTwinLinkUp s
  | .arbGrantRise => Sys2Proof.Machine.execArbGrantRise s
  | .takeover => Sys2Proof.Machine.execTakeover s
  | .arbGrantFall => Sys2Proof.Machine.execArbGrantFall s
  | .resume src => Sys2Proof.Machine.execResume src s
  | .handover src => Sys2Proof.Machine.execHandover src s
  | .rejoin src => Sys2Proof.Machine.execRejoin src s
  | .arm src recorder => Sys2Proof.Machine.execArm src recorder s
  | .disarm src recorder => Sys2Proof.Machine.execDisarm src recorder s
  | .force src recorder => Sys2Proof.Machine.execForce src recorder s
  | .seal src recorder => Sys2Proof.Machine.execSeal src recorder s
  | .release src recorder => Sys2Proof.Machine.execRelease src recorder s
  | .triggerWmaxExpiry unit => Sys2Proof.Machine.execTriggerWmaxExpiry unit s
  | .triggerWindowEnd recorder => Sys2Proof.Machine.execTriggerWindowEnd recorder s
  | .recRearm recorder => Sys2Proof.Machine.execRecRearm recorder s
  | .syncFire src time => Sys2Proof.Machine.execSyncFire src time s
  | .acqFireRx ring msg => Sys2Proof.Machine.execAcqFireRx ring msg s
  | .sealDone => Sys2Proof.Machine.execSealDone s
  | .eraseSealed src value => Sys2Proof.Machine.execEraseSealed src value s
  | .scrubPassDone => Sys2Proof.Machine.execScrubPassDone s
  | .islandScrub found => Sys2Proof.Machine.execIslandScrub found s
  | .softRepair region mac row => Sys2Proof.Machine.execSoftRepair region mac row s
  | .fuseCommand src value => Sys2Proof.Machine.execFuseCommand src value s
  | .fuseDone => Sys2Proof.Machine.execFuseDone s
  | .testSplitWrite src => Sys2Proof.Machine.execTestSplitWrite src s
  | .testRawRead src => Sys2Proof.Machine.execTestRawRead src s
  | .testCheckedRead src => Sys2Proof.Machine.execTestCheckedRead src s
  | .laneMeasure fold lane time corner sound => Sys2Proof.Machine.execLaneMeasure fold lane time corner sound s
  | .retireClear src fold lane => Sys2Proof.Machine.execRetireClear src fold lane s
  | .bootSequenceComplete => Sys2Proof.Machine.execBootSequenceComplete s
  | .foldSchedulerFault fold => Sys2Proof.Machine.execFoldSchedulerFault fold s
  | .sdclkEdge bits off => Sys2Proof.Machine.execSdclkEdge bits off s
  | .droveFrameRx ring header => Sys2Proof.Machine.execDroveFrameRx ring header s
  | .scrubRead region mac offset upset => Sys2Proof.Machine.execScrubRead region mac offset upset s
  | .spareSelftestFail fold => Sys2Proof.Machine.execSpareSelftestFail fold s
  | .canFrameTx port ok => Sys2Proof.Machine.execCanFrameTx port ok s
  | .hourCounter hot => Sys2Proof.Machine.execHourCounter hot s

end Sys2Proof.Machine
end

