-- ==== Sys2Proof/WellFormed.lean ====
section
/-! DEFINITION. WellFormed.lean: which commands a sender can put on the block's pins and wires. Most operands are bounded by their types;
the checks left are those of lists: the 16-bit length fields (R77), the kinds of datagrams (R86, R88), the lengths of frames (R94, R144,
R188), the positions of a ring (R177), the type of a FIRE message (R543), and the opcodes R80 lists under names of their own. -/

namespace Sys2Proof

/-- A command whose data have the form its wire carries. The commands named have a check; the operands of every other one are bounded by
their types alone. -/
def Instr.wf : Instr → Bool
  | .write _ data _ => decide (data.length < 65536)
  | .writeTimed _ _ data _ => decide (data.length < 65536)
  | .domainWrite _ _ data _ => decide (data.length < 65536)
  | .unknownOpcode opcode _ _ => ! [0x03, 0x02, 0x12, 0x0D, 0x23, 0x22, 0x1E].contains opcode.toNat
  | .udpOpen _ datagram => Machine.udpKind datagram == 0x80
  | .udpRequest _ datagram => Machine.udpKind datagram != 0x80 && Machine.udpKind datagram != 0x82
  | .udpClose _ datagram => Machine.udpKind datagram == 0x82
  | .canFrameRx _ a _ => Machine.canFormOk a.frame
  | .ethFrameRx _ frame _ _ => decide (60 ≤ frame.length) && decide (frame.length ≤ 1518)
  | .uplinkBlockRx _ block _ => Machine.blockFormOk block
  | .discoveryDone _ _ nodes => decide (nodes.length ≤ 64)
  | .acqFireRx _ msg => msg.msgType == 7
  | _ => true

end Sys2Proof
end

