-- ==== Sys2Proof/Safety.lean ====
section
/-! DEFINITION. Safety.lean: what a safe run of the block is, and the words the claims are made in: a command that is answered with a next
state, an event reported, a write that waits for its boundary, a state every step keeps sound. -/

namespace Sys2Proof.Machine

/-- The command is answered with a next state, of which P holds. -/
def Answers (c : Instr) (s : State) (P : State → Prop) : Prop := ∃ t, exec c s = .next t ∧ P t

/-- The latch of an event source is set (R96). -/
def Dev.latched (d : Dev) (src : Nat) : Bool := bit (d.obj (Obj.EVENT_LATCH (src / 32))) (src % 32)

/-- A state every step keeps: the RAM in its canonical form, every pool drop reported. -/
def State.Sound (s : State) : Prop := s.mem.wf = true ∧ s.dev.drops = []

/-- A step is safe: it answers a next state. The block has no other outcome for a command its wires can carry. -/
def State.Goes (s : State) : Prop := ∃ t, step s = .next t

/-- Every command that waits can be put on the block's wires. -/
def State.Fed (s : State) : Prop := ∀ c ∈ s.pending, c.wf = true

/-- Format A instructions that work on the accumulators, opcodes 0x01 to 0x0B (R297, R300). -/
def isAccumulate : Instr → Bool
  | .mpy .. | .mac .. | .msu .. | .adda .. | .suba .. | .asha .. | .narr .. | .narrl .. | .wide .. | .widel .. | .wdif .. => true
  | _ => false

/-- The other format A instructions, NOP and opcodes 0x0C to 0x16 (R297, R300). -/
def isRegister : Instr → Bool
  | .nop .. => true
  | .add .. | .sub .. | .abs .. | .neg .. | .min .. | .max .. | .sel .. | .lim .. | .ash .. | .cmp .. | .mov .. => true
  | _ => false

/-- Instructions of formats I, M, X, C and T (R299, R300). -/
def isShortFormat : Instr → Bool
  | .ldi .. | .addi .. | .cmpi .. => true
  | .ld .. | .st .. | .ldw .. | .stw .. | .mbr .. | .mbw .. | .mbrw .. | .mbww .. => true
  | .movx .. => true
  | .br .. | .call .. | .ret .. | .rep .. | .endPass .. | .clrf .. => true
  | .treq .. | .trd .. => true
  | _ => false

/-- The commands that may touch the RAM: the boundary and the boot origin, passes and lane instructions, the Float's reads and repairs,
the frames of the twin link. -/
def usesRam (c : Instr) : Bool :=
  isAccumulate c || isRegister c || isShortFormat c ||
    match c with
    | .bootStart | .cycleBoundary => true
    | .passStart .. | .setPass .. | .softRepair .. | .scrubRead .. | .copyFrameRx .. | .copyAckRx .. => true
    | _ => false

/-- What a host transaction puts before its Check phase: its tag, the bytes from Address to Data, and the Check sent (R78, R80). -/
def hostPhases : Instr → Option (Byte × List Byte × Check32)
  | .read a c => some (a.tag, addrBytes a, c)
  | .write a data c => some (a.tag, addrBytes a ++ beBytes 2 data.length ++ data, c)
  | .writeTimed a t data c => some (a.tag, addrBytes a ++ beBytes 2 data.length ++ beBytes 10 t.toNat ++ data, c)
  | .readWindow a c => some (a.tag, addrBytes a, c)
  | .domainRead a len off c => some (a.tag, addrBytes a ++ beBytes 2 len.toNat ++ beBytes 4 off.toNat, c)
  | .domainWrite a off data c => some (a.tag, addrBytes a ++ beBytes 2 data.length ++ beBytes 4 off.toNat ++ data, c)
  | .eventPop a c => some (a.tag, addrBytes a, c)
  | .unknownOpcode _ a c => some (a.tag, addrBytes a, c)
  | _ => none

/-- The source's writes reach the Tally engine of a unit that heads its rings, outside SAFE-HOLD (R52, R65, R496). -/
structure Open (s : State) (src : Src) : Prop where
  reach : s.dev.reaches src = true
  head : s.dev.isHead = true
  hold : s.dev.state ≠ stSafeHold

/-- Both synthesisers serve, the SerDes run, and no step or relock of PLL-T waits (R117, R122, R129). -/
structure Clocked (d : Dev) : Prop where
  serves : d.servesT = true
  backup : d.backupAvailable = true
  serdes : d.tb.serdesStopped = false ∧ getAt false d.ctl.supplies 1 = true
  steps : d.tb.stepQ = [] ∧ d.tb.tRelock = none ∧ d.tb.bothPending = false

/-- A write of v to object k as it waits for its boundary (R65). -/
def State.waiting (s : State) (src : Src) (k v : Nat) : QueuedWrite :=
  { src := src, key := k, val := v, data := [], acceptedAt := s.dev.now, seq := s.dev.tally.accSeq }

/-- Every object, every DOMAIN value, the RAM and the queue of commands are as before. -/
def State.Same (s t : State) : Prop :=
  (∀ j, t.dev.obj j = s.dev.obj j) ∧ (∀ j, t.dev.blob j = s.dev.blob j) ∧ t.mem = s.mem ∧ t.pending = s.pending

/-- The write of v to object k is accepted: it waits, last in the order of acceptance, and nothing else shows (R65). -/
def State.Queued (s t : State) (src : Src) (k v : Nat) : Prop :=
  t.dev.tally.queue = s.dev.tally.queue ++ [s.waiting src k v] ∧ s.Same t

/-- The block as a waiting write of v to object k leaves it when it takes effect, the block before it being d and the RAM m (R65). -/
def Dev.after (d : Dev) (m : Mem) (k v : Nat) : DM :=
  takeWrite (d, m) { src := .host, key := k, val := v, data := [], acceptedAt := 0, seq := 0 }

/-- The objects a report may change: latches, occurrences, the drop count, channel 3 of the pool and the shared buffers. -/
def eventKey (k : Nat) : Bool :=
  k / 256 == 0x611 || k / 256 == 0x612 || k == Obj.EVENTS_DROPPED || (k / 256 == 0x483 && k % 256 != 0 && k % 256 != 1)
    || k == Obj.SHARED_FREE

/-- Every object but those listed and those an event report changes is as before. -/
def Dev.KeepsBut (d e : Dev) (l : List Nat) : Prop := ∀ k, k ∉ l → eventKey k = false → e.obj k = d.obj k

/-- Of the objects, only those listed and those an event report changes differ; no DOMAIN value, no byte of RAM and no waiting command does. -/
def State.Only (s t : State) (l : List Nat) : Prop :=
  s.dev.KeepsBut t.dev l ∧ (∀ j, t.dev.blob j = s.dev.blob j) ∧ t.mem = s.mem ∧ t.pending = s.pending

/-- The listed objects take the listed values; beside them only what an event report changes differs. -/
def State.Sets (s t : State) (l : List (Nat × Nat)) : Prop := (∀ e ∈ l, t.dev.obj e.1 = e.2) ∧ s.Only t (l.map (·.1))

/-- The listed objects take the listed values, and no other object, DOMAIN value, byte of RAM or waiting command differs. -/
def State.Puts (s t : State) (l : List (Nat × Nat)) : Prop :=
  (∀ e ∈ l, t.dev.obj e.1 = e.2) ∧ (∀ k, (∀ e ∈ l, e.1 ≠ k) → t.dev.obj k = s.dev.obj k) ∧ (∀ j, t.dev.blob j = s.dev.blob j) ∧
    t.mem = s.mem ∧ t.pending = s.pending

/-- The host port answered a transaction with this status and data, and LAST_HOST_STATUS and LAST_HOST_TAG show it (R79, R83). -/
def State.Responds (t : State) (st tag : Nat) (reread stale : Bool) (data : List Byte) : Prop :=
  Emit.hostResponse st tag reread stale data ∈ t.dev.emitted ∧ t.dev.obj Obj.LAST_HOST_STATUS = st ∧ t.dev.obj Obj.LAST_HOST_TAG = tag

/-- The same, and nothing else changed but what an event report changes. -/
def State.RespondsOnly (s t : State) (st tag : Nat) (data : List Byte) : Prop :=
  t.Responds st tag false false data ∧ s.Only t [Obj.LAST_HOST_STATUS, Obj.LAST_HOST_TAG]

/-- The grid-former is in STARTING, FORMING, SYNCING, PARALLEL or STOPPING (R379). -/
def Dev.gfRuns (d : Dev) : Prop := d.gfState ≠ gfOff ∧ d.gfState ≠ gfTripped

/-- The grid-former tripped with this cause: TRIPPED, no leg requested, source 0xB1 reported (R389). -/
def State.GfTrips (s t : State) (cause : Nat) : Prop :=
  s.Sets t [(Obj.GF_TRIP_CAUSE, cause), (Obj.GF_STATE, gfTripped)] ∧ t.dev.legReqs = [] ∧ t.dev.latched 0xB1 = true ∧
    t.dev.gf.permit = false ∧ t.dev.gf.tieOpen = s.dev.gf.tieOpen

/-- A scalar value an open source may write to an object of its row: rights, type, range and the owner's own conditions allow it, and the
object is none that acts at acceptance (R48 to R52, R65). -/
structure Acceptable (s : State) (k v : Nat) (r : ObjRow) : Prop where
  row : rowOf k = some r
  rights : r.rights = .wo ∨ r.rights = .rw ∨ (r.rights = .rwc ∧ s.dev.state = stConfig)
  own : vendorDomain k = false ∧ k / 256 ≠ 0x821
  shape : r.ty.isDomain = false ∧ r.ty ≠ .gain ∧ r.ty ≠ .pu
  width : v < 256 ^ r.ty.size
  range : r.chk.ok r.ty v = true
  owner : s.dev.ownerStatus k v = 0
  waits : k ≠ Obj.HOST_MODE ∧ (k = Obj.STATE_REQUEST → s.dev.ctl.holding = false)

/-- A customer pass stands in a lane before an instruction word: the microcode store holds the word's bytes with their check bits. -/
structure Stands (s : State) (f l : Fin 8) (p : Pass) (word : Nat) : Prop where
  runs : (s.dev.lane f l).run = some p
  customer : 2 ≤ p.domain
  computed : s.dev.computes p.ctx = true
  bank : (s.dev.lane f l).cur < (s.dev.lane f l).banks.length
  inside : (s.dev.lane f l).bank.pc < s.dev.codeLength p.domain
  code : ∀ i < 8, s.mem.sym (codeByte f (8 * (tget (fun _ => 0) (s.dev.fold f).code p.domain + (s.dev.lane f l).bank.pc)) + i)
    = word / 256 ^ (7 - i) % 256 + 256 * checkOf (word / 256 ^ (7 - i) % 256)
  going : p.stop = 0

/-- The bank of a pass with every result landed whose distance has passed (R302). -/
def State.bankAt (s : State) (f l : Fin 8) (p : Pass) : Bank := (s.dev.land (s.dev.lane f l).bank p p.n).1

/-- The pass with every store landed whose distance has passed (R302, R311). -/
def State.passAt (s : State) (f l : Fin 8) (p : Pass) : Pass := (s.dev.land (s.dev.lane f l).bank p p.n).2

/-- One instruction issued: its results are in flight with their distances, its store too, the bank stands at b but for them, the pass
is slots further on, and no object, DOMAIN value or byte of RAM differs. -/
def State.Issued (s t : State) (f l : Fin 8) (p : Pass) (wr : List Wr) (st : List StoreFlight) (b : Bank) (slots : Nat) (rep : Option Nat) : Prop :=
  s.Same t ∧ (t.dev.lane f l).bank = b ∧
    (t.dev.lane f l).run = some { s.passAt f l p with
      flight := (s.passAt f l p).flight ++ wr.map (fun w => { reg := w.reg, val := w.val, landAt := p.n + w.dist, early := w.early })
      stores := (s.passAt f l p).stores ++ st, n := p.n + slots, rep := rep }

/-- A pass ended by a context fault: reported, flagged, without a commit (R247, R304). -/
def State.Faulted (s t : State) (f l : Fin 8) (p : Pass) : Prop :=
  (t.dev.lane f l).run = none ∧ t.dev.latched 0xC7 = true ∧ t.mem = s.mem ∧ s.Only t [] ∧
    (p.ctx < s.dev.axes.length → bit (t.dev.axis p.ctx).flags 15 = true ∧
      (s.dev.cyc.startAt ≤ p.startAt → (t.dev.axis p.ctx).work.full = 4))

/-- An exact result num / 2^drop lies in a signed destination of w bits, by its literal range (R296). -/
def fitsIn (w : Nat) (num : Int) (drop : Nat) : Bool :=
  decide (-(2 ^ (w - 1)) * 2 ^ drop ≤ num) && decide (num ≤ (2 ^ (w - 1) - 1) * 2 ^ drop)

/-- The result rounded toward −∞, clamped with S set and wrapped without (R296). -/
def fitted (w : Nat) (sat : Bool) (num : Int) (drop : Nat) : Int :=
  if sat then max (-(2 ^ (w - 1))) (min (2 ^ (w - 1) - 1) (num / 2 ^ drop)) else (num / 2 ^ drop + 2 ^ (w - 1)) % 2 ^ w - 2 ^ (w - 1)

/-- The flag results of Z, N, V and the sticky SV, of V and SV alone, and of Z and N alone (R295, R300). -/
def flagsOf (v : Int) (inside : Bool) : List Wr :=
  wrFlags (if inside then 7 else 15) ((if v = 0 then 1 else 0) + (if v < 0 then 2 else 0) + (if inside then 0 else 12))

end Sys2Proof.Machine
end

