-- ==== Sys2Proof/Certificates/Slice0/Obligations.lean ====
section
/-! DEFINITION. Certificates/Slice0/Obligations.lean: what is claimed of the block, for the provers. -/

open Sys2Proof Sys2Proof.Machine

/-- For every command c and state s, a step of s with c put at the front of its queue is exec of c on s, whose queue is the rest. On an empty
queue the step answers the state as it is (the model's choice, log entry 2: the specification lists no tick of its own). -/
def Obligations.StepRunsTheFrontCommand : Prop :=
  (∀ (c : Instr) (s : State), step { s with pending := c :: s.pending } = exec c s) ∧
  (∀ s : State, s.pending = [] → step s = .next s)

/-- For every command and state: when the command has the form its wire or pins carry, exec answers a next state whose queue of commands and
whose drops to report are as they must be (the queue as before, no drop left unreported); when it has not, exec answers the fault
illFormed and nothing else. So a queue of carried commands runs on: the step answers, and what still waits is carried too. -/
def Obligations.EveryCarriedCommandIsAnswered : Prop :=
  (∀ (c : Instr) (s : State), c.wf = true → Answers c s (fun t => t.pending = s.pending ∧ t.dev.drops = [])) ∧
  (∀ (c : Instr) (s : State), c.wf = false → exec c s = .fault .illFormed) ∧
  (∀ s : State, s.Fed → ∃ t, step s = .next t ∧ t.pending = s.pending.tail ∧ t.Fed)

/-- Whatever command stands at the front of the queue and whatever the state, if the RAM is in its canonical form (addresses strictly rising,
no byte listed that holds the unwritten marker of R558) and a step answers a next state, then that state's RAM is in the canonical form
again, and no drop of the buffer pool is left unreported. No assumption that the state is reached by a run. -/
def Obligations.EveryStepKeepsTheRamCanonical : Prop :=
  ∀ s t : State, s.Sound → step s = .next t → t.Sound

/-- State.reset meets the invariant every step keeps: the RAM is in its canonical form and no pool drop waits to be reported. -/
def Obligations.ResetIsSound : Prop :=
  State.reset.Sound

/-- For every command that is none of BOOT_START, CYCLE_BOUNDARY, PASS_START, SET_PASS, the lane instructions, SCRUB_READ, SOFT_REPAIR,
COPY_FRAME_RX and COPY_ACK_RX, and for every state, the next state's RAM is the RAM before: every byte reads as before. -/
def Obligations.OnlyRamCommandsTouchTheRam : Prop :=
  ∀ (c : Instr) (s t : State), usesRam c = false → exec c s = .next t →
    t.mem = s.mem ∧ ∀ a, readSym (t.mem.sym a) = readSym (s.mem.sym a)

/-- What reset leaves where the specification gives the value: DEVICE_STATE is BOOT; the host event queue, the list of accepted writes and the
timed-action list are empty; no session is open; no command waits; every byte of the RAM reads as UNWRITTEN; the TIME80 counter does not
run; the island ticks on its own oscillator (SAFETY_TICK_SOURCE 1); no input is active (REF_ACTIVE 0xFF); the bypass of each ring is
closed; ARB_STALE is asserted. -/
def Obligations.ResetHoldsTheBootValues : Prop :=
  let s := State.reset
  s.dev.state = stBoot ∧ s.pending = [] ∧ s.dev.evq.queue = [] ∧ s.dev.tally.queue = [] ∧ s.dev.tally.timed = [] ∧
  (∀ i, (s.dev.session i).isOpen = false) ∧ (∀ a, (readSym (s.mem.sym a)).1 = .unwritten) ∧ s.dev.tb.running = false ∧
  s.dev.obj Obj.SAFETY_TICK_SOURCE = 1 ∧ s.dev.obj Obj.REF_ACTIVE = 0xFF ∧ (∀ r : Fin 2, (s.dev.ring r).phase = .off) ∧
  bit (s.dev.obj Obj.ARB_PINS) 1 = true

/-- The check of every byte is the XOR R555 gives, column by column. A read of any 13-bit symbol has the outcome of its syndrome: OK with the
stored data, CORRECTED with the bit of the syndrome's column inverted, CORRECTED with the stored data for a flipped check bit, UNWRITTEN
with 0x00, or UNCORRECTABLE. So every byte written with fresh check bits reads back as OK with its data, with any one of its 13 bits
flipped it reads back as CORRECTED with the data as written, and a write leaves every other byte as it was. -/
def Obligations.MemoryBytesCarryTheirCheckBits : Prop :=
  let column : Nat → Nat := fun i => getAt 0 [0x07, 0x0B, 0x0D, 0x0E, 0x13, 0x15, 0x19, 0x1C] i
  (∀ v j : Nat, v < 256 → j < 5 →
    bit (checkOf v) j = decide (((List.range 8).filter (fun i => bit v i && bit (column i) j)).length % 2 = 1)) ∧
  (∀ data check : Nat, data < 256 → check < 32 →
    let s := checkOf data ^^^ check
    let r := readSym (data + 256 * check)
    (s = 0 → r = (.ok, s, data)) ∧ (∀ i < 8, s = column i → r = (.corrected, s, data ^^^ 2 ^ i)) ∧
    (∀ j < 5, s = 2 ^ j → r = (.corrected, s, data)) ∧ (s = 0x1F → r = (.unwritten, s, 0)) ∧
    (s ≠ 0 → (∀ i < 8, s ≠ column i) → (∀ j < 5, s ≠ 2 ^ j) → s ≠ 0x1F → r.1 = .uncorrectable)) ∧
  (∀ (m : Mem) (a v : Nat), v < 256 → readSym ((m.put a v).sym a) = (.ok, 0, v)) ∧
  (∀ (m : Mem) (a v n : Nat), v < 256 → n < 13 →
    (readSym ((m.put a v).sym a ^^^ 2 ^ n)).1 = .corrected ∧ (readSym ((m.put a v).sym a ^^^ 2 ^ n)).2.2 = v) ∧
  (∀ (m : Mem) (a b v : Nat), b ≠ a → (m.put a v).sym b = m.sym b)

/-- For each opcode of the host port (READ, WRITE, WRITE_TIMED, READ_WINDOW, DOMAIN_READ, DOMAIN_WRITE, EVENT_POP and an unlisted one), when
the port answers and the Check phase differs from the CRC-32C of the phases before it: the response carries status 0x000D, the request's
tag and no data, event source 0x03 is latched, and nothing else is done: no DOMAIN value, no byte of RAM, no accepted or timed write, and
no object but LAST_HOST_STATUS, LAST_HOST_TAG (R83) and what a report of an event changes differs from before. -/
def Obligations.AMismatchedCheckDoesNothing : Prop :=
  ∀ (c : Instr) (s : State) (tag : Byte) (phases : List Byte) (check : Check32), c.wf = true → hostPhases c = some (tag, phases, check) →
    s.dev.hostLive = true → crc32c phases ≠ check.toNat →
    Answers c s (fun t =>
      Emit.hostResponse 0x000D tag.toNat false false [] ∈ t.dev.emitted ∧ t.dev.latched 0x03 = true ∧
      s.dev.KeepsBut t.dev [Obj.LAST_HOST_STATUS, Obj.LAST_HOST_TAG] ∧ t.dev.blobs = s.dev.blobs ∧ t.mem = s.mem ∧ t.dev.tally = s.dev.tally ∧
      t.pending = s.pending)

/-- Whatever the request and the state of the block: while a transition is in progress, a STATE_REQUEST that takes effect leaves the
transition as it is, sets STATE_REJECT to 0x03, and changes no other object. -/
def Obligations.ARequestDuringATransitionIsRejected : Prop :=
  ∀ (d : Dev) (m : Mem) (v : Nat), d.ctl.trans ≠ .none →
    let e := (d.after m Obj.STATE_REQUEST v).1
    e.obj Obj.STATE_REJECT = 3 ∧ e.ctl.trans = d.ctl.trans ∧ (∀ k, k ≠ Obj.STATE_REJECT → e.obj k = d.obj k) ∧ (d.after m Obj.STATE_REQUEST v).2 = m

/-- Each of the four state requests, from any source that reaches the engine of a unit heading its rings outside SAFE-HOLD and before any
SAFE-HOLD decision, is accepted and waits for its boundary, changing no object, DOMAIN value or byte of RAM. When it takes effect with no
transition in progress and no SAFE-HOLD cause found at this boundary: READY to CONFIG, RUN or SERVICE begins that transition; CONFIG to
READY is rejected with reason 0x05 while discovery is not complete, with 0x04 when a check of the request fails after the lane self-test,
and begins otherwise; RUN to READY begins when every axis stands with its stage off and the grid-former has stopped, and is rejected with
0x02 otherwise; SERVICE to READY begins when no self-test or fuse programming runs, and is rejected with 0x04 otherwise; CONFIG to RUN,
CONFIG or SERVICE is rejected with 0x01. -/
def Obligations.StateRequestsAskForTheirState : Prop :=
  (∀ (s : State) (src : Src), Open s src → s.dev.ctl.holding = false →
    Answers (.stateRequestConfig src) s (fun t => s.Queued t src Obj.STATE_REQUEST 1) ∧
    Answers (.stateRequestReady src) s (fun t => s.Queued t src Obj.STATE_REQUEST 2) ∧
    Answers (.stateRequestRun src) s (fun t => s.Queued t src Obj.STATE_REQUEST 3) ∧
    Answers (.stateRequestService src) s (fun t => s.Queued t src Obj.STATE_REQUEST 4)) ∧
  (∀ (d : Dev) (m : Mem), d.ctl.holding = false → d.ctl.trans = .none → d.ctl.causeReq = none → d.isHead = true →
    let e := fun v => (d.after m Obj.STATE_REQUEST v).1
    (d.state = stReady → (e 1).ctl.trans = .toConfig ∧ (e 3).ctl.trans = .toRun ∧ (e 4).ctl.trans = .toService) ∧
    (d.state = stConfig → d.discoveryComplete = false → (e 2).obj Obj.STATE_REJECT = 5 ∧ (e 2).ctl.trans = .none) ∧
    (d.state = stConfig → d.discoveryComplete = true → d.laneSelftest.readyOk = false → (e 2).obj Obj.STATE_REJECT = 4 ∧ (e 2).ctl.trans = .none) ∧
    (d.state = stConfig → d.discoveryComplete = true → d.laneSelftest.readyOk = true → (e 2).ctl.trans = .toReady) ∧
    (d.state = stRun → d.runStopped = true → (e 2).ctl.trans = .toReady) ∧
    (d.state = stRun → d.runStopped = false → (e 2).obj Obj.STATE_REJECT = 2 ∧ (e 2).ctl.trans = .none) ∧
    (d.state = stService → d.serviceIdle = true → (e 2).ctl.trans = .toReady) ∧
    (d.state = stService → d.serviceIdle = false → (e 2).obj Obj.STATE_REJECT = 4 ∧ (e 2).ctl.trans = .none) ∧
    (d.state = stConfig → ∀ v ∈ [1, 3, 4], (e v).obj Obj.STATE_REJECT = 1 ∧ (e v).ctl.trans = .none))

/-- A write of HOST_MODE (0 or 1) from a source that reaches the engine is held at once, in SAFE-HOLD too, and changes no object; at the next
rising edge of HSP_CS_N, while the port answers, HOST_MODE takes the held value, nothing is held any more, and no other object changes. A
rising edge with nothing held leaves every object, DOMAIN value and byte of RAM. -/
def Obligations.HostModeWaitsForTheChipSelect : Prop :=
  (∀ (s : State) (src : Src) (mode : Byte), s.dev.reaches src = true → mode.toNat ≤ 1 →
    Answers (.hostMode src mode) s (fun t => t.dev.acc.modeReq = some mode.toNat ∧ s.Same t)) ∧
  (∀ (s : State) (v : Nat), s.dev.acc.modeReq = some v → s.dev.hostLive = true →
    Answers .hostCsRise s (fun t => t.dev.obj Obj.HOST_MODE = v ∧ t.dev.acc.modeReq = none ∧
      (∀ k, k ≠ Obj.HOST_MODE → eventKey k = false → t.dev.obj k = s.dev.obj k) ∧ t.dev.blobs = s.dev.blobs ∧ t.mem = s.mem)) ∧
  (∀ s : State, s.dev.acc.modeReq = none → Answers .hostCsRise s (fun t => s.Same t))

/-- SAVE outside RUN, and RESTORE in CONFIG, while neither is in progress, are accepted, wait for their boundary, and are in progress from
then on. When the write of SAVE takes effect, the snapshot is taken. SAVE_DONE with a good read-back of an image of at most 4 MiB writes
the snapshot to the copy that is not current, makes it current, leaves the other copy, ends the save and reports source 0x01. RESTORE_DONE
erases both copies, ends the restore and reports source 0x02. A save of a larger image changes neither copy. -/
def Obligations.SaveRestoreAndTheirEnds : Prop :=
  (∀ (s : State) (src : Src), Open s src → s.dev.tally.save = none → s.dev.tally.restoring = false →
    (s.dev.state ≠ stRun → Answers (.save src) s (fun t => s.Queued t src Obj.SAVE 0x73617665 ∧
      t.dev.tally.save = some { acceptedAt := s.dev.now, safety := s.dev.inSafety src, snap := none })) ∧
    (s.dev.state = stConfig → Answers (.restore src) s (fun t => s.Queued t src Obj.RESTORE 0x6C6F6164 ∧ t.dev.tally.restoring = true))) ∧
  (∀ (d : Dev) (m : Mem) (j : SaveJob), d.tally.save = some j → j.snap = none →
    (d.after m Obj.SAVE 0x73617665).1.tally.save = some { j with snap := some (d.snapshot j.safety) }) ∧
  (∀ (s : State) (j : SaveJob) (c : ImageCopy), s.dev.tally.save = some j → j.snap = some c →
    (c.bytes ≤ 4194304 → Answers (.saveDone true) s (fun t => t.dev.flash.current = some c ∧ t.dev.flash.current1 = !s.dev.flash.current1 ∧
      (if s.dev.flash.current1 then t.dev.flash.copy1 = s.dev.flash.copy1 else t.dev.flash.copy0 = s.dev.flash.copy0) ∧
      t.dev.tally.save = none ∧ t.dev.latched 1 = true)) ∧
    (4194304 < c.bytes → ∀ ok, Answers (.saveDone ok) s (fun t => t.dev.flash = s.dev.flash ∧ t.dev.tally.save = none ∧ t.dev.latched 1 = true))) ∧
  (∀ s : State, s.dev.tally.restoring = true → Answers .restoreDone s (fun t => t.dev.flash.copy0 = none ∧ t.dev.flash.copy1 = none ∧
    t.dev.tally.restoring = false ∧ t.dev.latched 2 = true ∧ s.dev.KeepsBut t.dev []))

/-- A write of HURDLE is accepted and waits. At a boundary at which every accepted write is due and no timed write waits, and no other hurdle
does: with nothing accepted before it, no committed safety block before it and nothing after it, the hurdle completes (source 0x00 is
reported) and nothing waits any more; when an ordinary write was accepted before it, every write accepted after it is still in the list,
so it takes effect at a later boundary than every write accepted before, and the hurdle is reported unless it waits itself; while a safety
block committed before it has not applied, the hurdle and every write accepted after it wait. -/
def Obligations.AHurdleHoldsLaterWritesBack : Prop :=
  (∀ (s : State) (src : Src) (number : BitVec 16), Open s src →
    Answers (.hurdle src number) s (fun t => s.Queued t src Obj.HURDLE number.toNat)) ∧
  (∀ (x : DM) (before after : List QueuedWrite) (h : QueuedWrite), x.1.tally.queue = before ++ h :: after → x.1.tally.timed = [] →
    (∀ w ∈ x.1.tally.queue, x.1.ripe w = true) → h.key = Obj.HURDLE → before ≠ [] → (∀ w ∈ before ++ after, w.key ≠ Obj.HURDLE) →
    (∀ w ∈ after, w ∈ (applyWrites x).1.tally.queue) ∧ ((applyWrites x).1.latched 0 = true ∨ h ∈ (applyWrites x).1.tally.queue)) ∧
  (∀ (x : DM) (h : QueuedWrite), x.1.tally.queue = [h] → x.1.tally.timed = [] → x.1.ripe h = true → h.key = Obj.HURDLE → x.1.tally.committed = [] →
    (applyWrites x).1.tally.queue = [] ∧ (applyWrites x).1.latched 0 = true ∧ x.1.KeepsBut (applyWrites x).1 [] ∧ (applyWrites x).2 = x.2) ∧
  (∀ (x : DM) (after : List QueuedWrite) (h : QueuedWrite), x.1.tally.queue = h :: after → x.1.tally.timed = [] →
    (∀ w ∈ x.1.tally.queue, x.1.ripe w = true) → h.key = Obj.HURDLE → x.1.tally.committed.any (fun c => c.2.1 < h.seq) = true →
    (applyWrites x).1.tally.queue = x.1.tally.queue)

/-- A write of a mask to EVENT_LATCH n is accepted and waits outside SAFE-HOLD; in SAFE-HOLD it takes effect at once. In effect, it clears the
latch and sets to 0 the occurrence count of every source 32 n + i whose bit i of the mask is 1, and leaves every other object, among them
the latches and counts of all other sources. -/
def Obligations.LatchesAreClearedByAWriteOfOne : Prop :=
  (∀ (s : State) (src : Src) (n : Fin 8) (mask : BitVec 32), Open s src →
    Answers (.eventLatchClear src n mask) s (fun t => s.Queued t src (Obj.EVENT_LATCH n) mask.toNat)) ∧
  (∀ (s : State) (src : Src) (n : Fin 8) (mask : BitVec 32), s.dev.reaches src = true → s.dev.state = stSafeHold →
    Answers (.eventLatchClear src n mask) s (fun t => ∀ k, t.dev.obj k = (s.dev.clearLatch n mask.toNat).obj k)) ∧
  (∀ (d : Dev) (m : Mem) (n : Fin 8) (mask : BitVec 32),
    let e := (d.after m (Obj.EVENT_LATCH n) mask.toNat).1
    (∀ i : Fin 32, mask.getLsb i = true → e.latched (32 * n + i) = false ∧ e.obj (Obj.OCCURRENCES (32 * n + i)) = 0) ∧
    (∀ i : Fin 32, mask.getLsb i = false → e.latched (32 * n + i) = d.latched (32 * n + i) ∧
      e.obj (Obj.OCCURRENCES (32 * n + i)) = d.obj (Obj.OCCURRENCES (32 * n + i))) ∧
    (∀ k, k ≠ Obj.EVENT_LATCH n → (∀ i : Fin 32, k ≠ Obj.OCCURRENCES (32 * n + i)) → e.obj k = d.obj k) ∧
    (∀ k, e.obj k = (d.clearLatch n mask.toNat).obj k))

/-- From an open safety session that reaches the engine of a head outside SAFE-HOLD, in a state that lets the pending block be committed: when
the CRC equals that of the whole block and its connections, motion bounds and payload lengths are good (the check of LENGTH at the commit
is the model's reading, log entry 66), the block joins the committed ones, none is pending any more, and no object changes; when the CRC
differs, the pending block is discarded, no block is committed, and WRITE_REJECTED (source 0x08) is reported. -/
def Obligations.SafetyCommitTakesTheBlockOrDiscardsIt : Prop :=
  ∀ (s : State) (src : Src) (crc : Check32), Open s src → s.dev.inSafety src = true → s.dev.commitOpen = true →
    (Config.blockCrc s.dev.fullBlock % 2 ^ 32 = crc.toNat → connsOk s.dev.fullBlock = true → stepsOk s.dev.fullBlock = true → lengthsOk s.dev.fullBlock = true →
      Answers (.safetyCommit src crc) s (fun t => t.dev.tally.committed = s.dev.tally.committed ++ [(false, s.dev.tally.accSeq, s.dev.tally.pendingBlock.getD [])] ∧
        t.dev.tally.pendingBlock = none ∧ s.Same t)) ∧
    (Config.blockCrc s.dev.fullBlock % 2 ^ 32 ≠ crc.toNat →
      Answers (.safetyCommit src crc) s (fun t => t.dev.tally.committed = s.dev.tally.committed ∧ t.dev.tally.pendingBlock = none ∧
        t.dev.latched 8 = true ∧ s.dev.KeepsBut t.dev [] ∧ t.dev.blobs = s.dev.blobs ∧ t.mem = s.mem))

/-- Each of the five writes of the time base is accepted under its own conditions (PLLT_STEP: resulting offset, with the steps that take
effect before it, within ±500 ppm, no relock in progress, time service not the slave; PLLT_RELOCK: CONFIG or SERVICE; PLLT_PRESCALE and
TIME_SET: CONFIG, a valid value; COUNTER_SLEW: time service not the slave) and waits. In effect, while both synthesisers serve and no step
waits: a small PLLT_STEP (at most 2 ppm, drift within 200 ppm, 1 µs after the last one) adds its ppb to PLLT_OFFSET and PLLT_DRIFT and
leaves PLLT_STATE; a larger one starts the band search toward the offset plus the step on the backup path; one beyond ±500 ppm is refused
and reported (source 0x08; the refusal at that moment is the model's reading, log entry 75); PLLT_RELOCK without changed PLL-S settings,
and PLLT_PRESCALE, start one to the same offset; COUNTER_SLEW holds its value; TIME_SET leaves a step request for the instant written. -/
def Obligations.TimeBaseWritesTakeEffect : Prop :=
  (∀ (s : State) (src : Src), Open s src →
    (∀ ppb : BitVec 32, s.dev.stepInRange (s.dev.comingSteps s.dev.effectAt + ppb.toInt) = true → s.dev.slaveRuns = false → s.dev.relockingT = false →
      Answers (.plltStep src ppb) s (fun t => s.Queued t src Obj.PLLT_STEP ppb.toNat)) ∧
    (s.dev.state = stConfig ∨ s.dev.state = stService → Answers (.plltRelock src) s (fun t => s.Queued t src Obj.PLLT_RELOCK 1)) ∧
    (∀ code : Byte, s.dev.state = stConfig → code.toNat ≤ 2 → Answers (.plltPrescale src code) s (fun t => s.Queued t src Obj.PLLT_PRESCALE code.toNat)) ∧
    (∀ slew : BitVec 16, s.dev.slaveRuns = false → Answers (.counterSlew src slew) s (fun t => s.Queued t src Obj.COUNTER_SLEW slew.toNat)) ∧
    (∀ time : BitVec 80, s.dev.state = stConfig → time.toNat % 2 ^ 32 < 1000000000 →
      Answers (.timeSet src time) s (fun t => s.Queued t src Obj.TIME_SET time.toNat))) ∧
  (∀ (d : Dev) (m : Mem) (ppb : BitVec 32), Clocked d →
    let e := (d.after m Obj.PLLT_STEP ppb.toNat).1
    (500000 < absI (d.offsetT + ppb.toInt) → e.latched 8 = true ∧ d.KeepsBut e []) ∧
    (absI (d.offsetT + ppb.toInt) ≤ 500000 → absI ppb.toInt ≤ 2000 → d.stepReady = true → absI (d.objI 32 Obj.PLLT_DRIFT + ppb.toInt) ≤ 200000 →
      e.obj Obj.PLLT_OFFSET = raw 32 (d.offsetT + ppb.toInt) ∧ e.obj Obj.PLLT_DRIFT = raw 32 (d.objI 32 Obj.PLLT_DRIFT + ppb.toInt) ∧
      ∀ k, k ≠ Obj.PLLT_OFFSET → k ≠ Obj.PLLT_DRIFT → e.obj k = d.obj k) ∧
    (absI (d.offsetT + ppb.toInt) ≤ 500000 → 2000 < absI ppb.toInt → d.obj Obj.REF_ACTIVE ≠ 0xFF →
      e.obj Obj.PLLT_STATE = 1 ∧ e.obj Obj.BACKUP_ACTIVE = 1 ∧ e.tb.pllT.target = d.offsetT + ppb.toInt ∧ e.latched 0x11 = true ∧
      d.KeepsBut e [Obj.PLLT_STATE, Obj.PLLT_BAND, Obj.BACKUP_ACTIVE])) ∧
  (∀ (d : Dev) (m : Mem), Clocked d → d.obj Obj.REF_ACTIVE ≠ 0xFF →
    (∀ v, (d.after m Obj.PLLT_PRESCALE v).1.obj Obj.PLLT_STATE = 1 ∧ (d.after m Obj.PLLT_PRESCALE v).1.obj Obj.PLLT_PRESCALE = v ∧
      (d.after m Obj.PLLT_PRESCALE v).1.tb.pllT.target = d.offsetT) ∧
    (d.tb.plsWritten = false → (d.after m Obj.PLLT_RELOCK 1).1.obj Obj.PLLT_STATE = 1 ∧
      (d.after m Obj.PLLT_RELOCK 1).1.tb.pllT.target = d.offsetT)) ∧
  (∀ (d : Dev) (m : Mem) (v : Nat), (d.after m Obj.COUNTER_SLEW v).1.obj Obj.COUNTER_SLEW = v ∧
    (∀ k, k ≠ Obj.COUNTER_SLEW → (d.after m Obj.COUNTER_SLEW v).1.obj k = d.obj k) ∧
    (d.after m Obj.TIME_SET v).1.tb.stepReq = some (nsOfTime80 v) ∧ (d.after m Obj.TIME_SET v).1.tb.sec = d.tb.sec ∧
    (d.after m Obj.TIME_SET v).1.tb.ns = d.tb.ns)

/-- AXIS_ENABLE of a DISABLED axis in RUN (its drive reports no gate-off, the axis has a group, its fold has not failed), AXIS_DISABLE of an
axis that is not UNUSED, CLEAR_FAULT of an axis in FAULT whose cause has cleared, and RC_CLEAR are accepted and wait. In effect, while the
condition still holds: ENABLE makes the axis ENABLED with its generator at rest, DISABLE makes it DISABLED, CLEAR_FAULT makes it DISABLED
with FAULT_CAUSE 0; a command whose condition no longer holds changes nothing. RC_CLEAR empties RC_TABLE and sets RC_VISITS to 0. No other
object changes. -/
def Obligations.AxisCommandsWaitAndAct : Prop :=
  (∀ (s : State) (src : Src) (axis : Fin 128), Open s src →
    (s.dev.state = stRun → s.dev.axisState axis = 1 → bit (s.dev.axis axis).status 7 = false → s.dev.obj (Obj.AXIS_GROUP axis) < 32 →
      s.dev.ctl.failedFold ≠ some (s.dev.obj (Obj.CTX_FOLD axis)) →
      Answers (.axisEnable src axis) s (fun t => s.Queued t src (Obj.AXIS_COMMAND axis) 1)) ∧
    (s.dev.axisState axis ≠ 0 → Answers (.axisDisable src axis) s (fun t => s.Queued t src (Obj.AXIS_COMMAND axis) 2)) ∧
    (s.dev.axisState axis = 4 → s.dev.causeCleared axis = true →
      Answers (.clearFault src axis) s (fun t => s.Queued t src (Obj.AXIS_COMMAND axis) 3)) ∧
    Answers (.rcClear src axis) s (fun t => s.Queued t src (Obj.RC_CLEAR axis) 1)) ∧
  (∀ (d : Dev) (m : Mem) (axis : Fin 128),
    let e := fun v => (d.after m (Obj.AXIS_COMMAND axis) v).1
    (d.axisCondition axis 1 = true → (e 1).axisState axis = 2 ∧ (e 1).obj (Obj.PROFILE_STATE axis) = 0 ∧
      (∀ k, k ≠ Obj.AXIS_STATE axis → k ≠ Obj.PROFILE_STATE axis → k ≠ Obj.PROFILE_FLAGS axis → (e 1).obj k = d.obj k)) ∧
    (d.axisCondition axis 2 = true → (e 2).axisState axis = 1 ∧ ∀ k, k ≠ Obj.AXIS_STATE axis → (e 2).obj k = d.obj k) ∧
    (d.axisCondition axis 3 = true → (e 3).axisState axis = 1 ∧ (e 3).obj (Obj.FAULT_CAUSE axis) = 0 ∧
      ∀ k, k ≠ Obj.AXIS_STATE axis → k ≠ Obj.FAULT_CAUSE axis → (e 3).obj k = d.obj k) ∧
    (∀ v, d.axisCondition axis v = false → (∀ k, (e v).obj k = d.obj k) ∧ (d.after m (Obj.AXIS_COMMAND axis) v).2 = m)) ∧
  (∀ (d : Dev) (m : Mem) (axis : Fin 128),
    let e := (d.after m (Obj.RC_CLEAR axis) 1).1
    e.blob (Obj.RC_TABLE axis) = [] ∧ e.obj (Obj.RC_VISITS axis) = 0 ∧ (∀ k, k ≠ Obj.RC_VISITS axis → e.obj k = d.obj k) ∧
    (∀ k, k ≠ Obj.RC_TABLE axis → e.blob k = d.blob k))

/-- DOMAIN_COMMIT of a customer domain in CONFIG is accepted and waits; in effect it leaves one check of that domain in progress, of the image
as it stands, and no object changes. DOMAIN_CHECK_DONE of a domain whose check runs sets DOMAIN_STATE to 2 for reason 0 and 3 otherwise,
DOMAIN_REJECT to the reason in its top byte and the instruction index below; a valid image also gives CODE_LENGTH and DOMAIN_FLAGS from
its header; no other object changes and the check is over. With no check running it changes nothing. -/
def Obligations.DomainCommitIsCheckedAndReported : Prop :=
  (∀ (s : State) (src : Src) (domain : Fin 255), Open s src → s.dev.state = stConfig → 2 ≤ domain.val →
    Answers (.domainCommit src domain) s (fun t => s.Queued t src (Obj.DOMAIN_COMMIT domain) 1)) ∧
  (∀ (d : Dev) (m : Mem) (domain : Fin 255), 2 ≤ domain.val →
    let e := (d.after m (Obj.DOMAIN_COMMIT domain) 1).1
    let r := checkImage (d.obj Obj.STEPPING) (d.image domain)
    e.checks.find? (fun c => c.domain == domain.val) = some { domain := domain, reason := r.1, instr := r.2 } ∧ ∀ k, e.obj k = d.obj k) ∧
  (∀ (s : State) (domain : Fin 255) (c : DomainCheck), s.dev.checks.find? (fun c => c.domain == domain.val) = some c →
    Answers (.domainCheckDone domain) s (fun t =>
      t.dev.obj (Obj.DOMAIN_STATE domain) = (if c.reason = 0 then 2 else 3) ∧
      t.dev.obj (Obj.DOMAIN_REJECT domain) = c.reason * 2 ^ 24 + c.instr ∧
      (c.reason = 0 → t.dev.obj (Obj.CODE_LENGTH domain) = hdr (s.dev.image domain) 6 2 ∧
        t.dev.obj (Obj.DOMAIN_FLAGS domain) = hdr (s.dev.image domain) 4 2) ∧
      (∀ k, k ≠ Obj.DOMAIN_STATE domain → k ≠ Obj.DOMAIN_REJECT domain →
        (c.reason = 0 → k ≠ Obj.CODE_LENGTH domain ∧ k ≠ Obj.DOMAIN_FLAGS domain) → t.dev.obj k = s.dev.obj k) ∧
      t.dev.checks.find? (fun c => c.domain == domain.val) = none ∧ t.dev.blobs = s.dev.blobs ∧ t.mem = s.mem)) ∧
  (∀ (s : State) (domain : Fin 255), s.dev.checks.find? (fun c => c.domain == domain.val) = none →
    Answers (.domainCheckDone domain) s (fun t => s.Same t ∧ t.dev.checks = s.dev.checks))

/-- MOVE_ABSOLUTE and MOVE_RELATIVE of an ENABLED axis whose homing is not FAULTED; VELOCITY of an ENABLED axis; GEAR_ENGAGE of an ENABLED
axis whose generator is IDLE and that has a master; HOME of an ENABLED axis whose generator is IDLE (these three outside the end of a LAND
axis and of stale service); STOP and HOME_CLEAR of an axis that is not UNUSED; and STAGE_ARM are accepted and wait. In effect each leaves
itself as the generator's command, replacing one not yet executed, and changes no object; STAGE_ARM leaves its value 1 and arms the staged
ratio at STAGE_POSITION. -/
def Obligations.ProfileCommandsAreAcceptedInTheirStates : Prop :=
  (∀ (s : State) (src : Src) (axis : Fin 128), Open s src →
    let free := ((s.dev.gen axis).land || s.dev.objB Obj.STALE_SERVICE) = false
    (s.dev.axisState axis = 2 → s.dev.obj (Obj.HOME_STATE axis) ≠ 8 →
      Answers (.moveAbsolute src axis) s (fun t => s.Queued t src (Obj.PROFILE_COMMAND axis) 1) ∧
      Answers (.moveRelative src axis) s (fun t => s.Queued t src (Obj.PROFILE_COMMAND axis) 2)) ∧
    (s.dev.axisState axis = 2 → free → Answers (.velocity src axis) s (fun t => s.Queued t src (Obj.PROFILE_COMMAND axis) 3)) ∧
    (s.dev.axisState axis ≠ 0 →
      Answers (.stop src axis) s (fun t => s.Queued t src (Obj.PROFILE_COMMAND axis) 4) ∧
      Answers (.homeClear src axis) s (fun t => s.Queued t src (Obj.PROFILE_COMMAND axis) 7)) ∧
    (s.dev.axisState axis = 2 → free → (s.dev.gen axis).state = 0 →
      (s.dev.obj (Obj.MASTER_KIND axis) ≠ 0 → Answers (.gearEngage src axis) s (fun t => s.Queued t src (Obj.PROFILE_COMMAND axis) 5)) ∧
      Answers (.home src axis) s (fun t => s.Queued t src (Obj.PROFILE_COMMAND axis) 6)) ∧
    ((s.dev.gen axis).gear.blend = false → Answers (.stageArm src axis) s (fun t => s.Queued t src (Obj.STAGE_ARM axis) 1))) ∧
  (∀ (d : Dev) (m : Mem) (axis : Fin 128) (v : Nat),
    let e := (d.after m (Obj.PROFILE_COMMAND axis) v).1
    e.gens = upd (fun g => { g with cmd := v }) d.gens axis ∧ (∀ k, e.obj k = d.obj k) ∧ (∀ k, e.blob k = d.blob k)) ∧
  (∀ (d : Dev) (m : Mem) (axis : Fin 128),
    let e := (d.after m (Obj.STAGE_ARM axis) 1).1
    e.obj (Obj.STAGE_ARM axis) = 1 ∧
    e.gens = setAt d.gens axis { d.gen axis with gear := { (d.gen axis).gear with
      armed := true, stNum := d.objI 32 (Obj.STAGED_NUM axis), stDen := d.obj (Obj.STAGED_DEN axis), stPos := d.obj (Obj.STAGE_POSITION axis)
      onP := d.masterRaw axis == d.obj (Obj.STAGE_POSITION axis) } } ∧
    (∀ k, k ≠ Obj.STAGE_ARM axis → k ≠ Obj.PROFILE_STATE axis → k ≠ Obj.PROFILE_FLAGS axis → e.obj k = d.obj k))

/-- A generator's command at its boundary, the axis ENABLED: from standstill with no dwell left, outside homing and with no limit enforced,
MOVE_ABSOLUTE moves to TARGET, MOVE_RELATIVE to the present integer position plus TARGET, VELOCITY toward TARGET_SPEED, each with
PROFILE_STATE 1; STOP in motion decelerates (PROFILE_STATE 3); GEAR_ENGAGE without a blend enters GEARED (6) at the ratio GEAR_NUM /
GEAR_DEN with the master's position of this boundary; HOME by a switch that is connected and not active enters HOMING (7) in phase 1 with
HOMED 0; HOME_CLEAR of a FAULTED or ABORTED homing sets HOME_STATE to 6 where HOMED stands, else 0. When the axis is not ENABLED, every
command but STOP and HOME_CLEAR is discarded: flag 7 is set and the motion stays. -/
def Obligations.ProfileCommandsStartTheirMotion : Prop :=
  ∀ (d : Dev) (n : Fin 128),
    let g := d.gen n
    let e := d.genCommand n true
    let free := d.objB (Obj.LIMIT_ENFORCE n) = false ∧ g.vel = 0 ∧ g.motion ≠ .dwell ∧ g.state ≠ 6 ∧ g.home.phase = 0 ∧
      (g.restDir = 0 ∨ d.obj (Obj.DWELL n) ≤ (d.now - g.restAt) / 125 + 1)
    (g.cmd = 1 → d.obj (Obj.HOME_STATE n) ≠ 8 → free → (e.gen n).motion = .move (d.objI 64 (Obj.TARGET n)) ∧ e.obj (Obj.PROFILE_STATE n) = 1) ∧
    (g.cmd = 2 → d.obj (Obj.HOME_STATE n) ≠ 8 → free →
      (e.gen n).motion = .move (sgn 40 (raw 40 (g.int + d.objI 64 (Obj.TARGET n)))) ∧ e.obj (Obj.PROFILE_STATE n) = 1) ∧
    (g.cmd = 3 → speedUnits (d.objI 32 (Obj.TARGET_SPEED n)) ≠ 0 → free →
      (e.gen n).motion = .speed (speedUnits (d.objI 32 (Obj.TARGET_SPEED n))) ∧ e.obj (Obj.PROFILE_STATE n) = 1) ∧
    (g.cmd = 4 → g.state ∈ [1, 2, 3, 4] → g.vel ≠ 0 → g.home.phase = 0 → (e.gen n).motion = .stop ∧ e.obj (Obj.PROFILE_STATE n) = 3) ∧
    (g.cmd = 5 → g.state = 0 → d.obj (Obj.BLEND_LENGTH n) = 0 → d.obj (Obj.MASTER_INDEX n) < 128 → e.obj (Obj.PROFILE_STATE n) = 6 ∧ (e.gen n).gear.num = d.objI 32 (Obj.GEAR_NUM n) ∧
      (e.gen n).gear.den = d.obj (Obj.GEAR_DEN n) ∧ e.obj (Obj.MASTER_POSITION n) = d.masterRaw n) ∧
    (g.cmd = 6 → g.state = 0 → 1 ≤ d.obj (Obj.HOME_METHOD n) → d.obj (Obj.HOME_METHOD n) ≤ 4 →
      getAt 0xFF [d.obj (Obj.LIMIT_NEG_SRC n), d.obj (Obj.LIMIT_POS_SRC n), d.obj (Obj.HOME_SRC n)] (homeSwitch (d.obj (Obj.HOME_METHOD n))) ≠ 0xFF →
      (getAt idleSwitch g.switches (homeSwitch (d.obj (Obj.HOME_METHOD n)))).level = false →
      e.obj (Obj.PROFILE_STATE n) = 7 ∧ e.obj (Obj.HOME_STATE n) = 1 ∧ e.obj (Obj.HOMED n) = 0) ∧
    (g.cmd = 7 → d.obj (Obj.HOME_STATE n) ∈ [7, 8] → e.obj (Obj.HOME_STATE n) = (if d.objB (Obj.HOMED n) then 6 else 0)) ∧
    (g.cmd ≠ 0 → g.cmd ≠ 4 → g.cmd ≠ 7 → ((d.genCommand n false).gen n) = ({ g with cmd := 0 } : Gen).flag 7 true)

/-- PROFILE_TICK moves the elapsed time on by 125 ns, and TIME80 with it while the counter runs, as far as the effective slew lets it: without
slew by 125 ns; with it, by what stood between the counter and its next 125th nanosecond and what a carry puts it past; at each 1,000 ns
mark the fraction takes the slew. In READY, RUN and SERVICE of a unit that heads, every generator with work to do, outside homing and with
no dwell run out takes one tick under its own speeds, and one without keeps position and velocity; no speed of a move rises above VMAX.
TIME_STEP at a cycle boundary with a request pending sets TIME80 to the instant asked for, discards the timed-action list, raises
STEP_COUNT (saturating) and reports source 0x1A in CONFIG and READY; in any other state or at any other instant it changes nothing. -/
def Obligations.TicksMoveTimeAndGenerators : Prop :=
  (∀ s : State, Answers .profileTick s (fun t => t.dev.now = s.dev.now + 125 ∧
    (s.dev.tb.running = true → t.dev.tb.ns = (s.dev.tb.tick s.dev.effSlew).ns ∧ t.dev.tb.sec = (s.dev.tb.tick s.dev.effSlew).sec ∧
      t.dev.tb.frac = (s.dev.tb.tick s.dev.effSlew).frac) ∧
    (s.dev.tb.running = false → t.dev.tb.ns = s.dev.tb.ns ∧ t.dev.tb.sec = s.dev.tb.sec) ∧
    (s.dev.state ∈ [stReady, stRun, stService] → s.dev.isHead = true → ∀ n : Fin 128,
      ((s.dev.gen n).busy = true → (s.dev.gen n).home.phase = 0 → ((s.dev.gen n).motion ≠ .dwell ∨ (s.dev.gen n).dwell ≠ 0) →
        (t.dev.gen n).acc = ((s.dev.gen n).tick (s.dev.genCfg n) (s.dev.obj (Obj.DWELL n))).acc ∧
        (t.dev.gen n).vel = ((s.dev.gen n).tick (s.dev.genCfg n) (s.dev.obj (Obj.DWELL n))).vel) ∧
      ((s.dev.gen n).busy = false → (t.dev.gen n).acc = (s.dev.gen n).acc ∧ (t.dev.gen n).vel = (s.dev.gen n).vel)))) ∧
  (∀ (b : TimeBase) (slew : Int),
    let e := b.tick slew
    e.ns = (b.ns + (125 - b.ahead + e.ahead)) % 1000000000 ∧ e.sec = (b.sec + (b.ns + (125 - b.ahead + e.ahead)) / 1000000000) % 2 ^ 48 ∧
    (125 - b.ahead < 1000 - b.sinceMark → e.frac = b.frac ∧ e.ahead = 0) ∧
    (1000 - b.sinceMark ≤ 125 - b.ahead → (e.frac : Int) = (b.frac + slew) % 65536) ∧
    (slew = 0 → b.frac < 65536 → e.ahead = 0)) ∧
  (∀ (c : GenCfg) (g : Gen) (target : Int), 0 ≤ c.vs → c.vs ≤ c.vmax → 0 ≤ c.ve → 0 ≤ c.vb → 0 ≤ c.d1 → 0 ≤ c.d2 → absI g.vel ≤ c.vmax →
    absI (g.tickMove c target).vel ≤ c.vmax) ∧
  (∀ (s : State) (ns : Nat), s.dev.state = stConfig ∨ s.dev.state = stReady → s.dev.cyc.startAt = s.dev.now → s.dev.tb.stepReq = some ns →
    Answers .timeStep s (fun t => t.dev.tb.sec = ns / 1000000000 % 2 ^ 48 ∧ t.dev.tb.ns = ns % 1000000000 ∧ t.dev.tb.stepReq = none ∧
      t.dev.tally.timed = [] ∧ t.dev.latched 0x1A = true ∧ s.Sets t [(Obj.STEP_COUNT, satAdd 16 (s.dev.obj Obj.STEP_COUNT) 1)])) ∧
  (∀ s : State, (s.dev.state ≠ stConfig ∧ s.dev.state ≠ stReady) ∨ s.dev.cyc.startAt ≠ s.dev.now → Answers .timeStep s (fun t => s.Same t ∧ t.dev.tb = s.dev.tb))

/-- A dwell that has run out ends at rest with nothing pending, and starts the pending motion otherwise (no limit enforced). A LAND generator
idle for LAND_WAIT counts as waited. A switch whose run of samples at a new level has reached n_q takes that level and is locked out,
shown in its flag of PROFILE_FLAGS; a qualified home switch in homing phase 3 of methods 3 and 4 gives the reference and phase 5. A
lockout that has lasted LOCKOUT ends, and the count of samples starts again. Where its condition does not hold, none of them changes any
object. -/
def Obligations.GeneratorEventsActOnTheirAxis : Prop :=
  (∀ (s : State) (axis : Fin 128),
    let g := s.dev.gen axis
    (g.motion = .dwell → g.dwell = 0 → g.home.phase = 0 → Answers (.dwellEnd axis) s (fun t =>
      (g.pending = .none → t.dev.obj (Obj.PROFILE_STATE axis) = 0 ∧ (t.dev.gen axis).vel = 0 ∧ (t.dev.gen axis).motion = .none) ∧
      (g.pending ≠ .none → g.pending ≠ .speed 0 → s.dev.objB (Obj.LIMIT_ENFORCE axis) = false → t.dev.obj (Obj.PROFILE_STATE axis) = 1 ∧ (t.dev.gen axis).motion = g.pending) ∧
      (∀ k, k ≠ Obj.PROFILE_STATE axis → k ≠ Obj.PROFILE_FLAGS axis → t.dev.obj k = s.dev.obj k) ∧ t.mem = s.mem)) ∧
    (g.motion ≠ .dwell ∨ g.dwell ≠ 0 → Answers (.dwellEnd axis) s (fun t => s.Same t ∧ t.dev.gens = s.dev.gens))) ∧
  (∀ (s : State) (axis : Fin 128),
    let g := s.dev.gen axis
    (g.land = true → g.state = 0 → g.landFrom + s.dev.obj (Obj.LAND_WAIT axis) * 1000000 ≤ s.dev.now →
      Answers (.landWaitExpiry axis) s (fun t => (t.dev.gen axis).landWaited = true ∧ (t.dev.gen axis).acc = g.acc ∧
        (t.dev.gen axis).landStill = true ∧ ∀ k, k ≠ Obj.PROFILE_STATE axis → k ≠ Obj.PROFILE_FLAGS axis → t.dev.obj k = s.dev.obj k)) ∧
    (g.land = false → Answers (.landWaitExpiry axis) s (fun t => s.Same t ∧ t.dev.gens = s.dev.gens))) ∧
  (∀ (s : State) (axis : Fin 128) (which : Fin 3),
    let sw := getAt idleSwitch (s.dev.gen axis).switches which
    (sw.locked = false → sw.runLevel ≠ sw.level → s.dev.qualCount axis ≤ sw.run →
      Answers (.switchQualified axis which) s (fun t =>
        ((s.dev.gen axis).home.phase = 0 → (getAt idleSwitch (t.dev.gen axis).switches which).level = sw.runLevel ∧
          (getAt idleSwitch (t.dev.gen axis).switches which).locked = true ∧ bit (t.dev.obj (Obj.PROFILE_FLAGS axis)) (2 + which) = sw.runLevel) ∧
        ((s.dev.gen axis).home.phase = 3 → (s.dev.gen axis).home.method ∈ [3, 4] → which = 2 → sw.runLevel = true →
          t.dev.obj (Obj.HOME_STATE axis) = 5 ∧ (t.dev.gen axis).home.ref = some sw.runPos))) ∧
    (sw.locked = true ∨ sw.runLevel = sw.level ∨ sw.run < s.dev.qualCount axis →
      Answers (.switchQualified axis which) s (fun t => s.Same t ∧ t.dev.gens = s.dev.gens))) ∧
  (∀ (s : State) (axis : Fin 128) (which : Fin 3),
    let sw := getAt idleSwitch (s.dev.gen axis).switches which
    (sw.locked = true → sw.lockedAt + s.dev.obj (Obj.LOCKOUT axis) * 1000000 ≤ s.dev.now →
      Answers (.switchLockoutEnd axis which) s (fun t => (getAt idleSwitch (t.dev.gen axis).switches which).locked = false ∧
        (getAt idleSwitch (t.dev.gen axis).switches which).run = 0 ∧ (getAt idleSwitch (t.dev.gen axis).switches which).level = sw.level ∧
        ∀ k, k ≠ Obj.PROFILE_STATE axis → k ≠ Obj.PROFILE_FLAGS axis → t.dev.obj k = s.dev.obj k)) ∧
    (sw.locked = false → Answers (.switchLockoutEnd axis which) s (fun t => s.Same t ∧ t.dev.gens = s.dev.gens)))

/-- PULSE_INPUT_EDGE takes the new levels, inverted where PI_INVERT says: in quadrature one step forward or back counts up or down, a jump by
two raises PI_ERRORS and leaves the count; in pulse and direction a rising pulse counts by the direction; in up/down each rising input
counts its way; out of use the count stays. The count wraps at 32 bits. PULSE_Z_EDGE that changes the level of an input in use sets
PI_Z_TIME to TIME80 of the edge, and every axis that homes on this input and remembers none yet remembers the edge; with the level as it
was, or at an input out of use, it changes no object. -/
def Obligations.PulseInputsCountAndStamp : Prop :=
  (∀ (s : State) (input : Fin 8) (a b : Bool),
    let q := getAt idlePulseIn s.dev.pulseIn input
    let a1 := a != bit (s.dev.obj (Obj.PI_INVERT input)) 0
    let b1 := b != bit (s.dev.obj (Obj.PI_INVERT input)) 1
    let turn := (quadPlace a1 b1 + 4 - quadPlace q.a q.b) % 4
    let counts := fun c : Nat => fun t : State => t.dev.pulseIn = setAt s.dev.pulseIn input { q with a := a1, b := b1, count := c }
    (s.dev.obj (Obj.PI_MODE input) = 1 →
      (turn = 0 → Answers (.pulseInputEdge input a b) s (fun t => counts q.count t ∧ s.Same t)) ∧
      (turn = 1 → Answers (.pulseInputEdge input a b) s (fun t => counts (raw 32 ((q.count : Int) + 1)) t ∧ s.Same t)) ∧
      (turn = 3 → Answers (.pulseInputEdge input a b) s (fun t => counts (raw 32 ((q.count : Int) - 1)) t ∧ s.Same t)) ∧
      (turn = 2 → Answers (.pulseInputEdge input a b) s (fun t => counts q.count t ∧
        s.Puts t [(Obj.PI_ERRORS input, satAdd 32 (s.dev.obj (Obj.PI_ERRORS input)) 1)]))) ∧
    (s.dev.obj (Obj.PI_MODE input) = 2 → Answers (.pulseInputEdge input a b) s (fun t => s.Same t ∧
      counts (if a1 && !q.a then raw 32 ((q.count : Int) + if b1 then 1 else -1) else q.count) t)) ∧
    (s.dev.obj (Obj.PI_MODE input) = 3 → Answers (.pulseInputEdge input a b) s (fun t => s.Same t ∧
      counts (raw 32 ((q.count : Int) + ((if a1 && !q.a then 1 else 0) - (if b1 && !q.b then 1 else 0)))) t)) ∧
    (s.dev.obj (Obj.PI_MODE input) = 0 → Answers (.pulseInputEdge input a b) s (fun t => counts q.count t ∧ s.Same t))) ∧
  (∀ (s : State) (input : Fin 8) (high : Bool) (off : Fin 125),
    let active := ((high != bit (s.dev.obj (Obj.PI_INVERT input)) 2) != (getAt idlePulseIn s.dev.pulseIn input).z) && s.dev.obj (Obj.PI_MODE input) != 0
    (active = true → Answers (.pulseZEdge input high off) s (fun t => s.Puts t [(Obj.PI_Z_TIME input, s.dev.time80 off)] ∧
      ∀ n : Fin 128, s.dev.obj (Obj.INDEX_SOURCE n) = 0x20 + input → (s.dev.gen n).home.phase = 4 → (s.dev.gen n).zEdge = none →
        (t.dev.gen n).zEdge = some (s.dev.now + off))) ∧
    (active = false → Answers (.pulseZEdge input high off) s (fun t => s.Same t ∧ t.dev.gens = s.dev.gens)))

/-- BLACK_START and START_ON_LIVE of a grid-former that is OFF and enabled in RUN with enough DC voltage (the first on an open tie and a dead
bus, outside stale service; the second on a bus inside the utility window), SYNC of one FORMING on an open tie that owns both utility
ports, CANCEL_SYNC of one SYNCING, STOP of one in STARTING, FORMING, SYNCING or PARALLEL, CLEAR_TRIP of one TRIPPED whose cause is gone,
GF_TIE and GF_RC_CLEAR are accepted and wait. In effect, while the condition holds, GF_STATE becomes STARTING; FORMING, or PARALLEL on a
closed tie; SYNCING; FORMING; STOPPING; OFF with GF_TRIP_CAUSE 0; while it does not, GF_STATE stays and source 0xB0 is reported. A changed
GF_TIE takes SYNCING, FORMING and STARTING to PARALLEL as it closes and PARALLEL to FORMING as it opens; an unchanged one has no effect.
RC_CLEAR empties the three tables. -/
def Obligations.GridFormerCommandsAct : Prop :=
  (∀ (s : State) (src : Src), Open s src →
    let d := s.dev
    let start := d.gfState = 0 ∧ d.state = stRun ∧ d.objB Obj.GF_ENABLE = true ∧ (d.obj Obj.GF_VDC_START_MIN : Int) ≤ d.gfVdc
    (start → d.objB Obj.GF_TIE = false → d.gf.ownAmp < 419430 → d.objB Obj.STALE_SERVICE = false →
      Answers (.blackStart src) s (fun t => s.Queued t src Obj.GF_COMMAND 1)) ∧
    (start → d.ownInWindow = true → Answers (.startOnLive src) s (fun t => s.Queued t src Obj.GF_COMMAND 2)) ∧
    (d.gfState = 2 → d.objB Obj.GF_TIE = false → d.gfOwns 10 = true → d.gfOwns 11 = true →
      Answers (.sync src) s (fun t => s.Queued t src Obj.GF_COMMAND 3)) ∧
    (d.gfState = 3 → Answers (.cancelSync src) s (fun t => s.Queued t src Obj.GF_COMMAND 4)) ∧
    (d.gfState ∈ [1, 2, 3, 4] → Answers (.gfStop src) s (fun t => s.Queued t src Obj.GF_COMMAND 5)) ∧
    (d.gfState = 6 → d.gfCausePresent (d.obj Obj.GF_TRIP_CAUSE) = false →
      Answers (.clearTrip src) s (fun t => s.Queued t src Obj.GF_COMMAND 6)) ∧
    (∀ closed : Bool, Answers (.gfTie src closed) s (fun t => s.Queued t src Obj.GF_TIE (b2n closed))) ∧
    Answers (.gfRcClear src) s (fun t => s.Queued t src Obj.GF_RC_CLEAR 1)) ∧
  (∀ (d : Dev) (m : Mem),
    let e := fun v => (d.after m Obj.GF_COMMAND v).1
    (∀ v st : Nat, (v, st) ∈ [(1, 1), (2, if d.objB Obj.GF_TIE then 4 else 2), (3, 3), (4, 2), (5, 5), (6, 0)] → d.gfCondition v = true →
      (e v).gfState = st ∧ (v = 6 → (e v).obj Obj.GF_TRIP_CAUSE = 0) ∧ (v ≠ 6 → (e v).obj Obj.GF_TRIP_CAUSE = d.obj Obj.GF_TRIP_CAUSE) ∧
      d.KeepsBut (e v) [Obj.GF_STATE, Obj.GF_TRIP_CAUSE]) ∧
    (∀ v, d.gfCondition v = false → d.KeepsBut (e v) [] ∧ (e v).latched 0xB0 = true ∧ (e v).gf = d.gf)) ∧
  (∀ (d : Dev) (m : Mem),
    let e := fun v => (d.after m Obj.GF_TIE v).1
    (d.obj Obj.GF_TIE = 0 → (e 1).obj Obj.GF_TIE = 1 ∧ d.KeepsBut (e 1) [Obj.GF_TIE, Obj.GF_STATE] ∧
      (d.gfState ∈ [1, 2, 3] → (e 1).gfState = 4) ∧ (d.gfState ∉ [1, 2, 3] → (e 1).gfState = d.gfState) ∧
      (d.gfState ∈ [1, 2] → (e 1).latched 0xB7 = true)) ∧
    (d.obj Obj.GF_TIE = 1 → (e 0).obj Obj.GF_TIE = 0 ∧ d.KeepsBut (e 0) [Obj.GF_TIE, Obj.GF_STATE] ∧
      (d.gfState = 4 → (e 0).gfState = 2) ∧ (d.gfState ≠ 4 → (e 0).gfState = d.gfState)) ∧
    (∀ k, (e (d.obj Obj.GF_TIE)).obj k = d.obj k)) ∧
  (∀ (d : Dev) (m : Mem), ∀ x : Fin 3, ((d.after m Obj.GF_RC_CLEAR 1).1).blob (Obj.GF_RC_TABLE x) = [])

/-- STARTING settled for BS_SETTLE becomes FORMING; a ramp held longer than BS_STALL_MAX trips with cause 6 and sources 0xBA and 0xB1;
RT_RELEASE without limiting ends LIMITING (source 0xB3), but in STARTING; SYNCING whose conditions have held for SC_TIME gets its permit
(0xB4); a utility window held for SC_UTIL_TIME is reported (0xB6); PARALLEL with the window lost for 100 ms, or a point of the
ride-through curve exceeded, requests the tie open (0xB5); STOPPING ends in OFF with no leg requested, when the ramp is down or,
unloading, when twice the ramp time has passed. STALL, UTILITY_LOST and GF_STOP_DONE in any other GF_STATE change nothing. -/
def Obligations.GridFormerEventsFollowTheirTimers : Prop :=
  (∀ (s : State) (from0 : Nat), s.dev.gf.settleFrom = some from0 → s.dev.gfState = 1 → from0 + s.dev.obj Obj.GF_BS_SETTLE * 1000000 ≤ s.dev.now →
    Answers .bsSettleDone s (fun t => s.Sets t [(Obj.GF_STATE, 2)] ∧ t.dev.latched 0xB0 = true)) ∧
  (∀ s : State, s.dev.gfState = 1 → s.dev.obj Obj.GF_BS_STALL_MAX * 1000000 < s.dev.gf.stallNs →
    Answers .stall s (fun t => s.Sets t [(Obj.GF_STATE, 6), (Obj.GF_TRIP_CAUSE, 6)] ∧ t.dev.latched 0xBA = true ∧ t.dev.latched 0xB1 = true ∧
      t.dev.legReqs = [])) ∧
  (∀ s : State, s.dev.gfState ≠ 1 → Answers .stall s (fun t => s.Same t ∧ t.dev.gf = s.dev.gf)) ∧
  (∀ (s : State) (at0 : Nat), s.dev.gf.limitedAt = some at0 → s.dev.gfState ≠ 1 → at0 + s.dev.obj Obj.GF_RT_RELEASE * 1000000 ≤ s.dev.now →
    Answers .rtReleaseExpiry s (fun t => t.dev.gf.limitedAt = none ∧ t.dev.gf.limitingFrom = none ∧ bit t.dev.gf.flags 2 = false ∧
      t.dev.latched 0xB3 = true ∧ s.Only t [])) ∧
  (∀ (s : State) (from0 : Nat), s.dev.gf.syncFrom = some from0 → s.dev.gfState = 3 → s.dev.gf.permit = false →
    from0 + s.dev.obj Obj.GF_SC_TIME * 1000000 ≤ s.dev.now →
    Answers .syncPermit s (fun t => t.dev.gf.permit = true ∧ t.dev.latched 0xB4 = true ∧ s.Only t [])) ∧
  (∀ (s : State) (from0 : Nat), s.dev.gf.utilFrom = some from0 → s.dev.gf.utilOkRaised = false →
    from0 + s.dev.obj Obj.GF_SC_UTIL_TIME * 1000000000 ≤ s.dev.now →
    Answers .utilityOk s (fun t => t.dev.gf.utilOkRaised = true ∧ t.dev.latched 0xB6 = true ∧ s.Only t [])) ∧
  (∀ s : State, s.dev.gfState = 4 → s.dev.gf.tieOpen = false →
    ((∃ from0, s.dev.gf.lostFrom = some from0 ∧ from0 + 100000000 ≤ s.dev.now) ∨ s.dev.rtViolated ≠ none) →
    Answers .utilityLost s (fun t => t.dev.gf.tieOpen = true ∧ t.dev.latched 0xB5 = true ∧ s.Only t [])) ∧
  (∀ s : State, s.dev.gfState ≠ 4 → Answers .utilityLost s (fun t => s.Same t ∧ t.dev.gf = s.dev.gf)) ∧
  (∀ s : State, s.dev.gfState = 5 →
    (s.dev.gf.unload = false ∧ s.dev.gf.eRamp = 0) ∨
      (s.dev.gf.unload = true ∧ s.dev.gf.stopFrom + 2 * (s.dev.obj Obj.GF_BS_RAMP_TIME * 1000000) ≤ s.dev.now) →
    Answers .gfStopDone s (fun t => s.Sets t [(Obj.GF_STATE, 0)] ∧ t.dev.legReqs = [] ∧ t.dev.gf.running = false)) ∧
  (∀ s : State, s.dev.gfState ≠ 5 → Answers .gfStopDone s (fun t => s.Same t ∧ t.dev.gf = s.dev.gf))

/-- In STARTING, FORMING, SYNCING, PARALLEL and STOPPING: V_DC low for 10 ms (cause 1), high for 1 ms (2), the current sum beyond its limit
for 3 cycles (3), GF_MISS_LIMIT cycles without a commit (4) and LIMITING longer than LIMIT_MAX (5) make GF_STATE TRIPPED with that
GF_TRIP_CAUSE, leave no leg request and report source 0xB1; nothing else in the dictionary changes. One that is OFF or TRIPPED is not
tripped again. Each of the five commands answers a next state in either case. TIE_OPEN_REQUEST stays as it was. -/
def Obligations.GridFormerTripsOpenEveryLeg : Prop :=
  (∀ (s : State) (from0 : Nat), s.dev.gfRuns → s.dev.gf.dcLowFrom = some from0 → from0 + 10000000 ≤ s.dev.now →
    Answers .gfTripDcLow s (fun t => s.GfTrips t 1)) ∧
  (∀ (s : State) (from0 : Nat), s.dev.gfRuns → s.dev.gf.dcHighFrom = some from0 → from0 + 1000000 ≤ s.dev.now →
    Answers .gfTripDcHigh s (fun t => s.GfTrips t 2)) ∧
  (∀ s : State, s.dev.gfRuns → 3 ≤ s.dev.gf.isum → Answers .gfTripCurrentSum s (fun t => s.GfTrips t 3)) ∧
  (∀ s : State, s.dev.gfRuns → s.dev.computes 128 = true → (s.dev.axis 128).work.full ≠ 3 → s.dev.cyc.dispatched = false →
    s.dev.obj Obj.GF_MISS_LIMIT ≤ (s.dev.axis 128).miss + 1 → Answers .gfMissedCommits s (fun t => s.GfTrips t 4)) ∧
  (∀ (s : State) (from0 : Nat), s.dev.gfRuns → s.dev.gf.limitingFrom = some from0 →
    from0 + s.dev.obj Obj.GF_LIMIT_MAX * 1000000 < s.dev.now → Answers .gfLimitTooLong s (fun t => s.GfTrips t 5)) ∧
  (∀ s : State, s.dev.gfState = 0 ∨ s.dev.gfState = 6 →
    Answers .gfTripDcLow s (fun t => s.Same t ∧ t.dev.gf = s.dev.gf) ∧ Answers .gfTripDcHigh s (fun t => s.Same t ∧ t.dev.gf = s.dev.gf) ∧
    Answers .gfTripCurrentSum s (fun t => s.Same t ∧ t.dev.gf = s.dev.gf) ∧
    Answers .gfLimitTooLong s (fun t => s.Same t ∧ t.dev.gf = s.dev.gf)) ∧
  (∀ s : State, s.dev.gfState = 6 → Answers .gfMissedCommits s (fun t => s.Same t ∧ t.dev.gf = s.dev.gf))

/-- ENABLE of a port that is OFF, TRIPPED or in FAULT and clear of its fast channels, DISABLE, SELFTEST of an eligible port and RESTART are
accepted and wait; in effect ENABLE sends CLEAR and awaits a TEL record, DISABLE makes the port OFF (0) with no edge queued, SELFTEST of
an idle linked port makes it 7 with result 0, RESTART of an enabled link makes it 1. A link start done within 60 ns of delay and with all
six comparators good makes the port 2, or 4 while a trip of it stands, with its LEG_DELAY and result; a longer delay or a failed
comparator FAULT (5) with cause 0x11 or 0x10. A start that has not ended after 5 ms is FAULT with cause 0x12. A lost link makes it 6,
sends TRIP and stays silent for 10 µs; a signal that returns after that makes it 1, one that returns before waits for its end. -/
def Obligations.LegCommandsAndLinksFollowTheirPort : Prop :=
  (∀ (s : State) (src : Src) (port : Fin 20), Open s src →
    (s.dev.legState port ∈ [0, 4, 5] → s.dev.fastClear port = true →
      Answers (.legEnable src port) s (fun t => s.Queued t src (Obj.LEG_COMMAND port) 1)) ∧
    Answers (.legDisable src port) s (fun t => s.Queued t src (Obj.LEG_COMMAND port) 2) ∧
    (s.dev.testEligible port = true → Answers (.legSelftest src port) s (fun t => s.Queued t src (Obj.LEG_COMMAND port) 3)) ∧
    Answers (.legRestart src port) s (fun t => s.Queued t src (Obj.LEG_COMMAND port) 4)) ∧
  (∀ (d : Dev) (m : Mem) (port : Fin 20),
    let e := fun v => (d.after m (Obj.LEG_COMMAND port) v).1
    (d.legState port ∈ [0, 4, 5] → d.fastClear port = true → d.legSends port = true →
      (∃ crc, Emit.legCmd port 0x20 0 crc ∈ (e 1).emitted) ∧ (e 1).legs = upd (fun l => { l with clearing := true, off := false }) d.legs port ∧
      ∀ k, (e 1).obj k = d.obj k) ∧
    ((e 2).legState port = 0 ∧ (e 2).legs = upd (fun l => { l with off := true, queue := [], clearing := false, test := none }) d.legs port ∧
      ∀ k, k ≠ Obj.LEG_STATE port → (e 2).obj k = d.obj k) ∧
    (d.testEligible port = true → (d.leg port).linked = true → (d.leg port).queue = [] → (d.leg port).state = 0 → (d.leg port).test = none →
      d.legState port ∈ [0, 2, 4, 5] → (e 3).legState port = 7 ∧ (e 3).obj (Obj.LEG_SELFTEST_RESULT port) = 0 ∧
      ∀ k, k ≠ Obj.LEG_STATE port → k ≠ Obj.LEG_SELFTEST_RESULT port → (e 3).obj k = d.obj k) ∧
    (d.objB (Obj.LINK_ENABLE port) = true → d.cycling = true → (e 4).legState port = 1 ∧ ∀ k, k ≠ Obj.LEG_STATE port → (e 4).obj k = d.obj k)) ∧
  (∀ (s : State) (port : Fin 20) (rt : BitVec 16) (pass : BitVec 6), (s.dev.leg port).starting = true →
    let back := if (s.dev.leg port).discard then 4 else 2
    let delay := (rt.toNat - 40) / 2
    (delay ≤ 60 → pass.toNat = 63 → Answers (.legLinkStartDone port rt pass) s (fun t => t.dev.latched 0x93 = true ∧ t.dev.latched 0x95 = true ∧
      s.Sets t [(Obj.LEG_DELAY port, delay), (Obj.LEG_SELFTEST_RESULT port, 191), (Obj.LEG_STATE port, back)])) ∧
    (60 < delay → Answers (.legLinkStartDone port rt pass) s (fun t => t.dev.latched 0x92 = true ∧
      s.Sets t [(Obj.LEG_DELAY port, delay), (Obj.LEG_STATE port, 5), (Obj.LEG_FAULT_CAUSE port, 0x11)])) ∧
    (delay ≤ 60 → pass.toNat ≠ 63 → Answers (.legLinkStartDone port rt pass) s (fun t => t.dev.latched 0x92 = true ∧
      s.Sets t [(Obj.LEG_DELAY port, delay), (Obj.LEG_SELFTEST_RESULT port, pass.toNat + 128), (Obj.LEG_STATE port, 5),
        (Obj.LEG_FAULT_CAUSE port, 0x10)])) ∧
    ((s.dev.leg port).startAt + 5000000 ≤ s.dev.now →
      Answers (.legStartTimeout port) s (fun t => t.dev.latched 0x92 = true ∧ s.Sets t [(Obj.LEG_STATE port, 5), (Obj.LEG_FAULT_CAUSE port, 0x12)])) ∧
    (s.dev.now < (s.dev.leg port).startAt + 5000000 →
      Answers (.legStartTimeout port) s (fun t => s.Same t ∧ t.dev.legs = s.dev.legs))) ∧
  (∀ (s : State) (port : Fin 20), s.dev.objB (Obj.LINK_ENABLE port) = true → (s.dev.leg port).lost = false → s.dev.cycling = true →
    Answers (.legLinkLoss port) s (fun t => s.Sets t [(Obj.LEG_STATE port, 6)] ∧ t.dev.latched 0x93 = true ∧ (t.dev.leg port).linked = false ∧
      (t.dev.leg port).silentTo = s.dev.now + 10000 ∧ (s.dev.legSends port = true → Emit.legTrip port ∈ t.dev.emitted))) ∧
  (∀ (s : State) (port : Fin 20), (s.dev.leg port).lost = true →
    ((s.dev.leg port).silentTo ≤ s.dev.now → s.dev.objB (Obj.LINK_ENABLE port) = true → s.dev.cycling = true →
      Answers (.legSignalReturn port) s (fun t => s.Puts t [(Obj.LEG_STATE port, 1)] ∧ (t.dev.leg port).starting = true)) ∧
    (s.dev.now < (s.dev.leg port).silentTo → Answers (.legSignalReturn port) s (fun t => s.Same t ∧ (t.dev.leg port).signal = true)))

/-- A TEL record at an enabled link while cycles run: with a wrong check RX_ERRORS is raised and nothing else is done. With a good check
TELEMETRY takes the record; a port awaiting the answer to CLEAR goes to state 2 when the record shows neither fault nor blocking; a fault
shown in state 2 or 3 puts the port in FAULT (5) with the record's cause code and source 0x92; a report bit raises DRIVER_REPORTS and
source 0x94. A link not enabled ignores the record. -/
def Obligations.TelRecordsDecideTheirPort : Prop :=
  ∀ (s : State) (port : Fin 20) (tel : BitVec 56) (off : Fin 125),
    let w := tel.toNat
    (s.dev.objB (Obj.LINK_ENABLE port) = false → Answers (.legTelRx port tel off) s (fun t => s.Same t ∧ t.dev.legs = s.dev.legs)) ∧
    (s.dev.cycling = true → s.dev.objB (Obj.LINK_ENABLE port) = true →
      (legCrc (w / 256) ≠ w % 256 → Answers (.legTelRx port tel off) s (fun t =>
        s.Puts t [(Obj.RX_ERRORS port, satAdd 32 (s.dev.obj (Obj.RX_ERRORS port)) 1)] ∧ t.dev.legs = s.dev.legs)) ∧
      (legCrc (w / 256) = w % 256 → bits w 41 39 = 0 →
        ((s.dev.leg port).clearing = true → bit w 51 = false → bit w 37 = false → Answers (.legTelRx port tel off) s (fun t =>
          s.Puts t [(Obj.TELEMETRY port, w), (Obj.LEG_STATE port, 2)] ∧ (t.dev.leg port).clearing = false ∧ (t.dev.leg port).discard = false)) ∧
        ((s.dev.leg port).clearing = false → bit w 51 = true → s.dev.legState port ∈ [2, 3] → Answers (.legTelRx port tel off) s (fun t =>
          s.Sets t [(Obj.TELEMETRY port, w), (Obj.LEG_STATE port, 5), (Obj.LEG_FAULT_CAUSE port, bits w 50 48)] ∧ t.dev.latched 0x92 = true)) ∧
        ((s.dev.leg port).clearing = false → bit w 51 = false → Answers (.legTelRx port tel off) s (fun t =>
          s.Puts t [(Obj.TELEMETRY port, w)]))) ∧
      (legCrc (w / 256) = w % 256 → bits w 41 39 ≠ 0 → (s.dev.leg port).clearing = false → bit w 51 = false →
        Answers (.legTelRx port tel off) s (fun t => t.dev.latched 0x94 = true ∧
          s.Sets t [(Obj.TELEMETRY port, w), (Obj.DRIVER_REPORTS port, satAdd 32 (s.dev.obj (Obj.DRIVER_REPORTS port)) 1)])))

/-- In RUN, the first edge that waits leaves once its time lies 2 µs to 20 µs ahead, with the next sequence number, and is no longer queued;
one farther ahead stays. The held state of a mapped port is repeated after QUEUE_DRY / 2 at an instant 2 µs to 20 µs ahead and not before
the record sent last. A TIME record leaves on every port that sends and whose link is not starting, and on no other. A self-test that ends
gives its result: all six good returns the port to the state before, any other is FAULT with cause 0x10. In RUN the period starts the
self-test of an eligible idle port. A fast channel beyond its threshold trips every leg in its FAST_MAP (state 4, TRIPS raised, source
0x91). 64 equal bits set STUCK (source 0x96). -/
def Obligations.LegRecordsAndTripsAreSent : Prop :=
  (∀ (s : State) (port : Fin 20) (e : Edge) (rest : List Edge), (s.dev.leg port).queue = e :: rest →
    (s.dev.timeNs 0 + 20000 < e.at16 / 16 → Answers (.edgeRecordSend port) s (fun t => s.Same t ∧ t.dev.legs = s.dev.legs)) ∧
    (e.at16 / 16 ≤ s.dev.timeNs 0 + 20000 → s.dev.timeNs 0 + 2000 ≤ e.at16 / 16 → (s.dev.leg port).discard = false →
      s.dev.legSends port = true → s.dev.state = stRun → s.dev.isHead = true → Answers (.edgeRecordSend port) s (fun t => s.Same t ∧ (t.dev.leg port).queue = rest ∧
        (t.dev.leg port).seq = ((s.dev.leg port).seq + 1) % 256 ∧
        ∃ crc, Emit.legEdge port e.state e.at16 (((s.dev.leg port).seq + 1) % 256) crc ∈ t.dev.emitted))) ∧
  (∀ (s : State) (port : Fin 20), s.dev.state = stRun → s.dev.isHead = true → (s.dev.leg port).discard = false → s.dev.slotOf port ≠ none →
    s.dev.legSends port = true → (s.dev.leg port).sentAt + s.dev.obj (Obj.QUEUE_DRY port) / 2 ≤ s.dev.now → (s.dev.leg port).queue = [] →
    (s.dev.leg port).lastAt16 ≤ 16 * (s.dev.timeNs 0 + 20000) → Answers (.legStateRepeat port) s (fun t => s.Same t ∧ ∃ at0 seq crc, s.dev.timeNs 0 + 2000 ≤ at0 ∧ at0 ≤ s.dev.timeNs 0 + 20000 ∧ (s.dev.leg port).lastAt16 ≤ at0 * 16 ∧
      Emit.legEdge port (s.dev.leg port).state (at0 * 16) seq crc ∈ t.dev.emitted)) ∧
  (∀ (s : State) (port : Fin 20) (off : Fin 125),
    (s.dev.legSends port = true → (s.dev.leg port).starting = false → Answers (.legTimeRecord port off) s (fun t => s.Same t ∧ ∃ crc,
      Emit.legTime port s.dev.legActive (ns32 (s.dev.timeNs off + s.dev.obj (Obj.LEG_DELAY port))) (s.dev.obj (Obj.EPOCH 0) % 256) crc ∈ t.dev.emitted)) ∧
    (s.dev.legSends port = false ∨ (s.dev.leg port).starting = true → Answers (.legTimeRecord port off) s (fun t => s.Same t ∧ t.dev.emitted = []))) ∧
  (∀ (s : State) (port : Fin 20) (pass : BitVec 6), (s.dev.leg port).test ≠ none →
    (pass.toNat = 63 → Answers (.selftestDone port pass) s (fun t => t.dev.latched 0x95 = true ∧
      s.Sets t [(Obj.LEG_SELFTEST_RESULT port, 191), (Obj.LEG_STATE port, (s.dev.leg port).testFrom)])) ∧
    (pass.toNat ≠ 63 → Answers (.selftestDone port pass) s (fun t => t.dev.latched 0x92 = true ∧
      s.Sets t [(Obj.LEG_SELFTEST_RESULT port, pass.toNat + 128), (Obj.LEG_STATE port, 5), (Obj.LEG_FAULT_CAUSE port, 0x10)]))) ∧
  (∀ (s : State) (port : Fin 20), s.dev.state = stRun → s.dev.testEligible port = true → (s.dev.leg port).linked = true → (s.dev.leg port).queue = [] →
    (s.dev.leg port).state = 0 → (s.dev.leg port).test = none → s.dev.legState port ∈ [0, 2, 4, 5] →
    Answers (.legSelftestPeriod port) s (fun t => s.Puts t [(Obj.LEG_STATE port, 7), (Obj.LEG_SELFTEST_RESULT port, 0)])) ∧
  (∀ s : State,
    (∀ n : Fin 20, n.val ∈ s.dev.fastLegs s.dev.fastPorts → s.dev.legState n ≠ 4 → Answers .fastChannelTrip s (fun t => t.dev.legState n = 4 ∧
      t.dev.obj (Obj.TRIPS n) = satAdd 32 (s.dev.obj (Obj.TRIPS n)) 1 ∧ (t.dev.leg n).queue = [] ∧ t.dev.latched 0x91 = true ∧
      (s.dev.legSends n = true → Emit.legTrip n ∈ t.dev.emitted))) ∧
    (s.dev.fastPorts = [] → Answers .fastChannelTrip s (fun t => s.Same t ∧ t.dev.legs = s.dev.legs))) ∧
  (∀ (s : State) (port : Fin 12), 64 ≤ (getAt emptySense s.dev.senses port).run → bit (s.dev.obj (Obj.SENSE_STATUS port)) 0 = false →
    Answers (.senseStuck port) s (fun t => t.dev.latched 0x96 = true ∧
      s.Sets t [(Obj.SENSE_STATUS port, setBit (s.dev.obj (Obj.SENSE_STATUS port)) 0 true)]))

/-- ARM of a recorder whose settings allow it, DISARM of one ARMED or TRIGGERED, FORCE of one ARMED, SEAL and RELEASE of one COMPLETE,
SYNC_FIRE with a valid instant and ERASE_SEALED in SERVICE are accepted and wait. In effect: ARM starts an empty record, REC_STATE ARMED
and REC_FLAGS 0; DISARM ends it COMPLETE with ABORTED and source 0xA2; FORCE opens the window of an ARMED record at the present instant
and flags it; SEAL puts the record image in line; RELEASE makes it IDLE; SYNC_FIRE reports 0xA6 and opens the window of every ARMED group
member at its instant; ERASE_SEALED empties the incident area, counts the erasure and reports 0xA8. -/
def Obligations.RecorderCommandsFollowRecState : Prop :=
  (∀ (s : State) (src : Src) (r : Fin 4), Open s src →
    (s.dev.armStatus r = 0 → Answers (.arm src r) s (fun t => s.Queued t src (Obj.REC_COMMAND r) 1)) ∧
    (s.dev.recState r ∈ [1, 2] → Answers (.disarm src r) s (fun t => s.Queued t src (Obj.REC_COMMAND r) 2)) ∧
    (s.dev.recState r = 1 → Answers (.force src r) s (fun t => s.Queued t src (Obj.REC_COMMAND r) 3)) ∧
    (s.dev.recState r = 3 → Answers (.seal src r) s (fun t => s.Queued t src (Obj.REC_COMMAND r) 4) ∧
      Answers (.release src r) s (fun t => s.Queued t src (Obj.REC_COMMAND r) 5)) ∧
    (∀ time : BitVec 80, time.toNat % 2 ^ 32 < 1000000000 → Answers (.syncFire src time) s (fun t => s.Queued t src Obj.SYNC_FIRE time.toNat)) ∧
    (s.dev.state = stService → Answers (.eraseSealed src 0x65726173#32) s (fun t => s.Queued t src Obj.ERASE_SEALED 0x65726173))) ∧
  (∀ (d : Dev) (m : Mem) (r : Fin 4),
    let e := fun v => (d.after m (Obj.REC_COMMAND r) v).1
    (d.armStatus r = 0 → (e 1).recState r = 1 ∧ (e 1).obj (Obj.REC_FLAGS r) = 0 ∧ (e 1).obj (Obj.PRE_HELD r) = 0 ∧ (e 1).obj (Obj.POST_HELD r) = 0) ∧
    (d.recState r ∈ [1, 2] → (e 2).recState r = 3 ∧ bit ((e 2).obj (Obj.REC_FLAGS r)) 7 = true ∧ (e 2).latched 0xA2 = true) ∧
    (d.recState r = 1 → (d.recorder r).holds = true → (d.recorder r).window = none →
      (e 3).recState r = 1 ∧ bit ((e 3).obj (Obj.REC_FLAGS r)) 5 = true ∧ ((e 3).recorder r).window = some (d.timeNs 0, d.timeNs 0, 0)) ∧
    (d.recState r = 3 → (e 4).acq.seals.map (·.image) = d.acq.seals.map (·.image) ++ [d.recordImage r] ∧ (∀ k, (e 4).obj k = d.obj k) ∧
      (e 5).recState r = 0)) ∧
  (∀ (d : Dev) (m : Mem) (v : Nat),
    let e := (d.after m Obj.SYNC_FIRE v).1
    e.latched 0xA6 = true ∧ ∀ r : Fin 4, d.isMember r = true → d.recState r = 1 → (d.recorder r).holds = true → (d.recorder r).window = none →
      e.recState r = 1 ∧ bit (e.obj (Obj.REC_FLAGS r)) 6 = true ∧ (e.recorder r).window = some (d.timeNs 0, nsOfTime80 v, 0)) ∧
  (∀ (d : Dev) (m : Mem),
    let e := (d.after m Obj.ERASE_SEALED 0x65726173).1
    e.acq.sealed = [] ∧ e.obj Obj.SEAL_COUNT = 0 ∧ e.obj Obj.ERASE_COUNT = (d.acq.eraseCount + 1) % 2 ^ 32 ∧ e.latched 0xA8 = true)

/-- A unit whose W_MAX has passed without its crossing is counted, shown with its time and reported (0xA0). A window that has run one cycle
with its point come makes the recorder TRIGGERED (or COMPLETE) at that point (0xA1). A waiting repeat arms again. A good FIRE message for
the head opens the window of every ARMED member of its group and reports 0xA6. A seal whose read has ended becomes the next entry with its
chained value, or is turned away when the area is full (0xA7). An SDCLK edge shifts one bit into every enabled sense port, whose status
shows whether the fast channel is beyond its thresholds and whether the run of equal bits has ended; without a clock, or before the period
it falls in at a head, it does nothing. -/
def Obligations.AcquisitionEventsTriggerAndSeal : Prop :=
  (∀ (s : State) (u : Fin 16) (at0 : Nat) (w : Int) (p : Nat), (s.dev.unit u).running = true → (s.dev.unit u).last = some (at0, w) →
    s.dev.wmaxPoint u at0 = some p →
    Answers (.triggerWmaxExpiry u) s (fun t => t.dev.obj (Obj.TRG_COUNT u) = satAdd 32 (s.dev.obj (Obj.TRG_COUNT u)) 1 ∧
      t.dev.obj (Obj.TRG_LAST_TIME u) = acqTime (s.dev.obj Obj.COMPARE_MODE != 0) p ∧ t.dev.latched 0xA0 = true)) ∧
  (∀ (s : State) (u : Fin 16), (s.dev.unit u).running = false → Answers (.triggerWmaxExpiry u) s (fun t => s.Same t)) ∧
  (∀ (s : State) (r : Fin 4) (opened point f : Nat), s.dev.recState r = 1 → (s.dev.recorder r).window = some (opened, point, f) →
    opened + s.dev.cyc.len ≤ s.dev.timeNs 0 → point ≤ s.dev.timeNs 0 →
    Answers (.triggerWindowEnd r) s (fun t => t.dev.recState r ∈ [2, 3] ∧ t.dev.latched 0xA1 = true ∧
      t.dev.obj (Obj.TRIGGER_TIME r) = acqTime (s.dev.recorder r).wrap point ∧ t.dev.obj (Obj.TRIGGER_FRAC r) = f ∧
      t.dev.obj (Obj.TRIGGER_UNITS r) = (s.dev.recorder r).units)) ∧
  (∀ (s : State) (r : Fin 4),
    ((s.dev.recorder r).rearm = 2 → s.dev.recState r = 3 → s.dev.armStatus r = 0 →
      Answers (.recRearm r) s (fun t => t.dev.recState r = 1 ∧ t.dev.obj (Obj.REC_FLAGS r) = 0)) ∧
    ((s.dev.recorder r).rearm ≠ 2 → Answers (.recRearm r) s (fun t => s.Same t))) ∧
  (∀ (s : State) (ring : Fin 2) (msg : RingMessage), s.dev.isHead = true → s.dev.messageGood ring msg = true → msg.dest = 0 → msg.msgType = 7 →
    msg.payload.length = 16 → fieldAt msg.payload 0 1 = 0xA2 →
    Answers (.acqFireRx ring msg) s (fun t => t.dev.latched 0xA6 = true ∧ ∀ r : Fin 4, s.dev.isMember r = true →
      (s.dev.recorder r).group = fieldAt msg.payload 1 1 → s.dev.recState r = 1 → (s.dev.recorder r).holds = true → (s.dev.recorder r).window = none →
      (t.dev.recorder r).window = some (s.dev.timeNs 0, nsOfTime80 (fieldAt msg.payload 2 10), 0))) ∧
  (∀ (s : State) (x : Seal) (rest : List Seal), s.dev.acq.seals = x :: rest → x.running = true → x.readTo ≤ s.dev.now →
    let l := s.dev.acq.sealed
    let full := 32 ≤ l.length ∨ 8388608 < sumOf (l.map (fun e => e.2.2.length)) + x.image.length
    let time := acqTime (s.dev.obj Obj.COMPARE_MODE != 0) (s.dev.timeNs 0)
    let prev := (l.getLast?.map (·.1)).getD s.dev.chainStart
    (full → Answers .sealDone s (fun t => t.dev.acq.sealed = l ∧ t.dev.latched 0xA7 = true)) ∧
    (¬ full → Answers .sealDone s (fun t => t.dev.latched 0xA7 = true ∧ t.dev.obj Obj.SEAL_COUNT = l.length + 1 ∧
      t.dev.acq.sealed = l ++ [(crc32c (beBytes 4 prev ++ beBytes 10 time ++ beBytes 8 (s.dev.obj Obj.SERIAL) ++ x.image), time, x.image)]))) ∧
  (∀ (s : State) (bits0 : BitVec 12) (off : Fin 125),
    (s.dev.isHead = false ∨ s.dev.nextSdclk ≤ s.dev.tb.periods + off → s.dev.sdclkRuns = true → ∀ p : Fin 12, s.dev.objB (Obj.SENSE_ENABLE p) = true →
      let q := getAt emptySense s.dev.senses p
      let b := bit bits0.toNat p
      let n2 : Nat := s.dev.obj (Obj.FAST_OSR p) ^ 2
      let y := sincValue 2 (s.dev.obj (Obj.FAST_OSR p)) ((q.sh * 2 + b2n b) % 2 ^ 768) (s.dev.objI 24 (Obj.SENSE_OFFSET p))
      Answers (.sdclkEdge bits0 off) s (fun t =>
        bit (t.dev.obj (Obj.SENSE_STATUS p)) 1 = (s.dev.objB (Obj.FAST_ENABLE p) &&
          (decide (s.dev.objI 24 (Obj.FAST_HIGH p) * n2 < y) || decide (y < s.dev.objI 24 (Obj.FAST_LOW p) * n2))) ∧
        (q.n = 0 ∨ bit q.sh 0 ≠ b → bit (t.dev.obj (Obj.SENSE_STATUS p)) 0 = false))) ∧
    (s.dev.isHead = true → s.dev.tb.periods + off < s.dev.nextSdclk → Answers (.sdclkEdge bits0 off) s (fun t => s.Same t ∧ t.dev.senses = s.dev.senses)) ∧
    (s.dev.sdclkRuns = false → s.dev.cycling = false → Answers (.sdclkEdge bits0 off) s (fun t => s.Same t)))

/-- In SERVICE: FUSE_COMMAND with VFUSE supplied and no fusing in progress, the TEST_COMMANDs of a macro that exists (a split write while
fewer than 64 are kept) and RETIRE_CLEAR of a retired lane that is sound with two good measurements are accepted and wait. In effect:
fusing starts with FUSE_STATE 1; a split write stores TEST_DATA with TEST_CHECK as its check bits at the byte named and no other byte
changes; a raw read shows the symbol in TEST_RESULT and changes no byte; a checked read shows it and leaves a byte that reads OK or
CORRECTED with good check bits; the lane serves again or is the idle spare, with source 0x68. -/
def Obligations.MemoryCommandsOfServiceAct : Prop :=
  (∀ (s : State) (src : Src), Open s src → s.dev.state = stService →
    (getAt false s.dev.ctl.supplies 7 = true → s.dev.fl.fusing = false →
      Answers (.fuseCommand src 0x66757365#32) s (fun t => s.Queued t src Obj.FUSE_COMMAND 0x66757365)) ∧
    (s.dev.obj Obj.TEST_MACRO < regionMacros (s.dev.obj Obj.TEST_REGION) →
      (s.dev.fl.split.length < 64 → Answers (.testSplitWrite src) s (fun t => s.Queued t src Obj.TEST_COMMAND 1)) ∧
      Answers (.testRawRead src) s (fun t => s.Queued t src Obj.TEST_COMMAND 2) ∧
      Answers (.testCheckedRead src) s (fun t => s.Queued t src Obj.TEST_COMMAND 3)) ∧
    (∀ fold lane : Fin 8, s.dev.clearOk fold lane = true →
      Answers (.retireClear src fold lane) s (fun t => s.Queued t src Obj.RETIRE_CLEAR (8 * fold.val + lane.val)))) ∧
  (∀ (d : Dev) (m : Mem), d.state = stService →
    let e := (d.after m Obj.FUSE_COMMAND 0x66757365).1
    e.obj Obj.FUSE_STATE = 1 ∧ e.fl.fusing = true ∧ ∀ k, k ≠ Obj.FUSE_STATE → e.obj k = d.obj k) ∧
  (∀ (d : Dev) (m : Mem), d.state = stService → d.obj Obj.TEST_MACRO < regionMacros (d.obj Obj.TEST_REGION) →
    let a := d.testAddr
    let y := fun v => d.after m Obj.TEST_COMMAND v
    (d.fl.split.length < 64 → (y 1).2.sym a = d.obj Obj.TEST_DATA + 256 * (d.obj Obj.TEST_CHECK % 32) ∧ (∀ b, b ≠ a → (y 1).2.sym b = m.sym b) ∧
      (y 1).1.obj Obj.TEST_WRITES = d.fl.split.length + 1) ∧
    ((y 2).1.obj Obj.TEST_RESULT = testResultOf (m.sym a) ∧ (y 2).2 = m ∧ ∀ k, k ≠ Obj.TEST_RESULT → (y 2).1.obj k = d.obj k) ∧
    ((y 3).1.obj Obj.TEST_RESULT = testResultOf (m.sym a) ∧ (∀ b, b ≠ a → (y 3).2.sym b = m.sym b) ∧
      ((readSym (m.sym a)).1 = .ok → (y 3).2 = m) ∧
      ((readSym (m.sym a)).1 = .corrected → readSym ((y 3).2.sym a) = (.ok, 0, (readSym (m.sym a)).2.2)))) ∧
  (∀ (d : Dev) (m : Mem) (fold lane : Fin 8), d.clearOk fold lane = true →
    let e := (d.after m Obj.RETIRE_CLEAR (8 * fold.val + lane.val)).1
    e.obj (Obj.LANE_STATE fold lane) = (if (d.lanesInService fold).length < 7 then 0 else 1) ∧ e.latched 0x68 = true ∧
    d.KeepsBut e [Obj.LANE_STATE fold lane, Obj.LANES_IN_SERVICE fold])

/-- A scrub read of a byte written with good check bits changes nothing; with one of its 13 bits flipped it is counted, reported (0x60) and
written back as it was; a byte that cannot be corrected in regions 0, 2 and 3 becomes the unwritten marker, is counted and reported
(0x61). A finished pass raises SCRUB_PASSES (0x69). A bad island byte is reported, and one that cannot be corrected counts as a difference
on two ticks. A soft repair of a candidate row raises SOFT_REPAIRS, corrects every correctable byte of the row and reports 0x63. FUSE_DONE
ends the fusing with state 2 or 3 (0x65). A lane measurement after the deadline shows time, floor time and corner factor and reports a
slow lane (0x66). A failed idle spare retires at the next boundary. Every hour of operation is counted, in RUN and hot apart. -/
def Obligations.FloatAndWearEventsAct : Prop :=
  (∀ (s : State) (g : Fin 5) (mac : Byte) (off : BitVec 15) (v : Nat), s.dev.state ≠ stBoot → mac.toNat < regionMacros g → v < 256 →
    let a := memAddr g mac.toNat off.toNat
    s.mem.sym a = v + 256 * checkOf v →
    Answers (.scrubRead g mac off 0) s (fun t => s.Same t) ∧
    (∀ n : Fin 13, Answers (.scrubRead g mac off (BitVec.ofNat 13 (2 ^ n.val))) s (fun t => (∀ b, t.mem.sym b = s.mem.sym b) ∧ t.dev.latched 0x60 = true ∧
      t.dev.obj (Obj.CORRECTED_COUNT g) = satAdd 32 (s.dev.obj (Obj.CORRECTED_COUNT g)) 1)) ∧
    (∀ upset : BitVec 13, g.val ∈ [0, 2, 3] → (readSym (s.mem.sym a ^^^ upset.toNat)).1 = .uncorrectable →
      Answers (.scrubRead g mac off upset) s (fun t => t.mem.sym a = marker ∧ (∀ b, b ≠ a → t.mem.sym b = s.mem.sym b) ∧ t.dev.latched 0x61 = true ∧
        t.dev.obj (Obj.UNCORRECTABLE_COUNT g) = satAdd 32 (s.dev.obj (Obj.UNCORRECTABLE_COUNT g)) 1))) ∧
  (∀ s : State, Answers .scrubPassDone s (fun t => s.Sets t [(Obj.SCRUB_PASSES, satAdd 32 (s.dev.obj Obj.SCRUB_PASSES) 1)] ∧
    t.dev.latched 0x69 = true ∧ t.dev.fl.logged = [])) ∧
  (∀ s : State, Answers (.islandScrub none) s (fun t => s.Same t) ∧ (s.dev.isl.running = true → ∀ b : IslandByte,
    (b.corrected = true → Answers (.islandScrub (some b)) s (fun t => t.dev.latched 0x60 = true ∧ s.Only t [])) ∧
    (b.corrected = false → Answers (.islandScrub (some b)) s (fun t => t.dev.latched 0x61 = true ∧ t.dev.isl.scrubBad = 2)))) ∧
  (∀ (s : State) (g : Fin 5) (mac : Byte) (row : BitVec 9),
    let u := macroOf g mac.toNat
    let a := u * 32768 + row.toNat * 64
    s.dev.objB Obj.SOFT_REPAIR_ENABLE = true → s.dev.rowCandidate u row.toNat = true → s.dev.softFree u ≠ 0 → 2 ≤ g.val ∨ (s.dev.cyc.dispatched = true ∧ s.dev.lanesIdle = true) →
    Answers (.softRepair g mac row) s (fun t => t.dev.obj (Obj.SOFT_REPAIRS g) = satAdd 16 (s.dev.obj (Obj.SOFT_REPAIRS g)) 1 ∧
      t.dev.latched 0x63 = true ∧ t.dev.health.soft = s.dev.health.soft ++ [(u, row.toNat)] ∧
      (∀ i : Fin 64, (readSym (s.mem.sym (a + i))).1 = .corrected →
        readSym (t.mem.sym (a + i)) = (.ok, 0, (readSym (s.mem.sym (a + i))).2.2)) ∧
      (∀ b, b < a ∨ a + 64 ≤ b → t.mem.sym b = s.mem.sym b))) ∧
  (∀ s : State, (s.dev.fl.fusing = true → Answers .fuseDone s (fun t => t.dev.fl.fusing = false ∧ t.dev.obj Obj.FUSE_STATE ∈ [2, 3] ∧
      t.dev.latched 0x65 = true ∧ s.Only t [Obj.FUSE_STATE, Obj.FUSE_PENDING])) ∧
    (s.dev.fl.fusing = false → Answers .fuseDone s (fun t => s.Same t))) ∧
  (∀ (s : State) (fold lane : Fin 8) (time corner : BitVec 16) (sound : Bool), s.dev.cycling = true → s.dev.cyc.dispatched = true →
    (s.dev.lane fold lane).run = none → s.dev.now + 3000 ≤ s.dev.cyc.startAt + s.dev.cyc.len → 4096 ≤ corner.toNat → corner.toNat ≤ 8191 →
    let floor := min 65535 (time.toNat * corner.toNat / 4096)
    Answers (.laneMeasure fold lane time corner sound) s (fun t => t.dev.obj (Obj.LANE_TIME fold lane) = time.toNat ∧
      t.dev.obj (Obj.LANE_FLOOR_TIME fold lane) = floor ∧ t.dev.obj (Obj.CORNER_FACTOR fold) = corner.toNat ∧
      (2450 < floor → (s.dev.lane fold lane).slow = 0 → t.dev.latched 0x66 = true))) ∧
  (∀ (s : State) (fold : Fin 8) (l : Nat), (List.range 8).find? (fun l => s.dev.obj (Obj.LANE_STATE fold l) == 1) = some l →
    (s.dev.lane fold l).retire = 0 →
    Answers (.spareSelftestFail fold) s (fun t => s.Same t ∧ t.dev.folds = (((s.dev.updWear fold l (fun x => { x with sound := false })).updWear fold l
      (fun x => { x with retire := 4, goodRuns := 0 })).folds))) ∧
  (∀ (s : State) (hot : Bool), Answers (.hourCounter hot) s (fun t => s.Puts t [(Obj.POWER_ON_HOURS, satAdd 32 s.dev.health.powerOn 1),
    (Obj.RUN_HOURS, satAdd 32 s.dev.health.run (b2n (s.dev.state == stRun))), (Obj.HOURS_ABOVE_105, satAdd 32 s.dev.health.hot (b2n hot))]))

/-- At the head, on an open ring: after the deadline of the cycle only LATE_BLOCKS is raised; with a wrong check BLOCK_CRC_ERRORS is raised
and source 0x39 reported, and nothing else in the dictionary changes; a good one in time from a position that exists is kept with its
instant (LAST_GATHER shows that of the last one from the next boundary), and each of its records that carries the present cycle's tag, its
own place and a new sample count, for a configured axis bound there that has none yet, becomes that axis's record of the cycle. A block on
a closed ring, from no position, or at a unit that does not head its rings changes no object. -/
def Obligations.UplinkBlocksAreCheckedAndTaken : Prop :=
  ∀ (s : State) (ring : Fin 2) (b : UplinkBlock) (off : Fin 125), b.records.length ≤ 4 → b.safe = none →
    let isOpen := s.dev.ringOpen ring = true
    let known := (s.dev.ring ring).node b.position.toNat ≠ none
    let good := crc16 (uplinkBytes b) = b.crc.toNat
    (¬ isOpen ∨ s.dev.isHead = false → Answers (.uplinkBlockRx ring b off) s (fun t => s.Same t)) ∧
    (s.dev.isHead = true →
    (isOpen → s.dev.cyc.dispatched = false → good → ¬ known → Answers (.uplinkBlockRx ring b off) s (fun t => s.Same t)) ∧
    (isOpen → s.dev.cyc.dispatched = true → Answers (.uplinkBlockRx ring b off) s (fun t =>
      s.Sets t [(Obj.LATE_BLOCKS ring, satAdd 32 (s.dev.obj (Obj.LATE_BLOCKS ring)) 1)])) ∧
    (isOpen → s.dev.cyc.dispatched = false → ¬ good → Answers (.uplinkBlockRx ring b off) s (fun t => t.dev.latched 0x39 = true ∧
      s.Sets t [(Obj.BLOCK_CRC_ERRORS ring, satAdd 32 (s.dev.obj (Obj.BLOCK_CRC_ERRORS ring)) 1)])) ∧
    (isOpen → s.dev.cyc.dispatched = false → good → known → Answers (.uplinkBlockRx ring b off) s (fun t =>
      (t.dev.ring ring).lastBlock = s.dev.now + off - s.dev.cyc.startAt ∧
      ∀ (i : Nat) (f : Feedback) (n : Nat), b.records[i]? = some f → s.dev.axisAt ring b.position.toNat i = some n → s.dev.configured n = true →
        (s.dev.axis n).cur = none → b.tagLow.toNat = s.dev.cyc.tag % 65536 → f.localAxis.val = i →
        (s.dev.axis n).counted = true → f.count.toNat ≠ (s.dev.axis n).sampleCount →
        (t.dev.axis n).cur = some { pos := f.position.toNat, ia := f.iA.toInt, ib := f.iB.toInt, ic := f.iC.toInt, vdc := f.vdc.toInt } ∧
        (t.dev.axis n).sampleCount = f.count.toNat)))

/-- At the head of an open ring: a message with a wrong CRC-32 changes nothing; a good one with no buffers left raises POOL_DROPPED of the
ring's channel and source 0x3D; a good one that is the reply to a request in line takes that request out of the line. A request unanswered
for 1 ms is sent again on its port, with its own sequence number, up to three times, and then leaves the line without being sent; with
none overdue nothing changes. -/
def Obligations.MessagesAreDeliveredAndRepeated : Prop :=
  (∀ (s : State) (ring port : Fin 2) (msg : RingMessage), s.dev.isHead = true →
    (s.dev.ringOpen ring = false ∨ crc32 (messageBytes msg) ≠ msg.crc.toNat →
      Answers (.messageFrameRx ring port msg) s (fun t => s.Same t ∧ t.dev.rings = s.dev.rings)) ∧
    (s.dev.ringOpen ring = true → crc32 (messageBytes msg) = msg.crc.toNat → msg.dest = 0 → msg.payload.length ≤ 1024 → msg.msgType ≠ 7 → msg.msgType ≠ 2 →
      (s.dev.poolFits ring (buffersOf (msg.payload.length + 12)) = false → Answers (.messageFrameRx ring port msg) s (fun t =>
        s.Sets t [(Obj.POOL_DROPPED ring, satAdd 32 (s.dev.obj (Obj.POOL_DROPPED ring)) 1)] ∧ t.dev.latched 0x3D = true)) ∧
      (∀ q : RingRequest, msg.msgType ≠ 1 → s.dev.poolFits ring (buffersOf (msg.payload.length + 12)) = true →
        (s.dev.ring ring).requests.find? (fun q => q.dest == msg.src.toNat && q.seq == msg.seq.toNat) = some q →
        Answers (.messageFrameRx ring port msg) s (fun t => (t.dev.ring ring).requests = (s.dev.ring ring).requests.erase q ∧
          (q.msgType = 8 → q.dest ∈ (t.dev.ring ring).healAnswers))))) ∧
  (∀ (s : State) (ring : Fin 2),
    (s.dev.overdue ring = none → Answers (.messageRetryTimeout ring) s (fun t => s.Same t ∧ t.dev.rings = s.dev.rings ∧ t.dev.emitted = [])) ∧
    (∀ q : RingRequest, s.dev.overdue ring = some q →
      (q.tries < 3 → s.dev.poolFits ring (buffersOf (q.payload.length + 12)) = true → (s.dev.ring ring).portUp q.port = true →
        Answers (.messageRetryTimeout ring) s (fun t => s.Only t [Obj.POOL_PEAK ring] ∧
        t.dev.emitted = [Emit.message ring q.port (ownMessage 0 q.dest q.msgType q.seq (s.dev.epoch % 65536) q.payload)] ∧
        (t.dev.ring ring).requests = (s.dev.ring ring).requests.erase q ++ [{ q with tries := q.tries + 1, sentAt := s.dev.now }])) ∧
      (3 ≤ q.tries → Answers (.messageRetryTimeout ring) s (fun t => s.Same t ∧ t.dev.emitted = [] ∧
        (q.msgType ≠ 8 → (t.dev.ring ring).requests = (s.dev.ring ring).requests.erase q) ∧
        (q.msgType = 8 → (t.dev.ring ring).healChecking = false ∧ q ∉ (t.dev.ring ring).requests)))))

/-- At the head, on an open, discovered ring: a good fold notice of a position that exists, for a link not yet known lost, and the loss of an
own link raise FOLDS, set the folded bit of RING_STATUS and report 0x34; the loss counts its code errors and sends a fold notice from the
other port, if that one is up. A notice with a wrong CRC, and a link of a closed ring, do not. A healthy link is up again; in discovery
DISCOVER leaves there. HEAL_REQUEST is accepted and waits, and in effect marks each open folded ring named. RING_LOOPBACK_DONE opens the
bypass of an enabled ring while nothing forbids it, reports 0x3C, and in CONFIG of a head starts discovery. -/
def Obligations.RingsFoldAndReturn : Prop :=
  (∀ (s : State) (ring : Fin 2) (position side : Byte) (crc : BitVec 16),
    let link := if side.toNat = 0 then position.toNat - 1 else position.toNat
    let good := crc.toNat = foldCrc position.toNat side.toNat
    (s.dev.isHead = true → s.dev.ringOpen ring = true → good → 1 ≤ position.toNat → position.toNat ≤ (s.dev.ring ring).nodes.length → side.toNat ≤ 1 →
      (s.dev.ring ring).phase = .complete → link ∉ (s.dev.ring ring).lostLinks.map (·.1) →
      Answers (.foldNoticeRx ring position side crc) s (fun t => bit (t.dev.obj (Obj.RING_STATUS ring)) 2 = true ∧ t.dev.latched 0x34 = true ∧
        t.dev.obj (Obj.FOLDS ring) = satAdd 32 (s.dev.obj (Obj.FOLDS ring)) 1 ∧
        ((s.dev.ring ring).lostLinks = [] → t.dev.obj (Obj.FOLD_LINK ring) = link) ∧
        (t.dev.ring ring).lostLinks = (s.dev.ring ring).lostLinks ++ [(link, s.dev.now)] ∧
        s.Only t [Obj.RING_STATUS ring, Obj.FOLDS ring, Obj.FOLD_LINK ring])) ∧
    (¬ good → Answers (.foldNoticeRx ring position side crc) s (fun t => s.Same t ∧ t.dev.rings = s.dev.rings))) ∧
  (∀ (s : State) (ring port : Fin 2) (errors : BitVec 32),
    let up := (s.dev.ring ring).portUp port
    let link := if port = 0 then 0 else (s.dev.ring ring).nodes.length
    let count := satAdd 32 (s.dev.obj (Obj.CODE_ERRORS ring)) errors.toNat
    (s.dev.ringOpen ring = false ∨ up = false → Answers (.ringLinkLoss ring port errors) s (fun t => s.Puts t [(Obj.CODE_ERRORS ring, count)])) ∧
    (s.dev.isHead = true → s.dev.ringOpen ring = true → up = true → Answers (.ringLinkLoss ring port errors) s (fun t => t.dev.obj (Obj.CODE_ERRORS ring) = count ∧
      (Emit.foldNotice ring (1 - port.val) 0 port (foldCrc 0 port) ∈ t.dev.emitted ↔ (s.dev.ring ring).portUp (1 - port.val) = true) ∧
      (t.dev.ring ring).portUp port = false ∧
      ((s.dev.ring ring).phase = .complete → link ∉ (s.dev.ring ring).lostLinks.map (·.1) → t.dev.latched 0x34 = true ∧
        t.dev.obj (Obj.FOLDS ring) = satAdd 32 (s.dev.obj (Obj.FOLDS ring)) 1 ∧ bit (t.dev.obj (Obj.RING_STATUS ring)) 2 = true)))) ∧
  (∀ (s : State) (ring port : Fin 2),
    (s.dev.ringOpen ring = true → (s.dev.ring ring).phase = .complete → Answers (.ringLinkHealthy ring port) s (fun t => (t.dev.ring ring).portUp port = true ∧
      s.Only t [Obj.POOL_PEAK ring, Obj.POOL_DROPPED ring])) ∧
    (s.dev.ringOpen ring = true → (s.dev.ring ring).phase = .discovering → s.dev.state = stConfig → s.dev.isHead = true →
      s.dev.poolFits ring 1 = true → Answers (.ringLinkHealthy ring port) s (fun t => (t.dev.ring ring).portUp port = true ∧
        Emit.message ring port (ownMessage 0 0xFF 1 (s.dev.ring ring).msgSeq (s.dev.epoch % 65536) [0]) ∈ t.dev.emitted)) ∧
    (s.dev.ringOpen ring = false → Answers (.ringLinkHealthy ring port) s (fun t => s.Same t ∧ t.dev.rings = s.dev.rings))) ∧
  (∀ (s : State) (src : Src) (rings : Byte), Open s src → rings.toNat ≤ 3 →
    Answers (.healRequest src rings) s (fun t => s.Queued t src Obj.HEAL_REQUEST rings.toNat)) ∧
  (∀ (d : Dev) (m : Mem) (v : Nat) (ring : Fin 2), 
    let e := (d.after m Obj.HEAL_REQUEST v).1
    (e.ring ring).healRequested = ((d.ring ring).healRequested || (bit v ring && d.ringOpen ring && !(d.ring ring).lostLinks.isEmpty)) ∧
      d.KeepsBut e [Obj.POOL_PEAK 0, Obj.POOL_PEAK 1, Obj.POOL_DROPPED 0, Obj.POOL_DROPPED 1]) ∧
  (∀ (s : State) (ring : Fin 2),
    (s.dev.ringOpen ring = false → s.dev.ringEnabled ring = true → s.dev.serdesRun = true → Answers (.ringLoopbackDone ring) s (fun t => t.dev.ringOpen ring = true ∧
      t.dev.latched 0x3C = true ∧ Emit.bypass ring false ∈ t.dev.emitted ∧ s.Only t [Obj.BYPASS_STATE] ∧
      t.dev.rings = upd (fun g => { g with looped := true, phase := if s.dev.state == stConfig && s.dev.isHead then .discovering else .off }) s.dev.rings ring)) ∧
    (s.dev.ringOpen ring = true ∨ s.dev.ringEnabled ring = false → s.dev.serdesRun = true → Answers (.ringLoopbackDone ring) s (fun t => s.Same t ∧
      t.dev.rings = upd (fun g => { g with looped := true }) s.dev.rings ring)) ∧
    (s.dev.serdesRun = false → Answers (.ringLoopbackDone ring) s (fun t => s.Same t ∧ t.dev.rings = s.dev.rings)))

/-- The findings of a discovery in CONFIG at the head of an open ring complete it: NODE_COUNT, the discovered and closed bits of RING_STATUS,
and for each position its identity and its two delays (of a port, half the mean of the round trips less the turnarounds) stand in the
dictionary, and source 0x30 is reported; in any other state they change nothing. Every REMEASURE_PERIOD cycles the re-measured delay of
the position in turn is taken when it differs by more than 1 ns, reported (0x3E) when by more than 10 ns, and left as it is otherwise. -/
def Obligations.DiscoveryAndRemeasurementShowTheNodes : Prop :=
  (∀ (s : State) (ring : Fin 2) (closed : Bool) (nodes : List NodeReport), nodes.length ≤ 64 →
    (s.dev.state = stConfig → s.dev.ringOpen ring = true → s.dev.isHead = true → (s.dev.ring ring).phase = .discovering →
      Answers (.discoveryDone ring closed nodes) s (fun t => t.dev.obj (Obj.NODE_COUNT ring) = nodes.length ∧
        bit (t.dev.obj (Obj.RING_STATUS ring)) 0 = true ∧ bit (t.dev.obj (Obj.RING_STATUS ring)) 1 = (closed || (s.dev.ring ring).returned) ∧ t.dev.latched 0x30 = true ∧
        (t.dev.ring ring).phase = .complete ∧ (t.dev.ring ring).nodes = nodes.map nodeOf ∧
        ∀ (i : Nat) (n : NodeReport), nodes[i]? = some n →
          t.dev.obj (Obj.NODE_IDENT ring i) = n.kind.toNat * 2 ^ 24 + n.axes.val * 2 ^ 16 + n.revision.toNat ∧
          t.dev.obj (Obj.HOP_DELAY_EAST ring i) = delayOf n.east ∧ t.dev.obj (Obj.HOP_DELAY_WEST ring i) = delayOf n.west)) ∧
    (s.dev.state ≠ stConfig → Answers (.discoveryDone ring closed nodes) s (fun t => s.Same t ∧ t.dev.rings = s.dev.rings))) ∧
  (∀ (s : State) (ring : Fin 2) (east west : BitVec 16) (p : Nat), s.dev.state ∈ [stReady, stRun, stService] → s.dev.isHead = true →
    let g := s.dev.ring ring
    g.phase = .complete → g.remeasured + s.dev.obj Obj.REMEASURE_PERIOD ≤ s.dev.cyc.count → g.takeover = none → g.nodes.length ≤ 64 → p ≤ 64 → nextOf (g.served g.plan).1 g.remeasureEast = some p →
    let old := s.dev.obj (Obj.HOP_DELAY_EAST ring (p - 1))
    Answers (.delayRemeasure ring east west) s (fun t =>
      (absI ((east.toNat : Int) - old) ≤ 1 → t.dev.obj (Obj.HOP_DELAY_EAST ring (p - 1)) = old) ∧
      (1 < absI ((east.toNat : Int) - old) → t.dev.obj (Obj.HOP_DELAY_EAST ring (p - 1)) = east.toNat) ∧
      (10 < absI ((east.toNat : Int) - old) → t.dev.latched 0x3E = true)))

/-- Outside BOOT, an input whose edges have been present for REF_QUAL_TIME since its last loss, within 1,000 ppm, shows its bit in REF_STATUS;
with no input active and REF_AUTO it becomes REF_ACTIVE and coasting ends, a coasting PLL-T whose frequency differs by at most 200 ppm
resuming lock; while another input is active and no return is configured, REF_ACTIVE stays. One too early or too far off changes neither.
A lost input clears its bit; was it the active one and no other is qualified or REF_AUTO is off, REF_ACTIVE becomes 0xFF, coasting is
shown and a locked PLL-T coasts (source 0x14); with the other qualified and REF_AUTO the other is adopted. -/
def Obligations.ReferencesAreAdoptedAndLost : Prop :=
  (∀ (s : State) (input : Fin 2) (freq diff p1 p2 : Int), s.dev.state ≠ stBoot →
    let due := getAt 0 s.dev.tb.refFrom input + s.dev.obj Obj.REF_QUAL_TIME * 1000000
    (absI freq ≤ 1000000 → due ≤ s.dev.now → bit (s.dev.obj Obj.REF_STATUS) input = false →
      Answers (.refQualified input ⟨freq, diff⟩ p1 p2) s (fun t => bit (t.dev.obj Obj.REF_STATUS) input = true ∧
      (s.dev.obj Obj.REF_ACTIVE = 0xFF → s.dev.objB Obj.REF_AUTO = true → t.dev.obj Obj.REF_ACTIVE = input ∧ bit (t.dev.obj Obj.REF_STATUS) 2 = false ∧
        (s.dev.obj Obj.PLLT_STATE = 4 → s.dev.tb.pllT.suspended = false → absI diff ≤ 200000 → t.dev.obj Obj.PLLT_STATE = 3)) ∧
      (s.dev.obj Obj.REF_ACTIVE = 1 - input.val → s.dev.objB Obj.REF_REVERT = false → t.dev.obj Obj.REF_ACTIVE = 1 - input.val ∧
        t.dev.obj Obj.PLLT_STATE = s.dev.obj Obj.PLLT_STATE))) ∧
    (1000000 < absI freq ∨ s.dev.now < due → Answers (.refQualified input ⟨freq, diff⟩ p1 p2) s (fun t =>
      t.dev.obj Obj.REF_STATUS = s.dev.obj Obj.REF_STATUS ∧ t.dev.obj Obj.REF_ACTIVE = s.dev.obj Obj.REF_ACTIVE))) ∧
  (∀ (s : State) (input : Fin 2) (diff p1 p2 : Int), s.dev.state ≠ stBoot →
    Answers (.refLoss input diff p1 p2) s (fun t => bit (t.dev.obj Obj.REF_STATUS) input = false ∧
      (s.dev.obj Obj.REF_ACTIVE ≠ input.val → t.dev.obj Obj.REF_ACTIVE = s.dev.obj Obj.REF_ACTIVE) ∧
      (s.dev.obj Obj.REF_ACTIVE = input.val → t.dev.latched 0x14 = true ∧
        (s.dev.objB Obj.REF_AUTO = false ∨ bit (s.dev.obj Obj.REF_STATUS) (1 - input.val) = false →
          t.dev.obj Obj.REF_ACTIVE = 0xFF ∧ bit (t.dev.obj Obj.REF_STATUS) 2 = true ∧
          (s.dev.obj Obj.PLLT_STATE = 3 → t.dev.obj Obj.PLLT_STATE = 4)) ∧
        (s.dev.objB Obj.REF_AUTO = true → bit (s.dev.obj Obj.REF_STATUS) (1 - input.val) = true →
          t.dev.obj Obj.REF_ACTIVE = 1 - input.val ∧ bit (t.dev.obj Obj.REF_STATUS) 2 = false))))

/-- A band search that ends 2 µs or more after its start makes a searching synthesiser acquiring with its band, and changes nothing otherwise.
Outside BOOT: once the N lock cycles have passed, PLL-T's lock makes it locked at its target offset with drift 0, takes the consumers off
the backup path and reports 0x10; before, it stays acquiring. PLL-S's lock makes it locked (0x12) and starts a PLL-T relock that waits for
it. PLL-T losing lock with an input active relocks on the backup path (0x11), and without a usable backup path cause 3 of SAFE-HOLD is
decided; PLL-S losing lock searches again in CONFIG and stays gated elsewhere (0x13), deciding cause 3 while PLL-T's consumers are on it
and cause 6 otherwise. A clamp of a synthesiser that serves is reported (0x19) and is a loss of lock; in the N lock cycles it starts their
count again. -/
def Obligations.SynthesisersLockAndUnlock : Prop :=
  (∀ (s : State) (band : Fin 64),
    (s.dev.obj Obj.PLLT_STATE = 1 → s.dev.tb.pllT.searchAt + 2000 ≤ s.dev.now →
      Answers (.bandSearchDone .t band) s (fun t => s.Puts t [(Obj.PLLT_STATE, 2), (Obj.PLLT_BAND, band.val)] ∧ t.dev.tb.pllT.countFrom = s.dev.now)) ∧
    (s.dev.obj Obj.PLLT_STATE ≠ 1 ∨ s.dev.now < s.dev.tb.pllT.searchAt + 2000 → Answers (.bandSearchDone .t band) s (fun t => s.Same t)) ∧
    (s.dev.obj Obj.PLLS_STATE = 1 → s.dev.tb.pllS.searchAt + 2000 ≤ s.dev.now →
      Answers (.bandSearchDone .s band) s (fun t => s.Puts t [(Obj.PLLS_STATE, 2), (Obj.PLLS_BAND, band.val)] ∧ t.dev.tb.pllS.countFrom = s.dev.now)) ∧
    (s.dev.obj Obj.PLLS_STATE ≠ 1 ∨ s.dev.now < s.dev.tb.pllS.searchAt + 2000 → Answers (.bandSearchDone .s band) s (fun t => s.Same t))) ∧
  (∀ s : State, s.dev.state ≠ stBoot → s.dev.obj Obj.PLLT_STATE = 2 →
    (s.dev.tb.pllT.counted s.dev.periodT s.dev.now = true → s.dev.tb.heldService = false → s.dev.tb.stepQ = [] →
      Answers .plltLock s (fun t => t.dev.obj Obj.PLLT_STATE = 3 ∧ t.dev.obj Obj.PLLT_OFFSET = raw 32 s.dev.tb.pllT.target ∧
        t.dev.obj Obj.PLLT_DRIFT = 0 ∧ t.dev.obj Obj.BACKUP_ACTIVE = 0 ∧ (s.dev.state ≠ stSafeHold → t.dev.tb.running = true) ∧ t.dev.latched 0x10 = true)) ∧
    (s.dev.tb.pllT.counted s.dev.periodT s.dev.now = false → Answers .plltLock s (fun t => t.dev.obj Obj.PLLT_STATE = 2))) ∧
  (∀ s : State, s.dev.state ≠ stBoot → s.dev.obj Obj.PLLS_STATE = 2 → s.dev.tb.pllS.counted periodS s.dev.now = true →
    (s.dev.tb.tRelock = none → Answers .pllsLock s (fun t => t.dev.obj Obj.PLLS_STATE = 3 ∧ t.dev.latched 0x12 = true ∧
      t.dev.tb.serdesStopped = false)) ∧
    (∀ change : Int, s.dev.tb.tRelock = some change → s.dev.obj Obj.REF_ACTIVE ≠ 0xFF → Answers .pllsLock s (fun t =>
      t.dev.obj Obj.PLLS_STATE = 3 ∧ t.dev.latched 0x12 = true ∧ t.dev.obj Obj.PLLT_STATE = 1 ∧ t.dev.obj Obj.BACKUP_ACTIVE = 1 ∧
        t.dev.latched 0x11 = true))) ∧
  (∀ s : State, s.dev.state ≠ stBoot → s.dev.obj Obj.PLLT_STATE = 3 → s.dev.obj Obj.REF_ACTIVE ≠ 0xFF →
    Answers .plltUnlock s (fun t => t.dev.obj Obj.PLLT_STATE = 1 ∧ t.dev.obj Obj.BACKUP_ACTIVE = 1 ∧ t.dev.latched 0x11 = true ∧
      (s.dev.backupAvailable = false → s.dev.cycling = true → s.dev.ctl.holding = false →
        t.dev.obj Obj.SAFE_HOLD_CAUSE = 3 ∧ t.dev.ctl.holding = true ∧ t.dev.latched 0x07 = true))) ∧
  (∀ s : State, s.dev.state ≠ stBoot → s.dev.obj Obj.PLLS_STATE = 3 →
    Answers .pllsUnlock s (fun t => t.dev.latched 0x13 = true ∧
      (s.dev.state = stConfig → s.dev.obj Obj.REF_ACTIVE ≠ 0xFF → t.dev.obj Obj.PLLS_STATE = 1 ∧ t.dev.tb.serdesStopped = true) ∧
      (s.dev.state ∈ [stReady, stRun, stService] → t.dev.obj Obj.PLLS_STATE = 5 ∧
        (s.dev.ctl.holding = false → t.dev.obj Obj.SAFE_HOLD_CAUSE = (if s.dev.objB Obj.BACKUP_ACTIVE then 3 else 6) ∧ t.dev.ctl.holding = true)))) ∧
  (∀ (s : State) (periods : BitVec 32), s.dev.state ≠ stBoot →
    (s.dev.servesT = true → s.dev.obj Obj.REF_ACTIVE ≠ 0xFF → Answers (.clamp .t periods) s (fun t => t.dev.latched 0x19 = true ∧
      t.dev.latched 0x11 = true ∧ t.dev.obj Obj.PLLT_STATE = 1 ∧ t.dev.obj Obj.BACKUP_ACTIVE = 1)) ∧
    (s.dev.obj Obj.PLLT_STATE = 2 → Answers (.clamp .t periods) s (fun t => t.dev.tb.pllT.countFrom = s.dev.now ∧ t.dev.obj Obj.PLLT_STATE = 2)) ∧
    (s.dev.backupAvailable = true → Answers (.clamp .s periods) s (fun t => t.dev.latched 0x19 = true ∧ t.dev.latched 0x13 = true ∧
      t.dev.backupAvailable = false)) ∧
    (s.dev.obj Obj.PLLS_STATE = 2 → Answers (.clamp .s periods) s (fun t => t.dev.tb.pllS.countFrom = s.dev.now ∧ t.dev.obj Obj.PLLS_STATE = 2)))

/-- RESET_N low in any state leads to BOOT with RESET_CAUSE 1; VCORE out of range to BOOT with RESET_CAUSE 0; the loss of both feeds of VSAFE,
one having been present, to BOOT with RESET_CAUSE 2 while VCORE is in range. In BOOT no write waits, no session is open, the bypass of
each ring is closed, no cycle runs, and the flash is as before. POWER_UP marks its rails in range and leaves DEVICE_STATE; a feed that
stays or comes back leaves it too. No command of power touches the RAM. -/
def Obligations.PowerAndResetLeadToBoot : Prop :=
  let booted := fun (s t : State) (cause : Nat) => t.dev.state = stBoot ∧ t.dev.obj Obj.RESET_CAUSE = cause ∧ t.dev.tally.queue = [] ∧
    t.dev.tally.timed = [] ∧ (∀ i, (t.dev.session i).isOpen = false) ∧ (∀ r : Fin 2, t.dev.ringOpen r = false) ∧ t.dev.tb.running = false ∧
    t.dev.flash = s.dev.flash ∧ (s.dev.fl.fusing = false → t.dev.health = s.dev.health) ∧ t.mem = s.mem
  (∀ s : State, Answers .resetNAssert s (fun t => booted s t 1 ∧ t.dev.ctl.resetN = false)) ∧
  (∀ s : State, (s.dev.isl.feedA || s.dev.isl.feedB) = true → Answers (.powerLoss [.vcore]) s (fun t => booted s t 0)) ∧
  (∀ s : State, (s.dev.isl.feedA || s.dev.isl.feedB) = true → getAt false s.dev.ctl.supplies 0 = true →
    Answers (.vsafeFeed false false) s (fun t => booted s t 2)) ∧
  (∀ (s : State) (a b : Bool), (a || b) = true → Answers (.vsafeFeed a b) s (fun t => t.dev.state = s.dev.state ∧ t.dev.isl.feedA = a ∧
    t.dev.isl.feedB = b ∧ t.mem = s.mem)) ∧
  (∀ (s : State) (rails : List Rail), (s.dev.isl.feedA || s.dev.isl.feedB) = true → Answers (.powerUp rails) s (fun t =>
    t.dev.state = s.dev.state ∧ t.mem = s.mem ∧ t.dev.ctl.supplies = rails.foldl (fun l r => if Rail.place r < 8 then setAt l (Rail.place r) true else l)
      s.dev.ctl.supplies))

/-- At a host port that answers, with a good Check: READ of an index the dictionary does not hold answers 0x0001, of a WO object 0x0002; of a
scalar that is neither a result, nor measured, nor shown live, and whose store is undamaged, status 0 and the held value in the type's
wire form; of TIME_NOW the time of the time base. DOMAIN_READ with a Length of 0 or above 4,096 answers 0x0006, so does one of an object
that is no DOMAIN; otherwise, of a value held as bytes, an Offset beyond its end answers 0x0007 and any other the bytes from there, at
most Length of them; READ of it returns its first 4,096 bytes. In each case no object but LAST_HOST_STATUS and LAST_HOST_TAG, no DOMAIN
value and no byte of RAM changes. -/
def Obligations.HostReadsReturnTheValueAndStatus : Prop :=
  (∀ (s : State) (a : HostAddr) (check : Check32), s.dev.hostLive = true → check.toNat = crc32c (addrBytes a) →
    (rowOf (addrKey a) = none → Answers (.read a check) s (fun t => s.RespondsOnly t 0x0001 a.tag.toNat [])) ∧
    (∀ r, rowOf (addrKey a) = some r → r.rights = .wo → Answers (.read a check) s (fun t => s.RespondsOnly t 0x0002 a.tag.toNat [])) ∧
    (∀ r, rowOf (addrKey a) = some r → r.rights ≠ .wo → r.ty.isDomain = false → resultCtx (addrKey a) = none → isMeasured (addrKey a) = false →
      s.dev.live (addrKey a) = none → (∀ e ∈ s.dev.fl.damaged, e.1 ≠ addrKey a) →
      Answers (.read a check) s (fun t => s.RespondsOnly t 0 a.tag.toNat (beBytes r.ty.size (wireOf r.ty (s.dev.obj (addrKey a)))))) ∧
    (addrKey a = Obj.TIME_NOW → (∀ e ∈ s.dev.fl.damaged, e.1 ≠ addrKey a) →
      Answers (.read a check) s (fun t => s.RespondsOnly t 0 a.tag.toNat (beBytes 10 (s.dev.time80 0)))) ∧
    (∀ r n, rowOf (addrKey a) = some r → r.rights ≠ .wo → r.ty = .domain n false → addrKey a ≠ Obj.ORDER_NUMBER →
      addrKey a / 256 ∉ [0x843, 0x84B, 0x4090, 0x4091, 0x4092, 0x4093] → (∀ e ∈ s.dev.fl.damaged, e.1 ≠ addrKey a) →
      Answers (.read a check) s (fun t => s.RespondsOnly t 0 a.tag.toNat ((s.dev.blob (addrKey a)).take 4096)))) ∧
  (∀ (s : State) (a : HostAddr) (len : BitVec 16) (off : BitVec 32) (check : Check32), s.dev.hostLive = true →
    check.toNat = crc32c (addrBytes a ++ beBytes 2 len.toNat ++ beBytes 4 off.toNat) →
    (∀ r, rowOf (addrKey a) = some r → r.rights ≠ .wo → r.ty.isDomain = false ∨ len.toNat = 0 ∨ 4096 < len.toNat →
      Answers (.domainRead a len off check) s (fun t => s.RespondsOnly t 0x0006 a.tag.toNat [])) ∧
    (∀ r n, rowOf (addrKey a) = some r → r.rights ≠ .wo → r.ty = .domain n false → addrKey a ≠ Obj.ORDER_NUMBER →
      addrKey a / 256 ∉ [0x843, 0x84B, 0x4090, 0x4091, 0x4092, 0x4093] → (∀ e ∈ s.dev.fl.damaged, e.1 ≠ addrKey a) →
      0 < len.toNat → len.toNat ≤ 4096 →
      (off.toNat ≤ (s.dev.blob (addrKey a)).length → Answers (.domainRead a len off check) s (fun t =>
        s.RespondsOnly t 0 a.tag.toNat (((s.dev.blob (addrKey a)).drop off.toNat).take len.toNat))) ∧
      ((s.dev.blob (addrKey a)).length < off.toNat → Answers (.domainRead a len off check) s (fun t => s.RespondsOnly t 0x0007 a.tag.toNat []))))

/-- At a host port that answers, with a good Check: a READ of a results object or a READ_WINDOW of a context with no published set, or of one
that is not configured, answers 0x000C; READ_WINDOW of an index that begins no window answers 0x0001. With a set, the answer has status 0,
is marked STALE when the set is not that of the present cycle or the state is neither READY nor RUN, and REREAD when this reader has had
an object of the same set before; READ_WINDOW returns the whole window in ascending order. From then on, the set at hand counts as
received by the host port. No object but LAST_HOST_STATUS and LAST_HOST_TAG, no DOMAIN value and no byte of RAM changes. -/
def Obligations.ResultsAreReadBySets : Prop :=
  let flags := fun (s t : State) (c : Nat) (tag : Byte) (data : List Byte) =>
    t.Responds 0 tag.toNat (tget (fun _ => 0) s.dev.acc.seen c == s.dev.obj (Obj.CYCLE_TAG c) + 1)
      (decide (s.dev.obj (Obj.CYCLE_TAG c) ≠ s.dev.cyc.tag ∨ s.dev.state ∉ [stReady, stRun])) data ∧
    s.Only t [Obj.LAST_HOST_STATUS, Obj.LAST_HOST_TAG] ∧ tget (fun _ => 0) t.dev.acc.seen c = s.dev.obj (Obj.CYCLE_TAG c) + 1
  ∀ (s : State) (a : HostAddr) (check : Check32), s.dev.hostLive = true → check.toNat = crc32c (addrBytes a) →
    (∀ r c, rowOf (addrKey a) = some r → r.rights ≠ .wo → r.ty.isDomain = false → resultCtx (addrKey a) = some c →
      ((s.dev.configured c && (s.dev.axis c).published) = false →
        Answers (.read a check) s (fun t => s.RespondsOnly t 0x000C a.tag.toNat [])) ∧
      ((s.dev.configured c && (s.dev.axis c).published) = true → s.dev.domOf c < 2 → (∀ e ∈ s.dev.fl.damaged, e.1 ≠ addrKey a) →
        Answers (.read a check) s (fun t => flags s t c a.tag (beBytes r.ty.size (wireOf r.ty (s.dev.obj (addrKey a))))))) ∧
    ((∀ c : Nat, c < 136 → a.index.toNat ≠ 0xA030 + 0x40 * c) → Answers (.readWindow a check) s (fun t => s.RespondsOnly t 0x0001 a.tag.toNat [])) ∧
    (∀ c : Nat, c < 136 → a.index.toNat = 0xA030 + 0x40 * c →
      ((s.dev.configured c && (s.dev.axis c).published) = false →
        Answers (.readWindow a check) s (fun t => s.RespondsOnly t 0x000C a.tag.toNat [])) ∧
      ((s.dev.configured c && (s.dev.axis c).published) = true →
        Answers (.readWindow a check) s (fun t => flags s t c a.tag (s.dev.windowBytes c))))

/-- At a host port that answers, with a good Check: EVENT_POP at index 0 of an empty queue answers status 0 with no data; of a queue with
records it returns the oldest record's bytes and removes it; with nothing lost the rest stands, and EVT_N rises with the last; after lost
records, one record of source 0x05 that carries their number is placed last, its latch set, and no loss is counted any more (when the
record is placed is the model's reading, log entry 41). EVENT_POP at another index and an opcode R80 does not list answer 0x0001 and leave
the queue. QUEUE_OVERFLOW places that record itself where the queue has room, and does nothing when none was lost or there is no room. -/
def Obligations.EventPopTakesTheOldestRecord : Prop :=
  (∀ (s : State) (a : HostAddr) (check : Check32), s.dev.hostLive = true → check.toNat = crc32c (addrBytes a) →
    (a.index.toNat ≠ 0 → Answers (.eventPop a check) s (fun t => s.RespondsOnly t 0x0001 a.tag.toNat [] ∧ t.dev.evq = s.dev.evq)) ∧
    (a.index.toNat = 0 → s.dev.evq.queue = [] → Answers (.eventPop a check) s (fun t => s.RespondsOnly t 0 a.tag.toNat [] ∧ t.dev.evq = s.dev.evq)) ∧
    (∀ r rest, a.index.toNat = 0 → s.dev.evq.queue = r :: rest →
      (s.dev.evq.episode = 0 → Answers (.eventPop a check) s (fun t => s.RespondsOnly t 0 a.tag.toNat (recordBytes r) ∧ t.dev.evq.queue = rest ∧
        (rest = [] → Emit.evtN true ∈ t.dev.emitted))) ∧
      (s.dev.evq.episode ≠ 0 → rest.length < 64 → Answers (.eventPop a check) s (fun t => s.RespondsOnly t 0 a.tag.toNat (recordBytes r) ∧
        t.dev.latched 0x05 = true ∧ t.dev.evq.episode = 0 ∧
        ∃ o, t.dev.evq.queue = rest ++ [o] ∧ o.source = 5 ∧ o.data = s.dev.evq.episode ∧ o.time = s.dev.time80 0))) ∧
    (∀ op : Byte, op.toNat ∉ [0x03, 0x02, 0x12, 0x0D, 0x23, 0x22, 0x1E] → Answers (.unknownOpcode op a check) s (fun t =>
      s.RespondsOnly t 0x0001 a.tag.toNat [] ∧ t.dev.evq = s.dev.evq ∧ t.dev.tally = s.dev.tally))) ∧
  (∀ s : State, (s.dev.evq.episode = 0 ∨ 64 ≤ s.dev.evq.queue.length → Answers .queueOverflow s (fun t => s.Same t ∧ t.dev.evq = s.dev.evq)) ∧
    (s.dev.evq.episode ≠ 0 → s.dev.evq.queue.length < 64 → Answers .queueOverflow s (fun t => s.Only t [] ∧ t.dev.latched 0x05 = true ∧
      t.dev.evq.episode = 0 ∧ ∃ o, t.dev.evq.queue = s.dev.evq.queue ++ [o] ∧ o.source = 5 ∧ o.data = s.dev.evq.episode)))

/-- For a source that reaches the engine of a unit heading its rings outside SAFE-HOLD, and a scalar value its object's rights, type, range
and owner allow: WRITE at the host port and OBJECT_WRITE of any source put it last in the list of waiting writes; WRITE_TIMED puts it with
its instant in the timed-action list while that has room and the instant, compared whole, has not passed and its owner allows it there; a
passed instant answers 0x000B and a full list 0x0008, both with WRITE_REJECTED. DOMAIN_WRITE of a segment at offset 0 to an object without
one fixed length, or one that extends the value being written, waits with the whole value; a segment at another offset answers 0x0007.
CAN_TX of a valid frame record the port can send, with room in its queue, waits the same way. Nothing else changes but what
LAST_HOST_STATUS, LAST_HOST_TAG and an event report show. -/
def Obligations.AcceptableWritesWaitForTheirBoundary : Prop :=
  (∀ (s : State) (a : HostAddr) (v : Nat) (r : ObjRow), Open s .host → Acceptable s (addrKey a) v r →
    let data := beBytes r.ty.size v
    let now := s.waiting .host (addrKey a) v
    (∀ check : Check32, check.toNat = crc32c (addrBytes a ++ beBytes 2 data.length ++ data) →
      Answers (.write a data check) s (fun t => s.RespondsOnly t 0 a.tag.toNat [] ∧ t.dev.tally.queue = s.dev.tally.queue ++ [now] ∧
        t.dev.tally.timed = s.dev.tally.timed)) ∧
    (∀ (instant : BitVec 80) (check : Check32), check.toNat = crc32c (addrBytes a ++ beBytes 2 data.length ++ beBytes 10 instant.toNat ++ data) →
      s.dev.obj Obj.COMPARE_MODE = 0 → instant.toNat % 2 ^ 32 < 1000000000 →
      s.dev.ownerStatusAt (s.dev.timedAt (nsOfTime80 instant.toNat)) (addrKey a) v = 0 →
      (nsOfTime80 instant.toNat ≤ s.dev.timeNs 0 → Answers (.writeTimed a instant data check) s (fun t =>
        s.RespondsOnly t 0x000B a.tag.toNat [] ∧ t.dev.latched 0x08 = true ∧ t.dev.tally = s.dev.tally)) ∧
      (s.dev.timeNs 0 < nsOfTime80 instant.toNat → 64 ≤ s.dev.tally.timed.length → Answers (.writeTimed a instant data check) s (fun t =>
        s.RespondsOnly t 0x0008 a.tag.toNat [] ∧ t.dev.latched 0x08 = true ∧ t.dev.tally = s.dev.tally)) ∧
      (s.dev.timeNs 0 < nsOfTime80 instant.toNat → s.dev.tally.timed.length < 64 → Answers (.writeTimed a instant data check) s (fun t =>
        s.RespondsOnly t 0 a.tag.toNat [] ∧ t.dev.tally.queue = s.dev.tally.queue ∧ t.dev.tally.timed = s.dev.tally.timed ++
          [{ w := now, sec := instant.toNat / 2 ^ 32, ns := instant.toNat % 2 ^ 32 }])))) ∧
  (∀ (s : State) (src : Src) (index : BitVec 16) (sub : Byte) (v : Nat) (r : ObjRow), Open s src → Acceptable s (objKey index.toNat sub.toNat) v r →
    Answers (.objectWrite src index sub (beBytes r.ty.size v)) s (fun t => s.Queued t src (objKey index.toNat sub.toNat) v)) ∧
  (∀ (s : State) (a : HostAddr) (off : BitVec 32) (data : List Byte) (check : Check32) (r : ObjRow) (n : Nat), Open s .host →
    check.toNat = crc32c (addrBytes a ++ beBytes 2 data.length ++ beBytes 4 off.toNat ++ data) → rowOf (addrKey a) = some r →
    r.rights = .rw ∨ r.rights = .wo → r.ty = .domain n false → vendorDomain (addrKey a) = false → addrKey a / 256 ≠ 0x821 →
    0 < data.length → data.length ≤ 4096 →
    let held := if off.toNat = 0 then [] else tget (fun _ => []) s.dev.tally.staging (addrKey a)
    (held.length ≠ off.toNat → Answers (.domainWrite a off data check) s (fun t => s.RespondsOnly t 0x0007 a.tag.toNat [] ∧
      t.dev.latched 0x08 = true ∧ t.dev.tally = s.dev.tally)) ∧
    (held.length = off.toNat → (held ++ data).length ≤ n → s.dev.domainStatus (addrKey a) off.toNat (held ++ data) = 0 →
      Answers (.domainWrite a off data check) s (fun t => s.RespondsOnly t 0 a.tag.toNat [] ∧
        t.dev.tally.queue = s.dev.tally.queue ++ [{ s.waiting .host (addrKey a) 0 with data := held ++ data }]))) ∧
  (∀ (s : State) (src : Src) (port : Fin 2) (record : List Byte) (f : CanFrame), Open s src → canFrameOf record = some f →
    f.fd = false ∨ s.dev.obj (Obj.DATA_RATE port) ≠ 0 → (s.dev.canPort port).busOff = false →
    (s.dev.canPort port).txq.length + (s.dev.coming.filter (fun e => e.2.key == Obj.CAN_TX port)).length < 16 →
    Answers (.canTx src port record) s (fun t => s.Same t ∧
      t.dev.tally.queue = s.dev.tally.queue ++ [{ s.waiting src (Obj.CAN_TX port) 0 with data := record }]))

/-- For any source that reaches the engine: a write to an index the dictionary does not hold (0x0001), to any object but HOST_MODE and
EVENT_LATCH in SAFE-HOLD (0x0004), to an RO object (0x0003), to a safety parameter from a source that is no safety session (0x0005), to an
RWC object outside CONFIG (0x0004), of a length that is not the type's (0x0006), or of a value outside the range of its row (0x0007) is
rejected: event source 0x08 is latched, its record's status is the one given, no write waits, and no object differs but what the report of
the event changes; no DOMAIN value and no byte of RAM differs. Without a source that reaches the engine nothing happens. -/
def Obligations.WritesThatMayNotBeMadeAreRejected : Prop :=
  ∀ (s : State) (src : Src) (index : BitVec 16) (sub : Byte) (data : List Byte),
    let k := objKey index.toNat sub.toNat
    let rejected := fun (st : Nat) => (s.dev.checkWrite src k data).1 = st ∧ Answers (.objectWrite src index sub data) s (fun t =>
      s.Only t [] ∧ t.dev.latched 0x08 = true ∧ t.dev.tally = s.dev.tally)
    (s.dev.reaches src = false → Answers (.objectWrite src index sub data) s (fun t => s.Same t ∧ t.dev.tally = s.dev.tally)) ∧
    (s.dev.reaches src = true →
      (rowOf k = none → rejected 0x0001) ∧
      (∀ r, rowOf k = some r → r.ty.isDomain = false →
        (s.dev.state = stSafeHold → k ≠ Obj.HOST_MODE → k / 256 ≠ 0x611 → rejected 0x0004) ∧
        (s.dev.state ≠ stSafeHold →
          (r.rights = .ro → rejected 0x0003) ∧
          (r.rights = .rws → vendorDomain k = false → s.dev.inSafety src = false → rejected 0x0005) ∧
          (r.rights = .rwc → vendorDomain k = false → s.dev.state ≠ stConfig → k / 256 ≠ 0x821 → rejected 0x0004) ∧
          (r.rights = .rw ∨ r.rights = .wo → vendorDomain k = false → k / 256 ≠ 0x821 → s.dev.isHead = true →
            (data.length ≠ r.ty.size → rejected 0x0006) ∧
            (data.length = r.ty.size → r.ty ≠ .gain → r.ty ≠ .pu → r.chk.ok r.ty (ofBe data) = false → rejected 0x0007)))))

/-- On Ethernet ports that run, with buffers left for the datagram: a good OPEN under a stored key takes the lowest free slot its limits
leave, as an ordinary or a safety session, shows it with its peer, and clears its event mask; with no slot it opens none; a bad one raises
UDP_AUTH_FAIL, and the sixteenth within 1 s blocks OPEN, which then does nothing until UDP_OPEN_BLOCK_END 10 s later. A request of an open
session, from its peer, with a good tag and a new SEQUENCE runs its operations: a WRITE of an acceptable value waits as that session's
write; an invalid datagram raises UDP_AUTH_FAIL. CLOSE and a SESSION_TIMEOUT past its time close the session (and a safety session's
pending block and timed safety writes with it). An ARP request for the own address is answered on its port. -/
def Obligations.TallyOverUdpKeepsItsSessions : Prop :=
  (∀ (s : State) (p : Peer) (g : List Byte) (slot : Nat) (key : List Byte), udpKind g = 0x80 → s.dev.udpOpenFor p = true →
    (s.dev.acc.openBlocked = true → Answers (.udpOpen p g) s (fun t => s.Same t ∧ t.dev.acc.sessions = s.dev.acc.sessions)) ∧
    (s.dev.acc.openBlocked = false → g.length ≤ 1472 → s.dev.poolFits 3 (buffersOf (g.length + 42)) = false →
      Answers (.udpOpen p g) s (fun t => s.Only t [] ∧ t.dev.acc.openFails = s.dev.acc.openFails ∧ t.dev.latched 0x3D = true)) ∧
    (s.dev.acc.openBlocked = false → s.dev.poolFits 3 (buffersOf (g.length + 42)) = true → fieldAt g 12 1 = slot →
      let good := udpFormOk g && fieldAt g 10 2 == 17 && fieldAt g 4 2 == 0 && udpTagOk key g
      (s.dev.slotKey slot = some key → good = true → ∀ i, s.dev.freeSlot (16 ≤ slot) = some i → i < s.dev.acc.sessions.length →
        Answers (.udpOpen p g) s (fun t => t.dev.obj (Obj.SESSION_STATE i) = (if 16 ≤ slot then 2 else 1) ∧
          t.dev.obj (Obj.SESSION_PEER i) = p.ip.toNat * 65536 + p.udp.toNat ∧ (∀ j < 8, t.dev.obj (Obj.SESSION_EVENT_MASK i j) = 0) ∧
          (t.dev.session i).isOpen = true ∧ (t.dev.session i).safety = decide (16 ≤ slot) ∧ (t.dev.session i).seqRx = 0 ∧
          (∀ j, j ≠ i → (t.dev.session j).isOpen = (s.dev.session j).isOpen))) ∧
      (s.dev.slotKey slot = some key → good = true → s.dev.freeSlot (16 ≤ slot) = none →
        Answers (.udpOpen p g) s (fun t => s.Only t [] ∧ ∀ j, (t.dev.session j).isOpen = (s.dev.session j).isOpen)) ∧
      (g.length ≤ 1472 → s.dev.slotKey slot = none ∨ (s.dev.slotKey slot = some key ∧ good = false) →
        Answers (.udpOpen p g) s (fun t => s.Only t [] ∧ t.dev.latched 0x04 = true ∧
          t.dev.acc.openBlocked = decide (15 ≤ (s.dev.acc.openFails.filter (fun x => decide (s.dev.now < x + 1000000000))).length))))) ∧
  (∀ (s : State) (p : Peer) (g : List Byte), s.dev.udpOpenFor p = true → g.length ≤ 1472 → s.dev.poolFits 3 (buffersOf (g.length + 42)) = true →
    udpKind g ∉ [0x80, 0x82] →
    (s.dev.udpValid p g = none → Answers (.udpRequest p g) s (fun t => s.Only t [] ∧ t.dev.latched 0x04 = true ∧ t.dev.tally = s.dev.tally)) ∧
    (∀ i, s.dev.udpValid p g = some i → udpKind g ≠ 1 → Answers (.udpRequest p g) s (fun t => s.Only t [] ∧ t.dev.tally = s.dev.tally ∧
      (t.dev.session i).seqRx = fieldAt g 6 4)) ∧
    (∀ (i : Nat) (index : BitVec 16) (sub tag : Byte) (v : Nat) (r : ObjRow), s.dev.udpValid p g = some i → udpKind g = 1 →
      (g.drop 12).take (fieldAt g 10 2) = [0x02, tag] ++ beBytes 2 index.toNat ++ [sub, 0] ++ beBytes 2 r.ty.size ++ beBytes r.ty.size v →
      Open s (.session (Fin.ofNat 8 i)) → Acceptable s (objKey index.toNat sub.toNat) v r →
      Answers (.udpRequest p g) s (fun t => s.Only t [] ∧ (t.dev.session i).seqRx = fieldAt g 6 4 ∧
        t.dev.tally.queue = s.dev.tally.queue ++ [s.waiting (.session (Fin.ofNat 8 i)) (objKey index.toNat sub.toNat) v]))) ∧
  (∀ (s : State) (p : Peer) (g : List Byte), s.dev.udpOpenFor p = true → g.length ≤ 1472 →
    s.dev.poolFits 3 (buffersOf (g.length + 42)) = true → udpKind g = 0x82 →
    (s.dev.udpValid p g = none → Answers (.udpClose p g) s (fun t => s.Only t [] ∧ t.dev.latched 0x04 = true)) ∧
    (∀ i, s.dev.udpValid p g = some i → Answers (.udpClose p g) s (fun t => s.Sets t [(Obj.SESSION_STATE i, 0)] ∧
      (t.dev.session i).isOpen = false ∧ ((s.dev.session i).safety = true → t.dev.tally.pendingBlock = none)))) ∧
  (∀ (s : State) (i : Fin 8),
    let silent := (s.dev.session i).isOpen && decide ((s.dev.session i).lastValidAt + s.dev.obj Obj.SESSION_TIMEOUT * 1000000000 ≤ s.dev.now)
    (silent = true → Answers (.sessionTimeout i) s (fun t => s.Puts t [(Obj.SESSION_STATE i, 0)] ∧ (t.dev.session i).isOpen = false ∧
      ((s.dev.session i).safety = true → t.dev.tally.pendingBlock = none ∧ ∀ w ∈ t.dev.tally.timed, isRws w.w.key = false))) ∧
    (silent = false → Answers (.sessionTimeout i) s (fun t => s.Same t ∧ t.dev.acc.sessions = s.dev.acc.sessions))) ∧
  (∀ s : State, Answers .udpOpenBlockEnd s (fun t => s.Same t ∧
    t.dev.acc.openBlocked = (s.dev.acc.openBlocked && decide (s.dev.now < s.dev.acc.blockedAt + 10000000000)))) ∧
  (∀ (s : State) (p : Fin 2) (target ip : BitVec 32) (mac : BitVec 48), s.dev.ethRuns = true → s.dev.obj (Obj.LINK p) ≠ 0 →
    (s.dev.ownsIp target.toNat = false → Answers (.arpRequest p target ip mac) s (fun t => s.Same t ∧ t.dev.eth = s.dev.eth)) ∧
    (s.dev.ownsIp target.toNat = true → s.dev.poolFits 3 1 = true → (s.dev.ethPort p).busy = false →
      Answers (.arpRequest p target ip mac) s (fun t => s.Only t [] ∧ Emit.eth p (s.dev.frameOf p (.arp mac.toNat ip.toNat target.toNat)) true ∈ t.dev.emitted)))

/-- At a port in use: a received frame that a filter passes is placed last with the time of its start while the pool has room; without room it
is dropped and POOL_DROP raised; one that no filter passes is not kept, and one with an error or in a format the port cannot read is only
counted. A read of CAN_RX returns the oldest record and removes it, and returns nothing from an empty mailbox. A CAN_TX write in effect
puts its frame last in the queue and starts it on an idle bus. A frame sent leaves the queue and the next starts; a failed one raises the
error counter by 8 and starts again, until the counter passes 255: the port is bus-off then. CAN_BUS_OFF_RECOVERY of such a port resumes
with both counters at 0 and the first queued frame. A port out of use keeps everything as it is. -/
def Obligations.CanPortsQueueAndDeliver : Prop :=
  (∀ (s : State) (p : Fin 2) (f : CanFrame) (ok : Bool) (off : Fin 125), s.dev.can.length = 2 → canFormOk f = true →
    (s.dev.canLive p = false → Answers (.canFrameRx p ⟨f, ok⟩ off) s (fun t => s.Same t ∧ t.dev.can = s.dev.can)) ∧
    (s.dev.canLive p = true → ok = false ∨ (f.fd = true ∧ s.dev.obj (Obj.DATA_RATE p) = 0) → Answers (.canFrameRx p ⟨f, ok⟩ off) s (fun t =>
      s.Only t [Obj.CAN_STATUS p] ∧ t.dev.can = upd (fun q => { q with rxErr := min 255 (q.rxErr + 1) }) s.dev.can p)) ∧
    (s.dev.canLive p = true → (f.fd = true → s.dev.obj (Obj.DATA_RATE p) ≠ 0) → s.dev.canIsSafe p f.ext f.id.toNat = false →
      ((∀ i < 32, filterPasses (s.dev.obj (Obj.RX_FILTER p i)) f = false) → Answers (.canFrameRx p ⟨f, true⟩ off) s (fun t =>
        s.Only t [Obj.CAN_STATUS p] ∧ (t.dev.canPort p).rxq = (s.dev.canPort p).rxq ∧
        (t.dev.canPort p).rxErr = (if 127 < (s.dev.canPort p).rxErr then 119 else (s.dev.canPort p).rxErr - 1))) ∧
      (∀ i < 32, filterPasses (s.dev.obj (Obj.RX_FILTER p i)) f = true →
        (s.dev.poolFits (4 + p) (buffersOf (f.data.length + 15)) = true → Answers (.canFrameRx p ⟨f, true⟩ off) s (fun t =>
          (t.dev.canPort p).rxq = (s.dev.canPort p).rxq ++ [(f, s.dev.time80 off)] ∧ (t.dev.canPort p).txq = (s.dev.canPort p).txq ∧
          t.dev.blobs = s.dev.blobs ∧ t.mem = s.mem)) ∧
        (s.dev.poolFits (4 + p) (buffersOf (f.data.length + 15)) = false → Answers (.canFrameRx p ⟨f, true⟩ off) s (fun t =>
          (t.dev.canPort p).rxq = (s.dev.canPort p).rxq ∧ t.dev.latched 0x3D = true ∧
          s.Only t [Obj.CAN_STATUS p, Obj.RX_DROPPED p, Obj.POOL_DROPPED (4 + p), Obj.POOL_DROPPED 3]))))) ∧
  (∀ (s : State) (src : Src) (p : Fin 2), s.dev.reaches src = true → (∀ e ∈ s.dev.fl.damaged, e.1 ≠ Obj.CAN_RX p) →
    ((s.dev.canPort p).rxq = [] → Answers (.canRx src p) s (fun t => s.Same t ∧ Emit.canRecord src [] ∈ t.dev.emitted)) ∧
    (∀ f at80 rest, (s.dev.canPort p).rxq = (f, at80) :: rest → f.data.length ≤ 64 → Answers (.canRx src p) s (fun t =>
      Emit.canRecord src (canRecord f at80) ∈ t.dev.emitted ∧ (t.dev.canPort p).rxq = rest ∧ t.dev.blobs = s.dev.blobs ∧ t.mem = s.mem))) ∧
  (∀ (d : Dev) (m : Mem) (w : QueuedWrite) (p : Fin 2) (f : CanFrame), d.can.length = 2 → w.key = Obj.CAN_TX p → canFrameOf w.data = some f →
    d.objB (Obj.CAN_ENABLE p) = true → d.isHead = true → (d.canPort p).txq.length < 16 →
    (((takeWrite (d, m) w).1.canPort p).txq = (d.canPort p).txq ++ [f] ∧ (takeWrite (d, m) w).2 = m ∧
      ((d.canPort p).txq = [] → (d.canPort p).busOff = false → Emit.can p f ∈ (takeWrite (d, m) w).1.emitted))) ∧
  (∀ (s : State) (p : Fin 2) (ok : Bool),
    (s.dev.canLive p = false ∨ (s.dev.canPort p).txq = [] → Answers (.canFrameTx p ok) s (fun t => s.Same t ∧ t.dev.can = s.dev.can)) ∧
    (∀ f rest, s.dev.canLive p = true → (s.dev.canPort p).txq = f :: rest →
      Answers (.canFrameTx p true) s (fun t => s.Only t [Obj.CAN_STATUS p] ∧ (t.dev.canPort p).txq = rest ∧
        (t.dev.canPort p).txErr = (s.dev.canPort p).txErr - 1 ∧ ∀ g l, rest = g :: l → Emit.can p g ∈ t.dev.emitted) ∧
      Answers (.canFrameTx p false) s (fun t => s.Only t [Obj.CAN_STATUS p] ∧ (t.dev.canPort p).txq = f :: rest ∧
        (t.dev.canPort p).txErr = (s.dev.canPort p).txErr + 8 ∧
        (255 < (s.dev.canPort p).txErr + 8 → (t.dev.canPort p).busOff = true ∧ t.dev.obj (Obj.CAN_STATUS p) / 2 ^ 24 = 2) ∧
        ((s.dev.canPort p).txErr + 8 ≤ 255 → (t.dev.canPort p).busOff = false ∧ Emit.can p f ∈ t.dev.emitted)))) ∧
  (∀ (s : State) (p : Fin 2),
    ((s.dev.canPort p).busOff = false → Answers (.canBusOffRecovery p) s (fun t => s.Same t ∧ t.dev.can = s.dev.can)) ∧
    ((s.dev.canPort p).busOff = true → Answers (.canBusOffRecovery p) s (fun t => s.Sets t [(Obj.CAN_STATUS p, 0)] ∧
      (t.dev.canPort p).busOff = false ∧ (t.dev.canPort p).txErr = 0 ∧ (t.dev.canPort p).rxErr = 0 ∧
      (t.dev.canPort p).txq = (s.dev.canPort p).txq ∧ ∀ g l, (s.dev.canPort p).txq = g :: l → Emit.can p g ∈ t.dev.emitted)))

/-- With both links up and the egress port idle, a good frame not addressed to the Thoek leaves the other port: unchanged when it is no event
message (a Sync or Delay_Req of a supported transport) or TC_ENABLE is 0, with its residence of 512 ns to 1,000 ns (the model's bound, log
entry 20) and the latencies added when it is one and TC_ENABLE is 1, TC_CORRECTED counted; a frame with a bad FCS leaves with its FCS
inverted and TC_ERRORS reports it. On a busy egress port a good frame waits last while the pool has room (of which class is the model's
reading, log entry 18), and is dropped and counted without. A frame addressed to the port's own MAC is not passed on (one to the other
port's is not either, the model's choice of log entry 18); an event message over IPv6 is reported. Without a link, or with the ports
stopped, nothing happens. When a frame has left, the next in the order of classes follows, a corrected event message with the residence it
has then. A change of a link is shown and reported, and a link that goes down empties its queue. -/
def Obligations.EthernetForwardsAndCorrects : Prop :=
  (∀ (s : State) (p : Fin 2) (f : List Byte) (ok : Bool) (off : Fin 125), 60 ≤ f.length → f.length ≤ 1518 →
    (s.dev.ethRuns = false ∨ s.dev.obj (Obj.LINK p) = 0 → Answers (.ethFrameRx p f ok off) s (fun t => s.Same t ∧ t.dev.eth = s.dev.eth)) ∧
    (s.dev.ethRuns = true → s.dev.obj (Obj.LINK p) ≠ 0 →
      (fieldAt f 0 6 = s.dev.obj (Obj.MAC_ADDRESS p) → isIpv6Event f = false → Answers (.ethFrameRx p f true off) s (fun t => s.Same t ∧ t.dev.eth = s.dev.eth)) ∧
      (isIpv6Event f = true → Answers (.ethFrameRx p f true off) s (fun t => t.dev.latched 0x29 = true)) ∧
      (s.dev.obj (Obj.LINK (1 - p)) ≠ 0 → s.dev.isOwnMac f = false → isIpv6Event f = false →
        ((s.dev.ethPort (1 - p)).busy = false →
          (isEventMessage f = none ∨ s.dev.objB Obj.TC_ENABLE = false → Answers (.ethFrameRx p f true off) s (fun t => s.Same t ∧ Emit.eth (1 - p) (.raw f) true ∈ t.dev.emitted)) ∧
          ((isEventMessage f).isSome = true → s.dev.objB Obj.TC_ENABLE = true → Answers (.ethFrameRx p f true off) s (fun t =>
            (∃ r : Nat, 512 ≤ r ∧ r ≤ 1000 ∧ Emit.eth (1 - p) (.raw (correctFrame f (r + s.dev.objI 16 (Obj.EGRESS_LATENCY (1 - p)) +
              s.dev.objI 16 (Obj.INGRESS_LATENCY p)))) true ∈ t.dev.emitted) ∧ s.Only t [Obj.TC_CORRECTED (1 - p)])) ∧
          Answers (.ethFrameRx p f false off) s (fun t => (∃ g, Emit.eth (1 - p) (.raw g) false ∈ t.dev.emitted ∧
            (isEventMessage f = none → g = f)) ∧ t.dev.latched 0x28 = true ∧ s.Only t [Obj.RX_FCS_ERRORS p, Obj.TC_ERRORS p, Obj.TC_CORRECTED (1 - p)])) ∧
        ((s.dev.ethPort (1 - p)).busy = true →
          (s.dev.poolFits 2 (buffersOf f.length) = true → Answers (.ethFrameRx p f true off) s (fun t => (t.dev.ethPort (1 - p)).queue =
            (s.dev.ethPort (1 - p)).queue ++ [{
              cls := if (isEventMessage f).isSome then 0 else 2, payload := .raw f, channel := 2, buffers := buffersOf f.length,
              ingress := if (isEventMessage f).isSome then some (s.dev.ingressStamp p off) else none }])) ∧
          (s.dev.poolFits 2 (buffersOf f.length) = false → Answers (.ethFrameRx p f true off) s (fun t => t.dev.latched 0x3D = true ∧
            s.Only t [Obj.FORWARD_DROPPED p, Obj.POOL_DROPPED 2, Obj.POOL_DROPPED 3])))))) ∧
  (∀ (s : State) (p : Fin 2) (off : Fin 125),
    ((s.dev.ethPort p).queue = [] → (s.dev.ethPort p).sending = none → Answers (.ethEgressTx p off) s (fun t => s.Same t ∧ (t.dev.ethPort p).busy = false)) ∧
    (∀ q f, s.dev.ethRuns = true → pickFrame (s.dev.ethPort p).queue = some q → q.payload = .raw f → q.ingress = none →
      Answers (.ethEgressTx p off) s (fun t => Emit.eth p (.raw f) true ∈ t.dev.emitted ∧ (t.dev.ethPort p).queue = (s.dev.ethPort p).queue.erase q ∧
        (t.dev.ethPort p).busy = true)) ∧
    (∀ q f t0, s.dev.ethRuns = true → pickFrame (s.dev.ethPort p).queue = some q → q.payload = .raw f → q.ingress = some t0 → s.dev.objB Obj.TC_ENABLE = true →
      Answers (.ethEgressTx p off) s (fun t => Emit.eth p (.raw (correctFrame f (s.dev.egressStamp p off - t0))) true ∈ t.dev.emitted ∧
        (t.dev.ethPort p).queue = (s.dev.ethPort p).queue.erase q ∧ t.dev.obj (Obj.TC_CORRECTED p) = satAdd 32 (s.dev.obj (Obj.TC_CORRECTED p)) 1))) ∧
  (∀ (s : State) (p : Fin 2) (report : LinkReport),
    let up := linkUp report
    ((s.dev.tb.serdesStopped = true ∧ up = true) ∨ decide (s.dev.obj (Obj.LINK p) ≠ 0) = up →
      Answers (.ethLink p report) s (fun t => s.Same t ∧ t.dev.eth = s.dev.eth)) ∧
    (decide (s.dev.obj (Obj.LINK p) ≠ 0) ≠ up → (up = true → s.dev.tb.serdesStopped = false) →
      Answers (.ethLink p report) s (fun t => t.dev.obj (Obj.LINK p) = up.toNat ∧ t.dev.latched 0x2A = true ∧
        (up = false → (t.dev.ethPort p).queue = []) ∧ t.dev.blobs = s.dev.blobs ∧ t.mem = s.mem)))

/-- While the clock runs as a slave, with a buffer left for what it receives (log entry 19): a Sync of the selected master notes its stamp and
the master's time of one step, a Follow_Up with the same sequence that of two; from any other sender nothing changes, and without a buffer
the Sync is dropped and reported (0x3D). The Delay_Resp that answers the own request completes the pair: the mean path delay and the
offset are as R161 and R165 compute them, and the frequency part and the rate correction of a tracking clock follow; the sixteenth offset
in a row within LOCK_THRESHOLD locks it (0x24). The second Announce of a clock within four intervals selects it when none is selected and
no other is qualified (0x20); one of the selected master takes its UTC_OFFSET. A master lost (Announce not heard for the timeout, or Sync
for four of its intervals), with no other to follow, leaves holdover from TRACKING and LOCKED (0x21), else listening. The Delay_Req leaves
on the master's port with a new sequence, no sooner than its interval allows. -/
def Obligations.PtpSlaveFollowsItsMaster : Prop :=
  (∀ (s : State) (p : Fin 2) (h : PtpHdr) (two : Bool) (origin : BitVec 80) (off : Fin 125),
    (s.dev.fromMaster p h = false → Answers (.ptpSyncRx p h two origin off) s (fun t => s.Same t ∧ t.dev.ptp = s.dev.ptp) ∧
      Answers (.ptpFollowUpRx p h origin) s (fun t => s.Same t ∧ t.dev.ptp = s.dev.ptp)) ∧
    (s.dev.fromMaster p h = true → s.dev.poolFits 3 1 = false →
      Answers (.ptpSyncRx p h two origin off) s (fun t => s.Only t [] ∧ t.dev.ptp = s.dev.ptp ∧ t.dev.latched 0x3D = true)) ∧
    (s.dev.fromMaster p h = true → s.dev.poolFits 3 1 = true →
      Answers (.ptpSyncRx p h two origin off) s (fun t => s.Only t [] ∧ t.dev.ptp.t2 = s.dev.timeNs off - s.dev.objI 16 (Obj.INGRESS_LATENCY p) ∧
        t.dev.ptp.t1 = (if two then none else some (nsOfTime80 origin.toNat : Int)) ∧ t.dev.ptp.syncSeq = h.seq.toNat ∧
        t.dev.ptp.corrSync = sgn 64 h.corr.toNat) ∧
      (s.dev.ptp.syncSeq = h.seq.toNat → s.dev.ptp.t1 = none → Answers (.ptpFollowUpRx p h origin) s (fun t => s.Only t [] ∧
        t.dev.ptp.t1 = some (nsOfTime80 origin.toNat : Int) ∧ t.dev.ptp.corrSync = s.dev.ptp.corrSync + sgn 64 h.corr.toNat)))) ∧
  (∀ (s : State) (p : Fin 2) (h : PtpHdr) (received : BitVec 80) (rid : BitVec 64) (rport : BitVec 16) (t1 t3 : Int),
    s.dev.fromMaster p h = true → s.dev.poolFits 3 1 = true → rid.toNat = s.dev.obj Obj.CLOCK_IDENTITY → rport.toNat = 1 → h.seq.toNat = s.dev.ptp.reqSeq →
    s.dev.ptp.t1 = some t1 → s.dev.ptp.t3 = some t3 → s.dev.ptp.lastO = none →
    let path := (((s.dev.ptp.t2 - t3) + ((nsOfTime80 received.toNat : Int) - t1)) * 65536 - s.dev.ptp.corrSync - sgn 64 h.corr.toNat) / 2
    let avg := meanI ((path :: s.dev.ptp.delays).take (s.dev.obj Obj.DELAY_AVG))
    let o := ((s.dev.ptp.t2 - t1) * 65536 - avg - s.dev.ptp.corrSync) / 65536
    Answers (.ptpDelayRespRx p h received rid rport) s (fun t => t.dev.obj Obj.MEAN_PATH_DELAY = raw 32 (sat 32 (avg / 65536)) ∧
      t.dev.obj Obj.OFFSET = raw 64 o ∧
      (s.dev.servo = 4 → s.dev.ptp.clampedLast = false →
        let yf := clampI (-rateLimit) rateLimit (s.dev.ptp.yf + s.dev.obj Obj.SERVO_KI * o)
        let yp := clampI (-rateLimit) rateLimit (s.dev.obj Obj.SERVO_KP * o)
        t.dev.obj Obj.FREQ_PART = raw 32 (yf / 65536) ∧ t.dev.ptp.yf = yf ∧
        t.dev.obj Obj.RATE_CORRECTION = raw 32 (clampI (-rateLimit) rateLimit (yf + yp) / 65536) ∧
        (absI o ≤ s.dev.obj Obj.LOCK_THRESHOLD → 15 ≤ s.dev.ptp.inLock → t.dev.obj Obj.SERVO_STATE = 5 ∧ t.dev.latched 0x24 = true)))) ∧
  (∀ (s : State) (p : Fin 2) (h : PtpHdr) (a : AnnounceSet),
    (s.dev.slaveRuns = false ∨ s.dev.ptpTakes p h = false → Answers (.ptpAnnounceRx p h a) s (fun t => s.Same t ∧ t.dev.ptp = s.dev.ptp)) ∧
    (s.dev.fromMaster p h = true → s.dev.poolFits 3 1 = true → Answers (.ptpAnnounceRx p h a) s (fun t => s.Sets t [(Obj.UTC_OFFSET, a.utcOffset.toNat)] ∧
      t.dev.ptp.lastAnnAt = s.dev.now)) ∧
    (s.dev.slaveRuns = true → s.dev.ptpTakes p h = true → s.dev.poolFits 3 1 = true → s.dev.obj Obj.MASTER_INGRESS = 0xFF →
      let same := fun f : ForeignMaster => f.identity == h.identity.toNat && f.port == h.port.toNat && f.ingress == p.val
      (∀ f ∈ s.dev.ptp.foreign, same f = true ∨ f.since = none) →
      (s.dev.ptp.foreign.find? same = none → Answers (.ptpAnnounceRx p h a) s (fun t => s.Only t [])) ∧
      (∀ o, s.dev.ptp.foreign.find? same = some o → s.dev.now ≤ o.lastAt + 4 * o.interval →
        Answers (.ptpAnnounceRx p h a) s (fun t => t.dev.obj Obj.MASTER_IDENTITY = h.identity.toNat ∧ t.dev.obj Obj.MASTER_PORT = h.port.toNat ∧
          t.dev.obj Obj.MASTER_INGRESS = p ∧ t.dev.obj Obj.UTC_OFFSET = a.utcOffset.toNat ∧
          t.dev.obj Obj.SERVO_STATE = (if s.dev.servo = 6 then 4 else 2) ∧ t.dev.latched 0x20 = true)))) ∧
  (∀ s : State,
    let lost := decide (s.dev.ptp.lastAnnAt + s.dev.obj Obj.ANNOUNCE_RECEIPT_TIMEOUT * s.dev.ptp.annInterval ≤ s.dev.now) ||
      (s.dev.ptp.syncInterval != 0 && decide (s.dev.ptp.lastSyncAt + 4 * s.dev.ptp.syncInterval ≤ s.dev.now))
    (s.dev.slaveRuns = false ∨ s.dev.obj Obj.MASTER_INGRESS = 0xFF ∨ lost = false → Answers .ptpMasterLost s (fun t => s.Same t ∧ t.dev.ptp = s.dev.ptp)) ∧
    (s.dev.slaveRuns = true → s.dev.obj Obj.MASTER_INGRESS ≠ 0xFF → lost = true →
      (∀ f ∈ s.dev.ptp.foreign, f.identity = s.dev.obj Obj.MASTER_IDENTITY ∨ f.since = none) → Answers .ptpMasterLost s (fun t =>
      t.dev.obj Obj.MASTER_IDENTITY = 0 ∧ t.dev.obj Obj.MASTER_INGRESS = 0xFF ∧ t.dev.obj Obj.FREQ_PART = raw 32 (s.dev.ptp.yf / 65536) ∧
      t.dev.obj Obj.RATE_CORRECTION = raw 32 (s.dev.ptp.yf / 65536) ∧ (s.dev.servo ∉ [4, 5] → t.dev.obj Obj.SERVO_STATE = 1) ∧
      (s.dev.servo ∈ [4, 5] → t.dev.obj Obj.SERVO_STATE = 6 ∧ t.dev.latched 0x21 = true)))) ∧
  (∀ (s : State) (off : Fin 125),
    (s.dev.slaveRuns = false ∨ s.dev.obj Obj.MASTER_INGRESS = 0xFF ∨ s.dev.reqAllowed = false →
      Answers (.ptpDelayReqTx off) s (fun t => s.Same t ∧ t.dev.ptp = s.dev.ptp)) ∧
    (s.dev.slaveRuns = true → s.dev.reqAllowed = true → s.dev.obj Obj.MASTER_INGRESS ≠ 0xFF → s.dev.ethRuns = true → s.dev.obj (Obj.LINK (s.dev.obj Obj.MASTER_INGRESS)) ≠ 0 →
      s.dev.poolFits 3 1 = true → (s.dev.ethPort (s.dev.obj Obj.MASTER_INGRESS)).busy = false →
      let seq := (s.dev.ptp.reqSeq + 1) % 65536
      Answers (.ptpDelayReqTx off) s (fun t => s.Only t [] ∧ t.dev.ptp.reqSeq = seq ∧
        t.dev.ptp.t3 = some (s.dev.egressStamp (s.dev.obj Obj.MASTER_INGRESS) off) ∧
        Emit.eth (s.dev.obj Obj.MASTER_INGRESS) (s.dev.frameOf (s.dev.obj Obj.MASTER_INGRESS) (.ptp (s.dev.ptpMsg 1 seq))) true ∈ t.dev.emitted)))

/-- While the clock runs as a master, with its ports up and idle and buffers left in the pool (for a Delay_Req too, log entry 19):
PTP_ANNOUNCE_TX sends an Announce with the next sequence and the data set of the objects; PTP_SYNC_TX a Sync that carries the stamp of its
own egress; a Delay_Req in the clock's domain, transport and version, heard on its port, is answered there by a Delay_Resp with the
request's sequence, correction and port identity and the stamp of its reception. The sequences advance by 1 and wrap at 2^16. While it
runs as none, each of them leaves everything as it is. No object differs but those of the buffer pool that an own frame draws on. -/
def Obligations.PtpMasterAnnouncesAndAnswers : Prop :=
  let ready := fun (s : State) (p : Nat) => s.dev.ethRuns = true ∧ s.dev.obj (Obj.LINK p) ≠ 0 ∧ s.dev.poolFits 3 1 = true ∧ (s.dev.ethPort p).busy = false
  (∀ (s : State) (off : Fin 125) (p : Fin 2) (h : PtpHdr), s.dev.masterRuns = false →
    Answers .ptpAnnounceTx s (fun t => s.Same t ∧ t.dev.ptp = s.dev.ptp) ∧ Answers (.ptpSyncTx off) s (fun t => s.Same t ∧ t.dev.ptp = s.dev.ptp) ∧
    Answers (.ptpDelayReqRx p h off) s (fun t => s.Same t ∧ t.dev.ptp = s.dev.ptp)) ∧
  (∀ (s : State) (p : Fin 2) (off : Fin 125), s.dev.masterRuns = true → s.dev.obj Obj.PTP_PORT = p → ready s p →
    Answers .ptpAnnounceTx s (fun t => s.Only t [] ∧ t.dev.ptp.annSeq = (s.dev.ptp.annSeq + 1) % 65536 ∧ Emit.eth p (s.dev.frameOf p (.ptp { s.dev.ptpMsg 0xB s.dev.ptp.annSeq with
      extra := [s.dev.obj Obj.PRIORITY1, s.dev.obj Obj.CLOCK_CLASS, s.dev.obj Obj.PRIORITY2] })) true ∈ t.dev.emitted) ∧
    Answers (.ptpSyncTx off) s (fun t => s.Only t [] ∧ t.dev.ptp.masterSyncSeq = (s.dev.ptp.masterSyncSeq + 1) % 65536 ∧
      Emit.eth p (s.dev.frameOf p (.ptp { s.dev.ptpMsg 0 s.dev.ptp.masterSyncSeq with stamp := time80OfNs (s.dev.egressStamp p off).toNat })) true ∈ t.dev.emitted)) ∧
  (∀ (s : State) (p : Fin 2) (off : Fin 125) (h : PtpHdr), s.dev.masterRuns = true → s.dev.ptpTakes p h = true → ready s p → s.dev.showShared.poolFits 3 1 = true →
    Answers (.ptpDelayReqRx p h off) s (fun t => s.Only t [] ∧ t.dev.ptp = s.dev.ptp ∧ Emit.eth p (s.dev.frameOf p (.ptp { s.dev.ptpMsg 9 h.seq.toNat with
      corr := h.corr.toNat, stamp := time80OfNs (s.dev.ingressStamp p off).toNat, extra := [h.identity.toNat, h.port.toNat] })) true ∈ t.dev.emitted))

/-- A customer pass that stands before any of the 23 format A instructions, outside REP, issues it, whatever its fields: its operands are the
registers with every result landed whose distance has passed (a MAC, MSU or WIDEL reads the newest early accumulator), and in flight are
the exact result of R300 brought to the destination of 56 or 24 bits under the S bit, its literal range deciding V and SV, then the flags
of the instruction, at distance 2 for D registers and flags and 3 for A registers. The next instruction stands one slot on; where that
lies past the code the pass faults instead (the END that stands last excepted: log entry 53). A parallel move adds its mailbox load at
distance 3, or its store to the window or the mailbox, and its post-update at distance 1. No object, DOMAIN value or byte of RAM changes.
How results outside a range are judged, and MOV and SEL fields, are the model's readings of log entry 56. -/
def Obligations.LaneArithmeticComputesItsResults : Prop :=
  let v56 := fun (x : FmtA) (num : Int) (drop : Nat) => fitted 56 x.sat num drop
  let v24 := fun (x : FmtA) (num : Int) (drop : Nat) => fitted 24 x.sat num drop
  let wide := fun (x : FmtA) (num : Int) (drop : Nat) (early : Bool) => wrReg x.dst (v56 x num drop) early ++ flagsOf (v56 x num drop) (fitsIn 56 num drop)
  let narrow := fun (x : FmtA) (num : Int) (drop : Nat) => wrReg x.dst (v24 x num drop) false ++ flagsOf (v24 x num drop) (fitsIn 24 num drop)
  let accu := fun (x : FmtA) (num : Int) => wrReg x.dst (v56 x num 0) true ++
    wrFlags (if fitsIn 56 num 0 then 4 else 12) (if fitsIn 56 num 0 then 0 else 12)
  let zn := fun (v : Int) => (if v = 0 then 1 else 0) + (if v < 0 then 2 else 0)
  ∀ e ∈ ([(.nop, 0x00, fun _ _ _ => []),
      (.mpy, 0x01, fun x b _ => wrReg x.dst (b.rd x.srcA * b.rd x.srcB) true),
      (.mac, 0x02, fun x b q => accu x (b.accum q x.dst + b.rd x.srcA * b.rd x.srcB)),
      (.msu, 0x03, fun x b q => accu x (b.accum q x.dst - b.rd x.srcA * b.rd x.srcB)),
      (.adda, 0x04, fun x b _ => wide x (b.ra x.srcA + b.ra x.srcB) 0 false),
      (.suba, 0x05, fun x b _ => wide x (b.ra x.srcA - b.ra x.srcB) 0 false),
      (.asha, 0x06, fun x b _ => wide x (shifted (b.ra x.srcA) (b.sh x)).1 (shifted (b.ra x.srcA) (b.sh x)).2 false),
      (.narr, 0x07, fun x b _ => narrow x (shifted (b.ra x.srcA) (b.sh x)).1 ((shifted (b.ra x.srcA) (b.sh x)).2 + 23)),
      (.narrl, 0x08, fun x b _ =>
        let n := shifted (b.ra x.srcA) (b.sh x)
        wrReg x.dst (if x.sat = true ∧ fitsIn 24 n.1 (n.2 + 23) = false then (if 0 < n.1 then 0xFFFFFE else 0) else n.1 / 2 ^ n.2 % 2 ^ 23 * 2) false),
      (.wide, 0x09, fun x b _ => wide x (shifted (b.rd x.srcA * 2 ^ 23) (b.sh x)).1 (shifted (b.rd x.srcA * 2 ^ 23) (b.sh x)).2 true),
      (.widel, 0x0A, fun x b q => accu x (b.accum q x.dst + b.rd x.srcA % 2 ^ 24 / 2)),
      (.wdif, 0x0B, fun x b _ =>
        let v : Int := (b.ra x.srcA - b.ra x.srcB + 2 ^ 31) % 2 ^ 32 - 2 ^ 31
        wrReg x.dst v false ++ wrFlags 3 (zn v)),
      (.add, 0x0C, fun x b _ => narrow x (b.rd x.srcA + b.rd x.srcB) 0),
      (.sub, 0x0D, fun x b _ => narrow x (b.rd x.srcA - b.rd x.srcB) 0),
      (.abs, 0x0E, fun x b _ => narrow x (max (b.rd x.srcA) (-(b.rd x.srcA))) 0),
      (.neg, 0x0F, fun x b _ => narrow x (-(b.rd x.srcA)) 0),
      (.min, 0x10, fun x b _ => wrReg x.dst (min (b.rd x.srcA) (b.rd x.srcB)) false ++
        wrFlags 67 (zn (min (b.rd x.srcA) (b.rd x.srcB)) + (if b.rd x.srcB < b.rd x.srcA then 64 else 0))),
      (.max, 0x11, fun x b _ => wrReg x.dst (max (b.rd x.srcA) (b.rd x.srcB)) false ++
        wrFlags 67 (zn (max (b.rd x.srcA) (b.rd x.srcB)) + (if b.rd x.srcA < b.rd x.srcB then 64 else 0))),
      (.sel, 0x12, fun x b _ => wrReg x.dst (if condHolds b.flags (x.shift.toNat % 16) then b.rd x.srcA else b.rd x.srcB) false),
      (.lim, 0x13, fun x b _ =>
        let v := if b.rd x.srcC < b.rd x.srcA then b.rd x.srcC else max (b.rd x.srcA) (b.rd x.srcB)
        wrReg x.dst v false ++ wrFlags 51 (zn v + (if b.rd x.srcC < b.rd x.srcA then 16 else if b.rd x.srcA < b.rd x.srcB then 32 else 0))),
      (.ash, 0x14, fun x b _ => narrow x (shifted (b.rd x.srcA) (b.sh x)).1 (shifted (b.rd x.srcA) (b.sh x)).2),
      (.cmp, 0x15, fun x b _ => wrFlags 7 (zn (b.rd x.srcA - b.rd x.srcB))),
      (.mov, 0x16, fun x b _ => wrReg x.dst (if 16 ≤ x.dst.toNat ∧ x.dst.toNat < 20 then b.ra x.srcA else b.rd x.srcA) false)] :
      List ((Fin 8 → Fin 8 → FmtA → Instr) × Nat × (FmtA → Bank → Pass → List Wr))),
    ∀ (s : State) (f l : Fin 8) (x : FmtA) (p : Pass), Stands s f l p (wordA e.2.1 x) → p.rep = none →
      let b := s.bankAt f l p
      let q := s.passAt f l p
      let addr := getAt 0 b.p x.pmove.pp.toNat
      let post := match b.postUpdate x.pmove.pp x.pmove.pm x.pmove.upd with
        | some (i, v) => [({ reg := .p i, val := v, dist := 1, early := false } : Wr)]
        | none => []
      let goes := b.pc + 1 < s.dev.codeLength p.domain
      (¬ goes → x.pmove.kind.toNat ≠ 1 → Answers (e.1 f l x) s (fun t => s.Faulted t f l p)) ∧
      (goes → x.pmove.kind.toNat ∉ [1, 2] → Answers (e.1 f l x) s (fun t => s.Issued t f l p (e.2.2 x b q) [] { b with pc := b.pc + 1 } 1 none)) ∧
      (goes → x.pmove.kind.toNat = 1 → 0x10000 ≤ addr → addr ≤ 0x103FF → Answers (e.1 f l x) s (fun t => s.Issued t f l p
        (e.2.2 x b q ++ [{ reg := .d x.pmove.reg.toNat, val := (s.dev.mboxRead q (addr - 0x10000) % 2 ^ 24 : Nat), dist := 3, early := false }] ++ post) []
        { b with pc := b.pc + 1 } 1 none)) ∧
      (goes → x.pmove.kind.toNat = 2 → (0x10000 ≤ addr ∧ addr ≤ 0x103FF) ∨ (addr < 0x10000 ∧ addr < s.dev.ctxWords p.domain ∧ (addr ∈ q.words ∨ q.words.length < 256)) →
        Answers (e.1 f l x) s (fun t => s.Issued t f l p (e.2.2 x b q ++ post) (storeFlights p.n addr false (getAt 0 b.d x.pmove.reg.toNat))
          { b with pc := b.pc + 1 } 1 none))

/-- A customer pass that stands before LDI, ADDI, CMPI or MOVX, outside REP, issues it with its result and flags at distance 2, or faults
where the next instruction would lie past the code (log entry 53; the rest is said of code that goes on). Before LD, LDW, MBR or MBRW: a
mailbox address gives the mailbox word as the pass sees it; a window word whose bytes the pass has itself stored gives those; one with
good bytes in the context SRAM gives their value, three bytes for a D register and four, signed, for an A register; so does the shared
region; at distance 3, with the post-update at distance 1. ST, STW, MBW and MBWW put their bytes or mailbox word in flight while the
address may be written. An address outside the window, the mailbox and (for loads) the shared region, or a store beyond 256 distinct
words, ends the pass with a context fault. -/
def Obligations.LaneMovesLoadAndStore : Prop :=
  (∀ e ∈ ([(.ldi, 0x18, fun x _ => wr6 x.dst.toNat x.imm.toNat),
      (.addi, 0x19, fun x b =>
        let num := b.rd x.srcA + sgn 24 (x.imm.toNat % 2 ^ 24)
        if 24 ≤ x.dst.toNat ∧ x.dst.toNat < 32 then
          [{ reg := .p (x.dst.toNat - 24), val := ((getAt 0 b.p (x.srcA.toNat - 24) + x.imm.toNat % 2 ^ 17) % 2 ^ 17 : Nat), dist := 2, early := false }]
        else (if x.dst.toNat < 16 then [{ reg := .d x.dst.toNat, val := fitted 24 x.sat num 0, dist := 2, early := false }] else []) ++
          flagsOf (fitted 24 x.sat num 0) (fitsIn 24 num 0)),
      (.cmpi, 0x1A, fun x b =>
        let v := b.rd x.srcA - sgn 24 (x.imm.toNat % 2 ^ 24)
        wrFlags 7 ((if v = 0 then 1 else 0) + (if v < 0 then 2 else 0)))] :
      List ((Fin 8 → Fin 8 → FmtI → Instr) × Nat × (FmtI → Bank → List Wr))),
    ∀ (s : State) (f l : Fin 8) (x : FmtI) (p : Pass), Stands s f l p (wordI e.2.1 x) → p.rep = none →
      let b := s.bankAt f l p
      Answers (e.1 f l x) s (fun t => if b.pc + 1 < s.dev.codeLength p.domain then s.Issued t f l p (e.2.2 x b) [] { b with pc := b.pc + 1 } 1 none
        else s.Faulted t f l p)) ∧
  (∀ (s : State) (f l : Fin 8) (x : FmtX) (p : Pass), Stands s f l p (wordX 0x28 x) → p.rep = none →
    let b := s.bankAt f l p
    Answers (.movx f l x) s (fun t => if b.pc + 1 < s.dev.codeLength p.domain then
      s.Issued t f l p (wr6 x.dst.toNat (b.r6 x.src.toNat)) [] { b with pc := b.pc + 1 } 1 none else s.Faulted t f l p)) ∧
  (let addrM := fun (x : FmtM) (b : Bank) => (getAt 0 b.p x.pp.toNat + x.disp.toNat) % 2 ^ 17
   let addrB := fun (x : FmtM) (_ : Bank) => 0x10000 + x.disp.toNat % 1024
   let post := fun (on : Bool) (x : FmtM) (b : Bank) => match (if on then b.postUpdate x.pp x.pm x.upd else none) with
     | some (i, v) => [({ reg := .p i, val := v, dist := 1, early := false } : Wr)]
     | none => []
   (∀ e ∈ ([(.ld, 0x20, false, true, addrM), (.ldw, 0x22, true, true, addrM), (.mbr, 0x24, false, false, addrB), (.mbrw, 0x26, true, false, addrB)] :
       List ((Fin 8 → Fin 8 → FmtM → Instr) × Nat × Bool × Bool × (FmtM → Bank → Nat))),
     ∀ (s : State) (f l : Fin 8) (x : FmtM) (p : Pass), Stands s f l p (wordM e.2.1 x) → p.rep = none →
       s.dev.codeLength p.domain > (s.bankAt f l p).pc + 1 →
       let wide := e.2.2.1
       let b := s.bankAt f l p
       let q := s.passAt f l p
       let addr := e.2.2.2.2 x b
       let k := if wide then 0 else 1
       let own := 4 * tget (fun _ => 0) (s.dev.fold f).windows p.ctx
       let shared := 4 * tget (fun _ => 0) (s.dev.fold f).shared p.domain
       let loaded := fun (v : Nat) => Answers (e.1 f l x) s (fun t => s.Issued t f l p
         ([{ reg := if wide then .a (x.reg.toNat - 16) else .d x.reg.toNat, val := if wide then sgn 32 v else v, dist := 3, early := false }] ++ post e.2.2.2.1 x b)
         [] { b with pc := b.pc + 1 } 1 none)
       (0x10000 ≤ addr → addr ≤ 0x103FF → loaded (if wide then s.dev.mboxRead q (addr - 0x10000) else s.dev.mboxRead q (addr - 0x10000) % 2 ^ 24)) ∧
       (∀ v, v < 256 ^ (4 - k) → addr < 0x10000 → addr < s.dev.ctxWords p.domain →
         (∀ i < 4 - k, q.shadow.find? (fun y => y.1 == 4 * addr + k + i) = some (4 * addr + k + i, v / 256 ^ (3 - k - i) % 256)) → loaded v) ∧
       (∀ v, v < 256 ^ (4 - k) → addr < 0x10000 → addr < s.dev.ctxWords p.domain → (∀ y ∈ q.shadow, y.1 / 4 ≠ addr) →
         (∀ i < 4 - k, s.mem.sym (foldByte f (own + (4 * addr + k + i))) = v / 256 ^ (3 - k - i) % 256 + 256 * checkOf (v / 256 ^ (3 - k - i) % 256)) →
         loaded v) ∧
       (∀ v, v < 256 ^ (4 - k) → 0x18000 ≤ addr → addr < 0x18000 + s.dev.sharedWords p.domain → s.dev.ctxWords p.domain ≤ addr →
         (∀ i < 4 - k, s.mem.sym (foldByte f (shared + 4 * (addr - 0x18000) + k) + i) = v / 256 ^ (3 - k - i) % 256 + 256 * checkOf (v / 256 ^ (3 - k - i) % 256)) →
         loaded v) ∧
       (s.dev.ctxWords p.domain ≤ addr → addr < 0x10000 ∨ (0x103FF < addr ∧ addr < 0x18000) ∨ 0x18000 + s.dev.sharedWords p.domain ≤ addr →
         Answers (e.1 f l x) s (fun t => s.Faulted t f l p))) ∧
   (∀ e ∈ ([(.st, 0x21, false, true, addrM), (.stw, 0x23, true, true, addrM), (.mbw, 0x25, false, false, addrB), (.mbww, 0x27, true, false, addrB)] :
       List ((Fin 8 → Fin 8 → FmtM → Instr) × Nat × Bool × Bool × (FmtM → Bank → Nat))),
     ∀ (s : State) (f l : Fin 8) (x : FmtM) (p : Pass), Stands s f l p (wordM e.2.1 x) → p.rep = none →
       s.dev.codeLength p.domain > (s.bankAt f l p).pc + 1 →
       let b := s.bankAt f l p
       let q := s.passAt f l p
       let addr := e.2.2.2.2 x b
       let may := (0x10000 ≤ addr ∧ addr ≤ 0x103FF) ∨ (addr < 0x10000 ∧ addr < s.dev.ctxWords p.domain ∧ (addr ∈ q.words ∨ q.words.length < 256))
       (may → Answers (e.1 f l x) s (fun t => s.Issued t f l p (post e.2.2.2.1 x b)
         (storeFlights p.n addr e.2.2.1 (if e.2.2.1 then raw 32 (b.ra x.reg) else raw 24 (b.rd x.reg))) { b with pc := b.pc + 1 } 1 none)) ∧
       (s.dev.ctxWords p.domain ≤ 0x10000 → ¬ may → Answers (e.1 f l x) s (fun t => s.Faulted t f l p))))

/-- A customer pass that stands before BR, CALL or RET, outside REP, takes it when its condition holds, in three slots, and else goes on; CALL
pushes the address after it and faults the context on a full stack of two, RET pops it and faults on an empty one. REP makes the next
instruction run COUNT + 1 times, or LC times bounded by REP_LC_MAX with V and SV for the excess, none at all for 0; inside it NOP stands
until its last execution. Where PC would come to stand past the code, the pass faults (log entry 53). CLRF clears SV. END of a full pass
commits its stores to the window and leaves the lane, that of a skim pass keeps them for the set pass; END of a vendor pass ends it at any
time. TREQ places its request in a slot, TRANSCENDENTAL_RESULT makes it ready with the unit's results, and TRD returns them, waits for
them, or reads 0 with V and SV where no request was made. -/
def Obligations.LaneControlFlowAndRequests : Prop :=
  (∀ (s : State) (f l : Fin 8) (x : FmtC) (p : Pass),
    let b := s.bankAt f l p
    let on := condHolds b.flags x.cond.toNat
    let goes := fun (pc : Nat) (t : State) (issued : Prop) => if pc < s.dev.codeLength p.domain then issued else s.Faulted t f l p
    let stay := fun (t : State) => goes (b.pc + 1) t (s.Issued t f l p [] [] { b with pc := b.pc + 1 } 1 none)
    p.rep = none →
    (Stands s f l p (wordC 0x30 x) → Answers (.br f l x) s (fun t =>
      if on then goes x.target.toNat t (s.Issued t f l p [] [] { b with pc := x.target.toNat } 3 none) else stay t)) ∧
    (Stands s f l p (wordC 0x31 x) → on = false → Answers (.call f l x) s stay) ∧
    (Stands s f l p (wordC 0x31 x) → on = true → b.stack.length < 2 → Answers (.call f l x) s (fun t =>
      goes x.target.toNat t (s.Issued t f l p [] [] { b with pc := x.target.toNat, stack := (b.pc + 1) :: b.stack } 3 none))) ∧
    (Stands s f l p (wordC 0x31 x) → on = true → 2 ≤ b.stack.length → Answers (.call f l x) s (fun t => s.Faulted t f l p)) ∧
    (Stands s f l p (wordC 0x32 x) → on = false → Answers (.ret f l x) s stay) ∧
    (∀ a rest, Stands s f l p (wordC 0x32 x) → on = true → b.stack = a :: rest → Answers (.ret f l x) s (fun t =>
      goes a t (s.Issued t f l p [] [] { b with pc := a, stack := rest } 3 none))) ∧
    (Stands s f l p (wordC 0x32 x) → on = true → b.stack = [] → Answers (.ret f l x) s (fun t => s.Faulted t f l p)) ∧
    (Stands s f l p (wordC 0x33 x) → x.lcsrc = false → Answers (.rep f l x) s (fun t =>
      goes (b.pc + 1) t (s.Issued t f l p [] [] { b with pc := b.pc + 1 } 1 (some (x.count.toNat + 1))))) ∧
    (Stands s f l p (wordC 0x33 x) → x.lcsrc = true →
      let cap := fieldAt (s.dev.blob (Obj.DOMAIN_IMAGE p.domain)) 22 2
      let n := min b.lc cap
      let pc := if n = 0 then b.pc + 2 else b.pc + 1
      Answers (.rep f l x) s (fun t => goes pc t (s.Issued t f l p (if cap < b.lc then wrFlags 12 12 else []) []
        { b with pc := pc } 1 (if n = 0 then none else some n)))) ∧
    (Stands s f l p (wordC 0x35 x) → Answers (.clrf f l x) s (fun t => goes (b.pc + 1) t (s.Issued t f l p (wrFlags 8 0) [] { b with pc := b.pc + 1 } 1 none))) ∧
    (Stands s f l p (wordC 0x34 x) → (s.passAt f l p).stores = [] → f.val < s.dev.folds.length →
      (p.kind ≠ 1 → Answers (.endPass f l x) s (fun t => (t.dev.lane f l).run = none ∧ s.Same { t with mem := s.mem } ∧
        t.mem = (s.passAt f l p).shadow.foldl (fun (m : Mem) e => m.put (foldByte f (4 * tget (fun _ => 0) (s.dev.fold f).windows p.ctx + e.1)) e.2) s.mem ∧
        (p.ctx < s.dev.axes.length → (t.dev.axis p.ctx).work.full = 3))) ∧
      (p.kind = 1 → Answers (.endPass f l x) s (fun t => (t.dev.lane f l).run = none ∧ s.Same t ∧
        (p.ctx < s.dev.axes.length → (t.dev.axis p.ctx).work.skim = 3 ∧ (t.dev.axis p.ctx).skim = some (.code (s.passAt f l p).shadow (s.passAt f l p).mbox)))))) ∧
  (∀ (s : State) (f l : Fin 8) (x : FmtC) (p : Pass), (s.dev.lane f l).run = some p → p.domain = 0 → s.dev.computes p.ctx = true →
    Answers (.endPass f l x) s (fun t => (t.dev.lane f l).run = none ∧ t.mem = s.mem ∧
      (p.ctx < s.dev.axes.length → if p.kind = 1 then (t.dev.axis p.ctx).work.skim = 3 else (t.dev.axis p.ctx).work.full = 3))) ∧
  (∀ (s : State) (f l : Fin 8) (x : FmtA) (p : Pass) (k : Nat), Stands s f l p (wordA 0 x) → p.rep = some k → x.pmove.kind.toNat = 0 →
    let b := s.bankAt f l p
    Answers (.nop f l x) s (fun t => if 1 < k ∨ b.pc + 1 < s.dev.codeLength p.domain then
      s.Issued t f l p [] [] { b with pc := if 1 < k then b.pc else b.pc + 1 } 1 (if 1 < k then some (k - 1) else none) else s.Faulted t f l p)) ∧
  (∀ (s : State) (f l : Fin 8) (x : FmtT) (p : Pass), p.rep = none →
    let b := s.bankAt f l p
    let goes := b.pc + 1 < s.dev.codeLength p.domain
    (Stands s f l p (wordT 0x38 x) → ¬ goes → Answers (.treq f l x) s (fun t => s.Faulted t f l p)) ∧
    (Stands s f l p (wordT 0x38 x) → goes → Answers (.treq f l x) s (fun t => s.Issued t f l p [] [] { b with pc := b.pc + 1 } 1 none ∧
      (t.dev.lane f l).slot x.slot = some { func := x.func.toNat, a := raw 24 (b.rd x.srcA), b := raw 24 (b.rd x.srcB), ready := false, r0 := 0, r1 := 0, bad := false })) ∧
    (∀ u, (s.dev.lane f l).slot x.slot = some u → u.ready = false → Answers (.trd f l x) s (fun t => s.Same t ∧ t.dev.folds = s.dev.folds)) ∧
    (Stands s f l p (wordT 0x39 x) → goes →
      let read := fun (v : Nat) (bad : Bool) (t : State) => s.Issued t f l p
        ((if x.dst.toNat < 16 then [{ reg := .d x.dst.toNat, val := v, dist := 3, early := false }] else []) ++ wrFlags (if bad then 12 else 4) (if bad then 12 else 0))
        [] { b with pc := b.pc + 1 } 1 none
      ((s.dev.lane f l).slot x.slot = none → Answers (.trd f l x) s (read 0 true)) ∧
      (∀ u, (s.dev.lane f l).slot x.slot = some u → u.ready = true → Answers (.trd f l x) s (read (if x.sel then u.r1 else u.r0) u.bad)))) ∧
  (∀ (s : State) (f l : Fin 8) (slot : Bool), Answers (.transcendentalResult f l slot) s (fun t => s.Same t ∧
    (t.dev.lane f l).slot slot = ((s.dev.lane f l).slot slot).map (fun u => { u with
      ready := true, r0 := (tuResult u.func u.a u.b).1, r1 := (tuResult u.func u.a u.b).2.1, bad := (tuResult u.func u.a u.b).2.2 })))

/-- An idle lane before the deadline starts the pass of the first ready item with D0 to D15 from its first 16 context words, of a customer
domain with PC at the entry of its kind; a first word never written is a context fault; a busy lane, one after the deadline or without an
item starts nothing. The set pass of a context whose prediction error lies beyond a limit squashes (flags 6 and 13) and starts a full
pass; a corrected customer result commits (flag 7), a declared word outside the window and the outputs faults the context. PASS_OVERRUN of
a pass, or of the set pass that is due, at its cost and margin reports 0xC5, flags it and stops it outside REP. FEEDBACK_LOST,
POSITION_FROZEN and MISS_LIMIT_REACHED of a computed axis at their limits report themselves and 0xC6, show their cause and lead to FAULT,
or to STOPPING for a missed deadline with that reaction; below them nothing changes (a cycle of a context fault counts as no miss: log
entry 50). -/
def Obligations.PassesStartStopAndReact : Prop :=
  (∀ (s : State) (f l : Fin 8),
    ((s.dev.lane f l).run.isSome = true ∨ s.dev.cyc.dispatched = true ∨ s.dev.items f l = [] →
      Answers (.passStart f l) s (fun t => s.Same t ∧ t.dev.folds = s.dev.folds) ∧ Answers (.setPass f l) s (fun t => s.Same t ∧ t.dev.folds = s.dev.folds)) ∧
    (∀ ready c kind, (s.dev.lane f l).run = none → s.dev.cyc.dispatched = false → firstItem (s.dev.items f l) = some (ready, c, kind) →
      f.val < s.dev.folds.length → l.val < (s.dev.fold f).lanes.length → c < s.dev.axes.length → (s.dev.lane f l).cur < (s.dev.lane f l).banks.length →
      let word := fun (i : Nat) => foldByte f (4 * tget (fun _ => 0) (s.dev.fold f).windows c + 4 * i + 1)
      let good := fun (w : Nat → Nat) => ∀ i < 16, w i < 2 ^ 24 ∧ ∀ k < 3,
        s.mem.sym (word i + k) = w i / 256 ^ (2 - k) % 256 + 256 * checkOf (w i / 256 ^ (2 - k) % 256)
      (∀ w : Nat → Nat, kind ≠ 2 → good w →
        Answers (.passStart f l) s (fun t => s.Same t ∧ (t.dev.lane f l).bank = { initBank with
            d := (List.range 16).map w
            pc := if s.dev.domOf c < 2 then 0 else fieldAt (s.dev.blob (Obj.DOMAIN_IMAGE (s.dev.domOf c))) (if kind = 1 then 10 else 8) 2 } ∧
          (∃ p, (t.dev.lane f l).run = some p ∧ p.ctx = c ∧ p.kind = kind ∧ p.n = 0 ∧ p.domain = s.dev.domOf c ∧ p.stores = [] ∧ p.flight = []) ∧
          (if kind = 1 then (t.dev.axis c).work.skim = 2 else (t.dev.axis c).work.full = 2))) ∧
      (kind ≠ 2 → s.mem.sym (word 0) = marker → Answers (.passStart f l) s (fun t => (t.dev.lane f l).run = none ∧ t.dev.latched 0xC7 = true ∧
        bit (t.dev.axis c).flags 15 = true ∧ t.mem = s.mem)) ∧
      (∀ fb pr, kind = 2 → (s.dev.axis c).cur = some fb → (s.dev.axis c).pred = some pr →
        (∀ w : Nat → Nat, s.dev.errBeyond c (fbError fb pr) = true → good w → Answers (.setPass f l) s (fun t => s.Same t ∧
          bit (t.dev.axis c).flags 6 = true ∧ bit (t.dev.axis c).flags 13 = true ∧ (t.dev.axis c).skim = none ∧ (t.dev.axis c).work.full = 2 ∧
          ∃ p, (t.dev.lane f l).run = some p ∧ p.ctx = c ∧ p.kind = 2)) ∧
        (∀ off, s.dev.errBeyond c (fbError fb pr) = false → s.dev.setFault c = some off → Answers (.setPass f l) s (fun t => s.Only t [] ∧
          t.dev.latched 0xC7 = true ∧ bit (t.dev.axis c).flags 15 = true ∧ (t.dev.axis c).work.full = 4)) ∧
        (∀ st mb r, s.dev.errBeyond c (fbError fb pr) = false → s.dev.setFault c = none → (s.dev.axis c).skim = some (.code st mb) → s.dev.correctCode c st mb (fbError fb pr) = some r →
          Answers (.setPass f l) s (fun t => s.Same { t with mem := s.mem } ∧ bit (t.dev.axis c).flags 7 = true ∧ (t.dev.axis c).skim = none ∧
            (t.dev.axis c).work.full = 3 ∧
            t.mem = r.1.foldl (fun (m : Mem) e => m.put (foldByte f (4 * tget (fun _ => 0) (s.dev.fold f).windows c + e.1)) e.2) s.mem))))) ∧
  (∀ (s : State) (f l : Fin 8) (slots : BitVec 32),
    ((s.dev.lane f l).run = none → s.dev.cyc.dispatched = true ∨ s.dev.items f l = [] →
      Answers (.passOverrun f l slots) s (fun t => s.Same t ∧ t.dev.folds = s.dev.folds)) ∧
    (∀ ready c, (s.dev.lane f l).run = none → s.dev.cyc.dispatched = false → firstItem (s.dev.items f l) = some (ready, c, 2) → c < s.dev.axes.length →
      (slots.toNat < s.dev.setCostNow c + s.dev.obj (Obj.OVERRUN_MARGIN f) → Answers (.passOverrun f l slots) s (fun t => s.Same t ∧
        t.dev.folds = s.dev.folds)) ∧
      (s.dev.setCostNow c + s.dev.obj (Obj.OVERRUN_MARGIN f) ≤ slots.toNat → Answers (.passOverrun f l slots) s (fun t => s.Only t [] ∧
        t.dev.latched 0xC5 = true ∧ bit (t.dev.axis c).flags 5 = true ∧ (t.dev.axis c).skim = none ∧ (t.dev.axis c).work.full = 4))) ∧
    (∀ p, (s.dev.lane f l).run = some p → p.stop = 0 →
      let cost := if p.kind = 1 then s.dev.skimCost p.ctx (s.dev.cyc.tag % 8) else s.dev.fullCost p.ctx (s.dev.cyc.tag % 8)
      (slots.toNat < cost + s.dev.obj (Obj.OVERRUN_MARGIN f) → Answers (.passOverrun f l slots) s (fun t => s.Same t ∧ t.dev.folds = s.dev.folds)) ∧
      (cost + s.dev.obj (Obj.OVERRUN_MARGIN f) ≤ slots.toNat → Answers (.passOverrun f l slots) s (fun t => s.Only t [] ∧ t.dev.latched 0xC5 = true ∧
        (p.ctx < s.dev.axes.length → bit (t.dev.axis p.ctx).flags 5 = true) ∧ (p.rep = none → (t.dev.lane f l).run = none) ∧
        (∀ k, p.rep = some k → ∃ q, (t.dev.lane f l).run = some q ∧ q.stop = 2))))) ∧
  (∀ (s : State) (n : Fin 128), s.dev.computes n = true → (s.dev.axis n).due = 0 → s.dev.axisState n ∈ [1, 2, 3] →
    ((s.dev.axis n).cur = none → s.dev.obj (Obj.FB_LATE_LIMIT n) ≤ s.dev.lateNow n → bit (s.dev.obj (Obj.FREEZE_MODE n)) 0 = false →
      Answers (.feedbackLost n) s (fun t => t.dev.axisState n = 4 ∧ t.dev.obj (Obj.FAULT_CAUSE n) = 1 ∧ t.dev.latched 0xC1 = true ∧ t.dev.latched 0xC6 = true)) ∧
    ((s.dev.axis n).cur.isSome = true ∨ s.dev.lateNow n < s.dev.obj (Obj.FB_LATE_LIMIT n) → Answers (.feedbackLost n) s (fun t => s.Same t)) ∧
    (let limit := ceilDiv (s.dev.obj (Obj.FREEZE_TIME n) * 1000000) (max 1 s.dev.cyc.len)
     (bit (s.dev.obj (Obj.FREEZE_MODE n)) 1 = true → limit ≤ s.dev.freezeNow n → Answers (.positionFrozen n) s (fun t =>
       t.dev.axisState n = 4 ∧ t.dev.obj (Obj.FAULT_CAUSE n) = 3 ∧ t.dev.latched 0xC3 = true ∧ t.dev.latched 0xC6 = true)) ∧
     (bit (s.dev.obj (Obj.FREEZE_MODE n)) 1 = false ∨ s.dev.freezeNow n < limit → Answers (.positionFrozen n) s (fun t => s.Same t))) ∧
    ((s.dev.axis n).cur.isSome = true → (s.dev.axis n).work.full ≠ 3 → bit (s.dev.axis n).flags 15 = false →
      (s.dev.obj (Obj.MISS_LIMIT n) ≤ s.dev.missNow n → Answers (.missLimitReached n) s (fun t => t.dev.obj (Obj.FAULT_CAUSE n) = 4 ∧ t.dev.latched 0xC6 = true ∧
        t.dev.axisState n = (if s.dev.axisState n = 2 ∧ s.dev.obj (Obj.FAULT_REACTION n) = 2 then 3 else 4))) ∧
      (s.dev.missNow n < s.dev.obj (Obj.MISS_LIMIT n) → Answers (.missLimitReached n) s (fun t => s.Same t))))

/-- While the island does not run, a safety tick and the events of groups change nothing, nor does a tick before it is due (log entry 76).
While it runs, a tick that is due advances SAFETY_TICK_COUNT by 1, and, no block being due, in BOOT, CONFIG, SAFE-HOLD and after the STO
step every one of the 32 groups is in STO at its end. In the unit that heads its rings: SS1_TIME_MAX run out, or standstill reached, while
the SS1 demand stands puts the ramping group in STO; an SS2 ramp that times out without standstill latches cause 0x0B; one at standstill
whose demand stands, without another demand or cause, enters SOS. LOCKOUT_CAUSE_CLEARED marks a cause whose condition has held its time
(what counts as held, and STO kept while the demand stands, are the model's readings of log entries 63 and 65), and changes no object. -/
def Obligations.SafetyTicksAndRampsDecideTheGroups : Prop :=
  (∀ (s : State) (a c : SafeSample) (rbA rbB : Byte) (differ : Bool),
    (s.dev.isl.running = false ∨ s.dev.now < s.dev.isl.tickAt + (if s.dev.ownTick then 98000 else 100000) → Answers (.safetyTick a c rbA rbB differ) s (fun t => s.Same t ∧ t.dev.isl = s.dev.isl)) ∧
    (s.dev.isl.running = true → s.dev.isl.tickAt + (if s.dev.ownTick then 98000 else 100000) ≤ s.dev.now → (∀ e ∈ s.dev.tally.committed, e.1 = false) → Answers (.safetyTick a c rbA rbB differ) s (fun t =>
      t.dev.obj Obj.SAFETY_TICK_COUNT = (s.dev.obj Obj.SAFETY_TICK_COUNT + 1) % 2 ^ 32 ∧ t.mem = s.mem ∧ t.pending = s.pending ∧
      (s.dev.held = true → s.dev.isHead = true → ∀ g < 32, t.dev.groupState g = 4)))) ∧
  (∀ (s : State) (g : Fin 32), s.dev.isl.running = false →
    Answers (.ss1Timeout g) s (fun t => s.Same t ∧ t.dev.isl = s.dev.isl) ∧ Answers (.standstillReached g) s (fun t => s.Same t ∧ t.dev.isl = s.dev.isl) ∧
    ∀ cause source : Byte, Answers (.lockoutCauseCleared g cause source) s (fun t => s.Same t ∧ t.dev.isl = s.dev.isl)) ∧
  (∀ (s : State) (g : Fin 32), s.dev.isl.running = true → s.dev.isHead = true → s.dev.isl.groups.length = 32 →
    let calm := s.dev.held = false ∧ s.dev.ctl.failedFold = none ∧ (s.dev.sgroup g).causes = [] ∧ bit s.dev.safeDemands.sto g = false ∧
      bit s.dev.safeDemands.ss1 g = false ∧ (s.dev.sgroup g).react = false
    (s.dev.groupState g = 1 → bit s.dev.safeDemands.ss1 g = true →
      (s.dev.rampTimedOut g = true → Answers (.ss1Timeout g) s (fun t => t.dev.groupState g = 4 ∧ t.dev.latched 0x80 = true ∧ t.mem = s.mem)) ∧
      (s.dev.groupStill g = true → Answers (.standstillReached g) s (fun t => t.dev.groupState g = 4 ∧ t.dev.latched 0x80 = true ∧ t.mem = s.mem))) ∧
    (s.dev.groupState g = 2 → s.dev.rampTimedOut g = true → s.dev.groupStill g = false → Answers (.ss1Timeout g) s (fun t =>
      (∃ c ∈ (t.dev.sgroup g).causes, c.code = 11 ∧ c.source = 0xFF) ∧ t.dev.groupState g = 4)) ∧
    (s.dev.groupState g = 2 → s.dev.groupStill g = true → calm → bit s.dev.safeDemands.ss2 g = true →
      Answers (.standstillReached g) s (fun t => t.dev.groupState g = 3 ∧ t.dev.latched 0x80 = true)) ∧
    (∀ (cause source : Byte) (c : Cause), c ∈ (s.dev.sgroup g).causes → c.code = cause.toNat → c.source = source.toNat → needHeld c.code ≤ s.dev.heldFor c →
      Answers (.lockoutCauseCleared g cause source) s (fun t => s.Same t ∧ { c with cleared := true } ∈ (t.dev.sgroup g).causes)))

/-- While the island runs: a pair discrepant for longer than its time shows it, reports 0x85 and latches cause 0x03 in its groups; a test
pulse that is due goes out, and a channel under test that stays high through it latches cause 0x04; an off-test that is due goes out, and
a readback that stays high reports 0x86 and latches cause 0x05 in its group, while good readbacks change no object. A reset input held for
50,001 ticks in both channels is shown stuck, and after 10,000 open ticks idle again, each with 0x84. The end of a boot's channel
self-test latches cause 0x0E where it failed. SELFTEST_COMMAND in SERVICE starts the full self-test; its end shows its items and 0x88, the
halt frame path among them only when every node has shown its STO flag: the seven that are not the reset input passed (log entry 64), the
channels are healthy again, else cause 0x0E is latched in every group. A self-test overdue is reported once (0x89). Outside those
conditions no object changes. -/
def Obligations.SafetyInputsOutputsAndTestsReport : Prop :=
  let locked := fun (t : State) (g code source : Nat) => ∃ c ∈ (t.dev.sgroup g).causes, c.code = code ∧ c.source = source
  (∀ (s : State) (i : Fin 16), s.dev.isl.running = true → s.dev.isl.groups.length = 32 → (s.dev.spair i).fault = false →
    (s.dev.obj (Obj.DISC_TICKS i) < (s.dev.spair i).countS ∨ s.dev.obj (Obj.DISC_TICKS i) < (s.dev.spair i).countC →
      Answers (.discrepancyFault i) s (fun t => bit (t.dev.obj (Obj.SI_STATE i)) 4 = true ∧ t.dev.latched 0x85 = true ∧
        ∀ g < 32, bit (s.dev.obj (Obj.SI_GROUPS i)) g = true → locked t g 3 i)) ∧
    ((s.dev.spair i).countS ≤ s.dev.obj (Obj.DISC_TICKS i) → (s.dev.spair i).countC ≤ s.dev.obj (Obj.DISC_TICKS i) →
      Answers (.discrepancyFault i) s (fun t => s.Same t ∧ t.dev.isl = s.dev.isl))) ∧
  (∀ (s : State) (n : Fin 4) (a b : BitVec 16),
    (s.dev.isl.running = false ∨ s.dev.isHead = false ∨ s.dev.tick % s.dev.obj Obj.TP_PERIOD ≠ n → Answers (.testPulse n a b) s (fun t =>
      s.Same t ∧ t.dev.isl = s.dev.isl)) ∧
    (s.dev.isl.running = true → s.dev.isHead = true → s.dev.tick % s.dev.obj Obj.TP_PERIOD = n → s.dev.isl.groups.length = 32 →
      Answers (.testPulse n a b) s (fun t => Emit.testPulse n (s.dev.obj Obj.TP_WIDTH) ∈ t.dev.emitted ∧ t.mem = s.mem ∧
        ∀ i < 16, ∀ g < 32, s.dev.obj (Obj.SI_TEST_A i) = n → bit a.toNat i = true → (s.dev.spair i).levA = true →
          bit (s.dev.obj (Obj.SI_GROUPS i)) g = true → locked t g 4 i ∧ t.dev.latched 0x85 = true))) ∧
  (∀ (s : State) (o : Fin 8) (lowA lowB : Bool),
    let due := s.dev.isl.running && (s.dev.sout o).on && decide (0 < s.dev.obj (Obj.SO_TEST_PERIOD o)) &&
      decide ((s.dev.sout o).testedAt + s.dev.obj (Obj.SO_TEST_PERIOD o) * 1000000000 ≤ s.dev.now)
    (due = false → Answers (.soOffTest o lowA lowB) s (fun t => s.Same t ∧ t.dev.isl = s.dev.isl)) ∧
    (due = true → Answers (.soOffTest o lowA lowB) s (fun t => Emit.offTest o (s.dev.obj (Obj.SO_TEST_WIDTH o)) ∈ t.dev.emitted ∧
      (lowA = true → lowB = true → s.Same t) ∧
      (lowA = false ∨ lowB = false → t.dev.latched 0x86 = true ∧
        (s.dev.obj (Obj.SO_GROUP o) < s.dev.isl.groups.length → locked t (s.dev.obj (Obj.SO_GROUP o)) 5 o))))) ∧
  (∀ s : State,
    (∀ t1 t2, s.dev.isl.running = true → s.dev.isl.resetS = .held t1 → s.dev.isl.resetC = .held t2 → 50001 ≤ s.dev.ticksSince t1 → 50001 ≤ s.dev.ticksSince t2 →
      Answers .resetStuck s (fun t => s.Sets t [(Obj.RESET_INPUT_STATE, 2)] ∧ t.dev.latched 0x84 = true)) ∧
    (s.dev.isl.running = false ∨ s.dev.isl.resetS = .idle → Answers .resetStuck s (fun t => s.Same t) ∧ Answers .resetStuckCleared s (fun t => s.Same t)) ∧
    (∀ t1 t2, s.dev.isl.running = true → s.dev.isl.resetS = .stuck (some t1) → s.dev.isl.resetC = .stuck (some t2) → 10000 ≤ s.dev.ticksSince t1 →
      10000 ≤ s.dev.ticksSince t2 → Answers .resetStuckCleared s (fun t => s.Sets t [(Obj.RESET_INPUT_STATE, 0)] ∧ t.dev.latched 0x84 = true))) ∧
  (∀ (s : State) (src : Src) (v : Byte) (r : ObjRow), Open s src → s.dev.state = stService → Acceptable s Obj.SELFTEST_COMMAND v.toNat r →
    Answers (.selftestCommand src v) s (fun t => s.Queued t src Obj.SELFTEST_COMMAND v.toNat)) ∧
  (∀ (d : Dev) (m : Mem), d.isl.running = true → d.state = stService → (d.after m Obj.SELFTEST_COMMAND 1).1.isl.testing = true ∧
    d.KeepsBut (d.after m Obj.SELFTEST_COMMAND 1).1 [Obj.HALTS_SENT 0, Obj.HALTS_SENT 1] ∧ (d.after m Obj.SELFTEST_COMMAND 1).2 = m) ∧
  (∀ (s : State) (items : Byte),
    (s.dev.isl.running = false ∨ s.dev.isl.testing = false → Answers (.safetySelftestDone items) s (fun t => s.Same t ∧ t.dev.isl = s.dev.isl)) ∧
    let n := if s.dev.haltAcked then items.toNat else setBit items.toNat 6 false
    (s.dev.isl.running = true → s.dev.isl.testing = true → s.dev.isl.bootTest = true → Answers (.safetySelftestDone items) s (fun t =>
      t.dev.isl.testing = false ∧ t.dev.isl.bootTest = false ∧ (bit items.toNat 0 = true → s.Same t) ∧
      (bit items.toNat 0 = false → s.dev.isl.groups.length = 32 → ∀ g < 32, locked t g 14 0xFF))) ∧
    (s.dev.isl.running = true → s.dev.isl.testing = true → s.dev.isl.bootTest = false → Answers (.safetySelftestDone items) s (fun t =>
      t.dev.obj Obj.ISLAND_SELFTEST_RESULT = 2 ^ 31 + n ∧ t.dev.obj Obj.LAST_SELFTEST = s.dev.time80 0 ∧ t.dev.latched 0x88 = true ∧
      t.dev.isl.testing = false ∧ t.dev.isl.failedItems = 127 - n % 128 ∧ (n % 128 = 127 → t.dev.isl.healthy = 3 ∧ t.dev.isl.crossOk = true ∧ t.dev.isl.overdue = false ∧ t.dev.isl.passedAt = s.dev.now) ∧
      (n % 128 ≠ 127 → s.dev.isl.groups.length = 32 → ∀ g < 32, locked t g 14 0xFF)))) ∧
  (∀ s : State,
    let due := s.dev.isl.running && !s.dev.isl.overdue && decide (s.dev.obj Obj.SELFTEST_MAX_INTERVAL * 3600000000000 ≤ s.dev.now - s.dev.isl.passedAt)
    (due = false → Answers .selftestOverdue s (fun t => s.Same t ∧ t.dev.isl = s.dev.isl)) ∧
    (due = true → Answers .selftestOverdue s (fun t => s.Only t [Obj.ISLAND_STATUS] ∧ bit (t.dev.obj Obj.ISLAND_STATUS) 4 = true ∧ t.dev.latched 0x89 = true)))

/-- While the island takes part: a frame of no connection is counted in UNMATCHED (0x8D). A frame of a connection whose CRC or form fails
counts in CN_CRC_ERRORS (0x8D); one too old or from the future in CN_TIME_ERRORS; in VALID, a repeated SEQ in CN_DUPLICATES and one beyond
the step in CN_SEQ_ERRORS, the connection then failing at its next tick with reason 2; one of another length or kind than the
connection's, or of a length its kind does not have, changes no object; any other is accepted: it shows SEQ and age, counts, and leaves
the state. One over Ethernet for which pool channel 3 has no buffers is dropped, reported by 0x3D. SAFE_CONN_TIMEOUT of a VALID connection
past its time shows FAILED with reason 1, reports 0x8A and puts the substitute in use. SAFE_SEND_PERIOD of a due status connection sends
the frame of R468 with the next SEQ, on Ethernet or, padded, on CAN FD. While it takes no part, none of these changes anything. Which
slots count as empty, how a frame finds its connection, and how a misfit is judged are the model's readings of log entry 66. -/
def Obligations.SafeFramesAreCheckedAndSent : Prop :=
  (∀ (s : State) (src : SafeSource) (data : List Byte) (off : Fin 125),
    let ring := match src with
      | .ring _ _ => true
      | _ => false
    let room := src = .eth → s.dev.poolFits 3 (buffersOf (data.length + 42)) = true
    (s.dev.safeLive = true → ¬ room → Answers (.safeFrameRx src data off) s (fun t => s.Only t [] ∧ t.dev.isl = s.dev.isl ∧ t.dev.latched 0x3D = true)) ∧
    (s.dev.safeLive = false ∨ (ring = true ∧ fieldAt data 0 1 = 0) → Answers (.safeFrameRx src data off) s (fun t => s.Same t ∧ t.dev.isl = s.dev.isl)) ∧
    (s.dev.safeLive = true → room → (ring = false ∨ fieldAt data 0 1 ≠ 0) →
      (s.dev.matchConn src data = none → Answers (.safeFrameRx src data off) s (fun t => s.Only t [Obj.UNMATCHED] ∧ t.dev.latched 0x8D = true)) ∧
      (∀ n, s.dev.matchConn src data = some n →
        (cutFrame (s.dev.obj (Obj.CN_CARRIER n)) data = none → Answers (.safeFrameRx src data off) s (fun t => s.Only t [Obj.CN_CRC_ERRORS n] ∧ t.dev.latched 0x8D = true)) ∧
        (∀ f, cutFrame (s.dev.obj (Obj.CN_CARRIER n)) data = some f →
          let len := f.length - 13
          let seq := fieldAt f 3 2
          let good := crc32c (beBytes 4 (s.dev.obj (Obj.CN_IDENTITY n)) ++ slice f 3 (6 + len)) = fieldAt f (9 + len) 4
          let age := sgn 32 (raw 32 ((ns32 (s.dev.timeNs off) : Int) - fieldAt f 5 4))
          let inTime := -(s.dev.obj (Obj.CN_TS_TOL n) * 1000 : Int) ≤ age ∧ age ≤ (s.dev.obj (Obj.CN_MAX_AGE n) * 1000 : Int)
          let step := raw 16 ((seq : Int) - s.dev.obj (Obj.CN_LAST_SEQ n))
          let valid := s.dev.obj (Obj.CONN_STATE n) = 2
          let next := valid → step ≠ 0 ∧ step ≤ s.dev.obj (Obj.CN_MAX_SEQ_STEP n)
          (¬ good → Answers (.safeFrameRx src data off) s (fun t => s.Only t [Obj.CN_CRC_ERRORS n] ∧ t.dev.latched 0x8D = true)) ∧
          (good → ¬ inTime → Answers (.safeFrameRx src data off) s (fun t => s.Only t [Obj.CN_TIME_ERRORS n] ∧
            (valid → (s.dev.conn n).failing = 0 → n < s.dev.isl.conns.length → (t.dev.conn n).failing = if (s.dev.obj (Obj.CN_MAX_AGE n) * 1000 : Int) < age then 3 else 4))) ∧
          (good → inTime → valid → step = 0 → Answers (.safeFrameRx src data off) s (fun t => s.Only t [Obj.CN_DUPLICATES n] ∧ t.dev.isl = s.dev.isl)) ∧
          (good → inTime → valid → step ≠ 0 → s.dev.obj (Obj.CN_MAX_SEQ_STEP n) < step → Answers (.safeFrameRx src data off) s (fun t =>
            s.Only t [Obj.CN_SEQ_ERRORS n] ∧ ((s.dev.conn n).failing = 0 → n < s.dev.isl.conns.length → (t.dev.conn n).failing = 2))) ∧
          (good → inTime → next → len ≠ s.dev.obj (Obj.CN_LENGTH n) ∨ fieldAt (slice f 9 len) 0 1 ≠ s.dev.obj (Obj.CN_KIND n) ∨ payloadFits (slice f 9 len) = false →
            Answers (.safeFrameRx src data off) s (fun t => s.Only t [] ∧
              (valid → (s.dev.conn n).failing = 0 → n < s.dev.isl.conns.length → (t.dev.conn n).failing = 5))) ∧
          (good → inTime → next → len = s.dev.obj (Obj.CN_LENGTH n) → fieldAt (slice f 9 len) 0 1 = s.dev.obj (Obj.CN_KIND n) →
            payloadFits (slice f 9 len) = true → Answers (.safeFrameRx src data off) s (fun t => t.dev.obj (Obj.CN_LAST_SEQ n) = seq ∧ t.dev.obj (Obj.CN_LAST_AGE n) = raw 32 age ∧
              s.Only t [Obj.CN_LAST_SEQ n, Obj.CN_LAST_AGE n, Obj.CN_FRAMES_ACCEPTED n] ∧
              (n < s.dev.isl.conns.length → (t.dev.conn n).used = (s.dev.conn n).used ∧ (t.dev.conn n).lastAt = s.dev.now + off ∧
                (s.dev.obj (Obj.CN_KIND n) ≠ 1 → (t.dev.conn n).last = slice f 9 len)))))))) ∧
  (∀ (s : State) (n : Fin 256),
    let expired := s.dev.isl.running && s.dev.isHead && s.dev.objB (Obj.CONN_ENABLE n) && decide (s.dev.obj (Obj.CN_DIRECTION n) = 0) &&
      decide (s.dev.obj (Obj.CONN_STATE n) = 2) && decide ((s.dev.conn n).lastAt + s.dev.obj (Obj.CN_T_EXP n) * 1000 < s.dev.now)
    (expired = false → Answers (.safeConnTimeout n) s (fun t => s.Same t ∧ t.dev.isl = s.dev.isl)) ∧
    (expired = true → Answers (.safeConnTimeout n) s (fun t => t.dev.obj (Obj.CONN_STATE n) = 3 ∧ t.dev.obj (Obj.CN_FAIL_REASON n) = 1 ∧ t.dev.latched 0x8A = true ∧
      s.Only t [Obj.CONN_STATE n, Obj.CN_FAIL_REASON n, Obj.CN_FAILURES n, Obj.CONNS_VALID] ∧
      (n.val < s.dev.isl.conns.length → (t.dev.conn n).used = substitute (s.dev.obj (Obj.CN_KIND n)) (s.dev.obj (Obj.CN_LENGTH n)))))) ∧
  (∀ (s : State) (n : Fin 256),
    let due := s.dev.safeLive && (s.dev.connsOf 1).contains n && (s.dev.sendsStatus n 1 || s.dev.sendsStatus n 2) &&
      decide (s.dev.obj (Obj.CN_SEND_PERIOD n) ≤ (s.dev.conn n).since)
    let frame := safeFrame (s.dev.obj (Obj.CN_IDENTITY n)) (s.dev.obj (Obj.CN_TAG n)) (s.dev.conn n).seq (ns32 s.dev.isl.formedAt) s.dev.isl.payload
    let port := s.dev.obj (Obj.CN_ROUTE_2 n) % 2
    (due = false → Answers (.safeSendPeriod n) s (fun t => s.Same t ∧ t.dev.isl = s.dev.isl)) ∧
    (due = true → s.dev.obj (Obj.CN_CARRIER n) = 1 → s.dev.udpLeaves port (s.dev.obj (Obj.CN_ROUTE n)) = true → s.dev.poolFits 3 (buffersOf (frame.length + 42)) = true →
      (s.dev.ethPort port).busy = false → Answers (.safeSendPeriod n) s (fun t => s.Only t [Obj.CN_FRAMES_SENT n] ∧
        Emit.eth port (s.dev.frameOf port (.udp (s.dev.obj (Obj.CN_ROUTE n)) (s.dev.obj Obj.SAFE_UDP_PORT) (s.dev.obj Obj.SAFE_UDP_PORT) frame)) true ∈ t.dev.emitted ∧
        (n.val < s.dev.isl.conns.length → (t.dev.conn n).seq = ((s.dev.conn n).seq + 1) % 65536))) ∧
    (let r := s.dev.obj (Obj.CN_ROUTE n)
     let q := fun (t : State) => (getAt { txq := [], rxq := [], txErr := 0, rxErr := 0, busOff := false } t.dev.can (r / 2 ^ 31)).txq
     due = true → s.dev.obj (Obj.CN_CARRIER n) = 2 → s.dev.objB (Obj.CAN_ENABLE (r / 2 ^ 31)) = true → r / 2 ^ 31 < s.dev.can.length → (q s).length < 16 →
       Answers (.safeSendPeriod n) s (fun t => s.Only t [Obj.CN_FRAMES_SENT n] ∧
        q t = q s ++ [⟨bit r 30, true, s.dev.obj (Obj.DATA_RATE (r / 2 ^ 31)) != 0, BitVec.ofNat 29 r, padTo (canLength frame.length) frame⟩] ∧
        (n.val < s.dev.isl.conns.length → (t.dev.conn n).seq = ((s.dev.conn n).seq + 1) % 65536))))

/-- A member that heads its rings, or one without its twin link, takes no COPY frame. Another answers an unclosed frame with result 2, a
failed check with 1 and TWIN_ERRORS; a STALE one, a WAITING one outside CONFIG, or a STANDBY that missed a tag, with 3; the next tag is
applied in one step, acknowledged with 0, becomes LAST_COPY_TAG, and the active's device state is taken at the next boundary; a customer
context's bytes reach its window; a frame makes a WAITING unit in CONFIG a JOINING one. An ACTIVE notes the peer's role and progress, and
an acknowledgement of the copy just sent; a JOINING peer starts the join where the plan of each ring allows it, else PLAN_FAULT; a failed
one counts. The loss of the twin link is counted and reported, the peer stale to an ACTIVE, and a standby stale from its next boundary;
its return is reported. A drove frame heard in the position role with a good CRC and no older epoch gives the next tag and the cycle
length, and one of the home port the next boundary. When a unit follows, joins or turns stale, and where a frame of the other port leaves
the boundary, are the model's readings of log entries 49, 67 and 68. -/
def Obligations.PairFramesAndLinksKeepTheStandby : Prop :=
  let ack := fun (t : State) (tag result role : Nat) => ∃ p : BitVec 8, Emit.copyAck { tag := BitVec.ofNat 32 tag, result := BitVec.ofNat 8 result, role := BitVec.ofNat 8 role, progress := p, checked := true } ∈ t.dev.emitted
  (∀ (s : State) (f : CopyFrame),
    let tag := f.header.tag.toNat
    (s.dev.isHead = true ∨ s.dev.pair.twinUp = false ∨ s.dev.cycling = false → Answers (.copyFrameRx f) s (fun t => s.Same t ∧ t.dev.pair = s.dev.pair)) ∧
    (s.dev.isHead = false → s.dev.pair.twinUp = true → s.dev.cycling = true →
      (f.closed = false → Answers (.copyFrameRx f) s (fun t => s.Same t ∧ ack t tag 2 (s.dev.obj Obj.ROLE))) ∧
      (f.closed = true → f.checked = false → Answers (.copyFrameRx f) s (fun t => s.Only t [Obj.TWIN_ERRORS] ∧ ack t tag 1 (s.dev.obj Obj.ROLE))) ∧
      (f.closed = true → f.checked = true →
        (s.dev.obj Obj.ROLE = 4 ∨ (s.dev.obj Obj.ROLE = 5 ∧ s.dev.state ≠ stConfig) ∨ (s.dev.obj Obj.ROLE = 2 ∧ tag ≠ (s.dev.obj Obj.LAST_COPY_TAG + 1) % 2 ^ 32) → Answers (.copyFrameRx f) s (fun t =>
          s.Puts t [(Obj.PEER_ROLE, 1)] ∧ ack t tag 3 (s.dev.obj Obj.ROLE))) ∧
        (s.dev.obj Obj.ROLE = 2 → tag = (s.dev.obj Obj.LAST_COPY_TAG + 1) % 2 ^ 32 → f.header.flags.toNat % 2 = 0 →
          (f.segments = [] → Answers (.copyFrameRx f) s (fun t => s.Puts t [(Obj.PEER_ROLE, 1), (Obj.LAST_COPY_TAG, tag)] ∧ ack t tag 0 2 ∧
            t.dev.pair.follow = some f.header.state.toNat ∧ t.dev.pair.got = true)) ∧
          (∀ c, f.segments = [.window c] → s.dev.state ≠ stConfig → Answers (.copyFrameRx f) s (fun t => ack t tag 0 2 ∧
            s.Puts { t with mem := s.mem } [(Obj.PEER_ROLE, 1), (Obj.LAST_COPY_TAG, tag)] ∧
            t.mem = (c.bytes.filter (fun e => decide (e.1 < (s.dev.windowAt c.ctx).2))).foldl (fun (m : Mem) e => m.put ((s.dev.windowAt c.ctx).1 + e.1) e.2) s.mem)) ∧
          (∀ n g h, f.segments = [.profile n g h] → n < s.dev.gens.length → Answers (.copyFrameRx f) s (fun t => ack t tag 0 2 ∧ t.dev.gen n = g ∧
            s.Puts t [(Obj.PROFILE_STATE n, g.state), (Obj.PROFILE_FLAGS n, g.flags), (Obj.HOME_STATE n, h), (Obj.PEER_ROLE, 1), (Obj.LAST_COPY_TAG, tag)]))) ∧
        (s.dev.obj Obj.ROLE = 5 → s.dev.state = stConfig → s.dev.pair.joining = false → f.segments = [] → f.header.flags.toNat % 2 = 0 → Answers (.copyFrameRx f) s (fun t =>
          t.dev.obj Obj.ROLE = 3 ∧ t.dev.latched 0x50 = true ∧ t.dev.obj Obj.LAST_COPY_TAG = tag ∧ ack t tag 0 3 ∧
          s.Only t [Obj.ROLE, Obj.ARB_PINS, Obj.PEER_ROLE, Obj.LAST_COPY_TAG]))))) ∧
  (∀ (s : State) (a : CopyAck),
    (s.dev.obj Obj.ROLE ≠ 1 ∨ s.dev.pair.twinUp = false → Answers (.copyAckRx a) s (fun t => s.Same t ∧ t.dev.pair = s.dev.pair)) ∧
    (s.dev.obj Obj.ROLE = 1 → s.dev.pair.twinUp = true →
      (a.checked = false → Answers (.copyAckRx a) s (fun t => s.Only t [Obj.TWIN_ERRORS] ∧ t.dev.pair = s.dev.pair)) ∧
      (a.checked = true → a.role ≠ 3 → s.dev.pair.joining = false →
        (a.result = 0 → a.tag.toNat = s.dev.cyc.tag → s.dev.pair.sent = true → Answers (.copyAckRx a) s (fun t => t.dev.pair.acked = true ∧
          (a.role = 2 → t.dev.pair.healthy = true) ∧
          s.Puts t [(Obj.PEER_ROLE, a.role.toNat), (Obj.JOIN_PROGRESS, a.progress.toNat), (Obj.LAST_COPY_TAG, s.dev.cyc.tag)])) ∧
        (a.result ≠ 0 ∨ a.tag.toNat ≠ s.dev.cyc.tag ∨ s.dev.pair.sent = false → Answers (.copyAckRx a) s (fun t => t.dev.pair = s.dev.pair ∧
          s.Puts t [(Obj.PEER_ROLE, a.role.toNat), (Obj.JOIN_PROGRESS, a.progress.toNat)]))) ∧
      (a.checked = true → a.role = 3 → s.dev.pair.joining = false →
        (s.dev.joinPlan 0 = 0 → s.dev.joinPlan 1 = 0 → Answers (.copyAckRx a) s (fun t => t.dev.pair.joining = true ∧
          t.dev.pair.joinId = (s.dev.pair.joinId + 1) % 65536 ∧ t.dev.obj Obj.PEER_ROLE = 3)) ∧
        (s.dev.joinPlan 0 ≠ 0 ∨ s.dev.joinPlan 1 ≠ 0 → Answers (.copyAckRx a) s (fun t => t.dev.pair.joining = false ∧ t.dev.latched 0x57 = true))))) ∧
  (∀ (s : State) (errors : BitVec 32),
    let counted := min (2 ^ 32 - 1) (s.dev.obj Obj.TWIN_ERRORS + errors.toNat)
    (s.dev.pair.twinUp = false → Answers (.twinLinkLoss errors) s (fun t => s.Puts t [(Obj.TWIN_ERRORS, counted)] ∧ t.dev.pair = s.dev.pair)) ∧
    (s.dev.pair.twinUp = true → Answers (.twinLinkLoss errors) s (fun t => t.dev.pair.twinUp = false ∧ s.Only t [Obj.TWIN_ERRORS, Obj.PEER_ROLE] ∧
      t.dev.obj Obj.TWIN_ERRORS = counted ∧
      (s.dev.obj Obj.ROLE = 1 → t.dev.obj Obj.PEER_ROLE = 4 ∧ t.dev.latched 0x51 = true) ∧
      (s.dev.obj Obj.ROLE ∈ [2, 3] → t.dev.pair.staleNext = 1 ∧ t.dev.latched 0x51 = true)))) ∧
  (∀ s : State, (s.dev.pair.twinUp = true → Answers .twinLinkUp s (fun t => s.Same t ∧ t.dev.pair = s.dev.pair)) ∧
    (s.dev.pair.twinUp = false → Answers .twinLinkUp s (fun t => s.Only t [] ∧ t.dev.pair.twinUp = true ∧ t.dev.latched 0x52 = true))) ∧
  (∀ (s : State) (r : Fin 2) (h : DroveHeader),
    let f : DroveFrame := { epoch := h.epoch.toNat, cycleTag := h.tag.toNat, cycleStart := h.cycleStart.toNat, lead := h.lead.toNat, cycleLen := h.cycleLen.toNat, stoGroups := h.stoGroups.toNat, turn := h.turn.toNat, folded := h.folded, noRun := h.noRun, hdrCrc := 0, blocks := [] }
    let good := crc16 ((headerBytes f).take 29 ++ [h.blocks] ++ (headerBytes f).drop 30) = h.crc.toNat ∧ s.dev.ringCtl.epochSeen ≤ h.epoch.toNat
    (s.dev.isHead = true ∨ s.dev.ringOpen r = false ∨ ¬ good → Answers (.droveFrameRx r h) s (fun t => s.Same t ∧ t.dev.pair = s.dev.pair)) ∧
    (s.dev.isHead = false → s.dev.ringOpen r = true → good → Answers (.droveFrameRx r h) s (fun t => s.Same t ∧ t.dev.pair.nextTag = some h.tag.toNat ∧
      t.dev.ringCtl.epochSeen = h.epoch.toNat ∧ (10000 ≤ 125 * h.cycleLen.toNat → 125 * h.cycleLen.toNat ≤ 1000000 → t.dev.cyc.len = 125 * h.cycleLen.toNat) ∧
        t.dev.cyc.nextAt = if (s.dev.ring r).home = some h.dir.toNat then s.dev.now + h.arrival.toNat + h.lead.toNat - (s.dev.ring r).homeDelay
          else s.dev.cyc.nextAt)))

/-- While the island runs and past the dictionary load, ARB_GRANT rising is noted with its instant and reported; falling, it makes an ACTIVE
member STALE, which stops its drove frames; in BOOT before the load only the level is kept. A takeover whose grant is 1 µs old at the
boundary makes a member ACTIVE in a new epoch: in CONFIG or from WAITING its rings start discovery; one that has copied reports 0x55 with
its instant, and sets STALE_SERVICE for a copy more than 3 cycles old; outside CONFIG, from a copy at most 3 cycles old the axis states
stand, and from an older one every configured axis is DISABLED (what a takeover in CONFIG does is the model's reading of log entry 68); a
takeover that is not due changes nothing. RESUME with every generator at rest, HANDOVER of an ACTIVE with a STANDBY, and REJOIN of a STALE
member wait for their boundary, and then end stale service (0x58), stop the heartbeat from that boundary on, and make the member JOINING. -/
def Obligations.GrantsTakeoversAndRedundancyCommandsChangeRoles : Prop :=
  (∀ s : State,
    (s.dev.isl.running = false ∨ s.dev.pair.grant = true → Answers .arbGrantRise s (fun t => s.Same t ∧ t.dev.pair = s.dev.pair)) ∧
    (s.dev.isl.running = false ∨ s.dev.pair.grant = false → Answers .arbGrantFall s (fun t => s.Same t ∧ t.dev.pair = s.dev.pair)) ∧
    (s.dev.isl.running = true → s.dev.state = stBoot → s.dev.ctl.boot ≠ .loaded →
      (s.dev.pair.grant = false → Answers .arbGrantRise s (fun t => s.Same t ∧ t.dev.pair.grant = true ∧ t.dev.pair.grantAt = s.dev.pair.grantAt)) ∧
      (s.dev.pair.grant = true → Answers .arbGrantFall s (fun t => s.Same t ∧ t.dev.pair.grant = false))) ∧
    (s.dev.isl.running = true → s.dev.state ≠ stBoot →
      (s.dev.pair.grant = false → Answers .arbGrantRise s (fun t => s.Only t [Obj.ARB_PINS] ∧ t.dev.pair.grant = true ∧ t.dev.pair.grantAt = some s.dev.now ∧
        t.dev.latched 0x56 = true ∧ t.dev.obj Obj.ARB_PINS / 4 = 1)) ∧
      (s.dev.pair.grant = true → Answers .arbGrantFall s (fun t => t.dev.pair.grant = false ∧ t.dev.latched 0x56 = true ∧ t.mem = s.mem ∧
        (s.dev.obj Obj.ROLE = 1 → t.dev.obj Obj.ROLE = 4 ∧ t.dev.latched 0x50 = true ∧ ∀ r : Fin 2, r.val < s.dev.rings.length → (t.dev.ring r).sending = false) ∧
        (s.dev.obj Obj.ROLE ≠ 1 → s.Only t [Obj.ARB_PINS]))))) ∧
  (∀ s : State,
    let due := s.dev.objB Obj.PAIR_MODE && decide (s.dev.obj Obj.ROLE ∉ [0, 1]) && s.dev.cycling && decide (s.dev.now = s.dev.cyc.startAt) &&
      (match s.dev.pair.grantAt with
        | some t => decide (t + 1000 ≤ s.dev.cyc.startAt)
        | none => false)
    (due = false → Answers .takeover s (fun t => s.Same t ∧ t.dev.pair = s.dev.pair)) ∧
    (due = true → Answers .takeover s (fun t => t.dev.obj Obj.ROLE = 1 ∧ t.dev.latched 0x50 = true ∧ t.dev.pair.grantAt = none ∧ t.mem = s.mem ∧
      t.dev.obj (Obj.EPOCH 0) = (max s.dev.ringCtl.epochSeen s.dev.epoch + 1) % 2 ^ 32 ∧
      (s.dev.obj Obj.ROLE = 5 → s.Only t ([Obj.ROLE, Obj.ARB_PINS, Obj.EPOCH 0, Obj.EPOCH 1, Obj.CONNS_VALID, Obj.POOL_PEAK 0, Obj.POOL_PEAK 1,
        Obj.POOL_DROPPED 0, Obj.POOL_DROPPED 1] ++ (List.range 256).flatMap (fun n => [Obj.CONN_STATE n, Obj.CN_FAIL_REASON n]))) ∧
      (s.dev.obj Obj.ROLE = 5 ∨ s.dev.state = stConfig → ∀ r : Fin 2, r.val < s.dev.rings.length → s.dev.ringOpen r = true → (t.dev.ring r).phase = .discovering) ∧
      (let old := 3 < raw 32 ((s.dev.cyc.tag : Int) - s.dev.obj Obj.LAST_COPY_TAG)
       s.dev.obj Obj.ROLE ≠ 5 → t.dev.latched 0x55 = true ∧ t.dev.obj Obj.LAST_TAKEOVER = s.dev.time80 0 ∧
        (old → t.dev.obj Obj.STALE_SERVICE = 1) ∧ (¬ old → t.dev.obj Obj.STALE_SERVICE = s.dev.obj Obj.STALE_SERVICE) ∧
        (s.dev.state ≠ stConfig → ¬ old → ∀ n < 128, t.dev.axisState n = s.dev.axisState n) ∧
        (s.dev.state ≠ stConfig → old → ∀ n < 128, s.dev.configured n = true → t.dev.axisState n = 1))))) ∧
  (∀ (s : State) (src : Src), s.dev.reaches src = true → s.dev.state ≠ stSafeHold →
    ((∀ n < 128, s.dev.configured n = true → (s.dev.gen n).state ∈ [0, 8]) → Answers (.resume src) s (fun t => s.Queued t src Obj.REDUNDANCY_COMMAND 1)) ∧
    (s.dev.obj Obj.ROLE = 1 → s.dev.obj Obj.PEER_ROLE = 2 → Answers (.handover src) s (fun t => s.Queued t src Obj.REDUNDANCY_COMMAND 2)) ∧
    (s.dev.obj Obj.ROLE = 4 → Answers (.rejoin src) s (fun t => s.Queued t src Obj.REDUNDANCY_COMMAND 3))) ∧
  (∀ (d : Dev) (m : Mem),
    let e := fun v => (d.after m Obj.REDUNDANCY_COMMAND v).1
    ((∀ n < 128, d.configured n = true → (d.gen n).state ∈ [0, 8]) → d.objB Obj.STALE_SERVICE = true → (e 1).obj Obj.STALE_SERVICE = 0 ∧ (e 1).latched 0x58 = true) ∧
    (d.obj Obj.ROLE = 1 → d.obj Obj.PEER_ROLE = 2 → (e 2).pair.handover = true ∧ ∀ k, (e 2).obj k = d.obj k) ∧
    (d.obj Obj.ROLE = 4 → (e 3).obj Obj.ROLE = 3 ∧ (e 3).pair.got = true ∧ (e 3).latched 0x50 = true))

/-- BOOT_START with RESET_N released into good supplies erases the RAM and waits for the synthesisers; with a bad header it stays in BOOT;
BOOT_SEQUENCE_COMPLETE after the dictionary load enters CONFIG; before, neither does anything. In a cycling state with no SAFE-HOLD
decided and no healthy standby, a VCORE excursion, a handshake timeout and a fold fault decide causes 4, 5 and 2 with event 0x07, the fold
noted as failed, and the STO step follows at once for the first two; in BOOT SAFE-HOLD is entered at once (log entry 31); a later cause
changes nothing. VCORE closes the bypasses in any case. The STO step, when due, puts every group in STO. The next boundary enters
SAFE-HOLD: no write waits, no session stays open, the tick comes from the island. Otherwise a boundary takes the next cycle tag; a
deadline, once a cycle, publishes each computed context with that tag; outside cycling states, and before its instant (log entry 76),
neither does anything. -/
def Obligations.BootHoldAndTheCycleGoTheirWay : Prop :=
  (∀ s : State,
    (s.dev.originReady = false → Answers .bootStart s (fun t => s.Same t ∧ t.dev.ctl = { s.dev.ctl with causeReq := none })) ∧
    (s.dev.originReady = true → s.dev.flash.headerOk = false ∨ (s.dev.flash.block0Ok = false ∧ s.dev.flash.block1Ok = false) →
      Answers .bootStart s (fun t => s.Same t ∧ t.dev.ctl.boot = .headerBad)) ∧
    (s.dev.originReady = true → s.dev.flash.headerOk = true → s.dev.flash.block0Ok = true ∨ s.dev.flash.block1Ok = true →
      Answers .bootStart s (fun t => t.dev.ctl.boot = .lock ∧ t.mem.cells = [] ∧ t.dev.isl.running = true ∧ t.dev.state = stBoot)) ∧
    (s.dev.state ≠ stBoot ∨ s.dev.ctl.boot ≠ .loaded → Answers .bootSequenceComplete s (fun t => s.Same t)) ∧
    (s.dev.state = stBoot → s.dev.ctl.boot = .loaded → Answers .bootSequenceComplete s (fun t => t.dev.state = stConfig ∧ t.dev.ctl.boot = .done ∧
      t.dev.cyc.startAt = s.dev.now ∧ t.dev.cyc.nextAt = s.dev.now + s.dev.cyc.len ∧ t.mem = s.mem))) ∧
  (∀ (s : State) (f : Fin 8),
    let booting := s.dev.state = stBoot ∧ (s.dev.ctl.boot = .lock ∨ s.dev.ctl.boot = .loaded)
    (¬ booting → s.dev.cycling = false ∨ s.dev.ctl.holding = true →
      (∀ c ∈ [Instr.transportHandshakeTimeout, .foldSchedulerFault f], Answers c s (fun t => s.Same t ∧ t.dev.ctl.holding = s.dev.ctl.holding)) ∧
      Answers .vcoreOutOfRange s (fun t => s.Only t [Obj.BYPASS_STATE, Obj.RING_STATUS 0, Obj.RING_STATUS 1] ∧ t.dev.ringOpen 0 = false ∧
        t.dev.ringOpen 1 = false ∧ t.dev.ctl.holding = s.dev.ctl.holding)) ∧
    (booting → ∀ e ∈ [(Instr.vcoreOutOfRange, 4), (.transportHandshakeTimeout, 5), (.foldSchedulerFault f, 2)], Answers e.1 s (fun t =>
      t.dev.state = stSafeHold ∧ t.dev.obj Obj.SAFE_HOLD_CAUSE = e.2 ∧ t.dev.latched 0x07 = true ∧ t.mem = s.mem)) ∧
    (s.dev.cycling = true → s.dev.ctl.holding = false → s.dev.standbyHealthy = false →
      Answers .vcoreOutOfRange s (fun t => t.dev.obj Obj.SAFE_HOLD_CAUSE = 4 ∧ t.dev.latched 0x07 = true ∧ t.dev.ctl.holding = true ∧ t.dev.ctl.stoDone = true) ∧
      Answers .transportHandshakeTimeout s (fun t => t.dev.obj Obj.SAFE_HOLD_CAUSE = 5 ∧ t.dev.latched 0x07 = true ∧ t.dev.ctl.holding = true ∧ t.dev.ctl.stoDone = true) ∧
      Answers (.foldSchedulerFault f) s (fun t => t.dev.obj Obj.SAFE_HOLD_CAUSE = 2 ∧ t.dev.latched 0x07 = true ∧ t.dev.ctl.holding = true ∧
        t.dev.ctl.failedFold = some f.val ∧ t.dev.ctl.stoDone = false))) ∧
  (∀ s : State,
    (s.dev.ctl.holding = false ∨ s.dev.ctl.stoDone = true → Answers .safeHoldStoStep s (fun t => s.Same t)) ∧
    (s.dev.ctl.holding = true → s.dev.ctl.stoDone = false → s.dev.allStand = true ∨ s.dev.ctl.decidedAt + s.dev.obj Obj.SAFE_HOLD_STOP_TIME * 1000000 ≤ s.dev.now →
      Answers .safeHoldStoStep s (fun t => t.dev.ctl.stoDone = true ∧ t.mem = s.mem ∧ (s.dev.isl.running = true → ∀ g < 32, t.dev.groupState g = 4)))) ∧
  (∀ s : State,
    (s.dev.now < s.dev.cyc.nextAt → Answers .cycleBoundary s (fun t => s.Same t ∧ t.dev.cyc = s.dev.cyc)) ∧
    (s.dev.now + 5000 < s.dev.cyc.nextAt → Answers .dispatchDeadline s (fun t => s.Same t ∧ t.dev.cyc = s.dev.cyc)) ∧
    (s.dev.cycling = false → Answers .cycleBoundary s (fun t => s.Same t ∧ t.dev.cyc = s.dev.cyc) ∧ Answers .dispatchDeadline s (fun t => s.Same t ∧ t.dev.cyc = s.dev.cyc)) ∧
    (s.dev.cyc.dispatched = true → Answers .dispatchDeadline s (fun t => s.Same t ∧ t.dev.cyc = s.dev.cyc)) ∧
    (s.dev.cycling = true → s.dev.cyc.nextAt ≤ s.dev.now → s.dev.ctl.holding = true → s.dev.ctl.stoDone = true ∨ s.dev.ctl.handed = true → Answers .cycleBoundary s (fun t =>
      t.dev.state = stSafeHold ∧ t.dev.tally.queue = [] ∧ t.dev.tally.timed = [] ∧ (∀ i < 8, (t.dev.session i).isOpen = false) ∧
      t.dev.obj Obj.SAFETY_TICK_SOURCE ≠ 0 ∧ t.mem = s.mem)) ∧
    (s.dev.state ∈ [stReady, stRun, stService] → s.dev.cyc.nextAt ≤ s.dev.now → s.dev.obj Obj.ROLE = 0 → s.dev.ctl.holding = false → s.dev.ctl.trans = .none → s.dev.tally.queue = [] →
      s.dev.tally.timed = [] → Answers .cycleBoundary s (fun t => t.dev.cyc.tag = (s.dev.cyc.tag + 1) % 2 ^ 32 ∧ t.dev.cyc.startAt = s.dev.now ∧
        t.dev.cyc.nextAt = s.dev.now + s.dev.cyc.len ∧ t.dev.cyc.dispatched = false ∧ t.mem = s.mem)) ∧
    (s.dev.state ∈ [stReady, stRun] → s.dev.cyc.nextAt ≤ s.dev.now + 5000 → s.dev.obj Obj.ROLE = 0 → s.dev.ctl.handed = false → s.dev.cyc.dispatched = false → s.dev.pair.takeTag = none →
      s.dev.pair.staleStep = none → (∀ n, (s.dev.axis n).pub = []) → Answers .dispatchDeadline s (fun t => t.dev.cyc = { s.dev.cyc with dispatched := true } ∧
        t.mem = s.mem ∧ ∀ c < 136, s.dev.computes c = true → t.dev.obj (Obj.CYCLE_TAG c) = s.dev.cyc.tag)))
end

