-- ==== Sys2Proof/Laws/Bits.lean ====
section
/-! SUPPORT. Laws/Bits.lean: bit fields: a bit read after one is set or cleared, saturating counters, lists changed at one place. -/

set_option Elab.async false

namespace Sys2Proof.Machine

/-- Bits above a set one do not move. -/
theorem div_pow_of_gt (v n m : Nat) (h : (v / 2 ^ n) % 2 = 0) (hm : n < m) : (v + 2 ^ n) / 2 ^ m = v / 2 ^ m := by
  obtain ⟨k, rfl⟩ : ∃ k, m = n + 1 + k := ⟨m - n - 1, by omega⟩
  rw [pow_add 2 (n + 1) k, ← Nat.div_div_eq_div_mul, ← Nat.div_div_eq_div_mul]
  congr 1
  rw [pow_succ, ← Nat.div_div_eq_div_mul, ← Nat.div_div_eq_div_mul, Nat.add_div_right _ (by positivity)]
  omega

/-- A bit read after bit n is set. -/
theorem bit_setBit_true (v n m : Nat) : bit (setBit v n true) m = (bit v m || m == n) := by
  unfold setBit
  by_cases hb : bit v n = true
  · simp only [hb, beq_self_eq_true, if_true]
    by_cases e : m = n
    · subst e; simp [hb]
    · simp [e]
  · have hb' : bit v n = false := by simpa using hb
    simp only [hb', Bool.false_eq_true, if_false, beq_iff_eq, if_true]
    have h0 : (v / 2 ^ n) % 2 = 0 := by
      have := hb'
      simp only [bit, Nat.shiftRight_eq_div_pow, beq_eq_false_iff_ne] at this
      omega
    rcases lt_trichotomy m n with h | h | h
    · have e : m ≠ n := by omega
      simp only [bit, Nat.shiftRight_eq_div_pow]
      obtain ⟨k, rfl⟩ : ∃ k, n = m + (k + 1) := ⟨n - m - 1, by omega⟩
      rw [pow_add, Nat.add_mul_div_left _ _ (by positivity), pow_succ]
      have : (v / 2 ^ m + 2 ^ k * 2) % 2 = v / 2 ^ m % 2 := by omega
      simp [this]
    · subst h
      simp only [bit, Nat.shiftRight_eq_div_pow, Nat.add_div_right _ (show 0 < 2 ^ m by positivity)]
      simp; omega
    · have e : m ≠ n := by omega
      simp only [bit, Nat.shiftRight_eq_div_pow, div_pow_of_gt v n m h0 h]
      simp [e]

/-- A list changed at one place keeps its length. -/
@[simp] theorem upd_length {α : Type} (f : α → α) (l : List α) (i : Nat) : (upd f l i).length = l.length := by
  induction l generalizing i with
  | nil => rfl
  | cons a t ih => cases i <;> simp [upd, ih]

/-- The element changed, where there is one. -/
theorem getAt_upd_same {α : Type} (dflt : α) (f : α → α) (l : List α) (i : Nat) (h : i < l.length) :
    getAt dflt (upd f l i) i = f (getAt dflt l i) := by
  induction l generalizing i with
  | nil => simp at h
  | cons a t ih =>
    cases i with
    | zero => rfl
    | succ n => simp only [upd, getAt]; exact ih n (by simpa using h)

/-- The other elements are as before. -/
theorem getAt_upd_ne {α : Type} (dflt : α) (f : α → α) (l : List α) (i j : Nat) (h : i ≠ j) :
    getAt dflt (upd f l i) j = getAt dflt l j := by
  induction l generalizing i j with
  | nil => rfl
  | cons a t ih =>
    cases i with
    | zero => cases j with
      | zero => exact absurd rfl h
      | succ m => rfl
    | succ n => cases j with
      | zero => rfl
      | succ m => simp only [upd, getAt]; exact ih n m (by omega)

/-- A step kept through a counted repetition keeps an invariant. -/
theorem forN_induct {α : Type} (P : α → Prop) (n : Nat) (f : Nat → α → α) (a : α) (h : ∀ i a, P a → P (f i a)) (ha : P a) :
    P (forN n f a) := by
  induction n with
  | zero => exact ha
  | succ n ih => exact h n _ ih

/-- A fold keeps what its step keeps. -/
theorem foldl_induct {α β : Type} (P : α → Prop) (l : List β) (f : α → β → α) (a : α) (h : ∀ a b, P a → P (f a b)) (ha : P a) :
    P (l.foldl f a) := by
  induction l generalizing a with
  | nil => exact ha
  | cons b t ih => exact ih _ (h a b ha)

end Sys2Proof.Machine
end

