-- ==== Sys2Proof/Laws/State.lean ====
section
/-! SUPPORT. Laws/State.lean: what every update leaves alone, one lemma for each field, and reading an object or a DOMAIN value back
after a write. Reading a table needs no canonical form. -/

namespace Sys2Proof.Machine

/-! ## Tables -/

/-- Placing an entry: the key reads as the value, every other key as before. -/
theorem tget_tput {α : Type} (dflt : Nat → α) (m : List (Nat × α)) (k j : Nat) (v : α) :
    tget dflt (tput m k v) j = if k = j then v else tget dflt m j := by
  induction m with
  | nil => simp [tput, tget]
  | cons e t ih =>
    obtain ⟨i, w⟩ := e
    simp only [tput]
    split
    · simp [tget]
    · split
      · subst i
        simp only [tget]
        split <;> simp_all
      · simp only [tget, ih]
        split
        · rename_i h1 h2 h3
          have : k ≠ j := by omega
          simp [this]
        · rfl

/-- Removing a key: it reads as an unlisted one, every other key as before. -/
theorem tget_tdel {α : Type} (dflt : Nat → α) (m : List (Nat × α)) (k j : Nat) :
    tget dflt (tdel m k) j = if k = j then dflt j else tget dflt m j := by
  induction m with
  | nil => simp [tdel, tget]
  | cons e t ih =>
    obtain ⟨i, w⟩ := e
    simp only [tdel]
    split
    · subst i
      simp only [ih, tget]
      split <;> simp_all
    · simp only [tget, ih]
      split
      · rename_i h1 h2
        have : k ≠ j := by omega
        simp [this]
      · rfl

/-- A write that keeps the canonical form reads back as one that does not. -/
theorem tget_tset {α : Type} [DecidableEq α] (dflt : Nat → α) (m : List (Nat × α)) (k j : Nat) (v : α) :
    tget dflt (tset dflt m k v) j = if k = j then v else tget dflt m j := by
  unfold tset
  split
  · rw [tget_tdel]
    split
    · subst_vars; rfl
    · rfl
  · exact tget_tput dflt m k j v

/-- An object read after a write. -/
theorem Dev.obj_setObj (d : Dev) (k v j : Nat) : (d.setObj k v).obj j = if k = j then v else d.obj j :=
  tget_tset defaultOf d.dict k j v

@[simp] theorem Dev.obj_setObj_same (d : Dev) (k v : Nat) : (d.setObj k v).obj k = v := by simp [Dev.obj_setObj]

theorem Dev.obj_setObj_ne (d : Dev) (k v j : Nat) (h : k ≠ j) : (d.setObj k v).obj j = d.obj j := by simp [Dev.obj_setObj, h]

@[simp] theorem Dev.obj_setObjI (d : Dev) (w k j : Nat) (v : Int) : (d.setObjI w k v).obj j = if k = j then raw w v else d.obj j :=
  d.obj_setObj k (raw w v) j

@[simp] theorem Dev.obj_setObjB (d : Dev) (k j : Nat) (b : Bool) : (d.setObjB k b).obj j = if k = j then b2n b else d.obj j :=
  d.obj_setObj k (b2n b) j

@[simp] theorem Dev.obj_setObjBit (d : Dev) (k n j : Nat) (b : Bool) :
    (d.setObjBit k n b).obj j = if k = j then setBit (d.obj k) n b else d.obj j := d.obj_setObj k (setBit (d.obj k) n b) j

@[simp] theorem Dev.obj_bumpBy (d : Dev) (w k n j : Nat) :
    (d.bumpBy w k n).obj j = if k = j then satAdd w (d.obj k) n else d.obj j := d.obj_setObj k (satAdd w (d.obj k) n) j

@[simp] theorem Dev.obj_bump (d : Dev) (k j : Nat) : (d.bump k).obj j = if k = j then satAdd 32 (d.obj k) 1 else d.obj j :=
  d.obj_setObj k (satAdd 32 (d.obj k) 1) j

/-- A DOMAIN value read after a write. -/
theorem Dev.blob_setBlob (d : Dev) (k : Nat) (v : List Byte) (j : Nat) : (d.setBlob k v).blob j = if k = j then v else d.blob j :=
  tget_tset (fun _ => []) d.blobs k j v

/-- Objects stand in the dictionary alone. -/
theorem Dev.obj_congr (d e : Dev) (h : e.dict = d.dict) (k : Nat) : e.obj k = d.obj k := by
  unfold Dev.obj
  rw [h]

/-- DOMAIN values stand in their table alone. -/
theorem Dev.blob_congr (d e : Dev) (h : e.blobs = d.blobs) (k : Nat) : e.blob k = d.blob k := by
  unfold Dev.blob
  rw [h]

/-! ## What each update leaves alone, field by field -/

@[simp] theorem Dev.setObj_now (d : Dev) (k v : Nat) : (d.setObj k v).now = d.now := rfl
@[simp] theorem Dev.setObjI_now (d : Dev) (w k : Nat) (v : Int) : (d.setObjI w k v).now = d.now := rfl
@[simp] theorem Dev.updSession_now (d : Dev) (s : Nat) (f : Session → Session) : (d.updSession s f).now = d.now := rfl
@[simp] theorem Dev.setObjB_now (d : Dev) (k : Nat) (b : Bool) : (d.setObjB k b).now = d.now := rfl
@[simp] theorem Dev.updRing_now (d : Dev) (r : Nat) (f : Ring → Ring) : (d.updRing r f).now = d.now := rfl
@[simp] theorem Dev.setObjBit_now (d : Dev) (k n : Nat) (b : Bool) : (d.setObjBit k n b).now = d.now := rfl
@[simp] theorem Dev.updConn_now (d : Dev) (n : Nat) (f : Conn → Conn) : (d.updConn n f).now = d.now := rfl
@[simp] theorem Dev.bumpBy_now (d : Dev) (w k n : Nat) : (d.bumpBy w k n).now = d.now := rfl
@[simp] theorem Dev.updGroup_now (d : Dev) (g : Nat) (f : SafeGroup → SafeGroup) : (d.updGroup g f).now = d.now := rfl
@[simp] theorem Dev.bump_now (d : Dev) (k : Nat) : (d.bump k).now = d.now := rfl
@[simp] theorem Dev.updPair_now (d : Dev) (i : Nat) (f : SafePair → SafePair) : (d.updPair i f).now = d.now := rfl
@[simp] theorem Dev.setBlob_now (d : Dev) (k : Nat) (v : List Byte) : (d.setBlob k v).now = d.now := rfl
@[simp] theorem Dev.updOut_now (d : Dev) (o : Nat) (f : SafeOut → SafeOut) : (d.updOut o f).now = d.now := rfl
@[simp] theorem Dev.emit_now (d : Dev) (e : Emit) : (d.emit e).now = d.now := rfl
@[simp] theorem Dev.updMonitor_now (d : Dev) (a : Nat) (f : Monitor → Monitor) : (d.updMonitor a f).now = d.now := rfl
@[simp] theorem Dev.updIsl_now (d : Dev) (f : Island → Island) : (d.updIsl f).now = d.now := rfl
@[simp] theorem Dev.updAxis_now (d : Dev) (c : Nat) (g : Axis → Axis) : (d.updAxis c g).now = d.now := rfl
@[simp] theorem Dev.updPair14_now (d : Dev) (f : Pair → Pair) : (d.updPair14 f).now = d.now := rfl
@[simp] theorem Dev.updLeg_now (d : Dev) (n : Nat) (f : LegPort → LegPort) : (d.updLeg n f).now = d.now := rfl
@[simp] theorem Dev.updLane_now (d : Dev) (f l : Nat) (g : Lane → Lane) : (d.updLane f l g).now = d.now := rfl
@[simp] theorem Dev.updUnit_now (d : Dev) (u : Nat) (f : TrigUnit → TrigUnit) : (d.updUnit u f).now = d.now := rfl
@[simp] theorem Dev.updWear_now (d : Dev) (f l : Nat) (g : Lane → Lane) : (d.updWear f l g).now = d.now := rfl
@[simp] theorem Dev.updRec_now (d : Dev) (r : Nat) (f : Recorder → Recorder) : (d.updRec r f).now = d.now := rfl
@[simp] theorem Dev.fresh_now (d : Dev) : d.fresh.now = d.now := rfl

@[simp] theorem Dev.setObj_blobs (d : Dev) (k v : Nat) : (d.setObj k v).blobs = d.blobs := rfl
@[simp] theorem Dev.updSession_blobs (d : Dev) (s : Nat) (f : Session → Session) : (d.updSession s f).blobs = d.blobs := rfl
@[simp] theorem Dev.setObjI_blobs (d : Dev) (w k : Nat) (v : Int) : (d.setObjI w k v).blobs = d.blobs := rfl
@[simp] theorem Dev.updRing_blobs (d : Dev) (r : Nat) (f : Ring → Ring) : (d.updRing r f).blobs = d.blobs := rfl
@[simp] theorem Dev.setObjB_blobs (d : Dev) (k : Nat) (b : Bool) : (d.setObjB k b).blobs = d.blobs := rfl
@[simp] theorem Dev.updConn_blobs (d : Dev) (n : Nat) (f : Conn → Conn) : (d.updConn n f).blobs = d.blobs := rfl
@[simp] theorem Dev.setObjBit_blobs (d : Dev) (k n : Nat) (b : Bool) : (d.setObjBit k n b).blobs = d.blobs := rfl
@[simp] theorem Dev.updGroup_blobs (d : Dev) (g : Nat) (f : SafeGroup → SafeGroup) : (d.updGroup g f).blobs = d.blobs := rfl
@[simp] theorem Dev.bumpBy_blobs (d : Dev) (w k n : Nat) : (d.bumpBy w k n).blobs = d.blobs := rfl
@[simp] theorem Dev.updPair_blobs (d : Dev) (i : Nat) (f : SafePair → SafePair) : (d.updPair i f).blobs = d.blobs := rfl
@[simp] theorem Dev.bump_blobs (d : Dev) (k : Nat) : (d.bump k).blobs = d.blobs := rfl
@[simp] theorem Dev.updOut_blobs (d : Dev) (o : Nat) (f : SafeOut → SafeOut) : (d.updOut o f).blobs = d.blobs := rfl
@[simp] theorem Dev.emit_blobs (d : Dev) (e : Emit) : (d.emit e).blobs = d.blobs := rfl
@[simp] theorem Dev.updMonitor_blobs (d : Dev) (a : Nat) (f : Monitor → Monitor) : (d.updMonitor a f).blobs = d.blobs := rfl
@[simp] theorem Dev.updIsl_blobs (d : Dev) (f : Island → Island) : (d.updIsl f).blobs = d.blobs := rfl
@[simp] theorem Dev.updAxis_blobs (d : Dev) (c : Nat) (g : Axis → Axis) : (d.updAxis c g).blobs = d.blobs := rfl
@[simp] theorem Dev.updPair14_blobs (d : Dev) (f : Pair → Pair) : (d.updPair14 f).blobs = d.blobs := rfl
@[simp] theorem Dev.updLeg_blobs (d : Dev) (n : Nat) (f : LegPort → LegPort) : (d.updLeg n f).blobs = d.blobs := rfl
@[simp] theorem Dev.updLane_blobs (d : Dev) (f l : Nat) (g : Lane → Lane) : (d.updLane f l g).blobs = d.blobs := rfl
@[simp] theorem Dev.updUnit_blobs (d : Dev) (u : Nat) (f : TrigUnit → TrigUnit) : (d.updUnit u f).blobs = d.blobs := rfl
@[simp] theorem Dev.updWear_blobs (d : Dev) (f l : Nat) (g : Lane → Lane) : (d.updWear f l g).blobs = d.blobs := rfl
@[simp] theorem Dev.updRec_blobs (d : Dev) (r : Nat) (f : Recorder → Recorder) : (d.updRec r f).blobs = d.blobs := rfl
@[simp] theorem Dev.fresh_blobs (d : Dev) : d.fresh.blobs = d.blobs := rfl

@[simp] theorem Dev.setObj_emitted (d : Dev) (k v : Nat) : (d.setObj k v).emitted = d.emitted := rfl
@[simp] theorem Dev.updSession_emitted (d : Dev) (s : Nat) (f : Session → Session) : (d.updSession s f).emitted = d.emitted := rfl
@[simp] theorem Dev.setObjI_emitted (d : Dev) (w k : Nat) (v : Int) : (d.setObjI w k v).emitted = d.emitted := rfl
@[simp] theorem Dev.updRing_emitted (d : Dev) (r : Nat) (f : Ring → Ring) : (d.updRing r f).emitted = d.emitted := rfl
@[simp] theorem Dev.setObjB_emitted (d : Dev) (k : Nat) (b : Bool) : (d.setObjB k b).emitted = d.emitted := rfl
@[simp] theorem Dev.updConn_emitted (d : Dev) (n : Nat) (f : Conn → Conn) : (d.updConn n f).emitted = d.emitted := rfl
@[simp] theorem Dev.setObjBit_emitted (d : Dev) (k n : Nat) (b : Bool) : (d.setObjBit k n b).emitted = d.emitted := rfl
@[simp] theorem Dev.updGroup_emitted (d : Dev) (g : Nat) (f : SafeGroup → SafeGroup) : (d.updGroup g f).emitted = d.emitted := rfl
@[simp] theorem Dev.bumpBy_emitted (d : Dev) (w k n : Nat) : (d.bumpBy w k n).emitted = d.emitted := rfl
@[simp] theorem Dev.updPair_emitted (d : Dev) (i : Nat) (f : SafePair → SafePair) : (d.updPair i f).emitted = d.emitted := rfl
@[simp] theorem Dev.bump_emitted (d : Dev) (k : Nat) : (d.bump k).emitted = d.emitted := rfl
@[simp] theorem Dev.updOut_emitted (d : Dev) (o : Nat) (f : SafeOut → SafeOut) : (d.updOut o f).emitted = d.emitted := rfl
@[simp] theorem Dev.setBlob_emitted (d : Dev) (k : Nat) (v : List Byte) : (d.setBlob k v).emitted = d.emitted := rfl
@[simp] theorem Dev.updMonitor_emitted (d : Dev) (a : Nat) (f : Monitor → Monitor) : (d.updMonitor a f).emitted = d.emitted := rfl
@[simp] theorem Dev.updIsl_emitted (d : Dev) (f : Island → Island) : (d.updIsl f).emitted = d.emitted := rfl
@[simp] theorem Dev.updAxis_emitted (d : Dev) (c : Nat) (g : Axis → Axis) : (d.updAxis c g).emitted = d.emitted := rfl
@[simp] theorem Dev.updPair14_emitted (d : Dev) (f : Pair → Pair) : (d.updPair14 f).emitted = d.emitted := rfl
@[simp] theorem Dev.updLeg_emitted (d : Dev) (n : Nat) (f : LegPort → LegPort) : (d.updLeg n f).emitted = d.emitted := rfl
@[simp] theorem Dev.updLane_emitted (d : Dev) (f l : Nat) (g : Lane → Lane) : (d.updLane f l g).emitted = d.emitted := rfl
@[simp] theorem Dev.updUnit_emitted (d : Dev) (u : Nat) (f : TrigUnit → TrigUnit) : (d.updUnit u f).emitted = d.emitted := rfl
@[simp] theorem Dev.updWear_emitted (d : Dev) (f l : Nat) (g : Lane → Lane) : (d.updWear f l g).emitted = d.emitted := rfl
@[simp] theorem Dev.updRec_emitted (d : Dev) (r : Nat) (f : Recorder → Recorder) : (d.updRec r f).emitted = d.emitted := rfl

@[simp] theorem Dev.setObj_free (d : Dev) (k v : Nat) : (d.setObj k v).free = d.free := rfl
@[simp] theorem Dev.setObjI_free (d : Dev) (w k : Nat) (v : Int) : (d.setObjI w k v).free = d.free := rfl
@[simp] theorem Dev.updSession_free (d : Dev) (s : Nat) (f : Session → Session) : (d.updSession s f).free = d.free := rfl
@[simp] theorem Dev.setObjB_free (d : Dev) (k : Nat) (b : Bool) : (d.setObjB k b).free = d.free := rfl
@[simp] theorem Dev.updRing_free (d : Dev) (r : Nat) (f : Ring → Ring) : (d.updRing r f).free = d.free := rfl
@[simp] theorem Dev.setObjBit_free (d : Dev) (k n : Nat) (b : Bool) : (d.setObjBit k n b).free = d.free := rfl
@[simp] theorem Dev.updConn_free (d : Dev) (n : Nat) (f : Conn → Conn) : (d.updConn n f).free = d.free := rfl
@[simp] theorem Dev.bumpBy_free (d : Dev) (w k n : Nat) : (d.bumpBy w k n).free = d.free := rfl
@[simp] theorem Dev.updGroup_free (d : Dev) (g : Nat) (f : SafeGroup → SafeGroup) : (d.updGroup g f).free = d.free := rfl
@[simp] theorem Dev.bump_free (d : Dev) (k : Nat) : (d.bump k).free = d.free := rfl
@[simp] theorem Dev.updPair_free (d : Dev) (i : Nat) (f : SafePair → SafePair) : (d.updPair i f).free = d.free := rfl
@[simp] theorem Dev.setBlob_free (d : Dev) (k : Nat) (v : List Byte) : (d.setBlob k v).free = d.free := rfl
@[simp] theorem Dev.updOut_free (d : Dev) (o : Nat) (f : SafeOut → SafeOut) : (d.updOut o f).free = d.free := rfl
@[simp] theorem Dev.emit_free (d : Dev) (e : Emit) : (d.emit e).free = d.free := rfl
@[simp] theorem Dev.updMonitor_free (d : Dev) (a : Nat) (f : Monitor → Monitor) : (d.updMonitor a f).free = d.free := rfl
@[simp] theorem Dev.updIsl_free (d : Dev) (f : Island → Island) : (d.updIsl f).free = d.free := rfl
@[simp] theorem Dev.updAxis_free (d : Dev) (c : Nat) (g : Axis → Axis) : (d.updAxis c g).free = d.free := rfl
@[simp] theorem Dev.updPair14_free (d : Dev) (f : Pair → Pair) : (d.updPair14 f).free = d.free := rfl
@[simp] theorem Dev.updLeg_free (d : Dev) (n : Nat) (f : LegPort → LegPort) : (d.updLeg n f).free = d.free := rfl
@[simp] theorem Dev.updLane_free (d : Dev) (f l : Nat) (g : Lane → Lane) : (d.updLane f l g).free = d.free := rfl
@[simp] theorem Dev.updUnit_free (d : Dev) (u : Nat) (f : TrigUnit → TrigUnit) : (d.updUnit u f).free = d.free := rfl
@[simp] theorem Dev.updWear_free (d : Dev) (f l : Nat) (g : Lane → Lane) : (d.updWear f l g).free = d.free := rfl
@[simp] theorem Dev.updRec_free (d : Dev) (r : Nat) (f : Recorder → Recorder) : (d.updRec r f).free = d.free := rfl
@[simp] theorem Dev.fresh_free (d : Dev) : d.fresh.free = d.free := rfl

@[simp] theorem Dev.setObj_occurred (d : Dev) (k v : Nat) : (d.setObj k v).occurred = d.occurred := rfl
@[simp] theorem Dev.setObjI_occurred (d : Dev) (w k : Nat) (v : Int) : (d.setObjI w k v).occurred = d.occurred := rfl
@[simp] theorem Dev.updSession_occurred (d : Dev) (s : Nat) (f : Session → Session) : (d.updSession s f).occurred = d.occurred := rfl
@[simp] theorem Dev.setObjB_occurred (d : Dev) (k : Nat) (b : Bool) : (d.setObjB k b).occurred = d.occurred := rfl
@[simp] theorem Dev.updRing_occurred (d : Dev) (r : Nat) (f : Ring → Ring) : (d.updRing r f).occurred = d.occurred := rfl
@[simp] theorem Dev.setObjBit_occurred (d : Dev) (k n : Nat) (b : Bool) : (d.setObjBit k n b).occurred = d.occurred := rfl
@[simp] theorem Dev.updConn_occurred (d : Dev) (n : Nat) (f : Conn → Conn) : (d.updConn n f).occurred = d.occurred := rfl
@[simp] theorem Dev.bumpBy_occurred (d : Dev) (w k n : Nat) : (d.bumpBy w k n).occurred = d.occurred := rfl
@[simp] theorem Dev.updGroup_occurred (d : Dev) (g : Nat) (f : SafeGroup → SafeGroup) : (d.updGroup g f).occurred = d.occurred := rfl
@[simp] theorem Dev.bump_occurred (d : Dev) (k : Nat) : (d.bump k).occurred = d.occurred := rfl
@[simp] theorem Dev.updPair_occurred (d : Dev) (i : Nat) (f : SafePair → SafePair) : (d.updPair i f).occurred = d.occurred := rfl
@[simp] theorem Dev.setBlob_occurred (d : Dev) (k : Nat) (v : List Byte) : (d.setBlob k v).occurred = d.occurred := rfl
@[simp] theorem Dev.updOut_occurred (d : Dev) (o : Nat) (f : SafeOut → SafeOut) : (d.updOut o f).occurred = d.occurred := rfl
@[simp] theorem Dev.emit_occurred (d : Dev) (e : Emit) : (d.emit e).occurred = d.occurred := rfl
@[simp] theorem Dev.updMonitor_occurred (d : Dev) (a : Nat) (f : Monitor → Monitor) : (d.updMonitor a f).occurred = d.occurred := rfl
@[simp] theorem Dev.updIsl_occurred (d : Dev) (f : Island → Island) : (d.updIsl f).occurred = d.occurred := rfl
@[simp] theorem Dev.updAxis_occurred (d : Dev) (c : Nat) (g : Axis → Axis) : (d.updAxis c g).occurred = d.occurred := rfl
@[simp] theorem Dev.updPair14_occurred (d : Dev) (f : Pair → Pair) : (d.updPair14 f).occurred = d.occurred := rfl
@[simp] theorem Dev.updLeg_occurred (d : Dev) (n : Nat) (f : LegPort → LegPort) : (d.updLeg n f).occurred = d.occurred := rfl
@[simp] theorem Dev.updLane_occurred (d : Dev) (f l : Nat) (g : Lane → Lane) : (d.updLane f l g).occurred = d.occurred := rfl
@[simp] theorem Dev.updUnit_occurred (d : Dev) (u : Nat) (f : TrigUnit → TrigUnit) : (d.updUnit u f).occurred = d.occurred := rfl
@[simp] theorem Dev.updWear_occurred (d : Dev) (f l : Nat) (g : Lane → Lane) : (d.updWear f l g).occurred = d.occurred := rfl
@[simp] theorem Dev.updRec_occurred (d : Dev) (r : Nat) (f : Recorder → Recorder) : (d.updRec r f).occurred = d.occurred := rfl
@[simp] theorem Dev.fresh_occurred (d : Dev) : d.fresh.occurred = d.occurred := rfl

@[simp] theorem Dev.setObj_drops (d : Dev) (k v : Nat) : (d.setObj k v).drops = d.drops := rfl
@[simp] theorem Dev.updSession_drops (d : Dev) (s : Nat) (f : Session → Session) : (d.updSession s f).drops = d.drops := rfl
@[simp] theorem Dev.setObjI_drops (d : Dev) (w k : Nat) (v : Int) : (d.setObjI w k v).drops = d.drops := rfl
@[simp] theorem Dev.updRing_drops (d : Dev) (r : Nat) (f : Ring → Ring) : (d.updRing r f).drops = d.drops := rfl
@[simp] theorem Dev.setObjB_drops (d : Dev) (k : Nat) (b : Bool) : (d.setObjB k b).drops = d.drops := rfl
@[simp] theorem Dev.updConn_drops (d : Dev) (n : Nat) (f : Conn → Conn) : (d.updConn n f).drops = d.drops := rfl
@[simp] theorem Dev.setObjBit_drops (d : Dev) (k n : Nat) (b : Bool) : (d.setObjBit k n b).drops = d.drops := rfl
@[simp] theorem Dev.updGroup_drops (d : Dev) (g : Nat) (f : SafeGroup → SafeGroup) : (d.updGroup g f).drops = d.drops := rfl
@[simp] theorem Dev.bumpBy_drops (d : Dev) (w k n : Nat) : (d.bumpBy w k n).drops = d.drops := rfl
@[simp] theorem Dev.updPair_drops (d : Dev) (i : Nat) (f : SafePair → SafePair) : (d.updPair i f).drops = d.drops := rfl
@[simp] theorem Dev.bump_drops (d : Dev) (k : Nat) : (d.bump k).drops = d.drops := rfl
@[simp] theorem Dev.updOut_drops (d : Dev) (o : Nat) (f : SafeOut → SafeOut) : (d.updOut o f).drops = d.drops := rfl
@[simp] theorem Dev.setBlob_drops (d : Dev) (k : Nat) (v : List Byte) : (d.setBlob k v).drops = d.drops := rfl
@[simp] theorem Dev.updMonitor_drops (d : Dev) (a : Nat) (f : Monitor → Monitor) : (d.updMonitor a f).drops = d.drops := rfl
@[simp] theorem Dev.emit_drops (d : Dev) (e : Emit) : (d.emit e).drops = d.drops := rfl
@[simp] theorem Dev.updAxis_drops (d : Dev) (c : Nat) (g : Axis → Axis) : (d.updAxis c g).drops = d.drops := rfl
@[simp] theorem Dev.updIsl_drops (d : Dev) (f : Island → Island) : (d.updIsl f).drops = d.drops := rfl
@[simp] theorem Dev.updLeg_drops (d : Dev) (n : Nat) (f : LegPort → LegPort) : (d.updLeg n f).drops = d.drops := rfl
@[simp] theorem Dev.updPair14_drops (d : Dev) (f : Pair → Pair) : (d.updPair14 f).drops = d.drops := rfl
@[simp] theorem Dev.updUnit_drops (d : Dev) (u : Nat) (f : TrigUnit → TrigUnit) : (d.updUnit u f).drops = d.drops := rfl
@[simp] theorem Dev.updLane_drops (d : Dev) (f l : Nat) (g : Lane → Lane) : (d.updLane f l g).drops = d.drops := rfl
@[simp] theorem Dev.updRec_drops (d : Dev) (r : Nat) (f : Recorder → Recorder) : (d.updRec r f).drops = d.drops := rfl
@[simp] theorem Dev.updWear_drops (d : Dev) (f l : Nat) (g : Lane → Lane) : (d.updWear f l g).drops = d.drops := rfl

@[simp] theorem Dev.setObj_ctl (d : Dev) (k v : Nat) : (d.setObj k v).ctl = d.ctl := rfl
@[simp] theorem Dev.updSession_ctl (d : Dev) (s : Nat) (f : Session → Session) : (d.updSession s f).ctl = d.ctl := rfl
@[simp] theorem Dev.setObjI_ctl (d : Dev) (w k : Nat) (v : Int) : (d.setObjI w k v).ctl = d.ctl := rfl
@[simp] theorem Dev.updRing_ctl (d : Dev) (r : Nat) (f : Ring → Ring) : (d.updRing r f).ctl = d.ctl := rfl
@[simp] theorem Dev.setObjB_ctl (d : Dev) (k : Nat) (b : Bool) : (d.setObjB k b).ctl = d.ctl := rfl
@[simp] theorem Dev.updConn_ctl (d : Dev) (n : Nat) (f : Conn → Conn) : (d.updConn n f).ctl = d.ctl := rfl
@[simp] theorem Dev.setObjBit_ctl (d : Dev) (k n : Nat) (b : Bool) : (d.setObjBit k n b).ctl = d.ctl := rfl
@[simp] theorem Dev.updGroup_ctl (d : Dev) (g : Nat) (f : SafeGroup → SafeGroup) : (d.updGroup g f).ctl = d.ctl := rfl
@[simp] theorem Dev.bumpBy_ctl (d : Dev) (w k n : Nat) : (d.bumpBy w k n).ctl = d.ctl := rfl
@[simp] theorem Dev.updPair_ctl (d : Dev) (i : Nat) (f : SafePair → SafePair) : (d.updPair i f).ctl = d.ctl := rfl
@[simp] theorem Dev.bump_ctl (d : Dev) (k : Nat) : (d.bump k).ctl = d.ctl := rfl
@[simp] theorem Dev.updOut_ctl (d : Dev) (o : Nat) (f : SafeOut → SafeOut) : (d.updOut o f).ctl = d.ctl := rfl
@[simp] theorem Dev.setBlob_ctl (d : Dev) (k : Nat) (v : List Byte) : (d.setBlob k v).ctl = d.ctl := rfl
@[simp] theorem Dev.updMonitor_ctl (d : Dev) (a : Nat) (f : Monitor → Monitor) : (d.updMonitor a f).ctl = d.ctl := rfl
@[simp] theorem Dev.emit_ctl (d : Dev) (e : Emit) : (d.emit e).ctl = d.ctl := rfl
@[simp] theorem Dev.updAxis_ctl (d : Dev) (c : Nat) (g : Axis → Axis) : (d.updAxis c g).ctl = d.ctl := rfl
@[simp] theorem Dev.updIsl_ctl (d : Dev) (f : Island → Island) : (d.updIsl f).ctl = d.ctl := rfl
@[simp] theorem Dev.updLeg_ctl (d : Dev) (n : Nat) (f : LegPort → LegPort) : (d.updLeg n f).ctl = d.ctl := rfl
@[simp] theorem Dev.updPair14_ctl (d : Dev) (f : Pair → Pair) : (d.updPair14 f).ctl = d.ctl := rfl
@[simp] theorem Dev.updUnit_ctl (d : Dev) (u : Nat) (f : TrigUnit → TrigUnit) : (d.updUnit u f).ctl = d.ctl := rfl
@[simp] theorem Dev.updLane_ctl (d : Dev) (f l : Nat) (g : Lane → Lane) : (d.updLane f l g).ctl = d.ctl := rfl
@[simp] theorem Dev.updRec_ctl (d : Dev) (r : Nat) (f : Recorder → Recorder) : (d.updRec r f).ctl = d.ctl := rfl
@[simp] theorem Dev.updWear_ctl (d : Dev) (f l : Nat) (g : Lane → Lane) : (d.updWear f l g).ctl = d.ctl := rfl

@[simp] theorem Dev.setObj_tally (d : Dev) (k v : Nat) : (d.setObj k v).tally = d.tally := rfl
@[simp] theorem Dev.setObjI_tally (d : Dev) (w k : Nat) (v : Int) : (d.setObjI w k v).tally = d.tally := rfl
@[simp] theorem Dev.updSession_tally (d : Dev) (s : Nat) (f : Session → Session) : (d.updSession s f).tally = d.tally := rfl
@[simp] theorem Dev.setObjB_tally (d : Dev) (k : Nat) (b : Bool) : (d.setObjB k b).tally = d.tally := rfl
@[simp] theorem Dev.updRing_tally (d : Dev) (r : Nat) (f : Ring → Ring) : (d.updRing r f).tally = d.tally := rfl
@[simp] theorem Dev.setObjBit_tally (d : Dev) (k n : Nat) (b : Bool) : (d.setObjBit k n b).tally = d.tally := rfl
@[simp] theorem Dev.updConn_tally (d : Dev) (n : Nat) (f : Conn → Conn) : (d.updConn n f).tally = d.tally := rfl
@[simp] theorem Dev.bumpBy_tally (d : Dev) (w k n : Nat) : (d.bumpBy w k n).tally = d.tally := rfl
@[simp] theorem Dev.updGroup_tally (d : Dev) (g : Nat) (f : SafeGroup → SafeGroup) : (d.updGroup g f).tally = d.tally := rfl
@[simp] theorem Dev.bump_tally (d : Dev) (k : Nat) : (d.bump k).tally = d.tally := rfl
@[simp] theorem Dev.updPair_tally (d : Dev) (i : Nat) (f : SafePair → SafePair) : (d.updPair i f).tally = d.tally := rfl
@[simp] theorem Dev.setBlob_tally (d : Dev) (k : Nat) (v : List Byte) : (d.setBlob k v).tally = d.tally := rfl
@[simp] theorem Dev.updOut_tally (d : Dev) (o : Nat) (f : SafeOut → SafeOut) : (d.updOut o f).tally = d.tally := rfl
@[simp] theorem Dev.emit_tally (d : Dev) (e : Emit) : (d.emit e).tally = d.tally := rfl
@[simp] theorem Dev.updMonitor_tally (d : Dev) (a : Nat) (f : Monitor → Monitor) : (d.updMonitor a f).tally = d.tally := rfl
@[simp] theorem Dev.updIsl_tally (d : Dev) (f : Island → Island) : (d.updIsl f).tally = d.tally := rfl
@[simp] theorem Dev.updAxis_tally (d : Dev) (c : Nat) (g : Axis → Axis) : (d.updAxis c g).tally = d.tally := rfl
@[simp] theorem Dev.updPair14_tally (d : Dev) (f : Pair → Pair) : (d.updPair14 f).tally = d.tally := rfl
@[simp] theorem Dev.updLeg_tally (d : Dev) (n : Nat) (f : LegPort → LegPort) : (d.updLeg n f).tally = d.tally := rfl
@[simp] theorem Dev.updLane_tally (d : Dev) (f l : Nat) (g : Lane → Lane) : (d.updLane f l g).tally = d.tally := rfl
@[simp] theorem Dev.updUnit_tally (d : Dev) (u : Nat) (f : TrigUnit → TrigUnit) : (d.updUnit u f).tally = d.tally := rfl
@[simp] theorem Dev.updWear_tally (d : Dev) (f l : Nat) (g : Lane → Lane) : (d.updWear f l g).tally = d.tally := rfl
@[simp] theorem Dev.updRec_tally (d : Dev) (r : Nat) (f : Recorder → Recorder) : (d.updRec r f).tally = d.tally := rfl
@[simp] theorem Dev.fresh_tally (d : Dev) : d.fresh.tally = d.tally := rfl

@[simp] theorem Dev.setObj_flash (d : Dev) (k v : Nat) : (d.setObj k v).flash = d.flash := rfl
@[simp] theorem Dev.setObjI_flash (d : Dev) (w k : Nat) (v : Int) : (d.setObjI w k v).flash = d.flash := rfl
@[simp] theorem Dev.updSession_flash (d : Dev) (s : Nat) (f : Session → Session) : (d.updSession s f).flash = d.flash := rfl
@[simp] theorem Dev.setObjB_flash (d : Dev) (k : Nat) (b : Bool) : (d.setObjB k b).flash = d.flash := rfl
@[simp] theorem Dev.updRing_flash (d : Dev) (r : Nat) (f : Ring → Ring) : (d.updRing r f).flash = d.flash := rfl
@[simp] theorem Dev.setObjBit_flash (d : Dev) (k n : Nat) (b : Bool) : (d.setObjBit k n b).flash = d.flash := rfl
@[simp] theorem Dev.updConn_flash (d : Dev) (n : Nat) (f : Conn → Conn) : (d.updConn n f).flash = d.flash := rfl
@[simp] theorem Dev.bumpBy_flash (d : Dev) (w k n : Nat) : (d.bumpBy w k n).flash = d.flash := rfl
@[simp] theorem Dev.updGroup_flash (d : Dev) (g : Nat) (f : SafeGroup → SafeGroup) : (d.updGroup g f).flash = d.flash := rfl
@[simp] theorem Dev.bump_flash (d : Dev) (k : Nat) : (d.bump k).flash = d.flash := rfl
@[simp] theorem Dev.updPair_flash (d : Dev) (i : Nat) (f : SafePair → SafePair) : (d.updPair i f).flash = d.flash := rfl
@[simp] theorem Dev.setBlob_flash (d : Dev) (k : Nat) (v : List Byte) : (d.setBlob k v).flash = d.flash := rfl
@[simp] theorem Dev.updOut_flash (d : Dev) (o : Nat) (f : SafeOut → SafeOut) : (d.updOut o f).flash = d.flash := rfl
@[simp] theorem Dev.emit_flash (d : Dev) (e : Emit) : (d.emit e).flash = d.flash := rfl
@[simp] theorem Dev.updMonitor_flash (d : Dev) (a : Nat) (f : Monitor → Monitor) : (d.updMonitor a f).flash = d.flash := rfl
@[simp] theorem Dev.updIsl_flash (d : Dev) (f : Island → Island) : (d.updIsl f).flash = d.flash := rfl
@[simp] theorem Dev.updAxis_flash (d : Dev) (c : Nat) (g : Axis → Axis) : (d.updAxis c g).flash = d.flash := rfl
@[simp] theorem Dev.updPair14_flash (d : Dev) (f : Pair → Pair) : (d.updPair14 f).flash = d.flash := rfl
@[simp] theorem Dev.updLeg_flash (d : Dev) (n : Nat) (f : LegPort → LegPort) : (d.updLeg n f).flash = d.flash := rfl
@[simp] theorem Dev.updLane_flash (d : Dev) (f l : Nat) (g : Lane → Lane) : (d.updLane f l g).flash = d.flash := rfl
@[simp] theorem Dev.updUnit_flash (d : Dev) (u : Nat) (f : TrigUnit → TrigUnit) : (d.updUnit u f).flash = d.flash := rfl
@[simp] theorem Dev.updWear_flash (d : Dev) (f l : Nat) (g : Lane → Lane) : (d.updWear f l g).flash = d.flash := rfl
@[simp] theorem Dev.updRec_flash (d : Dev) (r : Nat) (f : Recorder → Recorder) : (d.updRec r f).flash = d.flash := rfl
@[simp] theorem Dev.fresh_flash (d : Dev) : d.fresh.flash = d.flash := rfl

@[simp] theorem Dev.setObj_evq (d : Dev) (k v : Nat) : (d.setObj k v).evq = d.evq := rfl
@[simp] theorem Dev.setObjI_evq (d : Dev) (w k : Nat) (v : Int) : (d.setObjI w k v).evq = d.evq := rfl
@[simp] theorem Dev.updSession_evq (d : Dev) (s : Nat) (f : Session → Session) : (d.updSession s f).evq = d.evq := rfl
@[simp] theorem Dev.setObjB_evq (d : Dev) (k : Nat) (b : Bool) : (d.setObjB k b).evq = d.evq := rfl
@[simp] theorem Dev.updRing_evq (d : Dev) (r : Nat) (f : Ring → Ring) : (d.updRing r f).evq = d.evq := rfl
@[simp] theorem Dev.setObjBit_evq (d : Dev) (k n : Nat) (b : Bool) : (d.setObjBit k n b).evq = d.evq := rfl
@[simp] theorem Dev.updConn_evq (d : Dev) (n : Nat) (f : Conn → Conn) : (d.updConn n f).evq = d.evq := rfl
@[simp] theorem Dev.bumpBy_evq (d : Dev) (w k n : Nat) : (d.bumpBy w k n).evq = d.evq := rfl
@[simp] theorem Dev.updGroup_evq (d : Dev) (g : Nat) (f : SafeGroup → SafeGroup) : (d.updGroup g f).evq = d.evq := rfl
@[simp] theorem Dev.bump_evq (d : Dev) (k : Nat) : (d.bump k).evq = d.evq := rfl
@[simp] theorem Dev.updPair_evq (d : Dev) (i : Nat) (f : SafePair → SafePair) : (d.updPair i f).evq = d.evq := rfl
@[simp] theorem Dev.setBlob_evq (d : Dev) (k : Nat) (v : List Byte) : (d.setBlob k v).evq = d.evq := rfl
@[simp] theorem Dev.updOut_evq (d : Dev) (o : Nat) (f : SafeOut → SafeOut) : (d.updOut o f).evq = d.evq := rfl
@[simp] theorem Dev.emit_evq (d : Dev) (e : Emit) : (d.emit e).evq = d.evq := rfl
@[simp] theorem Dev.updMonitor_evq (d : Dev) (a : Nat) (f : Monitor → Monitor) : (d.updMonitor a f).evq = d.evq := rfl
@[simp] theorem Dev.updIsl_evq (d : Dev) (f : Island → Island) : (d.updIsl f).evq = d.evq := rfl
@[simp] theorem Dev.updAxis_evq (d : Dev) (c : Nat) (g : Axis → Axis) : (d.updAxis c g).evq = d.evq := rfl
@[simp] theorem Dev.updPair14_evq (d : Dev) (f : Pair → Pair) : (d.updPair14 f).evq = d.evq := rfl
@[simp] theorem Dev.updLeg_evq (d : Dev) (n : Nat) (f : LegPort → LegPort) : (d.updLeg n f).evq = d.evq := rfl
@[simp] theorem Dev.updLane_evq (d : Dev) (f l : Nat) (g : Lane → Lane) : (d.updLane f l g).evq = d.evq := rfl
@[simp] theorem Dev.updUnit_evq (d : Dev) (u : Nat) (f : TrigUnit → TrigUnit) : (d.updUnit u f).evq = d.evq := rfl
@[simp] theorem Dev.updWear_evq (d : Dev) (f l : Nat) (g : Lane → Lane) : (d.updWear f l g).evq = d.evq := rfl
@[simp] theorem Dev.updRec_evq (d : Dev) (r : Nat) (f : Recorder → Recorder) : (d.updRec r f).evq = d.evq := rfl
@[simp] theorem Dev.fresh_evq (d : Dev) : d.fresh.evq = d.evq := rfl

@[simp] theorem Dev.setObj_acc (d : Dev) (k v : Nat) : (d.setObj k v).acc = d.acc := rfl
@[simp] theorem Dev.setObjI_acc (d : Dev) (w k : Nat) (v : Int) : (d.setObjI w k v).acc = d.acc := rfl
@[simp] theorem Dev.updRing_acc (d : Dev) (r : Nat) (f : Ring → Ring) : (d.updRing r f).acc = d.acc := rfl
@[simp] theorem Dev.setObjB_acc (d : Dev) (k : Nat) (b : Bool) : (d.setObjB k b).acc = d.acc := rfl
@[simp] theorem Dev.setObjBit_acc (d : Dev) (k n : Nat) (b : Bool) : (d.setObjBit k n b).acc = d.acc := rfl
@[simp] theorem Dev.updConn_acc (d : Dev) (n : Nat) (f : Conn → Conn) : (d.updConn n f).acc = d.acc := rfl
@[simp] theorem Dev.bumpBy_acc (d : Dev) (w k n : Nat) : (d.bumpBy w k n).acc = d.acc := rfl
@[simp] theorem Dev.updGroup_acc (d : Dev) (g : Nat) (f : SafeGroup → SafeGroup) : (d.updGroup g f).acc = d.acc := rfl
@[simp] theorem Dev.bump_acc (d : Dev) (k : Nat) : (d.bump k).acc = d.acc := rfl
@[simp] theorem Dev.updPair_acc (d : Dev) (i : Nat) (f : SafePair → SafePair) : (d.updPair i f).acc = d.acc := rfl
@[simp] theorem Dev.setBlob_acc (d : Dev) (k : Nat) (v : List Byte) : (d.setBlob k v).acc = d.acc := rfl
@[simp] theorem Dev.updOut_acc (d : Dev) (o : Nat) (f : SafeOut → SafeOut) : (d.updOut o f).acc = d.acc := rfl
@[simp] theorem Dev.emit_acc (d : Dev) (e : Emit) : (d.emit e).acc = d.acc := rfl
@[simp] theorem Dev.updMonitor_acc (d : Dev) (a : Nat) (f : Monitor → Monitor) : (d.updMonitor a f).acc = d.acc := rfl
@[simp] theorem Dev.updIsl_acc (d : Dev) (f : Island → Island) : (d.updIsl f).acc = d.acc := rfl
@[simp] theorem Dev.updAxis_acc (d : Dev) (c : Nat) (g : Axis → Axis) : (d.updAxis c g).acc = d.acc := rfl
@[simp] theorem Dev.updPair14_acc (d : Dev) (f : Pair → Pair) : (d.updPair14 f).acc = d.acc := rfl
@[simp] theorem Dev.updLeg_acc (d : Dev) (n : Nat) (f : LegPort → LegPort) : (d.updLeg n f).acc = d.acc := rfl
@[simp] theorem Dev.updLane_acc (d : Dev) (f l : Nat) (g : Lane → Lane) : (d.updLane f l g).acc = d.acc := rfl
@[simp] theorem Dev.updUnit_acc (d : Dev) (u : Nat) (f : TrigUnit → TrigUnit) : (d.updUnit u f).acc = d.acc := rfl
@[simp] theorem Dev.updWear_acc (d : Dev) (f l : Nat) (g : Lane → Lane) : (d.updWear f l g).acc = d.acc := rfl
@[simp] theorem Dev.updRec_acc (d : Dev) (r : Nat) (f : Recorder → Recorder) : (d.updRec r f).acc = d.acc := rfl
@[simp] theorem Dev.fresh_acc (d : Dev) : d.fresh.acc = d.acc := rfl

@[simp] theorem Dev.setObj_can (d : Dev) (k v : Nat) : (d.setObj k v).can = d.can := rfl
@[simp] theorem Dev.setObjI_can (d : Dev) (w k : Nat) (v : Int) : (d.setObjI w k v).can = d.can := rfl
@[simp] theorem Dev.updSession_can (d : Dev) (s : Nat) (f : Session → Session) : (d.updSession s f).can = d.can := rfl
@[simp] theorem Dev.setObjB_can (d : Dev) (k : Nat) (b : Bool) : (d.setObjB k b).can = d.can := rfl
@[simp] theorem Dev.updRing_can (d : Dev) (r : Nat) (f : Ring → Ring) : (d.updRing r f).can = d.can := rfl
@[simp] theorem Dev.setObjBit_can (d : Dev) (k n : Nat) (b : Bool) : (d.setObjBit k n b).can = d.can := rfl
@[simp] theorem Dev.updConn_can (d : Dev) (n : Nat) (f : Conn → Conn) : (d.updConn n f).can = d.can := rfl
@[simp] theorem Dev.bumpBy_can (d : Dev) (w k n : Nat) : (d.bumpBy w k n).can = d.can := rfl
@[simp] theorem Dev.updGroup_can (d : Dev) (g : Nat) (f : SafeGroup → SafeGroup) : (d.updGroup g f).can = d.can := rfl
@[simp] theorem Dev.bump_can (d : Dev) (k : Nat) : (d.bump k).can = d.can := rfl
@[simp] theorem Dev.updPair_can (d : Dev) (i : Nat) (f : SafePair → SafePair) : (d.updPair i f).can = d.can := rfl
@[simp] theorem Dev.setBlob_can (d : Dev) (k : Nat) (v : List Byte) : (d.setBlob k v).can = d.can := rfl
@[simp] theorem Dev.updOut_can (d : Dev) (o : Nat) (f : SafeOut → SafeOut) : (d.updOut o f).can = d.can := rfl
@[simp] theorem Dev.emit_can (d : Dev) (e : Emit) : (d.emit e).can = d.can := rfl
@[simp] theorem Dev.updMonitor_can (d : Dev) (a : Nat) (f : Monitor → Monitor) : (d.updMonitor a f).can = d.can := rfl
@[simp] theorem Dev.updIsl_can (d : Dev) (f : Island → Island) : (d.updIsl f).can = d.can := rfl
@[simp] theorem Dev.updAxis_can (d : Dev) (c : Nat) (g : Axis → Axis) : (d.updAxis c g).can = d.can := rfl
@[simp] theorem Dev.updPair14_can (d : Dev) (f : Pair → Pair) : (d.updPair14 f).can = d.can := rfl
@[simp] theorem Dev.updLeg_can (d : Dev) (n : Nat) (f : LegPort → LegPort) : (d.updLeg n f).can = d.can := rfl
@[simp] theorem Dev.updLane_can (d : Dev) (f l : Nat) (g : Lane → Lane) : (d.updLane f l g).can = d.can := rfl
@[simp] theorem Dev.updUnit_can (d : Dev) (u : Nat) (f : TrigUnit → TrigUnit) : (d.updUnit u f).can = d.can := rfl
@[simp] theorem Dev.updWear_can (d : Dev) (f l : Nat) (g : Lane → Lane) : (d.updWear f l g).can = d.can := rfl
@[simp] theorem Dev.updRec_can (d : Dev) (r : Nat) (f : Recorder → Recorder) : (d.updRec r f).can = d.can := rfl
@[simp] theorem Dev.fresh_can (d : Dev) : d.fresh.can = d.can := rfl

@[simp] theorem Dev.setObj_tb (d : Dev) (k v : Nat) : (d.setObj k v).tb = d.tb := rfl
@[simp] theorem Dev.setObjI_tb (d : Dev) (w k : Nat) (v : Int) : (d.setObjI w k v).tb = d.tb := rfl
@[simp] theorem Dev.updSession_tb (d : Dev) (s : Nat) (f : Session → Session) : (d.updSession s f).tb = d.tb := rfl
@[simp] theorem Dev.setObjB_tb (d : Dev) (k : Nat) (b : Bool) : (d.setObjB k b).tb = d.tb := rfl
@[simp] theorem Dev.updRing_tb (d : Dev) (r : Nat) (f : Ring → Ring) : (d.updRing r f).tb = d.tb := rfl
@[simp] theorem Dev.setObjBit_tb (d : Dev) (k n : Nat) (b : Bool) : (d.setObjBit k n b).tb = d.tb := rfl
@[simp] theorem Dev.updConn_tb (d : Dev) (n : Nat) (f : Conn → Conn) : (d.updConn n f).tb = d.tb := rfl
@[simp] theorem Dev.bumpBy_tb (d : Dev) (w k n : Nat) : (d.bumpBy w k n).tb = d.tb := rfl
@[simp] theorem Dev.updGroup_tb (d : Dev) (g : Nat) (f : SafeGroup → SafeGroup) : (d.updGroup g f).tb = d.tb := rfl
@[simp] theorem Dev.bump_tb (d : Dev) (k : Nat) : (d.bump k).tb = d.tb := rfl
@[simp] theorem Dev.updPair_tb (d : Dev) (i : Nat) (f : SafePair → SafePair) : (d.updPair i f).tb = d.tb := rfl
@[simp] theorem Dev.setBlob_tb (d : Dev) (k : Nat) (v : List Byte) : (d.setBlob k v).tb = d.tb := rfl
@[simp] theorem Dev.updOut_tb (d : Dev) (o : Nat) (f : SafeOut → SafeOut) : (d.updOut o f).tb = d.tb := rfl
@[simp] theorem Dev.emit_tb (d : Dev) (e : Emit) : (d.emit e).tb = d.tb := rfl
@[simp] theorem Dev.updMonitor_tb (d : Dev) (a : Nat) (f : Monitor → Monitor) : (d.updMonitor a f).tb = d.tb := rfl
@[simp] theorem Dev.updIsl_tb (d : Dev) (f : Island → Island) : (d.updIsl f).tb = d.tb := rfl
@[simp] theorem Dev.updAxis_tb (d : Dev) (c : Nat) (g : Axis → Axis) : (d.updAxis c g).tb = d.tb := rfl
@[simp] theorem Dev.updPair14_tb (d : Dev) (f : Pair → Pair) : (d.updPair14 f).tb = d.tb := rfl
@[simp] theorem Dev.updLeg_tb (d : Dev) (n : Nat) (f : LegPort → LegPort) : (d.updLeg n f).tb = d.tb := rfl
@[simp] theorem Dev.updLane_tb (d : Dev) (f l : Nat) (g : Lane → Lane) : (d.updLane f l g).tb = d.tb := rfl
@[simp] theorem Dev.updUnit_tb (d : Dev) (u : Nat) (f : TrigUnit → TrigUnit) : (d.updUnit u f).tb = d.tb := rfl
@[simp] theorem Dev.updWear_tb (d : Dev) (f l : Nat) (g : Lane → Lane) : (d.updWear f l g).tb = d.tb := rfl
@[simp] theorem Dev.updRec_tb (d : Dev) (r : Nat) (f : Recorder → Recorder) : (d.updRec r f).tb = d.tb := rfl
@[simp] theorem Dev.fresh_tb (d : Dev) : d.fresh.tb = d.tb := rfl

@[simp] theorem Dev.setObj_eth (d : Dev) (k v : Nat) : (d.setObj k v).eth = d.eth := rfl
@[simp] theorem Dev.setObjI_eth (d : Dev) (w k : Nat) (v : Int) : (d.setObjI w k v).eth = d.eth := rfl
@[simp] theorem Dev.updSession_eth (d : Dev) (s : Nat) (f : Session → Session) : (d.updSession s f).eth = d.eth := rfl
@[simp] theorem Dev.setObjB_eth (d : Dev) (k : Nat) (b : Bool) : (d.setObjB k b).eth = d.eth := rfl
@[simp] theorem Dev.updRing_eth (d : Dev) (r : Nat) (f : Ring → Ring) : (d.updRing r f).eth = d.eth := rfl
@[simp] theorem Dev.setObjBit_eth (d : Dev) (k n : Nat) (b : Bool) : (d.setObjBit k n b).eth = d.eth := rfl
@[simp] theorem Dev.updConn_eth (d : Dev) (n : Nat) (f : Conn → Conn) : (d.updConn n f).eth = d.eth := rfl
@[simp] theorem Dev.bumpBy_eth (d : Dev) (w k n : Nat) : (d.bumpBy w k n).eth = d.eth := rfl
@[simp] theorem Dev.updGroup_eth (d : Dev) (g : Nat) (f : SafeGroup → SafeGroup) : (d.updGroup g f).eth = d.eth := rfl
@[simp] theorem Dev.bump_eth (d : Dev) (k : Nat) : (d.bump k).eth = d.eth := rfl
@[simp] theorem Dev.updPair_eth (d : Dev) (i : Nat) (f : SafePair → SafePair) : (d.updPair i f).eth = d.eth := rfl
@[simp] theorem Dev.setBlob_eth (d : Dev) (k : Nat) (v : List Byte) : (d.setBlob k v).eth = d.eth := rfl
@[simp] theorem Dev.updOut_eth (d : Dev) (o : Nat) (f : SafeOut → SafeOut) : (d.updOut o f).eth = d.eth := rfl
@[simp] theorem Dev.emit_eth (d : Dev) (e : Emit) : (d.emit e).eth = d.eth := rfl
@[simp] theorem Dev.updMonitor_eth (d : Dev) (a : Nat) (f : Monitor → Monitor) : (d.updMonitor a f).eth = d.eth := rfl
@[simp] theorem Dev.updIsl_eth (d : Dev) (f : Island → Island) : (d.updIsl f).eth = d.eth := rfl
@[simp] theorem Dev.updAxis_eth (d : Dev) (c : Nat) (g : Axis → Axis) : (d.updAxis c g).eth = d.eth := rfl
@[simp] theorem Dev.updPair14_eth (d : Dev) (f : Pair → Pair) : (d.updPair14 f).eth = d.eth := rfl
@[simp] theorem Dev.updLeg_eth (d : Dev) (n : Nat) (f : LegPort → LegPort) : (d.updLeg n f).eth = d.eth := rfl
@[simp] theorem Dev.updLane_eth (d : Dev) (f l : Nat) (g : Lane → Lane) : (d.updLane f l g).eth = d.eth := rfl
@[simp] theorem Dev.updUnit_eth (d : Dev) (u : Nat) (f : TrigUnit → TrigUnit) : (d.updUnit u f).eth = d.eth := rfl
@[simp] theorem Dev.updWear_eth (d : Dev) (f l : Nat) (g : Lane → Lane) : (d.updWear f l g).eth = d.eth := rfl
@[simp] theorem Dev.updRec_eth (d : Dev) (r : Nat) (f : Recorder → Recorder) : (d.updRec r f).eth = d.eth := rfl
@[simp] theorem Dev.fresh_eth (d : Dev) : d.fresh.eth = d.eth := rfl

@[simp] theorem Dev.setObj_ptp (d : Dev) (k v : Nat) : (d.setObj k v).ptp = d.ptp := rfl
@[simp] theorem Dev.setObjI_ptp (d : Dev) (w k : Nat) (v : Int) : (d.setObjI w k v).ptp = d.ptp := rfl
@[simp] theorem Dev.updSession_ptp (d : Dev) (s : Nat) (f : Session → Session) : (d.updSession s f).ptp = d.ptp := rfl
@[simp] theorem Dev.setObjB_ptp (d : Dev) (k : Nat) (b : Bool) : (d.setObjB k b).ptp = d.ptp := rfl
@[simp] theorem Dev.updRing_ptp (d : Dev) (r : Nat) (f : Ring → Ring) : (d.updRing r f).ptp = d.ptp := rfl
@[simp] theorem Dev.setObjBit_ptp (d : Dev) (k n : Nat) (b : Bool) : (d.setObjBit k n b).ptp = d.ptp := rfl
@[simp] theorem Dev.updConn_ptp (d : Dev) (n : Nat) (f : Conn → Conn) : (d.updConn n f).ptp = d.ptp := rfl
@[simp] theorem Dev.bumpBy_ptp (d : Dev) (w k n : Nat) : (d.bumpBy w k n).ptp = d.ptp := rfl
@[simp] theorem Dev.updGroup_ptp (d : Dev) (g : Nat) (f : SafeGroup → SafeGroup) : (d.updGroup g f).ptp = d.ptp := rfl
@[simp] theorem Dev.bump_ptp (d : Dev) (k : Nat) : (d.bump k).ptp = d.ptp := rfl
@[simp] theorem Dev.updPair_ptp (d : Dev) (i : Nat) (f : SafePair → SafePair) : (d.updPair i f).ptp = d.ptp := rfl
@[simp] theorem Dev.setBlob_ptp (d : Dev) (k : Nat) (v : List Byte) : (d.setBlob k v).ptp = d.ptp := rfl
@[simp] theorem Dev.updOut_ptp (d : Dev) (o : Nat) (f : SafeOut → SafeOut) : (d.updOut o f).ptp = d.ptp := rfl
@[simp] theorem Dev.emit_ptp (d : Dev) (e : Emit) : (d.emit e).ptp = d.ptp := rfl
@[simp] theorem Dev.updMonitor_ptp (d : Dev) (a : Nat) (f : Monitor → Monitor) : (d.updMonitor a f).ptp = d.ptp := rfl
@[simp] theorem Dev.updIsl_ptp (d : Dev) (f : Island → Island) : (d.updIsl f).ptp = d.ptp := rfl
@[simp] theorem Dev.updAxis_ptp (d : Dev) (c : Nat) (g : Axis → Axis) : (d.updAxis c g).ptp = d.ptp := rfl
@[simp] theorem Dev.updPair14_ptp (d : Dev) (f : Pair → Pair) : (d.updPair14 f).ptp = d.ptp := rfl
@[simp] theorem Dev.updLeg_ptp (d : Dev) (n : Nat) (f : LegPort → LegPort) : (d.updLeg n f).ptp = d.ptp := rfl
@[simp] theorem Dev.updLane_ptp (d : Dev) (f l : Nat) (g : Lane → Lane) : (d.updLane f l g).ptp = d.ptp := rfl
@[simp] theorem Dev.updUnit_ptp (d : Dev) (u : Nat) (f : TrigUnit → TrigUnit) : (d.updUnit u f).ptp = d.ptp := rfl
@[simp] theorem Dev.updWear_ptp (d : Dev) (f l : Nat) (g : Lane → Lane) : (d.updWear f l g).ptp = d.ptp := rfl
@[simp] theorem Dev.updRec_ptp (d : Dev) (r : Nat) (f : Recorder → Recorder) : (d.updRec r f).ptp = d.ptp := rfl
@[simp] theorem Dev.fresh_ptp (d : Dev) : d.fresh.ptp = d.ptp := rfl

@[simp] theorem Dev.setObj_rings (d : Dev) (k v : Nat) : (d.setObj k v).rings = d.rings := rfl
@[simp] theorem Dev.setObjI_rings (d : Dev) (w k : Nat) (v : Int) : (d.setObjI w k v).rings = d.rings := rfl
@[simp] theorem Dev.updSession_rings (d : Dev) (s : Nat) (f : Session → Session) : (d.updSession s f).rings = d.rings := rfl
@[simp] theorem Dev.setObjB_rings (d : Dev) (k : Nat) (b : Bool) : (d.setObjB k b).rings = d.rings := rfl
@[simp] theorem Dev.setObjBit_rings (d : Dev) (k n : Nat) (b : Bool) : (d.setObjBit k n b).rings = d.rings := rfl
@[simp] theorem Dev.updConn_rings (d : Dev) (n : Nat) (f : Conn → Conn) : (d.updConn n f).rings = d.rings := rfl
@[simp] theorem Dev.bumpBy_rings (d : Dev) (w k n : Nat) : (d.bumpBy w k n).rings = d.rings := rfl
@[simp] theorem Dev.updGroup_rings (d : Dev) (g : Nat) (f : SafeGroup → SafeGroup) : (d.updGroup g f).rings = d.rings := rfl
@[simp] theorem Dev.bump_rings (d : Dev) (k : Nat) : (d.bump k).rings = d.rings := rfl
@[simp] theorem Dev.updPair_rings (d : Dev) (i : Nat) (f : SafePair → SafePair) : (d.updPair i f).rings = d.rings := rfl
@[simp] theorem Dev.setBlob_rings (d : Dev) (k : Nat) (v : List Byte) : (d.setBlob k v).rings = d.rings := rfl
@[simp] theorem Dev.updOut_rings (d : Dev) (o : Nat) (f : SafeOut → SafeOut) : (d.updOut o f).rings = d.rings := rfl
@[simp] theorem Dev.emit_rings (d : Dev) (e : Emit) : (d.emit e).rings = d.rings := rfl
@[simp] theorem Dev.updMonitor_rings (d : Dev) (a : Nat) (f : Monitor → Monitor) : (d.updMonitor a f).rings = d.rings := rfl
@[simp] theorem Dev.updIsl_rings (d : Dev) (f : Island → Island) : (d.updIsl f).rings = d.rings := rfl
@[simp] theorem Dev.updAxis_rings (d : Dev) (c : Nat) (g : Axis → Axis) : (d.updAxis c g).rings = d.rings := rfl
@[simp] theorem Dev.updPair14_rings (d : Dev) (f : Pair → Pair) : (d.updPair14 f).rings = d.rings := rfl
@[simp] theorem Dev.updLeg_rings (d : Dev) (n : Nat) (f : LegPort → LegPort) : (d.updLeg n f).rings = d.rings := rfl
@[simp] theorem Dev.updLane_rings (d : Dev) (f l : Nat) (g : Lane → Lane) : (d.updLane f l g).rings = d.rings := rfl
@[simp] theorem Dev.updUnit_rings (d : Dev) (u : Nat) (f : TrigUnit → TrigUnit) : (d.updUnit u f).rings = d.rings := rfl
@[simp] theorem Dev.updWear_rings (d : Dev) (f l : Nat) (g : Lane → Lane) : (d.updWear f l g).rings = d.rings := rfl
@[simp] theorem Dev.updRec_rings (d : Dev) (r : Nat) (f : Recorder → Recorder) : (d.updRec r f).rings = d.rings := rfl
@[simp] theorem Dev.fresh_rings (d : Dev) : d.fresh.rings = d.rings := rfl

@[simp] theorem Dev.setObj_ringCtl (d : Dev) (k v : Nat) : (d.setObj k v).ringCtl = d.ringCtl := rfl
@[simp] theorem Dev.setObjI_ringCtl (d : Dev) (w k : Nat) (v : Int) : (d.setObjI w k v).ringCtl = d.ringCtl := rfl
@[simp] theorem Dev.updSession_ringCtl (d : Dev) (s : Nat) (f : Session → Session) : (d.updSession s f).ringCtl = d.ringCtl := rfl
@[simp] theorem Dev.setObjB_ringCtl (d : Dev) (k : Nat) (b : Bool) : (d.setObjB k b).ringCtl = d.ringCtl := rfl
@[simp] theorem Dev.updRing_ringCtl (d : Dev) (r : Nat) (f : Ring → Ring) : (d.updRing r f).ringCtl = d.ringCtl := rfl
@[simp] theorem Dev.setObjBit_ringCtl (d : Dev) (k n : Nat) (b : Bool) : (d.setObjBit k n b).ringCtl = d.ringCtl := rfl
@[simp] theorem Dev.updConn_ringCtl (d : Dev) (n : Nat) (f : Conn → Conn) : (d.updConn n f).ringCtl = d.ringCtl := rfl
@[simp] theorem Dev.bumpBy_ringCtl (d : Dev) (w k n : Nat) : (d.bumpBy w k n).ringCtl = d.ringCtl := rfl
@[simp] theorem Dev.updGroup_ringCtl (d : Dev) (g : Nat) (f : SafeGroup → SafeGroup) : (d.updGroup g f).ringCtl = d.ringCtl := rfl
@[simp] theorem Dev.bump_ringCtl (d : Dev) (k : Nat) : (d.bump k).ringCtl = d.ringCtl := rfl
@[simp] theorem Dev.updPair_ringCtl (d : Dev) (i : Nat) (f : SafePair → SafePair) : (d.updPair i f).ringCtl = d.ringCtl := rfl
@[simp] theorem Dev.setBlob_ringCtl (d : Dev) (k : Nat) (v : List Byte) : (d.setBlob k v).ringCtl = d.ringCtl := rfl
@[simp] theorem Dev.updOut_ringCtl (d : Dev) (o : Nat) (f : SafeOut → SafeOut) : (d.updOut o f).ringCtl = d.ringCtl := rfl
@[simp] theorem Dev.emit_ringCtl (d : Dev) (e : Emit) : (d.emit e).ringCtl = d.ringCtl := rfl
@[simp] theorem Dev.updMonitor_ringCtl (d : Dev) (a : Nat) (f : Monitor → Monitor) : (d.updMonitor a f).ringCtl = d.ringCtl := rfl
@[simp] theorem Dev.updIsl_ringCtl (d : Dev) (f : Island → Island) : (d.updIsl f).ringCtl = d.ringCtl := rfl
@[simp] theorem Dev.updAxis_ringCtl (d : Dev) (c : Nat) (g : Axis → Axis) : (d.updAxis c g).ringCtl = d.ringCtl := rfl
@[simp] theorem Dev.updPair14_ringCtl (d : Dev) (f : Pair → Pair) : (d.updPair14 f).ringCtl = d.ringCtl := rfl
@[simp] theorem Dev.updLeg_ringCtl (d : Dev) (n : Nat) (f : LegPort → LegPort) : (d.updLeg n f).ringCtl = d.ringCtl := rfl
@[simp] theorem Dev.updLane_ringCtl (d : Dev) (f l : Nat) (g : Lane → Lane) : (d.updLane f l g).ringCtl = d.ringCtl := rfl
@[simp] theorem Dev.updUnit_ringCtl (d : Dev) (u : Nat) (f : TrigUnit → TrigUnit) : (d.updUnit u f).ringCtl = d.ringCtl := rfl
@[simp] theorem Dev.updWear_ringCtl (d : Dev) (f l : Nat) (g : Lane → Lane) : (d.updWear f l g).ringCtl = d.ringCtl := rfl
@[simp] theorem Dev.updRec_ringCtl (d : Dev) (r : Nat) (f : Recorder → Recorder) : (d.updRec r f).ringCtl = d.ringCtl := rfl
@[simp] theorem Dev.fresh_ringCtl (d : Dev) : d.fresh.ringCtl = d.ringCtl := rfl

@[simp] theorem Dev.setObj_cyc (d : Dev) (k v : Nat) : (d.setObj k v).cyc = d.cyc := rfl
@[simp] theorem Dev.setObjI_cyc (d : Dev) (w k : Nat) (v : Int) : (d.setObjI w k v).cyc = d.cyc := rfl
@[simp] theorem Dev.updSession_cyc (d : Dev) (s : Nat) (f : Session → Session) : (d.updSession s f).cyc = d.cyc := rfl
@[simp] theorem Dev.setObjB_cyc (d : Dev) (k : Nat) (b : Bool) : (d.setObjB k b).cyc = d.cyc := rfl
@[simp] theorem Dev.updRing_cyc (d : Dev) (r : Nat) (f : Ring → Ring) : (d.updRing r f).cyc = d.cyc := rfl
@[simp] theorem Dev.setObjBit_cyc (d : Dev) (k n : Nat) (b : Bool) : (d.setObjBit k n b).cyc = d.cyc := rfl
@[simp] theorem Dev.updConn_cyc (d : Dev) (n : Nat) (f : Conn → Conn) : (d.updConn n f).cyc = d.cyc := rfl
@[simp] theorem Dev.bumpBy_cyc (d : Dev) (w k n : Nat) : (d.bumpBy w k n).cyc = d.cyc := rfl
@[simp] theorem Dev.updGroup_cyc (d : Dev) (g : Nat) (f : SafeGroup → SafeGroup) : (d.updGroup g f).cyc = d.cyc := rfl
@[simp] theorem Dev.bump_cyc (d : Dev) (k : Nat) : (d.bump k).cyc = d.cyc := rfl
@[simp] theorem Dev.updPair_cyc (d : Dev) (i : Nat) (f : SafePair → SafePair) : (d.updPair i f).cyc = d.cyc := rfl
@[simp] theorem Dev.setBlob_cyc (d : Dev) (k : Nat) (v : List Byte) : (d.setBlob k v).cyc = d.cyc := rfl
@[simp] theorem Dev.updOut_cyc (d : Dev) (o : Nat) (f : SafeOut → SafeOut) : (d.updOut o f).cyc = d.cyc := rfl
@[simp] theorem Dev.emit_cyc (d : Dev) (e : Emit) : (d.emit e).cyc = d.cyc := rfl
@[simp] theorem Dev.updMonitor_cyc (d : Dev) (a : Nat) (f : Monitor → Monitor) : (d.updMonitor a f).cyc = d.cyc := rfl
@[simp] theorem Dev.updIsl_cyc (d : Dev) (f : Island → Island) : (d.updIsl f).cyc = d.cyc := rfl
@[simp] theorem Dev.updAxis_cyc (d : Dev) (c : Nat) (g : Axis → Axis) : (d.updAxis c g).cyc = d.cyc := rfl
@[simp] theorem Dev.updPair14_cyc (d : Dev) (f : Pair → Pair) : (d.updPair14 f).cyc = d.cyc := rfl
@[simp] theorem Dev.updLeg_cyc (d : Dev) (n : Nat) (f : LegPort → LegPort) : (d.updLeg n f).cyc = d.cyc := rfl
@[simp] theorem Dev.updLane_cyc (d : Dev) (f l : Nat) (g : Lane → Lane) : (d.updLane f l g).cyc = d.cyc := rfl
@[simp] theorem Dev.updUnit_cyc (d : Dev) (u : Nat) (f : TrigUnit → TrigUnit) : (d.updUnit u f).cyc = d.cyc := rfl
@[simp] theorem Dev.updWear_cyc (d : Dev) (f l : Nat) (g : Lane → Lane) : (d.updWear f l g).cyc = d.cyc := rfl
@[simp] theorem Dev.updRec_cyc (d : Dev) (r : Nat) (f : Recorder → Recorder) : (d.updRec r f).cyc = d.cyc := rfl
@[simp] theorem Dev.fresh_cyc (d : Dev) : d.fresh.cyc = d.cyc := rfl

@[simp] theorem Dev.setObj_axes (d : Dev) (k v : Nat) : (d.setObj k v).axes = d.axes := rfl
@[simp] theorem Dev.setObjI_axes (d : Dev) (w k : Nat) (v : Int) : (d.setObjI w k v).axes = d.axes := rfl
@[simp] theorem Dev.updSession_axes (d : Dev) (s : Nat) (f : Session → Session) : (d.updSession s f).axes = d.axes := rfl
@[simp] theorem Dev.setObjB_axes (d : Dev) (k : Nat) (b : Bool) : (d.setObjB k b).axes = d.axes := rfl
@[simp] theorem Dev.setObjBit_axes (d : Dev) (k n : Nat) (b : Bool) : (d.setObjBit k n b).axes = d.axes := rfl
@[simp] theorem Dev.updRing_axes (d : Dev) (r : Nat) (f : Ring → Ring) : (d.updRing r f).axes = d.axes := rfl
@[simp] theorem Dev.bumpBy_axes (d : Dev) (w k n : Nat) : (d.bumpBy w k n).axes = d.axes := rfl
@[simp] theorem Dev.updConn_axes (d : Dev) (n : Nat) (f : Conn → Conn) : (d.updConn n f).axes = d.axes := rfl
@[simp] theorem Dev.bump_axes (d : Dev) (k : Nat) : (d.bump k).axes = d.axes := rfl
@[simp] theorem Dev.updGroup_axes (d : Dev) (g : Nat) (f : SafeGroup → SafeGroup) : (d.updGroup g f).axes = d.axes := rfl
@[simp] theorem Dev.setBlob_axes (d : Dev) (k : Nat) (v : List Byte) : (d.setBlob k v).axes = d.axes := rfl
@[simp] theorem Dev.updPair_axes (d : Dev) (i : Nat) (f : SafePair → SafePair) : (d.updPair i f).axes = d.axes := rfl
@[simp] theorem Dev.emit_axes (d : Dev) (e : Emit) : (d.emit e).axes = d.axes := rfl
@[simp] theorem Dev.updOut_axes (d : Dev) (o : Nat) (f : SafeOut → SafeOut) : (d.updOut o f).axes = d.axes := rfl
@[simp] theorem Dev.updIsl_axes (d : Dev) (f : Island → Island) : (d.updIsl f).axes = d.axes := rfl
@[simp] theorem Dev.updMonitor_axes (d : Dev) (a : Nat) (f : Monitor → Monitor) : (d.updMonitor a f).axes = d.axes := rfl
@[simp] theorem Dev.updPair14_axes (d : Dev) (f : Pair → Pair) : (d.updPair14 f).axes = d.axes := rfl
@[simp] theorem Dev.updLeg_axes (d : Dev) (n : Nat) (f : LegPort → LegPort) : (d.updLeg n f).axes = d.axes := rfl
@[simp] theorem Dev.updLane_axes (d : Dev) (f l : Nat) (g : Lane → Lane) : (d.updLane f l g).axes = d.axes := rfl
@[simp] theorem Dev.updUnit_axes (d : Dev) (u : Nat) (f : TrigUnit → TrigUnit) : (d.updUnit u f).axes = d.axes := rfl
@[simp] theorem Dev.updWear_axes (d : Dev) (f l : Nat) (g : Lane → Lane) : (d.updWear f l g).axes = d.axes := rfl
@[simp] theorem Dev.updRec_axes (d : Dev) (r : Nat) (f : Recorder → Recorder) : (d.updRec r f).axes = d.axes := rfl
@[simp] theorem Dev.fresh_axes (d : Dev) : d.fresh.axes = d.axes := rfl

@[simp] theorem Dev.setObj_gf (d : Dev) (k v : Nat) : (d.setObj k v).gf = d.gf := rfl
@[simp] theorem Dev.setObjI_gf (d : Dev) (w k : Nat) (v : Int) : (d.setObjI w k v).gf = d.gf := rfl
@[simp] theorem Dev.updSession_gf (d : Dev) (s : Nat) (f : Session → Session) : (d.updSession s f).gf = d.gf := rfl
@[simp] theorem Dev.setObjB_gf (d : Dev) (k : Nat) (b : Bool) : (d.setObjB k b).gf = d.gf := rfl
@[simp] theorem Dev.updRing_gf (d : Dev) (r : Nat) (f : Ring → Ring) : (d.updRing r f).gf = d.gf := rfl
@[simp] theorem Dev.setObjBit_gf (d : Dev) (k n : Nat) (b : Bool) : (d.setObjBit k n b).gf = d.gf := rfl
@[simp] theorem Dev.updConn_gf (d : Dev) (n : Nat) (f : Conn → Conn) : (d.updConn n f).gf = d.gf := rfl
@[simp] theorem Dev.bumpBy_gf (d : Dev) (w k n : Nat) : (d.bumpBy w k n).gf = d.gf := rfl
@[simp] theorem Dev.updGroup_gf (d : Dev) (g : Nat) (f : SafeGroup → SafeGroup) : (d.updGroup g f).gf = d.gf := rfl
@[simp] theorem Dev.bump_gf (d : Dev) (k : Nat) : (d.bump k).gf = d.gf := rfl
@[simp] theorem Dev.updPair_gf (d : Dev) (i : Nat) (f : SafePair → SafePair) : (d.updPair i f).gf = d.gf := rfl
@[simp] theorem Dev.setBlob_gf (d : Dev) (k : Nat) (v : List Byte) : (d.setBlob k v).gf = d.gf := rfl
@[simp] theorem Dev.updOut_gf (d : Dev) (o : Nat) (f : SafeOut → SafeOut) : (d.updOut o f).gf = d.gf := rfl
@[simp] theorem Dev.emit_gf (d : Dev) (e : Emit) : (d.emit e).gf = d.gf := rfl
@[simp] theorem Dev.updMonitor_gf (d : Dev) (a : Nat) (f : Monitor → Monitor) : (d.updMonitor a f).gf = d.gf := rfl
@[simp] theorem Dev.updIsl_gf (d : Dev) (f : Island → Island) : (d.updIsl f).gf = d.gf := rfl
@[simp] theorem Dev.updAxis_gf (d : Dev) (c : Nat) (g : Axis → Axis) : (d.updAxis c g).gf = d.gf := rfl
@[simp] theorem Dev.updPair14_gf (d : Dev) (f : Pair → Pair) : (d.updPair14 f).gf = d.gf := rfl
@[simp] theorem Dev.updLeg_gf (d : Dev) (n : Nat) (f : LegPort → LegPort) : (d.updLeg n f).gf = d.gf := rfl
@[simp] theorem Dev.updLane_gf (d : Dev) (f l : Nat) (g : Lane → Lane) : (d.updLane f l g).gf = d.gf := rfl
@[simp] theorem Dev.updUnit_gf (d : Dev) (u : Nat) (f : TrigUnit → TrigUnit) : (d.updUnit u f).gf = d.gf := rfl
@[simp] theorem Dev.updWear_gf (d : Dev) (f l : Nat) (g : Lane → Lane) : (d.updWear f l g).gf = d.gf := rfl
@[simp] theorem Dev.updRec_gf (d : Dev) (r : Nat) (f : Recorder → Recorder) : (d.updRec r f).gf = d.gf := rfl
@[simp] theorem Dev.fresh_gf (d : Dev) : d.fresh.gf = d.gf := rfl

@[simp] theorem Dev.setObj_legReqs (d : Dev) (k v : Nat) : (d.setObj k v).legReqs = d.legReqs := rfl
@[simp] theorem Dev.setObjI_legReqs (d : Dev) (w k : Nat) (v : Int) : (d.setObjI w k v).legReqs = d.legReqs := rfl
@[simp] theorem Dev.updSession_legReqs (d : Dev) (s : Nat) (f : Session → Session) : (d.updSession s f).legReqs = d.legReqs := rfl
@[simp] theorem Dev.setObjB_legReqs (d : Dev) (k : Nat) (b : Bool) : (d.setObjB k b).legReqs = d.legReqs := rfl
@[simp] theorem Dev.updRing_legReqs (d : Dev) (r : Nat) (f : Ring → Ring) : (d.updRing r f).legReqs = d.legReqs := rfl
@[simp] theorem Dev.setObjBit_legReqs (d : Dev) (k n : Nat) (b : Bool) : (d.setObjBit k n b).legReqs = d.legReqs := rfl
@[simp] theorem Dev.updConn_legReqs (d : Dev) (n : Nat) (f : Conn → Conn) : (d.updConn n f).legReqs = d.legReqs := rfl
@[simp] theorem Dev.bumpBy_legReqs (d : Dev) (w k n : Nat) : (d.bumpBy w k n).legReqs = d.legReqs := rfl
@[simp] theorem Dev.updGroup_legReqs (d : Dev) (g : Nat) (f : SafeGroup → SafeGroup) : (d.updGroup g f).legReqs = d.legReqs := rfl
@[simp] theorem Dev.bump_legReqs (d : Dev) (k : Nat) : (d.bump k).legReqs = d.legReqs := rfl
@[simp] theorem Dev.updPair_legReqs (d : Dev) (i : Nat) (f : SafePair → SafePair) : (d.updPair i f).legReqs = d.legReqs := rfl
@[simp] theorem Dev.setBlob_legReqs (d : Dev) (k : Nat) (v : List Byte) : (d.setBlob k v).legReqs = d.legReqs := rfl
@[simp] theorem Dev.updOut_legReqs (d : Dev) (o : Nat) (f : SafeOut → SafeOut) : (d.updOut o f).legReqs = d.legReqs := rfl
@[simp] theorem Dev.emit_legReqs (d : Dev) (e : Emit) : (d.emit e).legReqs = d.legReqs := rfl
@[simp] theorem Dev.updMonitor_legReqs (d : Dev) (a : Nat) (f : Monitor → Monitor) : (d.updMonitor a f).legReqs = d.legReqs := rfl
@[simp] theorem Dev.updIsl_legReqs (d : Dev) (f : Island → Island) : (d.updIsl f).legReqs = d.legReqs := rfl
@[simp] theorem Dev.updAxis_legReqs (d : Dev) (c : Nat) (g : Axis → Axis) : (d.updAxis c g).legReqs = d.legReqs := rfl
@[simp] theorem Dev.updPair14_legReqs (d : Dev) (f : Pair → Pair) : (d.updPair14 f).legReqs = d.legReqs := rfl
@[simp] theorem Dev.updLeg_legReqs (d : Dev) (n : Nat) (f : LegPort → LegPort) : (d.updLeg n f).legReqs = d.legReqs := rfl
@[simp] theorem Dev.updLane_legReqs (d : Dev) (f l : Nat) (g : Lane → Lane) : (d.updLane f l g).legReqs = d.legReqs := rfl
@[simp] theorem Dev.updUnit_legReqs (d : Dev) (u : Nat) (f : TrigUnit → TrigUnit) : (d.updUnit u f).legReqs = d.legReqs := rfl
@[simp] theorem Dev.updWear_legReqs (d : Dev) (f l : Nat) (g : Lane → Lane) : (d.updWear f l g).legReqs = d.legReqs := rfl
@[simp] theorem Dev.updRec_legReqs (d : Dev) (r : Nat) (f : Recorder → Recorder) : (d.updRec r f).legReqs = d.legReqs := rfl
@[simp] theorem Dev.fresh_legReqs (d : Dev) : d.fresh.legReqs = d.legReqs := rfl

@[simp] theorem Dev.setObj_folds (d : Dev) (k v : Nat) : (d.setObj k v).folds = d.folds := rfl
@[simp] theorem Dev.updSession_folds (d : Dev) (s : Nat) (f : Session → Session) : (d.updSession s f).folds = d.folds := rfl
@[simp] theorem Dev.setObjI_folds (d : Dev) (w k : Nat) (v : Int) : (d.setObjI w k v).folds = d.folds := rfl
@[simp] theorem Dev.updRing_folds (d : Dev) (r : Nat) (f : Ring → Ring) : (d.updRing r f).folds = d.folds := rfl
@[simp] theorem Dev.setObjB_folds (d : Dev) (k : Nat) (b : Bool) : (d.setObjB k b).folds = d.folds := rfl
@[simp] theorem Dev.updConn_folds (d : Dev) (n : Nat) (f : Conn → Conn) : (d.updConn n f).folds = d.folds := rfl
@[simp] theorem Dev.setObjBit_folds (d : Dev) (k n : Nat) (b : Bool) : (d.setObjBit k n b).folds = d.folds := rfl
@[simp] theorem Dev.updGroup_folds (d : Dev) (g : Nat) (f : SafeGroup → SafeGroup) : (d.updGroup g f).folds = d.folds := rfl
@[simp] theorem Dev.bumpBy_folds (d : Dev) (w k n : Nat) : (d.bumpBy w k n).folds = d.folds := rfl
@[simp] theorem Dev.updPair_folds (d : Dev) (i : Nat) (f : SafePair → SafePair) : (d.updPair i f).folds = d.folds := rfl
@[simp] theorem Dev.bump_folds (d : Dev) (k : Nat) : (d.bump k).folds = d.folds := rfl
@[simp] theorem Dev.updOut_folds (d : Dev) (o : Nat) (f : SafeOut → SafeOut) : (d.updOut o f).folds = d.folds := rfl
@[simp] theorem Dev.setBlob_folds (d : Dev) (k : Nat) (v : List Byte) : (d.setBlob k v).folds = d.folds := rfl
@[simp] theorem Dev.updMonitor_folds (d : Dev) (a : Nat) (f : Monitor → Monitor) : (d.updMonitor a f).folds = d.folds := rfl
@[simp] theorem Dev.emit_folds (d : Dev) (e : Emit) : (d.emit e).folds = d.folds := rfl
@[simp] theorem Dev.updAxis_folds (d : Dev) (c : Nat) (g : Axis → Axis) : (d.updAxis c g).folds = d.folds := rfl
@[simp] theorem Dev.updIsl_folds (d : Dev) (f : Island → Island) : (d.updIsl f).folds = d.folds := rfl
@[simp] theorem Dev.updLeg_folds (d : Dev) (n : Nat) (f : LegPort → LegPort) : (d.updLeg n f).folds = d.folds := rfl
@[simp] theorem Dev.updPair14_folds (d : Dev) (f : Pair → Pair) : (d.updPair14 f).folds = d.folds := rfl
@[simp] theorem Dev.updUnit_folds (d : Dev) (u : Nat) (f : TrigUnit → TrigUnit) : (d.updUnit u f).folds = d.folds := rfl
@[simp] theorem Dev.fresh_folds (d : Dev) : d.fresh.folds = d.folds := rfl
@[simp] theorem Dev.updRec_folds (d : Dev) (r : Nat) (f : Recorder → Recorder) : (d.updRec r f).folds = d.folds := rfl

@[simp] theorem Dev.setObj_checks (d : Dev) (k v : Nat) : (d.setObj k v).checks = d.checks := rfl
@[simp] theorem Dev.setObjI_checks (d : Dev) (w k : Nat) (v : Int) : (d.setObjI w k v).checks = d.checks := rfl
@[simp] theorem Dev.updSession_checks (d : Dev) (s : Nat) (f : Session → Session) : (d.updSession s f).checks = d.checks := rfl
@[simp] theorem Dev.setObjB_checks (d : Dev) (k : Nat) (b : Bool) : (d.setObjB k b).checks = d.checks := rfl
@[simp] theorem Dev.updRing_checks (d : Dev) (r : Nat) (f : Ring → Ring) : (d.updRing r f).checks = d.checks := rfl
@[simp] theorem Dev.setObjBit_checks (d : Dev) (k n : Nat) (b : Bool) : (d.setObjBit k n b).checks = d.checks := rfl
@[simp] theorem Dev.updConn_checks (d : Dev) (n : Nat) (f : Conn → Conn) : (d.updConn n f).checks = d.checks := rfl
@[simp] theorem Dev.bumpBy_checks (d : Dev) (w k n : Nat) : (d.bumpBy w k n).checks = d.checks := rfl
@[simp] theorem Dev.updGroup_checks (d : Dev) (g : Nat) (f : SafeGroup → SafeGroup) : (d.updGroup g f).checks = d.checks := rfl
@[simp] theorem Dev.bump_checks (d : Dev) (k : Nat) : (d.bump k).checks = d.checks := rfl
@[simp] theorem Dev.updPair_checks (d : Dev) (i : Nat) (f : SafePair → SafePair) : (d.updPair i f).checks = d.checks := rfl
@[simp] theorem Dev.setBlob_checks (d : Dev) (k : Nat) (v : List Byte) : (d.setBlob k v).checks = d.checks := rfl
@[simp] theorem Dev.updOut_checks (d : Dev) (o : Nat) (f : SafeOut → SafeOut) : (d.updOut o f).checks = d.checks := rfl
@[simp] theorem Dev.emit_checks (d : Dev) (e : Emit) : (d.emit e).checks = d.checks := rfl
@[simp] theorem Dev.updMonitor_checks (d : Dev) (a : Nat) (f : Monitor → Monitor) : (d.updMonitor a f).checks = d.checks := rfl
@[simp] theorem Dev.updIsl_checks (d : Dev) (f : Island → Island) : (d.updIsl f).checks = d.checks := rfl
@[simp] theorem Dev.updAxis_checks (d : Dev) (c : Nat) (g : Axis → Axis) : (d.updAxis c g).checks = d.checks := rfl
@[simp] theorem Dev.updPair14_checks (d : Dev) (f : Pair → Pair) : (d.updPair14 f).checks = d.checks := rfl
@[simp] theorem Dev.updLeg_checks (d : Dev) (n : Nat) (f : LegPort → LegPort) : (d.updLeg n f).checks = d.checks := rfl
@[simp] theorem Dev.updLane_checks (d : Dev) (f l : Nat) (g : Lane → Lane) : (d.updLane f l g).checks = d.checks := rfl
@[simp] theorem Dev.updUnit_checks (d : Dev) (u : Nat) (f : TrigUnit → TrigUnit) : (d.updUnit u f).checks = d.checks := rfl
@[simp] theorem Dev.updWear_checks (d : Dev) (f l : Nat) (g : Lane → Lane) : (d.updWear f l g).checks = d.checks := rfl
@[simp] theorem Dev.updRec_checks (d : Dev) (r : Nat) (f : Recorder → Recorder) : (d.updRec r f).checks = d.checks := rfl
@[simp] theorem Dev.fresh_checks (d : Dev) : d.fresh.checks = d.checks := rfl

@[simp] theorem Dev.setObj_gens (d : Dev) (k v : Nat) : (d.setObj k v).gens = d.gens := rfl
@[simp] theorem Dev.setObjI_gens (d : Dev) (w k : Nat) (v : Int) : (d.setObjI w k v).gens = d.gens := rfl
@[simp] theorem Dev.updSession_gens (d : Dev) (s : Nat) (f : Session → Session) : (d.updSession s f).gens = d.gens := rfl
@[simp] theorem Dev.setObjB_gens (d : Dev) (k : Nat) (b : Bool) : (d.setObjB k b).gens = d.gens := rfl
@[simp] theorem Dev.updRing_gens (d : Dev) (r : Nat) (f : Ring → Ring) : (d.updRing r f).gens = d.gens := rfl
@[simp] theorem Dev.setObjBit_gens (d : Dev) (k n : Nat) (b : Bool) : (d.setObjBit k n b).gens = d.gens := rfl
@[simp] theorem Dev.updConn_gens (d : Dev) (n : Nat) (f : Conn → Conn) : (d.updConn n f).gens = d.gens := rfl
@[simp] theorem Dev.bumpBy_gens (d : Dev) (w k n : Nat) : (d.bumpBy w k n).gens = d.gens := rfl
@[simp] theorem Dev.updGroup_gens (d : Dev) (g : Nat) (f : SafeGroup → SafeGroup) : (d.updGroup g f).gens = d.gens := rfl
@[simp] theorem Dev.bump_gens (d : Dev) (k : Nat) : (d.bump k).gens = d.gens := rfl
@[simp] theorem Dev.updPair_gens (d : Dev) (i : Nat) (f : SafePair → SafePair) : (d.updPair i f).gens = d.gens := rfl
@[simp] theorem Dev.setBlob_gens (d : Dev) (k : Nat) (v : List Byte) : (d.setBlob k v).gens = d.gens := rfl
@[simp] theorem Dev.updOut_gens (d : Dev) (o : Nat) (f : SafeOut → SafeOut) : (d.updOut o f).gens = d.gens := rfl
@[simp] theorem Dev.emit_gens (d : Dev) (e : Emit) : (d.emit e).gens = d.gens := rfl
@[simp] theorem Dev.updMonitor_gens (d : Dev) (a : Nat) (f : Monitor → Monitor) : (d.updMonitor a f).gens = d.gens := rfl
@[simp] theorem Dev.updIsl_gens (d : Dev) (f : Island → Island) : (d.updIsl f).gens = d.gens := rfl
@[simp] theorem Dev.updAxis_gens (d : Dev) (c : Nat) (g : Axis → Axis) : (d.updAxis c g).gens = d.gens := rfl
@[simp] theorem Dev.updPair14_gens (d : Dev) (f : Pair → Pair) : (d.updPair14 f).gens = d.gens := rfl
@[simp] theorem Dev.updLeg_gens (d : Dev) (n : Nat) (f : LegPort → LegPort) : (d.updLeg n f).gens = d.gens := rfl
@[simp] theorem Dev.updLane_gens (d : Dev) (f l : Nat) (g : Lane → Lane) : (d.updLane f l g).gens = d.gens := rfl
@[simp] theorem Dev.updUnit_gens (d : Dev) (u : Nat) (f : TrigUnit → TrigUnit) : (d.updUnit u f).gens = d.gens := rfl
@[simp] theorem Dev.updWear_gens (d : Dev) (f l : Nat) (g : Lane → Lane) : (d.updWear f l g).gens = d.gens := rfl
@[simp] theorem Dev.updRec_gens (d : Dev) (r : Nat) (f : Recorder → Recorder) : (d.updRec r f).gens = d.gens := rfl
@[simp] theorem Dev.fresh_gens (d : Dev) : d.fresh.gens = d.gens := rfl

@[simp] theorem Dev.setObj_pulseIn (d : Dev) (k v : Nat) : (d.setObj k v).pulseIn = d.pulseIn := rfl
@[simp] theorem Dev.setObjI_pulseIn (d : Dev) (w k : Nat) (v : Int) : (d.setObjI w k v).pulseIn = d.pulseIn := rfl
@[simp] theorem Dev.updSession_pulseIn (d : Dev) (s : Nat) (f : Session → Session) : (d.updSession s f).pulseIn = d.pulseIn := rfl
@[simp] theorem Dev.setObjB_pulseIn (d : Dev) (k : Nat) (b : Bool) : (d.setObjB k b).pulseIn = d.pulseIn := rfl
@[simp] theorem Dev.updRing_pulseIn (d : Dev) (r : Nat) (f : Ring → Ring) : (d.updRing r f).pulseIn = d.pulseIn := rfl
@[simp] theorem Dev.setObjBit_pulseIn (d : Dev) (k n : Nat) (b : Bool) : (d.setObjBit k n b).pulseIn = d.pulseIn := rfl
@[simp] theorem Dev.updConn_pulseIn (d : Dev) (n : Nat) (f : Conn → Conn) : (d.updConn n f).pulseIn = d.pulseIn := rfl
@[simp] theorem Dev.bumpBy_pulseIn (d : Dev) (w k n : Nat) : (d.bumpBy w k n).pulseIn = d.pulseIn := rfl
@[simp] theorem Dev.updGroup_pulseIn (d : Dev) (g : Nat) (f : SafeGroup → SafeGroup) : (d.updGroup g f).pulseIn = d.pulseIn := rfl
@[simp] theorem Dev.bump_pulseIn (d : Dev) (k : Nat) : (d.bump k).pulseIn = d.pulseIn := rfl
@[simp] theorem Dev.updPair_pulseIn (d : Dev) (i : Nat) (f : SafePair → SafePair) : (d.updPair i f).pulseIn = d.pulseIn := rfl
@[simp] theorem Dev.setBlob_pulseIn (d : Dev) (k : Nat) (v : List Byte) : (d.setBlob k v).pulseIn = d.pulseIn := rfl
@[simp] theorem Dev.updOut_pulseIn (d : Dev) (o : Nat) (f : SafeOut → SafeOut) : (d.updOut o f).pulseIn = d.pulseIn := rfl
@[simp] theorem Dev.emit_pulseIn (d : Dev) (e : Emit) : (d.emit e).pulseIn = d.pulseIn := rfl
@[simp] theorem Dev.updMonitor_pulseIn (d : Dev) (a : Nat) (f : Monitor → Monitor) : (d.updMonitor a f).pulseIn = d.pulseIn := rfl
@[simp] theorem Dev.updIsl_pulseIn (d : Dev) (f : Island → Island) : (d.updIsl f).pulseIn = d.pulseIn := rfl
@[simp] theorem Dev.updAxis_pulseIn (d : Dev) (c : Nat) (g : Axis → Axis) : (d.updAxis c g).pulseIn = d.pulseIn := rfl
@[simp] theorem Dev.updPair14_pulseIn (d : Dev) (f : Pair → Pair) : (d.updPair14 f).pulseIn = d.pulseIn := rfl
@[simp] theorem Dev.updLeg_pulseIn (d : Dev) (n : Nat) (f : LegPort → LegPort) : (d.updLeg n f).pulseIn = d.pulseIn := rfl
@[simp] theorem Dev.updLane_pulseIn (d : Dev) (f l : Nat) (g : Lane → Lane) : (d.updLane f l g).pulseIn = d.pulseIn := rfl
@[simp] theorem Dev.updUnit_pulseIn (d : Dev) (u : Nat) (f : TrigUnit → TrigUnit) : (d.updUnit u f).pulseIn = d.pulseIn := rfl
@[simp] theorem Dev.updWear_pulseIn (d : Dev) (f l : Nat) (g : Lane → Lane) : (d.updWear f l g).pulseIn = d.pulseIn := rfl
@[simp] theorem Dev.updRec_pulseIn (d : Dev) (r : Nat) (f : Recorder → Recorder) : (d.updRec r f).pulseIn = d.pulseIn := rfl
@[simp] theorem Dev.fresh_pulseIn (d : Dev) : d.fresh.pulseIn = d.pulseIn := rfl

@[simp] theorem Dev.setObj_pulseOut (d : Dev) (k v : Nat) : (d.setObj k v).pulseOut = d.pulseOut := rfl
@[simp] theorem Dev.setObjI_pulseOut (d : Dev) (w k : Nat) (v : Int) : (d.setObjI w k v).pulseOut = d.pulseOut := rfl
@[simp] theorem Dev.updSession_pulseOut (d : Dev) (s : Nat) (f : Session → Session) : (d.updSession s f).pulseOut = d.pulseOut := rfl
@[simp] theorem Dev.setObjB_pulseOut (d : Dev) (k : Nat) (b : Bool) : (d.setObjB k b).pulseOut = d.pulseOut := rfl
@[simp] theorem Dev.updRing_pulseOut (d : Dev) (r : Nat) (f : Ring → Ring) : (d.updRing r f).pulseOut = d.pulseOut := rfl
@[simp] theorem Dev.setObjBit_pulseOut (d : Dev) (k n : Nat) (b : Bool) : (d.setObjBit k n b).pulseOut = d.pulseOut := rfl
@[simp] theorem Dev.updConn_pulseOut (d : Dev) (n : Nat) (f : Conn → Conn) : (d.updConn n f).pulseOut = d.pulseOut := rfl
@[simp] theorem Dev.bumpBy_pulseOut (d : Dev) (w k n : Nat) : (d.bumpBy w k n).pulseOut = d.pulseOut := rfl
@[simp] theorem Dev.updGroup_pulseOut (d : Dev) (g : Nat) (f : SafeGroup → SafeGroup) : (d.updGroup g f).pulseOut = d.pulseOut := rfl
@[simp] theorem Dev.bump_pulseOut (d : Dev) (k : Nat) : (d.bump k).pulseOut = d.pulseOut := rfl
@[simp] theorem Dev.updPair_pulseOut (d : Dev) (i : Nat) (f : SafePair → SafePair) : (d.updPair i f).pulseOut = d.pulseOut := rfl
@[simp] theorem Dev.setBlob_pulseOut (d : Dev) (k : Nat) (v : List Byte) : (d.setBlob k v).pulseOut = d.pulseOut := rfl
@[simp] theorem Dev.updOut_pulseOut (d : Dev) (o : Nat) (f : SafeOut → SafeOut) : (d.updOut o f).pulseOut = d.pulseOut := rfl
@[simp] theorem Dev.emit_pulseOut (d : Dev) (e : Emit) : (d.emit e).pulseOut = d.pulseOut := rfl
@[simp] theorem Dev.updMonitor_pulseOut (d : Dev) (a : Nat) (f : Monitor → Monitor) : (d.updMonitor a f).pulseOut = d.pulseOut := rfl
@[simp] theorem Dev.updIsl_pulseOut (d : Dev) (f : Island → Island) : (d.updIsl f).pulseOut = d.pulseOut := rfl
@[simp] theorem Dev.updAxis_pulseOut (d : Dev) (c : Nat) (g : Axis → Axis) : (d.updAxis c g).pulseOut = d.pulseOut := rfl
@[simp] theorem Dev.updPair14_pulseOut (d : Dev) (f : Pair → Pair) : (d.updPair14 f).pulseOut = d.pulseOut := rfl
@[simp] theorem Dev.updLeg_pulseOut (d : Dev) (n : Nat) (f : LegPort → LegPort) : (d.updLeg n f).pulseOut = d.pulseOut := rfl
@[simp] theorem Dev.updLane_pulseOut (d : Dev) (f l : Nat) (g : Lane → Lane) : (d.updLane f l g).pulseOut = d.pulseOut := rfl
@[simp] theorem Dev.updUnit_pulseOut (d : Dev) (u : Nat) (f : TrigUnit → TrigUnit) : (d.updUnit u f).pulseOut = d.pulseOut := rfl
@[simp] theorem Dev.updWear_pulseOut (d : Dev) (f l : Nat) (g : Lane → Lane) : (d.updWear f l g).pulseOut = d.pulseOut := rfl
@[simp] theorem Dev.updRec_pulseOut (d : Dev) (r : Nat) (f : Recorder → Recorder) : (d.updRec r f).pulseOut = d.pulseOut := rfl
@[simp] theorem Dev.fresh_pulseOut (d : Dev) : d.fresh.pulseOut = d.pulseOut := rfl

@[simp] theorem Dev.setObj_legs (d : Dev) (k v : Nat) : (d.setObj k v).legs = d.legs := rfl
@[simp] theorem Dev.setObjI_legs (d : Dev) (w k : Nat) (v : Int) : (d.setObjI w k v).legs = d.legs := rfl
@[simp] theorem Dev.updSession_legs (d : Dev) (s : Nat) (f : Session → Session) : (d.updSession s f).legs = d.legs := rfl
@[simp] theorem Dev.setObjB_legs (d : Dev) (k : Nat) (b : Bool) : (d.setObjB k b).legs = d.legs := rfl
@[simp] theorem Dev.setObjBit_legs (d : Dev) (k n : Nat) (b : Bool) : (d.setObjBit k n b).legs = d.legs := rfl
@[simp] theorem Dev.updRing_legs (d : Dev) (r : Nat) (f : Ring → Ring) : (d.updRing r f).legs = d.legs := rfl
@[simp] theorem Dev.bumpBy_legs (d : Dev) (w k n : Nat) : (d.bumpBy w k n).legs = d.legs := rfl
@[simp] theorem Dev.updConn_legs (d : Dev) (n : Nat) (f : Conn → Conn) : (d.updConn n f).legs = d.legs := rfl
@[simp] theorem Dev.bump_legs (d : Dev) (k : Nat) : (d.bump k).legs = d.legs := rfl
@[simp] theorem Dev.updGroup_legs (d : Dev) (g : Nat) (f : SafeGroup → SafeGroup) : (d.updGroup g f).legs = d.legs := rfl
@[simp] theorem Dev.setBlob_legs (d : Dev) (k : Nat) (v : List Byte) : (d.setBlob k v).legs = d.legs := rfl
@[simp] theorem Dev.updPair_legs (d : Dev) (i : Nat) (f : SafePair → SafePair) : (d.updPair i f).legs = d.legs := rfl
@[simp] theorem Dev.emit_legs (d : Dev) (e : Emit) : (d.emit e).legs = d.legs := rfl
@[simp] theorem Dev.updOut_legs (d : Dev) (o : Nat) (f : SafeOut → SafeOut) : (d.updOut o f).legs = d.legs := rfl
@[simp] theorem Dev.updIsl_legs (d : Dev) (f : Island → Island) : (d.updIsl f).legs = d.legs := rfl
@[simp] theorem Dev.updMonitor_legs (d : Dev) (a : Nat) (f : Monitor → Monitor) : (d.updMonitor a f).legs = d.legs := rfl
@[simp] theorem Dev.updPair14_legs (d : Dev) (f : Pair → Pair) : (d.updPair14 f).legs = d.legs := rfl
@[simp] theorem Dev.updAxis_legs (d : Dev) (c : Nat) (g : Axis → Axis) : (d.updAxis c g).legs = d.legs := rfl
@[simp] theorem Dev.updLane_legs (d : Dev) (f l : Nat) (g : Lane → Lane) : (d.updLane f l g).legs = d.legs := rfl
@[simp] theorem Dev.updUnit_legs (d : Dev) (u : Nat) (f : TrigUnit → TrigUnit) : (d.updUnit u f).legs = d.legs := rfl
@[simp] theorem Dev.updWear_legs (d : Dev) (f l : Nat) (g : Lane → Lane) : (d.updWear f l g).legs = d.legs := rfl
@[simp] theorem Dev.updRec_legs (d : Dev) (r : Nat) (f : Recorder → Recorder) : (d.updRec r f).legs = d.legs := rfl
@[simp] theorem Dev.fresh_legs (d : Dev) : d.fresh.legs = d.legs := rfl

@[simp] theorem Dev.setObj_senses (d : Dev) (k v : Nat) : (d.setObj k v).senses = d.senses := rfl
@[simp] theorem Dev.setObjI_senses (d : Dev) (w k : Nat) (v : Int) : (d.setObjI w k v).senses = d.senses := rfl
@[simp] theorem Dev.updSession_senses (d : Dev) (s : Nat) (f : Session → Session) : (d.updSession s f).senses = d.senses := rfl
@[simp] theorem Dev.setObjB_senses (d : Dev) (k : Nat) (b : Bool) : (d.setObjB k b).senses = d.senses := rfl
@[simp] theorem Dev.updRing_senses (d : Dev) (r : Nat) (f : Ring → Ring) : (d.updRing r f).senses = d.senses := rfl
@[simp] theorem Dev.setObjBit_senses (d : Dev) (k n : Nat) (b : Bool) : (d.setObjBit k n b).senses = d.senses := rfl
@[simp] theorem Dev.updConn_senses (d : Dev) (n : Nat) (f : Conn → Conn) : (d.updConn n f).senses = d.senses := rfl
@[simp] theorem Dev.bumpBy_senses (d : Dev) (w k n : Nat) : (d.bumpBy w k n).senses = d.senses := rfl
@[simp] theorem Dev.updGroup_senses (d : Dev) (g : Nat) (f : SafeGroup → SafeGroup) : (d.updGroup g f).senses = d.senses := rfl
@[simp] theorem Dev.bump_senses (d : Dev) (k : Nat) : (d.bump k).senses = d.senses := rfl
@[simp] theorem Dev.updPair_senses (d : Dev) (i : Nat) (f : SafePair → SafePair) : (d.updPair i f).senses = d.senses := rfl
@[simp] theorem Dev.setBlob_senses (d : Dev) (k : Nat) (v : List Byte) : (d.setBlob k v).senses = d.senses := rfl
@[simp] theorem Dev.updOut_senses (d : Dev) (o : Nat) (f : SafeOut → SafeOut) : (d.updOut o f).senses = d.senses := rfl
@[simp] theorem Dev.emit_senses (d : Dev) (e : Emit) : (d.emit e).senses = d.senses := rfl
@[simp] theorem Dev.updMonitor_senses (d : Dev) (a : Nat) (f : Monitor → Monitor) : (d.updMonitor a f).senses = d.senses := rfl
@[simp] theorem Dev.updIsl_senses (d : Dev) (f : Island → Island) : (d.updIsl f).senses = d.senses := rfl
@[simp] theorem Dev.updAxis_senses (d : Dev) (c : Nat) (g : Axis → Axis) : (d.updAxis c g).senses = d.senses := rfl
@[simp] theorem Dev.updPair14_senses (d : Dev) (f : Pair → Pair) : (d.updPair14 f).senses = d.senses := rfl
@[simp] theorem Dev.updLeg_senses (d : Dev) (n : Nat) (f : LegPort → LegPort) : (d.updLeg n f).senses = d.senses := rfl
@[simp] theorem Dev.updLane_senses (d : Dev) (f l : Nat) (g : Lane → Lane) : (d.updLane f l g).senses = d.senses := rfl
@[simp] theorem Dev.updUnit_senses (d : Dev) (u : Nat) (f : TrigUnit → TrigUnit) : (d.updUnit u f).senses = d.senses := rfl
@[simp] theorem Dev.updWear_senses (d : Dev) (f l : Nat) (g : Lane → Lane) : (d.updWear f l g).senses = d.senses := rfl
@[simp] theorem Dev.updRec_senses (d : Dev) (r : Nat) (f : Recorder → Recorder) : (d.updRec r f).senses = d.senses := rfl
@[simp] theorem Dev.fresh_senses (d : Dev) : d.fresh.senses = d.senses := rfl

@[simp] theorem Dev.setObj_isl (d : Dev) (k v : Nat) : (d.setObj k v).isl = d.isl := rfl
@[simp] theorem Dev.setObjI_isl (d : Dev) (w k : Nat) (v : Int) : (d.setObjI w k v).isl = d.isl := rfl
@[simp] theorem Dev.updSession_isl (d : Dev) (s : Nat) (f : Session → Session) : (d.updSession s f).isl = d.isl := rfl
@[simp] theorem Dev.setObjB_isl (d : Dev) (k : Nat) (b : Bool) : (d.setObjB k b).isl = d.isl := rfl
@[simp] theorem Dev.setObjBit_isl (d : Dev) (k n : Nat) (b : Bool) : (d.setObjBit k n b).isl = d.isl := rfl
@[simp] theorem Dev.updRing_isl (d : Dev) (r : Nat) (f : Ring → Ring) : (d.updRing r f).isl = d.isl := rfl
@[simp] theorem Dev.bumpBy_isl (d : Dev) (w k n : Nat) : (d.bumpBy w k n).isl = d.isl := rfl
@[simp] theorem Dev.bump_isl (d : Dev) (k : Nat) : (d.bump k).isl = d.isl := rfl
@[simp] theorem Dev.updAxis_isl (d : Dev) (c : Nat) (g : Axis → Axis) : (d.updAxis c g).isl = d.isl := rfl
@[simp] theorem Dev.setBlob_isl (d : Dev) (k : Nat) (v : List Byte) : (d.setBlob k v).isl = d.isl := rfl
@[simp] theorem Dev.emit_isl (d : Dev) (e : Emit) : (d.emit e).isl = d.isl := rfl
@[simp] theorem Dev.updLeg_isl (d : Dev) (n : Nat) (f : LegPort → LegPort) : (d.updLeg n f).isl = d.isl := rfl
@[simp] theorem Dev.updPair14_isl (d : Dev) (f : Pair → Pair) : (d.updPair14 f).isl = d.isl := rfl
@[simp] theorem Dev.updLane_isl (d : Dev) (f l : Nat) (g : Lane → Lane) : (d.updLane f l g).isl = d.isl := rfl
@[simp] theorem Dev.updUnit_isl (d : Dev) (u : Nat) (f : TrigUnit → TrigUnit) : (d.updUnit u f).isl = d.isl := rfl
@[simp] theorem Dev.updWear_isl (d : Dev) (f l : Nat) (g : Lane → Lane) : (d.updWear f l g).isl = d.isl := rfl
@[simp] theorem Dev.updRec_isl (d : Dev) (r : Nat) (f : Recorder → Recorder) : (d.updRec r f).isl = d.isl := rfl
@[simp] theorem Dev.fresh_isl (d : Dev) : d.fresh.isl = d.isl := rfl

@[simp] theorem Dev.setObj_pair (d : Dev) (k v : Nat) : (d.setObj k v).pair = d.pair := rfl
@[simp] theorem Dev.updSession_pair (d : Dev) (s : Nat) (f : Session → Session) : (d.updSession s f).pair = d.pair := rfl
@[simp] theorem Dev.setObjI_pair (d : Dev) (w k : Nat) (v : Int) : (d.setObjI w k v).pair = d.pair := rfl
@[simp] theorem Dev.updRing_pair (d : Dev) (r : Nat) (f : Ring → Ring) : (d.updRing r f).pair = d.pair := rfl
@[simp] theorem Dev.setObjB_pair (d : Dev) (k : Nat) (b : Bool) : (d.setObjB k b).pair = d.pair := rfl
@[simp] theorem Dev.updConn_pair (d : Dev) (n : Nat) (f : Conn → Conn) : (d.updConn n f).pair = d.pair := rfl
@[simp] theorem Dev.setObjBit_pair (d : Dev) (k n : Nat) (b : Bool) : (d.setObjBit k n b).pair = d.pair := rfl
@[simp] theorem Dev.updGroup_pair (d : Dev) (g : Nat) (f : SafeGroup → SafeGroup) : (d.updGroup g f).pair = d.pair := rfl
@[simp] theorem Dev.bumpBy_pair (d : Dev) (w k n : Nat) : (d.bumpBy w k n).pair = d.pair := rfl
@[simp] theorem Dev.updPair_pair (d : Dev) (i : Nat) (f : SafePair → SafePair) : (d.updPair i f).pair = d.pair := rfl
@[simp] theorem Dev.bump_pair (d : Dev) (k : Nat) : (d.bump k).pair = d.pair := rfl
@[simp] theorem Dev.updOut_pair (d : Dev) (o : Nat) (f : SafeOut → SafeOut) : (d.updOut o f).pair = d.pair := rfl
@[simp] theorem Dev.setBlob_pair (d : Dev) (k : Nat) (v : List Byte) : (d.setBlob k v).pair = d.pair := rfl
@[simp] theorem Dev.updMonitor_pair (d : Dev) (a : Nat) (f : Monitor → Monitor) : (d.updMonitor a f).pair = d.pair := rfl
@[simp] theorem Dev.emit_pair (d : Dev) (e : Emit) : (d.emit e).pair = d.pair := rfl
@[simp] theorem Dev.updAxis_pair (d : Dev) (c : Nat) (g : Axis → Axis) : (d.updAxis c g).pair = d.pair := rfl
@[simp] theorem Dev.updIsl_pair (d : Dev) (f : Island → Island) : (d.updIsl f).pair = d.pair := rfl
@[simp] theorem Dev.updLeg_pair (d : Dev) (n : Nat) (f : LegPort → LegPort) : (d.updLeg n f).pair = d.pair := rfl
@[simp] theorem Dev.updLane_pair (d : Dev) (f l : Nat) (g : Lane → Lane) : (d.updLane f l g).pair = d.pair := rfl
@[simp] theorem Dev.updUnit_pair (d : Dev) (u : Nat) (f : TrigUnit → TrigUnit) : (d.updUnit u f).pair = d.pair := rfl
@[simp] theorem Dev.updWear_pair (d : Dev) (f l : Nat) (g : Lane → Lane) : (d.updWear f l g).pair = d.pair := rfl
@[simp] theorem Dev.updRec_pair (d : Dev) (r : Nat) (f : Recorder → Recorder) : (d.updRec r f).pair = d.pair := rfl
@[simp] theorem Dev.fresh_pair (d : Dev) : d.fresh.pair = d.pair := rfl

@[simp] theorem Dev.setObj_acq (d : Dev) (k v : Nat) : (d.setObj k v).acq = d.acq := rfl
@[simp] theorem Dev.setObjI_acq (d : Dev) (w k : Nat) (v : Int) : (d.setObjI w k v).acq = d.acq := rfl
@[simp] theorem Dev.updSession_acq (d : Dev) (s : Nat) (f : Session → Session) : (d.updSession s f).acq = d.acq := rfl
@[simp] theorem Dev.setObjB_acq (d : Dev) (k : Nat) (b : Bool) : (d.setObjB k b).acq = d.acq := rfl
@[simp] theorem Dev.setObjBit_acq (d : Dev) (k n : Nat) (b : Bool) : (d.setObjBit k n b).acq = d.acq := rfl
@[simp] theorem Dev.updRing_acq (d : Dev) (r : Nat) (f : Ring → Ring) : (d.updRing r f).acq = d.acq := rfl
@[simp] theorem Dev.bumpBy_acq (d : Dev) (w k n : Nat) : (d.bumpBy w k n).acq = d.acq := rfl
@[simp] theorem Dev.bump_acq (d : Dev) (k : Nat) : (d.bump k).acq = d.acq := rfl
@[simp] theorem Dev.updConn_acq (d : Dev) (n : Nat) (f : Conn → Conn) : (d.updConn n f).acq = d.acq := rfl
@[simp] theorem Dev.setBlob_acq (d : Dev) (k : Nat) (v : List Byte) : (d.setBlob k v).acq = d.acq := rfl
@[simp] theorem Dev.updGroup_acq (d : Dev) (g : Nat) (f : SafeGroup → SafeGroup) : (d.updGroup g f).acq = d.acq := rfl
@[simp] theorem Dev.emit_acq (d : Dev) (e : Emit) : (d.emit e).acq = d.acq := rfl
@[simp] theorem Dev.updPair_acq (d : Dev) (i : Nat) (f : SafePair → SafePair) : (d.updPair i f).acq = d.acq := rfl
@[simp] theorem Dev.updIsl_acq (d : Dev) (f : Island → Island) : (d.updIsl f).acq = d.acq := rfl
@[simp] theorem Dev.updOut_acq (d : Dev) (o : Nat) (f : SafeOut → SafeOut) : (d.updOut o f).acq = d.acq := rfl
@[simp] theorem Dev.updPair14_acq (d : Dev) (f : Pair → Pair) : (d.updPair14 f).acq = d.acq := rfl
@[simp] theorem Dev.updMonitor_acq (d : Dev) (a : Nat) (f : Monitor → Monitor) : (d.updMonitor a f).acq = d.acq := rfl
@[simp] theorem Dev.updLane_acq (d : Dev) (f l : Nat) (g : Lane → Lane) : (d.updLane f l g).acq = d.acq := rfl
@[simp] theorem Dev.updAxis_acq (d : Dev) (c : Nat) (g : Axis → Axis) : (d.updAxis c g).acq = d.acq := rfl
@[simp] theorem Dev.updWear_acq (d : Dev) (f l : Nat) (g : Lane → Lane) : (d.updWear f l g).acq = d.acq := rfl
@[simp] theorem Dev.updLeg_acq (d : Dev) (n : Nat) (f : LegPort → LegPort) : (d.updLeg n f).acq = d.acq := rfl
@[simp] theorem Dev.fresh_acq (d : Dev) : d.fresh.acq = d.acq := rfl

@[simp] theorem Dev.setObj_health (d : Dev) (k v : Nat) : (d.setObj k v).health = d.health := rfl
@[simp] theorem Dev.setObjI_health (d : Dev) (w k : Nat) (v : Int) : (d.setObjI w k v).health = d.health := rfl
@[simp] theorem Dev.updSession_health (d : Dev) (s : Nat) (f : Session → Session) : (d.updSession s f).health = d.health := rfl
@[simp] theorem Dev.setObjB_health (d : Dev) (k : Nat) (b : Bool) : (d.setObjB k b).health = d.health := rfl
@[simp] theorem Dev.updRing_health (d : Dev) (r : Nat) (f : Ring → Ring) : (d.updRing r f).health = d.health := rfl
@[simp] theorem Dev.setObjBit_health (d : Dev) (k n : Nat) (b : Bool) : (d.setObjBit k n b).health = d.health := rfl
@[simp] theorem Dev.updConn_health (d : Dev) (n : Nat) (f : Conn → Conn) : (d.updConn n f).health = d.health := rfl
@[simp] theorem Dev.bumpBy_health (d : Dev) (w k n : Nat) : (d.bumpBy w k n).health = d.health := rfl
@[simp] theorem Dev.updGroup_health (d : Dev) (g : Nat) (f : SafeGroup → SafeGroup) : (d.updGroup g f).health = d.health := rfl
@[simp] theorem Dev.bump_health (d : Dev) (k : Nat) : (d.bump k).health = d.health := rfl
@[simp] theorem Dev.updPair_health (d : Dev) (i : Nat) (f : SafePair → SafePair) : (d.updPair i f).health = d.health := rfl
@[simp] theorem Dev.setBlob_health (d : Dev) (k : Nat) (v : List Byte) : (d.setBlob k v).health = d.health := rfl
@[simp] theorem Dev.updOut_health (d : Dev) (o : Nat) (f : SafeOut → SafeOut) : (d.updOut o f).health = d.health := rfl
@[simp] theorem Dev.emit_health (d : Dev) (e : Emit) : (d.emit e).health = d.health := rfl
@[simp] theorem Dev.updMonitor_health (d : Dev) (a : Nat) (f : Monitor → Monitor) : (d.updMonitor a f).health = d.health := rfl
@[simp] theorem Dev.updIsl_health (d : Dev) (f : Island → Island) : (d.updIsl f).health = d.health := rfl
@[simp] theorem Dev.updAxis_health (d : Dev) (c : Nat) (g : Axis → Axis) : (d.updAxis c g).health = d.health := rfl
@[simp] theorem Dev.updPair14_health (d : Dev) (f : Pair → Pair) : (d.updPair14 f).health = d.health := rfl
@[simp] theorem Dev.updLeg_health (d : Dev) (n : Nat) (f : LegPort → LegPort) : (d.updLeg n f).health = d.health := rfl
@[simp] theorem Dev.updLane_health (d : Dev) (f l : Nat) (g : Lane → Lane) : (d.updLane f l g).health = d.health := rfl
@[simp] theorem Dev.updUnit_health (d : Dev) (u : Nat) (f : TrigUnit → TrigUnit) : (d.updUnit u f).health = d.health := rfl
@[simp] theorem Dev.updWear_health (d : Dev) (f l : Nat) (g : Lane → Lane) : (d.updWear f l g).health = d.health := rfl
@[simp] theorem Dev.updRec_health (d : Dev) (r : Nat) (f : Recorder → Recorder) : (d.updRec r f).health = d.health := rfl
@[simp] theorem Dev.fresh_health (d : Dev) : d.fresh.health = d.health := rfl

@[simp] theorem Dev.setObj_fl (d : Dev) (k v : Nat) : (d.setObj k v).fl = d.fl := rfl
@[simp] theorem Dev.setObjI_fl (d : Dev) (w k : Nat) (v : Int) : (d.setObjI w k v).fl = d.fl := rfl
@[simp] theorem Dev.updSession_fl (d : Dev) (s : Nat) (f : Session → Session) : (d.updSession s f).fl = d.fl := rfl
@[simp] theorem Dev.setObjB_fl (d : Dev) (k : Nat) (b : Bool) : (d.setObjB k b).fl = d.fl := rfl
@[simp] theorem Dev.updRing_fl (d : Dev) (r : Nat) (f : Ring → Ring) : (d.updRing r f).fl = d.fl := rfl
@[simp] theorem Dev.setObjBit_fl (d : Dev) (k n : Nat) (b : Bool) : (d.setObjBit k n b).fl = d.fl := rfl
@[simp] theorem Dev.updConn_fl (d : Dev) (n : Nat) (f : Conn → Conn) : (d.updConn n f).fl = d.fl := rfl
@[simp] theorem Dev.bumpBy_fl (d : Dev) (w k n : Nat) : (d.bumpBy w k n).fl = d.fl := rfl
@[simp] theorem Dev.updGroup_fl (d : Dev) (g : Nat) (f : SafeGroup → SafeGroup) : (d.updGroup g f).fl = d.fl := rfl
@[simp] theorem Dev.bump_fl (d : Dev) (k : Nat) : (d.bump k).fl = d.fl := rfl
@[simp] theorem Dev.updPair_fl (d : Dev) (i : Nat) (f : SafePair → SafePair) : (d.updPair i f).fl = d.fl := rfl
@[simp] theorem Dev.setBlob_fl (d : Dev) (k : Nat) (v : List Byte) : (d.setBlob k v).fl = d.fl := rfl
@[simp] theorem Dev.updOut_fl (d : Dev) (o : Nat) (f : SafeOut → SafeOut) : (d.updOut o f).fl = d.fl := rfl
@[simp] theorem Dev.emit_fl (d : Dev) (e : Emit) : (d.emit e).fl = d.fl := rfl
@[simp] theorem Dev.updMonitor_fl (d : Dev) (a : Nat) (f : Monitor → Monitor) : (d.updMonitor a f).fl = d.fl := rfl
@[simp] theorem Dev.updIsl_fl (d : Dev) (f : Island → Island) : (d.updIsl f).fl = d.fl := rfl
@[simp] theorem Dev.updAxis_fl (d : Dev) (c : Nat) (g : Axis → Axis) : (d.updAxis c g).fl = d.fl := rfl
@[simp] theorem Dev.updPair14_fl (d : Dev) (f : Pair → Pair) : (d.updPair14 f).fl = d.fl := rfl
@[simp] theorem Dev.updLeg_fl (d : Dev) (n : Nat) (f : LegPort → LegPort) : (d.updLeg n f).fl = d.fl := rfl
@[simp] theorem Dev.updLane_fl (d : Dev) (f l : Nat) (g : Lane → Lane) : (d.updLane f l g).fl = d.fl := rfl
@[simp] theorem Dev.updUnit_fl (d : Dev) (u : Nat) (f : TrigUnit → TrigUnit) : (d.updUnit u f).fl = d.fl := rfl
@[simp] theorem Dev.updWear_fl (d : Dev) (f l : Nat) (g : Lane → Lane) : (d.updWear f l g).fl = d.fl := rfl
@[simp] theorem Dev.updRec_fl (d : Dev) (r : Nat) (f : Recorder → Recorder) : (d.updRec r f).fl = d.fl := rfl
@[simp] theorem Dev.fresh_fl (d : Dev) : d.fresh.fl = d.fl := rfl

@[simp] theorem Dev.setObj_blob (d : Dev) (k v : Nat) (j : Nat) : (d.setObj k v).blob j = d.blob j := rfl
@[simp] theorem Dev.updSession_blob (d : Dev) (s : Nat) (f : Session → Session) (j : Nat) : (d.updSession s f).blob j = d.blob j := rfl
@[simp] theorem Dev.setObjI_blob (d : Dev) (w k : Nat) (v : Int) (j : Nat) : (d.setObjI w k v).blob j = d.blob j := rfl
@[simp] theorem Dev.updRing_blob (d : Dev) (r : Nat) (f : Ring → Ring) (j : Nat) : (d.updRing r f).blob j = d.blob j := rfl
@[simp] theorem Dev.setObjB_blob (d : Dev) (k : Nat) (b : Bool) (j : Nat) : (d.setObjB k b).blob j = d.blob j := rfl
@[simp] theorem Dev.updConn_blob (d : Dev) (n : Nat) (f : Conn → Conn) (j : Nat) : (d.updConn n f).blob j = d.blob j := rfl
@[simp] theorem Dev.setObjBit_blob (d : Dev) (k n : Nat) (b : Bool) (j : Nat) : (d.setObjBit k n b).blob j = d.blob j := rfl
@[simp] theorem Dev.updGroup_blob (d : Dev) (g : Nat) (f : SafeGroup → SafeGroup) (j : Nat) : (d.updGroup g f).blob j = d.blob j := rfl
@[simp] theorem Dev.bumpBy_blob (d : Dev) (w k n : Nat) (j : Nat) : (d.bumpBy w k n).blob j = d.blob j := rfl
@[simp] theorem Dev.updPair_blob (d : Dev) (i : Nat) (f : SafePair → SafePair) (j : Nat) : (d.updPair i f).blob j = d.blob j := rfl
@[simp] theorem Dev.bump_blob (d : Dev) (k : Nat) (j : Nat) : (d.bump k).blob j = d.blob j := rfl
@[simp] theorem Dev.updOut_blob (d : Dev) (o : Nat) (f : SafeOut → SafeOut) (j : Nat) : (d.updOut o f).blob j = d.blob j := rfl
@[simp] theorem Dev.emit_blob (d : Dev) (e : Emit) (j : Nat) : (d.emit e).blob j = d.blob j := rfl
@[simp] theorem Dev.updMonitor_blob (d : Dev) (a : Nat) (f : Monitor → Monitor) (j : Nat) : (d.updMonitor a f).blob j = d.blob j := rfl
@[simp] theorem Dev.updIsl_blob (d : Dev) (f : Island → Island) (j : Nat) : (d.updIsl f).blob j = d.blob j := rfl
@[simp] theorem Dev.updAxis_blob (d : Dev) (c : Nat) (g : Axis → Axis) (j : Nat) : (d.updAxis c g).blob j = d.blob j := rfl
@[simp] theorem Dev.updPair14_blob (d : Dev) (f : Pair → Pair) (j : Nat) : (d.updPair14 f).blob j = d.blob j := rfl
@[simp] theorem Dev.updLeg_blob (d : Dev) (n : Nat) (f : LegPort → LegPort) (j : Nat) : (d.updLeg n f).blob j = d.blob j := rfl
@[simp] theorem Dev.updLane_blob (d : Dev) (f l : Nat) (g : Lane → Lane) (j : Nat) : (d.updLane f l g).blob j = d.blob j := rfl
@[simp] theorem Dev.updUnit_blob (d : Dev) (u : Nat) (f : TrigUnit → TrigUnit) (j : Nat) : (d.updUnit u f).blob j = d.blob j := rfl
@[simp] theorem Dev.updWear_blob (d : Dev) (f l : Nat) (g : Lane → Lane) (j : Nat) : (d.updWear f l g).blob j = d.blob j := rfl
@[simp] theorem Dev.updRec_blob (d : Dev) (r : Nat) (f : Recorder → Recorder) (j : Nat) : (d.updRec r f).blob j = d.blob j := rfl
@[simp] theorem Dev.fresh_blob (d : Dev) (j : Nat) : d.fresh.blob j = d.blob j := rfl

@[simp] theorem Dev.updSession_dict (d : Dev) (s : Nat) (f : Session → Session) : (d.updSession s f).dict = d.dict := rfl
@[simp] theorem Dev.updRing_dict (d : Dev) (r : Nat) (f : Ring → Ring) : (d.updRing r f).dict = d.dict := rfl
@[simp] theorem Dev.setBlob_dict (d : Dev) (k : Nat) (v : List Byte) : (d.setBlob k v).dict = d.dict := rfl
@[simp] theorem Dev.updConn_dict (d : Dev) (n : Nat) (f : Conn → Conn) : (d.updConn n f).dict = d.dict := rfl
@[simp] theorem Dev.updGroup_dict (d : Dev) (g : Nat) (f : SafeGroup → SafeGroup) : (d.updGroup g f).dict = d.dict := rfl
@[simp] theorem Dev.emit_dict (d : Dev) (e : Emit) : (d.emit e).dict = d.dict := rfl
@[simp] theorem Dev.updPair_dict (d : Dev) (i : Nat) (f : SafePair → SafePair) : (d.updPair i f).dict = d.dict := rfl
@[simp] theorem Dev.updOut_dict (d : Dev) (o : Nat) (f : SafeOut → SafeOut) : (d.updOut o f).dict = d.dict := rfl
@[simp] theorem Dev.updIsl_dict (d : Dev) (f : Island → Island) : (d.updIsl f).dict = d.dict := rfl
@[simp] theorem Dev.updMonitor_dict (d : Dev) (a : Nat) (f : Monitor → Monitor) : (d.updMonitor a f).dict = d.dict := rfl
@[simp] theorem Dev.updPair14_dict (d : Dev) (f : Pair → Pair) : (d.updPair14 f).dict = d.dict := rfl
@[simp] theorem Dev.updAxis_dict (d : Dev) (c : Nat) (g : Axis → Axis) : (d.updAxis c g).dict = d.dict := rfl
@[simp] theorem Dev.updLane_dict (d : Dev) (f l : Nat) (g : Lane → Lane) : (d.updLane f l g).dict = d.dict := rfl
@[simp] theorem Dev.updLeg_dict (d : Dev) (n : Nat) (f : LegPort → LegPort) : (d.updLeg n f).dict = d.dict := rfl
@[simp] theorem Dev.updWear_dict (d : Dev) (f l : Nat) (g : Lane → Lane) : (d.updWear f l g).dict = d.dict := rfl
@[simp] theorem Dev.updUnit_dict (d : Dev) (u : Nat) (f : TrigUnit → TrigUnit) : (d.updUnit u f).dict = d.dict := rfl
@[simp] theorem Dev.fresh_dict (d : Dev) : d.fresh.dict = d.dict := rfl
@[simp] theorem Dev.updRec_dict (d : Dev) (r : Nat) (f : Recorder → Recorder) : (d.updRec r f).dict = d.dict := rfl

@[simp] theorem Dev.updSession_obj (d : Dev) (s : Nat) (f : Session → Session) (j : Nat) : (d.updSession s f).obj j = d.obj j := rfl
@[simp] theorem Dev.updRing_obj (d : Dev) (r : Nat) (f : Ring → Ring) (j : Nat) : (d.updRing r f).obj j = d.obj j := rfl
@[simp] theorem Dev.setBlob_obj (d : Dev) (k : Nat) (v : List Byte) (j : Nat) : (d.setBlob k v).obj j = d.obj j := rfl
@[simp] theorem Dev.updConn_obj (d : Dev) (n : Nat) (f : Conn → Conn) (j : Nat) : (d.updConn n f).obj j = d.obj j := rfl
@[simp] theorem Dev.updGroup_obj (d : Dev) (g : Nat) (f : SafeGroup → SafeGroup) (j : Nat) : (d.updGroup g f).obj j = d.obj j := rfl
@[simp] theorem Dev.emit_obj (d : Dev) (e : Emit) (j : Nat) : (d.emit e).obj j = d.obj j := rfl
@[simp] theorem Dev.updPair_obj (d : Dev) (i : Nat) (f : SafePair → SafePair) (j : Nat) : (d.updPair i f).obj j = d.obj j := rfl
@[simp] theorem Dev.updOut_obj (d : Dev) (o : Nat) (f : SafeOut → SafeOut) (j : Nat) : (d.updOut o f).obj j = d.obj j := rfl
@[simp] theorem Dev.updIsl_obj (d : Dev) (f : Island → Island) (j : Nat) : (d.updIsl f).obj j = d.obj j := rfl
@[simp] theorem Dev.updMonitor_obj (d : Dev) (a : Nat) (f : Monitor → Monitor) (j : Nat) : (d.updMonitor a f).obj j = d.obj j := rfl
@[simp] theorem Dev.updPair14_obj (d : Dev) (f : Pair → Pair) (j : Nat) : (d.updPair14 f).obj j = d.obj j := rfl
@[simp] theorem Dev.updAxis_obj (d : Dev) (c : Nat) (g : Axis → Axis) (j : Nat) : (d.updAxis c g).obj j = d.obj j := rfl
@[simp] theorem Dev.updLane_obj (d : Dev) (f l : Nat) (g : Lane → Lane) (j : Nat) : (d.updLane f l g).obj j = d.obj j := rfl
@[simp] theorem Dev.updLeg_obj (d : Dev) (n : Nat) (f : LegPort → LegPort) (j : Nat) : (d.updLeg n f).obj j = d.obj j := rfl
@[simp] theorem Dev.updWear_obj (d : Dev) (f l : Nat) (g : Lane → Lane) (j : Nat) : (d.updWear f l g).obj j = d.obj j := rfl
@[simp] theorem Dev.updUnit_obj (d : Dev) (u : Nat) (f : TrigUnit → TrigUnit) (j : Nat) : (d.updUnit u f).obj j = d.obj j := rfl
@[simp] theorem Dev.fresh_obj (d : Dev) (j : Nat) : d.fresh.obj j = d.obj j := rfl
@[simp] theorem Dev.updRec_obj (d : Dev) (r : Nat) (f : Recorder → Recorder) (j : Nat) : (d.updRec r f).obj j = d.obj j := rfl

/-! ## What an update does to the field it is for -/

@[simp] theorem Dev.fresh_emitted (d : Dev) : d.fresh.emitted = [] := rfl
@[simp] theorem Dev.fresh_drops (d : Dev) : d.fresh.drops = [] := rfl
@[simp] theorem Dev.fresh_ctl (d : Dev) : d.fresh.ctl = { d.ctl with causeReq := none } := rfl
@[simp] theorem Dev.fresh_state (d : Dev) : d.fresh.state = d.state := rfl
@[simp] theorem Dev.emit_emitted (d : Dev) (e : Emit) : (d.emit e).emitted = d.emitted ++ [e] := rfl
@[simp] theorem Dev.updRing_rings (d : Dev) (r : Nat) (f : Ring → Ring) : (d.updRing r f).rings = upd f d.rings r := rfl
@[simp] theorem Dev.updIsl_isl (d : Dev) (f : Island → Island) : (d.updIsl f).isl = f d.isl := rfl
@[simp] theorem Dev.updAxis_axes (d : Dev) (c : Nat) (g : Axis → Axis) : (d.updAxis c g).axes = upd g d.axes c := rfl
@[simp] theorem Dev.updLeg_legs (d : Dev) (n : Nat) (f : LegPort → LegPort) : (d.updLeg n f).legs = upd f d.legs n := rfl
@[simp] theorem Dev.updPair14_pair (d : Dev) (f : Pair → Pair) : (d.updPair14 f).pair = f d.pair := rfl

end Sys2Proof.Machine
end

