-- ==== Sys2Proof/Laws/Events.lean ====
section
/-! SUPPORT. Laws/Events.lean: what reporting does and what it leaves alone. An event may set latches and counts, queue a record, and send
a notification through the buffer pool's channel 3; `Reported d e` says that e differs from d by such reports alone. -/

set_option Elab.async false

namespace Sys2Proof.Machine

/-- A session without its sequence. -/
def Session.quiet (x : Session) : Session := { x with seqTx := 0 }

/-- Everything no report touches. -/
def Dev.strip (d : Dev) : Dev :=
  { d with dict := [], emitted := [], occurred := [], drops := [], evq := { seq := 0, queue := [], episode := 0 }, eth := [],
           acc := { d.acc with sessions := d.acc.sessions.map Session.quiet } }

/-- e is d after reports. -/
structure Reported (d e : Dev) : Prop where
  rest : e.strip = d.strip
  obj : ∀ k, eventKey k = false → e.obj k = d.obj k
  latch : ∀ src, src < 256 → d.latched src = true → e.latched src = true
  emitted : d.emitted <+: e.emitted
  occurred : d.occurred <+: e.occurred

theorem Reported.refl (d : Dev) : Reported d d := ⟨rfl, fun _ _ => rfl, fun _ _ h => h, List.prefix_rfl, List.prefix_rfl⟩

theorem Reported.trans {a b c : Dev} (h : Reported a b) (g : Reported b c) : Reported a c :=
  ⟨g.rest.trans h.rest, fun k hk => (g.obj k hk).trans (h.obj k hk), fun s hb hs => g.latch s hb (h.latch s hb hs),
   h.emitted.trans g.emitted, h.occurred.trans g.occurred⟩

/-- A report on top of reports. -/
theorem Reported.step {a b c : Dev} (g : Reported b c) (h : Reported a b) : Reported a c := h.trans g

/-- An event object other than a latch set. -/
theorem reported_setObj (d : Dev) (k v : Nat) (hk : eventKey k = true) (hl : k / 256 ≠ 0x611) : Reported d (d.setObj k v) := by
  refine ⟨rfl, fun j hj => ?_, fun s hb hs => ?_, List.prefix_rfl, List.prefix_rfl⟩
  · apply Dev.obj_setObj_ne
    rintro rfl
    simp [hk] at hj
  · unfold Dev.latched at *
    by_cases h : k = Obj.EVENT_LATCH (s / 32)
    · exfalso; apply hl; subst h; simp only [Obj.EVENT_LATCH]; omega
    · rw [Dev.obj_setObj_ne _ _ _ _ h]; exact hs

theorem reported_emit (d : Dev) (e : Emit) : Reported d (d.emit e) :=
  ⟨rfl, fun _ _ => rfl, fun _ _ h => h, List.prefix_append _ _, List.prefix_rfl⟩

theorem reported_evq (d : Dev) (q : EventQ) : Reported d { d with evq := q } :=
  ⟨rfl, fun _ _ => rfl, fun _ _ h => h, List.prefix_rfl, List.prefix_rfl⟩

theorem reported_eth (d : Dev) (q : List EthPort) : Reported d { d with eth := q } :=
  ⟨rfl, fun _ _ => rfl, fun _ _ h => h, List.prefix_rfl, List.prefix_rfl⟩

theorem reported_drops (d : Dev) (q : List Nat) : Reported d { d with drops := q } :=
  ⟨rfl, fun _ _ => rfl, fun _ _ h => h, List.prefix_rfl, List.prefix_rfl⟩

theorem reported_occurred (d : Dev) (l : List (Nat × Nat)) : Reported d { d with occurred := d.occurred ++ l } :=
  ⟨rfl, fun _ _ => rfl, fun _ _ h => h, List.prefix_rfl, List.prefix_append _ _⟩

theorem reported_bump (d : Dev) (k : Nat) (hk : eventKey k = true) (hl : k / 256 ≠ 0x611) : Reported d (d.bump k) :=
  reported_setObj d k _ hk hl

/-- The latch of a source set: it reads as set, the others as before. -/
theorem latched_set (d : Dev) (src s : Nat) :
    (d.setObjBit (Obj.EVENT_LATCH (src / 32)) (src % 32) true).latched s = (d.latched s || s == src) := by
  unfold Dev.latched
  rw [Dev.obj_setObjBit]
  by_cases h : src / 32 = s / 32
  · simp only [h, if_true, bit_setBit_true]
    congr 1
    by_cases e : s = src
    · simp [e]
    · have : ¬ s % 32 = src % 32 := by omega
      simp [e, this]
  · have h2 : ¬ Obj.EVENT_LATCH (src / 32) = Obj.EVENT_LATCH (s / 32) := by simp only [Obj.EVENT_LATCH]; omega
    have h3 : ¬ s = src := by rintro rfl; exact h rfl
    rw [if_neg h2]
    simp [h3]

/-- An occurrence counted. -/
theorem reported_count (d : Dev) (src : Nat) (hs : src < 256) : Reported d (d.countOccurrence src) := by
  have h1 : Reported d (d.setObjBit (Obj.EVENT_LATCH (src / 32)) (src % 32) true) := by
    refine ⟨rfl, fun j hj => ?_, fun s _ h => ?_, List.prefix_rfl, List.prefix_rfl⟩
    · rw [Dev.obj_setObjBit, if_neg]
      rintro rfl
      simp only [eventKey, Obj.EVENT_LATCH, Bool.or_eq_false_iff, beq_eq_false_iff_ne] at hj
      omega
    · rw [latched_set, h]; rfl
  refine h1.trans (reported_setObj _ _ _ ?_ ?_)
  · simp only [eventKey, Obj.OCCURRENCES, Bool.or_eq_true, beq_iff_eq]; omega
  · simp only [Obj.OCCURRENCES]; omega

/-- An occurrence counted and kept for the EVENT units. -/
theorem reported_occur (d : Dev) (src : Nat) (hs : src < 256) : Reported d (d.occur src) :=
  (reported_count d src hs).trans (reported_occurred _ _)

/-- The latch of the source counted. -/
theorem latched_count (d : Dev) (src : Nat) : (d.countOccurrence src).latched src = true := by
  have h : (d.setObjBit (Obj.EVENT_LATCH (src / 32)) (src % 32) true).latched src = true := by rw [latched_set]; simp
  unfold Dev.latched at *
  unfold Dev.countOccurrence
  rw [Dev.obj_bumpBy]
  split
  · rename_i e; simp only [Obj.OCCURRENCES, Obj.EVENT_LATCH] at e; omega
  · exact h

theorem reported_enqueue (d : Dev) (r : EventRecord) : Reported d (d.enqueueRecord r) := by
  unfold Dev.enqueueRecord
  split
  · exact (reported_evq d _).trans (reported_emit _ _)
  · exact reported_evq d _

theorem reported_placeOverflow (d : Dev) : Reported d d.placeOverflow := by
  unfold Dev.placeOverflow
  split
  · exact Reported.refl d
  · exact ((reported_occur d 5 (by omega)).trans (reported_evq _ _)).trans (reported_enqueue _ _)

theorem reported_hostRecord (d : Dev) (r : EventRecord) : Reported d (d.hostRecord r) := by
  unfold Dev.hostRecord
  simp only
  refine (reported_placeOverflow d).trans ?_
  split
  · exact (reported_evq _ _).trans (reported_bump _ _ (by decide) (by decide))
  · exact reported_enqueue _ _

theorem reported_poolSet3 (d : Dev) (n : Nat) : Reported d (d.poolSet 3 n) := by
  have h1 := reported_setObj d (Obj.POOL_IN_USE 3) n (by decide) (by decide)
  exact (h1.trans (reported_setObj _ Obj.SHARED_FREE _ (by decide) (by decide))).trans
    (reported_setObj _ (Obj.POOL_PEAK 3) _ (by decide) (by decide))

theorem reported_poolDrop3 (d : Dev) : Reported d (d.poolDrop 3) :=
  (reported_bump d (Obj.POOL_DROPPED 3) (by decide) (by decide)).trans (reported_drops _ _)

theorem reported_ethQueue (d : Dev) (p : Nat) (q : EthQueued) : Reported d (d.ethQueue p q) := by
  unfold Dev.ethQueue
  simp only
  split
  · exact reported_eth d _
  · exact (reported_eth d _).trans (reported_emit _ _)

theorem reported_sendUdp (d : Dev) (p a b c : Nat) (l : List Byte) : Reported d (d.sendUdp p a b c l) := by
  unfold Dev.sendUdp
  split
  · exact Reported.refl d
  · cases h : d.poolTake 3 (l.length + 42) with
    | none => exact reported_poolDrop3 d
    | some e =>
      simp only [Dev.poolTake] at h
      split at h
      · cases h; exact (reported_poolSet3 d _).trans (reported_ethQueue _ _ _)
      · cases h

/-- A session changed in its sequence alone. -/
theorem map_quiet_upd (l : List Session) (s : Nat) (f : Session → Session) (h : ∀ x, (f x).quiet = x.quiet) :
    (upd f l s).map Session.quiet = l.map Session.quiet := by
  induction l generalizing s with
  | nil => rfl
  | cons a t ih => cases s <;> simp [upd, h, ih]

theorem reported_sendSession (d : Dev) (s kind : Nat) (body : List Byte) : Reported d (d.sendSession s kind body) := by
  unfold Dev.sendSession
  split
  · exact Reported.refl d
  have h : Reported d (d.updSession s (fun x => { x with seqTx := x.seqTx + 1 })) := by
    refine ⟨?_, fun _ _ => rfl, fun _ _ h => h, List.prefix_rfl, List.prefix_rfl⟩
    have e := map_quiet_upd d.acc.sessions s (fun x => { x with seqTx := x.seqTx + 1 }) (fun _ => rfl)
    simp only [Dev.updSession, Dev.strip, e]
  exact h.trans (reported_sendUdp _ _ _ _ _ _)

/-- An event changes nothing but what reports change. -/
theorem reported_raise (d : Dev) (src data : Nat) (hs : src < 256) : Reported d (d.raise src data) := by
  unfold Dev.raise
  simp only
  have h1 := reported_occur d src hs
  split
  · refine h1.trans ?_
    refine foldl_induct (fun e => Reported _ e) _ _ _ (fun a s h => h.trans (reported_sendSession a s 3 _)) ?_
    split
    · exact (reported_evq _ _).trans (reported_hostRecord _ _)
    · exact reported_evq _ _
  · exact h1

/-- An event latches its source. -/
theorem latched_raise (d : Dev) (src data : Nat) (hs : src < 256) : (d.raise src data).latched src = true := by
  unfold Dev.raise
  simp only
  have h1 : Dev.latched { d.countOccurrence src with occurred := (d.countOccurrence src).occurred ++ [(src, (d.countOccurrence src).timeNs 0)] }
      src = true := latched_count d src
  split
  · generalize ((List.range 8).filter _) = l
    refine foldl_induct (fun e => Dev.latched e src = true) _ _ _ (fun a s h => (reported_sendSession a s 3 _).latch src hs h) ?_
    split
    · exact (reported_hostRecord _ _).latch src hs h1
    · exact h1
  · exact h1

/-- What ends every command reports drops and nothing else. -/
theorem reported_settle (d : Dev) : Reported d d.settle := by
  unfold Dev.settle
  refine Reported.trans ?_ (reported_drops _ [])
  refine Reported.trans ?_ (foldl_induct (fun e => Reported _ e) _ _ _ (fun a _ h => h.trans (reported_occur a 0x3D (by omega))) (Reported.refl _))
  exact foldl_induct (fun e => Reported d e) _ _ _ (fun a c h => h.trans (reported_raise a 0x3D c (by omega))) (reported_drops d [])

/-- No drop is left unreported. -/
@[simp] theorem settle_drops (d : Dev) : d.settle.drops = [] := rfl

/-! ## One lemma for each thing left alone -/

theorem Reported.now {d e : Dev} (h : Reported d e) : e.now = d.now := (congrArg Dev.now h.rest :)
@[simp] theorem raise_now (d : Dev) (src data : Nat) (hs : src < 256) : (d.raise src data).now = d.now := (reported_raise d src data hs).now
@[simp] theorem settle_now (d : Dev) : d.settle.now = d.now := (reported_settle d).now
theorem Reported.blobs {d e : Dev} (h : Reported d e) : e.blobs = d.blobs := (congrArg Dev.blobs h.rest :)
@[simp] theorem raise_blobs (d : Dev) (src data : Nat) (hs : src < 256) : (d.raise src data).blobs = d.blobs := (reported_raise d src data hs).blobs
@[simp] theorem settle_blobs (d : Dev) : d.settle.blobs = d.blobs := (reported_settle d).blobs
theorem Reported.free {d e : Dev} (h : Reported d e) : e.free = d.free := (congrArg Dev.free h.rest :)
@[simp] theorem raise_free (d : Dev) (src data : Nat) (hs : src < 256) : (d.raise src data).free = d.free := (reported_raise d src data hs).free
@[simp] theorem settle_free (d : Dev) : d.settle.free = d.free := (reported_settle d).free
theorem Reported.ctl {d e : Dev} (h : Reported d e) : e.ctl = d.ctl := (congrArg Dev.ctl h.rest :)
@[simp] theorem raise_ctl (d : Dev) (src data : Nat) (hs : src < 256) : (d.raise src data).ctl = d.ctl := (reported_raise d src data hs).ctl
@[simp] theorem settle_ctl (d : Dev) : d.settle.ctl = d.ctl := (reported_settle d).ctl
theorem Reported.tally {d e : Dev} (h : Reported d e) : e.tally = d.tally := (congrArg Dev.tally h.rest :)
@[simp] theorem raise_tally (d : Dev) (src data : Nat) (hs : src < 256) : (d.raise src data).tally = d.tally := (reported_raise d src data hs).tally
@[simp] theorem settle_tally (d : Dev) : d.settle.tally = d.tally := (reported_settle d).tally
theorem Reported.flash {d e : Dev} (h : Reported d e) : e.flash = d.flash := (congrArg Dev.flash h.rest :)
@[simp] theorem raise_flash (d : Dev) (src data : Nat) (hs : src < 256) : (d.raise src data).flash = d.flash := (reported_raise d src data hs).flash
@[simp] theorem settle_flash (d : Dev) : d.settle.flash = d.flash := (reported_settle d).flash
theorem Reported.can {d e : Dev} (h : Reported d e) : e.can = d.can := (congrArg Dev.can h.rest :)
@[simp] theorem raise_can (d : Dev) (src data : Nat) (hs : src < 256) : (d.raise src data).can = d.can := (reported_raise d src data hs).can
@[simp] theorem settle_can (d : Dev) : d.settle.can = d.can := (reported_settle d).can
theorem Reported.tb {d e : Dev} (h : Reported d e) : e.tb = d.tb := (congrArg Dev.tb h.rest :)
@[simp] theorem raise_tb (d : Dev) (src data : Nat) (hs : src < 256) : (d.raise src data).tb = d.tb := (reported_raise d src data hs).tb
@[simp] theorem settle_tb (d : Dev) : d.settle.tb = d.tb := (reported_settle d).tb
theorem Reported.ptp {d e : Dev} (h : Reported d e) : e.ptp = d.ptp := (congrArg Dev.ptp h.rest :)
@[simp] theorem raise_ptp (d : Dev) (src data : Nat) (hs : src < 256) : (d.raise src data).ptp = d.ptp := (reported_raise d src data hs).ptp
@[simp] theorem settle_ptp (d : Dev) : d.settle.ptp = d.ptp := (reported_settle d).ptp
theorem Reported.rings {d e : Dev} (h : Reported d e) : e.rings = d.rings := (congrArg Dev.rings h.rest :)
@[simp] theorem raise_rings (d : Dev) (src data : Nat) (hs : src < 256) : (d.raise src data).rings = d.rings := (reported_raise d src data hs).rings
@[simp] theorem settle_rings (d : Dev) : d.settle.rings = d.rings := (reported_settle d).rings
theorem Reported.ringCtl {d e : Dev} (h : Reported d e) : e.ringCtl = d.ringCtl := (congrArg Dev.ringCtl h.rest :)
@[simp] theorem raise_ringCtl (d : Dev) (src data : Nat) (hs : src < 256) : (d.raise src data).ringCtl = d.ringCtl := (reported_raise d src data hs).ringCtl
@[simp] theorem settle_ringCtl (d : Dev) : d.settle.ringCtl = d.ringCtl := (reported_settle d).ringCtl
theorem Reported.cyc {d e : Dev} (h : Reported d e) : e.cyc = d.cyc := (congrArg Dev.cyc h.rest :)
@[simp] theorem raise_cyc (d : Dev) (src data : Nat) (hs : src < 256) : (d.raise src data).cyc = d.cyc := (reported_raise d src data hs).cyc
@[simp] theorem settle_cyc (d : Dev) : d.settle.cyc = d.cyc := (reported_settle d).cyc
theorem Reported.axes {d e : Dev} (h : Reported d e) : e.axes = d.axes := (congrArg Dev.axes h.rest :)
@[simp] theorem raise_axes (d : Dev) (src data : Nat) (hs : src < 256) : (d.raise src data).axes = d.axes := (reported_raise d src data hs).axes
@[simp] theorem settle_axes (d : Dev) : d.settle.axes = d.axes := (reported_settle d).axes
theorem Reported.gf {d e : Dev} (h : Reported d e) : e.gf = d.gf := (congrArg Dev.gf h.rest :)
@[simp] theorem raise_gf (d : Dev) (src data : Nat) (hs : src < 256) : (d.raise src data).gf = d.gf := (reported_raise d src data hs).gf
@[simp] theorem settle_gf (d : Dev) : d.settle.gf = d.gf := (reported_settle d).gf
theorem Reported.legReqs {d e : Dev} (h : Reported d e) : e.legReqs = d.legReqs := (congrArg Dev.legReqs h.rest :)
@[simp] theorem raise_legReqs (d : Dev) (src data : Nat) (hs : src < 256) : (d.raise src data).legReqs = d.legReqs := (reported_raise d src data hs).legReqs
@[simp] theorem settle_legReqs (d : Dev) : d.settle.legReqs = d.legReqs := (reported_settle d).legReqs
theorem Reported.folds {d e : Dev} (h : Reported d e) : e.folds = d.folds := (congrArg Dev.folds h.rest :)
@[simp] theorem raise_folds (d : Dev) (src data : Nat) (hs : src < 256) : (d.raise src data).folds = d.folds := (reported_raise d src data hs).folds
@[simp] theorem settle_folds (d : Dev) : d.settle.folds = d.folds := (reported_settle d).folds
theorem Reported.checks {d e : Dev} (h : Reported d e) : e.checks = d.checks := (congrArg Dev.checks h.rest :)
@[simp] theorem raise_checks (d : Dev) (src data : Nat) (hs : src < 256) : (d.raise src data).checks = d.checks := (reported_raise d src data hs).checks
@[simp] theorem settle_checks (d : Dev) : d.settle.checks = d.checks := (reported_settle d).checks
theorem Reported.gens {d e : Dev} (h : Reported d e) : e.gens = d.gens := (congrArg Dev.gens h.rest :)
@[simp] theorem raise_gens (d : Dev) (src data : Nat) (hs : src < 256) : (d.raise src data).gens = d.gens := (reported_raise d src data hs).gens
@[simp] theorem settle_gens (d : Dev) : d.settle.gens = d.gens := (reported_settle d).gens
theorem Reported.pulseIn {d e : Dev} (h : Reported d e) : e.pulseIn = d.pulseIn := (congrArg Dev.pulseIn h.rest :)
@[simp] theorem raise_pulseIn (d : Dev) (src data : Nat) (hs : src < 256) : (d.raise src data).pulseIn = d.pulseIn := (reported_raise d src data hs).pulseIn
@[simp] theorem settle_pulseIn (d : Dev) : d.settle.pulseIn = d.pulseIn := (reported_settle d).pulseIn
theorem Reported.pulseOut {d e : Dev} (h : Reported d e) : e.pulseOut = d.pulseOut := (congrArg Dev.pulseOut h.rest :)
@[simp] theorem raise_pulseOut (d : Dev) (src data : Nat) (hs : src < 256) : (d.raise src data).pulseOut = d.pulseOut := (reported_raise d src data hs).pulseOut
@[simp] theorem settle_pulseOut (d : Dev) : d.settle.pulseOut = d.pulseOut := (reported_settle d).pulseOut
theorem Reported.legs {d e : Dev} (h : Reported d e) : e.legs = d.legs := (congrArg Dev.legs h.rest :)
@[simp] theorem raise_legs (d : Dev) (src data : Nat) (hs : src < 256) : (d.raise src data).legs = d.legs := (reported_raise d src data hs).legs
@[simp] theorem settle_legs (d : Dev) : d.settle.legs = d.legs := (reported_settle d).legs
theorem Reported.senses {d e : Dev} (h : Reported d e) : e.senses = d.senses := (congrArg Dev.senses h.rest :)
@[simp] theorem raise_senses (d : Dev) (src data : Nat) (hs : src < 256) : (d.raise src data).senses = d.senses := (reported_raise d src data hs).senses
@[simp] theorem settle_senses (d : Dev) : d.settle.senses = d.senses := (reported_settle d).senses
theorem Reported.isl {d e : Dev} (h : Reported d e) : e.isl = d.isl := (congrArg Dev.isl h.rest :)
@[simp] theorem raise_isl (d : Dev) (src data : Nat) (hs : src < 256) : (d.raise src data).isl = d.isl := (reported_raise d src data hs).isl
@[simp] theorem settle_isl (d : Dev) : d.settle.isl = d.isl := (reported_settle d).isl
theorem Reported.pair {d e : Dev} (h : Reported d e) : e.pair = d.pair := (congrArg Dev.pair h.rest :)
@[simp] theorem raise_pair (d : Dev) (src data : Nat) (hs : src < 256) : (d.raise src data).pair = d.pair := (reported_raise d src data hs).pair
@[simp] theorem settle_pair (d : Dev) : d.settle.pair = d.pair := (reported_settle d).pair
theorem Reported.acq {d e : Dev} (h : Reported d e) : e.acq = d.acq := (congrArg Dev.acq h.rest :)
@[simp] theorem raise_acq (d : Dev) (src data : Nat) (hs : src < 256) : (d.raise src data).acq = d.acq := (reported_raise d src data hs).acq
@[simp] theorem settle_acq (d : Dev) : d.settle.acq = d.acq := (reported_settle d).acq
theorem Reported.health {d e : Dev} (h : Reported d e) : e.health = d.health := (congrArg Dev.health h.rest :)
@[simp] theorem raise_health (d : Dev) (src data : Nat) (hs : src < 256) : (d.raise src data).health = d.health := (reported_raise d src data hs).health
@[simp] theorem settle_health (d : Dev) : d.settle.health = d.health := (reported_settle d).health
theorem Reported.fl {d e : Dev} (h : Reported d e) : e.fl = d.fl := (congrArg Dev.fl h.rest :)
@[simp] theorem raise_fl (d : Dev) (src data : Nat) (hs : src < 256) : (d.raise src data).fl = d.fl := (reported_raise d src data hs).fl
@[simp] theorem settle_fl (d : Dev) : d.settle.fl = d.fl := (reported_settle d).fl

theorem Reported.modeReq {d e : Dev} (h : Reported d e) : e.acc.modeReq = d.acc.modeReq := (congrArg (fun x : Dev => x.acc.modeReq) h.rest :)
theorem Reported.openFails {d e : Dev} (h : Reported d e) : e.acc.openFails = d.acc.openFails := (congrArg (fun x : Dev => x.acc.openFails) h.rest :)
theorem Reported.openBlocked {d e : Dev} (h : Reported d e) : e.acc.openBlocked = d.acc.openBlocked := (congrArg (fun x : Dev => x.acc.openBlocked) h.rest :)
theorem Reported.blockedAt {d e : Dev} (h : Reported d e) : e.acc.blockedAt = d.acc.blockedAt := (congrArg (fun x : Dev => x.acc.blockedAt) h.rest :)
theorem Reported.seen {d e : Dev} (h : Reported d e) : e.acc.seen = d.acc.seen := (congrArg (fun x : Dev => x.acc.seen) h.rest :)
theorem Reported.sessions {d e : Dev} (h : Reported d e) : e.acc.sessions.map Session.quiet = d.acc.sessions.map Session.quiet :=
  (congrArg (fun x : Dev => x.acc.sessions) h.rest :)
theorem Reported.blob {d e : Dev} (h : Reported d e) (k : Nat) : e.blob k = d.blob k := Dev.blob_congr d e h.blobs k

@[simp] theorem raise_blob (d : Dev) (src data k : Nat) (hs : src < 256) : (d.raise src data).blob k = d.blob k :=
  (reported_raise d src data hs).blob k
@[simp] theorem settle_blob (d : Dev) (k : Nat) : d.settle.blob k = d.blob k := (reported_settle d).blob k

/-- An object no report changes reads as before an event. -/
@[simp] theorem raise_obj (d : Dev) (src data k : Nat) (hs : src < 256) (hk : eventKey k = false) :
    (d.raise src data).obj k = d.obj k := (reported_raise d src data hs).obj k hk
@[simp] theorem settle_obj (d : Dev) (k : Nat) (hk : eventKey k = false) : d.settle.obj k = d.obj k := (reported_settle d).obj k hk

/-- A latch set stays set through later reports. -/
theorem raise_latched (d : Dev) (src data s : Nat) (hs : src < 256) (hb : s < 256) (h : d.latched s = true) :
    (d.raise src data).latched s = true := (reported_raise d src data hs).latch s hb h
theorem settle_latched (d : Dev) (s : Nat) (hb : s < 256) (h : d.latched s = true) : d.settle.latched s = true :=
  (reported_settle d).latch s hb h

end Sys2Proof.Machine
end

