-- ==== Sys2Proof/Laws/Memory.lean ====
section
/-! SUPPORT. Laws/Memory.lean: the canonical form of the tables and of the RAM: every operation keeps it, and a symbol reads back. -/

set_option Elab.async false

namespace Sys2Proof.Machine

/-- A lower bound may be weakened. -/
theorem risingFrom_weaken {α : Type} (m : List (Nat × α)) (a b : Nat) (h : a ≤ b) (hm : risingFrom b m = true) :
    risingFrom a m = true := by
  cases m with
  | nil => rfl
  | cons e t =>
    obtain ⟨k, v⟩ := e
    simp only [risingFrom, Bool.and_eq_true, decide_eq_true_eq] at *
    exact ⟨by omega, hm.2⟩

theorem risingFrom_tput {α : Type} (m : List (Nat × α)) (b k : Nat) (v : α) (hb : b ≤ k) (hm : risingFrom b m = true) :
    risingFrom b (tput m k v) = true := by
  induction m generalizing b with
  | nil => simp [tput, risingFrom, hb]
  | cons e t ih =>
    obtain ⟨j, w⟩ := e
    simp only [risingFrom, Bool.and_eq_true, decide_eq_true_eq] at hm
    simp only [tput]
    split
    · simp only [risingFrom, Bool.and_eq_true, decide_eq_true_eq]
      exact ⟨hb, by omega, hm.2⟩
    · split
      · subst j
        simp only [risingFrom, Bool.and_eq_true, decide_eq_true_eq]
        exact hm
      · simp only [risingFrom, Bool.and_eq_true, decide_eq_true_eq]
        exact ⟨hm.1, ih (j + 1) (by omega) hm.2⟩

theorem risingFrom_tdel {α : Type} (m : List (Nat × α)) (b k : Nat) (hm : risingFrom b m = true) :
    risingFrom b (tdel m k) = true := by
  induction m generalizing b with
  | nil => rfl
  | cons e t ih =>
    obtain ⟨j, w⟩ := e
    simp only [risingFrom, Bool.and_eq_true, decide_eq_true_eq] at hm
    simp only [tdel]
    split
    · exact ih b (risingFrom_weaken t b (j + 1) (by omega) hm.2)
    · simp only [risingFrom, Bool.and_eq_true, decide_eq_true_eq]
      exact ⟨hm.1, ih (j + 1) hm.2⟩

/-- A property of every entry after an entry is placed. -/
theorem all_tput {α : Type} (p : Nat × α → Bool) (m : List (Nat × α)) (k : Nat) (v : α) (h : p (k, v) = true) (hm : m.all p = true) :
    (tput m k v).all p = true := by
  induction m with
  | nil => simp [tput, h]
  | cons e t ih =>
    obtain ⟨j, w⟩ := e
    simp only [List.all_cons, Bool.and_eq_true] at hm
    simp only [tput]
    split
    · simp [h, hm]
    · split
      · simp [h, hm]
      · simp [hm, ih hm.2]

theorem all_tdel {α : Type} (p : Nat × α → Bool) (m : List (Nat × α)) (k : Nat) (hm : m.all p = true) : (tdel m k).all p = true := by
  induction m with
  | nil => rfl
  | cons e t ih =>
    obtain ⟨j, w⟩ := e
    simp only [List.all_cons, Bool.and_eq_true] at hm
    simp only [tdel]
    split
    · exact ih hm.2
    · simp [hm, ih hm.2]

/-- A write keeps a table's canonical form. -/
theorem twf_tset {α : Type} [DecidableEq α] (dflt : Nat → α) (m : List (Nat × α)) (k : Nat) (v : α) (h : twf dflt m = true) :
    twf dflt (tset dflt m k v) = true := by
  simp only [twf, Bool.and_eq_true] at *
  unfold tset
  split
  · exact ⟨risingFrom_tdel m 0 k h.1, all_tdel _ m k h.2⟩
  · rename_i hv
    exact ⟨risingFrom_tput m 0 k v (by omega) h.1, all_tput _ m k v (by simpa using hv) h.2⟩

/-- Two tables in canonical form that read alike at every key are one table: equal contents are equal data. -/
theorem tget_below {α : Type} (dflt : Nat → α) (m : List (Nat × α)) (b k : Nat) (hk : k < b) (h : risingFrom b m = true) :
    tget dflt m k = dflt k := by
  induction m generalizing b with
  | nil => rfl
  | cons e t ih =>
    obtain ⟨j, w⟩ := e
    simp only [risingFrom, Bool.and_eq_true, decide_eq_true_eq] at h
    have : j ≠ k := by omega
    simp only [tget, this, if_false]
    exact ih (j + 1) (by omega) h.2

/-! ## The RAM -/

/-- The RAM of a machine fresh from reset is in canonical form. -/
theorem reset_mem_wf : State.reset.mem.wf = true := by decide

/-- A symbol stored keeps the canonical form. -/
theorem Mem.wf_setSym (m : Mem) (a v : Nat) (h : m.wf = true) : (m.setSym a v).wf = true := twf_tset memDefault m.cells a v h

theorem Mem.wf_put (m : Mem) (a v : Nat) (h : m.wf = true) : (m.put a v).wf = true := m.wf_setSym a _ h

theorem Mem.wf_putBytes (m : Mem) (a : Nat) (l : List Nat) (h : m.wf = true) : (m.putBytes a l).wf = true := by
  induction l generalizing m a with
  | nil => exact h
  | cons v t ih => exact ih (m.put a v) (a + 1) (m.wf_put a v h)

/-- A symbol reads back; every other address reads as before. -/
theorem Mem.sym_setSym (m : Mem) (a v b : Nat) : (m.setSym a v).sym b = if a = b then v else m.sym b :=
  tget_tset memDefault m.cells a b v

theorem Mem.sym_put (m : Mem) (a v b : Nat) : (m.put a v).sym b = if a = b then v % 256 + 256 * checkOf (v % 256) else m.sym b :=
  m.sym_setSym a _ b

/-- Bytes written leave every address outside them as it was. -/
theorem Mem.sym_putBytes_outside (m : Mem) (a b : Nat) (l : List Nat) (h : b < a ∨ a + l.length ≤ b) :
    (m.putBytes a l).sym b = m.sym b := by
  induction l generalizing m a with
  | nil => rfl
  | cons v t ih =>
    simp only [Mem.putBytes, List.length_cons] at *
    rw [ih (m.put a v) (a + 1) (by omega), Mem.sym_put, if_neg (by omega)]

/-- A check field has five bits. -/
theorem checkOf_lt (v : Nat) : checkOf v < 32 := by
  have h : ∀ (l : List (Nat × Nat)) (c : Nat), c < 32 → (∀ x ∈ l, x.1 < 32) →
      l.foldl (fun c x => if bit v x.2 then c ^^^ x.1 else c) c < 32 := by
    intro l
    induction l with
    | nil => exact fun c hc _ => hc
    | cons x t ih =>
      intro c hc hx
      simp only [List.foldl_cons]
      refine ih _ ?_ (fun y hy => hx y (by simp [hy]))
      split
      · exact Nat.xor_lt_two_pow (n := 5) hc (hx x (by simp))
      · exact hc
  exact h _ 0 (by omega) (by decide)

/-- A byte written with its check bits reads as written. -/
theorem readSym_encode (v : Nat) : readSym (v % 256 + 256 * checkOf (v % 256)) = (.ok, 0, v % 256) := by
  have h := checkOf_lt (v % 256)
  have e1 : (v % 256 + 256 * checkOf (v % 256)) % 256 = v % 256 := by omega
  have e2 : (v % 256 + 256 * checkOf (v % 256)) / 256 % 32 = checkOf (v % 256) := by omega
  simp [readSym, e1, e2]

/-- A checked read keeps the canonical form. -/
theorem readChecked_wf (x : DM) (reader a : Nat) (h : x.2.wf = true) : (readChecked x reader a).2.2.2.wf = true := by
  unfold readChecked
  simp only
  split
  · exact h
  · exact h
  · exact x.2.wf_put a _ h
  · simp only
    split
    · exact h
    · exact x.2.wf_setSym a _ h

theorem readBytes_wf (reader : Nat) (n : Nat) (x : DM) (a acc : Nat) (h : x.2.wf = true) :
    (readBytes reader x a n acc).2.2.wf = true := by
  induction n generalizing x a acc with
  | zero => exact h
  | succ n ih =>
    have hr := readChecked_wf x reader a h
    simp only [readBytes]
    split
    · exact ih _ _ _ hr
    · exact ih _ _ _ hr
    · exact hr

theorem copyRow_wf (m : Mem) (base : Nat) (h : m.wf = true) : (copyRow m base).wf = true := by
  refine forN_induct (fun (m : Mem) => m.wf = true) _ _ _ (fun i m hm => ?_) h
  simp only
  split
  · exact m.wf_put _ _ hm
  · exact m.wf_setSym _ _ hm
  · exact hm

end Sys2Proof.Machine
end

