-- ==== Sys2Proof/Laws/Outcome.lean ====
section
/-! SUPPORT. Laws/Outcome.lean: what each of the shared frames of a command can do: it answers one next state, its queue as before, its
drops reported; a command that works on the block alone leaves the RAM. -/

set_option Elab.async false

namespace Sys2Proof.Machine

/-- All a command on the block alone does. -/
theorem onDev_next (s t : State) (f : Dev → Dev) (h : s.onDev f = .next t) :
    t.dev = (f s.dev.fresh).settle ∧ t.mem = s.mem ∧ t.pending = s.pending ∧ t.dev.drops = [] := by
  injection h with h
  subst h
  exact ⟨rfl, rfl, rfl, rfl⟩

/-- All a command on the block and the RAM does. -/
theorem onBoth_next (s t : State) (f : DM → DM) (h : s.onBoth f = .next t) :
    t.dev = (f (s.dev.fresh, s.mem)).1.settle ∧ t.mem = (f (s.dev.fresh, s.mem)).2
      ∧ t.pending = s.pending ∧ t.dev.drops = [] := by
  injection h with h
  subst h
  exact ⟨rfl, rfl, rfl, rfl⟩

/-- A command whose form is checked first answers as its body does, or is ill-formed. -/
theorem guardForm_next (ok : Bool) (r : Res) (t : State) (h : guardForm ok r = .next t) : ok = true ∧ r = .next t := by
  cases ok
  · cases h
  · exact ⟨rfl, h⟩

/-- The two outcomes of a command on the block. -/
theorem onDev_answers (s : State) (f : Dev → Dev) : ∃ t, s.onDev f = .next t := ⟨_, rfl⟩
theorem onBoth_answers (s : State) (f : DM → DM) : ∃ t, s.onBoth f = .next t := ⟨_, rfl⟩
theorem onDevH_answers (s : State) (f : Dev → Dev) : ∃ t, s.onDevH f = .next t := ⟨_, rfl⟩
theorem onBothH_answers (s : State) (f : DM → DM) : ∃ t, s.onBothH f = .next t := ⟨_, rfl⟩

/-- Without a cause found, the end of a command decides nothing. -/
theorem holdDecide_none (d : Dev) (h : d.ctl.causeReq = none) : d.holdDecide = d := by
  unfold Dev.holdDecide
  rw [h]

/-- Without a drop, the end of a command reports nothing. -/
theorem settle_none (d : Dev) (h : d.drops = []) : d.settle = d := by
  unfold Dev.settle
  simp only [h, List.foldl_nil]
  cases d
  simp_all

end Sys2Proof.Machine
end

