-- ==== Sys2Proof/Laws/Rows.lean ====
section
/-! SUPPORT. Laws/Rows.lean: the table rows of the command objects, and what follows from them: which are safety parameters, which are
copied to a standby, which leave a value. -/

set_option Elab.async false

namespace Sys2Proof.Machine

theorem all_STATE_REQUEST : rowOf Obj.STATE_REQUEST = some ⟨272, 1, 1, 1, 1, .u8, .wo, 0, .oneOf [1, 2, 3, 4]⟩ ∧ isRws Obj.STATE_REQUEST = false ∧
    isCopied Obj.STATE_REQUEST = false ∧ leavesValue Obj.STATE_REQUEST = false := by decide +kernel
theorem row_STATE_REQUEST : rowOf Obj.STATE_REQUEST = some ⟨272, 1, 1, 1, 1, .u8, .wo, 0, .oneOf [1, 2, 3, 4]⟩ := (all_STATE_REQUEST).1
theorem rws_STATE_REQUEST : isRws Obj.STATE_REQUEST = false := (all_STATE_REQUEST).2.1
theorem copied_STATE_REQUEST : isCopied Obj.STATE_REQUEST = false := (all_STATE_REQUEST).2.2.1
theorem leaves_STATE_REQUEST : leavesValue Obj.STATE_REQUEST = false := (all_STATE_REQUEST).2.2.2

theorem all_HOST_MODE : rowOf Obj.HOST_MODE = some ⟨2049, 1, 1, 0, 1, .u8, .rw, 0, .oneOf [0, 1]⟩ ∧ isRws Obj.HOST_MODE = false ∧
    isCopied Obj.HOST_MODE = false ∧ leavesValue Obj.HOST_MODE = false := by decide +kernel
theorem row_HOST_MODE : rowOf Obj.HOST_MODE = some ⟨2049, 1, 1, 0, 1, .u8, .rw, 0, .oneOf [0, 1]⟩ := (all_HOST_MODE).1
theorem rws_HOST_MODE : isRws Obj.HOST_MODE = false := (all_HOST_MODE).2.1
theorem copied_HOST_MODE : isCopied Obj.HOST_MODE = false := (all_HOST_MODE).2.2.1
theorem leaves_HOST_MODE : leavesValue Obj.HOST_MODE = false := (all_HOST_MODE).2.2.2

theorem all_SAVE : rowOf Obj.SAVE = some ⟨497, 1, 1, 0, 1, .u32, .wo, 0, .oneOf [1935767141]⟩ ∧ isRws Obj.SAVE = false ∧
    isCopied Obj.SAVE = false ∧ leavesValue Obj.SAVE = false := by decide +kernel
theorem row_SAVE : rowOf Obj.SAVE = some ⟨497, 1, 1, 0, 1, .u32, .wo, 0, .oneOf [1935767141]⟩ := (all_SAVE).1
theorem rws_SAVE : isRws Obj.SAVE = false := (all_SAVE).2.1
theorem copied_SAVE : isCopied Obj.SAVE = false := (all_SAVE).2.2.1
theorem leaves_SAVE : leavesValue Obj.SAVE = false := (all_SAVE).2.2.2

theorem all_RESTORE : rowOf Obj.RESTORE = some ⟨498, 1, 1, 0, 1, .u32, .wo, 0, .oneOf [1819238756]⟩ ∧ isRws Obj.RESTORE = false ∧
    isCopied Obj.RESTORE = false ∧ leavesValue Obj.RESTORE = false := by decide +kernel
theorem row_RESTORE : rowOf Obj.RESTORE = some ⟨498, 1, 1, 0, 1, .u32, .wo, 0, .oneOf [1819238756]⟩ := (all_RESTORE).1
theorem rws_RESTORE : isRws Obj.RESTORE = false := (all_RESTORE).2.1
theorem copied_RESTORE : isCopied Obj.RESTORE = false := (all_RESTORE).2.2.1
theorem leaves_RESTORE : leavesValue Obj.RESTORE = false := (all_RESTORE).2.2.2

theorem all_HURDLE : rowOf Obj.HURDLE = some ⟨496, 1, 1, 0, 1, .u16, .wo, 0, .rng 0 65535⟩ ∧ isRws Obj.HURDLE = false ∧
    isCopied Obj.HURDLE = false ∧ leavesValue Obj.HURDLE = false := by decide +kernel
theorem row_HURDLE : rowOf Obj.HURDLE = some ⟨496, 1, 1, 0, 1, .u16, .wo, 0, .rng 0 65535⟩ := (all_HURDLE).1
theorem rws_HURDLE : isRws Obj.HURDLE = false := (all_HURDLE).2.1
theorem copied_HURDLE : isCopied Obj.HURDLE = false := (all_HURDLE).2.2.1
theorem leaves_HURDLE : leavesValue Obj.HURDLE = false := (all_HURDLE).2.2.2

theorem all_SAFETY_COMMIT : rowOf Obj.SAFETY_COMMIT = some ⟨500, 1, 1, 0, 1, .u32, .rws, 0, .any⟩ ∧ isRws Obj.SAFETY_COMMIT = true ∧
    isCopied Obj.SAFETY_COMMIT = false ∧ leavesValue Obj.SAFETY_COMMIT = true := by decide +kernel
theorem row_SAFETY_COMMIT : rowOf Obj.SAFETY_COMMIT = some ⟨500, 1, 1, 0, 1, .u32, .rws, 0, .any⟩ := (all_SAFETY_COMMIT).1
theorem rws_SAFETY_COMMIT : isRws Obj.SAFETY_COMMIT = true := (all_SAFETY_COMMIT).2.1
theorem copied_SAFETY_COMMIT : isCopied Obj.SAFETY_COMMIT = false := (all_SAFETY_COMMIT).2.2.1
theorem leaves_SAFETY_COMMIT : leavesValue Obj.SAFETY_COMMIT = true := (all_SAFETY_COMMIT).2.2.2

theorem all_EVENT_LATCH : ∀ n : Fin 8, rowOf (Obj.EVENT_LATCH n) = some ⟨1553, 1, 1, 0, 8, .u32, .rw, 0, .any⟩ ∧ isRws (Obj.EVENT_LATCH n) = false ∧
    isCopied (Obj.EVENT_LATCH n) = false ∧ leavesValue (Obj.EVENT_LATCH n) = false := by decide +kernel
theorem row_EVENT_LATCH (n : Fin 8) : rowOf (Obj.EVENT_LATCH n) = some ⟨1553, 1, 1, 0, 8, .u32, .rw, 0, .any⟩ := (all_EVENT_LATCH n).1
theorem rws_EVENT_LATCH (n : Fin 8) : isRws (Obj.EVENT_LATCH n) = false := (all_EVENT_LATCH n).2.1
theorem copied_EVENT_LATCH (n : Fin 8) : isCopied (Obj.EVENT_LATCH n) = false := (all_EVENT_LATCH n).2.2.1
theorem leaves_EVENT_LATCH (n : Fin 8) : leavesValue (Obj.EVENT_LATCH n) = false := (all_EVENT_LATCH n).2.2.2

theorem all_PLLT_STEP : rowOf Obj.PLLT_STEP = some ⟨528, 1, 1, 6, 1, .i32, .wo, 0, .any⟩ ∧ isRws Obj.PLLT_STEP = false ∧
    isCopied Obj.PLLT_STEP = false ∧ leavesValue Obj.PLLT_STEP = false := by decide +kernel
theorem row_PLLT_STEP : rowOf Obj.PLLT_STEP = some ⟨528, 1, 1, 6, 1, .i32, .wo, 0, .any⟩ := (all_PLLT_STEP).1
theorem rws_PLLT_STEP : isRws Obj.PLLT_STEP = false := (all_PLLT_STEP).2.1
theorem copied_PLLT_STEP : isCopied Obj.PLLT_STEP = false := (all_PLLT_STEP).2.2.1
theorem leaves_PLLT_STEP : leavesValue Obj.PLLT_STEP = false := (all_PLLT_STEP).2.2.2

theorem all_PLLT_RELOCK : rowOf Obj.PLLT_RELOCK = some ⟨528, 1, 1, 8, 1, .u8, .wo, 0, .oneOf [1]⟩ ∧ isRws Obj.PLLT_RELOCK = false ∧
    isCopied Obj.PLLT_RELOCK = false ∧ leavesValue Obj.PLLT_RELOCK = false := by decide +kernel
theorem row_PLLT_RELOCK : rowOf Obj.PLLT_RELOCK = some ⟨528, 1, 1, 8, 1, .u8, .wo, 0, .oneOf [1]⟩ := (all_PLLT_RELOCK).1
theorem rws_PLLT_RELOCK : isRws Obj.PLLT_RELOCK = false := (all_PLLT_RELOCK).2.1
theorem copied_PLLT_RELOCK : isCopied Obj.PLLT_RELOCK = false := (all_PLLT_RELOCK).2.2.1
theorem leaves_PLLT_RELOCK : leavesValue Obj.PLLT_RELOCK = false := (all_PLLT_RELOCK).2.2.2

theorem all_PLLT_PRESCALE : rowOf Obj.PLLT_PRESCALE = some ⟨528, 1, 1, 0, 1, .u8, .rwc, 1, .oneOf [0, 1, 2]⟩ ∧ isRws Obj.PLLT_PRESCALE = false ∧
    isCopied Obj.PLLT_PRESCALE = false ∧ leavesValue Obj.PLLT_PRESCALE = true := by decide +kernel
theorem row_PLLT_PRESCALE : rowOf Obj.PLLT_PRESCALE = some ⟨528, 1, 1, 0, 1, .u8, .rwc, 1, .oneOf [0, 1, 2]⟩ := (all_PLLT_PRESCALE).1
theorem rws_PLLT_PRESCALE : isRws Obj.PLLT_PRESCALE = false := (all_PLLT_PRESCALE).2.1
theorem copied_PLLT_PRESCALE : isCopied Obj.PLLT_PRESCALE = false := (all_PLLT_PRESCALE).2.2.1
theorem leaves_PLLT_PRESCALE : leavesValue Obj.PLLT_PRESCALE = true := (all_PLLT_PRESCALE).2.2.2

theorem all_COUNTER_SLEW : rowOf Obj.COUNTER_SLEW = some ⟨560, 1, 1, 3, 1, .i16, .rw, 0, .rng (-32768) 32767⟩ ∧ isRws Obj.COUNTER_SLEW = false ∧
    isCopied Obj.COUNTER_SLEW = false ∧ leavesValue Obj.COUNTER_SLEW = true := by decide +kernel
theorem row_COUNTER_SLEW : rowOf Obj.COUNTER_SLEW = some ⟨560, 1, 1, 3, 1, .i16, .rw, 0, .rng (-32768) 32767⟩ := (all_COUNTER_SLEW).1
theorem rws_COUNTER_SLEW : isRws Obj.COUNTER_SLEW = false := (all_COUNTER_SLEW).2.1
theorem copied_COUNTER_SLEW : isCopied Obj.COUNTER_SLEW = false := (all_COUNTER_SLEW).2.2.1
theorem leaves_COUNTER_SLEW : leavesValue Obj.COUNTER_SLEW = true := (all_COUNTER_SLEW).2.2.2

theorem all_TIME_SET : rowOf Obj.TIME_SET = some ⟨560, 1, 1, 2, 1, .time80, .rwc, 0, .time⟩ ∧ isRws Obj.TIME_SET = false ∧
    isCopied Obj.TIME_SET = false ∧ leavesValue Obj.TIME_SET = true := by decide +kernel
theorem row_TIME_SET : rowOf Obj.TIME_SET = some ⟨560, 1, 1, 2, 1, .time80, .rwc, 0, .time⟩ := (all_TIME_SET).1
theorem rws_TIME_SET : isRws Obj.TIME_SET = false := (all_TIME_SET).2.1
theorem copied_TIME_SET : isCopied Obj.TIME_SET = false := (all_TIME_SET).2.2.1
theorem leaves_TIME_SET : leavesValue Obj.TIME_SET = true := (all_TIME_SET).2.2.2

theorem all_HEAL_REQUEST : rowOf Obj.HEAL_REQUEST = some ⟨1024, 1, 1, 3, 1, .u8, .wo, 0, .mask 3⟩ ∧ isRws Obj.HEAL_REQUEST = false ∧
    isCopied Obj.HEAL_REQUEST = true ∧ leavesValue Obj.HEAL_REQUEST = false := by decide +kernel
theorem row_HEAL_REQUEST : rowOf Obj.HEAL_REQUEST = some ⟨1024, 1, 1, 3, 1, .u8, .wo, 0, .mask 3⟩ := (all_HEAL_REQUEST).1
theorem rws_HEAL_REQUEST : isRws Obj.HEAL_REQUEST = false := (all_HEAL_REQUEST).2.1
theorem copied_HEAL_REQUEST : isCopied Obj.HEAL_REQUEST = true := (all_HEAL_REQUEST).2.2.1
theorem leaves_HEAL_REQUEST : leavesValue Obj.HEAL_REQUEST = false := (all_HEAL_REQUEST).2.2.2

theorem all_AXIS_COMMAND : ∀ n : Fin 128, rowOf (Obj.AXIS_COMMAND n) = some ⟨40960, 128, 64, 13, 1, .u8, .wo, 0, .oneOf [1, 2, 3]⟩ ∧ isRws (Obj.AXIS_COMMAND n) = false ∧
    isCopied (Obj.AXIS_COMMAND n) = true ∧ leavesValue (Obj.AXIS_COMMAND n) = false := by decide +kernel
theorem row_AXIS_COMMAND (n : Fin 128) : rowOf (Obj.AXIS_COMMAND n) = some ⟨40960, 128, 64, 13, 1, .u8, .wo, 0, .oneOf [1, 2, 3]⟩ := (all_AXIS_COMMAND n).1
theorem rws_AXIS_COMMAND (n : Fin 128) : isRws (Obj.AXIS_COMMAND n) = false := (all_AXIS_COMMAND n).2.1
theorem copied_AXIS_COMMAND (n : Fin 128) : isCopied (Obj.AXIS_COMMAND n) = true := (all_AXIS_COMMAND n).2.2.1
theorem leaves_AXIS_COMMAND (n : Fin 128) : leavesValue (Obj.AXIS_COMMAND n) = false := (all_AXIS_COMMAND n).2.2.2

theorem all_DOMAIN_COMMIT : ∀ n : Fin 255, rowOf (Obj.DOMAIN_COMMIT n) = some ⟨53248, 255, 4, 2, 1, .u8, .rwc, 0, .oneOf [1]⟩ ∧ isRws (Obj.DOMAIN_COMMIT n) = false ∧
    isCopied (Obj.DOMAIN_COMMIT n) = true ∧ leavesValue (Obj.DOMAIN_COMMIT n) = false := by decide +kernel
theorem row_DOMAIN_COMMIT (n : Fin 255) : rowOf (Obj.DOMAIN_COMMIT n) = some ⟨53248, 255, 4, 2, 1, .u8, .rwc, 0, .oneOf [1]⟩ := (all_DOMAIN_COMMIT n).1
theorem rws_DOMAIN_COMMIT (n : Fin 255) : isRws (Obj.DOMAIN_COMMIT n) = false := (all_DOMAIN_COMMIT n).2.1
theorem copied_DOMAIN_COMMIT (n : Fin 255) : isCopied (Obj.DOMAIN_COMMIT n) = true := (all_DOMAIN_COMMIT n).2.2.1
theorem leaves_DOMAIN_COMMIT (n : Fin 255) : leavesValue (Obj.DOMAIN_COMMIT n) = false := (all_DOMAIN_COMMIT n).2.2.2

theorem all_RC_CLEAR : ∀ n : Fin 128, rowOf (Obj.RC_CLEAR n) = some ⟨40994, 128, 64, 0, 1, .u8, .wo, 0, .oneOf [1]⟩ ∧ isRws (Obj.RC_CLEAR n) = false ∧
    isCopied (Obj.RC_CLEAR n) = true ∧ leavesValue (Obj.RC_CLEAR n) = false := by decide +kernel
theorem row_RC_CLEAR (n : Fin 128) : rowOf (Obj.RC_CLEAR n) = some ⟨40994, 128, 64, 0, 1, .u8, .wo, 0, .oneOf [1]⟩ := (all_RC_CLEAR n).1
theorem rws_RC_CLEAR (n : Fin 128) : isRws (Obj.RC_CLEAR n) = false := (all_RC_CLEAR n).2.1
theorem copied_RC_CLEAR (n : Fin 128) : isCopied (Obj.RC_CLEAR n) = true := (all_RC_CLEAR n).2.2.1
theorem leaves_RC_CLEAR (n : Fin 128) : leavesValue (Obj.RC_CLEAR n) = false := (all_RC_CLEAR n).2.2.2

theorem all_PROFILE_COMMAND : ∀ n : Fin 128, rowOf (Obj.PROFILE_COMMAND n) = some ⟨40976, 128, 64, 0, 1, .u8, .wo, 0, .rng 1 7⟩ ∧ isRws (Obj.PROFILE_COMMAND n) = false ∧
    isCopied (Obj.PROFILE_COMMAND n) = true ∧ leavesValue (Obj.PROFILE_COMMAND n) = false := by decide +kernel
theorem row_PROFILE_COMMAND (n : Fin 128) : rowOf (Obj.PROFILE_COMMAND n) = some ⟨40976, 128, 64, 0, 1, .u8, .wo, 0, .rng 1 7⟩ := (all_PROFILE_COMMAND n).1
theorem rws_PROFILE_COMMAND (n : Fin 128) : isRws (Obj.PROFILE_COMMAND n) = false := (all_PROFILE_COMMAND n).2.1
theorem copied_PROFILE_COMMAND (n : Fin 128) : isCopied (Obj.PROFILE_COMMAND n) = true := (all_PROFILE_COMMAND n).2.2.1
theorem leaves_PROFILE_COMMAND (n : Fin 128) : leavesValue (Obj.PROFILE_COMMAND n) = false := (all_PROFILE_COMMAND n).2.2.2

theorem all_STAGE_ARM : ∀ n : Fin 128, rowOf (Obj.STAGE_ARM n) = some ⟨40986, 128, 64, 3, 1, .bool, .rw, 0, .oneOf [0, 1]⟩ ∧ isRws (Obj.STAGE_ARM n) = false ∧
    isCopied (Obj.STAGE_ARM n) = true ∧ leavesValue (Obj.STAGE_ARM n) = true := by decide +kernel
theorem row_STAGE_ARM (n : Fin 128) : rowOf (Obj.STAGE_ARM n) = some ⟨40986, 128, 64, 3, 1, .bool, .rw, 0, .oneOf [0, 1]⟩ := (all_STAGE_ARM n).1
theorem rws_STAGE_ARM (n : Fin 128) : isRws (Obj.STAGE_ARM n) = false := (all_STAGE_ARM n).2.1
theorem copied_STAGE_ARM (n : Fin 128) : isCopied (Obj.STAGE_ARM n) = true := (all_STAGE_ARM n).2.2.1
theorem leaves_STAGE_ARM (n : Fin 128) : leavesValue (Obj.STAGE_ARM n) = true := (all_STAGE_ARM n).2.2.2

theorem all_GF_COMMAND : rowOf Obj.GF_COMMAND = some ⟨20504, 1, 1, 0, 1, .u8, .wo, 0, .rng 1 6⟩ ∧ isRws Obj.GF_COMMAND = false ∧
    isCopied Obj.GF_COMMAND = true ∧ leavesValue Obj.GF_COMMAND = false := by decide +kernel
theorem row_GF_COMMAND : rowOf Obj.GF_COMMAND = some ⟨20504, 1, 1, 0, 1, .u8, .wo, 0, .rng 1 6⟩ := (all_GF_COMMAND).1
theorem rws_GF_COMMAND : isRws Obj.GF_COMMAND = false := (all_GF_COMMAND).2.1
theorem copied_GF_COMMAND : isCopied Obj.GF_COMMAND = true := (all_GF_COMMAND).2.2.1
theorem leaves_GF_COMMAND : leavesValue Obj.GF_COMMAND = false := (all_GF_COMMAND).2.2.2

theorem all_GF_TIE : rowOf Obj.GF_TIE = some ⟨20504, 1, 1, 2, 1, .bool, .rw, 0, .oneOf [0, 1]⟩ ∧ isRws Obj.GF_TIE = false ∧
    isCopied Obj.GF_TIE = true ∧ leavesValue Obj.GF_TIE = false := by decide +kernel
theorem row_GF_TIE : rowOf Obj.GF_TIE = some ⟨20504, 1, 1, 2, 1, .bool, .rw, 0, .oneOf [0, 1]⟩ := (all_GF_TIE).1
theorem rws_GF_TIE : isRws Obj.GF_TIE = false := (all_GF_TIE).2.1
theorem copied_GF_TIE : isCopied Obj.GF_TIE = true := (all_GF_TIE).2.2.1
theorem leaves_GF_TIE : leavesValue Obj.GF_TIE = false := (all_GF_TIE).2.2.2

theorem all_GF_RC_CLEAR : rowOf Obj.GF_RC_CLEAR = some ⟨20499, 1, 1, 8, 1, .u8, .wo, 0, .oneOf [1]⟩ ∧ isRws Obj.GF_RC_CLEAR = false ∧
    isCopied Obj.GF_RC_CLEAR = true ∧ leavesValue Obj.GF_RC_CLEAR = false := by decide +kernel
theorem row_GF_RC_CLEAR : rowOf Obj.GF_RC_CLEAR = some ⟨20499, 1, 1, 8, 1, .u8, .wo, 0, .oneOf [1]⟩ := (all_GF_RC_CLEAR).1
theorem rws_GF_RC_CLEAR : isRws Obj.GF_RC_CLEAR = false := (all_GF_RC_CLEAR).2.1
theorem copied_GF_RC_CLEAR : isCopied Obj.GF_RC_CLEAR = true := (all_GF_RC_CLEAR).2.2.1
theorem leaves_GF_RC_CLEAR : leavesValue Obj.GF_RC_CLEAR = false := (all_GF_RC_CLEAR).2.2.2

theorem all_LEG_COMMAND : ∀ n : Fin 20, rowOf (Obj.LEG_COMMAND n) = some ⟨8192, 20, 1, 1, 1, .u8, .wo, 0, .oneOf [1, 2, 3, 4]⟩ ∧ isRws (Obj.LEG_COMMAND n) = false ∧
    isCopied (Obj.LEG_COMMAND n) = true ∧ leavesValue (Obj.LEG_COMMAND n) = false := by decide +kernel
theorem row_LEG_COMMAND (n : Fin 20) : rowOf (Obj.LEG_COMMAND n) = some ⟨8192, 20, 1, 1, 1, .u8, .wo, 0, .oneOf [1, 2, 3, 4]⟩ := (all_LEG_COMMAND n).1
theorem rws_LEG_COMMAND (n : Fin 20) : isRws (Obj.LEG_COMMAND n) = false := (all_LEG_COMMAND n).2.1
theorem copied_LEG_COMMAND (n : Fin 20) : isCopied (Obj.LEG_COMMAND n) = true := (all_LEG_COMMAND n).2.2.1
theorem leaves_LEG_COMMAND (n : Fin 20) : leavesValue (Obj.LEG_COMMAND n) = false := (all_LEG_COMMAND n).2.2.2

theorem all_SELFTEST_COMMAND : rowOf Obj.SELFTEST_COMMAND = some ⟨12288, 1, 1, 3, 1, .u8, .wo, 0, .oneOf [1]⟩ ∧ isRws Obj.SELFTEST_COMMAND = false ∧
    isCopied Obj.SELFTEST_COMMAND = true ∧ leavesValue Obj.SELFTEST_COMMAND = false := by decide +kernel
theorem row_SELFTEST_COMMAND : rowOf Obj.SELFTEST_COMMAND = some ⟨12288, 1, 1, 3, 1, .u8, .wo, 0, .oneOf [1]⟩ := (all_SELFTEST_COMMAND).1
theorem rws_SELFTEST_COMMAND : isRws Obj.SELFTEST_COMMAND = false := (all_SELFTEST_COMMAND).2.1
theorem copied_SELFTEST_COMMAND : isCopied Obj.SELFTEST_COMMAND = true := (all_SELFTEST_COMMAND).2.2.1
theorem leaves_SELFTEST_COMMAND : leavesValue Obj.SELFTEST_COMMAND = false := (all_SELFTEST_COMMAND).2.2.2

theorem all_REDUNDANCY_COMMAND : rowOf Obj.REDUNDANCY_COMMAND = some ⟨1280, 1, 1, 3, 1, .u8, .wo, 0, .oneOf [1, 2, 3]⟩ ∧ isRws Obj.REDUNDANCY_COMMAND = false ∧
    isCopied Obj.REDUNDANCY_COMMAND = false ∧ leavesValue Obj.REDUNDANCY_COMMAND = false := by decide +kernel
theorem row_REDUNDANCY_COMMAND : rowOf Obj.REDUNDANCY_COMMAND = some ⟨1280, 1, 1, 3, 1, .u8, .wo, 0, .oneOf [1, 2, 3]⟩ := (all_REDUNDANCY_COMMAND).1
theorem rws_REDUNDANCY_COMMAND : isRws Obj.REDUNDANCY_COMMAND = false := (all_REDUNDANCY_COMMAND).2.1
theorem copied_REDUNDANCY_COMMAND : isCopied Obj.REDUNDANCY_COMMAND = false := (all_REDUNDANCY_COMMAND).2.2.1
theorem leaves_REDUNDANCY_COMMAND : leavesValue Obj.REDUNDANCY_COMMAND = false := (all_REDUNDANCY_COMMAND).2.2.2

theorem all_REC_COMMAND : ∀ n : Fin 4, rowOf (Obj.REC_COMMAND n) = some ⟨16512, 4, 1, 10, 1, .u8, .wo, 0, .rng 1 5⟩ ∧ isRws (Obj.REC_COMMAND n) = false ∧
    isCopied (Obj.REC_COMMAND n) = true ∧ leavesValue (Obj.REC_COMMAND n) = false := by decide +kernel
theorem row_REC_COMMAND (n : Fin 4) : rowOf (Obj.REC_COMMAND n) = some ⟨16512, 4, 1, 10, 1, .u8, .wo, 0, .rng 1 5⟩ := (all_REC_COMMAND n).1
theorem rws_REC_COMMAND (n : Fin 4) : isRws (Obj.REC_COMMAND n) = false := (all_REC_COMMAND n).2.1
theorem copied_REC_COMMAND (n : Fin 4) : isCopied (Obj.REC_COMMAND n) = true := (all_REC_COMMAND n).2.2.1
theorem leaves_REC_COMMAND (n : Fin 4) : leavesValue (Obj.REC_COMMAND n) = false := (all_REC_COMMAND n).2.2.2

theorem all_SYNC_FIRE : rowOf Obj.SYNC_FIRE = some ⟨16384, 1, 1, 6, 1, .time80, .wo, 0, .time⟩ ∧ isRws Obj.SYNC_FIRE = false ∧
    isCopied Obj.SYNC_FIRE = true ∧ leavesValue Obj.SYNC_FIRE = false := by decide +kernel
theorem row_SYNC_FIRE : rowOf Obj.SYNC_FIRE = some ⟨16384, 1, 1, 6, 1, .time80, .wo, 0, .time⟩ := (all_SYNC_FIRE).1
theorem rws_SYNC_FIRE : isRws Obj.SYNC_FIRE = false := (all_SYNC_FIRE).2.1
theorem copied_SYNC_FIRE : isCopied Obj.SYNC_FIRE = true := (all_SYNC_FIRE).2.2.1
theorem leaves_SYNC_FIRE : leavesValue Obj.SYNC_FIRE = false := (all_SYNC_FIRE).2.2.2

theorem all_ERASE_SEALED : rowOf Obj.ERASE_SEALED = some ⟨16544, 1, 1, 5, 1, .u32, .wo, 0, .oneOf [1701994867]⟩ ∧ isRws Obj.ERASE_SEALED = false ∧
    isCopied Obj.ERASE_SEALED = true ∧ leavesValue Obj.ERASE_SEALED = false := by decide +kernel
theorem row_ERASE_SEALED : rowOf Obj.ERASE_SEALED = some ⟨16544, 1, 1, 5, 1, .u32, .wo, 0, .oneOf [1701994867]⟩ := (all_ERASE_SEALED).1
theorem rws_ERASE_SEALED : isRws Obj.ERASE_SEALED = false := (all_ERASE_SEALED).2.1
theorem copied_ERASE_SEALED : isCopied Obj.ERASE_SEALED = true := (all_ERASE_SEALED).2.2.1
theorem leaves_ERASE_SEALED : leavesValue Obj.ERASE_SEALED = false := (all_ERASE_SEALED).2.2.2

theorem all_FUSE_COMMAND : rowOf Obj.FUSE_COMMAND = some ⟨1792, 1, 1, 4, 1, .u32, .wo, 0, .oneOf [1718973285]⟩ ∧ isRws Obj.FUSE_COMMAND = false ∧
    isCopied Obj.FUSE_COMMAND = false ∧ leavesValue Obj.FUSE_COMMAND = false := by decide +kernel
theorem row_FUSE_COMMAND : rowOf Obj.FUSE_COMMAND = some ⟨1792, 1, 1, 4, 1, .u32, .wo, 0, .oneOf [1718973285]⟩ := (all_FUSE_COMMAND).1
theorem rws_FUSE_COMMAND : isRws Obj.FUSE_COMMAND = false := (all_FUSE_COMMAND).2.1
theorem copied_FUSE_COMMAND : isCopied Obj.FUSE_COMMAND = false := (all_FUSE_COMMAND).2.2.1
theorem leaves_FUSE_COMMAND : leavesValue Obj.FUSE_COMMAND = false := (all_FUSE_COMMAND).2.2.2

theorem all_TEST_COMMAND : rowOf Obj.TEST_COMMAND = some ⟨1808, 1, 1, 5, 1, .u8, .wo, 0, .rng 1 3⟩ ∧ isRws Obj.TEST_COMMAND = false ∧
    isCopied Obj.TEST_COMMAND = false ∧ leavesValue Obj.TEST_COMMAND = false := by decide +kernel
theorem row_TEST_COMMAND : rowOf Obj.TEST_COMMAND = some ⟨1808, 1, 1, 5, 1, .u8, .wo, 0, .rng 1 3⟩ := (all_TEST_COMMAND).1
theorem rws_TEST_COMMAND : isRws Obj.TEST_COMMAND = false := (all_TEST_COMMAND).2.1
theorem copied_TEST_COMMAND : isCopied Obj.TEST_COMMAND = false := (all_TEST_COMMAND).2.2.1
theorem leaves_TEST_COMMAND : leavesValue Obj.TEST_COMMAND = false := (all_TEST_COMMAND).2.2.2

theorem all_RETIRE_CLEAR : rowOf Obj.RETIRE_CLEAR = some ⟨1952, 1, 1, 1, 1, .u8, .wo, 0, .mask 63⟩ ∧ isRws Obj.RETIRE_CLEAR = false ∧
    isCopied Obj.RETIRE_CLEAR = false ∧ leavesValue Obj.RETIRE_CLEAR = false := by decide +kernel
theorem row_RETIRE_CLEAR : rowOf Obj.RETIRE_CLEAR = some ⟨1952, 1, 1, 1, 1, .u8, .wo, 0, .mask 63⟩ := (all_RETIRE_CLEAR).1
theorem rws_RETIRE_CLEAR : isRws Obj.RETIRE_CLEAR = false := (all_RETIRE_CLEAR).2.1
theorem copied_RETIRE_CLEAR : isCopied Obj.RETIRE_CLEAR = false := (all_RETIRE_CLEAR).2.2.1
theorem leaves_RETIRE_CLEAR : leavesValue Obj.RETIRE_CLEAR = false := (all_RETIRE_CLEAR).2.2.2


end Sys2Proof.Machine
end

