-- ==== Sys2Proof/Laws/Writes.lean ====
section
/-! SUPPORT. Laws/Writes.lean: what a write does at its acceptance and as it takes effect: the bytes it travels in, the rows of the command
objects, an accepted write that waits, a write that takes effect on an object without a copy. -/

set_option Elab.async false

namespace Sys2Proof.Machine

/-! ## Bytes -/

@[simp] theorem beBytes_length (n v : Nat) : (beBytes n v).length = n := by
  induction n with
  | zero => rfl
  | succ n ih => simp [beBytes, ih]

theorem ofBe_cons (b : Byte) (l : List Byte) : ofBe (b :: l) = b.toNat * 256 ^ l.length + ofBe l := by
  have h : ∀ (l : List Byte) (a : Nat), l.foldl (fun a b => a * 256 + b.toNat) a = a * 256 ^ l.length + ofBe l := by
    intro l
    induction l with
    | nil => intro a; simp [ofBe]
    | cons c t ih =>
      intro a
      have e : ofBe (c :: t) = c.toNat * 256 ^ t.length + ofBe t := by
        show List.foldl (fun a b => a * 256 + b.toNat) (0 * 256 + c.toNat) t = _
        rw [ih, Nat.zero_mul, Nat.zero_add]
      rw [List.foldl_cons, ih, e, List.length_cons, pow_succ]
      generalize 256 ^ t.length = p
      ring
  show List.foldl (fun a b => a * 256 + b.toNat) (0 * 256 + b.toNat) l = _
  rw [h, Nat.zero_mul, Nat.zero_add]

/-- Bytes read back as the value they were made of. -/
theorem ofBe_beBytes (n v : Nat) : ofBe (beBytes n v) = v % 256 ^ n := by
  induction n with
  | zero => simp [beBytes, ofBe, Nat.mod_one]
  | succ n ih =>
    have e : v >>> (8 * n) = v / 256 ^ n := by
      rw [Nat.shiftRight_eq_div_pow, pow_mul, show (2 : Nat) ^ 8 = 256 from rfl]
    rw [beBytes, ofBe_cons, ih, beBytes_length, BitVec.toNat_ofNat, e, show (2 : Nat) ^ 8 = 256 from rfl,
      show (256 : Nat) ^ (n + 1) = 256 ^ n * 256 from pow_succ _ _, Nat.mod_mul]
    ring

/-! ## Acceptance -/

/-- The command objects that hold their bytes as they come. -/
def ObjType.plain : ObjType → Bool
  | .gain | .pu | .domain _ _ => false
  | _ => true

theorem holdBytes_plain (ty : ObjType) (v : Nat) (h : ty.plain = true) (hv : v < 256 ^ ty.size) :
    holdBytes ty (beBytes ty.size v) = (0, v) := by
  have e : ofBe (beBytes ty.size v) = v := by rw [ofBe_beBytes, Nat.mod_eq_of_lt hv]
  cases ty <;> simp_all [holdBytes, ObjType.plain]

/-- A write accepted at its check: the status is 0 and the value is held as it came. -/
theorem checkWrite_ok (d : Dev) (src : Src) (k v : Nat) (r : ObjRow) (hr : rowOf k = some r) (hp : r.ty.plain = true)
    (hv : v < 256 ^ r.ty.size) (ha : d.rightsStatus src k r.rights = 0) (hc : r.chk.ok r.ty v = true) (ho : d.ownerStatus k v = 0) :
    d.checkWrite src k (beBytes (objSize k) v) = (0, v) := by
  have hs : objSize k = r.ty.size := by simp [objSize, hr]
  unfold Dev.ownerStatus at ho
  simp [Dev.checkWrite, Dev.checkWriteAt, hr, ha, hs, holdBytes_plain r.ty v hp hv, hc, ho]

/-! The conditions of acceptance do not look at what a command starts with. -/

theorem soon_fresh (d : Dev) (b k : Nat) : d.fresh.soon b k = d.soon b k := rfl
theorem soonWith_fresh (d : Dev) (b k v bits_ j : Nat) : d.fresh.soonWith b k v bits_ j = d.soonWith b k v bits_ j := rfl
theorem axisWrite_fresh (d : Dev) (b n off sub k v : Nat) : d.fresh.axisWrite b n off sub k v = d.axisWrite b n off sub k v := by
  unfold Dev.axisWrite; rfl
theorem gfWrite_fresh (d : Dev) (b k v : Nat) : d.fresh.gfWrite b k v = d.gfWrite b k v := by unfold Dev.gfWrite; rfl
theorem acqWrite_fresh (d : Dev) (i sub v : Nat) : d.fresh.acqWrite i sub v = d.acqWrite i sub v := by unfold Dev.acqWrite; rfl
theorem timeWrite_fresh (d : Dev) (b k v : Nat) : d.fresh.timeWrite b k v = d.timeWrite b k v := by unfold Dev.timeWrite; rfl
theorem lifeWrite_fresh (d : Dev) (k v : Nat) : d.fresh.lifeWrite k v = d.lifeWrite k v := by unfold Dev.lifeWrite; rfl
theorem legStatus_fresh (d : Dev) (n v : Nat) : d.fresh.legStatus n v = d.legStatus n v := by unfold Dev.legStatus; rfl
theorem redundancyOk_fresh (d : Dev) (v : Nat) : d.fresh.redundancyOk v = d.redundancyOk v := by unfold Dev.redundancyOk; rfl
theorem accessWrite_fresh (d : Dev) (b k v : Nat) : d.fresh.accessWrite b k v = d.accessWrite b k v := by unfold Dev.accessWrite; rfl
theorem effectAt_fresh (d : Dev) : d.fresh.effectAt = d.effectAt := rfl
theorem ownerAt_fresh (d : Dev) (b k v : Nat) : d.fresh.ownerStatusAt b k v = d.ownerStatusAt b k v := by
  unfold Dev.ownerStatusAt
  simp only [axisWrite_fresh, gfWrite_fresh, acqWrite_fresh, timeWrite_fresh, lifeWrite_fresh, legStatus_fresh, redundancyOk_fresh, accessWrite_fresh, Dev.fresh_state]
  rfl
theorem owner_fresh (d : Dev) (k v : Nat) : d.fresh.ownerStatus k v = d.ownerStatus k v := by
  unfold Dev.ownerStatus
  rw [ownerAt_fresh, effectAt_fresh]

/-- Noting a move touches a generator alone. -/
theorem noteMove_rest (d : Dev) (k v : Nat) : ∃ g, d.noteMove k v = { d with gens := g } := by
  unfold Dev.noteMove
  split
  · exact ⟨d.gens, rfl⟩
  · split
    · exact ⟨_, rfl⟩
    · exact ⟨d.gens, rfl⟩

/-- What a write command of a plain object does when its check is good and nothing takes it at once: it waits, last in the list. -/
theorem command_waits (s : State) (src : Src) (k v : Nat) (r : ObjRow) (hreach : s.dev.reaches src = true) (hr : rowOf k = some r)
    (hp : r.ty.plain = true) (hv : v < 256 ^ r.ty.size) (ha : s.dev.rightsStatus src k r.rights = 0)
    (hc : r.chk.ok r.ty v = true) (ho : s.dev.ownerStatus k v = 0) (h1 : k ≠ Obj.HOST_MODE)
    (h2 : ¬ (k / 256 = 0x611 ∧ s.dev.state = stSafeHold)) (h3 : r.rights ≠ .rws) (h4 : ¬ (k = Obj.STATE_REQUEST ∧ s.dev.ctl.holding = true)) :
    s.command src k v
      = .next { s with dev := (((s.dev.fresh.repairObject k).beginJob src k).noteMove k v).enqueueWrite src k v [] } := by
  have hdom : isDomain k = false := by
    unfold isDomain; rw [hr]; cases h : r.ty <;> simp_all [ObjType.plain, ObjType.isDomain]
  have hrws : isRws k = false := by
    unfold isRws; rw [hr]; simpa using h3
  have hchk : s.dev.fresh.checkWrite src k (beBytes (objSize k) v) = (0, v) :=
    checkWrite_ok s.dev.fresh src k v r hr hp hv ha hc ((owner_fresh _ _ _).trans ho)
  have hre : s.dev.fresh.reaches src = true := by rw [show s.dev.fresh.reaches src = s.dev.reaches src from rfl]; exact hreach
  have hacc : s.dev.fresh.acceptWrite src k v = (0, (((s.dev.fresh.repairObject k).beginJob src k).noteMove k v).enqueueWrite src k v []) := by
    unfold Dev.acceptWrite
    have h2' : ¬ (k / 256 = 0x611 ∧ (s.dev.fresh.repairObject k).state = stSafeHold) := by
      rw [show (s.dev.fresh.repairObject k).state = s.dev.state from rfl]; exact h2
    have h4' : ¬ (k = Obj.STATE_REQUEST ∧ (s.dev.fresh.repairObject k).ctl.holding = true) := h4
    simp only [if_neg h1, if_neg h2', hrws, Bool.false_eq_true, if_false, if_neg h4']
  have hoff : s.dev.fresh.sourceWrite src k (beBytes (objSize k) v)
      = (((s.dev.fresh.repairObject k).beginJob src k).noteMove k v).enqueueWrite src k v [] := by
    unfold Dev.sourceWrite Dev.offer
    simp [hre, hdom, hchk, hacc]
  have hdrop : ((((s.dev.fresh.repairObject k).beginJob src k).noteMove k v).enqueueWrite src k v []).drops = [] := by
    obtain ⟨g, hg⟩ := noteMove_rest ((s.dev.fresh.repairObject k).beginJob src k) k v
    rw [hg]
    unfold Dev.beginJob
    split
    · rfl
    · split <;> rfl
  have hcause : ((((s.dev.fresh.repairObject k).beginJob src k).noteMove k v).enqueueWrite src k v []).ctl.causeReq = none := by
    obtain ⟨g, hg⟩ := noteMove_rest ((s.dev.fresh.repairObject k).beginJob src k) k v
    rw [hg]
    unfold Dev.beginJob
    split
    · rfl
    · split <;> rfl
  unfold State.command State.write State.onDevH State.onDev
  simp only [hoff, holdDecide_none _ hcause, settle_none _ hdrop]

/-- The same, as what a claim says of it. -/
theorem command_queued (s : State) (src : Src) (k v : Nat) (r : ObjRow) (hreach : s.dev.reaches src = true) (hr : rowOf k = some r)
    (hp : r.ty.plain = true) (hv : v < 256 ^ r.ty.size) (ha : s.dev.rightsStatus src k r.rights = 0)
    (hc : r.chk.ok r.ty v = true) (ho : s.dev.ownerStatus k v = 0) (h1 : k ≠ Obj.HOST_MODE)
    (h2 : ¬ (k / 256 = 0x611 ∧ s.dev.state = stSafeHold)) (h3 : r.rights ≠ .rws) (h4 : ¬ (k = Obj.STATE_REQUEST ∧ s.dev.ctl.holding = true)) :
    ∃ t, s.command src k v = .next t ∧ s.Queued t src k v := by
  refine ⟨_, command_waits s src k v r hreach hr hp hv ha hc ho h1 h2 h3 h4, ?_⟩
  obtain ⟨g, hg⟩ := noteMove_rest ((s.dev.fresh.repairObject k).beginJob src k) k v
  rw [hg]
  unfold Dev.beginJob
  split
  · exact ⟨rfl, fun _ => rfl, fun _ => rfl, rfl, rfl⟩
  · split <;> exact ⟨rfl, fun _ => rfl, fun _ => rfl, rfl, rfl⟩

/-- Rights of a command object open to every source: WO or RW of a head outside SAFE-HOLD. -/
theorem rightsStatus_open (s : State) (src : Src) (k : Nat) (rights : Rights) (h : Open s src) (hv : vendorDomain k = false)
    (hs : k / 256 ≠ 0x821) (hr : rights = .wo ∨ rights = .rw) : s.dev.rightsStatus src k rights = 0 := by
  have h2 : s.dev.isHead = true := h.head
  have h3 : s.dev.state ≠ stSafeHold := h.hold
  rcases hr with rfl | rfl <;> simp [Dev.rightsStatus, hv, hs, h2, h3]

/-- Rights of an object written in CONFIG alone. -/
theorem rightsStatus_config (s : State) (src : Src) (k : Nat) (h : Open s src) (hv : vendorDomain k = false)
    (hs : k / 256 ≠ 0x821) (hc : s.dev.state = stConfig) : s.dev.rightsStatus src k .rwc = 0 := by
  have h2 : s.dev.isHead = true := h.head
  simp [Dev.rightsStatus, hv, hs, h2, hc]

/-! ## Taking effect -/

/-- A write of a value no other is bound to takes effect as it is. -/
theorem stillBound_free (d : Dev) (w : QueuedWrite) (h : isBound w.key = false) : d.stillBound w = true := by
  unfold Dev.stillBound; rw [h]; rfl

/-- A write of an object that is neither copied nor a safety parameter and leaves no value is its owner's act alone. -/
theorem after_owner (d : Dev) (m : Mem) (k v : Nat) (h1 : isRws k = false) (h2 : isCopied k = false) (h3 : leavesValue k = false)
    (h4 : isBound k = false) : d.after m k v = ownerEffect (d, m) true k v [] := by
  simp [Dev.after, takeWrite, h1, Dev.stillBound, h4, Dev.copyWrite, h2, applyObject, Dev.leaveValue, h3]

/-- The pair's note of a copied write changes nothing else. -/
theorem copyWrite_eq (d : Dev) (k v : Nat) (data : List Byte) : ∃ p, d.copyWrite k v data = { d with pair := p } := by
  unfold Dev.copyWrite
  split
  · exact ⟨_, rfl⟩
  · exact ⟨d.pair, rfl⟩

/-- A write that leaves no value, copied or not. -/
theorem after_copied (d : Dev) (m : Mem) (k v : Nat) (h1 : isRws k = false) (h3 : leavesValue k = false)
    (h4 : isBound k = false) : ∃ p, d.after m k v = ownerEffect ({ d with pair := p }, m) true k v [] := by
  obtain ⟨p, hp⟩ := copyWrite_eq d k v []
  exact ⟨p, by simp [Dev.after, takeWrite, h1, Dev.stillBound, h4, applyObject, Dev.leaveValue, h3, hp]⟩

/-- A write that leaves its value. -/
theorem after_value (d : Dev) (m : Mem) (k v : Nat) (r : ObjRow) (h1 : isRws k = false) (h3 : leavesValue k = true)
    (hr : rowOf k = some r) (hd : r.ty.isDomain = false) (h4 : isBound k = false) :
    ∃ p, d.after m k v = ownerEffect (Dev.setObj { d with pair := p } k v, m) true k v [] := by
  obtain ⟨p, hp⟩ := copyWrite_eq d k v []
  exact ⟨p, by simp [Dev.after, takeWrite, h1, Dev.stillBound, h4, applyObject, Dev.leaveValue, h3, hp, hr, hd]⟩

end Sys2Proof.Machine
end

