-- ==== Sys2Proof/Tests/Slice0.lean ====
section
/-! SUPPORT. Tests/Slice0.lean: the author's own tests: ill-formed commands refused, worked values of the spec, and for every obligation
with hypotheses a small state and operands that meet them, clause by clause. -/

set_option Elab.async false

namespace Sys2Proof.Tests

open Sys2Proof Sys2Proof.Machine

/-- The reset state with some objects set. -/
def withObjs (l : List (Nat × Nat)) : State :=
  { pending := [], dev := { bootDev with dict := l.foldl (fun m (e : Nat × Nat) => tput m e.1 e.2) bootDev.dict }, mem := { cells := [] } }

/-- A state with its block changed. -/
def on (s : State) (f : Dev → Dev) : State := { s with dev := f s.dev }

/-- The block in a device state. -/
def config : State := withObjs [(Obj.DEVICE_STATE, 1)]
def ready : State := withObjs [(Obj.DEVICE_STATE, 2)]
def run : State := withObjs [(Obj.DEVICE_STATE, 3)]
def service : State := withObjs [(Obj.DEVICE_STATE, 4)]
def hold : State := withObjs [(Obj.DEVICE_STATE, 5)]

/-- The conditions of Open and of Acceptable, as a value. -/
def isOpen (s : State) (src : Src) : Bool := s.dev.reaches src && s.dev.isHead && s.dev.state != stSafeHold
def okWrite (s : State) (k v : Nat) (r : ObjRow) : Bool :=
  (rowOf k == some r) && (r.rights == .wo || r.rights == .rw || (r.rights == .rwc && s.dev.state == stConfig)) && !vendorDomain k
    && k / 256 != 0x821 && !r.ty.isDomain && r.ty != .gain && r.ty != .pu && decide (v < 256 ^ r.ty.size) && r.chk.ok r.ty v
    && s.dev.ownerStatus k v == 0 && k != Obj.HOST_MODE && (k != Obj.STATE_REQUEST || !s.dev.ctl.holding)


theorem test_witness_EveryCarriedCommandIsAnswered :
    (Instr.wf (.hostCsRise) = true) ∧
    (Instr.wf (.discoveryDone 0 true (List.replicate 65 { kind := 0, axes := 0, revision := 0, epoch := 0, east := [], west := [] })) = false) ∧
    (∀ c ∈ ({ ready with pending := [.hostCsRise, .timeStep] } : State).pending, c.wf = true) :=
  by and_intros <;> decide +kernel

theorem test_witness_OnlyRamCommandsTouchTheRam :
    (usesRam .hostCsRise = false) :=
  by decide +kernel

/-- DEVICE_STATE at the host port. -/
def addr0 : HostAddr := { index := 0x110, sub := 0, tag := 0x21 }

theorem test_witness_AMismatchedCheckDoesNothing :
    (ready.dev.hostLive = true ∧ crc32c (addrBytes addr0) ≠ (5 : Check32).toNat ∧ hostPhases (.read addr0 5) = some (0x21, addrBytes addr0, 5)) :=
  by decide +kernel

theorem test_witness_ARequestDuringATransitionIsRejected :
    ((on ready (fun d => { d with ctl := { d.ctl with trans := .toRun } })).dev.ctl.trans ≠ .none) :=
  by decide +kernel

/-- An axis enabled in RUN; fuses being programmed in SERVICE; a context whose domain holds no valid image. -/
def wMoving : State := withObjs [(Obj.DEVICE_STATE, 3), (Obj.AXIS_STATE 0, 2), (Obj.CONFIGURED 0, 1)]
def wFusing : State := on service (fun d => { d with fl := { d.fl with fusing := true } })
def wBadFold : State := withObjs [(Obj.DEVICE_STATE, 1), (Obj.RING_ENABLE, 0), (Obj.CONFIGURED 0, 1), (Obj.CTX_DOMAIN 0, 2)]

theorem test_witness_StateRequestsAskForTheirState :
    (isOpen ready .host = true ∧ ready.dev.ctl.holding = false) ∧
    (ready.dev.ctl.trans = .none ∧ ready.dev.isHead = true ∧ ready.dev.state = stReady) ∧
    ((withObjs [(Obj.DEVICE_STATE, 1), (Obj.RING_ENABLE, 1)]).dev.discoveryComplete = false) ∧
    (wBadFold.dev.state = stConfig ∧ wBadFold.dev.discoveryComplete = true ∧ wBadFold.dev.laneSelftest.readyOk = false) ∧
    ((withObjs [(Obj.DEVICE_STATE, 1), (Obj.RING_ENABLE, 0)]).dev.discoveryComplete = true ∧ (withObjs [(Obj.DEVICE_STATE, 1), (Obj.RING_ENABLE, 0)]).dev.laneSelftest.readyOk = true) ∧
    (run.dev.state = stRun ∧ run.dev.runStopped = true) ∧
    (wMoving.dev.state = stRun ∧ wMoving.dev.runStopped = false) ∧
    (service.dev.state = stService ∧ service.dev.serviceIdle = true) ∧
    (wFusing.dev.state = stService ∧ wFusing.dev.serviceIdle = false) ∧
    (config.dev.state = stConfig ∧ config.dev.isHead = true ∧ config.dev.ctl.holding = false) :=
  by and_intros <;> decide +kernel

def wMode : State := on ready (fun d => { d with acc := { d.acc with modeReq := some 1 } })

theorem test_witness_HostModeWaitsForTheChipSelect :
    (hold.dev.reaches .host = true ∧ (1 : Byte).toNat ≤ 1) ∧
    (wMode.dev.acc.modeReq = some 1 ∧ wMode.dev.hostLive = true) ∧
    (ready.dev.acc.modeReq = none) :=
  by and_intros <;> decide +kernel

/-- A save before its snapshot, with one, and with one beyond 4 MiB. -/
def wImage : ImageCopy := { objs := [(Obj.STALE_ACTION 0, 1)], doms := [], safety := none, safetyCrc := 0, stepping := 0, crcOk := true }
def wSaving : State := on config (fun d => { d with tally := { d.tally with save := some { acceptedAt := 0, safety := false, snap := none } } })
def wSnap : State := on config (fun d => { d with tally := { d.tally with save := some { acceptedAt := 0, safety := false, snap := some wImage } } })

theorem test_witness_SaveRestoreAndTheirEnds :
    (isOpen config .host = true ∧ config.dev.tally.save = none ∧ config.dev.tally.restoring = false ∧ config.dev.state ≠ stRun ∧ config.dev.state = stConfig) ∧
    (wSaving.dev.tally.save = some { acceptedAt := 0, safety := false, snap := none }) ∧
    (wSnap.dev.tally.save = some { acceptedAt := 0, safety := false, snap := some wImage } ∧ wImage.bytes ≤ 4194304) ∧
    ((on config (fun d => { d with tally := { d.tally with restoring := true } })).dev.tally.restoring = true) :=
  by and_intros <;> decide +kernel

/-- A hurdle between two writes, all due. -/
def wWrite (n k : Nat) : QueuedWrite := { src := .host, key := k, val := n, data := [], acceptedAt := 0, seq := n }
def wHurdle : State := on ready (fun d => { d with
  now := 1000000, cyc := { d.cyc with startAt := 1000000 }
  tally := { d.tally with queue := [wWrite 1 Obj.STALE_SERVICE, wWrite 2 Obj.HURDLE, wWrite 3 Obj.COUNTER_SLEW] } })
/-- A hurdle alone; one behind a safety block committed before it. -/
def wAlone : State := on wHurdle (fun d => { d with tally := { d.tally with queue := [wWrite 2 Obj.HURDLE] } })
def wBehind : State := on wHurdle (fun d => { d with
  tally := { d.tally with queue := [wWrite 2 Obj.HURDLE, wWrite 3 Obj.COUNTER_SLEW], committed := [(false, 1, [(Obj.TP_PERIOD, 50)])] } })

theorem test_witness_AHurdleHoldsLaterWritesBack :
    (isOpen ready .host = true) ∧
    (wHurdle.dev.tally.queue = [wWrite 1 Obj.STALE_SERVICE] ++ wWrite 2 Obj.HURDLE :: [wWrite 3 Obj.COUNTER_SLEW] ∧ wHurdle.dev.tally.timed = [] ∧ (∀ w ∈ wHurdle.dev.tally.queue, wHurdle.dev.ripe w = true) ∧ (∀ w ∈ [wWrite 1 Obj.STALE_SERVICE] ++ [wWrite 3 Obj.COUNTER_SLEW], w.key ≠ Obj.HURDLE)) ∧
    (wAlone.dev.tally.queue = [wWrite 2 Obj.HURDLE] ∧ wAlone.dev.tally.timed = [] ∧ wAlone.dev.ripe (wWrite 2 Obj.HURDLE) = true ∧ wAlone.dev.tally.committed = []) ∧
    (wBehind.dev.tally.queue = wWrite 2 Obj.HURDLE :: [wWrite 3 Obj.COUNTER_SLEW] ∧ wBehind.dev.tally.timed = [] ∧ (∀ w ∈ wBehind.dev.tally.queue, wBehind.dev.ripe w = true) ∧ wBehind.dev.tally.committed.any (fun c => c.2.1 < 2) = true) :=
  by and_intros <;> decide +kernel

def wLatchHold : State := withObjs [(Obj.DEVICE_STATE, 5), (Obj.EVENT_LATCH 0, 15), (Obj.OCCURRENCES 1, 9), (Obj.OCCURRENCES 3, 4)]

theorem test_witness_LatchesAreClearedByAWriteOfOne :
    (isOpen ready .host = true) ∧
    (wLatchHold.dev.reaches .host = true ∧ wLatchHold.dev.state = stSafeHold) ∧
    ((6 : BitVec 32).getLsb (1 : Fin 32) = true ∧ (6 : BitVec 32).getLsb (3 : Fin 32) = false) :=
  by and_intros <;> decide +kernel

/-- An open safety session with a pending block, in READY with the Ethernet ports up. -/
def wSession (safety : Bool) : Session :=
  { isOpen := true, safety := safety, ip := 0x0A000001, port := 4000, eth := 0, key := [], seqRx := 5, seqTx := 0, lastValidAt := 0 }
def wSafety : State := on ready (fun d => { d with
  acc := { d.acc with sessions := setAt d.acc.sessions 0 (wSession true) }
  tally := { d.tally with pendingBlock := some [(Obj.TP_PERIOD, 50)] } })

theorem test_witness_SafetyCommitTakesTheBlockOrDiscardsIt :
    (isOpen wSafety (.session 0) = true ∧ wSafety.dev.inSafety (.session 0) = true ∧ wSafety.dev.commitOpen = true ∧ connsOk wSafety.dev.fullBlock = true ∧ stepsOk wSafety.dev.fullBlock = true ∧ lengthsOk wSafety.dev.fullBlock = true) :=
  by decide +kernel

def wRef : State := withObjs [(Obj.DEVICE_STATE, 1), (Obj.REF_ACTIVE, 0), (Obj.PLLT_STATE, 3), (Obj.PLLS_STATE, 3)]

theorem test_witness_TimeBaseWritesTakeEffect :
    (isOpen config .host = true ∧ config.dev.stepInRange (config.dev.comingSteps config.dev.effectAt + (5 : BitVec 32).toInt) = true ∧ config.dev.slaveRuns = false ∧ config.dev.relockingT = false ∧ config.dev.state = stConfig) ∧
    (500000 < absI (wRef.dev.offsetT + (500001 : BitVec 32).toInt)) ∧
    (wRef.dev.servesT = true ∧ wRef.dev.backupAvailable = true ∧ wRef.dev.tb.serdesStopped = false ∧ getAt false wRef.dev.ctl.supplies 1 = true ∧ wRef.dev.tb.stepQ = [] ∧ wRef.dev.tb.tRelock = none ∧ absI (wRef.dev.offsetT + (2000 : BitVec 32).toInt) ≤ 500000 ∧ wRef.dev.stepReady = true ∧ absI (2000 : BitVec 32).toInt ≤ 2000 ∧ absI (wRef.dev.objI 32 Obj.PLLT_DRIFT + (2000 : BitVec 32).toInt) ≤ 200000) ∧
    (absI (wRef.dev.offsetT + (2001 : BitVec 32).toInt) ≤ 500000 ∧ 2000 < absI (2001 : BitVec 32).toInt ∧ wRef.dev.obj Obj.REF_ACTIVE ≠ 0xFF) ∧
    (wRef.dev.obj Obj.REF_ACTIVE ≠ 0xFF ∧ wRef.dev.tb.plsWritten = false) :=
  by and_intros <;> decide +kernel

/-- Axis 0 DISABLED with a group, axis 1 in FAULT whose cause has cleared, axis 2 ENABLED, in RUN. -/
def wAxisRun : State := withObjs [(Obj.DEVICE_STATE, 3), (Obj.CONFIGURED 0, 1), (Obj.AXIS_STATE 0, 1), (Obj.AXIS_GROUP 0, 3),
  (Obj.CONFIGURED 1, 1), (Obj.AXIS_STATE 1, 4), (Obj.FAULT_CAUSE 1, 5), (Obj.CONFIGURED 2, 1), (Obj.AXIS_STATE 2, 2),
  (Obj.MASTER_KIND 2, 1)]

theorem test_witness_AxisCommandsWaitAndAct :
    (isOpen wAxisRun .host = true ∧ wAxisRun.dev.state = stRun ∧ wAxisRun.dev.axisState 0 = 1 ∧ bit (wAxisRun.dev.axis 0).status 7 = false ∧ wAxisRun.dev.obj (Obj.AXIS_GROUP 0) < 32 ∧ wAxisRun.dev.ctl.failedFold ≠ some (wAxisRun.dev.obj (Obj.CTX_FOLD 0))) ∧
    (wAxisRun.dev.axisState 1 = 4 ∧ wAxisRun.dev.causeCleared 1 = true) ∧
    (wAxisRun.dev.axisCondition 0 1 = true) ∧
    (wAxisRun.dev.axisCondition 0 2 = true) ∧
    (wAxisRun.dev.axisCondition 1 3 = true) ∧
    (wAxisRun.dev.axisCondition 0 3 = false) :=
  by and_intros <;> decide +kernel

/-- The loader has found domain 3 good and domain 4 bad. -/
def wCheck : State := on config (fun d => ({ d with
  checks := [{ domain := 3, reason := 0, instr := 0 }, { domain := 4, reason := 5, instr := 9 }] } : Dev).setBlob (Obj.DOMAIN_IMAGE 3)
    (List.replicate 64 7))

theorem test_witness_DomainCommitIsCheckedAndReported :
    (isOpen config .host = true ∧ config.dev.state = stConfig ∧ 2 ≤ (3 : Fin 255).val) ∧
    (wCheck.dev.checks.find? (fun c => c.domain == 3) = some { domain := 3, reason := 0, instr := 0 }) ∧
    (wCheck.dev.checks.find? (fun c => c.domain == 4) = some { domain := 4, reason := 5, instr := 9 }) ∧
    (wCheck.dev.checks.find? (fun c => c.domain == 5) = none) :=
  by and_intros <;> decide +kernel

theorem test_witness_ProfileCommandsAreAcceptedInTheirStates :
    (isOpen wAxisRun .host = true ∧ ((wAxisRun.dev.gen 2).land || wAxisRun.dev.objB Obj.STALE_SERVICE) = false ∧ wAxisRun.dev.axisState 2 = 2 ∧ wAxisRun.dev.obj (Obj.HOME_STATE 2) ≠ 8 ∧ (wAxisRun.dev.gen 2).state = 0 ∧ wAxisRun.dev.obj (Obj.MASTER_KIND 2) ≠ 0 ∧ (wAxisRun.dev.gen 2).gear.blend = false) :=
  by decide +kernel

/-- Generators with a command at their boundary. -/
def wGen1 : State := on (withObjs ([(Obj.DEVICE_STATE, 3), (Obj.CONFIGURED 0, 1), (Obj.AXIS_STATE 0, 2)] ++ [(Obj.LIMIT_ENFORCE 0, 0), (Obj.TARGET 0, 1000), (Obj.TARGET_SPEED 0, 1000000)])) (fun d =>
  { d with gens := upd (fun (g : Gen) => { g with cmd := 1 }) d.gens 0 })
def wGen4 : State := on (withObjs ([(Obj.DEVICE_STATE, 3), (Obj.CONFIGURED 0, 1), (Obj.AXIS_STATE 0, 2)] ++ [])) (fun d =>
  { d with gens := upd (fun (g : Gen) => { g with cmd := 4, state := 2, vel := 1000000000, motion := .move 5 }) d.gens 0 })
def wGen5 : State := on (withObjs ([(Obj.DEVICE_STATE, 3), (Obj.CONFIGURED 0, 1), (Obj.AXIS_STATE 0, 2)] ++ [(Obj.BLEND_LENGTH 0, 0), (Obj.GEAR_NUM 0, 3), (Obj.GEAR_DEN 0, 2), (Obj.MASTER_KIND 0, 1), (Obj.MASTER_INDEX 0, 1)])) (fun d =>
  { d with gens := upd (fun (g : Gen) => { g with cmd := 5 }) d.gens 0 })
def wGen6 : State := on (withObjs ([(Obj.DEVICE_STATE, 3), (Obj.CONFIGURED 0, 1), (Obj.AXIS_STATE 0, 2)] ++ [(Obj.HOME_METHOD 0, 1), (Obj.LIMIT_NEG_SRC 0, 0x20), (Obj.HOMED 0, 1)])) (fun d =>
  { d with gens := upd (fun (g : Gen) => { g with cmd := 6 }) d.gens 0 })
def wGen7 : State := on (withObjs ([(Obj.DEVICE_STATE, 3), (Obj.CONFIGURED 0, 1), (Obj.AXIS_STATE 0, 2)] ++ [(Obj.HOME_STATE 0, 8), (Obj.HOMED 0, 1)])) (fun d =>
  { d with gens := upd (fun (g : Gen) => { g with cmd := 7 }) d.gens 0 })

theorem test_witness_ProfileCommandsStartTheirMotion :
    ((wGen1.dev.gen 0).cmd = 1 ∧ wGen1.dev.obj (Obj.HOME_STATE 0) ≠ 8 ∧ (wGen1.dev.objB (Obj.LIMIT_ENFORCE 0) = false ∧ (wGen1.dev.gen 0).vel = 0 ∧ (wGen1.dev.gen 0).motion ≠ .dwell ∧ (wGen1.dev.gen 0).state ≠ 6 ∧ (wGen1.dev.gen 0).home.phase = 0 ∧ (wGen1.dev.gen 0).restDir = 0) ∧ speedUnits (wGen1.dev.objI 32 (Obj.TARGET_SPEED 0)) ≠ 0) ∧
    (((on wGen1 (fun d => { d with gens := upd (fun (g : Gen) => { g with cmd := 2 }) d.gens 0 })).dev.gen 0).cmd = 2) ∧
    (((on wGen1 (fun d => { d with gens := upd (fun (g : Gen) => { g with cmd := 3 }) d.gens 0 })).dev.gen 0).cmd = 3) ∧
    ((wGen4.dev.gen 0).cmd = 4 ∧ (wGen4.dev.gen 0).state ∈ [1, 2, 3, 4] ∧ (wGen4.dev.gen 0).vel ≠ 0 ∧ (wGen4.dev.gen 0).home.phase = 0) ∧
    ((wGen5.dev.gen 0).cmd = 5 ∧ (wGen5.dev.gen 0).state = 0 ∧ wGen5.dev.obj (Obj.BLEND_LENGTH 0) = 0 ∧ wGen5.dev.obj (Obj.MASTER_INDEX 0) < 128) ∧
    ((wGen6.dev.gen 0).cmd = 6 ∧ (wGen6.dev.gen 0).state = 0 ∧ 1 ≤ wGen6.dev.obj (Obj.HOME_METHOD 0) ∧ wGen6.dev.obj (Obj.HOME_METHOD 0) ≤ 4 ∧ getAt 0xFF [wGen6.dev.obj (Obj.LIMIT_NEG_SRC 0), wGen6.dev.obj (Obj.LIMIT_POS_SRC 0), wGen6.dev.obj (Obj.HOME_SRC 0)] (homeSwitch 1) ≠ 0xFF ∧ (getAt idleSwitch (wGen6.dev.gen 0).switches (homeSwitch 1)).level = false) ∧
    ((wGen7.dev.gen 0).cmd = 7 ∧ wGen7.dev.obj (Obj.HOME_STATE 0) ∈ [7, 8]) :=
  by and_intros <;> decide +kernel

def wTick : State := on wGen4 (fun d => { d with tb := { d.tb with running := true, ns := 999999900 } })
def wStep : State := on config (fun d => { d with tb := { d.tb with stepReq := some 5000000007 } })

theorem test_witness_TicksMoveTimeAndGenerators :
    (wTick.dev.tb.running = true ∧ wTick.dev.state ∈ [stReady, stRun, stService] ∧ wTick.dev.isHead = true ∧ (wTick.dev.gen 0).busy = true ∧ (wTick.dev.gen 0).home.phase = 0 ∧ (wTick.dev.gen 0).motion ≠ .dwell ∧ (wTick.dev.gen 1).busy = false) ∧
    (ready.dev.tb.running = false) ∧
    (let c : GenCfg := ready.dev.genCfg 0; 0 ≤ c.vs ∧ c.vs ≤ c.vmax ∧ 0 ≤ c.ve ∧ 0 ≤ c.vb ∧ 0 ≤ c.d1 ∧ 0 ≤ c.d2 ∧ absI initGen.vel ≤ c.vmax) ∧
    (wStep.dev.state = stConfig ∧ wStep.dev.cyc.startAt = wStep.dev.now ∧ wStep.dev.tb.stepReq = some 5000000007) ∧
    (run.dev.state ≠ stConfig ∧ run.dev.state ≠ stReady) :=
  by and_intros <;> decide +kernel

def wDwell : State := on (withObjs ([(Obj.DEVICE_STATE, 3), (Obj.CONFIGURED 0, 1), (Obj.AXIS_STATE 0, 2)] ++ [])) (fun d =>
  { d with now := 1000000000, gens := upd (fun (g : Gen) => { g with motion := .dwell, vel := 0, switches := setAt g.switches 2 { level := false, runLevel := true, run := 65535, runPos := 42, locked := false, lockedAt := 0 } }) d.gens 0 })
def wDwell2 : State := on (withObjs ([(Obj.DEVICE_STATE, 3), (Obj.CONFIGURED 0, 1), (Obj.AXIS_STATE 0, 2)] ++ [(Obj.LIMIT_ENFORCE 0, 0)])) (fun d =>
  { d with now := 1000000000, gens := upd (fun (g : Gen) => { g with motion := .dwell, pending := .move 9, switches := setAt g.switches 2 { level := false, runLevel := true, run := 65535, runPos := 42, locked := false, lockedAt := 0 } }) d.gens 0 })
def wLand : State := on (withObjs ([(Obj.DEVICE_STATE, 3), (Obj.CONFIGURED 0, 1), (Obj.AXIS_STATE 0, 2)] ++ [])) (fun d =>
  { d with now := 1000000000, gens := upd (fun (g : Gen) => { g with land := true, switches := setAt g.switches 2 { level := false, runLevel := true, run := 65535, runPos := 42, locked := false, lockedAt := 0 } }) d.gens 0 })
def wSwitch : State := on (withObjs ([(Obj.DEVICE_STATE, 3), (Obj.CONFIGURED 0, 1), (Obj.AXIS_STATE 0, 2)] ++ [])) (fun d =>
  { d with now := 1000000000, gens := upd (fun (g : Gen) => { g with cmd := 0, switches := setAt g.switches 2 { level := false, runLevel := true, run := 65535, runPos := 42, locked := false, lockedAt := 0 } }) d.gens 0 })
def wSwitch3 : State := on (withObjs ([(Obj.DEVICE_STATE, 3), (Obj.CONFIGURED 0, 1), (Obj.AXIS_STATE 0, 2)] ++ [])) (fun d =>
  { d with now := 1000000000, gens := upd (fun (g : Gen) => { g with home := { g.home with phase := 3, method := 3 }, switches := setAt g.switches 2 { level := false, runLevel := true, run := 65535, runPos := 42, locked := false, lockedAt := 0 } }) d.gens 0 })
def wLocked : State := on (withObjs ([(Obj.DEVICE_STATE, 3), (Obj.CONFIGURED 0, 1), (Obj.AXIS_STATE 0, 2)] ++ [])) (fun d =>
  { d with now := 1000000000, gens := upd (fun (g : Gen) => { g with cmd := 0, switches := setAt g.switches 2 { level := true, runLevel := true, run := 5, runPos := 42, locked := true, lockedAt := 0 } }) d.gens 0 })

theorem test_witness_GeneratorEventsActOnTheirAxis :
    ((wDwell.dev.gen 0).motion = .dwell ∧ (wDwell.dev.gen 0).dwell = 0 ∧ (wDwell.dev.gen 0).home.phase = 0 ∧ (wDwell.dev.gen 0).pending = .none) ∧
    ((wDwell2.dev.gen 0).motion = .dwell ∧ (wDwell2.dev.gen 0).pending ≠ .speed 0 ∧ wDwell2.dev.objB (Obj.LIMIT_ENFORCE 0) = false ∧ (wDwell2.dev.gen 0).dwell = 0 ∧ (wDwell2.dev.gen 0).home.phase = 0 ∧ (wDwell2.dev.gen 0).pending ≠ .none) ∧
    ((wGen1.dev.gen 0).motion ≠ .dwell) ∧
    ((wLand.dev.gen 0).land = true ∧ (wLand.dev.gen 0).state = 0 ∧ (wLand.dev.gen 0).landFrom + wLand.dev.obj (Obj.LAND_WAIT 0) * 1000000 ≤ wLand.dev.now) ∧
    ((wGen1.dev.gen 0).land = false) ∧
    (let sw := getAt idleSwitch (wSwitch.dev.gen 0).switches 2; sw.locked = false ∧ sw.runLevel ≠ sw.level ∧ wSwitch.dev.qualCount 0 ≤ sw.run) ∧
    ((wSwitch3.dev.gen 0).home.phase = 3 ∧ (wSwitch3.dev.gen 0).home.method ∈ [3, 4] ∧ wSwitch3.dev.qualCount 0 ≤ 65535) ∧
    ((getAt idleSwitch (wGen1.dev.gen 0).switches 2).runLevel = (getAt idleSwitch (wGen1.dev.gen 0).switches 2).level) ∧
    ((getAt idleSwitch (wLocked.dev.gen 0).switches 2).locked = true ∧ (getAt idleSwitch (wLocked.dev.gen 0).switches 2).lockedAt + wLocked.dev.obj (Obj.LOCKOUT 0) * 1000000 ≤ wLocked.dev.now) ∧
    ((getAt idleSwitch (wGen1.dev.gen 0).switches 2).locked = false) :=
  by and_intros <;> decide +kernel

def wPulse (mode : Nat) : State := withObjs [(Obj.DEVICE_STATE, 2), (Obj.PI_MODE 0, mode)]
def wZ : State := on (withObjs [(Obj.DEVICE_STATE, 3), (Obj.PI_MODE 0, 1), (Obj.INDEX_SOURCE 0, 0x20)]) (fun d =>
  { d with gens := upd (fun (g : Gen) => { g with home := { g.home with phase := 4 } }) d.gens 0 })

theorem test_witness_PulseInputsCountAndStamp :
    ((wPulse 1).dev.obj (Obj.PI_MODE 0) = 1) ∧
    ((wPulse 2).dev.obj (Obj.PI_MODE 0) = 2) ∧
    ((wPulse 3).dev.obj (Obj.PI_MODE 0) = 3) ∧
    ((wPulse 0).dev.obj (Obj.PI_MODE 0) = 0) ∧
    ((((true != bit (wZ.dev.obj (Obj.PI_INVERT 0)) 2) != (getAt idlePulseIn wZ.dev.pulseIn 0).z) && wZ.dev.obj (Obj.PI_MODE 0) != 0) = true ∧ wZ.dev.obj (Obj.INDEX_SOURCE 0) = 0x20 ∧ (wZ.dev.gen 0).home.phase = 4) ∧
    ((((false != bit (wZ.dev.obj (Obj.PI_INVERT 0)) 2) != (getAt idlePulseIn wZ.dev.pulseIn 0).z) && wZ.dev.obj (Obj.PI_MODE 0) != 0) = false) :=
  by and_intros <;> decide +kernel

/-- A grid-former in RUN, in a GF_STATE, with some objects and its own state set, 100 s after reset. -/
def wGf (st : Nat) (l : List (Nat × Nat)) (f : Dev → Grid) : State :=
  on (withObjs ([(Obj.DEVICE_STATE, 3), (Obj.GF_ENABLE, 1), (Obj.GF_STATE, st), (Obj.GF_SENSE_USE, 0xFFF), (Obj.GF_VDC_START_MIN, 0)] ++ l))
    (fun d => { d with gf := f d, now := 100000000000 })
def wLive : State := wGf 0 [] (fun d => { d.gf with ownAmp := d.pu Obj.GF_U_V_MIN, ownFreq := d.pu Obj.GF_U_F_MIN * 16777216 })

def s1 : State := wGf 6 [(Obj.GF_TRIP_CAUSE, 4)] (fun d => d.gf)
def s2 : State := wGf 4 [(Obj.GF_TIE, 1)] (fun d => d.gf)
def s3 : State := wGf 2 [(Obj.GF_TIE, 1)] (fun d => d.gf)

theorem test_witness_GridFormerCommandsAct :
    (isOpen (wGf 0 [] (fun d => d.gf)) .host = true ∧ ((wGf 0 [] (fun d => d.gf)).dev.gfState = 0 ∧ (wGf 0 [] (fun d => d.gf)).dev.state = stRun ∧ (wGf 0 [] (fun d => d.gf)).dev.objB Obj.GF_ENABLE = true ∧ ((wGf 0 [] (fun d => d.gf)).dev.obj Obj.GF_VDC_START_MIN : Int) ≤ (wGf 0 [] (fun d => d.gf)).dev.gfVdc) ∧ (wGf 0 [] (fun d => d.gf)).dev.objB Obj.GF_TIE = false ∧ (wGf 0 [] (fun d => d.gf)).dev.gf.ownAmp < 419430 ∧ (wGf 0 [] (fun d => d.gf)).dev.objB Obj.STALE_SERVICE = false) ∧
    ((wLive.dev.gfState = 0 ∧ wLive.dev.state = stRun ∧ wLive.dev.objB Obj.GF_ENABLE = true ∧ (wLive.dev.obj Obj.GF_VDC_START_MIN : Int) ≤ wLive.dev.gfVdc) ∧ wLive.dev.ownInWindow = true) ∧
    ((wGf 2 [] (fun d => d.gf)).dev.gfState = 2 ∧ (wGf 2 [] (fun d => d.gf)).dev.objB Obj.GF_TIE = false ∧ (wGf 2 [] (fun d => d.gf)).dev.gfOwns 10 = true ∧ (wGf 2 [] (fun d => d.gf)).dev.gfOwns 11 = true) ∧
    ((wGf 3 [] (fun d => d.gf)).dev.gfState = 3) ∧
    (s1.dev.gfState = 6 ∧ s1.dev.gfCausePresent (s1.dev.obj Obj.GF_TRIP_CAUSE) = false) ∧
    ((wGf 0 [] (fun d => d.gf)).dev.gfCondition 1 = true) ∧
    (wLive.dev.gfCondition 2 = true) ∧
    ((wGf 2 [] (fun d => d.gf)).dev.gfCondition 3 = true) ∧
    ((wGf 3 [] (fun d => d.gf)).dev.gfCondition 4 = true) ∧
    ((wGf 4 [] (fun d => d.gf)).dev.gfCondition 5 = true) ∧
    (s1.dev.gfCondition 6 = true) ∧
    ((wGf 5 [] (fun d => d.gf)).dev.gfCondition 1 = false) ∧
    ((wGf 1 [] (fun d => d.gf)).dev.obj Obj.GF_TIE = 0 ∧ (wGf 1 [] (fun d => d.gf)).dev.gfState = 1) ∧
    ((wGf 2 [] (fun d => d.gf)).dev.obj Obj.GF_TIE = 0 ∧ (wGf 2 [] (fun d => d.gf)).dev.gfState = 2) ∧
    ((wGf 3 [] (fun d => d.gf)).dev.obj Obj.GF_TIE = 0 ∧ (wGf 3 [] (fun d => d.gf)).dev.gfState = 3) ∧
    ((wGf 4 [] (fun d => d.gf)).dev.obj Obj.GF_TIE = 0 ∧ (wGf 4 [] (fun d => d.gf)).dev.gfState = 4) ∧
    ((wGf 0 [] (fun d => d.gf)).dev.obj Obj.GF_TIE = 0 ∧ (wGf 0 [] (fun d => d.gf)).dev.gfState = 0) ∧
    ((wGf 5 [] (fun d => d.gf)).dev.obj Obj.GF_TIE = 0 ∧ (wGf 5 [] (fun d => d.gf)).dev.gfState = 5) ∧
    (s2.dev.obj Obj.GF_TIE = 1 ∧ s2.dev.gfState = 4) ∧
    (s3.dev.obj Obj.GF_TIE = 1 ∧ s3.dev.gfState = 2) :=
  by and_intros <;> decide +kernel

def s4 : State := wGf 1 [] (fun d => { d.gf with settleFrom := some 5 })
def s5 : State := wGf 1 [] (fun d => { d.gf with stallNs := 100000000000 })
def s6 : State := wGf 2 [] (fun d => { d.gf with limitedAt := some 5, limitingFrom := some 3, flags := 4 })
def s7 : State := wGf 3 [] (fun d => { d.gf with syncFrom := some 5 })
def s8 : State := wGf 3 [(Obj.GF_SC_UTIL_TIME, 60)] (fun d => { d.gf with utilFrom := some 5 })
def s9 : State := wGf 4 [] (fun d => { d.gf with lostFrom := some 5 })
def s10 : State := wGf 4 [] (fun d => { d.gf with rtFrom := [some 5, none, none, none] })
def s11 : State := wGf 5 [] (fun d => { d.gf with unload := true, eRamp := 5 })

theorem test_witness_GridFormerEventsFollowTheirTimers :
    (s4.dev.gf.settleFrom = some 5 ∧ s4.dev.gfState = 1 ∧ 5 + s4.dev.obj Obj.GF_BS_SETTLE * 1000000 ≤ s4.dev.now) ∧
    (s5.dev.gfState = 1 ∧ s5.dev.obj Obj.GF_BS_STALL_MAX * 1000000 < s5.dev.gf.stallNs) ∧
    ((wGf 2 [] (fun d => d.gf)).dev.gfState ≠ 1) ∧
    (s6.dev.gf.limitedAt = some 5 ∧ s6.dev.gfState ≠ 1 ∧ 5 + s6.dev.obj Obj.GF_RT_RELEASE * 1000000 ≤ s6.dev.now) ∧
    (s7.dev.gf.syncFrom = some 5 ∧ s7.dev.gfState = 3 ∧ s7.dev.gf.permit = false ∧ 5 + s7.dev.obj Obj.GF_SC_TIME * 1000000 ≤ s7.dev.now) ∧
    (s8.dev.gf.utilFrom = some 5 ∧ s8.dev.gf.utilOkRaised = false ∧ 5 + s8.dev.obj Obj.GF_SC_UTIL_TIME * 1000000000 ≤ s8.dev.now) ∧
    (s9.dev.gfState = 4 ∧ s9.dev.gf.tieOpen = false ∧ s9.dev.gf.lostFrom = some 5 ∧ 5 + 100000000 ≤ s9.dev.now) ∧
    (s10.dev.gfState = 4 ∧ s10.dev.gf.tieOpen = false ∧ s10.dev.rtViolated ≠ none) ∧
    ((wGf 3 [] (fun d => d.gf)).dev.gfState ≠ 4) ∧
    ((wGf 5 [] (fun d => d.gf)).dev.gfState = 5 ∧ (wGf 5 [] (fun d => d.gf)).dev.gf.unload = false ∧ (wGf 5 [] (fun d => d.gf)).dev.gf.eRamp = 0) ∧
    (s11.dev.gfState = 5 ∧ s11.dev.gf.unload = true ∧ s11.dev.gf.stopFrom + 2 * (s11.dev.obj Obj.GF_BS_RAMP_TIME * 1000000) ≤ s11.dev.now) ∧
    ((wGf 4 [] (fun d => d.gf)).dev.gfState ≠ 5) :=
  by and_intros <;> decide +kernel

def s12 : State := wGf 2 [] (fun d => { d.gf with dcLowFrom := some 5 })
def s13 : State := wGf 2 [] (fun d => { d.gf with dcHighFrom := some 5 })
def s14 : State := wGf 2 [] (fun d => { d.gf with isum := 3 })
def s15 : State := wGf 2 [(Obj.CONFIGURED 128, 1), (Obj.GF_MISS_LIMIT, 1)] (fun d => d.gf)
def s16 : State := wGf 2 [] (fun d => { d.gf with limitingFrom := some 5 })

theorem test_witness_GridFormerTripsOpenEveryLeg :
    (s12.dev.gfState = 2 ∧ s12.dev.gf.dcLowFrom = some 5 ∧ 5 + 10000000 ≤ s12.dev.now) ∧
    (s13.dev.gfState ≠ gfOff ∧ s13.dev.gfState ≠ gfTripped ∧ s13.dev.gf.dcHighFrom = some 5 ∧ 5 + 1000000 ≤ s13.dev.now) ∧
    (s14.dev.gfState ≠ gfOff ∧ s14.dev.gfState ≠ gfTripped ∧ 3 ≤ s14.dev.gf.isum) ∧
    ((on s15 (fun d => { d with cyc := { d.cyc with dispatched := false } })).dev.gfState ≠ gfOff ∧ (on s15 (fun d => { d with cyc := { d.cyc with dispatched := false } })).dev.gfState ≠ gfTripped ∧ (on s15 (fun d => { d with cyc := { d.cyc with dispatched := false } })).dev.computes 128 = true ∧ ((on s15 (fun d => { d with cyc := { d.cyc with dispatched := false } })).dev.axis 128).work.full ≠ 3 ∧ (on s15 (fun d => { d with cyc := { d.cyc with dispatched := false } })).dev.cyc.dispatched = false ∧ (on s15 (fun d => { d with cyc := { d.cyc with dispatched := false } })).dev.obj Obj.GF_MISS_LIMIT ≤ ((on s15 (fun d => { d with cyc := { d.cyc with dispatched := false } })).dev.axis 128).miss + 1) ∧
    (s16.dev.gfState ≠ gfOff ∧ s16.dev.gfState ≠ gfTripped ∧ s16.dev.gf.limitingFrom = some 5 ∧ 5 + s16.dev.obj Obj.GF_LIMIT_MAX * 1000000 < s16.dev.now) ∧
    ((wGf 0 [] (fun d => d.gf)).dev.gfState = 0) ∧
    ((wGf 6 [] (fun d => d.gf)).dev.gfState = 6) :=
  by and_intros <;> decide +kernel

/-- Leg port 0 enabled in RUN, its LEG_STATE and its own state as given. -/
def wLeg (st : Nat) (l : List (Nat × Nat)) (f : LegPort → LegPort) : State :=
  on (withObjs ([(Obj.DEVICE_STATE, 3), (Obj.LINK_ENABLE 0, 1), (Obj.SELFTEST_IN_RUN 0, 1), (Obj.LEG_STATE 0, st)] ++ l))
    (fun d => { d with now := 1000000, legs := upd f d.legs 0, tb := { d.tb with ns := 1000000 } })

def s17 : State := wLeg 2 [] (fun l => { l with linked := true })
def s18 : State := wLeg 0 [] (fun l => { l with linked := true })
def s19 : State := wLeg 3 [] (fun l => { l with linked := true })
def s20 : State := wLeg 5 [] (fun l => { l with linked := true })
def s21 : State := wLeg 1 [] (fun l => { l with starting := true })
def s22 : State := on (wLeg 1 [] (fun l => { l with starting := true })) (fun d => { d with now := 5000000 })
def s23 : State := on (wLeg 1 [] (fun l => { l with starting := true })) (fun d => { d with now := 4999999 })
def s24 : State := wLeg 1 [] (fun l => { l with discard := true, starting := true })
def s25 : State := wLeg 6 [] (fun l => { l with lost := true })
def s26 : State := wLeg 6 [] (fun l => { l with lost := true, silentTo := 1000001 })

theorem test_witness_LegCommandsAndLinksFollowTheirPort :
    (isOpen (wLeg 0 [] (fun l => l)) .host = true ∧ (wLeg 0 [] (fun l => l)).dev.legState 0 ∈ [0, 4, 5] ∧ (wLeg 0 [] (fun l => l)).dev.fastClear 0 = true) ∧
    (s17.dev.testEligible 0 = true) ∧
    (s18.dev.legState 0 ∈ [0, 4, 5] ∧ s18.dev.fastClear 0 = true ∧ s18.dev.legSends 0 = true) ∧
    (s17.dev.testEligible 0 = true ∧ (s17.dev.leg 0).linked = true ∧ (s17.dev.leg 0).queue = [] ∧ (s17.dev.leg 0).state = 0 ∧ (s17.dev.leg 0).test = none ∧ s17.dev.legState 0 ∈ [0, 2, 4, 5]) ∧
    (s20.dev.objB (Obj.LINK_ENABLE 0) = true ∧ s20.dev.cycling = true) ∧
    ((s21.dev.leg 0).starting = true) ∧
    ((s22.dev.leg 0).starting = true ∧ (s22.dev.leg 0).startAt + 5000000 ≤ s22.dev.now) ∧
    ((s23.dev.leg 0).starting = true ∧ s23.dev.now < (s23.dev.leg 0).startAt + 5000000) ∧
    ((s24.dev.leg 0).discard = true ∧ (s24.dev.leg 0).starting = true) ∧
    (s19.dev.objB (Obj.LINK_ENABLE 0) = true ∧ (s19.dev.leg 0).lost = false ∧ s19.dev.cycling = true ∧ s19.dev.legSends 0 = true) ∧
    ((s25.dev.leg 0).lost = true ∧ (s25.dev.leg 0).silentTo ≤ s25.dev.now ∧ s25.dev.objB (Obj.LINK_ENABLE 0) = true ∧ s25.dev.cycling = true) ∧
    ((s26.dev.leg 0).lost = true ∧ s26.dev.now < (s26.dev.leg 0).silentTo) :=
  by and_intros <;> decide +kernel

def s27 : State := wLeg 4 [] (fun l => { l with clearing := true, discard := true })

theorem test_witness_TelRecordsDecideTheirPort :
    (ready.dev.objB (Obj.LINK_ENABLE 16) = false) ∧
    ((wLeg 2 [] (fun l => l)).dev.cycling = true ∧ (wLeg 2 [] (fun l => l)).dev.objB (Obj.LINK_ENABLE 0) = true ∧ legCrc ((5 : BitVec 56).toNat / 256) ≠ (5 : BitVec 56).toNat % 256) ∧
    (let w := (BitVec.ofNat 56 (256 * (1) + legCrc (1))).toNat; legCrc (w / 256) = w % 256 ∧ bits w 41 39 = 0 ∧ bit w 51 = false ∧ bit w 37 = false ∧ (s27.dev.leg 0).clearing = true) ∧
    (let w := (BitVec.ofNat 56 (256 * (2 ^ 43 + 5 * 2 ^ 40) + legCrc (2 ^ 43 + 5 * 2 ^ 40))).toNat; legCrc (w / 256) = w % 256 ∧ bits w 41 39 = 0 ∧ bit w 51 = true ∧ (wLeg 3 [] (fun l => l)).dev.legState 0 ∈ [2, 3] ∧ ((wLeg 3 [] (fun l => l)).dev.leg 0).clearing = false) ∧
    (((wLeg 3 [] (fun l => l)).dev.leg 0).clearing = false ∧ bit (BitVec.ofNat 56 (256 * (1) + legCrc (1))).toNat 51 = false) ∧
    (let w := (BitVec.ofNat 56 (256 * (2 ^ 32) + legCrc (2 ^ 32))).toNat; legCrc (w / 256) = w % 256 ∧ bits w 41 39 ≠ 0 ∧ bit w 51 = false) :=
  by and_intros <;> decide +kernel

def s28 : State := wLeg 3 [] (fun l => { l with linked := true, queue := [{ state := 1, at16 := 16 * 1020001 }] })
def s29 : State := wLeg 3 [] (fun l => { l with linked := true, queue := [{ state := 1, at16 := 16 * 1020000 }] })
def s30 : State := wLeg 3 [] (fun l => { l with linked := true, queue := [{ state := 1, at16 := 16 * 1002000 }] })
def s31 : State := wLeg 3 [(Obj.GF_ENABLE, 1), (Obj.HB_PORT 0, 0), (Obj.QUEUE_DRY 0, 1000)] (fun l => { l with linked := true })
def s32 : State := wLeg 3 [(Obj.LINK_ENABLE 0, 0)] (fun l => l)
def s33 : State := wLeg 3 [] (fun l => { l with linked := true, starting := true })
def s34 : State := wLeg 3 [(Obj.GF_ENABLE, 1), (Obj.HB_PORT 0, 0), (Obj.QUEUE_DRY 0, 1000)] (fun l => { l with linked := true, lastAt16 := 16 * 1010000 + 5 })
def s35 : State := wLeg 7 [] (fun l => { l with linked := true, test := some 5, testFrom := 2 })
def s36 : State := wLeg 3 [(Obj.SENSE_STATUS 0, 2), (Obj.SENSE_ENABLE 0, 1), (Obj.FAST_ENABLE 0, 1), (Obj.FAST_MAP 0, 1)] (fun l => { l with linked := true })
def s37 : State := on ready (fun d => { d with senses := setAt d.senses 0 { sh := 0, n := 70, run := 64 } })

theorem test_witness_LegRecordsAndTripsAreSent :
    ((s28.dev.leg 0).queue = { state := 1, at16 := 16 * 1020001 } :: [] ∧ s28.dev.timeNs 0 + 20000 < 16 * 1020001 / 16) ∧
    (16 * 1020000 / 16 ≤ s29.dev.timeNs 0 + 20000 ∧ s29.dev.timeNs 0 + 2000 ≤ 16 * 1020000 / 16 ∧ (s29.dev.leg 0).discard = false ∧ s29.dev.legSends 0 = true ∧ s29.dev.state = stRun ∧ s29.dev.isHead = true) ∧
    (16 * 1002000 / 16 ≤ s30.dev.timeNs 0 + 20000 ∧ s30.dev.timeNs 0 + 2000 ≤ 16 * 1002000 / 16 ∧ (s30.dev.leg 0).discard = false ∧ s30.dev.legSends 0 = true ∧ s30.dev.state = stRun ∧ s30.dev.isHead = true) ∧
    (s31.dev.state = stRun ∧ s31.dev.isHead = true ∧ (s31.dev.leg 0).discard = false ∧ s31.dev.slotOf 0 ≠ none ∧ s31.dev.legSends 0 = true ∧ (s31.dev.leg 0).sentAt + s31.dev.obj (Obj.QUEUE_DRY 0) / 2 ≤ s31.dev.now ∧ (s31.dev.leg 0).queue = [] ∧ (s31.dev.leg 0).lastAt16 ≤ 16 * (s31.dev.timeNs 0 + 20000)) ∧
    (s19.dev.legSends 0 = true ∧ (s19.dev.leg 0).starting = false) ∧
    (s32.dev.legSends 0 = false) ∧
    ((s33.dev.leg 0).starting = true) ∧
    ((s34.dev.leg 0).lastAt16 ≤ 16 * (s34.dev.timeNs 0 + 20000)) ∧
    ((s35.dev.leg 0).test ≠ none) ∧
    (s17.dev.state = stRun ∧ s17.dev.testEligible 0 = true ∧ (s17.dev.leg 0).linked = true ∧ (s17.dev.leg 0).queue = [] ∧ (s17.dev.leg 0).state = 0 ∧ (s17.dev.leg 0).test = none ∧ s17.dev.legState 0 ∈ [0, 2, 4, 5]) ∧
    (0 ∈ s36.dev.fastLegs s36.dev.fastPorts ∧ s36.dev.legState 0 ≠ 4 ∧ s36.dev.legSends 0 = true) ∧
    ((wLeg 3 [] (fun l => l)).dev.fastPorts = []) ∧
    (64 ≤ (getAt emptySense s37.dev.senses 0).run ∧ bit (s37.dev.obj (Obj.SENSE_STATUS 0)) 0 = false) :=
  by and_intros <;> decide +kernel

/-- SERVICE with the supply for fusing, lane 1 of fold 0 retired with good runs, a macro chosen for the tests. -/
def wServ : State := on (withObjs [(Obj.DEVICE_STATE, 4), (Obj.LANE_STATE 0 1, 3), (Obj.TEST_DATA, 0x5A), (Obj.TEST_CHECK, 0x0F)]) (fun d =>
  let d := d.updWear 0 1 (fun x => { x with sound := true, goodRuns := 2 })
  { d with ctl := { d.ctl with supplies := List.replicate 8 true } })
/-- A recorder with a size and a channel, in a REC_STATE. -/
def wRec (st : Nat) (f : Recorder → Recorder) : State :=
  on (withObjs [(Obj.DEVICE_STATE, 3), (Obj.REC_SIZE 0, 64), (Obj.REC_CHANNELS 0, 1), (Obj.CH_SOURCE 0, 0x01000000), (Obj.REC_STATE 0, st),
    (Obj.REC_MODE 0, 8)]) (fun d => ({ d with now := 5000000, tb := { d.tb with ns := 5000000 } } : Dev).updRec 0 f)
def wUnit : State :=
  on (withObjs [(Obj.DEVICE_STATE, 3), (Obj.TRG_TYPE 0, 5), (Obj.W_MAX 0, 100)]) (fun d => { d with
    acq := { d.acq with units := upd (fun u => { u with running := true, last := some (5000, 0), ref := 1000, fired := false }) d.acq.units 0 } })
def wFire : RingMessage := { dest := 0, src := 1, msgType := 7, seq := 1, epochLow := 0, payload := [0xA2, 0, 0, 0, 0, 0, 0, 1, 0, 0, 0, 5, 0, 0, 0, 0], crc := 0 }
def wFireGood : RingMessage := { wFire with crc := BitVec.ofNat 32 (crc32 (messageBytes wFire)) }
def wSeal (n : Nat) : State := on run (fun d => { d with now := 100, acq := { d.acq with
  seals := [{ recorder := 0, image := [1, 2], running := true, readTo := 50 }], sealed := List.replicate n (7, 8, [9]) } })

def s38 : State := wRec 1 (fun x => { x with holds := true })
def s39 : State := wRec 2 (fun x => { x with holds := true })
def s40 : State := wRec 1 (fun x => { x with holds := true, window := none })

theorem test_witness_RecorderCommandsFollowRecState :
    (isOpen (wRec 0 (fun x => x)) .host = true ∧ (wRec 0 (fun x => x)).dev.armStatus 0 = 0) ∧
    ((wRec 1 (fun x => x)).dev.recState 0 = 1) ∧
    ((wRec 3 (fun x => x)).dev.recState 0 = 3) ∧
    (service.dev.state = stService) ∧
    ((wRec 0 (fun x => x)).dev.armStatus 0 = 0) ∧
    (s38.dev.recState 0 ∈ [1, 2]) ∧
    (s39.dev.recState 0 ∈ [1, 2]) ∧
    (s40.dev.recState 0 = 1 ∧ (s40.dev.recorder 0).holds = true ∧ (s40.dev.recorder 0).window = none ∧ s40.dev.isMember 0 = true) ∧
    ((wRec 3 (fun x => x)).dev.recState 0 = 3) :=
  by and_intros <;> decide +kernel

def bootS : State := withObjs []
def s41 : State := wRec 1 (fun x => { x with holds := true, window := some (10, 4000, 3), units := 5, cap := 100, period := 31250, toCome := 0 })
def s42 : State := wRec 1 (fun x => { x with holds := true, window := some (10, 4000, 3), units := 5, cap := 100, period := 31250, toCome := 7 })
def s43 : State := wRec 3 (fun x => { x with rearm := 2 })
def s44 : State := on (wRec 1 (fun x => { x with holds := true })) (fun d => d.setObj Obj.BYPASS_STATE 0)
def s45 : State := on (withObjs [(Obj.DEVICE_STATE, 3), (Obj.SENSE_ENABLE 0, 1), (Obj.FAST_ENABLE 0, 0), (Obj.FAST_OSR 0, 8), (Obj.FAST_HIGH 0, 3), (Obj.FAST_LOW 0, 0xFFFFF0)]) (fun d => { d with tb := { d.tb with periods := 1000 }, senses := setAt d.senses 0 { sh := 0, n := 0, run := 1 } })
def s46 : State := on (withObjs [(Obj.DEVICE_STATE, 3), (Obj.SENSE_ENABLE 0, 1), (Obj.FAST_ENABLE 0, 1), (Obj.FAST_OSR 0, 8), (Obj.FAST_HIGH 0, 3), (Obj.FAST_LOW 0, 0xFFFFF0)]) (fun d => { d with tb := { d.tb with periods := 1000 }, senses := setAt d.senses 0 { sh := 0, n := 0, run := 1 } })
def s47 : State := on (withObjs [(Obj.DEVICE_STATE, 3), (Obj.SENSE_ENABLE 0, 1), (Obj.FAST_ENABLE 0, 0), (Obj.FAST_OSR 0, 8), (Obj.FAST_HIGH 0, 3), (Obj.FAST_LOW 0, 0xFFFFF0)]) (fun d => { d with tb := { d.tb with periods := 1000 }, senses := setAt d.senses 0 { sh := 6, n := 70, run := 1 } })
def s48 : State := on (withObjs [(Obj.DEVICE_STATE, 3), (Obj.SENSE_ENABLE 0, 1), (Obj.FAST_ENABLE 0, 1), (Obj.FAST_OSR 0, 8), (Obj.FAST_HIGH 0, 3), (Obj.FAST_LOW 0, 0xFFFFF0)]) (fun d => { d with tb := { d.tb with periods := 1000 }, senses := setAt d.senses 0 { sh := 6, n := 70, run := 1 } })
def s49 : State := on (withObjs [(Obj.DEVICE_STATE, 3), (Obj.SENSE_ENABLE 0, 1), (Obj.FAST_ENABLE 0, 0), (Obj.FAST_OSR 0, 8), (Obj.FAST_HIGH 0, 3), (Obj.FAST_LOW 0, 0xFFFFF0)]) (fun d => { d with tb := { d.tb with periods := 1000 }, senses := setAt d.senses 0 { sh := 7, n := 70, run := 1 } })
def s50 : State := on (withObjs [(Obj.DEVICE_STATE, 3), (Obj.SENSE_ENABLE 0, 1), (Obj.FAST_ENABLE 0, 1), (Obj.FAST_OSR 0, 8), (Obj.FAST_HIGH 0, 3), (Obj.FAST_LOW 0, 0xFFFFF0)]) (fun d => { d with tb := { d.tb with periods := 1000 }, senses := setAt d.senses 0 { sh := 7, n := 70, run := 1 } })
def s51 : State := on (withObjs [(Obj.DEVICE_STATE, 3), (Obj.SENSE_ENABLE 0, 1), (Obj.FAST_ENABLE 0, 0), (Obj.FAST_OSR 0, 8), (Obj.FAST_HIGH 0, 3), (Obj.FAST_LOW 0, 0xFFFFF0)]) (fun d => { d with tb := { d.tb with periods := 1000 }, senses := setAt d.senses 0 { sh := 1552518092300708935148979488462502555256886017116696611139052038026050952686376886330878408828646477950487730697131073206171580044114814391444287275041181139204454976020849905550265285631598444825262999193716468750892846853816057855, n := 800, run := 1 } })
def s52 : State := on (withObjs [(Obj.DEVICE_STATE, 3), (Obj.SENSE_ENABLE 0, 1), (Obj.FAST_ENABLE 0, 1), (Obj.FAST_OSR 0, 8), (Obj.FAST_HIGH 0, 3), (Obj.FAST_LOW 0, 0xFFFFF0)]) (fun d => { d with tb := { d.tb with periods := 1000 }, senses := setAt d.senses 0 { sh := 1552518092300708935148979488462502555256886017116696611139052038026050952686376886330878408828646477950487730697131073206171580044114814391444287275041181139204454976020849905550265285631598444825262999193716468750892846853816057855, n := 800, run := 1 } })
def s53 : State := on run (fun d => { d with tb := { d.tb with periods := 1000, sdLast := 1000 } })

theorem test_witness_AcquisitionEventsTriggerAndSeal :
    ((wUnit.dev.unit 0).running = true ∧ (wUnit.dev.unit 0).last = some (5000, 0) ∧ wUnit.dev.wmaxPoint 0 5000 = some 1100) ∧
    ((run.dev.unit 0).running = false) ∧
    (s41.dev.recState 0 = 1 ∧ (s41.dev.recorder 0).window = some (10, 4000, 3) ∧ 10 + s41.dev.cyc.len ≤ s41.dev.timeNs 0 ∧ 4000 ≤ s41.dev.timeNs 0) ∧
    (s42.dev.recState 0 = 1 ∧ (s42.dev.recorder 0).window = some (10, 4000, 3) ∧ 10 + s42.dev.cyc.len ≤ s42.dev.timeNs 0 ∧ 4000 ≤ s42.dev.timeNs 0) ∧
    ((s43.dev.recorder 0).rearm = 2 ∧ s43.dev.recState 0 = 3 ∧ s43.dev.armStatus 0 = 0) ∧
    (((wRec 3 (fun x => x)).dev.recorder 0).rearm ≠ 2) ∧
    (s44.dev.isHead = true ∧ s44.dev.messageGood 0 wFireGood = true ∧ wFireGood.dest = 0 ∧ wFireGood.msgType = 7 ∧ wFireGood.payload.length = 16 ∧ fieldAt wFireGood.payload 0 1 = 0xA2 ∧ s44.dev.isMember 0 = true ∧ (s44.dev.recorder 0).group = fieldAt wFireGood.payload 1 1 ∧ s44.dev.recState 0 = 1 ∧ (s44.dev.recorder 0).holds = true ∧ (s44.dev.recorder 0).window = none) ∧
    ((wSeal 32).dev.acq.seals = { recorder := 0, image := [1, 2], running := true, readTo := 50 } :: [] ∧ 50 ≤ (wSeal 32).dev.now ∧ 32 ≤ (wSeal 32).dev.acq.sealed.length) ∧
    ((wSeal 0).dev.acq.seals = { recorder := 0, image := [1, 2], running := true, readTo := 50 } :: [] ∧ 50 ≤ (wSeal 0).dev.now ∧ ¬ (32 ≤ (wSeal 0).dev.acq.sealed.length ∨ 8388608 < sumOf ((wSeal 0).dev.acq.sealed.map (fun e => e.2.2.length)) + 2)) ∧
    ((wSeal 3).dev.acq.seals = { recorder := 0, image := [1, 2], running := true, readTo := 50 } :: [] ∧ 50 ≤ (wSeal 3).dev.now ∧ ¬ (32 ≤ (wSeal 3).dev.acq.sealed.length ∨ 8388608 < sumOf ((wSeal 3).dev.acq.sealed.map (fun e => e.2.2.length)) + 2)) ∧
    (s45.dev.isHead = true ∧ s45.dev.nextSdclk ≤ s45.dev.tb.periods + 0 ∧ s45.dev.sdclkRuns = true ∧ s45.dev.objB (Obj.SENSE_ENABLE 0) = true) ∧
    (s46.dev.isHead = true ∧ s46.dev.nextSdclk ≤ s46.dev.tb.periods + 0 ∧ s46.dev.sdclkRuns = true ∧ s46.dev.objB (Obj.SENSE_ENABLE 0) = true) ∧
    (s45.dev.isHead = true ∧ s45.dev.nextSdclk ≤ s45.dev.tb.periods + 0 ∧ s45.dev.sdclkRuns = true ∧ s45.dev.objB (Obj.SENSE_ENABLE 0) = true) ∧
    (s46.dev.isHead = true ∧ s46.dev.nextSdclk ≤ s46.dev.tb.periods + 0 ∧ s46.dev.sdclkRuns = true ∧ s46.dev.objB (Obj.SENSE_ENABLE 0) = true) ∧
    (s47.dev.isHead = true ∧ s47.dev.nextSdclk ≤ s47.dev.tb.periods + 0 ∧ s47.dev.sdclkRuns = true ∧ s47.dev.objB (Obj.SENSE_ENABLE 0) = true) ∧
    (s48.dev.isHead = true ∧ s48.dev.nextSdclk ≤ s48.dev.tb.periods + 0 ∧ s48.dev.sdclkRuns = true ∧ s48.dev.objB (Obj.SENSE_ENABLE 0) = true) ∧
    (s49.dev.isHead = true ∧ s49.dev.nextSdclk ≤ s49.dev.tb.periods + 0 ∧ s49.dev.sdclkRuns = true ∧ s49.dev.objB (Obj.SENSE_ENABLE 0) = true) ∧
    (s50.dev.isHead = true ∧ s50.dev.nextSdclk ≤ s50.dev.tb.periods + 0 ∧ s50.dev.sdclkRuns = true ∧ s50.dev.objB (Obj.SENSE_ENABLE 0) = true) ∧
    (s51.dev.isHead = true ∧ s51.dev.nextSdclk ≤ s51.dev.tb.periods + 0 ∧ s51.dev.sdclkRuns = true ∧ s51.dev.objB (Obj.SENSE_ENABLE 0) = true) ∧
    (s52.dev.isHead = true ∧ s52.dev.nextSdclk ≤ s52.dev.tb.periods + 0 ∧ s52.dev.sdclkRuns = true ∧ s52.dev.objB (Obj.SENSE_ENABLE 0) = true) ∧
    (s53.dev.isHead = true ∧ s53.dev.tb.periods + 0 < s53.dev.nextSdclk) ∧
    (bootS.dev.sdclkRuns = false ∧ bootS.dev.cycling = false) :=
  by and_intros <;> decide +kernel

def s54 : State := ({ wServ with mem := wServ.mem.setSym wServ.dev.testAddr 0xFF5A } : State)
def s55 : State := ({ wServ with mem := wServ.mem.setSym wServ.dev.testAddr (0x5A + 256 * 0x0F) } : State)
def s56 : State := ({ wServ with mem := wServ.mem.setSym wServ.dev.testAddr (0x5B + 256 * 0x0F) } : State)
def s57 : State := ({ wServ with mem := wServ.mem.setSym wServ.dev.testAddr (0x59 + 256 * 0x0F) } : State)
def s58 : State := ({ wServ with mem := wServ.mem.setSym wServ.dev.testAddr 0x1F00 } : State)
def s59 : State := ({ wServ with mem := wServ.mem.setSym wServ.dev.testAddr 0 } : State)

theorem test_witness_MemoryCommandsOfServiceAct :
    (isOpen wServ .host = true ∧ wServ.dev.state = stService ∧ getAt false wServ.dev.ctl.supplies 7 = true ∧ wServ.dev.fl.fusing = false) ∧
    (wServ.dev.obj Obj.TEST_MACRO < regionMacros (wServ.dev.obj Obj.TEST_REGION) ∧ wServ.dev.fl.split.length < 64) ∧
    (wServ.dev.clearOk 0 1 = true) :=
  by and_intros <;> decide +kernel

def s60 : State := ({ run with mem := run.mem.setSym (memAddr 0 0 5) (0x5A + 256 * 0x0F) } : State)
def s61 : State := ({ run with mem := run.mem.setSym (memAddr 1 0 5) (0x5A + 256 * 0x0F) } : State)
def s62 : State := ({ run with mem := run.mem.setSym (memAddr 2 0 5) (0x5A + 256 * 0x0F) } : State)
def s63 : State := ({ run with mem := run.mem.setSym (memAddr 3 0 5) (0x5A + 256 * 0x0F) } : State)
def s64 : State := ({ run with mem := run.mem.setSym (memAddr 4 0 5) (0x5A + 256 * 0x0F) } : State)
def s65 : State := on run (fun d => { d with isl := { d.isl with running := true } })
def s66 : State := on (({ run with mem := run.mem.setSym (memAddr 0 0 5) (0x5B + 256 * 0x0F) } : State)) (fun d => { d.setObj Obj.SOFT_REPAIR_ENABLE 1 with cyc := { d.cyc with dispatched := true }, health := { d.health with cand := [memAddr 0 0 5] } })
def s67 : State := on (({ run with mem := run.mem.setSym (memAddr 1 0 5) (0x5B + 256 * 0x0F) } : State)) (fun d => { d.setObj Obj.SOFT_REPAIR_ENABLE 1 with cyc := { d.cyc with dispatched := true }, health := { d.health with cand := [memAddr 1 0 5] } })
def s68 : State := on (({ run with mem := run.mem.setSym (memAddr 2 0 5) (0x5B + 256 * 0x0F) } : State)) (fun d => { d.setObj Obj.SOFT_REPAIR_ENABLE 1 with cyc := { d.cyc with dispatched := true }, health := { d.health with cand := [memAddr 2 0 5] } })
def s69 : State := on run (fun d => { d with fl := { d.fl with fusing := true } })
def s70 : State := on run (fun d => { d with now := 28000, cyc := { d.cyc with dispatched := true, startAt := 0 } })

theorem test_witness_FloatAndWearEventsAct :
    (s60.dev.state ≠ stBoot ∧ (0 : Byte).toNat < regionMacros 0 ∧ s60.mem.sym (memAddr 0 (0 : Byte).toNat (5 : BitVec 15).toNat) = 0x5A + 256 * checkOf 0x5A) ∧
    (s61.dev.state ≠ stBoot ∧ (0 : Byte).toNat < regionMacros 1 ∧ s61.mem.sym (memAddr 1 (0 : Byte).toNat (5 : BitVec 15).toNat) = 0x5A + 256 * checkOf 0x5A) ∧
    (s62.dev.state ≠ stBoot ∧ (0 : Byte).toNat < regionMacros 2 ∧ s62.mem.sym (memAddr 2 (0 : Byte).toNat (5 : BitVec 15).toNat) = 0x5A + 256 * checkOf 0x5A) ∧
    (s63.dev.state ≠ stBoot ∧ (0 : Byte).toNat < regionMacros 3 ∧ s63.mem.sym (memAddr 3 (0 : Byte).toNat (5 : BitVec 15).toNat) = 0x5A + 256 * checkOf 0x5A) ∧
    (s64.dev.state ≠ stBoot ∧ (0 : Byte).toNat < regionMacros 4 ∧ s64.mem.sym (memAddr 4 (0 : Byte).toNat (5 : BitVec 15).toNat) = 0x5A + 256 * checkOf 0x5A) ∧
    ((readSym (s60.mem.sym (memAddr 0 (0 : Byte).toNat (5 : BitVec 15).toNat) ^^^ (3 : BitVec 13).toNat)).1 = .uncorrectable) ∧
    ((readSym (s62.mem.sym (memAddr 2 (0 : Byte).toNat (5 : BitVec 15).toNat) ^^^ (3 : BitVec 13).toNat)).1 = .uncorrectable) ∧
    ((readSym (s63.mem.sym (memAddr 3 (0 : Byte).toNat (5 : BitVec 15).toNat) ^^^ (3 : BitVec 13).toNat)).1 = .uncorrectable) ∧
    (s65.dev.isl.running = true) ∧
    (s66.dev.objB Obj.SOFT_REPAIR_ENABLE = true ∧ s66.dev.rowCandidate (macroOf 0 0) (0 : BitVec 9).toNat = true ∧ (2 ≤ 0 ∨ (s66.dev.cyc.dispatched = true ∧ s66.dev.lanesIdle = true))) ∧
    (s67.dev.objB Obj.SOFT_REPAIR_ENABLE = true ∧ s67.dev.rowCandidate (macroOf 1 0) (0 : BitVec 9).toNat = true ∧ (2 ≤ 1 ∨ (s67.dev.cyc.dispatched = true ∧ s67.dev.lanesIdle = true))) ∧
    (s68.dev.objB Obj.SOFT_REPAIR_ENABLE = true ∧ s68.dev.rowCandidate (macroOf 2 0) (0 : BitVec 9).toNat = true ∧ (2 ≤ 2 ∨ (s68.dev.cyc.dispatched = true ∧ s68.dev.lanesIdle = true))) ∧
    (s69.dev.fl.fusing = true) ∧
    (run.dev.fl.fusing = false) ∧
    (s70.dev.cycling = true ∧ s70.dev.cyc.dispatched = true ∧ (s70.dev.lane 0 0).run = none ∧ s70.dev.now + 3000 ≤ s70.dev.cyc.startAt + s70.dev.cyc.len ∧ 4096 ≤ (4096 : BitVec 16).toNat ∧ (4096 : BitVec 16).toNat ≤ 8191 ∧ (s70.dev.lane 0 0).slow = 0) ∧
    (s70.dev.cycling = true ∧ s70.dev.cyc.dispatched = true ∧ (s70.dev.lane 0 0).run = none ∧ s70.dev.now + 3000 ≤ s70.dev.cyc.startAt + s70.dev.cyc.len ∧ 4096 ≤ (8191 : BitVec 16).toNat ∧ (8191 : BitVec 16).toNat ≤ 8191 ∧ (s70.dev.lane 0 0).slow = 0) ∧
    (s70.dev.cycling = true ∧ s70.dev.cyc.dispatched = true ∧ (s70.dev.lane 0 0).run = none ∧ s70.dev.now + 3000 ≤ s70.dev.cyc.startAt + s70.dev.cyc.len ∧ 4096 ≤ (5000 : BitVec 16).toNat ∧ (5000 : BitVec 16).toNat ≤ 8191 ∧ (s70.dev.lane 0 0).slow = 0) ∧
    (s70.dev.cycling = true ∧ s70.dev.cyc.dispatched = true ∧ (s70.dev.lane 0 0).run = none ∧ s70.dev.now + 3000 ≤ s70.dev.cyc.startAt + s70.dev.cyc.len ∧ 4096 ≤ (8191 : BitVec 16).toNat ∧ (8191 : BitVec 16).toNat ≤ 8191 ∧ (s70.dev.lane 0 0).slow = 0) ∧
    ((List.range 8).find? (fun l => run.dev.obj (Obj.LANE_STATE 0 l) == 1) = some 7 ∧ (run.dev.lane 0 7).retire = 0) :=
  by and_intros <;> decide +kernel

/-- Ring 0 open, two nodes, discovery complete, with its own state and some objects as given; 5 ms after reset. -/
def wRing (st : Nat) (l : List (Nat × Nat)) (f : Ring → Ring) : State :=
  let node : RingNode := { kind := 1, axes := 2, revision := 1, dEast := 100, dWest := 200, status := 0, got := false, missing := 0, lost := false }
  on (withObjs ([(Obj.DEVICE_STATE, st), (Obj.BYPASS_STATE, 2), (Obj.HOP_DELAY_EAST 0 0, 100)] ++ l)) (fun d => { d with
    now := 5000000, cyc := { d.cyc with dispatched := false }, axes := upd (fun a => { a with counted := true, sampleCount := 4 }) d.axes 0,
    rings := upd (fun g => f { g with phase := .complete, eastUp := true, westUp := true, nodes := [node, node], closed := true, split := 1 }) d.rings 0 })
def wFb (l : Fin 4) : Feedback :=
  { localAxis := l, status := 0, count := 5, position := 7, iA := 1, iB := 0xFFFFFE, iC := 3, vdc := 4, aux := 5, temp := 6 }
def wBlock (crc : BitVec 16) : UplinkBlock :=
  { position := 1, status := 0, tagLow := 0, epochLow := 0, records := [wFb 0], safe := none, crc := crc }
def wBlockGood : UplinkBlock := wBlock (BitVec.ofNat 16 (crc16 (uplinkBytes (wBlock 0))))
def wBlockBad : UplinkBlock := wBlock (BitVec.ofNat 16 (crc16 (uplinkBytes (wBlock 0)) + 1))
def wMsg : RingMessage := { dest := 0, src := 1, msgType := 8, seq := 9, epochLow := 0, payload := [1, 2, 3], crc := 0 }
def wMsgGood : RingMessage := { wMsg with crc := BitVec.ofNat 32 (crc32 (messageBytes wMsg)) }
def wMsgBad : RingMessage := { wMsg with crc := BitVec.ofNat 32 (crc32 (messageBytes wMsg) + 1) }
def wReq (tries sent : Nat) : RingRequest := { port := 0, dest := 1, msgType := 8, seq := 9, payload := [1], tries := tries, sentAt := sent }
def wNode : NodeReport := { kind := 1, axes := 2, revision := 3, epoch := 0, east := List.replicate 8 { trip := 120, turnaround := 20 }, west := List.replicate 8 { trip := 140, turnaround := 20 } }
def wNode0 : RingNode := { kind := 1, axes := 2, revision := 1, dEast := 100, dWest := 200, status := 0, got := false, missing := 0, lost := false }

def s71 : State := wRing 3 [] (fun g => { g with nodes := [] })
def s72 : State := on (wRing 3 [] (fun g => g)) (fun d => { d with cyc := { d.cyc with dispatched := true } })
def s73 : State := wRing 3 [(Obj.CONFIGURED 0, 1), (Obj.AXIS_SLOT 0, 0)] (fun g => g)
def s74 : State := wRing 3 [(Obj.ROLE, 2)] (fun g => g)

theorem test_witness_UplinkBlocksAreCheckedAndTaken :
    (¬ run.dev.ringOpen 0 = true ∨ run.dev.isHead = false) ∧
    (s71.dev.isHead = true ∧ s71.dev.ringOpen 0 = true ∧ s71.dev.cyc.dispatched = false ∧ crc16 (uplinkBytes wBlockGood) = wBlockGood.crc.toNat ∧ ¬ (s71.dev.ring 0).node wBlockGood.position.toNat ≠ none) ∧
    (s72.dev.isHead = true ∧ s72.dev.ringOpen 0 = true ∧ (s72.dev.ring 0).node wBlockGood.position.toNat ≠ none ∧ s72.dev.cyc.dispatched = true) ∧
    ((wRing 3 [] (fun g => g)).dev.isHead = true ∧ (wRing 3 [] (fun g => g)).dev.ringOpen 0 = true ∧ ((wRing 3 [] (fun g => g)).dev.ring 0).node wBlockGood.position.toNat ≠ none ∧ (wRing 3 [] (fun g => g)).dev.cyc.dispatched = false ∧ ¬ crc16 (uplinkBytes wBlockBad) = wBlockBad.crc.toNat ∧ wBlockBad.records.length ≤ 4 ∧ wBlockBad.safe = none) ∧
    (s73.dev.isHead = true ∧ s73.dev.ringOpen 0 = true ∧ (s73.dev.ring 0).node wBlockGood.position.toNat ≠ none ∧ s73.dev.cyc.dispatched = false ∧ crc16 (uplinkBytes wBlockGood) = wBlockGood.crc.toNat ∧ wBlockGood.records[0]? = some (wFb 0) ∧ s73.dev.axisAt 0 1 0 = some 0 ∧ s73.dev.configured 0 = true ∧ (s73.dev.axis 0).cur = none ∧ wBlockGood.tagLow.toNat = s73.dev.cyc.tag % 65536 ∧ (s73.dev.axis 0).counted = true ∧ (wFb 0).localAxis.val = 0 ∧ (wFb 0).count.toNat ≠ (s73.dev.axis 0).sampleCount) ∧
    (¬ s74.dev.ringOpen 0 = true ∨ s74.dev.isHead = false) :=
  by and_intros <;> decide +kernel

def s75 : State := wRing 3 [(Obj.POOL_IN_USE 0, 2048)] (fun g => g)
def s76 : State := wRing 3 [] (fun g => { g with requests := [wReq 0 0] })
def s77 : State := wRing 3 [] (fun g => { g with requests := [wReq 2 0] })
def s78 : State := wRing 3 [] (fun g => { g with requests := [wReq 3 0] })

theorem test_witness_MessagesAreDeliveredAndRepeated :
    ((wRing 3 [] (fun g => g)).dev.isHead = true ∧ crc32 (messageBytes wMsgBad) ≠ wMsgBad.crc.toNat) ∧
    (run.dev.isHead = true ∧ run.dev.ringOpen 0 = false) ∧
    (s75.dev.isHead = true ∧ s75.dev.ringOpen 0 = true ∧ crc32 (messageBytes wMsgGood) = wMsgGood.crc.toNat ∧ wMsgGood.dest = 0 ∧ wMsgGood.payload.length ≤ 1024 ∧ wMsgGood.msgType ≠ 7 ∧ wMsgGood.msgType ≠ 2 ∧ s75.dev.poolFits 0 (buffersOf (wMsgGood.payload.length + 12)) = false) ∧
    (s76.dev.isHead = true ∧ s76.dev.ringOpen 0 = true ∧ crc32 (messageBytes wMsgGood) = wMsgGood.crc.toNat ∧ wMsgGood.dest = 0 ∧ wMsgGood.payload.length ≤ 1024 ∧ wMsgGood.msgType ≠ 7 ∧ wMsgGood.msgType ≠ 2 ∧ s76.dev.poolFits 0 (buffersOf (wMsgGood.payload.length + 12)) = true ∧ (s76.dev.ring 0).requests.find? (fun q => q.dest == wMsgGood.src.toNat && q.seq == wMsgGood.seq.toNat) = some (wReq 0 0) ∧ wMsgGood.msgType ≠ 1 ∧ (wReq 0 0).msgType = 8) ∧
    ((wRing 3 [] (fun g => g)).dev.overdue 0 = none) ∧
    (s76.dev.overdue 0 = some (wReq 0 0) ∧ (wReq 0 0).tries < 3 ∧ s76.dev.poolFits 0 (buffersOf ((wReq 0 0).payload.length + 12)) = true ∧ (s76.dev.ring 0).portUp (wReq 0 0).port = true) ∧
    (s77.dev.overdue 0 = some (wReq 2 0) ∧ (wReq 2 0).tries < 3 ∧ s77.dev.poolFits 0 (buffersOf ((wReq 2 0).payload.length + 12)) = true ∧ (s77.dev.ring 0).portUp (wReq 2 0).port = true) ∧
    (s78.dev.overdue 0 = some (wReq 3 0) ∧ 3 ≤ (wReq 3 0).tries) :=
  by and_intros <;> decide +kernel

def s79 : State := wRing 3 [] (fun g => { g with eastUp := false })
def s80 : State := wRing 3 [] (fun g => { g with westUp := false })
def s81 : State := wRing 1 [] (fun g => { g with phase := .discovering, eastUp := false })
def s82 : State := withObjs [(Obj.DEVICE_STATE, 1), (Obj.PLLS_STATE, 3), (Obj.RING_ENABLE, 3)]
def s83 : State := withObjs [(Obj.DEVICE_STATE, 3), (Obj.PLLS_STATE, 3), (Obj.RING_ENABLE, 3)]
def s84 : State := wRing 3 [(Obj.PLLS_STATE, 3)] (fun g => g)

theorem test_witness_RingsFoldAndReturn :
    ((wRing 3 [] (fun g => g)).dev.isHead = true ∧ (wRing 3 [] (fun g => g)).dev.ringOpen 0 = true ∧ 1 ≤ (1 : Byte).toNat ∧ (1 : Byte).toNat ≤ ((wRing 3 [] (fun g => g)).dev.ring 0).nodes.length ∧ (0 : Byte).toNat ≤ 1 ∧ ((wRing 3 [] (fun g => g)).dev.ring 0).phase = .complete ∧ 0 ∉ ((wRing 3 [] (fun g => g)).dev.ring 0).lostLinks.map (·.1) ∧ ((wRing 3 [] (fun g => g)).dev.ring 0).lostLinks = []) ∧
    ((wRing 3 [] (fun g => g)).dev.isHead = true ∧ (wRing 3 [] (fun g => g)).dev.ringOpen 0 = true ∧ 1 ≤ (1 : Byte).toNat ∧ (1 : Byte).toNat ≤ ((wRing 3 [] (fun g => g)).dev.ring 0).nodes.length ∧ (1 : Byte).toNat ≤ 1 ∧ ((wRing 3 [] (fun g => g)).dev.ring 0).phase = .complete ∧ 1 ∉ ((wRing 3 [] (fun g => g)).dev.ring 0).lostLinks.map (·.1) ∧ ((wRing 3 [] (fun g => g)).dev.ring 0).lostLinks = []) ∧
    ((wRing 3 [] (fun g => g)).dev.isHead = true ∧ (wRing 3 [] (fun g => g)).dev.ringOpen 0 = true ∧ 1 ≤ (2 : Byte).toNat ∧ (2 : Byte).toNat ≤ ((wRing 3 [] (fun g => g)).dev.ring 0).nodes.length ∧ (1 : Byte).toNat ≤ 1 ∧ ((wRing 3 [] (fun g => g)).dev.ring 0).phase = .complete ∧ 2 ∉ ((wRing 3 [] (fun g => g)).dev.ring 0).lostLinks.map (·.1) ∧ ((wRing 3 [] (fun g => g)).dev.ring 0).lostLinks = []) ∧
    (¬ (0 : BitVec 16).toNat = foldCrc (1 : Byte).toNat (0 : Byte).toNat) ∧
    (run.dev.ringOpen 0 = false) ∧
    ((s79.dev.ring 0).eastUp = false) ∧
    ((wRing 3 [] (fun g => g)).dev.isHead = true ∧ (wRing 3 [] (fun g => g)).dev.ringOpen 0 = true ∧ ((wRing 3 [] (fun g => g)).dev.ring 0).eastUp = true ∧ ((wRing 3 [] (fun g => g)).dev.ring 0).phase = .complete ∧ 0 ∉ ((wRing 3 [] (fun g => g)).dev.ring 0).lostLinks.map (·.1)) ∧
    (s79.dev.ringOpen 0 = true ∧ (s79.dev.ring 0).phase = .complete) ∧
    ((wRing 3 [] (fun g => g)).dev.isHead = true ∧ (wRing 3 [] (fun g => g)).dev.ringOpen 0 = true ∧ ((wRing 3 [] (fun g => g)).dev.ring 0).westUp = true ∧ ((wRing 3 [] (fun g => g)).dev.ring 0).phase = .complete ∧ 2 ∉ ((wRing 3 [] (fun g => g)).dev.ring 0).lostLinks.map (·.1)) ∧
    (s80.dev.ringOpen 0 = true ∧ (s80.dev.ring 0).phase = .complete) ∧
    (s81.dev.ringOpen 0 = true ∧ (s81.dev.ring 0).phase = .discovering ∧ s81.dev.state = stConfig ∧ s81.dev.isHead = true ∧ s81.dev.poolFits 0 1 = true) ∧
    (run.dev.ringOpen 0 = false) ∧
    (isOpen (wRing 3 [] (fun g => g)) .host = true ∧ (3 : Byte).toNat ≤ 3 ∧ bit 3 0 = true ∧ (wRing 3 [] (fun g => g)).dev.ringOpen 0 = true) ∧
    (s82.dev.ringOpen 0 = false ∧ s82.dev.ringEnabled 0 = true ∧ s82.dev.serdesRun = true) ∧
    (s83.dev.ringOpen 0 = false ∧ s83.dev.ringEnabled 0 = true ∧ s83.dev.serdesRun = true) ∧
    (s84.dev.ringOpen 0 = true ∧ s84.dev.serdesRun = true) ∧
    (bootS.dev.serdesRun = false) :=
  by and_intros <;> decide +kernel

def s85 : State := wRing 1 [] (fun g => { g with phase := .discovering, nodes := [] })
def s86 : State := on (wRing 3 [] (fun g => g)) (fun d => { d with cyc := { d.cyc with count := d.obj Obj.REMEASURE_PERIOD } })

theorem test_witness_DiscoveryAndRemeasurementShowTheNodes :
    (s85.dev.state = stConfig ∧ s85.dev.ringOpen 0 = true ∧ s85.dev.isHead = true ∧ (s85.dev.ring 0).phase = .discovering ∧ [wNode, wNode][1]? = some wNode) ∧
    (run.dev.state ≠ stConfig) ∧
    (s86.dev.isHead = true ∧ s86.dev.state ∈ [stReady, stRun, stService] ∧ (s86.dev.ring 0).remeasured + s86.dev.obj Obj.REMEASURE_PERIOD ≤ s86.dev.cyc.count ∧ (s86.dev.ring 0).phase = .complete ∧ (s86.dev.ring 0).takeover = none ∧ (s86.dev.ring 0).nodes.length ≤ 64 ∧ 1 ≤ 64 ∧ nextOf ((s86.dev.ring 0).served (s86.dev.ring 0).plan).1 (s86.dev.ring 0).remeasureEast = some 1) :=
  by and_intros <;> decide +kernel

def wRun (l : List (Nat × Nat)) : State := withObjs ([(Obj.DEVICE_STATE, 3)] ++ l)
def wAt (a : HostAddr) (rest : List Byte) : BitVec 32 := BitVec.ofNat 32 (crc32c (addrBytes a ++ rest))
def wAddr (index sub : Nat) : HostAddr := { index := BitVec.ofNat 16 index, sub := BitVec.ofNat 8 sub, tag := 7 }

def s87 : State := on (wRun [(Obj.REF_ACTIVE, 0xFF), (Obj.REF_AUTO, 1), (Obj.PLLT_STATE, 4), (Obj.REF_QUAL_TIME, 10)]) (fun d => { d with now := 10000000, tb := { d.tb with refFrom := [0, 0] } })
def s88 : State := on (wRun [(Obj.REF_ACTIVE, 1), (Obj.PLLT_STATE, 3), (Obj.REF_REVERT, 0), (Obj.REF_QUAL_TIME, 10)]) (fun d => { d with now := 10000000, tb := { d.tb with refFrom := [0, 0] } })
def s89 : State := on (wRun [(Obj.REF_ACTIVE, 0xFF), (Obj.REF_AUTO, 1), (Obj.REF_QUAL_TIME, 11)]) (fun d => { d with now := 10000000, tb := { d.tb with refFrom := [0, 0] } })
def s90 : State := wRun [(Obj.REF_ACTIVE, 1), (Obj.REF_STATUS, 3)]
def s91 : State := wRun [(Obj.REF_ACTIVE, 0), (Obj.PLLT_STATE, 3), (Obj.REF_AUTO, 0), (Obj.REF_STATUS, 3)]
def s92 : State := wRun [(Obj.REF_ACTIVE, 0), (Obj.PLLT_STATE, 3), (Obj.REF_AUTO, 1), (Obj.REF_STATUS, 1)]
def s93 : State := wRun [(Obj.REF_ACTIVE, 0), (Obj.PLLT_STATE, 3), (Obj.REF_AUTO, 1), (Obj.REF_STATUS, 3)]

theorem test_witness_ReferencesAreAdoptedAndLost :
    (getAt 0 s87.dev.tb.refFrom 0 + s87.dev.obj Obj.REF_QUAL_TIME * 1000000 ≤ s87.dev.now ∧ bit (s87.dev.obj Obj.REF_STATUS) 0 = false ∧ s87.dev.state ≠ stBoot ∧ s87.dev.obj Obj.REF_ACTIVE = 0xFF ∧ s87.dev.objB Obj.REF_AUTO = true ∧ s87.dev.obj Obj.PLLT_STATE = 4 ∧ s87.dev.tb.pllT.suspended = false ∧ absI (200000 : Int) ≤ 200000) ∧
    (getAt 0 s88.dev.tb.refFrom 0 + s88.dev.obj Obj.REF_QUAL_TIME * 1000000 ≤ s88.dev.now ∧ bit (s88.dev.obj Obj.REF_STATUS) 0 = false ∧ s88.dev.obj Obj.REF_ACTIVE = 1 - (0 : Fin 2).val ∧ s88.dev.objB Obj.REF_REVERT = false) ∧
    (s89.dev.now < getAt 0 s89.dev.tb.refFrom 0 + s89.dev.obj Obj.REF_QUAL_TIME * 1000000) ∧
    (s90.dev.obj Obj.REF_ACTIVE ≠ (0 : Fin 2).val) ∧
    (s91.dev.obj Obj.REF_ACTIVE = (0 : Fin 2).val ∧ (s91.dev.objB Obj.REF_AUTO = false ∨ bit (s91.dev.obj Obj.REF_STATUS) 1 = false) ∧ s91.dev.obj Obj.PLLT_STATE = 3) ∧
    (s92.dev.obj Obj.REF_ACTIVE = (0 : Fin 2).val ∧ (s92.dev.objB Obj.REF_AUTO = false ∨ bit (s92.dev.obj Obj.REF_STATUS) 1 = false) ∧ s92.dev.obj Obj.PLLT_STATE = 3) ∧
    (s93.dev.obj Obj.REF_ACTIVE = (0 : Fin 2).val ∧ s93.dev.objB Obj.REF_AUTO = true ∧ bit (s93.dev.obj Obj.REF_STATUS) 1 = true) :=
  by and_intros <;> decide +kernel

def s94 : State := on (wRun [(Obj.PLLT_STATE, 1), (Obj.PLLS_STATE, 1)]) (fun d => { d with now := 2000, tb := { d.tb with pllT := { d.tb.pllT with searchAt := 0, countFrom := 0, count := 10 }, pllS := { d.tb.pllS with searchAt := 0, countFrom := 0, count := 10 }, tRelock := none } })
def s95 : State := on (wRun [(Obj.PLLT_STATE, 3), (Obj.PLLS_STATE, 3)]) (fun d => { d with now := 1000000, tb := { d.tb with pllT := { d.tb.pllT with searchAt := 0, countFrom := 0, count := 10 }, pllS := { d.tb.pllS with searchAt := 0, countFrom := 0, count := 10 }, tRelock := none } })
def s96 : State := on (wRun [(Obj.PLLT_STATE, 1), (Obj.PLLS_STATE, 1)]) (fun d => { d with now := 1999, tb := { d.tb with pllT := { d.tb.pllT with searchAt := 0, countFrom := 0, count := 10 }, pllS := { d.tb.pllS with searchAt := 0, countFrom := 0, count := 10 }, tRelock := none } })
def s97 : State := on (wRun [(Obj.PLLT_STATE, 2)]) (fun d => { d with now := 1000000, tb := { d.tb with pllT := { d.tb.pllT with searchAt := 0, countFrom := 0, count := 10 }, pllS := { d.tb.pllS with searchAt := 0, countFrom := 0, count := 10 }, tRelock := none } })
def s98 : State := on (wRun [(Obj.PLLT_STATE, 2)]) (fun d => { d with now := 0, tb := { d.tb with pllT := { d.tb.pllT with searchAt := 0, countFrom := 0, count := 10 }, pllS := { d.tb.pllS with searchAt := 0, countFrom := 0, count := 10 }, tRelock := none } })
def s99 : State := on (wRun [(Obj.PLLS_STATE, 2)]) (fun d => { d with now := 1000000, tb := { d.tb with pllT := { d.tb.pllT with searchAt := 0, countFrom := 0, count := 10 }, pllS := { d.tb.pllS with searchAt := 0, countFrom := 0, count := 10 }, tRelock := none } })
def s100 : State := on (wRun [(Obj.PLLS_STATE, 2), (Obj.PLLT_STATE, 3), (Obj.REF_ACTIVE, 0)]) (fun d => { d with now := 1000000, tb := { d.tb with pllT := { d.tb.pllT with searchAt := 0, countFrom := 0, count := 10 }, pllS := { d.tb.pllS with searchAt := 0, countFrom := 0, count := 10 }, tRelock := some 0 } })
def s101 : State := wRun [(Obj.PLLT_STATE, 3), (Obj.REF_ACTIVE, 0)]
def s102 : State := wRun [(Obj.PLLS_STATE, 3), (Obj.DEVICE_STATE, 1), (Obj.REF_ACTIVE, 0)]
def s103 : State := wRun [(Obj.PLLS_STATE, 3), (Obj.PLLT_STATE, 4), (Obj.BACKUP_ACTIVE, 0)]
def s104 : State := wRun [(Obj.PLLS_STATE, 3), (Obj.PLLT_STATE, 4), (Obj.BACKUP_ACTIVE, 1)]
def s105 : State := on (wRun [(Obj.PLLT_STATE, 2), (Obj.PLLS_STATE, 2)]) (fun d => { d with now := 77, tb := { d.tb with pllT := { d.tb.pllT with searchAt := 0, countFrom := 0, count := 10 }, pllS := { d.tb.pllS with searchAt := 0, countFrom := 0, count := 10 }, tRelock := none } })
def s106 : State := on (wRun [(Obj.PLLT_STATE, 3), (Obj.REF_ACTIVE, 0)]) (fun d => { d with tb := { d.tb with running := true } })

theorem test_witness_SynthesisersLockAndUnlock :
    (s94.dev.obj Obj.PLLT_STATE = 1 ∧ s94.dev.obj Obj.PLLS_STATE = 1 ∧ s94.dev.tb.pllT.searchAt + 2000 ≤ s94.dev.now ∧ s94.dev.tb.pllS.searchAt + 2000 ≤ s94.dev.now) ∧
    (s95.dev.obj Obj.PLLT_STATE ≠ 1 ∧ s95.dev.obj Obj.PLLS_STATE ≠ 1) ∧
    (s96.dev.now < s96.dev.tb.pllT.searchAt + 2000 ∧ s96.dev.now < s96.dev.tb.pllS.searchAt + 2000) ∧
    (s97.dev.state ≠ stBoot ∧ s97.dev.obj Obj.PLLT_STATE = 2 ∧ s97.dev.tb.pllT.counted s97.dev.periodT s97.dev.now = true ∧ s97.dev.tb.heldService = false ∧ s97.dev.tb.stepQ = []) ∧
    (s98.dev.tb.pllT.counted s98.dev.periodT s98.dev.now = false ∧ s98.dev.obj Obj.PLLT_STATE = 2) ∧
    (s99.dev.state ≠ stBoot ∧ s99.dev.obj Obj.PLLS_STATE = 2 ∧ s99.dev.tb.pllS.counted periodS s99.dev.now = true ∧ s99.dev.tb.tRelock = none) ∧
    (s100.dev.state ≠ stBoot ∧ s100.dev.obj Obj.PLLS_STATE = 2 ∧ s100.dev.tb.pllS.counted periodS s100.dev.now = true ∧ s100.dev.tb.tRelock = some 0 ∧ s100.dev.obj Obj.REF_ACTIVE ≠ 0xFF) ∧
    (s101.dev.state ≠ stBoot ∧ s101.dev.obj Obj.PLLT_STATE = 3 ∧ s101.dev.obj Obj.REF_ACTIVE ≠ 0xFF ∧ s101.dev.backupAvailable = false ∧ s101.dev.cycling = true ∧ s101.dev.ctl.holding = false) ∧
    (s102.dev.obj Obj.PLLS_STATE = 3 ∧ s102.dev.state = stConfig ∧ s102.dev.obj Obj.REF_ACTIVE ≠ 0xFF) ∧
    (s103.dev.obj Obj.PLLS_STATE = 3 ∧ s103.dev.state ∈ [stReady, stRun, stService] ∧ s103.dev.ctl.holding = false) ∧
    (s104.dev.obj Obj.PLLS_STATE = 3 ∧ s104.dev.state ∈ [stReady, stRun, stService] ∧ s104.dev.ctl.holding = false) ∧
    (s105.dev.state ≠ stBoot ∧ s105.dev.obj Obj.PLLT_STATE = 2 ∧ s105.dev.obj Obj.PLLS_STATE = 2) ∧
    (s106.dev.state ≠ stBoot ∧ s106.dev.servesT = true ∧ s106.dev.obj Obj.REF_ACTIVE ≠ 0xFF) ∧
    ((wRun [(Obj.PLLS_STATE, 3)]).dev.state ≠ stBoot ∧ (wRun [(Obj.PLLS_STATE, 3)]).dev.backupAvailable = true) :=
  by and_intros <;> decide +kernel

def s107 : State := on run (fun d => { d with isl := { d.isl with feedA := true, feedB := true, running := true } })

theorem test_witness_PowerAndResetLeadToBoot :
    ((s107.dev.isl.feedA || s107.dev.isl.feedB) = true ∧ getAt false s107.dev.ctl.supplies 0 = true) ∧
    ((true || false) = true) :=
  by and_intros <;> decide +kernel

def s108 : State := wRun [(Obj.AXIS_SLOT 0, 0x1234)]
def s109 : State := on config (fun d => d.setBlob (Obj.DOMAIN_IMAGE 3) [1, 2, 3, 4])

theorem test_witness_HostReadsReturnTheValueAndStatus :
    (run.dev.hostLive = true ∧ (wAt (wAddr 0xFFFF 9) []).toNat = crc32c (addrBytes (wAddr 0xFFFF 9) ++ []) ∧ rowOf (addrKey (wAddr 0xFFFF 9)) = none) ∧
    (run.dev.hostLive = true ∧ (wAt (wAddr 0x2000 1) []).toNat = crc32c (addrBytes (wAddr 0x2000 1) ++ []) ∧ (rowOf (addrKey (wAddr 0x2000 1))).map (·.rights) = some .wo) ∧
    ((wRun [(Obj.REF_AUTO, 1)]).dev.hostLive = true ∧ (wAt (wAddr (Obj.REF_AUTO / 256) (Nat.mod Obj.REF_AUTO 256)) []).toNat = crc32c (addrBytes (wAddr (Obj.REF_AUTO / 256) (Nat.mod Obj.REF_AUTO 256)) ++ []) ∧ ((rowOf (addrKey (wAddr (Obj.REF_AUTO / 256) (Nat.mod Obj.REF_AUTO 256)))).map (·.rights) = some .rw ∨ (rowOf (addrKey (wAddr (Obj.REF_AUTO / 256) (Nat.mod Obj.REF_AUTO 256)))).map (·.rights) = some .rwc) ∧ ((rowOf (addrKey (wAddr (Obj.REF_AUTO / 256) (Nat.mod Obj.REF_AUTO 256)))).map (·.ty.isDomain)) = some false ∧ resultCtx (addrKey (wAddr (Obj.REF_AUTO / 256) (Nat.mod Obj.REF_AUTO 256))) = none ∧ isMeasured (addrKey (wAddr (Obj.REF_AUTO / 256) (Nat.mod Obj.REF_AUTO 256))) = false ∧ (wRun [(Obj.REF_AUTO, 1)]).dev.live (addrKey (wAddr (Obj.REF_AUTO / 256) (Nat.mod Obj.REF_AUTO 256))) = none ∧ (wRun [(Obj.REF_AUTO, 1)]).dev.fl.damaged = []) ∧
    (s108.dev.hostLive = true ∧ (wAt (wAddr (Obj.AXIS_SLOT 0 / 256) (Nat.mod (Obj.AXIS_SLOT 0) 256)) []).toNat = crc32c (addrBytes (wAddr (Obj.AXIS_SLOT 0 / 256) (Nat.mod (Obj.AXIS_SLOT 0) 256)) ++ []) ∧ s108.dev.live (addrKey (wAddr (Obj.AXIS_SLOT 0 / 256) (Nat.mod (Obj.AXIS_SLOT 0) 256))) = none) ∧
    (run.dev.hostLive = true ∧ (wAt (wAddr (Obj.TIME_NOW / 256) (Nat.mod Obj.TIME_NOW 256)) []).toNat = crc32c (addrBytes (wAddr (Obj.TIME_NOW / 256) (Nat.mod Obj.TIME_NOW 256)) ++ []) ∧ (addrKey (wAddr (Obj.TIME_NOW / 256) (Nat.mod Obj.TIME_NOW 256))) = Obj.TIME_NOW) ∧
    (s109.dev.hostLive = true ∧ (wAt (wAddr (Obj.DOMAIN_IMAGE 3 / 256) (Nat.mod (Obj.DOMAIN_IMAGE 3) 256)) []).toNat = crc32c (addrBytes (wAddr (Obj.DOMAIN_IMAGE 3 / 256) (Nat.mod (Obj.DOMAIN_IMAGE 3) 256)) ++ []) ∧ (rowOf (addrKey (wAddr (Obj.DOMAIN_IMAGE 3 / 256) (Nat.mod (Obj.DOMAIN_IMAGE 3) 256)))).map (·.rights) ≠ some .wo ∧ (rowOf (addrKey (wAddr (Obj.DOMAIN_IMAGE 3 / 256) (Nat.mod (Obj.DOMAIN_IMAGE 3) 256)))).map (·.ty) = some (.domain 65536 false) ∧ (addrKey (wAddr (Obj.DOMAIN_IMAGE 3 / 256) (Nat.mod (Obj.DOMAIN_IMAGE 3) 256))) ≠ Obj.ORDER_NUMBER ∧ (addrKey (wAddr (Obj.DOMAIN_IMAGE 3 / 256) (Nat.mod (Obj.DOMAIN_IMAGE 3) 256))) / 256 ∉ [0x843, 0x84B, 0x4090, 0x4091, 0x4092, 0x4093] ∧ s109.dev.fl.damaged = []) ∧
    (s109.dev.hostLive = true ∧ (wAt (wAddr (Obj.DOMAIN_IMAGE 3 / 256) (Nat.mod (Obj.DOMAIN_IMAGE 3) 256)) (beBytes 2 2 ++ beBytes 4 1)).toNat = crc32c (addrBytes (wAddr (Obj.DOMAIN_IMAGE 3 / 256) (Nat.mod (Obj.DOMAIN_IMAGE 3) 256)) ++ (beBytes 2 2 ++ beBytes 4 1)) ∧ (rowOf (addrKey (wAddr (Obj.DOMAIN_IMAGE 3 / 256) (Nat.mod (Obj.DOMAIN_IMAGE 3) 256)))).map (·.rights) ≠ some .wo ∧ (rowOf (addrKey (wAddr (Obj.DOMAIN_IMAGE 3 / 256) (Nat.mod (Obj.DOMAIN_IMAGE 3) 256)))).map (·.ty) = some (.domain 65536 false) ∧ (addrKey (wAddr (Obj.DOMAIN_IMAGE 3 / 256) (Nat.mod (Obj.DOMAIN_IMAGE 3) 256))) ≠ Obj.ORDER_NUMBER ∧ (addrKey (wAddr (Obj.DOMAIN_IMAGE 3 / 256) (Nat.mod (Obj.DOMAIN_IMAGE 3) 256))) / 256 ∉ [0x843, 0x84B, 0x4090, 0x4091, 0x4092, 0x4093] ∧ s109.dev.fl.damaged = []) ∧
    (s109.dev.hostLive = true ∧ (wAt (wAddr (Obj.DOMAIN_IMAGE 3 / 256) (Nat.mod (Obj.DOMAIN_IMAGE 3) 256)) (beBytes 2 4096 ++ beBytes 4 4)).toNat = crc32c (addrBytes (wAddr (Obj.DOMAIN_IMAGE 3 / 256) (Nat.mod (Obj.DOMAIN_IMAGE 3) 256)) ++ (beBytes 2 4096 ++ beBytes 4 4)) ∧ (rowOf (addrKey (wAddr (Obj.DOMAIN_IMAGE 3 / 256) (Nat.mod (Obj.DOMAIN_IMAGE 3) 256)))).map (·.rights) ≠ some .wo ∧ (rowOf (addrKey (wAddr (Obj.DOMAIN_IMAGE 3 / 256) (Nat.mod (Obj.DOMAIN_IMAGE 3) 256)))).map (·.ty) = some (.domain 65536 false) ∧ (addrKey (wAddr (Obj.DOMAIN_IMAGE 3 / 256) (Nat.mod (Obj.DOMAIN_IMAGE 3) 256))) ≠ Obj.ORDER_NUMBER ∧ (addrKey (wAddr (Obj.DOMAIN_IMAGE 3 / 256) (Nat.mod (Obj.DOMAIN_IMAGE 3) 256))) / 256 ∉ [0x843, 0x84B, 0x4090, 0x4091, 0x4092, 0x4093] ∧ s109.dev.fl.damaged = []) ∧
    (s109.dev.hostLive = true ∧ (wAt (wAddr (Obj.DOMAIN_IMAGE 3 / 256) (Nat.mod (Obj.DOMAIN_IMAGE 3) 256)) (beBytes 2 1 ++ beBytes 4 5)).toNat = crc32c (addrBytes (wAddr (Obj.DOMAIN_IMAGE 3 / 256) (Nat.mod (Obj.DOMAIN_IMAGE 3) 256)) ++ (beBytes 2 1 ++ beBytes 4 5)) ∧ (rowOf (addrKey (wAddr (Obj.DOMAIN_IMAGE 3 / 256) (Nat.mod (Obj.DOMAIN_IMAGE 3) 256)))).map (·.rights) ≠ some .wo ∧ (rowOf (addrKey (wAddr (Obj.DOMAIN_IMAGE 3 / 256) (Nat.mod (Obj.DOMAIN_IMAGE 3) 256)))).map (·.ty) = some (.domain 65536 false) ∧ (addrKey (wAddr (Obj.DOMAIN_IMAGE 3 / 256) (Nat.mod (Obj.DOMAIN_IMAGE 3) 256))) ≠ Obj.ORDER_NUMBER ∧ (addrKey (wAddr (Obj.DOMAIN_IMAGE 3 / 256) (Nat.mod (Obj.DOMAIN_IMAGE 3) 256))) / 256 ∉ [0x843, 0x84B, 0x4090, 0x4091, 0x4092, 0x4093] ∧ s109.dev.fl.damaged = []) ∧
    (s109.dev.hostLive = true ∧ (wAt (wAddr (Obj.DOMAIN_IMAGE 3 / 256) (Nat.mod (Obj.DOMAIN_IMAGE 3) 256)) (beBytes 2 0 ++ beBytes 4 0)).toNat = crc32c (addrBytes (wAddr (Obj.DOMAIN_IMAGE 3 / 256) (Nat.mod (Obj.DOMAIN_IMAGE 3) 256)) ++ (beBytes 2 0 ++ beBytes 4 0)) ∧ (rowOf (addrKey (wAddr (Obj.DOMAIN_IMAGE 3 / 256) (Nat.mod (Obj.DOMAIN_IMAGE 3) 256)))).map (·.rights) ≠ some .wo ∧ (rowOf (addrKey (wAddr (Obj.DOMAIN_IMAGE 3 / 256) (Nat.mod (Obj.DOMAIN_IMAGE 3) 256)))).map (·.ty) = some (.domain 65536 false) ∧ (addrKey (wAddr (Obj.DOMAIN_IMAGE 3 / 256) (Nat.mod (Obj.DOMAIN_IMAGE 3) 256))) ≠ Obj.ORDER_NUMBER ∧ (addrKey (wAddr (Obj.DOMAIN_IMAGE 3 / 256) (Nat.mod (Obj.DOMAIN_IMAGE 3) 256))) / 256 ∉ [0x843, 0x84B, 0x4090, 0x4091, 0x4092, 0x4093] ∧ s109.dev.fl.damaged = []) ∧
    (s109.dev.hostLive = true ∧ (wAt (wAddr (Obj.DOMAIN_IMAGE 3 / 256) (Nat.mod (Obj.DOMAIN_IMAGE 3) 256)) (beBytes 2 4097 ++ beBytes 4 0)).toNat = crc32c (addrBytes (wAddr (Obj.DOMAIN_IMAGE 3 / 256) (Nat.mod (Obj.DOMAIN_IMAGE 3) 256)) ++ (beBytes 2 4097 ++ beBytes 4 0)) ∧ (rowOf (addrKey (wAddr (Obj.DOMAIN_IMAGE 3 / 256) (Nat.mod (Obj.DOMAIN_IMAGE 3) 256)))).map (·.rights) ≠ some .wo ∧ (rowOf (addrKey (wAddr (Obj.DOMAIN_IMAGE 3 / 256) (Nat.mod (Obj.DOMAIN_IMAGE 3) 256)))).map (·.ty) = some (.domain 65536 false) ∧ (addrKey (wAddr (Obj.DOMAIN_IMAGE 3 / 256) (Nat.mod (Obj.DOMAIN_IMAGE 3) 256))) ≠ Obj.ORDER_NUMBER ∧ (addrKey (wAddr (Obj.DOMAIN_IMAGE 3 / 256) (Nat.mod (Obj.DOMAIN_IMAGE 3) 256))) / 256 ∉ [0x843, 0x84B, 0x4090, 0x4091, 0x4092, 0x4093] ∧ s109.dev.fl.damaged = []) ∧
    (run.dev.hostLive = true ∧ (wAt (wAddr (Obj.REF_AUTO / 256) (Nat.mod Obj.REF_AUTO 256)) (beBytes 2 2 ++ beBytes 4 0)).toNat = crc32c (addrBytes (wAddr (Obj.REF_AUTO / 256) (Nat.mod Obj.REF_AUTO 256)) ++ (beBytes 2 2 ++ beBytes 4 0)) ∧ (rowOf (addrKey (wAddr (Obj.REF_AUTO / 256) (Nat.mod Obj.REF_AUTO 256)))).map (·.rights) ≠ some .wo ∧ (rowOf (addrKey (wAddr (Obj.REF_AUTO / 256) (Nat.mod Obj.REF_AUTO 256)))).map (·.ty.isDomain) = some false) :=
  by and_intros <;> decide +kernel

def s110 : State := on (withObjs [(Obj.DEVICE_STATE, 3), (Obj.CONFIGURED 0, 1), (Obj.CTX_DOMAIN 0, 1), (Obj.CYCLE_TAG 0, 5)]) (fun d => { d with axes := upd (fun a => { a with published := true }) d.axes 0, cyc := { d.cyc with tag := 5 }, acc := { d.acc with seen := [] } })
def s111 : State := on (withObjs [(Obj.DEVICE_STATE, 3), (Obj.CONFIGURED 0, 1), (Obj.CTX_DOMAIN 0, 1), (Obj.CYCLE_TAG 0, 4)]) (fun d => { d with axes := upd (fun a => { a with published := true }) d.axes 0, cyc := { d.cyc with tag := 5 }, acc := { d.acc with seen := [] } })
def s112 : State := on (withObjs [(Obj.DEVICE_STATE, 4), (Obj.CONFIGURED 0, 1), (Obj.CTX_DOMAIN 0, 1), (Obj.CYCLE_TAG 0, 5)]) (fun d => { d with axes := upd (fun a => { a with published := true }) d.axes 0, cyc := { d.cyc with tag := 5 }, acc := { d.acc with seen := [] } })
def s113 : State := on (withObjs [(Obj.DEVICE_STATE, 2), (Obj.CONFIGURED 0, 1), (Obj.CTX_DOMAIN 0, 1), (Obj.CYCLE_TAG 0, 5)]) (fun d => { d with axes := upd (fun a => { a with published := true }) d.axes 0, cyc := { d.cyc with tag := 5 }, acc := { d.acc with seen := [(0, 6)] } })
def s114 : State := on (withObjs [(Obj.DEVICE_STATE, 3), (Obj.CONFIGURED 0, 1), (Obj.CTX_DOMAIN 0, 1), (Obj.CYCLE_TAG 0, 5)]) (fun d => { d with axes := upd (fun a => { a with published := true }) d.axes 0, cyc := { d.cyc with tag := 5 }, acc := { d.acc with seen := [(0, 5)] } })

theorem test_witness_ResultsAreReadBySets :
    (run.dev.hostLive = true ∧ (rowOf (addrKey (wAddr 0xA031 1))).map (·.rights) = some .ro ∧ (rowOf (addrKey (wAddr 0xA031 1))).map (·.ty.isDomain) = some false ∧ resultCtx (addrKey (wAddr 0xA031 1)) = some 0 ∧ (run.dev.configured 0 && (run.dev.axis 0).published) = false) ∧
    (∀ c : Fin 136, (wAddr 0xA031 0).index.toNat ≠ 0xA030 + 0x40 * c.val) ∧
    (s110.dev.hostLive = true ∧ (rowOf (addrKey (wAddr 0xA031 1))).map (·.rights) = some .ro ∧ (rowOf (addrKey (wAddr 0xA031 1))).map (·.ty.isDomain) = some false ∧ resultCtx (addrKey (wAddr 0xA031 1)) = some 0 ∧ (s110.dev.configured 0 && (s110.dev.axis 0).published) = true ∧ s110.dev.domOf 0 < 2 ∧ s110.dev.fl.damaged = []) ∧
    (s111.dev.hostLive = true ∧ (rowOf (addrKey (wAddr 0xA031 1))).map (·.rights) = some .ro ∧ (rowOf (addrKey (wAddr 0xA031 1))).map (·.ty.isDomain) = some false ∧ resultCtx (addrKey (wAddr 0xA031 1)) = some 0 ∧ (s111.dev.configured 0 && (s111.dev.axis 0).published) = true ∧ s111.dev.domOf 0 < 2 ∧ s111.dev.fl.damaged = []) ∧
    (s112.dev.hostLive = true ∧ (rowOf (addrKey (wAddr 0xA031 1))).map (·.rights) = some .ro ∧ (rowOf (addrKey (wAddr 0xA031 1))).map (·.ty.isDomain) = some false ∧ resultCtx (addrKey (wAddr 0xA031 1)) = some 0 ∧ (s112.dev.configured 0 && (s112.dev.axis 0).published) = true ∧ s112.dev.domOf 0 < 2 ∧ s112.dev.fl.damaged = []) ∧
    (s113.dev.hostLive = true ∧ (rowOf (addrKey (wAddr 0xA031 1))).map (·.rights) = some .ro ∧ (rowOf (addrKey (wAddr 0xA031 1))).map (·.ty.isDomain) = some false ∧ resultCtx (addrKey (wAddr 0xA031 1)) = some 0 ∧ (s113.dev.configured 0 && (s113.dev.axis 0).published) = true ∧ s113.dev.domOf 0 < 2 ∧ s113.dev.fl.damaged = []) ∧
    (s114.dev.hostLive = true ∧ (rowOf (addrKey (wAddr 0xA031 1))).map (·.rights) = some .ro ∧ (rowOf (addrKey (wAddr 0xA031 1))).map (·.ty.isDomain) = some false ∧ resultCtx (addrKey (wAddr 0xA031 1)) = some 0 ∧ (s114.dev.configured 0 && (s114.dev.axis 0).published) = true ∧ s114.dev.domOf 0 < 2 ∧ s114.dev.fl.damaged = []) :=
  by and_intros <;> decide +kernel

def s115 : State := on run (fun d => { d with evq := { d.evq with episode := 0, queue := List.replicate 0 { source := 9, cls := 1, seq := 3, time := 4, data := 5, occ := 6 } } })
def s116 : State := on run (fun d => { d with evq := { d.evq with episode := 0, queue := List.replicate 1 { source := 9, cls := 1, seq := 3, time := 4, data := 5, occ := 6 } } })
def s117 : State := on run (fun d => { d with evq := { d.evq with episode := 8, queue := List.replicate 1 { source := 9, cls := 1, seq := 3, time := 4, data := 5, occ := 6 } } })
def s118 : State := on run (fun d => { d with evq := { d.evq with episode := 0, queue := List.replicate 3 { source := 9, cls := 1, seq := 3, time := 4, data := 5, occ := 6 } } })
def s119 : State := on run (fun d => { d with evq := { d.evq with episode := 8, queue := List.replicate 3 { source := 9, cls := 1, seq := 3, time := 4, data := 5, occ := 6 } } })
def s120 : State := on run (fun d => { d with evq := { d.evq with episode := 9, queue := List.replicate 64 { source := 9, cls := 1, seq := 3, time := 4, data := 5, occ := 6 } } })
def s121 : State := on run (fun d => { d with evq := { d.evq with episode := 0, queue := List.replicate 2 { source := 9, cls := 1, seq := 3, time := 4, data := 5, occ := 6 } } })

theorem test_witness_EventPopTakesTheOldestRecord :
    (s115.dev.hostLive = true ∧ (wAddr 0 0).index.toNat = 0 ∧ (wAddr 1 0).index.toNat ≠ 0 ∧ s115.dev.evq.queue = []) ∧
    (s116.dev.evq.queue ≠ [] ∧ s116.dev.evq.episode = 0) ∧
    (s117.dev.evq.queue ≠ [] ∧ s117.dev.evq.episode ≠ 0 ∧ (s117.dev.evq.queue.drop 1).length < 64) ∧
    (s117.dev.evq.episode ≠ 0 ∧ s117.dev.evq.queue.length < 64) ∧
    (s118.dev.evq.queue ≠ [] ∧ s118.dev.evq.episode = 0) ∧
    (s119.dev.evq.queue ≠ [] ∧ s119.dev.evq.episode ≠ 0 ∧ (s119.dev.evq.queue.drop 1).length < 64) ∧
    (s119.dev.evq.episode ≠ 0 ∧ s119.dev.evq.queue.length < 64) ∧
    (s118.dev.evq.episode = 0 ∨ 64 ≤ s118.dev.evq.queue.length) ∧
    (s120.dev.evq.episode = 0 ∨ 64 ≤ s120.dev.evq.queue.length) ∧
    ((0x77 : Byte).toNat ∉ [0x03, 0x02, 0x12, 0x0D, 0x23, 0x22, 0x1E]) :=
  by and_intros <;> decide +kernel

def s122 : State := on run (fun d => { d with now := 500, tb := { d.tb with ns := 500, running := true }, tally := { d.tally with timed := List.replicate 2 { w := run.waiting .host 5 6, sec := 9, ns := 9 } } })
def s123 : State := on run (fun d => { d with now := 500, tb := { d.tb with ns := 500, running := true }, tally := { d.tally with timed := List.replicate 64 { w := run.waiting .host 5 6, sec := 9, ns := 9 } } })
def s124 : State := on run (fun d => { d with now := 500, tb := { d.tb with ns := 500, running := true }, tally := { d.tally with timed := List.replicate 63 { w := run.waiting .host 5 6, sec := 9, ns := 9 } } })
def s125 : State := on run (fun d => d.setObjB (Obj.CAN_ENABLE 0) true)

theorem test_witness_AcceptableWritesWaitForTheirBoundary :
    (isOpen s122 .host = true ∧ addrKey (wAddr (Obj.PRE_COUNT 0 / 256) (Nat.mod (Obj.PRE_COUNT 0) 256)) = (Obj.PRE_COUNT 0) ∧ (rowOf (Obj.PRE_COUNT 0)).any (okWrite s122 (Obj.PRE_COUNT 0) 70000) = true ∧ (rowOf (Obj.PRE_COUNT 0)).map (·.ty.size) = some 4 ∧ (wAt (wAddr (Obj.PRE_COUNT 0 / 256) (Nat.mod (Obj.PRE_COUNT 0) 256)) (beBytes 2 4 ++ (beBytes 4 70000))).toNat = crc32c (addrBytes (wAddr (Obj.PRE_COUNT 0 / 256) (Nat.mod (Obj.PRE_COUNT 0) 256)) ++ (beBytes 2 4 ++ (beBytes 4 70000)))) ∧
    (s122.dev.obj Obj.COMPARE_MODE = 0 ∧ (500 : BitVec 80).toNat % 2 ^ 32 < 1000000000 ∧ nsOfTime80 (500 : BitVec 80).toNat ≤ s122.dev.timeNs 0) ∧
    (s123.dev.timeNs 0 < nsOfTime80 (501 : BitVec 80).toNat ∧ 64 ≤ s123.dev.tally.timed.length) ∧
    (s124.dev.timeNs 0 < nsOfTime80 (501 : BitVec 80).toNat ∧ s124.dev.tally.timed.length < 64) ∧
    (isOpen s125 .host = true ∧ (rowOf (addrKey (wAddr 0x841 0))).map (·.rights) = some .wo ∧ (rowOf (addrKey (wAddr 0x841 0))).map (·.ty) = some (.domain 69 false) ∧ vendorDomain (addrKey (wAddr 0x841 0)) = false ∧ addrKey (wAddr 0x841 0) / 256 ≠ 0x821 ∧ (tget (fun _ => []) s125.dev.tally.staging (addrKey (wAddr 0x841 0))).length ≠ 3) ∧
    (isOpen s125 .host = true ∧ (rowOf (addrKey (wAddr 0x841 0))).map (·.rights) = some .wo ∧ (rowOf (addrKey (wAddr 0x841 0))).map (·.ty) = some (.domain 69 false) ∧ vendorDomain (addrKey (wAddr 0x841 0)) = false ∧ addrKey (wAddr 0x841 0) / 256 ≠ 0x821 ∧ ([0x00, 0, 0, 5, 2, 0xAA, 0xBB] : List Byte).length ≤ 69 ∧ s125.dev.domainStatus (addrKey (wAddr 0x841 0)) 0 [0x00, 0, 0, 5, 2, 0xAA, 0xBB] = 0) ∧
    ((canFrameOf [0x00, 0, 0, 5, 2, 0xAA, 0xBB]).isSome = true ∧ (s125.dev.canPort 0).busOff = false ∧ (s125.dev.canPort 0).txq.length < 16) :=
  by and_intros <;> decide +kernel

theorem test_witness_WritesThatMayNotBeMadeAreRejected :
    (bootS.dev.reaches .host = false) ∧
    (run.dev.reaches .host = true ∧ rowOf 0xFFFF09 = none) ∧
    (hold.dev.reaches .host = true ∧ (rowOf (Obj.PRE_COUNT 0)).map (·.ty.isDomain) = some false ∧ hold.dev.state = stSafeHold ∧ (Obj.PRE_COUNT 0) ≠ Obj.HOST_MODE ∧ (Obj.PRE_COUNT 0) / 256 ≠ 0x611) ∧
    (run.dev.reaches .host = true ∧ (rowOf Obj.SERIAL).map (·.ty.isDomain) = some false ∧ run.dev.state ≠ stSafeHold ∧ (rowOf Obj.SERIAL).map (·.rights) = some .ro) ∧
    (config.dev.reaches .host = true ∧ (rowOf (Obj.SELFTEST_MAX_INTERVAL)).map (·.ty.isDomain) = some false ∧ (rowOf (Obj.SELFTEST_MAX_INTERVAL)).map (·.rights) = some .rws ∧ vendorDomain (Obj.SELFTEST_MAX_INTERVAL) = false ∧ config.dev.inSafety .host = false) ∧
    (run.dev.reaches .host = true ∧ (rowOf (Obj.LINK_ENABLE 0)).map (·.ty.isDomain) = some false ∧ (rowOf (Obj.LINK_ENABLE 0)).map (·.rights) = some .rwc ∧ vendorDomain (Obj.LINK_ENABLE 0) = false ∧ run.dev.state ≠ stConfig ∧ (Obj.LINK_ENABLE 0) / 256 ≠ 0x821) ∧
    (run.dev.reaches .host = true ∧ (rowOf (Obj.PRE_COUNT 0)).map (·.ty.isDomain) = some false ∧ (rowOf (Obj.PRE_COUNT 0)).map (·.rights) = some .rw ∧ vendorDomain (Obj.PRE_COUNT 0) = false ∧ (Obj.PRE_COUNT 0) / 256 ≠ 0x821 ∧ run.dev.isHead = true ∧ (rowOf (Obj.PRE_COUNT 0)).map (·.ty.size) ≠ some 1) ∧
    (run.dev.reaches .host = true ∧ (rowOf (Obj.LEG_COMMAND 0)).map (·.ty.isDomain) = some false ∧ (rowOf (Obj.LEG_COMMAND 0)).map (·.rights) = some .wo ∧ vendorDomain (Obj.LEG_COMMAND 0) = false ∧ (Obj.LEG_COMMAND 0) / 256 ≠ 0x821 ∧ run.dev.isHead = true ∧ (rowOf (Obj.LEG_COMMAND 0)).map (·.ty.size) = some 1 ∧ (rowOf (Obj.LEG_COMMAND 0)).map (·.ty) ≠ some .gain ∧ (rowOf (Obj.LEG_COMMAND 0)).map (·.ty) ≠ some .pu ∧ (rowOf (Obj.LEG_COMMAND 0)).map (fun r => r.chk.ok r.ty (ofBe [9])) = some false) :=
  by and_intros <;> decide +kernel

def wPeer : Peer := { ip := 0xC0A80002, udp := 4321, eth := 0 }
def wKey : List Byte := List.replicate 32 0x11
/-- Ethernet runs, both links up, an own address and one stored key. -/
def wNet (l : List (Nat × Nat)) (f : Dev → Dev) : State :=
  on (withObjs ([(Obj.DEVICE_STATE, 3), (Obj.IPV4_ADDRESS, 0xC0A80001), (Obj.LINK 0, 1), (Obj.LINK 1, 1), (Obj.MAC_ADDRESS 0, 0x112233445566),
    (Obj.MAC_ADDRESS 1, 0x112233445567)] ++ l)) (fun d => f (({ d with now := 5000000000, tb := { d.tb with ns := 5000, running := true } } : Dev).setBlob (Obj.SESSION_KEY 0) wKey))
def wSess (safety : Bool) : Session :=
  { isOpen := true, safety := safety, ip := 0xC0A80002, port := 4321, eth := 0, key := wKey, seqRx := 6, seqTx := 0, lastValidAt := 100 }
def wOn (safety : Bool) : State := wNet [(Obj.SESSION_STATE 0, 1), (Obj.SESSION_TIMEOUT, 4)] (fun d => d.updSession 0 (fun _ => wSess safety))
def wOpenGram : List Byte := tallyDatagram wKey 0x80 0 0 (0 :: List.replicate 16 9)
def wGram (kind seq : Nat) (body : List Byte) : List Byte := tallyDatagram wKey kind 1 seq body
def wBody : List Byte := [0x02, 3] ++ beBytes 2 (Obj.PRE_COUNT 0 / 256) ++ beBytes 1 (Obj.PRE_COUNT 0 % 256) ++ [0] ++ beBytes 2 4 ++ beBytes 4 70000

def s126 : State := wNet [] (fun d => { d with acc := { d.acc with openBlocked := true, blockedAt := 4999999999 } })
def s127 : State := wNet [(Obj.SESSION_EVENT_MASK 0 3, 255)] (fun d => d)
def s128 : State := wNet [] (fun d => { d with acc := { d.acc with sessions := List.replicate 8 (wSess false) } })
def s129 : State := wNet [] (fun d => { d with acc := { d.acc with openFails := List.replicate 14 4500000000 } })
def s130 : State := wNet [] (fun d => { d with acc := { d.acc with openFails := List.replicate 15 4500000000 } })

theorem test_witness_TallyOverUdpKeepsItsSessions :
    (udpKind wOpenGram = 0x80 ∧ s126.dev.udpOpenFor wPeer = true ∧ s126.dev.acc.openBlocked = true) ∧
    (udpKind wOpenGram = 0x80 ∧ s127.dev.udpOpenFor wPeer = true ∧ s127.dev.acc.openBlocked = false ∧ fieldAt wOpenGram 12 1 = 0 ∧ s127.dev.slotKey 0 = some wKey ∧ (udpFormOk wOpenGram && fieldAt wOpenGram 10 2 == 17 && fieldAt wOpenGram 4 2 == 0 && udpTagOk wKey wOpenGram) = true ∧ s127.dev.freeSlot (16 ≤ 0) = some 0 ∧ 0 < s127.dev.acc.sessions.length) ∧
    (s128.dev.freeSlot (16 ≤ 0) = none) ∧
    (wOpenGram.length ≤ 1472 ∧ s129.dev.slotKey 1 = none) ∧
    (wOpenGram.length ≤ 1472 ∧ s130.dev.slotKey 1 = none) ∧
    ((wOn false).dev.udpOpenFor wPeer = true ∧ udpKind (wGram 1 6 []) ∉ [0x80, 0x82] ∧ (wOn false).dev.udpValid wPeer (wGram 1 6 []) = none) ∧
    ((wOn false).dev.udpValid wPeer (wGram 5 7 []) = some 0 ∧ udpKind (wGram 5 7 []) ≠ 1) ∧
    ((wOn false).dev.udpValid wPeer (wGram 1 7 wBody) = some 0 ∧ udpKind (wGram 1 7 wBody) = 1 ∧ ((wGram 1 7 wBody).drop 12).take (fieldAt (wGram 1 7 wBody) 10 2) = wBody ∧ isOpen (wOn false) (.session 0) = true ∧ (rowOf (Obj.PRE_COUNT 0)).any (okWrite (wOn false) (Obj.PRE_COUNT 0) 70000) = true ∧ (rowOf (Obj.PRE_COUNT 0)).map (·.ty.size) = some 4) ∧
    (udpKind (wGram 0x82 6 []) = 0x82 ∧ (wOn false).dev.udpValid wPeer (wGram 0x82 6 []) = none) ∧
    ((wOn true).dev.udpValid wPeer (wGram 0x82 7 []) = some 0 ∧ ((wOn true).dev.session 0).safety = true ∧ (((wOn true).dev.session 0).isOpen && decide (((wOn true).dev.session 0).lastValidAt + (wOn true).dev.obj Obj.SESSION_TIMEOUT * 1000000000 ≤ (wOn true).dev.now)) = true) ∧
    ((((wNet [] (fun d => d)).dev.session 0).isOpen && decide (((wNet [] (fun d => d)).dev.session 0).lastValidAt + (wNet [] (fun d => d)).dev.obj Obj.SESSION_TIMEOUT * 1000000000 ≤ (wNet [] (fun d => d)).dev.now)) = false ∧ (wNet [] (fun d => d)).dev.ethRuns = true ∧ (wNet [] (fun d => d)).dev.obj (Obj.LINK 0) ≠ 0 ∧ (wNet [] (fun d => d)).dev.ownsIp (5 : BitVec 32).toNat = false ∧ (wNet [] (fun d => d)).dev.ownsIp (0xC0A80001 : BitVec 32).toNat = true ∧ (wNet [] (fun d => d)).dev.poolFits 3 1 = true ∧ ((wNet [] (fun d => d)).dev.ethPort 0).busy = false) :=
  by and_intros <;> decide +kernel

/-- CAN port 0 in use, with one filter that passes every standard identifier. -/
def wCan (l : List (Nat × Nat)) (f : CanPort → CanPort) : State :=
  on (withObjs ([(Obj.DEVICE_STATE, 3), (Obj.CAN_ENABLE 0, 1)] ++ l)) (fun d => { d with can := upd f d.can 0 })
def wFrame : CanFrame := { ext := false, fd := false, brs := false, id := 5, data := [1, 2] }
def wFilter : Nat × Nat := (Obj.RX_FILTER 0 3, 2 ^ 63 + 5 * 2 ^ 32)

def s131 : State := wCan [] (fun c => { c with rxErr := 254 })
def s132 : State := wCan [wFilter, (Obj.POOL_IN_USE 4, 2048)] (fun c => c)
def s133 : State := wCan [] (fun c => { c with rxq := [(wFrame, 7), (wFrame, 8)] })
def s134 : State := wCan [] (fun c => { c with txq := [wFrame, wFrame], txErr := 247 })
def s135 : State := wCan [] (fun c => { c with txq := [wFrame, wFrame], txErr := 248 })
def s136 : State := wCan [] (fun c => { c with txq := [wFrame, wFrame], txErr := 0 })
def s137 : State := wCan [(Obj.CAN_STATUS 0, 0x02000000)] (fun c => { c with txq := [wFrame], txErr := 256, busOff := true })

theorem test_witness_CanPortsQueueAndDeliver :
    (run.dev.can.length = 2 ∧ canFormOk wFrame = true ∧ run.dev.canLive 0 = false) ∧
    ((wCan [] (fun c => c)).dev.can.length = 2 ∧ canFormOk wFrame = true ∧ (wCan [] (fun c => c)).dev.canLive 0 = true ∧ wFrame.fd ≠ true ∧ (wCan [] (fun c => c)).dev.canIsSafe 0 wFrame.ext wFrame.id.toNat = false ∧ ∀ i : Fin 32, filterPasses ((wCan [] (fun c => c)).dev.obj (Obj.RX_FILTER 0 i.val)) wFrame = false) ∧
    (s131.dev.can.length = 2 ∧ canFormOk wFrame = true ∧ s131.dev.canLive 0 = true ∧ wFrame.fd ≠ true ∧ s131.dev.canIsSafe 0 wFrame.ext wFrame.id.toNat = false) ∧
    ((wCan [wFilter] (fun c => c)).dev.can.length = 2 ∧ canFormOk wFrame = true ∧ (wCan [wFilter] (fun c => c)).dev.canLive 0 = true ∧ wFrame.fd ≠ true ∧ (wCan [wFilter] (fun c => c)).dev.canIsSafe 0 wFrame.ext wFrame.id.toNat = false ∧ filterPasses ((wCan [wFilter] (fun c => c)).dev.obj (Obj.RX_FILTER 0 3)) wFrame = true ∧ (wCan [wFilter] (fun c => c)).dev.poolFits (4 + 0) (buffersOf (wFrame.data.length + 15)) = true) ∧
    (s132.dev.can.length = 2 ∧ canFormOk wFrame = true ∧ s132.dev.canLive 0 = true ∧ wFrame.fd ≠ true ∧ s132.dev.canIsSafe 0 wFrame.ext wFrame.id.toNat = false ∧ filterPasses (s132.dev.obj (Obj.RX_FILTER 0 3)) wFrame = true ∧ s132.dev.poolFits (4 + 0) (buffersOf (wFrame.data.length + 15)) = false) ∧
    ((wCan [] (fun c => c)).dev.reaches .host = true ∧ (∀ e ∈ (wCan [] (fun c => c)).dev.fl.damaged, e.1 ≠ Obj.CAN_RX 0) ∧ ((wCan [] (fun c => c)).dev.canPort 0).rxq = []) ∧
    (s133.dev.reaches .host = true ∧ (∀ e ∈ s133.dev.fl.damaged, e.1 ≠ Obj.CAN_RX 0) ∧ (s133.dev.canPort 0).rxq = (wFrame, 7) :: [(wFrame, 8)] ∧ wFrame.data.length ≤ 64) ∧
    (canFrameOf [0, 0, 0, 5, 2, 1, 2] = some wFrame ∧ (wCan [] (fun c => c)).dev.objB (Obj.CAN_ENABLE 0) = true ∧ (wCan [] (fun c => c)).dev.isHead = true ∧ ((wCan [] (fun c => c)).dev.canPort 0).txq = [] ∧ ((wCan [] (fun c => c)).dev.canPort 0).busOff = false) ∧
    (s134.dev.canLive 0 = true ∧ (s134.dev.canPort 0).txq = wFrame :: [wFrame]) ∧
    (s135.dev.canLive 0 = true ∧ (s135.dev.canPort 0).txq = wFrame :: [wFrame]) ∧
    (s136.dev.canLive 0 = true ∧ (s136.dev.canPort 0).txq = wFrame :: [wFrame]) ∧
    ((s137.dev.canPort 0).busOff = true) :=
  by and_intros <;> decide +kernel

def wEthFrame (dst etype : Nat) (rest : List Byte) : List Byte :=
  let f := beBytes 6 dst ++ beBytes 6 0xAABBCCDDEEFF ++ beBytes 2 etype ++ rest
  f ++ List.replicate (60 - f.length) 0
def wPlain : List Byte := wEthFrame 0x010203040506 0x1234 [1, 2, 3]
def wPtp : List Byte := wEthFrame 0x010203040506 0x88F7 [0, 2, 0, 44]
def wIp6 : List Byte := wEthFrame 0x010203040506 0x86DD
  ([0x60, 0, 0, 0, 0, 60, 17, 64] ++ List.replicate 32 0 ++ beBytes 2 5 ++ beBytes 2 319 ++ beBytes 2 52 ++ [0, 0] ++ [0, 2] ++ List.replicate 42 0)

def s138 : State := wNet [(Obj.TC_ENABLE, 1)] (fun d => d)
def s139 : State := wNet [] (fun d => { d with eth := upd (fun e => { e with busy := true, sending := none }) d.eth 1 })
def s140 : State := wNet [(Obj.POOL_IN_USE 2, 2048)] (fun d => { d with eth := upd (fun e => { e with busy := true, sending := none }) d.eth 1 })
def s141 : State := wNet [(Obj.POOL_IN_USE 2, 1)] (fun d => { d with eth := upd (fun e => { e with busy := true, queue := [{ cls := 2, payload := .raw wPlain, ingress := none, channel := 2, buffers := 1 }] }) d.eth 1 })
def s142 : State := wNet [(Obj.TC_ENABLE, 0)] (fun d => d)
def s143 : State := wNet [(Obj.TC_ENABLE, 1)] (fun d => { d with eth := upd (fun e => { e with busy := true, sending := none }) d.eth 1 })
def s144 : State := wNet [(Obj.TC_ENABLE, 1), (Obj.POOL_IN_USE 2, 1)] (fun d => { d with eth := upd (fun e => { e with busy := true, queue := [{ cls := 0, payload := .raw wPtp, ingress := some 70, channel := 2, buffers := 1 }] }) d.eth 1 })

theorem test_witness_EthernetForwardsAndCorrects :
    (bootS.dev.ethRuns = false ∧ 60 ≤ wPlain.length ∧ wPlain.length ≤ 1518) ∧
    ((wNet [] (fun d => d)).dev.ethRuns = true ∧ (wNet [] (fun d => d)).dev.obj (Obj.LINK 0) ≠ 0 ∧ fieldAt (wEthFrame 0x112233445566 0x1234 []) 0 6 = (wNet [] (fun d => d)).dev.obj (Obj.MAC_ADDRESS 0) ∧ isIpv6Event (wEthFrame 0x112233445566 0x1234 []) = false) ∧
    (isIpv6Event wIp6 = true ∧ wIp6.length ≤ 1518) ∧
    ((wNet [] (fun d => d)).dev.obj (Obj.LINK 1) ≠ 0 ∧ (wNet [] (fun d => d)).dev.isOwnMac wPlain = false ∧ isIpv6Event wPlain = false ∧ isEventMessage wPlain = none ∧ ((wNet [] (fun d => d)).dev.ethPort 1).busy = false) ∧
    (s138.dev.isOwnMac wPtp = false ∧ isIpv6Event wPtp = false ∧ (isEventMessage wPtp).isSome = true ∧ s138.dev.objB Obj.TC_ENABLE = true ∧ (s138.dev.ethPort 1).busy = false) ∧
    (s139.dev.obj (Obj.LINK 1) ≠ 0 ∧ s139.dev.isOwnMac wPlain = false ∧ isIpv6Event wPlain = false ∧ isEventMessage wPlain = none ∧ (s139.dev.ethPort 1).busy = true ∧ s139.dev.poolFits 2 (buffersOf wPlain.length) = true) ∧
    ((s140.dev.ethPort 1).busy = true ∧ s140.dev.poolFits 2 (buffersOf wPlain.length) = false) ∧
    ((s139.dev.ethPort 1).queue = [] ∧ (s139.dev.ethPort 1).sending = none) ∧
    (s141.dev.ethRuns = true ∧ pickFrame (s141.dev.ethPort 1).queue = some { cls := 2, payload := .raw wPlain, ingress := none, channel := 2, buffers := 1 }) ∧
    (decide ((wNet [] (fun d => d)).dev.obj (Obj.LINK 0) ≠ 0) = true ∧ decide ((wNet [] (fun d => d)).dev.obj (Obj.LINK 0) ≠ 0) ≠ false) ∧
    (decide (run.dev.obj (Obj.LINK 0) ≠ 0) ≠ true ∧ run.dev.tb.serdesStopped = false) ∧
    ((isEventMessage wPtp).isSome = true ∧ s142.dev.objB Obj.TC_ENABLE = false ∧ s142.dev.isOwnMac wPtp = false ∧ isIpv6Event wPtp = false ∧ (s142.dev.ethPort 1).busy = false) ∧
    ((isEventMessage wPtp).isSome = true ∧ s138.dev.objB Obj.TC_ENABLE = true ∧ (s138.dev.ethPort 1).busy = false) ∧
    ((s143.dev.ethPort 1).busy = true ∧ (isEventMessage wPtp).isSome = true ∧ s143.dev.poolFits 2 (buffersOf wPtp.length) = true) ∧
    (s144.dev.ethRuns = true ∧ pickFrame (s144.dev.ethPort 1).queue = some { cls := 0, payload := .raw wPtp, ingress := some 70, channel := 2, buffers := 1 } ∧ s144.dev.objB Obj.TC_ENABLE = true) :=
  by and_intros <;> decide +kernel

/-- The ordinary clock as a slave of master 77 on port 0, in a servo state, with its own state as given. -/
def wSlave (st : Nat) (l : List (Nat × Nat)) (f : Ptp → Ptp) : State :=
  wNet ([(Obj.PTP_ENABLE, 1), (Obj.PTP_ROLE, 1), (Obj.PTP_PORT, 0), (Obj.PTP_DOMAIN, 3), (Obj.MASTER_INGRESS, 0), (Obj.MASTER_IDENTITY, 77), (Obj.MASTER_PORT, 1),
    (Obj.CLOCK_IDENTITY, 88), (Obj.PTP_TRANSPORT, 1), (Obj.SERVO_STATE, st)] ++ l) (fun d => { d with ptp := f d.ptp })
def wHdr : PtpHdr := { ieee := true, version := 0x12, identity := 77, port := 1, domain := 3, seq := 6, corr := 65536, logInterval := 0 }
def wOther : PtpHdr := { wHdr with identity := 78 }
def wSet : AnnounceSet := { priority1 := 128, clockClass := 6, accuracy := 0x21, variance := 5, priority2 := 128, gmIdentity := 77,
                            stepsRemoved := 0, utcOffset := 37 }

def s145 : State := wSlave 4 [] (fun p => { p with syncSeq := 6, t1 := none, corrSync := 5 })
def s146 : State := wSlave 4 [(Obj.POOL_IN_USE 3, 2048)] (fun p => p)
def s147 : State := wSlave 4 [] (fun p => { p with t1 := some (4000), t2 := 4100, t3 := some 4200, reqSeq := 6, lastO := none, inLock := 15, corrSync := 700 })
def s148 : State := wSlave 4 [] (fun p => { p with t1 := some (-90000000), t2 := 4100, t3 := some 4200, reqSeq := 6, lastO := none, inLock := 15, corrSync := 700 })
def s149 : State := wSlave 4 [] (fun p => { p with t1 := some (4000), t2 := 4100, t3 := some 4200, reqSeq := 6, lastO := none, inLock := 3, corrSync := 700 })
def s150 : State := wSlave 4 [] (fun p => { p with t1 := some (-90000000), t2 := 4100, t3 := some 4200, reqSeq := 6, lastO := none, inLock := 3, corrSync := 700 })
def s151 : State := wSlave 1 [(Obj.MASTER_INGRESS, 0xFF)] (fun p => p)
def s152 : State := wSlave 1 [(Obj.MASTER_INGRESS, 0xFF)] (fun p => { p with foreign := [{ identity := 77, port := 1, ingress := 0, key := [128], since := none, lastAt := 4000000000, count := 1, interval := 1000000000, utc := 37 }] })
def s153 : State := wSlave 6 [(Obj.MASTER_INGRESS, 0xFF)] (fun p => { p with foreign := [{ identity := 77, port := 1, ingress := 0, key := [128], since := none, lastAt := 4000000000, count := 1, interval := 1000000000, utc := 37 }] })
def s154 : State := wSlave 4 [] (fun p => { p with lastAnnAt := 0, annInterval := 1000000000, yf := -7 * 65536 })
def s155 : State := wSlave 5 [] (fun p => { p with lastAnnAt := 0, annInterval := 1000000000, yf := -7 * 65536 })
def s156 : State := wSlave 2 [] (fun p => { p with lastAnnAt := 0, annInterval := 1000000000, yf := -7 * 65536 })
def s157 : State := wSlave 3 [] (fun p => { p with lastAnnAt := 0, annInterval := 1000000000, yf := -7 * 65536 })

theorem test_witness_PtpSlaveFollowsItsMaster :
    ((wSlave 4 [] (fun p => p)).dev.fromMaster 0 wOther = false) ∧
    (s145.dev.fromMaster 0 wHdr = true ∧ s145.dev.poolFits 3 1 = true ∧ s145.dev.ptp.syncSeq = wHdr.seq.toNat ∧ s145.dev.ptp.t1 = none) ∧
    (s146.dev.fromMaster 0 wHdr = true ∧ s146.dev.poolFits 3 1 = false) ∧
    (s147.dev.fromMaster 0 wHdr = true ∧ s147.dev.poolFits 3 1 = true ∧ (88 : BitVec 64).toNat = s147.dev.obj Obj.CLOCK_IDENTITY ∧ (1 : BitVec 16).toNat = 1 ∧ wHdr.seq.toNat = s147.dev.ptp.reqSeq ∧ s147.dev.ptp.t1 = some (4000) ∧ s147.dev.ptp.t3 = some 4200 ∧ s147.dev.ptp.lastO = none ∧ s147.dev.servo = 4 ∧ s147.dev.ptp.clampedLast = false) ∧
    (s148.dev.fromMaster 0 wHdr = true ∧ s148.dev.poolFits 3 1 = true ∧ (88 : BitVec 64).toNat = s148.dev.obj Obj.CLOCK_IDENTITY ∧ (1 : BitVec 16).toNat = 1 ∧ wHdr.seq.toNat = s148.dev.ptp.reqSeq ∧ s148.dev.ptp.t1 = some (-90000000) ∧ s148.dev.ptp.t3 = some 4200 ∧ s148.dev.ptp.lastO = none ∧ s148.dev.servo = 4 ∧ s148.dev.ptp.clampedLast = false) ∧
    (s149.dev.fromMaster 0 wHdr = true ∧ s149.dev.poolFits 3 1 = true ∧ (88 : BitVec 64).toNat = s149.dev.obj Obj.CLOCK_IDENTITY ∧ (1 : BitVec 16).toNat = 1 ∧ wHdr.seq.toNat = s149.dev.ptp.reqSeq ∧ s149.dev.ptp.t1 = some (4000) ∧ s149.dev.ptp.t3 = some 4200 ∧ s149.dev.ptp.lastO = none ∧ s149.dev.servo = 4 ∧ s149.dev.ptp.clampedLast = false) ∧
    (s150.dev.fromMaster 0 wHdr = true ∧ s150.dev.poolFits 3 1 = true ∧ (88 : BitVec 64).toNat = s150.dev.obj Obj.CLOCK_IDENTITY ∧ (1 : BitVec 16).toNat = 1 ∧ wHdr.seq.toNat = s150.dev.ptp.reqSeq ∧ s150.dev.ptp.t1 = some (-90000000) ∧ s150.dev.ptp.t3 = some 4200 ∧ s150.dev.ptp.lastO = none ∧ s150.dev.servo = 4 ∧ s150.dev.ptp.clampedLast = false) ∧
    ((wNet [] (fun d => d)).dev.slaveRuns = false) ∧
    ((wSlave 4 [] (fun p => p)).dev.fromMaster 0 wHdr = true ∧ (wSlave 4 [] (fun p => p)).dev.poolFits 3 1 = true) ∧
    (s151.dev.slaveRuns = true ∧ s151.dev.poolFits 3 1 = true ∧ s151.dev.ptpTakes 0 wHdr = true ∧ s151.dev.obj Obj.MASTER_INGRESS = 0xFF ∧ s151.dev.ptp.foreign.find? (fun f => f.identity == wHdr.identity.toNat && f.port == wHdr.port.toNat && f.ingress == 0) = none ∧ (∀ f ∈ s151.dev.ptp.foreign, f.since = none)) ∧
    (s152.dev.slaveRuns = true ∧ s152.dev.poolFits 3 1 = true ∧ s152.dev.ptpTakes 0 wHdr = true ∧ s152.dev.obj Obj.MASTER_INGRESS = 0xFF ∧ s152.dev.ptp.foreign.find? (fun f => f.identity == wHdr.identity.toNat && f.port == wHdr.port.toNat && f.ingress == 0) = some { identity := 77, port := 1, ingress := 0, key := [128], since := none, lastAt := 4000000000, count := 1, interval := 1000000000, utc := 37 } ∧ s152.dev.now ≤ 4000000000 + 4 * 1000000000 ∧ (∀ f ∈ s152.dev.ptp.foreign, f.since = none)) ∧
    (s153.dev.slaveRuns = true ∧ s153.dev.poolFits 3 1 = true ∧ s153.dev.ptpTakes 0 wHdr = true ∧ s153.dev.obj Obj.MASTER_INGRESS = 0xFF ∧ s153.dev.ptp.foreign.find? (fun f => f.identity == wHdr.identity.toNat && f.port == wHdr.port.toNat && f.ingress == 0) = some { identity := 77, port := 1, ingress := 0, key := [128], since := none, lastAt := 4000000000, count := 1, interval := 1000000000, utc := 37 } ∧ s153.dev.now ≤ 4000000000 + 4 * 1000000000 ∧ (∀ f ∈ s153.dev.ptp.foreign, f.since = none)) ∧
    (s154.dev.slaveRuns = true ∧ s154.dev.obj Obj.MASTER_INGRESS ≠ 0xFF ∧ decide (s154.dev.ptp.lastAnnAt + s154.dev.obj Obj.ANNOUNCE_RECEIPT_TIMEOUT * s154.dev.ptp.annInterval ≤ s154.dev.now) = true ∧ (∀ f ∈ s154.dev.ptp.foreign, f.since = none)) ∧
    (s155.dev.slaveRuns = true ∧ s155.dev.obj Obj.MASTER_INGRESS ≠ 0xFF ∧ decide (s155.dev.ptp.lastAnnAt + s155.dev.obj Obj.ANNOUNCE_RECEIPT_TIMEOUT * s155.dev.ptp.annInterval ≤ s155.dev.now) = true ∧ (∀ f ∈ s155.dev.ptp.foreign, f.since = none)) ∧
    (s156.dev.slaveRuns = true ∧ s156.dev.obj Obj.MASTER_INGRESS ≠ 0xFF ∧ decide (s156.dev.ptp.lastAnnAt + s156.dev.obj Obj.ANNOUNCE_RECEIPT_TIMEOUT * s156.dev.ptp.annInterval ≤ s156.dev.now) = true ∧ (∀ f ∈ s156.dev.ptp.foreign, f.since = none)) ∧
    (s157.dev.slaveRuns = true ∧ s157.dev.obj Obj.MASTER_INGRESS ≠ 0xFF ∧ decide (s157.dev.ptp.lastAnnAt + s157.dev.obj Obj.ANNOUNCE_RECEIPT_TIMEOUT * s157.dev.ptp.annInterval ≤ s157.dev.now) = true ∧ (∀ f ∈ s157.dev.ptp.foreign, f.since = none)) ∧
    ((wSlave 4 [] (fun p => p)).dev.slaveRuns = true ∧ (wSlave 4 [] (fun p => p)).dev.reqAllowed = true ∧ (wSlave 4 [] (fun p => p)).dev.obj Obj.MASTER_INGRESS = 0 ∧ (wSlave 4 [] (fun p => p)).dev.ethRuns = true ∧ (wSlave 4 [] (fun p => p)).dev.obj (Obj.LINK 0) ≠ 0 ∧ (wSlave 4 [] (fun p => p)).dev.poolFits 3 1 = true ∧ ((wSlave 4 [] (fun p => p)).dev.ethPort 0).busy = false) :=
  by and_intros <;> decide +kernel

def s158 : State := wNet [(Obj.PTP_ENABLE, 1), (Obj.PTP_ROLE, 2), (Obj.PTP_TRANSPORT, 1), (Obj.PTP_PORT, 0), (Obj.PTP_DOMAIN, 3)] (fun d => { d with ptp := { d.ptp with annSeq := 65535 } })

theorem test_witness_PtpMasterAnnouncesAndAnswers :
    ((wNet [] (fun d => d)).dev.masterRuns = false) ∧
    (s158.dev.masterRuns = true ∧ s158.dev.obj Obj.PTP_PORT = (0 : Fin 2).val ∧ s158.dev.ethRuns = true ∧ s158.dev.obj (Obj.LINK 0) ≠ 0 ∧ s158.dev.poolFits 3 1 = true ∧ (s158.dev.ethPort 0).busy = false ∧ s158.dev.ptpTakes 0 wHdr = true) :=
  by and_intros <;> decide +kernel

/-- A lane of fold 0 in RUN with a pass of context 0 (domain 3) before the word given; A registers, P, M and flags of many kinds; 2 results in flight. -/
def wPass : Pass :=
  let fl := fun (r : LReg) (v : Int) (t : Nat) (e : Bool) => ({ reg := r, val := v, landAt := t, early := e } : Flight)
  { ctx := 0, kind := 0, domain := 3, startAt := 0, n := 5, flight := [fl (.d 3) 77 5 false, fl (.d 4) 88 6 false, fl (.a 1) 99 6 true], stores := [],
    shadow := [], mbox := [(3, 0x12345678)], rep := none, stop := 0 }
def wBank : Bank :=
  { initBank with d := [0, 1, 0x7FFFFF, 0x800000, 0xFFFFFF, 5, 0x400000, 0xC00000, 9, 10, 11, 12, 13, 14, 15, 16], a := [0, 2 ^ 55 - 1, -(2 ^ 55), 12345678901],
                  p := [0x10003, 0x10005, 4, 0x12000, 0x18001, 700, 0x1FFFF, 2], m := [1, 0x1FFFF, 3, 4, 5, 6, 7, 8], flags := 0x42, lc := 9, pc := 2 }
def wLane (word : Nat) (g : Bank → Bank) (f : Pass → Pass) : State :=
  let s := on (withObjs [(Obj.DEVICE_STATE, 3), (Obj.CONFIGURED 0, 1), (Obj.CTX_DOMAIN 0, 3), (Obj.CTX_FOLD 0, 0), (Obj.CTX_LANE 0, 0), (Obj.CODE_LENGTH 3, 100)])
    (fun d => (({ d with folds := upd (fun x => { x with code := [(3, 10)], windows := [(0, 100)], shared := [(3, 4000)] }) d.folds 0 } : Dev).updLane 0 0
      (fun y => { y with run := some (f wPass), banks := [g wBank, initBank] })).setBlob (Obj.DOMAIN_IMAGE 3)
        ([1, 2, 3, 4, 0, 3, 0, 5, 0, 1, 0, 2, 1, 0, 0, 0, 0, 64, 0, 0, 0, 16, 0, 4] ++ List.replicate 40 0))
  let m := { s.mem with cells := [] }
  { s with mem := (m.putBytes (codeByte 0 (8 * (10 + (g wBank).pc))) (beBytes 8 word |>.map BitVec.toNat)) }
def stands (s : State) (f l : Fin 8) (p : Pass) (word : Nat) : Bool :=
  (s.dev.lane f l).run == some p && decide (2 ≤ p.domain) && s.dev.computes p.ctx && decide ((s.dev.lane f l).cur < (s.dev.lane f l).banks.length)
    && decide ((s.dev.lane f l).bank.pc < s.dev.codeLength p.domain) && p.stop == 0
    && (List.range 8).all (fun i => s.mem.sym (codeByte f (8 * (tget (fun _ => 0) (s.dev.fold f).code p.domain + (s.dev.lane f l).bank.pc)) + i)
      == word / 256 ^ (7 - i) % 256 + 256 * checkOf (word / 256 ^ (7 - i) % 256))
def wMove (kind pp : Nat) : PMove := { kind := BitVec.ofNat 2 kind, reg := 5, pp := BitVec.ofNat 3 pp, pm := 1, upd := 1 }
def wA (sat : Bool) (dst a b c : Nat) (mv : PMove) : FmtA :=
  { sat := sat, dst := BitVec.ofNat 5 dst, srcA := BitVec.ofNat 5 a, srcB := BitVec.ofNat 5 b, srcC := BitVec.ofNat 5 c, vs := false, shift := 3, pmove := mv }

def s159 : State := wLane (wordA 0 (wA true 1 2 3 4 (wMove 2 0))) (fun b => { b with pc := 99 }) (fun p => p)

theorem test_witness_LaneArithmeticComputesItsResults :
    ((List.range 23).all (fun op => [wMove 0 0, wMove 3 0, wMove 1 0, wMove 2 0, wMove 2 2].all (fun mv => stands (wLane (wordA op (wA true 1 2 3 4 mv)) (fun b => b) (fun p => p)) 0 0 wPass (wordA op (wA true 1 2 3 4 mv)))) = true ∧ wPass.rep = none ∧ (let s := wLane 0 (fun b => b) (fun p => p); 0x10000 ≤ getAt 0 (s.bankAt 0 0 wPass).p 0 ∧ getAt 0 (s.bankAt 0 0 wPass).p 0 ≤ 0x103FF ∧ getAt 0 (s.bankAt 0 0 wPass).p 2 < s.dev.ctxWords 3 ∧ (s.passAt 0 0 wPass).words.length < 256 ∧ (s.bankAt 0 0 wPass).pc + 1 < s.dev.codeLength 3)) ∧
    (stands s159 0 0 wPass (wordA 0 (wA true 1 2 3 4 (wMove 2 0))) = true ∧ ¬ (s159.bankAt 0 0 wPass).pc + 1 < s159.dev.codeLength wPass.domain) :=
  by and_intros <;> decide +kernel

def wI (dst a imm : Nat) : FmtI := { sat := true, dst := BitVec.ofNat 6 dst, srcA := BitVec.ofNat 5 a, imm := BitVec.ofNat 32 imm }
def wM (reg pp disp : Nat) : FmtM := { reg := BitVec.ofNat 5 reg, pp := BitVec.ofNat 3 pp, pm := 1, upd := 1, disp := BitVec.ofNat 17 disp }
/-- The lane of `wLane` with bytes of word 0x01020384 at window word 7 and shared word 1 (loaded with good check bits) and a shadow of word 8. -/
def wMem (word : Nat) : State :=
  let s := wLane word (fun b => b) (fun p => { p with shadow := [(32, 9), (33, 8), (34, 7), (35, 0x86)] })
  { s with mem := (s.mem.putBytes (foldByte 0 (4 * 100 + 28)) [1, 2, 3, 0x84]).putBytes (foldByte 0 (4 * 4000 + 4)) [1, 2, 3, 0x84] }
def wPassM : Pass := { wPass with shadow := [(32, 9), (33, 8), (34, 7), (35, 0x86)] }

def s160 : State := wLane (wordI 0x18 (wI 1 2 5)) (fun b => { b with pc := 99 }) (fun p => p)

theorem test_witness_LaneMovesLoadAndStore :
    ([0x18, 0x19, 0x1A].all (fun op => stands (wLane (wordI op (wI 1 2 0xFFFFFF)) (fun b => b) (fun p => p)) 0 0 wPass (wordI op (wI 1 2 0xFFFFFF))) = true) ∧
    (stands (wLane (wordX 0x28 { dst := 1, src := 2 }) (fun b => b) (fun p => p)) 0 0 wPass (wordX 0x28 { dst := 1, src := 2 }) = true) ∧
    (let addr := fun (x : FmtM) => (getAt 0 ((wMem 0).bankAt 0 0 wPassM).p x.pp.toNat + x.disp.toNat) % 2 ^ 17; ([(0x20, wM 1 2 3), (0x22, wM 17 2 3), (0x24, wM 1 0 3), (0x26, wM 17 0 3), (0x20, wM 1 4 0), (0x20, wM 1 0 0), (0x20, wM 1 5 0), (0x20, wM 1 2 4), (0x21, wM 1 2 3), (0x21, wM 1 5 0), (0x23, wM 17 2 3), (0x25, wM 1 0 3), (0x27, wM 17 0 3)] : List (Nat × FmtM)).all (fun e => stands (wMem (wordM e.1 e.2)) 0 0 wPassM (wordM e.1 e.2)) = true ∧ (wMem 0).dev.ctxWords 3 = 256 ∧ (wMem 0).dev.codeLength 3 = 100 ∧ ((wMem 0).bankAt 0 0 wPassM).pc = 2 ∧ addr (wM 1 2 3) = 7 ∧ addr (wM 1 4 0) = 0x18001 ∧ addr (wM 1 0 0) = 0x10003 ∧ addr (wM 1 5 0) = 700 ∧ addr (wM 1 2 4) = 8) ∧
    (stands s160 0 0 wPass (wordI 0x18 (wI 1 2 5)) = true ∧ ¬ (s160.bankAt 0 0 wPass).pc + 1 < s160.dev.codeLength wPass.domain) :=
  by and_intros <;> decide +kernel

def wC (cond lc count target : Nat) : FmtC :=
  { cond := BitVec.ofNat 4 cond, lcsrc := lc == 1, count := BitVec.ofNat 12 count, target := BitVec.ofNat 13 target }
def wT (dst func : Nat) (slot sel : Bool) : FmtT :=
  { dst := BitVec.ofNat 5 dst, srcA := 6, srcB := 2, func := BitVec.ofNat 3 func, slot := slot, sel := sel }
def wTu (ready : Bool) : TuSlot := { func := 0, a := 5, b := 6, ready := ready, r0 := 7, r1 := 8, bad := true }
def wSlot (word : Nat) (t : Option TuSlot) : State := on (wLane word (fun b => b) (fun p => p)) (fun d => d.updLane 0 0 (fun y => y.setSlot false t))
def wEnd (kind dom : Nat) : State := wLane (wordC 0x34 (wC 0 0 0 0)) (fun b => b) (fun p => { p with kind := kind, domain := dom, shadow := [(32, 9), (33, 8)] })
def wPassE (kind dom : Nat) : Pass := { wPass with kind := kind, domain := dom, shadow := [(32, 9), (33, 8)] }

def s161 : State := wLane (wordC 0x30 (wC 0 0 0 77)) (fun b => b) (fun p => p)
def s162 : State := wLane (wordC 0x30 (wC 1 0 0 77)) (fun b => b) (fun p => p)
def s163 : State := wLane (wordC 0x30 (wC 2 0 0 77)) (fun b => b) (fun p => p)
def s164 : State := wLane (wordC 0x30 (wC 3 0 0 77)) (fun b => b) (fun p => p)
def s165 : State := wLane (wordC 0x30 (wC 4 0 0 77)) (fun b => b) (fun p => p)
def s166 : State := wLane (wordC 0x30 (wC 5 0 0 77)) (fun b => b) (fun p => p)
def s167 : State := wLane (wordC 0x30 (wC 6 0 0 77)) (fun b => b) (fun p => p)
def s168 : State := wLane (wordC 0x30 (wC 7 0 0 77)) (fun b => b) (fun p => p)
def s169 : State := wLane (wordC 0x30 (wC 8 0 0 77)) (fun b => b) (fun p => p)
def s170 : State := wLane (wordC 0x30 (wC 9 0 0 77)) (fun b => b) (fun p => p)
def s171 : State := wLane (wordC 0x30 (wC 10 0 0 77)) (fun b => b) (fun p => p)
def s172 : State := wLane (wordC 0x30 (wC 11 0 0 77)) (fun b => b) (fun p => p)
def s173 : State := wLane (wordC 0x30 (wC 12 0 0 77)) (fun b => b) (fun p => p)
def s174 : State := wLane (wordC 0x30 (wC 13 0 0 77)) (fun b => b) (fun p => p)
def s175 : State := wLane (wordC 0x30 (wC 14 0 0 77)) (fun b => b) (fun p => p)
def s176 : State := wLane (wordC 0x30 (wC 15 0 0 77)) (fun b => b) (fun p => p)
def s177 : State := wLane (wordC 0x30 (wC 1 0 0 77)) (fun b => { b with flags := 0 }) (fun p => p)
def s178 : State := wLane (wordC 0x31 (wC 1 0 0 77)) (fun b => { b with flags := 0 }) (fun p => p)
def s179 : State := wLane (wordC 0x31 (wC 0 0 0 77)) (fun b => { b with stack := [4] }) (fun p => p)
def s180 : State := wLane (wordC 0x31 (wC 0 0 0 77)) (fun b => { b with stack := [4, 5] }) (fun p => p)
def s181 : State := wLane (wordC 0x32 (wC 1 0 0 77)) (fun b => { b with flags := 0 }) (fun p => p)
def s182 : State := wLane (wordC 0x32 (wC 0 0 0 77)) (fun b => { b with stack := [4, 5] }) (fun p => p)
def s183 : State := wLane (wordC 0x32 (wC 0 0 0 77)) (fun b => { b with stack := [] }) (fun p => p)
def s184 : State := wLane (wordC 0x33 (wC 0 0 9 0)) (fun b => b) (fun p => p)
def s185 : State := wLane (wordC 0x33 (wC 0 1 0 0)) (fun b => { b with lc := 0 }) (fun p => p)
def s186 : State := wLane (wordC 0x33 (wC 0 1 0 0)) (fun b => { b with lc := 3 }) (fun p => p)
def s187 : State := wLane (wordC 0x33 (wC 0 1 0 0)) (fun b => { b with lc := 4 }) (fun p => p)
def s188 : State := wLane (wordC 0x33 (wC 0 1 0 0)) (fun b => { b with lc := 9 }) (fun p => p)
def s189 : State := wLane (wordC 0x35 (wC 0 0 0 0)) (fun b => b) (fun p => p)
def s190 : State := on (wEnd 0 0) (fun d => d.setObj (Obj.CTX_DOMAIN 0) 0)
def s191 : State := on (wEnd 1 0) (fun d => d.setObj (Obj.CTX_DOMAIN 0) 0)
def s192 : State := wLane (wordA 0 (wA false 0 0 0 0 (wMove 0 0))) (fun b => b) (fun p => { p with rep := some 1 })
def s193 : State := wLane (wordA 0 (wA false 0 0 0 0 (wMove 0 0))) (fun b => b) (fun p => { p with rep := some 3 })
def s194 : State := wLane (wordT 0x38 (wT 1 2 true false)) (fun b => b) (fun p => p)
def s195 : State := wSlot (wordT 0x39 (wT 1 2 false true)) none
def s196 : State := wSlot (wordT 0x39 (wT 1 2 false true)) (some (wTu true))
def s197 : State := wSlot (wordT 0x39 (wT 1 2 false true)) (some (wTu false))
def s198 : State := wSlot (wordT 0x39 (wT 20 2 false true)) none
def s199 : State := wSlot (wordT 0x39 (wT 20 2 false true)) (some (wTu true))
def s200 : State := wSlot (wordT 0x39 (wT 20 2 false true)) (some (wTu false))
def s201 : State := wSlot (wordT 0x39 (wT 1 2 false false)) none
def s202 : State := wSlot (wordT 0x39 (wT 1 2 false false)) (some (wTu true))
def s203 : State := wSlot (wordT 0x39 (wT 1 2 false false)) (some (wTu false))
def s204 : State := wSlot (wordT 0x39 (wT 20 2 false false)) none
def s205 : State := wSlot (wordT 0x39 (wT 20 2 false false)) (some (wTu true))
def s206 : State := wSlot (wordT 0x39 (wT 20 2 false false)) (some (wTu false))
def s207 : State := wLane (wordC 0x30 (wC 0 0 0 100)) (fun b => b) (fun p => p)
def s208 : State := wLane (wordC 0x30 (wC 1 0 0 77)) (fun b => { b with pc := 99, flags := 0 }) (fun p => p)
def s209 : State := wLane (wordC 0x31 (wC 0 0 0 100)) (fun b => b) (fun p => p)
def s210 : State := wLane (wordC 0x32 (wC 0 0 0 77)) (fun b => { b with stack := [100, 5] }) (fun p => p)
def s211 : State := wLane (wordC 0x33 (wC 0 0 9 0)) (fun b => { b with pc := 99, flags := 0 }) (fun p => p)
def s212 : State := wLane (wordC 0x33 (wC 0 1 0 0)) (fun b => { b with lc := 0, pc := 98 }) (fun p => p)
def s213 : State := wLane (wordC 0x35 (wC 0 0 0 0)) (fun b => { b with pc := 99 }) (fun p => p)
def s214 : State := wLane (wordA 0 (wA false 0 0 0 0 (wMove 0 0))) (fun b => { b with pc := 99 }) (fun p => { p with rep := some 1 })
def s215 : State := wLane (wordA 0 (wA false 0 0 0 0 (wMove 0 0))) (fun b => { b with pc := 99 }) (fun p => { p with rep := some 2 })
def s216 : State := wLane (wordT 0x38 (wT 1 2 true false)) (fun b => { b with pc := 99 }) (fun p => p)

theorem test_witness_LaneControlFlowAndRequests :
    (stands s161 0 0 wPass (wordC 0x30 (wC 0 0 0 77)) = true ∧ condHolds (s161.bankAt 0 0 wPass).flags ((wC 0 0 0 77)).cond.toNat = true) ∧
    (stands s177 0 0 wPass (wordC 0x30 (wC 1 0 0 77)) = true ∧ condHolds (s177.bankAt 0 0 wPass).flags ((wC 1 0 0 77)).cond.toNat = false) ∧
    (stands s178 0 0 wPass (wordC 0x31 (wC 1 0 0 77)) = true ∧ condHolds (s178.bankAt 0 0 wPass).flags ((wC 1 0 0 77)).cond.toNat = false) ∧
    (stands s179 0 0 wPass (wordC 0x31 (wC 0 0 0 77)) = true ∧ condHolds (s179.bankAt 0 0 wPass).flags ((wC 0 0 0 77)).cond.toNat = true ∧ (s179.bankAt 0 0 wPass).stack.length < 2) ∧
    (stands s180 0 0 wPass (wordC 0x31 (wC 0 0 0 77)) = true ∧ condHolds (s180.bankAt 0 0 wPass).flags ((wC 0 0 0 77)).cond.toNat = true ∧ 2 ≤ (s180.bankAt 0 0 wPass).stack.length) ∧
    (stands s181 0 0 wPass (wordC 0x32 (wC 1 0 0 77)) = true ∧ condHolds (s181.bankAt 0 0 wPass).flags ((wC 1 0 0 77)).cond.toNat = false) ∧
    (stands s182 0 0 wPass (wordC 0x32 (wC 0 0 0 77)) = true ∧ condHolds (s182.bankAt 0 0 wPass).flags ((wC 0 0 0 77)).cond.toNat = true ∧ (s182.bankAt 0 0 wPass).stack = 4 :: [5]) ∧
    (stands s183 0 0 wPass (wordC 0x32 (wC 0 0 0 77)) = true ∧ condHolds (s183.bankAt 0 0 wPass).flags ((wC 0 0 0 77)).cond.toNat = true ∧ (s183.bankAt 0 0 wPass).stack = []) ∧
    (stands s184 0 0 wPass (wordC 0x33 (wC 0 0 9 0)) = true ∧ condHolds (s184.bankAt 0 0 wPass).flags ((wC 0 0 9 0)).cond.toNat = true) ∧
    (stands s185 0 0 wPass (wordC 0x33 (wC 0 1 0 0)) = true ∧ condHolds (s185.bankAt 0 0 wPass).flags ((wC 0 1 0 0)).cond.toNat = true ∧ fieldAt (s185.dev.blob (Obj.DOMAIN_IMAGE wPass.domain)) 22 2 = 4) ∧
    (stands s186 0 0 wPass (wordC 0x33 (wC 0 1 0 0)) = true ∧ condHolds (s186.bankAt 0 0 wPass).flags ((wC 0 1 0 0)).cond.toNat = true ∧ fieldAt (s186.dev.blob (Obj.DOMAIN_IMAGE wPass.domain)) 22 2 = 4) ∧
    (stands s187 0 0 wPass (wordC 0x33 (wC 0 1 0 0)) = true ∧ condHolds (s187.bankAt 0 0 wPass).flags ((wC 0 1 0 0)).cond.toNat = true ∧ fieldAt (s187.dev.blob (Obj.DOMAIN_IMAGE wPass.domain)) 22 2 = 4) ∧
    (stands s188 0 0 wPass (wordC 0x33 (wC 0 1 0 0)) = true ∧ condHolds (s188.bankAt 0 0 wPass).flags ((wC 0 1 0 0)).cond.toNat = true ∧ fieldAt (s188.dev.blob (Obj.DOMAIN_IMAGE wPass.domain)) 22 2 = 4) ∧
    (stands s189 0 0 wPass (wordC 0x35 (wC 0 0 0 0)) = true ∧ condHolds (s189.bankAt 0 0 wPass).flags ((wC 0 0 0 0)).cond.toNat = true) ∧
    (stands (wEnd 0 3) 0 0 (wPassE 0 3) (wordC 0x34 (wC 0 0 0 0)) = true ∧ ((wEnd 0 3).passAt 0 0 (wPassE 0 3)).stores = [] ∧ (0 : Fin 8).val < (wEnd 0 3).dev.folds.length ∧ (wPassE 0 3).kind ≠ 1 ∧ (wPassE 0 3).ctx < (wEnd 0 3).dev.axes.length) ∧
    (stands (wEnd 2 3) 0 0 (wPassE 2 3) (wordC 0x34 (wC 0 0 0 0)) = true ∧ ((wEnd 2 3).passAt 0 0 (wPassE 2 3)).stores = [] ∧ (0 : Fin 8).val < (wEnd 2 3).dev.folds.length ∧ (wPassE 2 3).kind ≠ 1 ∧ (wPassE 2 3).ctx < (wEnd 2 3).dev.axes.length) ∧
    (stands (wEnd 1 3) 0 0 (wPassE 1 3) (wordC 0x34 (wC 0 0 0 0)) = true ∧ ((wEnd 1 3).passAt 0 0 (wPassE 1 3)).stores = [] ∧ (wPassE 1 3).kind = 1) ∧
    ((s190.dev.lane 0 0).run = some (wPassE 0 0) ∧ (wPassE 0 0).domain = 0 ∧ s190.dev.computes (wPassE 0 0).ctx = true) ∧
    ((s191.dev.lane 0 0).run = some (wPassE 1 0) ∧ (wPassE 1 0).domain = 0 ∧ s191.dev.computes (wPassE 1 0).ctx = true) ∧
    (stands s192 0 0 { wPass with rep := some 1 } (wordA 0 (wA false 0 0 0 0 (wMove 0 0))) = true) ∧
    (stands s193 0 0 { wPass with rep := some 3 } (wordA 0 (wA false 0 0 0 0 (wMove 0 0))) = true) ∧
    (stands s194 0 0 wPass (wordT 0x38 (wT 1 2 true false)) = true) ∧
    (stands s195 0 0 wPass (wordT 0x39 (wT 1 2 false true)) = true ∧ (s195.dev.lane 0 0).slot ((wT 1 2 false true)).slot = none) ∧
    (stands s196 0 0 wPass (wordT 0x39 (wT 1 2 false true)) = true ∧ (s196.dev.lane 0 0).slot ((wT 1 2 false true)).slot = some (wTu true)) ∧
    ((s197.dev.lane 0 0).slot ((wT 1 2 false true)).slot = some (wTu false)) ∧
    (stands s198 0 0 wPass (wordT 0x39 (wT 20 2 false true)) = true ∧ (s198.dev.lane 0 0).slot ((wT 20 2 false true)).slot = none) ∧
    (stands s199 0 0 wPass (wordT 0x39 (wT 20 2 false true)) = true ∧ (s199.dev.lane 0 0).slot ((wT 20 2 false true)).slot = some (wTu true)) ∧
    ((s200.dev.lane 0 0).slot ((wT 20 2 false true)).slot = some (wTu false)) ∧
    (stands s201 0 0 wPass (wordT 0x39 (wT 1 2 false false)) = true ∧ (s201.dev.lane 0 0).slot ((wT 1 2 false false)).slot = none) ∧
    (stands s202 0 0 wPass (wordT 0x39 (wT 1 2 false false)) = true ∧ (s202.dev.lane 0 0).slot ((wT 1 2 false false)).slot = some (wTu true)) ∧
    ((s203.dev.lane 0 0).slot ((wT 1 2 false false)).slot = some (wTu false)) ∧
    (stands s204 0 0 wPass (wordT 0x39 (wT 20 2 false false)) = true ∧ (s204.dev.lane 0 0).slot ((wT 20 2 false false)).slot = none) ∧
    (stands s205 0 0 wPass (wordT 0x39 (wT 20 2 false false)) = true ∧ (s205.dev.lane 0 0).slot ((wT 20 2 false false)).slot = some (wTu true)) ∧
    ((s206.dev.lane 0 0).slot ((wT 20 2 false false)).slot = some (wTu false)) ∧
    (stands s207 0 0 wPass (wordC 0x30 (wC 0 0 0 100)) = true ∧ condHolds (s207.bankAt 0 0 wPass).flags ((wC 0 0 0 100)).cond.toNat = true ∧ s207.dev.codeLength wPass.domain = 100) ∧
    (stands s208 0 0 wPass (wordC 0x30 (wC 1 0 0 77)) = true ∧ condHolds (s208.bankAt 0 0 wPass).flags ((wC 1 0 0 77)).cond.toNat = false ∧ (s208.bankAt 0 0 wPass).pc + 1 = s208.dev.codeLength wPass.domain) ∧
    (stands s209 0 0 wPass (wordC 0x31 (wC 0 0 0 100)) = true ∧ condHolds (s209.bankAt 0 0 wPass).flags ((wC 0 0 0 100)).cond.toNat = true ∧ (s209.bankAt 0 0 wPass).stack.length < 2 ∧ s209.dev.codeLength wPass.domain = 100) ∧
    (stands s210 0 0 wPass (wordC 0x32 (wC 0 0 0 77)) = true ∧ condHolds (s210.bankAt 0 0 wPass).flags ((wC 0 0 0 77)).cond.toNat = true ∧ (s210.bankAt 0 0 wPass).stack = 100 :: [5]) ∧
    (stands s211 0 0 wPass (wordC 0x33 (wC 0 0 9 0)) = true ∧ condHolds (s211.bankAt 0 0 wPass).flags ((wC 0 0 9 0)).cond.toNat = true ∧ (s211.bankAt 0 0 wPass).pc + 1 = s211.dev.codeLength wPass.domain) ∧
    (stands s212 0 0 wPass (wordC 0x33 (wC 0 1 0 0)) = true ∧ condHolds (s212.bankAt 0 0 wPass).flags ((wC 0 1 0 0)).cond.toNat = true ∧ (s212.bankAt 0 0 wPass).pc + 2 = s212.dev.codeLength wPass.domain) ∧
    (stands s213 0 0 wPass (wordC 0x35 (wC 0 0 0 0)) = true ∧ condHolds (s213.bankAt 0 0 wPass).flags ((wC 0 0 0 0)).cond.toNat = true ∧ (s213.bankAt 0 0 wPass).pc + 1 = s213.dev.codeLength wPass.domain) ∧
    (stands s214 0 0 { wPass with rep := some 1 } (wordA 0 (wA false 0 0 0 0 (wMove 0 0))) = true) ∧
    (stands s215 0 0 { wPass with rep := some 2 } (wordA 0 (wA false 0 0 0 0 (wMove 0 0))) = true) ∧
    (stands s216 0 0 wPass (wordT 0x38 (wT 1 2 true false)) = true) :=
  by and_intros <;> decide +kernel

/-- Context 0 of a domain on lane 0 of fold 0 in RUN, before the deadline, its axis as given, no pass on the lane. -/
def wItem (dom : Nat) (l : List (Nat × Nat)) (f : Axis → Axis) : State :=
  let s := on (withObjs ([(Obj.DEVICE_STATE, 3), (Obj.CONFIGURED 0, 1), (Obj.CTX_DOMAIN 0, dom), (Obj.CTX_FOLD 0, 0), (Obj.CTX_LANE 0, 0), (Obj.CODE_LENGTH 3, 5),
    (Obj.AXIS_STATE 0, 2)] ++ l))
    (fun d => ({ d with cyc := { d.cyc with dispatched := false }, axes := upd f d.axes 0, folds := upd (fun x => { x with windows := [(0, 100)] }) d.folds 0 } : Dev).setBlob
      (Obj.DOMAIN_IMAGE 3) ([1, 2, 3, 4, 0, 3, 0, 5, 0, 1, 0, 2, 1, 0, 0, 0, 0, 64, 0, 0, 0, 16, 0, 4] ++ List.replicate 40 0))
  { s with mem := (s.mem.putBytes (foldByte 0 400) ((List.range 16).flatMap (fun i => [0, 1, 2, i]))) }
def wFb0 : Fb := { pos := 100, ia := 1, ib := 2, ic := 3, vdc := 4 }
def wFb1 : Fb := { pos := 101, ia := 1, ib := 2, ic := 3, vdc := 4 }
def wOver (kind n : Nat) (r : Option Nat) : State :=
  on (withObjs [(Obj.DEVICE_STATE, 3), (Obj.CONFIGURED 0, 1), (Obj.CTX_DOMAIN 0, 1), (Obj.OVERRUN_MARGIN 0, 10)])
    (fun d => d.updLane 0 0 (fun y => { y with run := some { wPass with kind := kind, n := n, rep := r, domain := 1 } }))

def s217 : State := wItem 0 [] (fun a => { a with work := { skim := 1, full := 0 } })
def s218 : State := ({ (wItem 0 [] (fun a => { a with work := { skim := 1, full := 0 } })) with mem := { cells := [] } } : State)
def s219 : State := wItem 0 [] (fun a => { a with work := { skim := 0, full := 1 }, readyAt := some 50 })
def s220 : State := ({ (wItem 0 [] (fun a => { a with work := { skim := 0, full := 1 }, readyAt := some 50 })) with mem := { cells := [] } } : State)
def s221 : State := wItem 3 [] (fun a => { a with work := { skim := 1, full := 0 } })
def s222 : State := ({ (wItem 3 [] (fun a => { a with work := { skim := 1, full := 0 } })) with mem := { cells := [] } } : State)
def s223 : State := wItem 3 [] (fun a => { a with work := { skim := 0, full := 1 }, readyAt := some 50 })
def s224 : State := ({ (wItem 3 [] (fun a => { a with work := { skim := 0, full := 1 }, readyAt := some 50 })) with mem := { cells := [] } } : State)
def s225 : State := wItem 0 [(Obj.ERR_LIMIT_POSITION 0, 0)] (fun a => { a with work := { skim := 3, full := 1 }, readyAt := some 50, cur := some wFb0, pred := some wFb1, skim := some (.code [(5, 6)] []) })
def s226 : State := wItem 3 [(Obj.ERR_LIMIT_POSITION 0, 5)] (fun a => { a with work := { skim := 3, full := 1 }, readyAt := some 50, cur := some wFb0, pred := some wFb1, skim := some (.code [(5, 6)] []) })
def s227 : State := wItem 3 [(Obj.ERR_LIMIT_POSITION 0, 5)] (fun a => { a with work := { skim := 3, full := 1 }, readyAt := some 50, cur := some wFb0, pred := some wFb1, skim := some (.code [(5, 6)] [(0x14, 1), (0xC0, 0xFFFF)]) })
def s228 : State := wItem 3 [(Obj.OVERRUN_MARGIN 0, 10)] (fun a => { a with work := { skim := 3, full := 1 }, readyAt := some 50, cur := some wFb0, pred := some wFb1, skim := some (.code [(5, 6)] []) })
def s229 : State := wItem 0 [(Obj.FB_LATE_LIMIT 0, 2), (Obj.FREEZE_TIME 0, 1), (Obj.MISS_LIMIT 0, 2), (Obj.AXIS_STATE 0, 1), (Obj.FREEZE_MODE 0, 0)] (fun a => { a with late := 1 })
def s230 : State := wItem 0 [(Obj.FB_LATE_LIMIT 0, 2), (Obj.FREEZE_TIME 0, 1), (Obj.MISS_LIMIT 0, 2), (Obj.AXIS_STATE 0, 1)] (fun a => { a with cur := some wFb0 })
def s231 : State := wItem 0 [(Obj.FB_LATE_LIMIT 0, 2), (Obj.FREEZE_TIME 0, 1), (Obj.MISS_LIMIT 0, 2), (Obj.AXIS_STATE 0, 1)] (fun a => { a with late := 0 })
def s232 : State := wItem 0 [(Obj.FB_LATE_LIMIT 0, 2), (Obj.FREEZE_TIME 0, 1), (Obj.MISS_LIMIT 0, 2), (Obj.AXIS_STATE 0, 1), (Obj.FREEZE_MODE 0, 2)] (fun a => { a with freeze := 32 })
def s233 : State := wItem 0 [(Obj.FB_LATE_LIMIT 0, 2), (Obj.FREEZE_TIME 0, 1), (Obj.MISS_LIMIT 0, 2), (Obj.AXIS_STATE 0, 1), (Obj.FREEZE_MODE 0, 2)] (fun a => { a with freeze := 31 })
def s234 : State := wItem 0 [(Obj.FB_LATE_LIMIT 0, 2), (Obj.FREEZE_TIME 0, 1), (Obj.MISS_LIMIT 0, 2), (Obj.AXIS_STATE 0, 1), (Obj.FAULT_REACTION 0, 0)] (fun a => { a with cur := some wFb0, miss := 1 })
def s235 : State := wItem 0 [(Obj.FB_LATE_LIMIT 0, 2), (Obj.FREEZE_TIME 0, 1), (Obj.MISS_LIMIT 0, 2), (Obj.AXIS_STATE 0, 1), (Obj.FAULT_REACTION 0, 1)] (fun a => { a with cur := some wFb0, miss := 1 })
def s236 : State := wItem 0 [(Obj.FB_LATE_LIMIT 0, 2), (Obj.FREEZE_TIME 0, 1), (Obj.MISS_LIMIT 0, 2), (Obj.AXIS_STATE 0, 1), (Obj.FAULT_REACTION 0, 2)] (fun a => { a with cur := some wFb0, miss := 1 })
def s237 : State := wItem 0 [(Obj.FB_LATE_LIMIT 0, 2), (Obj.FREEZE_TIME 0, 1), (Obj.MISS_LIMIT 0, 2), (Obj.AXIS_STATE 0, 1)] (fun a => { a with cur := some wFb0, miss := 0 })
def s238 : State := wItem 0 [(Obj.FB_LATE_LIMIT 0, 2), (Obj.FREEZE_TIME 0, 1), (Obj.MISS_LIMIT 0, 2), (Obj.AXIS_STATE 0, 2), (Obj.FREEZE_MODE 0, 0)] (fun a => { a with late := 1 })
def s239 : State := wItem 0 [(Obj.FB_LATE_LIMIT 0, 2), (Obj.FREEZE_TIME 0, 1), (Obj.MISS_LIMIT 0, 2), (Obj.AXIS_STATE 0, 2)] (fun a => { a with cur := some wFb0 })
def s240 : State := wItem 0 [(Obj.FB_LATE_LIMIT 0, 2), (Obj.FREEZE_TIME 0, 1), (Obj.MISS_LIMIT 0, 2), (Obj.AXIS_STATE 0, 2)] (fun a => { a with late := 0 })
def s241 : State := wItem 0 [(Obj.FB_LATE_LIMIT 0, 2), (Obj.FREEZE_TIME 0, 1), (Obj.MISS_LIMIT 0, 2), (Obj.AXIS_STATE 0, 2), (Obj.FREEZE_MODE 0, 2)] (fun a => { a with freeze := 32 })
def s242 : State := wItem 0 [(Obj.FB_LATE_LIMIT 0, 2), (Obj.FREEZE_TIME 0, 1), (Obj.MISS_LIMIT 0, 2), (Obj.AXIS_STATE 0, 2), (Obj.FREEZE_MODE 0, 2)] (fun a => { a with freeze := 31 })
def s243 : State := wItem 0 [(Obj.FB_LATE_LIMIT 0, 2), (Obj.FREEZE_TIME 0, 1), (Obj.MISS_LIMIT 0, 2), (Obj.AXIS_STATE 0, 2), (Obj.FAULT_REACTION 0, 0)] (fun a => { a with cur := some wFb0, miss := 1 })
def s244 : State := wItem 0 [(Obj.FB_LATE_LIMIT 0, 2), (Obj.FREEZE_TIME 0, 1), (Obj.MISS_LIMIT 0, 2), (Obj.AXIS_STATE 0, 2), (Obj.FAULT_REACTION 0, 1)] (fun a => { a with cur := some wFb0, miss := 1 })
def s245 : State := wItem 0 [(Obj.FB_LATE_LIMIT 0, 2), (Obj.FREEZE_TIME 0, 1), (Obj.MISS_LIMIT 0, 2), (Obj.AXIS_STATE 0, 2), (Obj.FAULT_REACTION 0, 2)] (fun a => { a with cur := some wFb0, miss := 1 })
def s246 : State := wItem 0 [(Obj.FB_LATE_LIMIT 0, 2), (Obj.FREEZE_TIME 0, 1), (Obj.MISS_LIMIT 0, 2), (Obj.AXIS_STATE 0, 2)] (fun a => { a with cur := some wFb0, miss := 0 })
def s247 : State := wItem 0 [(Obj.FB_LATE_LIMIT 0, 2), (Obj.FREEZE_TIME 0, 1), (Obj.MISS_LIMIT 0, 2), (Obj.AXIS_STATE 0, 3), (Obj.FREEZE_MODE 0, 0)] (fun a => { a with late := 1 })
def s248 : State := wItem 0 [(Obj.FB_LATE_LIMIT 0, 2), (Obj.FREEZE_TIME 0, 1), (Obj.MISS_LIMIT 0, 2), (Obj.AXIS_STATE 0, 3)] (fun a => { a with cur := some wFb0 })
def s249 : State := wItem 0 [(Obj.FB_LATE_LIMIT 0, 2), (Obj.FREEZE_TIME 0, 1), (Obj.MISS_LIMIT 0, 2), (Obj.AXIS_STATE 0, 3)] (fun a => { a with late := 0 })
def s250 : State := wItem 0 [(Obj.FB_LATE_LIMIT 0, 2), (Obj.FREEZE_TIME 0, 1), (Obj.MISS_LIMIT 0, 2), (Obj.AXIS_STATE 0, 3), (Obj.FREEZE_MODE 0, 2)] (fun a => { a with freeze := 32 })
def s251 : State := wItem 0 [(Obj.FB_LATE_LIMIT 0, 2), (Obj.FREEZE_TIME 0, 1), (Obj.MISS_LIMIT 0, 2), (Obj.AXIS_STATE 0, 3), (Obj.FREEZE_MODE 0, 2)] (fun a => { a with freeze := 31 })
def s252 : State := wItem 0 [(Obj.FB_LATE_LIMIT 0, 2), (Obj.FREEZE_TIME 0, 1), (Obj.MISS_LIMIT 0, 2), (Obj.AXIS_STATE 0, 3), (Obj.FAULT_REACTION 0, 0)] (fun a => { a with cur := some wFb0, miss := 1 })
def s253 : State := wItem 0 [(Obj.FB_LATE_LIMIT 0, 2), (Obj.FREEZE_TIME 0, 1), (Obj.MISS_LIMIT 0, 2), (Obj.AXIS_STATE 0, 3), (Obj.FAULT_REACTION 0, 1)] (fun a => { a with cur := some wFb0, miss := 1 })
def s254 : State := wItem 0 [(Obj.FB_LATE_LIMIT 0, 2), (Obj.FREEZE_TIME 0, 1), (Obj.MISS_LIMIT 0, 2), (Obj.AXIS_STATE 0, 3), (Obj.FAULT_REACTION 0, 2)] (fun a => { a with cur := some wFb0, miss := 1 })
def s255 : State := wItem 0 [(Obj.FB_LATE_LIMIT 0, 2), (Obj.FREEZE_TIME 0, 1), (Obj.MISS_LIMIT 0, 2), (Obj.AXIS_STATE 0, 3)] (fun a => { a with cur := some wFb0, miss := 0 })

theorem test_witness_PassesStartStopAndReact :
    (run.dev.items 0 0 = []) ∧
    ((s217.dev.lane 0 0).run = none ∧ s217.dev.cyc.dispatched = false ∧ firstItem (s217.dev.items 0 0) = some (0, 0, 1) ∧ (0 : Nat) < s217.dev.folds.length ∧ 0 < (s217.dev.fold 0).lanes.length ∧ 0 < s217.dev.axes.length ∧ (s217.dev.lane 0 0).cur < (s217.dev.lane 0 0).banks.length ∧ ∀ i : Fin 16, ∀ k : Fin 3, s217.mem.sym (foldByte 0 (4 * tget (fun _ => 0) (s217.dev.fold 0).windows 0 + 4 * i.val + 1) + k.val) = (66048 + i.val - 512 + 512) / 256 ^ (2 - k.val) % 256 + 256 * checkOf ((66048 + i.val) / 256 ^ (2 - k.val) % 256)) ∧
    ((s218.dev.lane 0 0).run = none ∧ s218.dev.cyc.dispatched = false ∧ firstItem (s218.dev.items 0 0) = some (0, 0, 1) ∧ (0 : Nat) < s218.dev.folds.length ∧ 0 < (s218.dev.fold 0).lanes.length ∧ 0 < s218.dev.axes.length ∧ (s218.dev.lane 0 0).cur < (s218.dev.lane 0 0).banks.length ∧ s218.mem.sym (foldByte 0 (4 * tget (fun _ => 0) (s218.dev.fold 0).windows 0 + 1)) = marker) ∧
    ((s219.dev.lane 0 0).run = none ∧ s219.dev.cyc.dispatched = false ∧ firstItem (s219.dev.items 0 0) = some (50, 0, 0) ∧ (0 : Nat) < s219.dev.folds.length ∧ 0 < (s219.dev.fold 0).lanes.length ∧ 0 < s219.dev.axes.length ∧ (s219.dev.lane 0 0).cur < (s219.dev.lane 0 0).banks.length ∧ ∀ i : Fin 16, ∀ k : Fin 3, s219.mem.sym (foldByte 0 (4 * tget (fun _ => 0) (s219.dev.fold 0).windows 0 + 4 * i.val + 1) + k.val) = (66048 + i.val - 512 + 512) / 256 ^ (2 - k.val) % 256 + 256 * checkOf ((66048 + i.val) / 256 ^ (2 - k.val) % 256)) ∧
    ((s220.dev.lane 0 0).run = none ∧ s220.dev.cyc.dispatched = false ∧ firstItem (s220.dev.items 0 0) = some (50, 0, 0) ∧ (0 : Nat) < s220.dev.folds.length ∧ 0 < (s220.dev.fold 0).lanes.length ∧ 0 < s220.dev.axes.length ∧ (s220.dev.lane 0 0).cur < (s220.dev.lane 0 0).banks.length ∧ s220.mem.sym (foldByte 0 (4 * tget (fun _ => 0) (s220.dev.fold 0).windows 0 + 1)) = marker) ∧
    ((s221.dev.lane 0 0).run = none ∧ s221.dev.cyc.dispatched = false ∧ firstItem (s221.dev.items 0 0) = some (0, 0, 1) ∧ (0 : Nat) < s221.dev.folds.length ∧ 0 < (s221.dev.fold 0).lanes.length ∧ 0 < s221.dev.axes.length ∧ (s221.dev.lane 0 0).cur < (s221.dev.lane 0 0).banks.length ∧ ∀ i : Fin 16, ∀ k : Fin 3, s221.mem.sym (foldByte 0 (4 * tget (fun _ => 0) (s221.dev.fold 0).windows 0 + 4 * i.val + 1) + k.val) = (66048 + i.val - 512 + 512) / 256 ^ (2 - k.val) % 256 + 256 * checkOf ((66048 + i.val) / 256 ^ (2 - k.val) % 256)) ∧
    ((s222.dev.lane 0 0).run = none ∧ s222.dev.cyc.dispatched = false ∧ firstItem (s222.dev.items 0 0) = some (0, 0, 1) ∧ (0 : Nat) < s222.dev.folds.length ∧ 0 < (s222.dev.fold 0).lanes.length ∧ 0 < s222.dev.axes.length ∧ (s222.dev.lane 0 0).cur < (s222.dev.lane 0 0).banks.length ∧ s222.mem.sym (foldByte 0 (4 * tget (fun _ => 0) (s222.dev.fold 0).windows 0 + 1)) = marker) ∧
    ((s223.dev.lane 0 0).run = none ∧ s223.dev.cyc.dispatched = false ∧ firstItem (s223.dev.items 0 0) = some (50, 0, 0) ∧ (0 : Nat) < s223.dev.folds.length ∧ 0 < (s223.dev.fold 0).lanes.length ∧ 0 < s223.dev.axes.length ∧ (s223.dev.lane 0 0).cur < (s223.dev.lane 0 0).banks.length ∧ ∀ i : Fin 16, ∀ k : Fin 3, s223.mem.sym (foldByte 0 (4 * tget (fun _ => 0) (s223.dev.fold 0).windows 0 + 4 * i.val + 1) + k.val) = (66048 + i.val - 512 + 512) / 256 ^ (2 - k.val) % 256 + 256 * checkOf ((66048 + i.val) / 256 ^ (2 - k.val) % 256)) ∧
    ((s224.dev.lane 0 0).run = none ∧ s224.dev.cyc.dispatched = false ∧ firstItem (s224.dev.items 0 0) = some (50, 0, 0) ∧ (0 : Nat) < s224.dev.folds.length ∧ 0 < (s224.dev.fold 0).lanes.length ∧ 0 < s224.dev.axes.length ∧ (s224.dev.lane 0 0).cur < (s224.dev.lane 0 0).banks.length ∧ s224.mem.sym (foldByte 0 (4 * tget (fun _ => 0) (s224.dev.fold 0).windows 0 + 1)) = marker) ∧
    ((s225.dev.lane 0 0).run = none ∧ s225.dev.cyc.dispatched = false ∧ firstItem (s225.dev.items 0 0) = some (50, 0, 2) ∧ (s225.dev.axis 0).cur = some wFb0 ∧ (s225.dev.axis 0).pred = some wFb1 ∧ s225.dev.errBeyond 0 (fbError wFb0 wFb1) = true ∧ ∀ i : Fin 16, ∀ k : Fin 3, s225.mem.sym (foldByte 0 (4 * tget (fun _ => 0) (s225.dev.fold 0).windows 0 + 4 * i.val + 1) + k.val) = (66048 + i.val - 512 + 512) / 256 ^ (2 - k.val) % 256 + 256 * checkOf ((66048 + i.val) / 256 ^ (2 - k.val) % 256)) ∧
    ((s226.dev.lane 0 0).run = none ∧ s226.dev.cyc.dispatched = false ∧ firstItem (s226.dev.items 0 0) = some (50, 0, 2) ∧ (s226.dev.axis 0).cur = some wFb0 ∧ (s226.dev.axis 0).pred = some wFb1 ∧ s226.dev.errBeyond 0 (fbError wFb0 wFb1) = false ∧ s226.dev.setFault 0 = none ∧ (s226.dev.axis 0).skim = some (.code [(5, 6)] []) ∧ s226.dev.correctCode 0 [(5, 6)] [] (fbError wFb0 wFb1) = some ([(5, 6)], [])) ∧
    ((s227.dev.lane 0 0).run = none ∧ s227.dev.cyc.dispatched = false ∧ firstItem (s227.dev.items 0 0) = some (50, 0, 2) ∧ (s227.dev.axis 0).cur = some wFb0 ∧ (s227.dev.axis 0).pred = some wFb1 ∧ s227.dev.errBeyond 0 (fbError wFb0 wFb1) = false ∧ (s227.dev.setFault 0).isSome = true) ∧
    ((s228.dev.lane 0 0).run = none ∧ s228.dev.cyc.dispatched = false ∧ firstItem (s228.dev.items 0 0) = some (50, 0, 2) ∧ s228.dev.setCostNow 0 = 16 ∧ s228.dev.obj (Obj.OVERRUN_MARGIN 0) = 10) ∧
    ((run.dev.lane 0 0).run = none ∧ run.dev.items 0 0 = []) ∧
    (((wOver 0 3 none).dev.lane 0 0).run = some { wPass with kind := 0, n := 3, rep := none, domain := 1 } ∧ wPass.stop = 0 ∧ ¬ wPass.ctx ≥ (wOver 0 3 none).dev.axes.length ∧ (wOver 0 3 none).dev.fullCost 0 ((wOver 0 3 none).dev.cyc.tag % 8) + (wOver 0 3 none).dev.obj (Obj.OVERRUN_MARGIN 0) = 2190) ∧
    (((wOver 0 3 (some 4)).dev.lane 0 0).run = some { wPass with kind := 0, n := 3, rep := (some 4), domain := 1 } ∧ wPass.stop = 0 ∧ ¬ wPass.ctx ≥ (wOver 0 3 (some 4)).dev.axes.length ∧ (wOver 0 3 (some 4)).dev.fullCost 0 ((wOver 0 3 (some 4)).dev.cyc.tag % 8) + (wOver 0 3 (some 4)).dev.obj (Obj.OVERRUN_MARGIN 0) = 2190) ∧
    (s229.dev.computes 0 = true ∧ (s229.dev.axis 0).due = 0 ∧ s229.dev.axisState 0 ∈ [1, 2, 3] ∧ (s229.dev.axis 0).cur = none ∧ s229.dev.obj (Obj.FB_LATE_LIMIT 0) ≤ s229.dev.lateNow 0 ∧ bit (s229.dev.obj (Obj.FREEZE_MODE 0)) 0 = false) ∧
    (s230.dev.computes 0 = true ∧ (s230.dev.axis 0).due = 0 ∧ s230.dev.axisState 0 ∈ [1, 2, 3] ∧ (s230.dev.axis 0).cur.isSome = true) ∧
    (s231.dev.computes 0 = true ∧ (s231.dev.axis 0).due = 0 ∧ s231.dev.axisState 0 ∈ [1, 2, 3] ∧ s231.dev.lateNow 0 < s231.dev.obj (Obj.FB_LATE_LIMIT 0)) ∧
    (s232.dev.computes 0 = true ∧ (s232.dev.axis 0).due = 0 ∧ s232.dev.axisState 0 ∈ [1, 2, 3] ∧ bit (s232.dev.obj (Obj.FREEZE_MODE 0)) 1 = true ∧ ceilDiv (s232.dev.obj (Obj.FREEZE_TIME 0) * 1000000) (max 1 s232.dev.cyc.len) = 32 ∧ s232.dev.freezeNow 0 = 32) ∧
    (s233.dev.computes 0 = true ∧ (s233.dev.axis 0).due = 0 ∧ s233.dev.axisState 0 ∈ [1, 2, 3] ∧ s233.dev.freezeNow 0 < ceilDiv (s233.dev.obj (Obj.FREEZE_TIME 0) * 1000000) (max 1 s233.dev.cyc.len)) ∧
    (s234.dev.computes 0 = true ∧ (s234.dev.axis 0).due = 0 ∧ s234.dev.axisState 0 ∈ [1, 2, 3] ∧ (s234.dev.axis 0).cur.isSome = true ∧ (s234.dev.axis 0).work.full ≠ 3 ∧ bit (s234.dev.axis 0).flags 15 = false ∧ s234.dev.obj (Obj.MISS_LIMIT 0) ≤ s234.dev.missNow 0) ∧
    (s235.dev.computes 0 = true ∧ (s235.dev.axis 0).due = 0 ∧ s235.dev.axisState 0 ∈ [1, 2, 3] ∧ (s235.dev.axis 0).cur.isSome = true ∧ (s235.dev.axis 0).work.full ≠ 3 ∧ bit (s235.dev.axis 0).flags 15 = false ∧ s235.dev.obj (Obj.MISS_LIMIT 0) ≤ s235.dev.missNow 0) ∧
    (s236.dev.computes 0 = true ∧ (s236.dev.axis 0).due = 0 ∧ s236.dev.axisState 0 ∈ [1, 2, 3] ∧ (s236.dev.axis 0).cur.isSome = true ∧ (s236.dev.axis 0).work.full ≠ 3 ∧ bit (s236.dev.axis 0).flags 15 = false ∧ s236.dev.obj (Obj.MISS_LIMIT 0) ≤ s236.dev.missNow 0) ∧
    (s237.dev.computes 0 = true ∧ (s237.dev.axis 0).due = 0 ∧ s237.dev.axisState 0 ∈ [1, 2, 3] ∧ s237.dev.missNow 0 < s237.dev.obj (Obj.MISS_LIMIT 0)) ∧
    (s238.dev.computes 0 = true ∧ (s238.dev.axis 0).due = 0 ∧ s238.dev.axisState 0 ∈ [1, 2, 3] ∧ (s238.dev.axis 0).cur = none ∧ s238.dev.obj (Obj.FB_LATE_LIMIT 0) ≤ s238.dev.lateNow 0 ∧ bit (s238.dev.obj (Obj.FREEZE_MODE 0)) 0 = false) ∧
    (s239.dev.computes 0 = true ∧ (s239.dev.axis 0).due = 0 ∧ s239.dev.axisState 0 ∈ [1, 2, 3] ∧ (s239.dev.axis 0).cur.isSome = true) ∧
    (s240.dev.computes 0 = true ∧ (s240.dev.axis 0).due = 0 ∧ s240.dev.axisState 0 ∈ [1, 2, 3] ∧ s240.dev.lateNow 0 < s240.dev.obj (Obj.FB_LATE_LIMIT 0)) ∧
    (s241.dev.computes 0 = true ∧ (s241.dev.axis 0).due = 0 ∧ s241.dev.axisState 0 ∈ [1, 2, 3] ∧ bit (s241.dev.obj (Obj.FREEZE_MODE 0)) 1 = true ∧ ceilDiv (s241.dev.obj (Obj.FREEZE_TIME 0) * 1000000) (max 1 s241.dev.cyc.len) = 32 ∧ s241.dev.freezeNow 0 = 32) ∧
    (s242.dev.computes 0 = true ∧ (s242.dev.axis 0).due = 0 ∧ s242.dev.axisState 0 ∈ [1, 2, 3] ∧ s242.dev.freezeNow 0 < ceilDiv (s242.dev.obj (Obj.FREEZE_TIME 0) * 1000000) (max 1 s242.dev.cyc.len)) ∧
    (s243.dev.computes 0 = true ∧ (s243.dev.axis 0).due = 0 ∧ s243.dev.axisState 0 ∈ [1, 2, 3] ∧ (s243.dev.axis 0).cur.isSome = true ∧ (s243.dev.axis 0).work.full ≠ 3 ∧ bit (s243.dev.axis 0).flags 15 = false ∧ s243.dev.obj (Obj.MISS_LIMIT 0) ≤ s243.dev.missNow 0) ∧
    (s244.dev.computes 0 = true ∧ (s244.dev.axis 0).due = 0 ∧ s244.dev.axisState 0 ∈ [1, 2, 3] ∧ (s244.dev.axis 0).cur.isSome = true ∧ (s244.dev.axis 0).work.full ≠ 3 ∧ bit (s244.dev.axis 0).flags 15 = false ∧ s244.dev.obj (Obj.MISS_LIMIT 0) ≤ s244.dev.missNow 0) ∧
    (s245.dev.computes 0 = true ∧ (s245.dev.axis 0).due = 0 ∧ s245.dev.axisState 0 ∈ [1, 2, 3] ∧ (s245.dev.axis 0).cur.isSome = true ∧ (s245.dev.axis 0).work.full ≠ 3 ∧ bit (s245.dev.axis 0).flags 15 = false ∧ s245.dev.obj (Obj.MISS_LIMIT 0) ≤ s245.dev.missNow 0) ∧
    (s246.dev.computes 0 = true ∧ (s246.dev.axis 0).due = 0 ∧ s246.dev.axisState 0 ∈ [1, 2, 3] ∧ s246.dev.missNow 0 < s246.dev.obj (Obj.MISS_LIMIT 0)) ∧
    (s247.dev.computes 0 = true ∧ (s247.dev.axis 0).due = 0 ∧ s247.dev.axisState 0 ∈ [1, 2, 3] ∧ (s247.dev.axis 0).cur = none ∧ s247.dev.obj (Obj.FB_LATE_LIMIT 0) ≤ s247.dev.lateNow 0 ∧ bit (s247.dev.obj (Obj.FREEZE_MODE 0)) 0 = false) ∧
    (s248.dev.computes 0 = true ∧ (s248.dev.axis 0).due = 0 ∧ s248.dev.axisState 0 ∈ [1, 2, 3] ∧ (s248.dev.axis 0).cur.isSome = true) ∧
    (s249.dev.computes 0 = true ∧ (s249.dev.axis 0).due = 0 ∧ s249.dev.axisState 0 ∈ [1, 2, 3] ∧ s249.dev.lateNow 0 < s249.dev.obj (Obj.FB_LATE_LIMIT 0)) ∧
    (s250.dev.computes 0 = true ∧ (s250.dev.axis 0).due = 0 ∧ s250.dev.axisState 0 ∈ [1, 2, 3] ∧ bit (s250.dev.obj (Obj.FREEZE_MODE 0)) 1 = true ∧ ceilDiv (s250.dev.obj (Obj.FREEZE_TIME 0) * 1000000) (max 1 s250.dev.cyc.len) = 32 ∧ s250.dev.freezeNow 0 = 32) ∧
    (s251.dev.computes 0 = true ∧ (s251.dev.axis 0).due = 0 ∧ s251.dev.axisState 0 ∈ [1, 2, 3] ∧ s251.dev.freezeNow 0 < ceilDiv (s251.dev.obj (Obj.FREEZE_TIME 0) * 1000000) (max 1 s251.dev.cyc.len)) ∧
    (s252.dev.computes 0 = true ∧ (s252.dev.axis 0).due = 0 ∧ s252.dev.axisState 0 ∈ [1, 2, 3] ∧ (s252.dev.axis 0).cur.isSome = true ∧ (s252.dev.axis 0).work.full ≠ 3 ∧ bit (s252.dev.axis 0).flags 15 = false ∧ s252.dev.obj (Obj.MISS_LIMIT 0) ≤ s252.dev.missNow 0) ∧
    (s253.dev.computes 0 = true ∧ (s253.dev.axis 0).due = 0 ∧ s253.dev.axisState 0 ∈ [1, 2, 3] ∧ (s253.dev.axis 0).cur.isSome = true ∧ (s253.dev.axis 0).work.full ≠ 3 ∧ bit (s253.dev.axis 0).flags 15 = false ∧ s253.dev.obj (Obj.MISS_LIMIT 0) ≤ s253.dev.missNow 0) ∧
    (s254.dev.computes 0 = true ∧ (s254.dev.axis 0).due = 0 ∧ s254.dev.axisState 0 ∈ [1, 2, 3] ∧ (s254.dev.axis 0).cur.isSome = true ∧ (s254.dev.axis 0).work.full ≠ 3 ∧ bit (s254.dev.axis 0).flags 15 = false ∧ s254.dev.obj (Obj.MISS_LIMIT 0) ≤ s254.dev.missNow 0) ∧
    (s255.dev.computes 0 = true ∧ (s255.dev.axis 0).due = 0 ∧ s255.dev.axisState 0 ∈ [1, 2, 3] ∧ s255.dev.missNow 0 < s255.dev.obj (Obj.MISS_LIMIT 0)) :=
  by and_intros <;> decide +kernel

/-- The island running in a device state, with its objects and its own state as given. -/
def wIsl (st : Nat) (l : List (Nat × Nat)) (f : Island → Island) : State :=
  on (withObjs [(Obj.DEVICE_STATE, st)]) (fun d =>
    let d := ({ d with isl := { d.isl with feedA := true, feedB := true }, now := 5000000000 } : Dev).islandStart
    let d := { d with dict := l.foldl (fun m (e : Nat × Nat) => tput m e.1 e.2) (tput d.dict Obj.SAFETY_TICK_COUNT 100000) }
    { d with isl := f { d.isl with running := true, tickAt := 0 } })
def wSample (a : Nat) : SafeSample := { a := BitVec.ofNat 16 a, b := BitVec.ofNat 16 a, srstA := false, srstB := false }
/-- Group 1 watches axis 0, which has stood still for 100,000 ticks; pair 0 demands a function of the group. -/
def wGroup (st fn : Nat) (f : Island → Island) : State :=
  wIsl 3 [(Obj.GROUP_STATE 1, st), (Obj.AXIS_GROUP 0, 1), (Obj.SAFE_POS_CONN 0, 1), (Obj.SI_FUNCTION 0, fn), (Obj.SI_GROUPS 0, 2), (Obj.STANDSTILL_TIME 1, 10), (Obj.SS1_TIME_MAX 1, 100)]
    (fun i => f { i with pairs := upd (fun p => { p with demanding := fn != 0 }) i.pairs 0,
                         groups := upd (fun g => { g with rampAt := 90000 }) i.groups 1, monitors := upd (fun m => { m with still := 100000 }) i.monitors 0 })
def wCause (code held : Nat) : Cause := { code := code, source := 3, held := held, cleared := false }

def s256 : State := wIsl 0 [(Obj.SAFETY_TICK_COUNT, 0xFFFFFFFF)] (fun i => i)
def s257 : State := on (wIsl 3 [] (fun i => { i with tickAt := 4999902001 })) (fun d => d)
def s258 : State := wGroup 2 3 (fun i => { i with monitors := upd (fun m => { m with still := 0 }) i.monitors 0 })
def s259 : State := wGroup 4 0 (fun i => { i with groups := upd (fun g => { g with causes := [wCause 5 10000] }) i.groups 1, pairs := upd (fun p => { p with pulses := 8 }) i.pairs 3 })
def s260 : State := wGroup 4 0 (fun i => { i with groups := upd (fun g => { g with causes := [wCause 3 1] }) i.groups 1, pairs := upd (fun p => { p with pulses := 8 }) i.pairs 3 })
def s261 : State := wGroup 4 0 (fun i => { i with groups := upd (fun g => { g with causes := [wCause 4 0] }) i.groups 1, pairs := upd (fun p => { p with pulses := 8 }) i.pairs 3 })

theorem test_witness_SafetyTicksAndRampsDecideTheGroups :
    (run.dev.isl.running = false) ∧
    ((wIsl 0 [] (fun i => i)).dev.isl.running = true ∧ (wIsl 0 [] (fun i => i)).dev.isl.tickAt + (if (wIsl 0 [] (fun i => i)).dev.ownTick then 98000 else 100000) ≤ (wIsl 0 [] (fun i => i)).dev.now ∧ (∀ e ∈ (wIsl 0 [] (fun i => i)).dev.tally.committed, e.1 = false) ∧ (wIsl 0 [] (fun i => i)).dev.held = true ∧ (wIsl 0 [] (fun i => i)).dev.isHead = true) ∧
    ((wIsl 1 [] (fun i => i)).dev.isl.running = true ∧ (wIsl 1 [] (fun i => i)).dev.isl.tickAt + (if (wIsl 1 [] (fun i => i)).dev.ownTick then 98000 else 100000) ≤ (wIsl 1 [] (fun i => i)).dev.now ∧ (∀ e ∈ (wIsl 1 [] (fun i => i)).dev.tally.committed, e.1 = false) ∧ (wIsl 1 [] (fun i => i)).dev.held = true ∧ (wIsl 1 [] (fun i => i)).dev.isHead = true) ∧
    ((wIsl 3 [] (fun i => i)).dev.isl.running = true ∧ (wIsl 3 [] (fun i => i)).dev.isl.tickAt + (if (wIsl 3 [] (fun i => i)).dev.ownTick then 98000 else 100000) ≤ (wIsl 3 [] (fun i => i)).dev.now ∧ (∀ e ∈ (wIsl 3 [] (fun i => i)).dev.tally.committed, e.1 = false)) ∧
    ((wIsl 5 [] (fun i => i)).dev.isl.running = true ∧ (wIsl 5 [] (fun i => i)).dev.isl.tickAt + (if (wIsl 5 [] (fun i => i)).dev.ownTick then 98000 else 100000) ≤ (wIsl 5 [] (fun i => i)).dev.now ∧ (∀ e ∈ (wIsl 5 [] (fun i => i)).dev.tally.committed, e.1 = false) ∧ (wIsl 5 [] (fun i => i)).dev.held = true ∧ (wIsl 5 [] (fun i => i)).dev.isHead = true) ∧
    (s257.dev.now < s257.dev.isl.tickAt + (if s257.dev.ownTick then 98000 else 100000)) ∧
    ((wGroup 1 2 (fun i => i)).dev.isl.running = true ∧ (wGroup 1 2 (fun i => i)).dev.isHead = true ∧ (wGroup 1 2 (fun i => i)).dev.isl.groups.length = 32 ∧ (wGroup 1 2 (fun i => i)).dev.groupState 1 = 1 ∧ bit (wGroup 1 2 (fun i => i)).dev.safeDemands.ss1 1 = true ∧ (wGroup 1 2 (fun i => i)).dev.rampTimedOut 1 = true ∧ (wGroup 1 2 (fun i => i)).dev.groupStill 1 = true) ∧
    (s258.dev.isl.running = true ∧ s258.dev.isHead = true ∧ s258.dev.isl.groups.length = 32 ∧ s258.dev.groupState 1 = 2 ∧ s258.dev.rampTimedOut 1 = true ∧ s258.dev.groupStill 1 = false) ∧
    ((wGroup 2 3 (fun i => i)).dev.isl.running = true ∧ (wGroup 2 3 (fun i => i)).dev.isHead = true ∧ (wGroup 2 3 (fun i => i)).dev.isl.groups.length = 32 ∧ (wGroup 2 3 (fun i => i)).dev.groupState 1 = 2 ∧ (wGroup 2 3 (fun i => i)).dev.groupStill 1 = true ∧ (wGroup 2 3 (fun i => i)).dev.held = false ∧ (wGroup 2 3 (fun i => i)).dev.ctl.failedFold = none ∧ ((wGroup 2 3 (fun i => i)).dev.sgroup 1).causes = [] ∧ bit (wGroup 2 3 (fun i => i)).dev.safeDemands.sto 1 = false ∧ bit (wGroup 2 3 (fun i => i)).dev.safeDemands.ss1 1 = false ∧ ((wGroup 2 3 (fun i => i)).dev.sgroup 1).react = false ∧ bit (wGroup 2 3 (fun i => i)).dev.safeDemands.ss2 1 = true) ∧
    (wCause 5 10000 ∈ (s259.dev.sgroup 1).causes ∧ (wCause 5 10000).code = (5 : Byte).toNat ∧ (wCause 5 10000).source = (3 : Byte).toNat ∧ needHeld 5 ≤ s259.dev.heldFor (wCause 5 10000)) ∧
    (wCause 3 1 ∈ (s260.dev.sgroup 1).causes ∧ (wCause 3 1).code = (3 : Byte).toNat ∧ (wCause 3 1).source = (3 : Byte).toNat ∧ needHeld 3 ≤ s260.dev.heldFor (wCause 3 1)) ∧
    (wCause 4 0 ∈ (s261.dev.sgroup 1).causes ∧ (wCause 4 0).code = (4 : Byte).toNat ∧ (wCause 4 0).source = (3 : Byte).toNat ∧ needHeld 4 ≤ s261.dev.heldFor (wCause 4 0)) :=
  by and_intros <;> decide +kernel

def s262 : State := wIsl 3 [(Obj.DISC_TICKS 2, 20), (Obj.SI_GROUPS 2, 10)] (fun i => { i with pairs := upd (fun p => { p with countS := 21, countC := 0, fault := false }) i.pairs 2 })
def s263 : State := wIsl 3 [(Obj.DISC_TICKS 2, 20), (Obj.SI_GROUPS 2, 10)] (fun i => { i with pairs := upd (fun p => { p with countS := 0, countC := 21, fault := false }) i.pairs 2 })
def s264 : State := wIsl 3 [(Obj.DISC_TICKS 2, 20)] (fun i => { i with pairs := upd (fun p => { p with countS := 20, countC := 20, fault := false }) i.pairs 2 })
def s265 : State := wIsl 3 [(Obj.TP_PERIOD, 100), (Obj.SAFETY_TICK_COUNT, 101), (Obj.SI_TEST_A 2, 1), (Obj.SI_GROUPS 2, 10)] (fun i => { i with pairs := upd (fun p => { p with levA := true }) i.pairs 2 })
def s266 : State := wIsl 3 [(Obj.SO_TEST_PERIOD 2, 2), (Obj.SO_GROUP 2, 5)] (fun i => { i with outs := upd (fun o => { o with on := true, testedAt := 3000000001 }) i.outs 2 })
def s267 : State := wIsl 3 [(Obj.SO_TEST_PERIOD 2, 2), (Obj.SO_GROUP 2, 5)] (fun i => { i with outs := upd (fun o => { o with on := true, testedAt := 3000000000 }) i.outs 2 })
def s268 : State := wIsl 3 [] (fun i => { i with resetS := .held 49999, resetC := .held 49999 })
def s269 : State := wIsl 3 [(Obj.RESET_INPUT_STATE, 2)] (fun i => { i with resetS := .stuck (some 90000), resetC := .stuck (some 90000) })
def s270 : State := wIsl 4 [] (fun i => { i with testing := false })
def s271 : State := wIsl 4 [] (fun i => { i with testing := true })
def s272 : State := wIsl 0 [] (fun i => { i with testing := true, bootTest := true })
def s273 : State := on (wIsl 4 [] (fun i => { i with testing := true })) (fun d => d.updRing 0 (fun g => { g with nodes := [wNode0] }))
def s274 : State := on (wIsl 3 [(Obj.SELFTEST_MAX_INTERVAL, 1)] (fun i => { i with passedAt := 0 })) (fun d => { d with now := 3600000000000 })

theorem test_witness_SafetyInputsOutputsAndTestsReport :
    (s262.dev.isl.running = true ∧ s262.dev.isl.groups.length = 32 ∧ (s262.dev.spair 2).fault = false ∧ (s262.dev.obj (Obj.DISC_TICKS 2) < (s262.dev.spair 2).countS ∨ s262.dev.obj (Obj.DISC_TICKS 2) < (s262.dev.spair 2).countC) ∧ bit (s262.dev.obj (Obj.SI_GROUPS 2)) 3 = true) ∧
    (s263.dev.isl.running = true ∧ s263.dev.isl.groups.length = 32 ∧ (s263.dev.spair 2).fault = false ∧ (s263.dev.obj (Obj.DISC_TICKS 2) < (s263.dev.spair 2).countS ∨ s263.dev.obj (Obj.DISC_TICKS 2) < (s263.dev.spair 2).countC) ∧ bit (s263.dev.obj (Obj.SI_GROUPS 2)) 3 = true) ∧
    ((s264.dev.spair 2).countS ≤ s264.dev.obj (Obj.DISC_TICKS 2) ∧ (s264.dev.spair 2).countC ≤ s264.dev.obj (Obj.DISC_TICKS 2)) ∧
    (run.dev.isl.running = false) ∧
    (s265.dev.isl.running = true ∧ s265.dev.isHead = true ∧ s265.dev.tick % s265.dev.obj Obj.TP_PERIOD = (1 : Fin 4).val ∧ s265.dev.isl.groups.length = 32 ∧ s265.dev.obj (Obj.SI_TEST_A 2) = (1 : Fin 4).val ∧ bit (4 : BitVec 16).toNat 2 = true ∧ (s265.dev.spair 2).levA = true ∧ bit (s265.dev.obj (Obj.SI_GROUPS 2)) 3 = true) ∧
    ((s266.dev.isl.running && (s266.dev.sout 2).on && decide (0 < s266.dev.obj (Obj.SO_TEST_PERIOD 2)) && decide ((s266.dev.sout 2).testedAt + s266.dev.obj (Obj.SO_TEST_PERIOD 2) * 1000000000 ≤ s266.dev.now)) = false) ∧
    ((s267.dev.isl.running && (s267.dev.sout 2).on && decide (0 < s267.dev.obj (Obj.SO_TEST_PERIOD 2)) && decide ((s267.dev.sout 2).testedAt + s267.dev.obj (Obj.SO_TEST_PERIOD 2) * 1000000000 ≤ s267.dev.now)) = true ∧ s267.dev.obj (Obj.SO_GROUP 2) < s267.dev.isl.groups.length) ∧
    (s268.dev.isl.running = true ∧ s268.dev.isl.resetS = .held 49999 ∧ s268.dev.isl.resetC = .held 49999 ∧ 50001 ≤ s268.dev.ticksSince 49999) ∧
    (s269.dev.isl.resetS = .stuck (some 90000) ∧ s269.dev.isl.resetC = .stuck (some 90000) ∧ 10000 ≤ s269.dev.ticksSince 90000) ∧
    (isOpen (wIsl 4 [] (fun i => i)) .host = true ∧ (wIsl 4 [] (fun i => i)).dev.state = stService ∧ (rowOf Obj.SELFTEST_COMMAND).any (okWrite (wIsl 4 [] (fun i => i)) Obj.SELFTEST_COMMAND 1) = true ∧ (wIsl 4 [] (fun i => i)).dev.isl.running = true) ∧
    (s270.dev.isl.testing = false) ∧
    (s271.dev.isl.running = true ∧ s271.dev.isl.testing = true ∧ s271.dev.isl.bootTest = false ∧ s271.dev.haltAcked = true ∧ s271.dev.isl.groups.length = 32) ∧
    (s272.dev.isl.running = true ∧ s272.dev.isl.testing = true ∧ s272.dev.isl.bootTest = true ∧ s272.dev.isl.groups.length = 32) ∧
    (s273.dev.isl.running = true ∧ s273.dev.isl.testing = true ∧ s273.dev.isl.bootTest = false ∧ s273.dev.haltAcked = false) ∧
    (((wIsl 3 [] (fun i => i)).dev.isl.running && !(wIsl 3 [] (fun i => i)).dev.isl.overdue && decide ((wIsl 3 [] (fun i => i)).dev.obj Obj.SELFTEST_MAX_INTERVAL * 3600000000000 ≤ (wIsl 3 [] (fun i => i)).dev.now - (wIsl 3 [] (fun i => i)).dev.isl.passedAt)) = false) ∧
    ((s274.dev.isl.running && !s274.dev.isl.overdue && decide (s274.dev.obj Obj.SELFTEST_MAX_INTERVAL * 3600000000000 ≤ s274.dev.now - s274.dev.isl.passedAt)) = true) :=
  by and_intros <;> decide +kernel

/-- Connection 7, received over Ethernet with identity 0x01020304 and tag 9, in a state and after a sequence number, 1 s of time. -/
def wConn (st kind last : Nat) (f : Conn → Conn) : State :=
  on (wIsl 3 [(Obj.CONN_ENABLE 7, 1), (Obj.CN_DIRECTION 7, 0), (Obj.CN_CARRIER 7, 1), (Obj.CN_IDENTITY 7, 0x01020304), (Obj.CN_TAG 7, 9), (Obj.CONN_STATE 7, st),
    (Obj.CN_LAST_SEQ 7, last), (Obj.CN_LENGTH 7, 27), (Obj.CN_KIND 7, kind), (Obj.CN_MAX_AGE 7, 500), (Obj.CN_TS_TOL 7, 100), (Obj.CN_MAX_SEQ_STEP 7, 3), (Obj.CN_T_EXP 7, 1000)]
    (fun i => { i with conns := upd f i.conns 7 })) (fun d => { d with tb := { d.tb with sec := 1, ns := 0 } })
def wPay : List Byte := [2] ++ List.replicate 25 0 ++ [5]
def wSafe (seq ts : Nat) : List Byte := safeFrame 0x01020304 9 seq ts wPay
/-- Connection 8 sends SAFE_STATUS over Ethernet port 0. -/
def wSend (since : Nat) : State :=
  on (wNet [] (fun d => d)) (fun d =>
    let d := ({ d with isl := { d.isl with feedA := true, feedB := true } } : Dev).islandStart
    let l := [(Obj.CONN_ENABLE 8, 1), (Obj.CN_DIRECTION 8, 1), (Obj.CN_CARRIER 8, 1), (Obj.CN_KIND 8, 3), (Obj.CN_SEND_PERIOD 8, 10), (Obj.CN_IDENTITY 8, 5), (Obj.CN_TAG 8, 6),
      (Obj.CN_ROUTE 8, 0xC0A80009), (Obj.CN_ROUTE_2 8, 0)]
    let d := { d with dict := l.foldl (fun m (e : Nat × Nat) => tput m e.1 e.2) d.dict }
    { d with isl := { d.isl with running := true, payload := [3, 1, 2, 3], conns := upd (fun c => { c with since := since, seq := 65535 }) d.isl.conns 8 } })

def s275 : State := on (wConn 2 2 5 (fun c => c)) (fun d => d.setObj (Obj.CN_LENGTH 7) 4)
def s276 : State := on (wConn 2 2 5 (fun c => c)) (fun d => d.setObj (Obj.POOL_CAP 3) 0)
def s277 : State := wConn 2 2 5 (fun c => { c with lastAt := 4999000000 })
def s278 : State := wConn 2 2 5 (fun c => { c with lastAt := 4998999999 })
def s279 : State := on (wSend 10) (fun d => (d.setObj (Obj.CN_CARRIER 8) 2).setObj (Obj.CAN_ENABLE 1) 1)

theorem test_witness_SafeFramesAreCheckedAndSent :
    (run.dev.safeLive = false) ∧
    (fieldAt [0, 1, 2] 0 1 = 0) ∧
    ((wConn 2 2 5 (fun c => c)).dev.safeLive = true ∧ (wConn 2 2 5 (fun c => c)).dev.matchConn .twin (wSafe 6 1) = none) ∧
    ((wConn 2 2 5 (fun c => c)).dev.matchConn .eth (wSafe 6 999999000 ++ [0]) = some 7 ∧ cutFrame ((wConn 2 2 5 (fun c => c)).dev.obj (Obj.CN_CARRIER 7)) (wSafe 6 999999000 ++ [0]) = none) ∧
    ((wConn 2 2 5 (fun c => c)).dev.safeLive = true ∧ (wConn 2 2 5 (fun c => c)).dev.poolFits 3 (buffersOf ((safeFrame 0x01020305 9 6 999999000 wPay).length + 42)) = true ∧ (wConn 2 2 5 (fun c => c)).dev.matchConn .eth (safeFrame 0x01020305 9 6 999999000 wPay) = some 7 ∧ cutFrame ((wConn 2 2 5 (fun c => c)).dev.obj (Obj.CN_CARRIER 7)) (safeFrame 0x01020305 9 6 999999000 wPay) = some (safeFrame 0x01020305 9 6 999999000 wPay) ∧ ¬ crc32c (beBytes 4 ((wConn 2 2 5 (fun c => c)).dev.obj (Obj.CN_IDENTITY 7)) ++ slice (safeFrame 0x01020305 9 6 999999000 wPay) 3 (6 + ((safeFrame 0x01020305 9 6 999999000 wPay).length - 13))) = fieldAt (safeFrame 0x01020305 9 6 999999000 wPay) (9 + ((safeFrame 0x01020305 9 6 999999000 wPay).length - 13)) 4) ∧
    ((wConn 2 2 5 (fun c => c)).dev.safeLive = true ∧ (wConn 2 2 5 (fun c => c)).dev.poolFits 3 (buffersOf ((wSafe 6 999499999).length + 42)) = true ∧ (wConn 2 2 5 (fun c => c)).dev.matchConn .eth (wSafe 6 999499999) = some 7 ∧ cutFrame ((wConn 2 2 5 (fun c => c)).dev.obj (Obj.CN_CARRIER 7)) (wSafe 6 999499999) = some (wSafe 6 999499999) ∧ crc32c (beBytes 4 ((wConn 2 2 5 (fun c => c)).dev.obj (Obj.CN_IDENTITY 7)) ++ slice (wSafe 6 999499999) 3 (6 + ((wSafe 6 999499999).length - 13))) = fieldAt (wSafe 6 999499999) (9 + ((wSafe 6 999499999).length - 13)) 4 ∧ (wConn 2 2 5 (fun c => c)).dev.obj (Obj.CONN_STATE 7) = 2 ∧ ((wConn 2 2 5 (fun c => c)).dev.conn 7).failing = 0 ∧ 7 < (wConn 2 2 5 (fun c => c)).dev.isl.conns.length ∧ ¬ (-((wConn 2 2 5 (fun c => c)).dev.obj (Obj.CN_TS_TOL 7) * 1000 : Int) ≤ sgn 32 (raw 32 ((ns32 ((wConn 2 2 5 (fun c => c)).dev.timeNs 0) : Int) - fieldAt (wSafe 6 999499999) 5 4)) ∧ sgn 32 (raw 32 ((ns32 ((wConn 2 2 5 (fun c => c)).dev.timeNs 0) : Int) - fieldAt (wSafe 6 999499999) 5 4)) ≤ ((wConn 2 2 5 (fun c => c)).dev.obj (Obj.CN_MAX_AGE 7) * 1000 : Int))) ∧
    ((wConn 2 2 5 (fun c => c)).dev.safeLive = true ∧ (wConn 2 2 5 (fun c => c)).dev.poolFits 3 (buffersOf ((wSafe 6 1000100001).length + 42)) = true ∧ (wConn 2 2 5 (fun c => c)).dev.matchConn .eth (wSafe 6 1000100001) = some 7 ∧ cutFrame ((wConn 2 2 5 (fun c => c)).dev.obj (Obj.CN_CARRIER 7)) (wSafe 6 1000100001) = some (wSafe 6 1000100001) ∧ crc32c (beBytes 4 ((wConn 2 2 5 (fun c => c)).dev.obj (Obj.CN_IDENTITY 7)) ++ slice (wSafe 6 1000100001) 3 (6 + ((wSafe 6 1000100001).length - 13))) = fieldAt (wSafe 6 1000100001) (9 + ((wSafe 6 1000100001).length - 13)) 4 ∧ (wConn 2 2 5 (fun c => c)).dev.obj (Obj.CONN_STATE 7) = 2 ∧ ((wConn 2 2 5 (fun c => c)).dev.conn 7).failing = 0 ∧ 7 < (wConn 2 2 5 (fun c => c)).dev.isl.conns.length ∧ ¬ (-((wConn 2 2 5 (fun c => c)).dev.obj (Obj.CN_TS_TOL 7) * 1000 : Int) ≤ sgn 32 (raw 32 ((ns32 ((wConn 2 2 5 (fun c => c)).dev.timeNs 0) : Int) - fieldAt (wSafe 6 1000100001) 5 4)) ∧ sgn 32 (raw 32 ((ns32 ((wConn 2 2 5 (fun c => c)).dev.timeNs 0) : Int) - fieldAt (wSafe 6 1000100001) 5 4)) ≤ ((wConn 2 2 5 (fun c => c)).dev.obj (Obj.CN_MAX_AGE 7) * 1000 : Int))) ∧
    ((wConn 2 2 5 (fun c => c)).dev.safeLive = true ∧ (wConn 2 2 5 (fun c => c)).dev.poolFits 3 (buffersOf ((wSafe 5 999500000).length + 42)) = true ∧ (wConn 2 2 5 (fun c => c)).dev.matchConn .eth (wSafe 5 999500000) = some 7 ∧ cutFrame ((wConn 2 2 5 (fun c => c)).dev.obj (Obj.CN_CARRIER 7)) (wSafe 5 999500000) = some (wSafe 5 999500000) ∧ crc32c (beBytes 4 ((wConn 2 2 5 (fun c => c)).dev.obj (Obj.CN_IDENTITY 7)) ++ slice (wSafe 5 999500000) 3 (6 + ((wSafe 5 999500000).length - 13))) = fieldAt (wSafe 5 999500000) (9 + ((wSafe 5 999500000).length - 13)) 4 ∧ (wConn 2 2 5 (fun c => c)).dev.obj (Obj.CONN_STATE 7) = 2 ∧ ((wConn 2 2 5 (fun c => c)).dev.conn 7).failing = 0 ∧ 7 < (wConn 2 2 5 (fun c => c)).dev.isl.conns.length ∧ -((wConn 2 2 5 (fun c => c)).dev.obj (Obj.CN_TS_TOL 7) * 1000 : Int) ≤ sgn 32 (raw 32 ((ns32 ((wConn 2 2 5 (fun c => c)).dev.timeNs 0) : Int) - fieldAt (wSafe 5 999500000) 5 4)) ∧ sgn 32 (raw 32 ((ns32 ((wConn 2 2 5 (fun c => c)).dev.timeNs 0) : Int) - fieldAt (wSafe 5 999500000) 5 4)) ≤ ((wConn 2 2 5 (fun c => c)).dev.obj (Obj.CN_MAX_AGE 7) * 1000 : Int) ∧ raw 16 ((fieldAt (wSafe 5 999500000) 3 2 : Int) - (wConn 2 2 5 (fun c => c)).dev.obj (Obj.CN_LAST_SEQ 7)) = 0) ∧
    ((wConn 2 2 5 (fun c => c)).dev.safeLive = true ∧ (wConn 2 2 5 (fun c => c)).dev.poolFits 3 (buffersOf ((wSafe 9 1000100000).length + 42)) = true ∧ (wConn 2 2 5 (fun c => c)).dev.matchConn .eth (wSafe 9 1000100000) = some 7 ∧ cutFrame ((wConn 2 2 5 (fun c => c)).dev.obj (Obj.CN_CARRIER 7)) (wSafe 9 1000100000) = some (wSafe 9 1000100000) ∧ crc32c (beBytes 4 ((wConn 2 2 5 (fun c => c)).dev.obj (Obj.CN_IDENTITY 7)) ++ slice (wSafe 9 1000100000) 3 (6 + ((wSafe 9 1000100000).length - 13))) = fieldAt (wSafe 9 1000100000) (9 + ((wSafe 9 1000100000).length - 13)) 4 ∧ (wConn 2 2 5 (fun c => c)).dev.obj (Obj.CONN_STATE 7) = 2 ∧ ((wConn 2 2 5 (fun c => c)).dev.conn 7).failing = 0 ∧ 7 < (wConn 2 2 5 (fun c => c)).dev.isl.conns.length ∧ -((wConn 2 2 5 (fun c => c)).dev.obj (Obj.CN_TS_TOL 7) * 1000 : Int) ≤ sgn 32 (raw 32 ((ns32 ((wConn 2 2 5 (fun c => c)).dev.timeNs 0) : Int) - fieldAt (wSafe 9 1000100000) 5 4)) ∧ sgn 32 (raw 32 ((ns32 ((wConn 2 2 5 (fun c => c)).dev.timeNs 0) : Int) - fieldAt (wSafe 9 1000100000) 5 4)) ≤ ((wConn 2 2 5 (fun c => c)).dev.obj (Obj.CN_MAX_AGE 7) * 1000 : Int) ∧ raw 16 ((fieldAt (wSafe 9 1000100000) 3 2 : Int) - (wConn 2 2 5 (fun c => c)).dev.obj (Obj.CN_LAST_SEQ 7)) ≠ 0 ∧ (wConn 2 2 5 (fun c => c)).dev.obj (Obj.CN_MAX_SEQ_STEP 7) < raw 16 ((fieldAt (wSafe 9 1000100000) 3 2 : Int) - (wConn 2 2 5 (fun c => c)).dev.obj (Obj.CN_LAST_SEQ 7))) ∧
    ((wConn 1 3 5 (fun c => c)).dev.safeLive = true ∧ (wConn 1 3 5 (fun c => c)).dev.poolFits 3 (buffersOf ((wSafe 9 1000000000).length + 42)) = true ∧ (wConn 1 3 5 (fun c => c)).dev.matchConn .eth (wSafe 9 1000000000) = some 7 ∧ cutFrame ((wConn 1 3 5 (fun c => c)).dev.obj (Obj.CN_CARRIER 7)) (wSafe 9 1000000000) = some (wSafe 9 1000000000) ∧ crc32c (beBytes 4 ((wConn 1 3 5 (fun c => c)).dev.obj (Obj.CN_IDENTITY 7)) ++ slice (wSafe 9 1000000000) 3 (6 + ((wSafe 9 1000000000).length - 13))) = fieldAt (wSafe 9 1000000000) (9 + ((wSafe 9 1000000000).length - 13)) 4 ∧ -((wConn 1 3 5 (fun c => c)).dev.obj (Obj.CN_TS_TOL 7) * 1000 : Int) ≤ sgn 32 (raw 32 ((ns32 ((wConn 1 3 5 (fun c => c)).dev.timeNs 0) : Int) - fieldAt (wSafe 9 1000000000) 5 4)) ∧ sgn 32 (raw 32 ((ns32 ((wConn 1 3 5 (fun c => c)).dev.timeNs 0) : Int) - fieldAt (wSafe 9 1000000000) 5 4)) ≤ ((wConn 1 3 5 (fun c => c)).dev.obj (Obj.CN_MAX_AGE 7) * 1000 : Int) ∧ ((wConn 1 3 5 (fun c => c)).dev.obj (Obj.CONN_STATE 7) = 2 → raw 16 ((9 : Int) - (wConn 1 3 5 (fun c => c)).dev.obj (Obj.CN_LAST_SEQ 7)) ≠ 0 ∧ raw 16 ((9 : Int) - (wConn 1 3 5 (fun c => c)).dev.obj (Obj.CN_LAST_SEQ 7)) ≤ (wConn 1 3 5 (fun c => c)).dev.obj (Obj.CN_MAX_SEQ_STEP 7)) ∧ fieldAt (slice (wSafe 9 1000000000) 9 ((wSafe 9 1000000000).length - 13)) 0 1 ≠ (wConn 1 3 5 (fun c => c)).dev.obj (Obj.CN_KIND 7)) ∧
    (s275.dev.safeLive = true ∧ s275.dev.poolFits 3 (buffersOf ((safeFrame 0x01020304 9 8 1000000000 [2, 0, 0, 5]).length + 42)) = true ∧ s275.dev.matchConn .eth (safeFrame 0x01020304 9 8 1000000000 [2, 0, 0, 5]) = some 7 ∧ cutFrame (s275.dev.obj (Obj.CN_CARRIER 7)) (safeFrame 0x01020304 9 8 1000000000 [2, 0, 0, 5]) = some (safeFrame 0x01020304 9 8 1000000000 [2, 0, 0, 5]) ∧ crc32c (beBytes 4 (s275.dev.obj (Obj.CN_IDENTITY 7)) ++ slice (safeFrame 0x01020304 9 8 1000000000 [2, 0, 0, 5]) 3 (6 + ((safeFrame 0x01020304 9 8 1000000000 [2, 0, 0, 5]).length - 13))) = fieldAt (safeFrame 0x01020304 9 8 1000000000 [2, 0, 0, 5]) (9 + ((safeFrame 0x01020304 9 8 1000000000 [2, 0, 0, 5]).length - 13)) 4 ∧ -(s275.dev.obj (Obj.CN_TS_TOL 7) * 1000 : Int) ≤ sgn 32 (raw 32 ((ns32 (s275.dev.timeNs 0) : Int) - fieldAt (safeFrame 0x01020304 9 8 1000000000 [2, 0, 0, 5]) 5 4)) ∧ sgn 32 (raw 32 ((ns32 (s275.dev.timeNs 0) : Int) - fieldAt (safeFrame 0x01020304 9 8 1000000000 [2, 0, 0, 5]) 5 4)) ≤ (s275.dev.obj (Obj.CN_MAX_AGE 7) * 1000 : Int) ∧ s275.dev.obj (Obj.CONN_STATE 7) = 2 ∧ (s275.dev.conn 7).failing = 0 ∧ 7 < s275.dev.isl.conns.length ∧ raw 16 ((8 : Int) - s275.dev.obj (Obj.CN_LAST_SEQ 7)) = 3 ∧ payloadFits (slice (safeFrame 0x01020304 9 8 1000000000 [2, 0, 0, 5]) 9 ((safeFrame 0x01020304 9 8 1000000000 [2, 0, 0, 5]).length - 13)) = false) ∧
    (s276.dev.safeLive = true ∧ s276.dev.poolFits 3 (buffersOf ((safeFrame 0x01020304 9 8 1000000000 [2, 0, 0, 5]).length + 42)) = false) ∧
    ((wConn 1 2 6 (fun c => c)).dev.safeLive = true ∧ (wConn 1 2 6 (fun c => c)).dev.poolFits 3 (buffersOf ((wSafe 9 1000000000).length + 42)) = true ∧ (wConn 1 2 6 (fun c => c)).dev.matchConn .eth (wSafe 9 1000000000) = some 7 ∧ cutFrame ((wConn 1 2 6 (fun c => c)).dev.obj (Obj.CN_CARRIER 7)) (wSafe 9 1000000000) = some (wSafe 9 1000000000) ∧ crc32c (beBytes 4 ((wConn 1 2 6 (fun c => c)).dev.obj (Obj.CN_IDENTITY 7)) ++ slice (wSafe 9 1000000000) 3 (6 + ((wSafe 9 1000000000).length - 13))) = fieldAt (wSafe 9 1000000000) (9 + ((wSafe 9 1000000000).length - 13)) 4 ∧ -((wConn 1 2 6 (fun c => c)).dev.obj (Obj.CN_TS_TOL 7) * 1000 : Int) ≤ sgn 32 (raw 32 ((ns32 ((wConn 1 2 6 (fun c => c)).dev.timeNs 0) : Int) - fieldAt (wSafe 9 1000000000) 5 4)) ∧ sgn 32 (raw 32 ((ns32 ((wConn 1 2 6 (fun c => c)).dev.timeNs 0) : Int) - fieldAt (wSafe 9 1000000000) 5 4)) ≤ ((wConn 1 2 6 (fun c => c)).dev.obj (Obj.CN_MAX_AGE 7) * 1000 : Int) ∧ ((wConn 1 2 6 (fun c => c)).dev.obj (Obj.CONN_STATE 7) = 2 → raw 16 ((9 : Int) - (wConn 1 2 6 (fun c => c)).dev.obj (Obj.CN_LAST_SEQ 7)) ≠ 0 ∧ raw 16 ((9 : Int) - (wConn 1 2 6 (fun c => c)).dev.obj (Obj.CN_LAST_SEQ 7)) ≤ (wConn 1 2 6 (fun c => c)).dev.obj (Obj.CN_MAX_SEQ_STEP 7)) ∧ (wSafe 9 1000000000).length - 13 = (wConn 1 2 6 (fun c => c)).dev.obj (Obj.CN_LENGTH 7) ∧ fieldAt (slice (wSafe 9 1000000000) 9 ((wSafe 9 1000000000).length - 13)) 0 1 = (wConn 1 2 6 (fun c => c)).dev.obj (Obj.CN_KIND 7) ∧ payloadFits (slice (wSafe 9 1000000000) 9 ((wSafe 9 1000000000).length - 13)) = true ∧ 7 < (wConn 1 2 6 (fun c => c)).dev.isl.conns.length ∧ (wConn 1 2 6 (fun c => c)).dev.obj (Obj.CN_KIND 7) ≠ 1) ∧
    ((wConn 2 2 6 (fun c => c)).dev.safeLive = true ∧ (wConn 2 2 6 (fun c => c)).dev.poolFits 3 (buffersOf ((wSafe 9 1000000000).length + 42)) = true ∧ (wConn 2 2 6 (fun c => c)).dev.matchConn .eth (wSafe 9 1000000000) = some 7 ∧ cutFrame ((wConn 2 2 6 (fun c => c)).dev.obj (Obj.CN_CARRIER 7)) (wSafe 9 1000000000) = some (wSafe 9 1000000000) ∧ crc32c (beBytes 4 ((wConn 2 2 6 (fun c => c)).dev.obj (Obj.CN_IDENTITY 7)) ++ slice (wSafe 9 1000000000) 3 (6 + ((wSafe 9 1000000000).length - 13))) = fieldAt (wSafe 9 1000000000) (9 + ((wSafe 9 1000000000).length - 13)) 4 ∧ -((wConn 2 2 6 (fun c => c)).dev.obj (Obj.CN_TS_TOL 7) * 1000 : Int) ≤ sgn 32 (raw 32 ((ns32 ((wConn 2 2 6 (fun c => c)).dev.timeNs 0) : Int) - fieldAt (wSafe 9 1000000000) 5 4)) ∧ sgn 32 (raw 32 ((ns32 ((wConn 2 2 6 (fun c => c)).dev.timeNs 0) : Int) - fieldAt (wSafe 9 1000000000) 5 4)) ≤ ((wConn 2 2 6 (fun c => c)).dev.obj (Obj.CN_MAX_AGE 7) * 1000 : Int) ∧ ((wConn 2 2 6 (fun c => c)).dev.obj (Obj.CONN_STATE 7) = 2 → raw 16 ((9 : Int) - (wConn 2 2 6 (fun c => c)).dev.obj (Obj.CN_LAST_SEQ 7)) ≠ 0 ∧ raw 16 ((9 : Int) - (wConn 2 2 6 (fun c => c)).dev.obj (Obj.CN_LAST_SEQ 7)) ≤ (wConn 2 2 6 (fun c => c)).dev.obj (Obj.CN_MAX_SEQ_STEP 7)) ∧ (wSafe 9 1000000000).length - 13 = (wConn 2 2 6 (fun c => c)).dev.obj (Obj.CN_LENGTH 7) ∧ fieldAt (slice (wSafe 9 1000000000) 9 ((wSafe 9 1000000000).length - 13)) 0 1 = (wConn 2 2 6 (fun c => c)).dev.obj (Obj.CN_KIND 7) ∧ payloadFits (slice (wSafe 9 1000000000) 9 ((wSafe 9 1000000000).length - 13)) = true ∧ 7 < (wConn 2 2 6 (fun c => c)).dev.isl.conns.length ∧ (wConn 2 2 6 (fun c => c)).dev.obj (Obj.CN_KIND 7) ≠ 1) ∧
    ((wConn 3 2 6 (fun c => c)).dev.safeLive = true ∧ (wConn 3 2 6 (fun c => c)).dev.poolFits 3 (buffersOf ((wSafe 9 1000000000).length + 42)) = true ∧ (wConn 3 2 6 (fun c => c)).dev.matchConn .eth (wSafe 9 1000000000) = some 7 ∧ cutFrame ((wConn 3 2 6 (fun c => c)).dev.obj (Obj.CN_CARRIER 7)) (wSafe 9 1000000000) = some (wSafe 9 1000000000) ∧ crc32c (beBytes 4 ((wConn 3 2 6 (fun c => c)).dev.obj (Obj.CN_IDENTITY 7)) ++ slice (wSafe 9 1000000000) 3 (6 + ((wSafe 9 1000000000).length - 13))) = fieldAt (wSafe 9 1000000000) (9 + ((wSafe 9 1000000000).length - 13)) 4 ∧ -((wConn 3 2 6 (fun c => c)).dev.obj (Obj.CN_TS_TOL 7) * 1000 : Int) ≤ sgn 32 (raw 32 ((ns32 ((wConn 3 2 6 (fun c => c)).dev.timeNs 0) : Int) - fieldAt (wSafe 9 1000000000) 5 4)) ∧ sgn 32 (raw 32 ((ns32 ((wConn 3 2 6 (fun c => c)).dev.timeNs 0) : Int) - fieldAt (wSafe 9 1000000000) 5 4)) ≤ ((wConn 3 2 6 (fun c => c)).dev.obj (Obj.CN_MAX_AGE 7) * 1000 : Int) ∧ ((wConn 3 2 6 (fun c => c)).dev.obj (Obj.CONN_STATE 7) = 2 → raw 16 ((9 : Int) - (wConn 3 2 6 (fun c => c)).dev.obj (Obj.CN_LAST_SEQ 7)) ≠ 0 ∧ raw 16 ((9 : Int) - (wConn 3 2 6 (fun c => c)).dev.obj (Obj.CN_LAST_SEQ 7)) ≤ (wConn 3 2 6 (fun c => c)).dev.obj (Obj.CN_MAX_SEQ_STEP 7)) ∧ (wSafe 9 1000000000).length - 13 = (wConn 3 2 6 (fun c => c)).dev.obj (Obj.CN_LENGTH 7) ∧ fieldAt (slice (wSafe 9 1000000000) 9 ((wSafe 9 1000000000).length - 13)) 0 1 = (wConn 3 2 6 (fun c => c)).dev.obj (Obj.CN_KIND 7) ∧ payloadFits (slice (wSafe 9 1000000000) 9 ((wSafe 9 1000000000).length - 13)) = true ∧ 7 < (wConn 3 2 6 (fun c => c)).dev.isl.conns.length ∧ (wConn 3 2 6 (fun c => c)).dev.obj (Obj.CN_KIND 7) ≠ 1) ∧
    ((s277.dev.isl.running && s277.dev.isHead && s277.dev.objB (Obj.CONN_ENABLE 7) && decide (s277.dev.obj (Obj.CN_DIRECTION 7) = 0) && decide (s277.dev.obj (Obj.CONN_STATE 7) = 2) && decide ((s277.dev.conn 7).lastAt + s277.dev.obj (Obj.CN_T_EXP 7) * 1000 < s277.dev.now)) = false) ∧
    ((s278.dev.isl.running && s278.dev.isHead && s278.dev.objB (Obj.CONN_ENABLE 7) && decide (s278.dev.obj (Obj.CN_DIRECTION 7) = 0) && decide (s278.dev.obj (Obj.CONN_STATE 7) = 2) && decide ((s278.dev.conn 7).lastAt + s278.dev.obj (Obj.CN_T_EXP 7) * 1000 < s278.dev.now)) = true ∧ (7 : Fin 256).val < s278.dev.isl.conns.length) ∧
    (((wSend 9).dev.safeLive && ((wSend 9).dev.connsOf 1).contains 8 && ((wSend 9).dev.sendsStatus 8 1 || (wSend 9).dev.sendsStatus 8 2) && decide ((wSend 9).dev.obj (Obj.CN_SEND_PERIOD 8) ≤ ((wSend 9).dev.conn 8).since)) = false) ∧
    (((wSend 10).dev.safeLive && ((wSend 10).dev.connsOf 1).contains 8 && ((wSend 10).dev.sendsStatus 8 1 || (wSend 10).dev.sendsStatus 8 2) && decide ((wSend 10).dev.obj (Obj.CN_SEND_PERIOD 8) ≤ ((wSend 10).dev.conn 8).since)) = true ∧ (wSend 10).dev.obj (Obj.CN_CARRIER 8) = 1 ∧ (wSend 10).dev.udpLeaves ((wSend 10).dev.obj (Obj.CN_ROUTE_2 8) % 2) ((wSend 10).dev.obj (Obj.CN_ROUTE 8)) = true ∧ (wSend 10).dev.poolFits 3 (buffersOf ((safeFrame 5 6 65535 (ns32 (wSend 10).dev.isl.formedAt) [3, 1, 2, 3]).length + 42)) = true ∧ ((wSend 10).dev.ethPort ((wSend 10).dev.obj (Obj.CN_ROUTE_2 8) % 2)).busy = false ∧ (8 : Fin 256).val < (wSend 10).dev.isl.conns.length) ∧
    ((s279.dev.safeLive && (s279.dev.connsOf 1).contains 8 && (s279.dev.sendsStatus 8 1 || s279.dev.sendsStatus 8 2) && decide (s279.dev.obj (Obj.CN_SEND_PERIOD 8) ≤ (s279.dev.conn 8).since)) = true ∧ s279.dev.obj (Obj.CN_CARRIER 8) = 2 ∧ s279.dev.objB (Obj.CAN_ENABLE (s279.dev.obj (Obj.CN_ROUTE 8) / 2 ^ 31)) = true ∧ s279.dev.obj (Obj.CN_ROUTE 8) / 2 ^ 31 < s279.dev.can.length ∧ (s279.dev.canPort 1).txq.length < 16 ∧ (8 : Fin 256).val < s279.dev.isl.conns.length) :=
  by and_intros <;> decide +kernel

/-- A member in a role, its twin link up, its own state as given. -/
def wMate (st role : Nat) (l : List (Nat × Nat)) (f : Pair → Pair) : State :=
  on (withObjs ([(Obj.DEVICE_STATE, st), (Obj.PAIR_MODE, 1), (Obj.ROLE, role)] ++ l)) (fun d => { d with
    isl := { d.isl with running := true, feedA := true }, cyc := { d.cyc with tag := 50, startAt := 2000 }, now := 2000, pair := f { d.pair with twinUp := true } })
def wHead (tag : Nat) : CopyHeader :=
  { tag := BitVec.ofNat 32 tag, epoch := 1, cycleStart := 0, state := 3, flags := 0, cycleLen := 250, remaining := 0, joinId := 0 }
def wCopy (tag : Nat) (segs : List CopySegment) (closed checked : Bool) : CopyFrame :=
  { header := wHead tag, segments := segs, closed := closed, checked := checked }
def wAck (tag result role : Nat) (checked : Bool) : CopyAck :=
  { tag := BitVec.ofNat 32 tag, result := BitVec.ofNat 8 result, role := BitVec.ofNat 8 role, progress := 100, checked := checked }
def wDrove (crc : BitVec 16) : DroveHeader :=
  { dir := 1, arrival := 40, epoch := 4, tag := 9, cycleStart := 5, lead := 6, cycleLen := 500, stoGroups := 7, turn := 1, blocks := 2, folded := true, noRun := false, crc := crc }
def wDroveCrc : Nat :=
  let h := wDrove 0
  let f : DroveFrame := { epoch := 4, cycleTag := 9, cycleStart := 5, lead := 6, cycleLen := 500, stoGroups := 7, turn := 1, folded := true, noRun := false, hdrCrc := 0, blocks := [] }
  crc16 ((headerBytes f).take 29 ++ [h.blocks] ++ (headerBytes f).drop 30)

def s280 : State := wMate 3 2 [] (fun p => { p with twinUp := false })
def s281 : State := wMate 3 2 [(Obj.LAST_COPY_TAG, 6)] (fun p => p)
def s282 : State := wMate 3 4 [(Obj.LAST_COPY_TAG, 6)] (fun p => p)
def s283 : State := wMate 3 5 [(Obj.LAST_COPY_TAG, 6)] (fun p => p)
def s284 : State := wMate 3 2 [(Obj.LAST_COPY_TAG, 0xFFFFFFFF)] (fun p => p)
def s285 : State := on ((wMate 3 2 [(Obj.LAST_COPY_TAG, 6), (Obj.CONFIGURED 0, 1), (Obj.CTX_DOMAIN 0, 3), (Obj.CTX_FOLD 0, 0)] (fun p => p))) (fun d => ({ d with folds := upd (fun x => { x with windows := [(0, 100)] }) d.folds 0 } : Dev).setBlob (Obj.DOMAIN_IMAGE 3) ([1, 2, 3, 4, 0, 3, 0, 5, 0, 1, 0, 2, 0, 4] ++ List.replicate 50 0))
def s286 : State := wMate 1 5 [(Obj.LAST_COPY_TAG, 2)] (fun p => p)
def s287 : State := wMate 3 1 [] (fun p => { p with twinUp := false })
def s288 : State := wMate 3 1 [] (fun p => { p with sent := true })
def s289 : State := wMate 3 1 [(Obj.RING_ENABLE, 0)] (fun p => { p with joinId := 65535 })
def s290 : State := wMate 3 1 [(Obj.RING_ENABLE, 1), (Obj.STANDBY_POSITION 0, 0)] (fun p => p)
def s291 : State := wMate 3 1 [(Obj.RING_ENABLE, 2), (Obj.STANDBY_POSITION 1, 0)] (fun p => p)
def s292 : State := wMate 3 1 [(Obj.TWIN_ERRORS, 0xFFFFFFFD)] (fun p => p)
def s293 : State := wMate 3 2 [(Obj.TWIN_ERRORS, 0xFFFFFFFD)] (fun p => p)
def s294 : State := wMate 3 3 [(Obj.TWIN_ERRORS, 0xFFFFFFFD)] (fun p => p)
def s295 : State := on (wMate 3 2 [(Obj.BYPASS_STATE, 2)] (fun p => p)) (fun d => { d with rings := upd (fun g => { g with home := some 1, homeDelay := 8 }) d.rings 0 })
def s296 : State := on (wMate 3 2 [(Obj.BYPASS_STATE, 2)] (fun p => p)) (fun d => { d with rings := upd (fun g => { g with home := some 0, homeDelay := 8 }) d.rings 0 })

theorem test_witness_PairFramesAndLinksKeepTheStandby :
    ((wMate 3 1 [] (fun p => p)).dev.isHead = true) ∧
    (s280.dev.pair.twinUp = false) ∧
    ((wMate 5 2 [] (fun p => p)).dev.cycling = false) ∧
    ((wMate 3 2 [] (fun p => p)).dev.isHead = false ∧ (wMate 3 2 [] (fun p => p)).dev.pair.twinUp = true ∧ (wMate 3 2 [] (fun p => p)).dev.cycling = true) ∧
    ((wMate 3 3 [] (fun p => p)).dev.isHead = false ∧ (wMate 3 3 [] (fun p => p)).dev.pair.twinUp = true ∧ (wMate 3 3 [] (fun p => p)).dev.cycling = true) ∧
    ((wMate 3 4 [] (fun p => p)).dev.isHead = false ∧ (wMate 3 4 [] (fun p => p)).dev.pair.twinUp = true ∧ (wMate 3 4 [] (fun p => p)).dev.cycling = true) ∧
    ((wMate 3 5 [] (fun p => p)).dev.isHead = false ∧ (wMate 3 5 [] (fun p => p)).dev.pair.twinUp = true ∧ (wMate 3 5 [] (fun p => p)).dev.cycling = true) ∧
    (s281.dev.isHead = false ∧ s281.dev.pair.twinUp = true ∧ s281.dev.cycling = true ∧ (s281.dev.obj Obj.ROLE = 4 ∨ (s281.dev.obj Obj.ROLE = 5 ∧ s281.dev.state ≠ stConfig) ∨ (s281.dev.obj Obj.ROLE = 2 ∧ (wCopy 8 [] true true).header.tag.toNat ≠ (s281.dev.obj Obj.LAST_COPY_TAG + 1) % 2 ^ 32))) ∧
    (s282.dev.isHead = false ∧ s282.dev.pair.twinUp = true ∧ s282.dev.cycling = true ∧ (s282.dev.obj Obj.ROLE = 4 ∨ (s282.dev.obj Obj.ROLE = 5 ∧ s282.dev.state ≠ stConfig) ∨ (s282.dev.obj Obj.ROLE = 2 ∧ (wCopy 8 [] true true).header.tag.toNat ≠ (s282.dev.obj Obj.LAST_COPY_TAG + 1) % 2 ^ 32))) ∧
    (s283.dev.isHead = false ∧ s283.dev.pair.twinUp = true ∧ s283.dev.cycling = true ∧ (s283.dev.obj Obj.ROLE = 4 ∨ (s283.dev.obj Obj.ROLE = 5 ∧ s283.dev.state ≠ stConfig) ∨ (s283.dev.obj Obj.ROLE = 2 ∧ (wCopy 8 [] true true).header.tag.toNat ≠ (s283.dev.obj Obj.LAST_COPY_TAG + 1) % 2 ^ 32))) ∧
    (s284.dev.isHead = false ∧ s284.dev.pair.twinUp = true ∧ s284.dev.cycling = true ∧ s284.dev.obj Obj.ROLE = 2 ∧ (wCopy 0 [] true true).header.tag.toNat = (s284.dev.obj Obj.LAST_COPY_TAG + 1) % 2 ^ 32 ∧ (wCopy 0 [] true true).header.flags.toNat % 2 = 0) ∧
    (s285.dev.isHead = false ∧ s285.dev.pair.twinUp = true ∧ s285.dev.cycling = true ∧ s285.dev.obj Obj.ROLE = 2 ∧ (wCopy 7 [.window { ctx := 0, out := initOut, hist := [], bytes := [(5, 9), (15, 7), (16, 8)] }] true true).header.tag.toNat = (s285.dev.obj Obj.LAST_COPY_TAG + 1) % 2 ^ 32 ∧ (wCopy 7 [.window { ctx := 0, out := initOut, hist := [], bytes := [(5, 9), (15, 7), (16, 8)] }] true true).segments = [.window { ctx := 0, out := initOut, hist := [], bytes := [(5, 9), (15, 7), (16, 8)] }] ∧ (wCopy 7 [.window { ctx := 0, out := initOut, hist := [], bytes := [(5, 9), (15, 7), (16, 8)] }] true true).header.flags.toNat % 2 = 0 ∧ s285.dev.state ≠ stConfig ∧ s285.dev.windowAt 0 = (foldByte 0 400, 16)) ∧
    (s281.dev.isHead = false ∧ s281.dev.pair.twinUp = true ∧ s281.dev.cycling = true ∧ s281.dev.obj Obj.ROLE = 2 ∧ (wCopy 7 [.profile 3 { initGen with state := 6, flags := 5, vel := 9 } 2] true true).header.tag.toNat = (s281.dev.obj Obj.LAST_COPY_TAG + 1) % 2 ^ 32 ∧ (wCopy 7 [.profile 3 { initGen with state := 6, flags := 5, vel := 9 } 2] true true).header.flags.toNat % 2 = 0 ∧ 3 < s281.dev.gens.length) ∧
    (s286.dev.isHead = false ∧ s286.dev.pair.twinUp = true ∧ s286.dev.cycling = true ∧ s286.dev.obj Obj.ROLE = 5 ∧ s286.dev.state = stConfig ∧ s286.dev.pair.joining = false ∧ (wCopy 8 [] true true).header.flags.toNat % 2 = 0) ∧
    ((wMate 3 2 [] (fun p => p)).dev.obj Obj.ROLE ≠ 1) ∧
    (s287.dev.pair.twinUp = false) ∧
    ((wMate 3 1 [] (fun p => p)).dev.obj Obj.ROLE = 1 ∧ (wMate 3 1 [] (fun p => p)).dev.pair.twinUp = true) ∧
    ((wAck 50 0 2 true).role ≠ 3 ∧ s288.dev.pair.joining = false ∧ (wAck 50 0 2 true).tag.toNat = s288.dev.cyc.tag ∧ s288.dev.pair.sent = true) ∧
    (s288.dev.pair.joining = false ∧ (wAck 50 2 2 true).result ≠ 0 ∧ (wAck 49 0 2 true).tag.toNat ≠ s288.dev.cyc.tag) ∧
    (s289.dev.obj Obj.ROLE = 1 ∧ s289.dev.pair.twinUp = true ∧ (wAck 50 0 3 true).role = 3 ∧ s289.dev.pair.joining = false ∧ s289.dev.joinPlan 0 = 0 ∧ s289.dev.joinPlan 1 = 0) ∧
    (s290.dev.joinPlan 0 ≠ 0 ∧ s290.dev.pair.joining = false) ∧
    (s291.dev.joinPlan 1 ≠ 0 ∧ s291.dev.pair.joining = false) ∧
    (s287.dev.pair.twinUp = false) ∧
    (s292.dev.pair.twinUp = true) ∧
    (s293.dev.pair.twinUp = true) ∧
    (s294.dev.pair.twinUp = true) ∧
    ((wMate 3 1 [] (fun p => p)).dev.isHead = true) ∧
    ((wDrove (BitVec.ofNat 16 wDroveCrc)).crc.toNat = wDroveCrc ∧ wDroveCrc ≠ (0 : BitVec 16).toNat ∧ s295.dev.isHead = false ∧ s295.dev.ringOpen 0 = true ∧ s295.dev.ringCtl.epochSeen ≤ (wDrove (BitVec.ofNat 16 wDroveCrc)).epoch.toNat) ∧
    ((wDrove (BitVec.ofNat 16 wDroveCrc)).crc.toNat = wDroveCrc ∧ wDroveCrc ≠ (0 : BitVec 16).toNat ∧ s296.dev.isHead = false ∧ s296.dev.ringOpen 0 = true ∧ s296.dev.ringCtl.epochSeen ≤ (wDrove (BitVec.ofNat 16 wDroveCrc)).epoch.toNat) :=
  by and_intros <;> decide +kernel

def s297 : State := wMate 3 2 [] (fun p => { p with grant := true, grantAt := some 5 })
def s298 : State := on (wMate 0 5 [] (fun p => { p with grantAt := some 7 })) (fun d => { d with ctl := { d.ctl with boot := .lock } })
def s299 : State := on (wMate 0 5 [] (fun p => { p with grant := true })) (fun d => { d with ctl := { d.ctl with boot := .lock } })
def s300 : State := on (wMate 3 1 [] (fun p => { p with grant := true })) (fun d => { d with rings := d.rings.map (fun g => { g with sending := true }) })
def s301 : State := on (wMate 3 2 [] (fun p => { p with grant := true })) (fun d => { d with rings := d.rings.map (fun g => { g with sending := true }) })
def s302 : State := on (wMate 3 3 [] (fun p => { p with grant := true })) (fun d => { d with rings := d.rings.map (fun g => { g with sending := true }) })
def s303 : State := on (wMate 3 4 [] (fun p => { p with grant := true })) (fun d => { d with rings := d.rings.map (fun g => { g with sending := true }) })
def s304 : State := on (wMate 3 5 [] (fun p => { p with grant := true })) (fun d => { d with rings := d.rings.map (fun g => { g with sending := true }) })
def s305 : State := wMate 3 2 [] (fun p => { p with grantAt := some 1001 })
def s306 : State := wMate 1 2 ([(Obj.BYPASS_STATE, 2)] ++ []) (fun p => { p with grantAt := some 1000 })
def s307 : State := wMate 1 2 ([(Obj.BYPASS_STATE, 2)] ++ [(Obj.LAST_COPY_TAG, 47)]) (fun p => { p with grantAt := some 1000 })
def s308 : State := wMate 3 5 ([(Obj.BYPASS_STATE, 2)] ++ []) (fun p => { p with grantAt := some 1000 })
def s309 : State := wMate 1 5 ([(Obj.BYPASS_STATE, 2)] ++ []) (fun p => { p with grantAt := some 1000 })
def s310 : State := wMate 3 2 [(Obj.LAST_COPY_TAG, 47), (Obj.STALE_SERVICE, 0), (Obj.CONFIGURED 3, 1), (Obj.AXIS_STATE 3, 2), (Obj.CONFIGURED 4, 1), (Obj.AXIS_STATE 4, 4)] (fun p => { p with grantAt := some 1000 })
def s311 : State := wMate 3 2 [(Obj.LAST_COPY_TAG, 50), (Obj.STALE_SERVICE, 0), (Obj.CONFIGURED 3, 1), (Obj.AXIS_STATE 3, 2), (Obj.CONFIGURED 4, 1), (Obj.AXIS_STATE 4, 4)] (fun p => { p with grantAt := some 1000 })
def s312 : State := wMate 3 2 [(Obj.LAST_COPY_TAG, 46), (Obj.STALE_SERVICE, 0), (Obj.CONFIGURED 3, 1), (Obj.AXIS_STATE 3, 2), (Obj.CONFIGURED 4, 1), (Obj.AXIS_STATE 4, 4)] (fun p => { p with grantAt := some 1000 })
def s313 : State := wMate 3 2 [(Obj.LAST_COPY_TAG, 49), (Obj.STALE_SERVICE, 0), (Obj.CONFIGURED 3, 1), (Obj.AXIS_STATE 3, 2), (Obj.CONFIGURED 4, 1), (Obj.AXIS_STATE 4, 4)] (fun p => { p with grantAt := some 1000 })
def s314 : State := wMate 3 3 [(Obj.LAST_COPY_TAG, 47), (Obj.STALE_SERVICE, 0), (Obj.CONFIGURED 3, 1), (Obj.AXIS_STATE 3, 2), (Obj.CONFIGURED 4, 1), (Obj.AXIS_STATE 4, 4)] (fun p => { p with grantAt := some 1000 })
def s315 : State := wMate 3 3 [(Obj.LAST_COPY_TAG, 50), (Obj.STALE_SERVICE, 0), (Obj.CONFIGURED 3, 1), (Obj.AXIS_STATE 3, 2), (Obj.CONFIGURED 4, 1), (Obj.AXIS_STATE 4, 4)] (fun p => { p with grantAt := some 1000 })
def s316 : State := wMate 3 3 [(Obj.LAST_COPY_TAG, 46), (Obj.STALE_SERVICE, 0), (Obj.CONFIGURED 3, 1), (Obj.AXIS_STATE 3, 2), (Obj.CONFIGURED 4, 1), (Obj.AXIS_STATE 4, 4)] (fun p => { p with grantAt := some 1000 })
def s317 : State := wMate 3 3 [(Obj.LAST_COPY_TAG, 49), (Obj.STALE_SERVICE, 0), (Obj.CONFIGURED 3, 1), (Obj.AXIS_STATE 3, 2), (Obj.CONFIGURED 4, 1), (Obj.AXIS_STATE 4, 4)] (fun p => { p with grantAt := some 1000 })
def s318 : State := wMate 3 4 [(Obj.LAST_COPY_TAG, 47), (Obj.STALE_SERVICE, 0), (Obj.CONFIGURED 3, 1), (Obj.AXIS_STATE 3, 2), (Obj.CONFIGURED 4, 1), (Obj.AXIS_STATE 4, 4)] (fun p => { p with grantAt := some 1000 })
def s319 : State := wMate 3 4 [(Obj.LAST_COPY_TAG, 50), (Obj.STALE_SERVICE, 0), (Obj.CONFIGURED 3, 1), (Obj.AXIS_STATE 3, 2), (Obj.CONFIGURED 4, 1), (Obj.AXIS_STATE 4, 4)] (fun p => { p with grantAt := some 1000 })
def s320 : State := wMate 3 4 [(Obj.LAST_COPY_TAG, 46), (Obj.STALE_SERVICE, 0), (Obj.CONFIGURED 3, 1), (Obj.AXIS_STATE 3, 2), (Obj.CONFIGURED 4, 1), (Obj.AXIS_STATE 4, 4)] (fun p => { p with grantAt := some 1000 })
def s321 : State := wMate 3 4 [(Obj.LAST_COPY_TAG, 49), (Obj.STALE_SERVICE, 0), (Obj.CONFIGURED 3, 1), (Obj.AXIS_STATE 3, 2), (Obj.CONFIGURED 4, 1), (Obj.AXIS_STATE 4, 4)] (fun p => { p with grantAt := some 1000 })
def s322 : State := wMate 3 1 [(Obj.PEER_ROLE, 2), (Obj.CONFIGURED 3, 1), (Obj.STALE_SERVICE, 1)] (fun p => p)

theorem test_witness_GrantsTakeoversAndRedundancyCommandsChangeRoles :
    (s297.dev.pair.grant = true ∧ s297.dev.isl.running = true) ∧
    (run.dev.isl.running = false) ∧
    (s298.dev.isl.running = true ∧ s298.dev.state = stBoot ∧ s298.dev.ctl.boot ≠ .loaded ∧ s298.dev.pair.grant = false) ∧
    (s299.dev.isl.running = true ∧ s299.dev.state = stBoot ∧ s299.dev.ctl.boot ≠ .loaded ∧ s299.dev.pair.grant = true) ∧
    ((wMate 3 2 [] (fun p => p)).dev.isl.running = true ∧ (wMate 3 2 [] (fun p => p)).dev.state ≠ stBoot ∧ (wMate 3 2 [] (fun p => p)).dev.pair.grant = false) ∧
    (s300.dev.isl.running = true ∧ s300.dev.state ≠ stBoot ∧ s300.dev.pair.grant = true) ∧
    (s301.dev.isl.running = true ∧ s301.dev.state ≠ stBoot ∧ s301.dev.pair.grant = true) ∧
    (s302.dev.isl.running = true ∧ s302.dev.state ≠ stBoot ∧ s302.dev.pair.grant = true) ∧
    (s303.dev.isl.running = true ∧ s303.dev.state ≠ stBoot ∧ s303.dev.pair.grant = true) ∧
    (s304.dev.isl.running = true ∧ s304.dev.state ≠ stBoot ∧ s304.dev.pair.grant = true) ∧
    ((s305.dev.objB Obj.PAIR_MODE && decide (s305.dev.obj Obj.ROLE ∉ [0, 1]) && s305.dev.cycling && decide (s305.dev.now = s305.dev.cyc.startAt) && (match s305.dev.pair.grantAt with | some t => decide (t + 1000 ≤ s305.dev.cyc.startAt) | none => false)) = false) ∧
    ((s306.dev.objB Obj.PAIR_MODE && decide (s306.dev.obj Obj.ROLE ∉ [0, 1]) && s306.dev.cycling && decide (s306.dev.now = s306.dev.cyc.startAt) && (match s306.dev.pair.grantAt with | some t => decide (t + 1000 ≤ s306.dev.cyc.startAt) | none => false)) = true ∧ (s306.dev.obj Obj.ROLE = 5 ∨ s306.dev.state = stConfig)) ∧
    ((s307.dev.objB Obj.PAIR_MODE && decide (s307.dev.obj Obj.ROLE ∉ [0, 1]) && s307.dev.cycling && decide (s307.dev.now = s307.dev.cyc.startAt) && (match s307.dev.pair.grantAt with | some t => decide (t + 1000 ≤ s307.dev.cyc.startAt) | none => false)) = true ∧ (s307.dev.obj Obj.ROLE = 5 ∨ s307.dev.state = stConfig)) ∧
    ((s308.dev.objB Obj.PAIR_MODE && decide (s308.dev.obj Obj.ROLE ∉ [0, 1]) && s308.dev.cycling && decide (s308.dev.now = s308.dev.cyc.startAt) && (match s308.dev.pair.grantAt with | some t => decide (t + 1000 ≤ s308.dev.cyc.startAt) | none => false)) = true ∧ (s308.dev.obj Obj.ROLE = 5 ∨ s308.dev.state = stConfig)) ∧
    ((s309.dev.objB Obj.PAIR_MODE && decide (s309.dev.obj Obj.ROLE ∉ [0, 1]) && s309.dev.cycling && decide (s309.dev.now = s309.dev.cyc.startAt) && (match s309.dev.pair.grantAt with | some t => decide (t + 1000 ≤ s309.dev.cyc.startAt) | none => false)) = true ∧ (s309.dev.obj Obj.ROLE = 5 ∨ s309.dev.state = stConfig)) ∧
    ((s310.dev.objB Obj.PAIR_MODE && decide (s310.dev.obj Obj.ROLE ∉ [0, 1]) && s310.dev.cycling && decide (s310.dev.now = s310.dev.cyc.startAt) && (match s310.dev.pair.grantAt with | some t => decide (t + 1000 ≤ s310.dev.cyc.startAt) | none => false)) = true ∧ s310.dev.obj Obj.ROLE ≠ 5 ∧ s310.dev.state ≠ stConfig ∧ raw 32 ((s310.dev.cyc.tag : Int) - s310.dev.obj Obj.LAST_COPY_TAG) ≤ 3) ∧
    ((s311.dev.objB Obj.PAIR_MODE && decide (s311.dev.obj Obj.ROLE ∉ [0, 1]) && s311.dev.cycling && decide (s311.dev.now = s311.dev.cyc.startAt) && (match s311.dev.pair.grantAt with | some t => decide (t + 1000 ≤ s311.dev.cyc.startAt) | none => false)) = true ∧ s311.dev.obj Obj.ROLE ≠ 5 ∧ s311.dev.state ≠ stConfig ∧ raw 32 ((s311.dev.cyc.tag : Int) - s311.dev.obj Obj.LAST_COPY_TAG) ≤ 3) ∧
    ((s312.dev.objB Obj.PAIR_MODE && decide (s312.dev.obj Obj.ROLE ∉ [0, 1]) && s312.dev.cycling && decide (s312.dev.now = s312.dev.cyc.startAt) && (match s312.dev.pair.grantAt with | some t => decide (t + 1000 ≤ s312.dev.cyc.startAt) | none => false)) = true ∧ s312.dev.obj Obj.ROLE ≠ 5 ∧ s312.dev.state ≠ stConfig ∧ raw 32 ((s312.dev.cyc.tag : Int) - s312.dev.obj Obj.LAST_COPY_TAG)  > 3) ∧
    ((s313.dev.objB Obj.PAIR_MODE && decide (s313.dev.obj Obj.ROLE ∉ [0, 1]) && s313.dev.cycling && decide (s313.dev.now = s313.dev.cyc.startAt) && (match s313.dev.pair.grantAt with | some t => decide (t + 1000 ≤ s313.dev.cyc.startAt) | none => false)) = true ∧ s313.dev.obj Obj.ROLE ≠ 5 ∧ s313.dev.state ≠ stConfig ∧ raw 32 ((s313.dev.cyc.tag : Int) - s313.dev.obj Obj.LAST_COPY_TAG) ≤ 3) ∧
    ((s314.dev.objB Obj.PAIR_MODE && decide (s314.dev.obj Obj.ROLE ∉ [0, 1]) && s314.dev.cycling && decide (s314.dev.now = s314.dev.cyc.startAt) && (match s314.dev.pair.grantAt with | some t => decide (t + 1000 ≤ s314.dev.cyc.startAt) | none => false)) = true ∧ s314.dev.obj Obj.ROLE ≠ 5 ∧ s314.dev.state ≠ stConfig ∧ raw 32 ((s314.dev.cyc.tag : Int) - s314.dev.obj Obj.LAST_COPY_TAG) ≤ 3) ∧
    ((s315.dev.objB Obj.PAIR_MODE && decide (s315.dev.obj Obj.ROLE ∉ [0, 1]) && s315.dev.cycling && decide (s315.dev.now = s315.dev.cyc.startAt) && (match s315.dev.pair.grantAt with | some t => decide (t + 1000 ≤ s315.dev.cyc.startAt) | none => false)) = true ∧ s315.dev.obj Obj.ROLE ≠ 5 ∧ s315.dev.state ≠ stConfig ∧ raw 32 ((s315.dev.cyc.tag : Int) - s315.dev.obj Obj.LAST_COPY_TAG) ≤ 3) ∧
    ((s316.dev.objB Obj.PAIR_MODE && decide (s316.dev.obj Obj.ROLE ∉ [0, 1]) && s316.dev.cycling && decide (s316.dev.now = s316.dev.cyc.startAt) && (match s316.dev.pair.grantAt with | some t => decide (t + 1000 ≤ s316.dev.cyc.startAt) | none => false)) = true ∧ s316.dev.obj Obj.ROLE ≠ 5 ∧ s316.dev.state ≠ stConfig ∧ raw 32 ((s316.dev.cyc.tag : Int) - s316.dev.obj Obj.LAST_COPY_TAG)  > 3) ∧
    ((s317.dev.objB Obj.PAIR_MODE && decide (s317.dev.obj Obj.ROLE ∉ [0, 1]) && s317.dev.cycling && decide (s317.dev.now = s317.dev.cyc.startAt) && (match s317.dev.pair.grantAt with | some t => decide (t + 1000 ≤ s317.dev.cyc.startAt) | none => false)) = true ∧ s317.dev.obj Obj.ROLE ≠ 5 ∧ s317.dev.state ≠ stConfig ∧ raw 32 ((s317.dev.cyc.tag : Int) - s317.dev.obj Obj.LAST_COPY_TAG) ≤ 3) ∧
    ((s318.dev.objB Obj.PAIR_MODE && decide (s318.dev.obj Obj.ROLE ∉ [0, 1]) && s318.dev.cycling && decide (s318.dev.now = s318.dev.cyc.startAt) && (match s318.dev.pair.grantAt with | some t => decide (t + 1000 ≤ s318.dev.cyc.startAt) | none => false)) = true ∧ s318.dev.obj Obj.ROLE ≠ 5 ∧ s318.dev.state ≠ stConfig ∧ raw 32 ((s318.dev.cyc.tag : Int) - s318.dev.obj Obj.LAST_COPY_TAG) ≤ 3) ∧
    ((s319.dev.objB Obj.PAIR_MODE && decide (s319.dev.obj Obj.ROLE ∉ [0, 1]) && s319.dev.cycling && decide (s319.dev.now = s319.dev.cyc.startAt) && (match s319.dev.pair.grantAt with | some t => decide (t + 1000 ≤ s319.dev.cyc.startAt) | none => false)) = true ∧ s319.dev.obj Obj.ROLE ≠ 5 ∧ s319.dev.state ≠ stConfig ∧ raw 32 ((s319.dev.cyc.tag : Int) - s319.dev.obj Obj.LAST_COPY_TAG) ≤ 3) ∧
    ((s320.dev.objB Obj.PAIR_MODE && decide (s320.dev.obj Obj.ROLE ∉ [0, 1]) && s320.dev.cycling && decide (s320.dev.now = s320.dev.cyc.startAt) && (match s320.dev.pair.grantAt with | some t => decide (t + 1000 ≤ s320.dev.cyc.startAt) | none => false)) = true ∧ s320.dev.obj Obj.ROLE ≠ 5 ∧ s320.dev.state ≠ stConfig ∧ raw 32 ((s320.dev.cyc.tag : Int) - s320.dev.obj Obj.LAST_COPY_TAG)  > 3) ∧
    ((s321.dev.objB Obj.PAIR_MODE && decide (s321.dev.obj Obj.ROLE ∉ [0, 1]) && s321.dev.cycling && decide (s321.dev.now = s321.dev.cyc.startAt) && (match s321.dev.pair.grantAt with | some t => decide (t + 1000 ≤ s321.dev.cyc.startAt) | none => false)) = true ∧ s321.dev.obj Obj.ROLE ≠ 5 ∧ s321.dev.state ≠ stConfig ∧ raw 32 ((s321.dev.cyc.tag : Int) - s321.dev.obj Obj.LAST_COPY_TAG) ≤ 3) ∧
    (s322.dev.reaches .host = true ∧ s322.dev.state ≠ stSafeHold ∧ (∀ n : Fin 128, s322.dev.configured n.val = true → (s322.dev.gen n.val).state ∈ [0, 8]) ∧ s322.dev.obj Obj.ROLE = 1 ∧ s322.dev.obj Obj.PEER_ROLE = 2 ∧ s322.dev.objB Obj.STALE_SERVICE = true) ∧
    ((wMate 3 4 [] (fun p => p)).dev.reaches .host = true ∧ (wMate 3 4 [] (fun p => p)).dev.obj Obj.ROLE = 4) :=
  by and_intros <;> decide +kernel

/-- BOOT with the feeds present, at a step of the sequence. -/
def wBoot (b : BootStep) (f : Flash → Flash) : State :=
  on (withObjs []) (fun d => { d with ctl := { d.ctl with boot := b, supplies := List.replicate 8 true, resetN := true }, flash := f d.flash, isl := { d.isl with feedA := true, feedB := true } })
def wHold (l : List (Nat × Nat)) (sto : Bool) (decided : Nat) : State :=
  on (withObjs ([(Obj.DEVICE_STATE, 3)] ++ l)) (fun d => { d with now := 7000000000, ctl := { d.ctl with holding := true, stoDone := sto, decidedAt := decided }, isl := { (d.islandStart).isl with running := true, feedA := true } })
def wCycle (st next : Nat) (disp : Bool) : State := on (withObjs [(Obj.DEVICE_STATE, st), (Obj.CONFIGURED 3, 1), (Obj.CTX_DOMAIN 3, 0)]) (fun d => { d with now := 31250, cyc := { d.cyc with dispatched := disp, tag := 0xFFFFFFFF, nextAt := next } })

def s323 : State := wBoot .held (fun f => { f with headerOk := false })
def s324 : State := wBoot .held (fun f => { f with block0Ok := false, block1Ok := false })
def s325 : State := ({ (wBoot .held (fun f => f)) with mem := { cells := [(3, 4)] } } : State)
def s326 : State := ({ (wBoot .held (fun f => { f with block0Ok := false })) with mem := { cells := [(3, 4)] } } : State)
def s327 : State := ({ (wBoot .held (fun f => { f with block1Ok := false })) with mem := { cells := [(3, 4)] } } : State)
def s328 : State := wHold [(Obj.AXIS_STATE 0, 2), (Obj.CONFIGURED 0, 1), (Obj.SAFE_HOLD_STOP_TIME, 2000)] false 5000000000

theorem test_witness_BootHoldAndTheCycleGoTheirWay :
    (run.dev.originReady = false) ∧
    (s323.dev.originReady = true ∧ (s323.dev.flash.headerOk = false ∨ (s323.dev.flash.block0Ok = false ∧ s323.dev.flash.block1Ok = false))) ∧
    (s324.dev.originReady = true ∧ (s324.dev.flash.headerOk = false ∨ (s324.dev.flash.block0Ok = false ∧ s324.dev.flash.block1Ok = false))) ∧
    (s325.dev.originReady = true ∧ s325.dev.flash.headerOk = true ∧ (s325.dev.flash.block0Ok = true ∨ s325.dev.flash.block1Ok = true)) ∧
    (s326.dev.originReady = true ∧ s326.dev.flash.headerOk = true ∧ (s326.dev.flash.block0Ok = true ∨ s326.dev.flash.block1Ok = true)) ∧
    (s327.dev.originReady = true ∧ s327.dev.flash.headerOk = true ∧ (s327.dev.flash.block0Ok = true ∨ s327.dev.flash.block1Ok = true)) ∧
    ((wBoot .loaded (fun f => f)).dev.state = stBoot ∧ (wBoot .loaded (fun f => f)).dev.ctl.boot = .loaded) ∧
    ((wBoot .lock (fun f => f)).dev.ctl.boot ≠ .loaded) ∧
    (¬ (hold.dev.state = stBoot ∧ (hold.dev.ctl.boot = .lock ∨ hold.dev.ctl.boot = .loaded)) ∧ (hold.dev.cycling = false ∨ hold.dev.ctl.holding = true)) ∧
    (¬ ((wHold [] false 0).dev.state = stBoot ∧ ((wHold [] false 0).dev.ctl.boot = .lock ∨ (wHold [] false 0).dev.ctl.boot = .loaded)) ∧ ((wHold [] false 0).dev.cycling = false ∨ (wHold [] false 0).dev.ctl.holding = true)) ∧
    ((wBoot .lock (fun f => f)).dev.state = stBoot ∧ ((wBoot .lock (fun f => f)).dev.ctl.boot = .lock ∨ (wBoot .lock (fun f => f)).dev.ctl.boot = .loaded)) ∧
    ((wBoot .loaded (fun f => f)).dev.state = stBoot ∧ ((wBoot .loaded (fun f => f)).dev.ctl.boot = .lock ∨ (wBoot .loaded (fun f => f)).dev.ctl.boot = .loaded)) ∧
    (run.dev.cycling = true ∧ run.dev.ctl.holding = false ∧ run.dev.standbyHealthy = false) ∧
    (config.dev.cycling = true ∧ config.dev.ctl.holding = false ∧ config.dev.standbyHealthy = false) ∧
    (service.dev.cycling = true ∧ service.dev.ctl.holding = false ∧ service.dev.standbyHealthy = false) ∧
    (run.dev.ctl.holding = false ∨ run.dev.ctl.stoDone = true) ∧
    ((wHold [] true 0).dev.ctl.holding = false ∨ (wHold [] true 0).dev.ctl.stoDone = true) ∧
    ((wHold [] false 7000000000).dev.ctl.holding = true ∧ (wHold [] false 7000000000).dev.ctl.stoDone = false ∧ ((wHold [] false 7000000000).dev.allStand = true ∨ (wHold [] false 7000000000).dev.ctl.decidedAt + (wHold [] false 7000000000).dev.obj Obj.SAFE_HOLD_STOP_TIME * 1000000 ≤ (wHold [] false 7000000000).dev.now) ∧ (wHold [] false 7000000000).dev.isl.running = true) ∧
    (s328.dev.ctl.holding = true ∧ s328.dev.ctl.stoDone = false ∧ (s328.dev.allStand = true ∨ s328.dev.ctl.decidedAt + s328.dev.obj Obj.SAFE_HOLD_STOP_TIME * 1000000 ≤ s328.dev.now) ∧ s328.dev.isl.running = true) ∧
    (hold.dev.cycling = false) ∧
    ((wCycle 3 31251 true).dev.now < (wCycle 3 31251 true).dev.cyc.nextAt) ∧
    ((wCycle 3 36251 false).dev.now + 5000 < (wCycle 3 36251 false).dev.cyc.nextAt) ∧
    ((wCycle 3 0 true).dev.cyc.dispatched = true) ∧
    ((wHold [] true 0).dev.cycling = true ∧ (wHold [] true 0).dev.cyc.nextAt ≤ (wHold [] true 0).dev.now ∧ (wHold [] true 0).dev.ctl.holding = true ∧ ((wHold [] true 0).dev.ctl.stoDone = true ∨ (wHold [] true 0).dev.ctl.handed = true)) ∧
    ((wCycle 2 31250 true).dev.state ∈ [stReady, stRun, stService] ∧ (wCycle 2 31250 true).dev.cyc.nextAt ≤ (wCycle 2 31250 true).dev.now ∧ (wCycle 2 31250 true).dev.obj Obj.ROLE = 0 ∧ (wCycle 2 31250 true).dev.ctl.holding = false ∧ (wCycle 2 31250 true).dev.ctl.trans = .none ∧ (wCycle 2 31250 true).dev.tally.queue = [] ∧ (wCycle 2 31250 true).dev.tally.timed = []) ∧
    ((wCycle 3 31250 true).dev.state ∈ [stReady, stRun, stService] ∧ (wCycle 3 31250 true).dev.cyc.nextAt ≤ (wCycle 3 31250 true).dev.now ∧ (wCycle 3 31250 true).dev.obj Obj.ROLE = 0 ∧ (wCycle 3 31250 true).dev.ctl.holding = false ∧ (wCycle 3 31250 true).dev.ctl.trans = .none ∧ (wCycle 3 31250 true).dev.tally.queue = [] ∧ (wCycle 3 31250 true).dev.tally.timed = []) ∧
    ((wCycle 4 31250 true).dev.state ∈ [stReady, stRun, stService] ∧ (wCycle 4 31250 true).dev.cyc.nextAt ≤ (wCycle 4 31250 true).dev.now ∧ (wCycle 4 31250 true).dev.obj Obj.ROLE = 0 ∧ (wCycle 4 31250 true).dev.ctl.holding = false ∧ (wCycle 4 31250 true).dev.ctl.trans = .none ∧ (wCycle 4 31250 true).dev.tally.queue = [] ∧ (wCycle 4 31250 true).dev.tally.timed = []) ∧
    ((wCycle 2 36250 false).dev.state ∈ [stReady, stRun] ∧ (wCycle 2 36250 false).dev.cyc.nextAt ≤ (wCycle 2 36250 false).dev.now + 5000 ∧ (wCycle 2 36250 false).dev.obj Obj.ROLE = 0 ∧ (wCycle 2 36250 false).dev.ctl.handed = false ∧ (wCycle 2 36250 false).dev.cyc.dispatched = false ∧ (wCycle 2 36250 false).dev.pair.takeTag = none ∧ (wCycle 2 36250 false).dev.pair.staleStep = none ∧ (∀ a ∈ (wCycle 2 36250 false).dev.axes, a.pub = []) ∧ (wCycle 2 36250 false).dev.computes 3 = true) ∧
    ((wCycle 3 36250 false).dev.state ∈ [stReady, stRun] ∧ (wCycle 3 36250 false).dev.cyc.nextAt ≤ (wCycle 3 36250 false).dev.now + 5000 ∧ (wCycle 3 36250 false).dev.obj Obj.ROLE = 0 ∧ (wCycle 3 36250 false).dev.ctl.handed = false ∧ (wCycle 3 36250 false).dev.cyc.dispatched = false ∧ (wCycle 3 36250 false).dev.pair.takeTag = none ∧ (wCycle 3 36250 false).dev.pair.staleStep = none ∧ (∀ a ∈ (wCycle 3 36250 false).dev.axes, a.pub = []) ∧ (wCycle 3 36250 false).dev.computes 3 = true) :=
  by and_intros <;> decide +kernel

/-- The empty-queue step and the steps of a canonical RAM have their hypotheses met. -/
theorem test_witness_EveryStepKeepsTheRamCanonical :
    (({ ready with pending := [.hostCsRise], mem := { cells := [(3, 5), (9, 0)] } } : State).mem.wf = true ∧ ready.dev.drops = []) ∧
    (match step { ready with pending := [.hostCsRise], mem := { cells := [(3, 5), (9, 0)] } } with
      | .next _ => true
      | _ => false) = true ∧
    ready.pending = [] :=
  ⟨by decide +kernel, by decide +kernel, by decide +kernel⟩

/-- Bytes at the ends of their range, and one symbol for each outcome of a read. -/
theorem test_witness_MemoryBytesCarryTheirCheckBits :
    (255 < 256 ∧ 4 < 5 ∧ 12 < 13 ∧ (0 : Nat) ≠ 1) ∧ checkOf 0xFF ^^^ checkOf 0xFF = 0 ∧ checkOf 0 ^^^ 0x07 = 0x07 ∧ checkOf 0 ^^^ 0x1C = 0x1C ∧
    checkOf 0 ^^^ 1 = 2 ^ 0 ∧ checkOf 0 ^^^ 16 = 2 ^ 4 ∧ checkOf 0 ^^^ 0x1F = 0x1F ∧
    (checkOf 0 ^^^ 3 ≠ 0 ∧ checkOf 0 ^^^ 3 ∉ [0x07, 0x0B, 0x0D, 0x0E, 0x13, 0x15, 0x19, 0x1C, 1, 2, 4, 8, 16, 0x1F]) := by decide +kernel

/-- A RAM out of order, or one that lists an unwritten byte, is not in the canonical form. -/
theorem test_canonical_form : ({ cells := [(9, 0), (3, 5)] } : Mem).wf = false ∧ ({ cells := [(3, 0x1F00)] } : Mem).wf = false := by decide +kernel

/-- A save whose image is beyond 4 MiB. -/
theorem test_witness_save_too_large (l : List Byte) (h : l.length = 4194305) :
    4194304 < ({ objs := [], doms := [(0, l)], safety := none, safetyCrc := 0, stepping := 0, crcOk := true } : ImageCopy).bytes := by
  simp [ImageCopy.bytes, sumOf, h]

/-- A CRC that is the pending block's, and one that is not. -/
theorem test_witness_safety_commit_crc :
    (∃ crc : Check32, Config.blockCrc wSafety.dev.fullBlock % 2 ^ 32 = crc.toNat) ∧
    (∃ crc : Check32, Config.blockCrc wSafety.dev.fullBlock % 2 ^ 32 ≠ crc.toNat) := by
  refine ⟨⟨BitVec.ofNat 32 (Config.blockCrc wSafety.dev.fullBlock), by simp⟩, ⟨BitVec.ofNat 32 (Config.blockCrc wSafety.dev.fullBlock + 1), ?_⟩⟩
  simp only [BitVec.toNat_ofNat]
  omega

/-- A macro with fewer than four rows fused at the factory has a free soft-repair slot. -/
theorem test_witness_soft_repair_slot (h : Config.macroFusedRows 256 % 5 < 4) : run.dev.softFree 256 ≠ 0 := by
  have e : run.dev.softFree 256 = min 2 (4 - (Config.macroFusedRows 256 % 5 + 0)) - 0 := rfl
  rw [e]
  omega

/-- Commands whose data no wire can carry in their form are refused (R77, R80, R86, R88, R94, R144, R177, R188, R543). -/
theorem test_ill_formed :
    (Instr.unknownOpcode 0x03 (wAddr 0 0) 0).wf = false ∧
    (Instr.udpOpen wPeer (wGram 0x82 1 [])).wf = false ∧ (Instr.udpRequest wPeer (wGram 0x80 1 [])).wf = false ∧
    (Instr.udpRequest wPeer (wGram 0x82 1 [])).wf = false ∧ (Instr.udpClose wPeer (wGram 1 1 [])).wf = false ∧
    (Instr.canFrameRx 0 ⟨{ wFrame with data := List.replicate 9 0 }, true⟩ 0).wf = false ∧ (Instr.canFrameRx 0 ⟨{ wFrame with id := 2048 }, true⟩ 0).wf = false ∧
    (Instr.ethFrameRx 0 (List.replicate 59 0) true 0).wf = false ∧
    (Instr.uplinkBlockRx 0 { wBlock 0 with records := List.replicate 5 (wFb 0) } 0).wf = false ∧
    (Instr.uplinkBlockRx 0 { wBlock 0 with safe := some [] } 0).wf = false ∧
    (Instr.discoveryDone 0 true (List.replicate 65 wNode)).wf = false ∧ (Instr.acqFireRx 0 wMsg).wf = false := by decide +kernel

/-- The data of a host transaction are bounded by its 16-bit length field. -/
theorem test_ill_formed_length (l : List Byte) (h : l.length = 65536) :
    (Instr.write (wAddr 0 0) l 0).wf = false ∧ (Instr.writeTimed (wAddr 0 0) 0 l 0).wf = false ∧
    (Instr.domainWrite (wAddr 0 0) 0 l 0).wf = false ∧ (Instr.ethFrameRx 0 l true 0).wf = false := by
  simp [Instr.wf, h]

/-- An ill-formed command is the one fault. -/
theorem test_ill_formed_faults : exec (.discoveryDone 0 true (List.replicate 65 wNode)) ready = .fault .illFormed := by rfl

/-- The worked encoding of R298: WIDEL A0, D10 with LD D8,(P3)+ is 0x2905_0000_2861_0000. -/
theorem test_word_widel :
    wordA 0x0A { sat := false, dst := 0x10, srcA := 0x0A, srcB := 0, srcC := 0, vs := false, shift := 0, pmove := { kind := 1, reg := 8, pp := 3, pm := 0, upd := 1 } } = 0x2905000028610000 := by decide

/-- R469: the CRC-32C of the ASCII string 123456789. -/
theorem test_crc32c : crc32c [0x31, 0x32, 0x33, 0x34, 0x35, 0x36, 0x37, 0x38, 0x39] = 0xE3069283 := by decide +kernel

/-- The worked example of R570: the check of 0x5A, and the three split writes read through the checker. -/
theorem test_check_bits :
    checkOf 0x5A = 0x0F ∧ (readSym (0x5B + 256 * 0x0F)) = (.corrected, 0x07, 0x5A) ∧ (readSym (0x59 + 256 * 0x0F)).1 = .uncorrectable ∧
      (readSym (0x00 + 256 * 0x1F)).1 = .unwritten := by decide +kernel

end Sys2Proof.Tests
end

section
/-! SUPPORT. What a read at the host port answers: the frame of a transaction whose answer leaves the block alone, one equation for
each way a value is read, and from them the answers of READ and DOMAIN_READ (R50, R51, R79, R83, R622). -/

set_option Elab.async false

namespace Sys2Proof.Machine

/-! ## The frame of a host transaction -/

/-- An answer with both flags clear. -/
def Answer.unflagged (st : Nat) (data : List Byte) : Answer := { status := st, reread := false, stale := false, data := data }

theorem Answer.ofStatus_eq (st : Nat) : Answer.ofStatus st = .unflagged st [] := rfl

theorem respond_obj (d : Dev) (tag : Byte) (r : Answer) (k : Nat) :
    (d.respond tag r).obj k
      = if Obj.LAST_HOST_TAG = k then tag.toNat else if Obj.LAST_HOST_STATUS = k then r.status else d.obj k := by
  change ((d.setObj Obj.LAST_HOST_STATUS r.status).setObj Obj.LAST_HOST_TAG tag.toNat).obj k = _
  rw [Dev.obj_setObj, Dev.obj_setObj]

theorem hostResponse_mem_respond (d : Dev) (tag : Byte) (r : Answer) :
    Emit.hostResponse r.status tag.toNat r.reread r.stale r.data ∈ (d.respond tag r).emitted := by
  simp [Dev.respond, Dev.emit]

/-- With the port live and a good Check, the transaction runs and its answer is sent (R78, R79). -/
theorem transact_good (d : Dev) (tag : Byte) (phases : List Byte) (check : Check32) (f : Dev → Answer × Dev)
    (hlive : d.hostLive = true) (hcrc : check.toNat = crc32c phases) :
    d.transact tag phases check f = (f d).2.respond tag (f d).1 := by
  simp [Dev.transact, hlive, hcrc]

/-- A transaction that answers and leaves the block as it met it ends with its response on it, and nothing to report or decide. -/
theorem host_next (s : State) (tag : Byte) (phases : List Byte) (check : Check32) (f : Dev → Answer × Dev) (r : Answer)
    (hlive : s.dev.hostLive = true) (hcrc : check.toNat = crc32c phases) (hf : f s.dev.fresh = (r, s.dev.fresh)) :
    s.host tag phases check f = .next { s with dev := s.dev.fresh.respond tag r } := by
  have hcause : (s.dev.fresh.respond tag r).ctl.causeReq = none := rfl
  have hdrops : (s.dev.fresh.respond tag r).drops = [] := rfl
  simp only [State.host, State.onDevH, State.onDev, transact_good s.dev.fresh tag phases check f hlive hcrc, hf,
    holdDecide_none _ hcause, settle_none _ hdrops]

/-- Such a response changes LAST_HOST_STATUS and LAST_HOST_TAG alone (R83). -/
theorem respondsOnly_respond (s : State) (tag : Byte) (st : Nat) (data : List Byte) :
    s.RespondsOnly { s with dev := s.dev.fresh.respond tag (.unflagged st data) } st tag.toNat data := by
  have hkeeps : s.dev.KeepsBut (s.dev.fresh.respond tag (.unflagged st data)) [Obj.LAST_HOST_STATUS, Obj.LAST_HOST_TAG] := by
    intro k hk _
    simp only [List.mem_cons, List.not_mem_nil, or_false, not_or] at hk
    obtain ⟨hstatus, htag⟩ := hk
    rw [respond_obj, if_neg (Ne.symm htag), if_neg (Ne.symm hstatus), Dev.fresh_obj]
  exact ⟨⟨hostResponse_mem_respond _ _ _, by simp [respond_obj, Answer.unflagged], by simp [respond_obj]⟩, hkeeps, fun _ => rfl, rfl, rfl⟩

/-- READ answers what the read answers of the block the command meets. -/
theorem answers_read (s : State) (a : HostAddr) (check : Check32) {st : Nat} {data : List Byte} (hlive : s.dev.hostLive = true)
    (hcrc : check.toNat = crc32c (addrBytes a))
    (hread : s.dev.fresh.read 0 (addrKey a) = (.unflagged st data, s.dev.fresh)) :
    Answers (.read a check) s (fun t => s.RespondsOnly t st a.tag.toNat data) :=
  ⟨_, host_next s a.tag _ check _ _ hlive hcrc hread, respondsOnly_respond s a.tag st data⟩

/-- DOMAIN_READ answers what the read answers of the block the command meets. -/
theorem answers_domainRead (s : State) (a : HostAddr) (len : BitVec 16) (off : BitVec 32) (check : Check32) {st : Nat}
    {data : List Byte} (hlive : s.dev.hostLive = true)
    (hcrc : check.toNat = crc32c (addrBytes a ++ beBytes 2 len.toNat ++ beBytes 4 off.toNat))
    (hread : s.dev.fresh.domainRead (addrKey a) off.toNat len.toNat = (.unflagged st data, s.dev.fresh)) :
    Answers (.domainRead a len off check) s (fun t => s.RespondsOnly t st a.tag.toNat data) :=
  ⟨_, host_next s a.tag _ check _ _ hlive hcrc hread, respondsOnly_respond s a.tag st data⟩

/-! ## Values as they are read -/

/-- A value whose store is undamaged reads as it is (R562). -/
theorem damagedBytes_undamaged (d : Dev) (k : Nat) (l : List Byte) (h : ∀ e ∈ d.fl.damaged, e.1 ≠ k) : d.damagedBytes k l = l := by
  have hnil : d.fl.damaged.filter (fun e => e.1 == k) = [] := by simpa using h
  rw [Dev.damagedBytes, hnil, List.foldl_nil]

theorem live_TIME_NOW (d : Dev) : d.live Obj.TIME_NOW = some (d.time80 0) := by
  have haxis : liveAxis Obj.TIME_NOW = none := by decide
  simp only [Dev.live, haxis, if_true]

theorem readHeld_stored (d : Dev) (k : Nat) (hm : isMeasured k = false) (hl : d.live k = none) : d.readHeld k = (d.obj k, d) := by
  simp [Dev.readHeld, hm, hl]

theorem readHeld_live (d : Dev) (k v : Nat) (hm : isMeasured k = false) (hl : d.live k = some v) : d.readHeld k = (v, d) := by
  simp [Dev.readHeld, hm, hl]

/-- A scalar that is no result is read in its row's type, in the form it has on the wire (R12, R48). -/
theorem scalarBytes_eq (d : Dev) (k v : Nat) (ty : ObjType) (hc : resultCtx k = none) (hv : d.readHeld k = (v, d))
    (hd : ∀ e ∈ d.fl.damaged, e.1 ≠ k) : d.scalarBytes k ty = (beBytes ty.size (wireOf ty v), d) := by
  simp [Dev.scalarBytes, hv, Dev.readType, hc, damagedBytes_undamaged d k _ hd]

/-- A DOMAIN object whose value is held as bytes: no order number, no received CAN frame, no record of the recorder, no table of a fixed
length. -/
structure HeldAsBytes (k : Nat) (r : ObjRow) : Prop where
  row : rowOf k = some r
  readable : r.rights ≠ .wo
  type : ∃ n, r.ty = .domain n false
  noOrder : k ≠ Obj.ORDER_NUMBER
  noFrame : k / 256 ≠ 0x843 ∧ k / 256 ≠ 0x84B
  noRecord : ¬ (0x4090 ≤ k / 256 ∧ k / 256 < 0x4094)

theorem HeldAsBytes.of_index {k n : Nat} {r : ObjRow} (hr : rowOf k = some r) (hw : r.rights ≠ .wo) (ht : r.ty = .domain n false)
    (ho : k ≠ Obj.ORDER_NUMBER) (hi : k / 256 ∉ [0x843, 0x84B, 0x4090, 0x4091, 0x4092, 0x4093]) : HeldAsBytes k r := by
  simp only [List.mem_cons, List.not_mem_nil, or_false, not_or] at hi
  obtain ⟨hrx0, hrx1, hrecords⟩ := hi
  exact ⟨hr, hw, ⟨n, ht⟩, ho, ⟨hrx0, hrx1⟩, by omega⟩

theorem HeldAsBytes.isDomain {k : Nat} {r : ObjRow} (h : HeldAsBytes k r) : r.ty.isDomain = true := by
  obtain ⟨n, ht⟩ := h.type
  rw [ht]; rfl

theorem HeldAsBytes.domainValue {k : Nat} {r : ObjRow} (h : HeldAsBytes k r) (d : Dev) : d.domainValue k = d.blob k := by
  obtain ⟨n, ht⟩ := h.type
  have hframe : ¬ (k / 256 = 0x843 ∨ k / 256 = 0x84B) := not_or.mpr h.noFrame
  simp only [Dev.domainValue, if_neg h.noOrder, if_neg hframe, if_neg h.noRecord, h.row, ht]

theorem HeldAsBytes.recordBusy {k : Nat} {r : ObjRow} (h : HeldAsBytes k r) (d : Dev) : d.recordBusy k = false := by
  have hrec : (decide (0x4090 ≤ k / 256) && decide (k / 256 < 0x4094)) = false := by simpa using h.noRecord
  simp [Dev.recordBusy, hrec]

/-- A part of a value held as bytes (R51). -/
theorem HeldAsBytes.readDomain {k : Nat} {r : ObjRow} (h : HeldAsBytes k r) (d : Dev) (off len : Nat)
    (hd : ∀ e ∈ d.fl.damaged, e.1 ≠ k) :
    d.readDomain k off len = if (d.blob k).length < off then (.unflagged 0x0007 [], d)
      else (.unflagged 0 (((d.blob k).drop off).take len), d) := by
  have hframe : ¬ (k / 256 = 0x843 ∨ k / 256 = 0x84B) := not_or.mpr h.noFrame
  simp only [Dev.readDomain, h.recordBusy, h.domainValue, damagedBytes_undamaged d k _ hd, if_neg hframe, Bool.false_eq_true,
    if_false, Answer.ofStatus_eq, Answer.unflagged]

/-! ## READ -/

theorem read_unknown (d : Dev) (reader k : Nat) (hr : rowOf k = none) : d.read reader k = (.unflagged 0x0001 [], d) := by
  simp [Dev.read, hr, Answer.ofStatus_eq]

theorem read_writeOnly (d : Dev) (reader k : Nat) (r : ObjRow) (hr : rowOf k = some r) (hw : r.rights = .wo) :
    d.read reader k = (.unflagged 0x0002 [], d) := by
  simp [Dev.read, hr, hw, Answer.ofStatus_eq]

theorem read_scalar (d : Dev) (reader k v : Nat) (r : ObjRow) (hr : rowOf k = some r) (hw : r.rights ≠ .wo)
    (ht : r.ty.isDomain = false) (hc : resultCtx k = none) (hv : d.readHeld k = (v, d)) (hd : ∀ e ∈ d.fl.damaged, e.1 ≠ k) :
    d.read reader k = (.unflagged 0 (beBytes r.ty.size (wireOf r.ty v)), d) := by
  simp [Dev.read, hr, hw, ht, hc, scalarBytes_eq d k v r.ty hc hv hd, Answer.unflagged]

theorem read_TIME_NOW (d : Dev) (reader : Nat) (hd : ∀ e ∈ d.fl.damaged, e.1 ≠ Obj.TIME_NOW) :
    d.read reader Obj.TIME_NOW = (.unflagged 0 (beBytes 10 (d.time80 0)), d) := by
  have hrow : rowOf Obj.TIME_NOW = some ⟨0x230, 1, 1, 0, 1, .time80, .ro, 0, .any⟩ := by decide +kernel
  have hheld : d.readHeld Obj.TIME_NOW = (d.time80 0, d) := readHeld_live d _ _ (by decide) (live_TIME_NOW d)
  exact read_scalar d reader _ _ _ hrow (by decide) rfl (by decide) hheld hd

/-- READ of a DOMAIN value is a read of its first 4,096 bytes (log entry 10). -/
theorem read_heldAsBytes (d : Dev) (reader k : Nat) (r : ObjRow) (h : HeldAsBytes k r) (hd : ∀ e ∈ d.fl.damaged, e.1 ≠ k) :
    d.read reader k = (.unflagged 0 ((d.blob k).take 4096), d) := by
  simp [Dev.read, h.row, h.readable, h.isDomain, h.readDomain d 0 4096 hd]

/-! ## DOMAIN_READ -/

theorem readStatus_readable (k : Nat) (r : ObjRow) (hr : rowOf k = some r) (hw : r.rights ≠ .wo) : readStatus k = 0 := by
  simp [readStatus, hr, hw]

theorem isDomain_of_row (k : Nat) (r : ObjRow) (hr : rowOf k = some r) : isDomain k = r.ty.isDomain := by
  simp [isDomain, hr]

/-- Of an object that is no DOMAIN, or with a Length out of its range (R51). -/
theorem domainRead_refused (d : Dev) (k off len : Nat) (r : ObjRow) (hr : rowOf k = some r) (hw : r.rights ≠ .wo)
    (h : r.ty.isDomain = false ∨ len = 0 ∨ 4096 < len) : d.domainRead k off len = (.unflagged 0x0006 [], d) := by
  have hbad : (!isDomain k || len = 0 || 4096 < len) = true := by
    simpa [isDomain_of_row k r hr, or_assoc] using h
  rw [Dev.domainRead, readStatus_readable k r hr hw, if_neg (by simp), if_pos hbad, Answer.ofStatus_eq]

theorem domainRead_heldAsBytes (d : Dev) (k off len : Nat) (r : ObjRow) (h : HeldAsBytes k r) (hlo : 0 < len) (hhi : len ≤ 4096)
    (hd : ∀ e ∈ d.fl.damaged, e.1 ≠ k) :
    d.domainRead k off len = if (d.blob k).length < off then (.unflagged 0x0007 [], d)
      else (.unflagged 0 (((d.blob k).drop off).take len), d) := by
  have hgood : (!isDomain k || len = 0 || 4096 < len) = false := by
    simp only [isDomain_of_row k r h.row, h.isDomain, Bool.not_true, Bool.false_or, Bool.or_eq_false_iff, decide_eq_false_iff_not]
    omega
  rw [Dev.domainRead, readStatus_readable k r h.row h.readable, if_neg (by simp), hgood, if_neg (by simp), h.readDomain d off len hd]

/-! ## The obligation -/

/-- Settles O41: each clause reads the block through one equation of the read, and the frame of the transaction does the rest. -/
theorem hostReadsReturnTheValueAndStatus : Obligations.HostReadsReturnTheValueAndStatus := by
  unfold Obligations.HostReadsReturnTheValueAndStatus
  refine ⟨fun s a check hlive hcrc => ⟨?unknown, ?writeOnly, ?scalar, ?time, ?bytes⟩,
    fun s a len off check hlive hcrc => ⟨?refused, ?part⟩⟩
  case unknown =>
    intro hr
    exact answers_read s a check hlive hcrc (read_unknown _ 0 _ hr)
  case writeOnly =>
    intro r hr hw
    exact answers_read s a check hlive hcrc (read_writeOnly _ 0 _ r hr hw)
  case scalar =>
    intro r hr hw ht hc hm hl hd
    have hheld := readHeld_stored s.dev.fresh (addrKey a) hm hl
    exact answers_read s a check hlive hcrc (read_scalar _ 0 _ _ r hr hw ht hc hheld hd)
  case time =>
    intro hk hd
    refine answers_read s a check hlive hcrc ?_
    rw [hk] at hd ⊢
    exact read_TIME_NOW _ 0 hd
  case bytes =>
    intro r n hr hw ht ho hi hd
    exact answers_read s a check hlive hcrc (read_heldAsBytes _ 0 _ r (.of_index hr hw ht ho hi) hd)
  case refused =>
    intro r hr hw h
    exact answers_domainRead s a len off check hlive hcrc (domainRead_refused _ _ _ _ r hr hw h)
  case part =>
    intro r n hr hw ht ho hi hd hlo hhi
    have hread := domainRead_heldAsBytes s.dev.fresh (addrKey a) off.toNat len.toNat r (.of_index hr hw ht ho hi) hlo hhi hd
    refine ⟨fun hoff => ?_, fun hoff => ?_⟩
    · rw [Dev.fresh_blob, if_neg (Nat.not_lt.mpr hoff)] at hread
      exact answers_domainRead s a len off check hlive hcrc hread
    · rw [Dev.fresh_blob, if_pos hoff] at hread
      exact answers_domainRead s a len off check hlive hcrc hread

end Sys2Proof.Machine
end

section
/-! SUPPORT. What every command and every step answers (R24, the order of commands), and what reset leaves (R33, R558, R588, R592). -/

set_option Elab.async false

namespace Sys2Proof.Machine

/-! ## Commands and steps -/

/-- Every command is answered behind the check of its form: one next state, its queue as before, its drops reported. -/
theorem exec_guarded (c : Instr) (s : State) :
    ∃ t, exec c s = guardForm c.wf (.next t) ∧ t.pending = s.pending ∧ t.dev.drops = [] := by
  cases c <;> exact ⟨_, rfl, rfl, rfl⟩

theorem exec_of_wf {c : Instr} (s : State) (h : c.wf = true) : Answers c s (fun t => t.pending = s.pending ∧ t.dev.drops = []) := by
  obtain ⟨t, ht, hrest⟩ := exec_guarded c s
  exact ⟨t, by rw [ht, h]; rfl, hrest⟩

theorem exec_of_not_wf {c : Instr} (s : State) (h : c.wf = false) : exec c s = .fault .illFormed := by
  obtain ⟨t, ht, -⟩ := exec_guarded c s
  rw [ht, h]; rfl

theorem step_nil {s : State} (h : s.pending = []) : step s = .next s := by
  rw [step, h]

theorem step_cons {s : State} {c : Instr} {rest : List Instr} (h : s.pending = c :: rest) : step s = exec c { s with pending := rest } := by
  rw [step, h]

/-- A queue of carried commands runs on. -/
theorem step_of_fed {s : State} (h : s.Fed) : ∃ t, step s = .next t ∧ t.pending = s.pending.tail ∧ t.Fed := by
  cases hq : s.pending with
  | nil => exact ⟨s, step_nil hq, hq, h⟩
  | cons c rest =>
    obtain ⟨t, ht, hpending, -⟩ := exec_of_wf { s with pending := rest } (h c (by simp [hq]))
    refine ⟨t, (step_cons hq).trans ht, hpending, fun b hb => h b ?_⟩
    rw [hpending] at hb
    simpa [hq] using .inr hb

/-- Settles O1: the step is its own two equations. -/
theorem stepRunsTheFrontCommand : Obligations.StepRunsTheFrontCommand :=
  ⟨fun _ _ => step_cons rfl, fun _ => step_nil⟩

/-- Settles O2: the form check stands before every command, and behind it every command answers. -/
theorem everyCarriedCommandIsAnswered : Obligations.EveryCarriedCommandIsAnswered :=
  ⟨fun _ s => exec_of_wf s, fun _ s => exec_of_not_wf s, fun _ => step_of_fed⟩

/-! ## Reset -/

theorem getAt_replicate {α : Type} (a : α) (n i : Nat) : getAt a (List.replicate n a) i = a := by
  induction n generalizing i with
  | zero => rfl
  | succ n ih => cases i with
    | zero => rfl
    | succ i => exact ih i

/-- A byte of a RAM that lists none reads as unwritten (R558). -/
theorem readSym_marker : (readSym marker).1 = .unwritten := by decide

/-- Settles O6: each value is read off the reset state. -/
theorem resetHoldsTheBootValues : Obligations.ResetHoldsTheBootValues := by
  unfold Obligations.ResetHoldsTheBootValues
  refine ⟨by decide +kernel, rfl, rfl, rfl, rfl, fun i => ?closed, fun a => readSym_marker, rfl, by decide +kernel, by decide +kernel, ?off, by decide +kernel⟩
  case closed => exact congrArg Session.isOpen (getAt_replicate closedSession 8 i)
  case off => decide +kernel

end Sys2Proof.Machine
end

section
/-! SUPPORT. State requests as they are accepted and as they take effect (R29 to R32, R65). -/

set_option Elab.async false

namespace Sys2Proof.Machine

/-! ## Loops that leave a part alone -/

theorem forN_keeps {α β : Type} (π : α → β) (n : Nat) (f : Nat → α → α) (h : ∀ i < n, ∀ a, π (f i a) = π a) (a : α) :
    π (forN n f a) = π a := by
  induction n with
  | zero => rfl
  | succ n ih => exact (h n (by omega) _).trans (ih fun i hi => h i (by omega))

theorem foldl_keeps {α β γ : Type} (π : α → γ) (l : List β) (f : α → β → α) (h : ∀ b a, π (f a b) = π a) (a : α) :
    π (l.foldl f a) = π a := by
  induction l generalizing a with
  | nil => rfl
  | cons b t ih => exact (ih (f a b)).trans (h b a)

/-! ## A request taking effect -/

theorem rejectState_obj (d : Dev) (reason k : Nat) : (d.rejectState reason).obj k = if Obj.STATE_REJECT = k then reason else d.obj k :=
  d.obj_setObj _ _ _

theorem stateRequest_after (d : Dev) (m : Mem) (v : Nat) : d.after m Obj.STATE_REQUEST v = stateRequest (d, m) v := by
  rw [after_owner d m _ v rws_STATE_REQUEST copied_STATE_REQUEST leaves_STATE_REQUEST (by decide)]
  rfl

/-- A request that meets a SAFE-HOLD sequence, a transition or a cause just found is rejected with 0x03 (R31, R32). -/
theorem stateRequest_busy (x : DM) (v : Nat) (h : (x.1.ctl.holding || x.1.ctl.trans != .none || x.1.ctl.causeReq.isSome) = true) :
    stateRequest x v = (x.1.rejectState 3, x.2) := if_pos h

/-- Settles O9: a transition in progress is the first thing a request meets. -/
theorem aRequestDuringATransitionIsRejected : Obligations.ARequestDuringATransitionIsRejected := by
  unfold Obligations.ARequestDuringATransitionIsRejected
  intro d m v htrans
  have hbusy : stateRequest (d, m) v = (d.rejectState 3, m) := stateRequest_busy (d, m) v (by simp [htrans])
  rw [stateRequest_after, hbusy]
  exact ⟨by rw [rejectState_obj, if_pos rfl], rfl, fun k hk => by rw [rejectState_obj, if_neg (Ne.symm hk)], rfl⟩

/-! ## What a request keeps of the device control: the checks, the loading of the folds -/

@[simp] theorem rejectState_ctl (d : Dev) (reason : Nat) : (d.rejectState reason).ctl = d.ctl := rfl
@[simp] theorem updWear_ctl (d : Dev) (f l : Nat) (g : Lane → Lane) : (d.updWear f l g).ctl = d.ctl := rfl

theorem retireSoon_ctl (d : Dev) (f l code : Nat) : (d.retireSoon f l code).ctl = d.ctl := by
  unfold Dev.retireSoon
  split <;> rfl

@[simp] theorem laneSelftest_ctl (d : Dev) : d.laneSelftest.ctl = d.ctl := by
  refine forN_keeps Dev.ctl 8 _ (fun f _ d => forN_keeps Dev.ctl 8 _ (fun l _ d => ?_) d) d
  split
  · rfl
  · exact retireSoon_ctl d f l 4

theorem boundsEvents_ctl (d : Dev) : d.boundsEvents.ctl = d.ctl := by
  refine forN_keeps Dev.ctl 2 _ (fun r _ d => ?_) d
  simp only [apply_ite Dev.ctl, raise_ctl _ 0x32 _ (by decide), ite_self]

theorem freshContext_ctl (d : Dev) (c : Nat) : (d.freshContext c).ctl = d.ctl := by
  unfold Dev.freshContext
  simp only [Dev.updAxis_ctl, apply_ite Dev.ctl, ite_self]

theorem install_ctl (d : Dev) (f : Nat) (l : List Placed) : (d.install f l).ctl = d.ctl := by
  unfold Dev.install
  rw [Dev.setObj_ctl, Dev.setObj_ctl]
  exact foldl_keeps Dev.ctl l _ (fun p d => by simp only [Dev.updAxis_ctl, apply_ite Dev.ctl, Dev.setObj_ctl, ite_self]) d

theorem showDutyLimits_ctl (d : Dev) : d.showDutyLimits.ctl = d.ctl := by
  unfold Dev.showDutyLimits
  exact forN_keeps Dev.ctl 20 _ (fun _ _ d => by simp only [Dev.setObjI_ctl]) d

theorem showMq_ctl (d : Dev) (n : Nat) : (d.showMq n).ctl = d.ctl := Dev.setObj_ctl _ _ _

theorem markLoaded_ctl (d : Dev) (f : Nat) (doms : List Nat) : (d.markLoaded f doms).ctl = d.ctl := by
  unfold Dev.markLoaded
  exact foldl_keeps Dev.ctl _ _ (fun k d => by rw [apply_ite Dev.ctl, Dev.setObjBit_ctl, ite_self]) d

theorem loadFold_ctl (x : DM) (f : Nat) : (loadFold x f).1.ctl = x.1.ctl := by
  unfold loadFold
  dsimp only
  rw [markLoaded_ctl]

theorem prepare_ctl (x : DM) : (prepare x).1.ctl = x.1.ctl := by
  unfold prepare
  refine (forN_keeps (fun y : DM => y.1.ctl) 8 _ (fun f _ y => loadFold_ctl y f) _).trans ?_
  refine (foldl_keeps Dev.ctl _ _ (fun n d => showMq_ctl d n) _).trans ((showDutyLimits_ctl _).trans ?_)
  refine (forN_keeps Dev.ctl 8 _ (fun f _ d => ?install) _).trans (foldl_keeps Dev.ctl _ _ (fun c d => ?fresh) _)
  case install =>
    split
    · exact install_ctl d f _
    · rfl
  case fresh => rw [apply_ite Dev.ctl, freshContext_ctl, ite_self]

/-! ## The table of R30 -/

/-- Nothing stands against a state request: a head, no SAFE-HOLD sequence, no transition, no cause found (R31, R32). -/
structure TakesRequests (d : Dev) : Prop where
  holding : d.ctl.holding = false
  trans : d.ctl.trans = .none
  cause : d.ctl.causeReq = none
  head : d.isHead = true

section

variable {d : Dev} {m : Mem}

/-- READY may be left for CONFIG, RUN and SERVICE (R30). -/
theorem stateRequest_fromReady (h : TakesRequests d) (hs : d.state = stReady) :
    stateRequest (d, m) 1 = (d.begin .toConfig, m) ∧ stateRequest (d, m) 3 = (d.begin .toRun, m) ∧
      stateRequest (d, m) 4 = (d.begin .toService, m) := by
  obtain ⟨hhold, htrans, hcause, hhead⟩ := h
  simp [stateRequest, hhold, htrans, hcause, hhead, hs]

/-- CONFIG may be left for READY alone (R30). -/
theorem stateRequest_fromConfig (h : TakesRequests d) (hs : d.state = stConfig) :
    stateRequest (d, m) 2 = requestReady (d, m) ∧ ∀ v, v ≠ 2 → stateRequest (d, m) v = (d.rejectState 1, m) := by
  obtain ⟨hhold, htrans, hcause, hhead⟩ := h
  simp +contextual [stateRequest, hhold, htrans, hcause, hhead, hs]

/-- RUN may be left once everything has stopped (R30). -/
theorem stateRequest_fromRun (h : TakesRequests d) (hs : d.state = stRun) :
    stateRequest (d, m) 2 = (if d.runStopped then d.laneSelftest.begin .toReady else d.rejectState 2, m) := by
  obtain ⟨hhold, htrans, hcause, hhead⟩ := h
  simp [stateRequest, hhold, htrans, hcause, hhead, hs]

/-- SERVICE may be left once no self-test or fuse programming runs (R30). -/
theorem stateRequest_fromService (h : TakesRequests d) (hs : d.state = stService) :
    stateRequest (d, m) 2 = (if d.serviceIdle then d.laneSelftest.begin .toReady else d.rejectState 4, m) := by
  obtain ⟨hhold, htrans, hcause, hhead⟩ := h
  simp [stateRequest, hhold, htrans, hcause, hhead, hs]

theorem requestReady_undiscovered (h : d.discoveryComplete = false) : requestReady (d, m) = (d.rejectState 5, m) := by
  simp [requestReady, h]

theorem requestReady_failed (h : d.discoveryComplete = true) (hr : d.laneSelftest.readyOk = false) :
    requestReady (d, m) = (d.laneSelftest.boundsEvents.rejectState 4, m) := by
  simp [requestReady, h, hr]

theorem requestReady_passed (h : d.discoveryComplete = true) (hr : d.laneSelftest.readyOk = true) :
    requestReady (d, m) = prepare (d.laneSelftest.begin .toReady, m) := by
  simp [requestReady, h, hr]

/-- A rejected request shows its reason and begins nothing. -/
theorem rejectState_rejects (reason : Nat) (h : d.ctl.trans = .none) :
    (d.rejectState reason).obj Obj.STATE_REJECT = reason ∧ (d.rejectState reason).ctl.trans = .none :=
  ⟨by rw [rejectState_obj, if_pos rfl], h⟩

end

/-! ## The obligation -/

theorem ownerStatus_STATE_REQUEST (d : Dev) (v : Nat) : d.ownerStatus Obj.STATE_REQUEST v = 0 := by
  simp [Dev.ownerStatus, Dev.ownerStatusAt, Dev.accessWrite, Obj.STATE_REQUEST]

/-- A state request of a source open to the engine is accepted and waits (R65). -/
theorem stateRequest_queued (s : State) (src : Src) (v : Nat) (h : Open s src) (hhold : s.dev.ctl.holding = false) (hv : v ∈ [1, 2, 3, 4]) :
    ∃ t, s.command src Obj.STATE_REQUEST v = .next t ∧ s.Queued t src Obj.STATE_REQUEST v := by
  have hrange : v < 256 ^ ObjType.u8.size ∧ (RangeCheck.oneOf [1, 2, 3, 4]).ok .u8 v = true := by
    fin_cases hv <;> decide
  exact command_queued s src _ v _ h.reach row_STATE_REQUEST rfl hrange.1
    (rightsStatus_open s src _ _ h (by decide) (by decide) (.inl rfl)) hrange.2 (ownerStatus_STATE_REQUEST _ _)
    (by decide) (by simp [Obj.STATE_REQUEST]) (by decide) (by simp [hhold])

/-- Settles O10: each clause is one row of the table of R30, read through the equations of the state the request meets. -/
theorem stateRequestsAskForTheirState : Obligations.StateRequestsAskForTheirState := by
  unfold Obligations.StateRequestsAskForTheirState
  refine ⟨fun s src hopen hhold => ?accepted, fun d m hhold htrans hcause hhead => ?effect⟩
  case accepted =>
    exact ⟨stateRequest_queued s src 1 hopen hhold (by decide), stateRequest_queued s src 2 hopen hhold (by decide),
      stateRequest_queued s src 3 hopen hhold (by decide), stateRequest_queued s src 4 hopen hhold (by decide)⟩
  case effect =>
    have htakes : TakesRequests d := ⟨hhold, htrans, hcause, hhead⟩
    simp only [stateRequest_after]
    refine ⟨fun hs => ?ready, fun hs hdisc => ?undiscovered, fun hs hdisc hok => ?failed, fun hs hdisc hok => ?passed, fun hs hstop => ?stopped,
      fun hs hstop => ?moving, fun hs hserv => ?served, fun hs hserv => ?serving, fun hs v hv => ?refused⟩
    case ready =>
      obtain ⟨h1, h3, h4⟩ := @stateRequest_fromReady d m htakes hs
      rw [h1, h3, h4]
      exact ⟨rfl, rfl, rfl⟩
    case undiscovered =>
      rw [(stateRequest_fromConfig htakes hs).1, requestReady_undiscovered hdisc]
      exact rejectState_rejects 5 htrans
    case failed =>
      rw [(stateRequest_fromConfig htakes hs).1, requestReady_failed hdisc hok]
      exact rejectState_rejects 4 (by rw [boundsEvents_ctl, laneSelftest_ctl, htrans])
    case passed =>
      rw [(stateRequest_fromConfig htakes hs).1, requestReady_passed hdisc hok, prepare_ctl]
      rfl
    case stopped =>
      rw [stateRequest_fromRun htakes hs, if_pos hstop]
      rfl
    case moving =>
      rw [stateRequest_fromRun htakes hs, if_neg (by simp [hstop])]
      exact rejectState_rejects 2 htrans
    case served =>
      rw [stateRequest_fromService htakes hs, if_pos hserv]
      rfl
    case serving =>
      rw [stateRequest_fromService htakes hs, if_neg (by simp [hserv])]
      exact rejectState_rejects 4 htrans
    case refused =>
      rw [(stateRequest_fromConfig htakes hs).2 v (by rintro rfl; simp at hv)]
      exact rejectState_rejects 1 htrans

end Sys2Proof.Machine
end

section
/-! SUPPORT. The spine: what the work of a cycle, of a controlled stop and of BOOT leave alone. -/

set_option Elab.async false

namespace Sys2Proof.Machine

/-- The objects the spine holds: DEVICE_STATE, SAFE_HOLD_CAUSE, RESET_CAUSE, SAFETY_TICK_SOURCE, BYPASS_STATE, ROLE, and the
CYCLE_TAG of each context. -/
def guarded (k : Nat) : Bool :=
  [Obj.DEVICE_STATE, Obj.SAFE_HOLD_CAUSE, Obj.RESET_CAUSE, Obj.SAFETY_TICK_SOURCE, Obj.BYPASS_STATE, Obj.ROLE].contains k
    || (decide (0xA00000 ≤ k) && k % 0x4000 == 0x3000)

/-- The object may change beside the spine: it is none the spine holds, nor the set of latches of event 0x07. -/
def Loose (k : Nat) : Prop :=
  k ≠ Obj.DEVICE_STATE ∧ k ≠ Obj.SAFE_HOLD_CAUSE ∧ k ≠ Obj.RESET_CAUSE ∧ k ≠ Obj.SAFETY_TICK_SOURCE ∧ k ≠ Obj.BYPASS_STATE ∧
    k ≠ Obj.ROLE ∧ k ≠ Obj.EVENT_LATCH 0 ∧ (0xA00000 ≤ k → k % 0x4000 ≠ 0x3000)

theorem Loose.not_guarded {k : Nat} (h : Loose k) : guarded k = false := by
  simp only [guarded, List.contains_cons, List.contains_nil, Bool.or_false, Bool.or_eq_false_iff, beq_eq_false_iff_ne, Bool.and_eq_false_iff,
    decide_eq_false_iff_not]
  grind [Loose]

/-- What the work of a cycle, of a controlled stop and of BOOT leave alone unless they say so. -/
structure Spine where
  now : Nat
  cyc : Cyc
  ctl : DevCtl
  queue : List QueuedWrite
  timed : List TimedWrite
  flash : Flash
  health : Health
  fusing : Bool
  clock : Bool
  island : Bool
  sessions : List Bool
  latch : Bool
  obj : Nat → Nat

/-- The spine of the block; a SAFE-HOLD cause just found is no part of it. -/
def Dev.spine (d : Dev) : Spine where
  now := d.now
  cyc := d.cyc
  ctl := { d.ctl with causeReq := none }
  queue := d.tally.queue
  timed := d.tally.timed
  flash := d.flash
  health := d.health
  fusing := d.fl.fusing
  clock := d.tb.running
  island := d.isl.running
  sessions := d.acc.sessions.map Session.isOpen
  latch := d.latched 7
  obj := fun k => if guarded k then d.obj k else 0

/-- A guarded object with a value. -/
def Spine.put (s : Spine) (k v : Nat) : Spine := { s with obj := fun j => if j = k then v else s.obj j }

theorem Dev.spine_obj (d : Dev) {k : Nat} (h : guarded k = true) : d.spine.obj k = d.obj k := if_pos h

theorem obj_of_spine {d e : Dev} (h : e.spine = d.spine) {k : Nat} (hk : guarded k = true) : e.obj k = d.obj k := by
  rw [← e.spine_obj hk, h, d.spine_obj hk]

theorem Dev.latched_setObj (d : Dev) (k v src : Nat) (h : k ≠ Obj.EVENT_LATCH (src / 32)) : (d.setObj k v).latched src = d.latched src := by
  rw [Dev.latched, Dev.obj_setObj_ne _ _ _ _ h, ← Dev.latched]

@[simp] theorem spine_setObj (d : Dev) (k v : Nat) (h : Loose k) : (d.setObj k v).spine = d.spine := by
  have hlatch : (d.setObj k v).latched 7 = d.latched 7 := d.latched_setObj k v 7 (by grind [Loose])
  have hobj : (fun j => if guarded j then (d.setObj k v).obj j else 0) = fun j => if guarded j then d.obj j else 0 := by
    funext j
    by_cases hj : guarded j = true
    · have hne : k ≠ j := by
        rintro rfl
        rw [h.not_guarded] at hj
        cases hj
      rw [Dev.obj_setObj_ne _ _ _ _ hne]
    · rw [if_neg hj, if_neg hj]
  unfold Dev.spine
  rw [hobj, hlatch]
  rfl

theorem spine_setObj_guarded (d : Dev) (k v : Nat) (h : guarded k = true) : (d.setObj k v).spine = d.spine.put k v := by
  have hlatch : (d.setObj k v).latched 7 = d.latched 7 := d.latched_setObj k v 7 (by rintro rfl; revert h; decide)
  have hobj : (fun j => if guarded j then (d.setObj k v).obj j else 0) = fun j => if j = k then v else d.spine.obj j := by
    funext j
    simp only [Dev.spine, Dev.obj_setObj]
    by_cases hj : j = k
    · subst hj
      simp [h]
    · simp [hj, Ne.symm hj]
  unfold Dev.spine at *
  rw [hobj, hlatch]
  rfl

variable (d : Dev)

@[simp] theorem spine_setObjI (w k : Nat) (v : Int) (h : Loose k) : (d.setObjI w k v).spine = d.spine := spine_setObj d k _ h
@[simp] theorem spine_setObjB (k : Nat) (b : Bool) (h : Loose k) : (d.setObjB k b).spine = d.spine := spine_setObj d k _ h
@[simp] theorem spine_setObjBit (k n : Nat) (b : Bool) (h : Loose k) : (d.setObjBit k n b).spine = d.spine := spine_setObj d k _ h
@[simp] theorem spine_bumpBy (w k n : Nat) (h : Loose k) : (d.bumpBy w k n).spine = d.spine := spine_setObj d k _ h
@[simp] theorem spine_bump (k : Nat) (h : Loose k) : (d.bump k).spine = d.spine := spine_setObj d k _ h

@[simp] theorem spine_ite (p : Prop) [Decidable p] (a b : Dev) : (if p then a else b).spine = if p then a.spine else b.spine :=
  apply_ite Dev.spine p a b

end Sys2Proof.Machine
end

section
/-! SUPPORT. Reports beside the spine: no event but 0x07 itself sets its latch, and nothing else of the spine is a report's to change. -/

set_option Elab.async false

namespace Sys2Proof.Machine

variable (d : Dev)

/-! ## The latch of event 0x07 (R96) -/

theorem latch_occur (src : Nat) (h : src ≠ 7) : (d.occur src).latched 7 = d.latched 7 := by
  have hset : (d.setObjBit (Obj.EVENT_LATCH (src / 32)) (src % 32) true).latched 7 = d.latched 7 := by
    rw [latched_set]
    simp [Ne.symm h]
  refine Eq.trans ?_ hset
  exact Dev.latched_setObj _ (Obj.OCCURRENCES src) _ 7 (by grind)

theorem latch_enqueueRecord (r : EventRecord) : (d.enqueueRecord r).latched 7 = d.latched 7 := by
  unfold Dev.enqueueRecord
  split <;> rfl

theorem latch_placeOverflow : d.placeOverflow.latched 7 = d.latched 7 := by
  unfold Dev.placeOverflow
  split
  · rfl
  · exact (latch_enqueueRecord _ _).trans (latch_occur d 5 (by decide))

theorem latch_hostRecord (r : EventRecord) : (d.hostRecord r).latched 7 = d.latched 7 := by
  unfold Dev.hostRecord
  dsimp only
  refine Eq.trans ?_ (latch_placeOverflow d)
  split
  · exact Dev.latched_setObj _ _ _ 7 (by decide)
  · exact latch_enqueueRecord _ _

theorem latch_ethQueue (p : Nat) (q : EthQueued) : (d.ethQueue p q).latched 7 = d.latched 7 := by
  unfold Dev.ethQueue
  dsimp only
  split <;> rfl

theorem latch_poolSet (c n : Nat) : (d.poolSet c n).latched 7 = d.latched 7 := by
  unfold Dev.poolSet Dev.showShared
  dsimp only
  rw [Dev.latched_setObj _ _ _ 7 (by grind), Dev.latched_setObj _ _ _ 7 (by decide), Dev.latched_setObj _ _ _ 7 (by grind)]

theorem latch_sendUdp (p a b c : Nat) (l : List Byte) : (d.sendUdp p a b c l).latched 7 = d.latched 7 := by
  unfold Dev.sendUdp Dev.poolTake
  split
  · rfl
  · by_cases hfits : d.poolFits 3 (buffersOf (l.length + 42)) = true
    · rw [if_pos hfits]
      exact (latch_ethQueue _ _ _).trans (latch_poolSet d 3 _)
    · rw [if_neg hfits]
      exact Dev.latched_setObj _ _ _ 7 (by decide)

theorem latch_sendSession (s kind : Nat) (body : List Byte) : (d.sendSession s kind body).latched 7 = d.latched 7 := by
  unfold Dev.sendSession
  split
  · rfl
  · exact latch_sendUdp _ _ _ _ _ _

theorem latch_raise (src data : Nat) (h : src ≠ 7) : (d.raise src data).latched 7 = d.latched 7 := by
  unfold Dev.raise
  dsimp only
  refine Eq.trans ?_ (latch_occur d src h)
  split
  · refine (foldl_keeps (fun e : Dev => e.latched 7) _ _ (fun s e => latch_sendSession e s 3 _) _).trans ?_
    split
    · exact latch_hostRecord _ _
    · rfl
  · rfl

theorem latch_settle : d.settle.latched 7 = d.latched 7 := by
  unfold Dev.settle
  dsimp only
  refine (foldl_keeps (fun e : Dev => e.latched 7) _ _ (fun _ e => latch_occur e 0x3D (by decide)) _).trans ?_
  exact foldl_keeps (fun e : Dev => e.latched 7) _ _ (fun c e => latch_raise e 0x3D c (by decide)) _

/-! ## Reports -/

theorem eventKey_of_guarded {k : Nat} (h : guarded k = true) : eventKey k = false := by
  simp only [guarded, eventKey, List.contains_cons, List.contains_nil] at *
  grind

variable {d} in
/-- Reports leave the spine but for the latch of event 0x07. -/
theorem Reported.spine_latch {e : Dev} (h : Reported d e) : e.spine = { d.spine with latch := e.latched 7 } := by
  have hsessions : e.acc.sessions.map Session.isOpen = d.acc.sessions.map Session.isOpen := by
    have hopen := congrArg (List.map Session.isOpen) h.sessions
    rwa [List.map_map, List.map_map] at hopen
  have hobj : (fun k => if guarded k then e.obj k else 0) = fun k => if guarded k then d.obj k else 0 := by
    funext k
    by_cases hk : guarded k = true
    · rw [if_pos hk, if_pos hk, h.obj k (eventKey_of_guarded hk)]
    · rw [if_neg hk, if_neg hk]
  unfold Dev.spine
  rw [hobj, hsessions, h.now, h.cyc, h.ctl, h.tally, h.flash, h.health, h.fl, h.tb, h.isl]

variable {d} in
theorem Reported.spine {e : Dev} (h : Reported d e) (hlatch : e.latched 7 = d.latched 7) : e.spine = d.spine := by
  rw [h.spine_latch, hlatch]
  rfl

@[simp] theorem spine_raise (src data : Nat) (hs : src < 256) (h : src ≠ 7) : (d.raise src data).spine = d.spine :=
  (reported_raise d src data hs).spine (latch_raise d src data h)

@[simp] theorem spine_settle : d.settle.spine = d.spine := (reported_settle d).spine (latch_settle d)

@[simp] theorem spine_emit (e : Emit) : (d.emit e).spine = d.spine := (reported_emit d e).spine (by rfl)

@[simp] theorem spine_ethQueue (p : Nat) (q : EthQueued) : (d.ethQueue p q).spine = d.spine :=
  (reported_ethQueue d p q).spine (latch_ethQueue d p q)

/-- Event 0x07 sets its latch and leaves the rest of the spine. -/
theorem spine_raise_hold (data : Nat) : (d.raise 7 data).spine = { d.spine with latch := true } := by
  rw [(reported_raise d 7 data (by decide)).spine_latch, latched_raise d 7 data (by decide)]

/-! ## Updates of one part -/

@[simp] theorem spine_updRing (r : Nat) (f : Ring → Ring) : (d.updRing r f).spine = d.spine := by rfl
@[simp] theorem spine_updAxis (c : Nat) (g : Axis → Axis) : (d.updAxis c g).spine = d.spine := by rfl
@[simp] theorem spine_updLeg (n : Nat) (f : LegPort → LegPort) : (d.updLeg n f).spine = d.spine := by rfl
@[simp] theorem spine_updWear (f l : Nat) (g : Lane → Lane) : (d.updWear f l g).spine = d.spine := by rfl
@[simp] theorem spine_updUnit (u : Nat) (f : TrigUnit → TrigUnit) : (d.updUnit u f).spine = d.spine := by rfl
@[simp] theorem spine_updRec (r : Nat) (f : Recorder → Recorder) : (d.updRec r f).spine = d.spine := by rfl
@[simp] theorem spine_updPair14 (f : Pair → Pair) : (d.updPair14 f).spine = d.spine := by rfl
@[simp] theorem spine_updGroup (g : Nat) (f : SafeGroup → SafeGroup) : (d.updGroup g f).spine = d.spine := by rfl
@[simp] theorem spine_updOut (o : Nat) (f : SafeOut → SafeOut) : (d.updOut o f).spine = d.spine := by rfl
@[simp] theorem spine_updMonitor (a : Nat) (f : Monitor → Monitor) : (d.updMonitor a f).spine = d.spine := by rfl
@[simp] theorem spine_updConn (n : Nat) (f : Conn → Conn) : (d.updConn n f).spine = d.spine := by rfl
@[simp] theorem spine_updT (f : Pll → Pll) : (d.updT f).spine = d.spine := by rfl
@[simp] theorem spine_updS (f : Pll → Pll) : (d.updS f).spine = d.spine := by rfl
@[simp] theorem spine_setBlob (k : Nat) (v : List Byte) : (d.setBlob k v).spine = d.spine := by rfl

theorem spine_reqCause (cause fold : Nat) : (d.reqCause cause fold).spine = d.spine := by
  unfold Dev.reqCause
  split <;> rfl

/-! ## The buffer pool -/

@[simp] theorem spine_poolSet (c n : Nat) : (d.poolSet c n).spine = d.spine := by
  unfold Dev.poolSet Dev.showShared
  simp (disch := grind [Loose])

end Sys2Proof.Machine
end

section
/-! SUPPORT. The island, the pins and the pair beside the spine (R36, R39, R357, R424, R433, R508). -/

set_option Elab.async false

namespace Sys2Proof.Machine

variable (d : Dev)

@[simp] theorem spine_poolFree (c n : Nat) : (d.poolFree c n).spine = d.spine := spine_poolSet d c _

@[simp] theorem spine_poolDrop (c : Nat) : (d.poolDrop c).spine = d.spine :=
  show (d.bump (Obj.POOL_DROPPED c)).spine = d.spine from spine_bump d _ (by grind [Loose])

@[simp] theorem spine_rejectState (reason : Nat) : (d.rejectState reason).spine = d.spine := by
  unfold Dev.rejectState
  simp (disch := grind [Loose])

@[simp] theorem spine_sealEvent (entry result r : Nat) : (d.sealEvent entry result r).spine = d.spine := by
  simp [Dev.sealEvent]

@[simp] theorem spine_abandonSeals : d.abandonSeals.spine = d.spine := by
  unfold Dev.abandonSeals
  exact foldl_keeps Dev.spine _ _ (fun s d => by simp) _

/-! ## Leg ports -/

@[simp] theorem spine_legsSilent : d.legsSilent.spine = d.spine := by
  unfold Dev.legsSilent
  refine forN_keeps Dev.spine 20 _ (fun n hn d => ?_) d
  simp (disch := grind [Loose])

@[simp] theorem spine_legsRest : d.legsRest.spine = d.spine := by
  unfold Dev.legsRest
  refine forN_keeps Dev.spine 20 _ (fun n hn d => ?_) d
  simp (disch := grind [Loose])

/-! ## Groups and outputs of the island -/

@[simp] theorem spine_showGroup (g st : Nat) (h : g < 32) : (d.showGroup g st).spine = d.spine := by
  unfold Dev.showGroup
  simp (disch := grind [Loose])

@[simp] theorem spine_rampStart (g : Nat) : (d.rampStart g).spine = d.spine := by
  unfold Dev.rampStart
  exact (foldl_keeps Dev.spine _ _ (fun a d => by simp) _).trans (by simp)

@[simp] theorem spine_setGroup (g st : Nat) (h : g < 32) : (d.setGroup g st).spine = d.spine := by
  have hisl : ∀ (d : Dev) (f : Island → Nat), (d.updIsl (fun i => { i with stoNew := f i })).spine = d.spine := fun d f => by rfl
  have hramp : ∀ (d : Dev) (f : Island → Nat), (d.updIsl (fun i => { i with rampNew := f i })).spine = d.spine := fun d f => by rfl
  unfold Dev.setGroup
  simp [h, hisl, hramp]

@[simp] theorem spine_driveOut (o : Nat) (on : Bool) : (d.driveOut o on).spine = d.spine := by
  unfold Dev.driveOut
  simp

@[simp] theorem spine_driveOuts : d.driveOuts.spine = d.spine := by
  unfold Dev.driveOuts
  exact forN_keeps Dev.spine 8 _ (fun o _ d => by simp) d

@[simp] theorem spine_sendHalt (groups : Nat) : (d.sendHalt groups).spine = d.spine := by
  unfold Dev.sendHalt
  dsimp only
  split
  · rfl
  · rw [spine_raise _ _ _ (by decide) (by decide)]
    refine (foldl_keeps Dev.spine _ _ (fun r d => ?_) _).trans (by rfl)
    rw [spine_bump _ _ (by grind [Loose])]
    exact foldl_keeps Dev.spine _ _ (fun p d => by simp) d

@[simp] theorem spine_stoAll : d.stoAll.spine = d.spine := by
  have hgroups : (forN 32 (fun g d => d.setGroup g 4) d).spine = d.spine :=
    forN_keeps Dev.spine 32 _ (fun g hg d => spine_setGroup d g 4 hg) d
  unfold Dev.stoAll
  simp [hgroups]

/-! ## The grid-former and leaving RUN -/

@[simp] theorem spine_gfLegsOff : d.gfLegsOff.spine = d.spine := by rfl

@[simp] theorem spine_setGf (st : Nat) : (d.setGf st).spine = d.spine := by
  unfold Dev.setGf
  simp (disch := grind [Loose])

@[simp] theorem spine_dropPermit : d.dropPermit.spine = d.spine := by
  unfold Dev.dropPermit
  split
  · rw [spine_raise _ _ _ (by decide) (by decide)]
    rfl
  · rfl

@[simp] theorem spine_gfOffNow : d.gfOffNow.spine = d.spine := by
  unfold Dev.gfOffNow
  rw [spine_setGf, spine_dropPermit]
  rfl

@[simp] theorem spine_gfTrip (cause : Nat) : (d.gfTrip cause).spine = d.spine := by
  unfold Dev.gfTrip
  simp (disch := grind [Loose])

@[simp] theorem spine_leaveRun : d.leaveRun.spine = d.spine := by
  unfold Dev.leaveRun
  simp

@[simp] theorem spine_eventPin : d.eventPin.spine = d.spine := by
  unfold Dev.eventPin
  simp

/-! ## Connections -/

@[simp] theorem spine_countValid : d.countValid.spine = d.spine := by
  unfold Dev.countValid
  simp (disch := grind [Loose])

@[simp] theorem spine_showConn (n st reason : Nat) : (d.showConn n st reason).spine = d.spine := by
  unfold Dev.showConn
  simp (disch := grind [Loose])

@[simp] theorem spine_connsSilent : d.connsSilent.spine = d.spine := by
  unfold Dev.connsSilent
  rw [spine_countValid]
  exact foldl_keeps Dev.spine _ _ (fun n d => by simp) d

/-! ## Pins and ports -/

@[simp] theorem spine_showArb (hb : Bool) : (d.showArb hb).spine = d.spine := by
  unfold Dev.showArb
  simp (disch := grind [Loose])

@[simp] theorem spine_refreshArb : d.refreshArb.spine = d.spine := spine_showArb d _

@[simp] theorem spine_pulseRest : d.pulseRest.spine = d.spine := by rfl

@[simp] theorem spine_ethFlush (p : Nat) : (d.ethFlush p).spine = d.spine := by
  unfold Dev.ethFlush
  extract_lets e freed rest
  have hfreed : freed.spine = d.spine := foldl_keeps Dev.spine e.queue _ (fun q d => by simp) d
  have hrest : rest.spine = freed.spine := by
    unfold rest
    cases e.sending with
    | none => rfl
    | some x => exact spine_poolFree _ x.1 x.2
  exact (show _ = rest.spine by rfl).trans (hrest.trans hfreed)

end Sys2Proof.Machine
end

section
/-! SUPPORT. The spine through the entry into SAFE-HOLD (R36 to R39, R214, R544). -/

set_option Elab.async false

namespace Sys2Proof.Machine

theorem Spine.put_self (s : Spine) (k : Nat) : s.put k (s.obj k) = s := by
  have hobj : (fun j => if j = k then s.obj k else s.obj j) = s.obj := by
    funext j
    split
    · next h => rw [h]
    · rfl
  rw [Spine.put, hobj]

/-- The bypass of ring r closed. -/
def Spine.closeBypass (s : Spine) (r : Nat) : Spine := s.put Obj.BYPASS_STATE (setBit (s.obj Obj.BYPASS_STATE) r true)

/-- Every bypass closed. -/
def Spine.closeBypasses (s : Spine) : Spine := (s.closeBypass 0).closeBypass 1

/-- The tick's source as it is to be. -/
def Spine.tick (s : Spine) (own : Bool) : Spine :=
  if (s.obj Obj.SAFETY_TICK_SOURCE != 0) = own then s else s.put Obj.SAFETY_TICK_SOURCE (b2n own)

/-- Every session closed. -/
def closedAll (l : List Bool) : List Bool := forN 8 (fun s l => upd (fun _ => false) l s) l

/-- The entry into SAFE-HOLD. -/
def Spine.enterHold (s : Spine) : Spine :=
  { (({ s.closeBypasses with queue := [], timed := [], clock := false } : Spine).tick true).put Obj.DEVICE_STATE stSafeHold with
    sessions := closedAll s.sessions }

/-- The STO step. -/
def Spine.stoStep (s : Spine) : Spine :=
  if !s.ctl.holding || s.ctl.stoDone then s else { s with ctl := { s.ctl with stoDone := true } }

variable (d : Dev)

/-! ## The parts of the entry -/

theorem spine_closeBypass (r : Nat) (h : r < 2) : (d.closeBypass r).spine = d.spine.closeBypass r := by
  have hkey : guarded Obj.BYPASS_STATE = true := by decide
  unfold Dev.closeBypass Spine.closeBypass
  rw [d.spine_obj hkey]
  dsimp only
  split
  · next hopen =>
    have hset : setBit (d.obj Obj.BYPASS_STATE) r true = d.obj Obj.BYPASS_STATE := by
      simp only [Dev.ringOpen, Bool.not_not] at hopen
      simp [setBit, hopen]
    rw [hset, ← d.spine_obj hkey, Spine.put_self, spine_updRing]
  · rw [spine_raise _ _ _ (by decide) (by decide), spine_emit, spine_updRing, spine_setObjBit _ _ _ _ (by grind [Loose])]
    exact spine_setObj_guarded d _ _ hkey

theorem spine_closeBypasses : d.closeBypasses.spine = d.spine.closeBypasses := by
  unfold Dev.closeBypasses Spine.closeBypasses
  rw [spine_closeBypass _ 1 (by decide), spine_closeBypass _ 0 (by decide)]

theorem spine_goState (st : Nat) : (d.goState st).spine = d.spine.put Obj.DEVICE_STATE st := by
  have hkey : guarded Obj.DEVICE_STATE = true := by decide
  unfold Dev.goState
  split
  · next h =>
    subst h
    exact (by rw [← d.spine_obj hkey, Spine.put_self] : d.spine = d.spine.put Obj.DEVICE_STATE (d.obj Obj.DEVICE_STATE))
  · rw [spine_raise _ _ _ (by decide) (by decide), spine_setObj_guarded _ _ _ hkey, spine_eventPin, spine_leaveRun]

theorem spine_tickSource (own : Bool) : (d.tickSource own).spine = d.spine.tick own := by
  have hkey : guarded Obj.SAFETY_TICK_SOURCE = true := by decide
  unfold Dev.tickSource Spine.tick Dev.ownTick
  rw [d.spine_obj hkey]
  split
  · rfl
  · rw [spine_raise _ _ _ (by decide) (by decide)]
    exact spine_setObj_guarded _ _ _ hkey

theorem map_upd {α β : Type} (π : α → β) (f : α → α) (g : β → β) (h : ∀ a, π (f a) = g (π a)) (l : List α) (i : Nat) :
    (upd f l i).map π = upd g (l.map π) i := by
  induction l generalizing i with
  | nil => rfl
  | cons a t ih => cases i with
    | zero => exact congrArg (· :: t.map π) (h a)
    | succ i => exact congrArg (π a :: ·) (ih i)

theorem spine_closeSession (s : Nat) :
    (d.updSession s (fun x => { x with isOpen := false })).spine = { d.spine with sessions := upd (fun _ => false) d.spine.sessions s } := by
  have hmap := map_upd Session.isOpen (fun x : Session => { x with isOpen := false }) (fun _ => false) (fun _ => rfl) d.acc.sessions s
  exact congrArg (fun l => ({ d.spine with sessions := l } : Spine)) hmap

theorem spine_dropSessions : d.dropSessions.spine = { d.spine with sessions := closedAll d.spine.sessions } := by
  have hloop : ∀ n ≤ 8, (forN n (fun s d => (d.setObj (Obj.SESSION_STATE s) 0).updSession s (fun x => { x with isOpen := false })) d).spine
      = { d.spine with sessions := forN n (fun s l => upd (fun _ => false) l s) d.spine.sessions } := by
    intro n hn
    induction n with
    | zero => rfl
    | succ n ih =>
      refine (spine_closeSession _ n).trans ?_
      rw [spine_setObj _ _ _ (by grind [Loose]), ih (by omega)]
      rfl
  exact (show _ = _ by rfl : d.dropSessions.spine = _).trans (hloop 8 (le_refl 8))

theorem spine_enterHold : d.enterHold.spine = d.spine.enterHold := by
  unfold Dev.enterHold
  extract_lets asked silent off closed rejected tally clock emptied held dropped
  have hclosed : closed.spine = d.spine.closeBypasses := by
    unfold closed
    rw [spine_closeBypasses]
    refine congrArg Spine.closeBypasses ((forN_keeps Dev.spine 2 _ (fun r _ d => spine_updRing d r _) _).trans ?_)
    unfold silent
    rw [spine_legsSilent, spine_abandonSeals]
  have hrejected : rejected.spine = d.spine.closeBypasses := by
    unfold rejected
    rw [spine_ite, spine_rejectState, hclosed, ite_self]
  have hemptied : emptied.spine = { d.spine.closeBypasses with queue := [], timed := [], clock := false } := by
    rw [← hrejected]
    rfl
  rw [spine_ethFlush, spine_ethFlush, spine_pulseRest]
  unfold dropped held
  rw [spine_dropSessions, spine_connsSilent, spine_showArb, spine_stoAll, spine_goState, spine_tickSource, hemptied]
  have hsessions : ((({ d.spine.closeBypasses with queue := [], timed := [], clock := false } : Spine).tick true).put Obj.DEVICE_STATE
      stSafeHold).sessions = d.spine.sessions := by
    unfold Spine.tick
    split <;> rfl
  rw [hsessions]
  rfl

theorem spine_stoStep : d.stoStep.spine = d.spine.stoStep := by
  unfold Dev.stoStep Spine.stoStep
  by_cases h : (!d.ctl.holding || d.ctl.stoDone) = true
  · rw [if_pos h]
    exact (if_pos h).symm
  · rw [if_neg h, spine_gfTrip, spine_stoAll]
    exact (if_neg h).symm

end Sys2Proof.Machine
end

section
/-! SUPPORT. The spine through the decision of a SAFE-HOLD cause (R36 to R39, R339 to R341, R544). -/

set_option Elab.async false

namespace Sys2Proof.Machine

variable (d : Dev)

/-! ## The record engine stops (R544) -/

@[simp] theorem spine_recFlag (r n : Nat) : (d.recFlag r n).spine = d.spine := by
  unfold Dev.recFlag
  simp (disch := grind [Loose])

@[simp] theorem spine_closeGap (r : Nat) : (d.closeGap r).spine = d.spine := by
  unfold Dev.closeGap
  split
  · rfl
  · simp

@[simp] theorem spine_startSeal : d.startSeal.spine = d.spine := by
  unfold Dev.startSeal
  split
  · rfl
  · split <;> rfl

@[simp] theorem spine_requestSeal (r : Nat) : (d.requestSeal r).spine = d.spine := by
  unfold Dev.requestSeal
  exact spine_startSeal _

@[simp] theorem spine_complete (r : Nat) (aborted : Bool) : (d.complete r aborted).spine = d.spine := by
  unfold Dev.complete
  simp (disch := grind [Loose])

@[simp] theorem spine_abortRec (r : Nat) : (d.abortRec r).spine = d.spine := by
  unfold Dev.abortRec
  simp (disch := grind [Loose])

@[simp] theorem spine_acqStop : d.acqStop.spine = d.spine := by
  unfold Dev.acqStop
  exact forN_keeps Dev.spine 4 _ (fun r hr d => by simp) d

/-! ## Generators and the failed fold -/

@[simp] theorem spine_putGen (n : Nat) (g : Gen) : (d.putGen n g).spine = d.spine := by
  unfold Dev.putGen
  dsimp only
  rw [spine_setObj _ _ _ (by grind [Loose]), spine_setObj _ _ _ (by grind [Loose])]
  rfl

@[simp] theorem spine_genStop (n : Nat) : (d.genStop n).spine = d.spine := by
  unfold Dev.genStop
  dsimp only
  split <;> simp (disch := grind [Loose])

@[simp] theorem spine_controlledStop (n : Nat) : (d.controlledStop n).spine = d.spine := by
  unfold Dev.controlledStop
  simp

/-- The fold noted as failed is all the spine shows of a failed fold. -/
theorem spine_failFold (f : Nat) : (d.failFold f).spine = { d.spine with ctl := { d.spine.ctl with failedFold := some f } } := by
  unfold Dev.failFold
  extract_lets l ctl noted stopped before held
  have hstopped : stopped.spine = { d.spine with ctl := { d.spine.ctl with failedFold := some f } } :=
    (foldl_keeps Dev.spine l _ (fun n d => by simp (disch := grind [Loose])) _).trans (by rfl)
  have hheld : held.spine = stopped.spine :=
    forN_keeps Dev.spine 32 _ (fun g hg d => by simp [hg]) stopped
  rw [← hstopped]
  simp [hheld]

/-! ## The decision -/

/-- A cause decided in the boot sequence. -/
def Spine.holdInBoot (s : Spine) (cause : Nat) : Spine :=
  (({ (({ s with ctl := { s.ctl with holding := true, decidedAt := s.now } } : Spine).put Obj.SAFE_HOLD_CAUSE cause) with
    latch := true } : Spine).stoStep).enterHold

/-- A cause decided in a cycling state, before its STO step. -/
def Spine.decide (s : Spine) (handed : Bool) (cause : Nat) : Spine :=
  { (({ s with ctl := { s.ctl with holding := true, decidedAt := s.now, trans := .none, handed := handed, stoDone := false } } : Spine).put
      Obj.SAFE_HOLD_CAUSE cause) with latch := true }

/-- The fold noted as failed where the cause is a fold fault. -/
def Spine.failFold (s : Spine) (cause fold : Nat) : Spine :=
  if cause = 2 then { s with ctl := { s.ctl with failedFold := some fold } } else s

/-- Booting: BOOT past the dictionary's own steps, where a cause enters SAFE-HOLD at once (R30, R39). -/
def Dev.booting (d : Dev) : Bool := d.state == stBoot && (d.ctl.boot == .lock || d.ctl.boot == .loaded)

theorem spine_causeReq (x : Option (Nat × Nat)) : ({ d with ctl := { d.ctl with causeReq := x } } : Dev).spine = d.spine := by rfl

theorem spine_holdInBoot (cause : Nat) : (d.holdInBoot cause).spine = d.spine.holdInBoot cause := by
  unfold Dev.holdInBoot Spine.holdInBoot
  dsimp only
  rw [spine_enterHold, spine_stoStep, spine_raise_hold, spine_setObj_guarded _ _ _ (by decide)]
  rfl

/-- The steps of R39 that follow a decision, as the spine has them. -/
def Spine.holdNow (s : Spine) (handed : Bool) (cause fold : Nat) : Spine :=
  let s := s.decide handed cause
  if handed then s else
  let s := s.failFold cause fold
  if cause = 1 ∨ cause = 2 then s else s.stoStep

/-- The decision of a cause, with the standby as it stands. -/
def Dev.decideHold (d : Dev) (cause fold : Nat) : Dev :=
  let handed := d.standbyHealthy
  let d := if d.ctl.trans = .none then d else d.rejectState 3
  let d := { d with ctl := { d.ctl with holding := true, decidedAt := d.now, trans := .none, handed := handed, stoDone := false } }
  let d := ((d.setObj Obj.SAFE_HOLD_CAUSE cause).raise 0x07 cause).acqStop
  if handed then d
  else
    let d := if cause = 2 then d.failFold fold else d
    if cause = 1 ∨ cause = 2 then forN 128 (fun n d => d.controlledStop n) d else d.stoStep

/-- What becomes of a cause found. -/
theorem holdDecide_some {cause fold : Nat} (h : d.ctl.causeReq = some (cause, fold)) :
    d.holdDecide =
      let d' : Dev := { d with ctl := { d.ctl with causeReq := none } }
      if d.booting then d'.holdInBoot cause else if !d.cycling || d.ctl.holding then d' else d'.decideHold cause fold := by
  unfold Dev.holdDecide
  rw [h]
  rfl

theorem spine_decideHold (cause fold : Nat) : (d.decideHold cause fold).spine = d.spine.holdNow d.standbyHealthy cause fold := by
  unfold Dev.decideHold Spine.holdNow
  extract_lets handed rejected ctl decided reported failed sdecided sfailed
  have hrejected : rejected.spine = d.spine := by
    unfold rejected
    rw [spine_ite, spine_rejectState, ite_self]
  have hreported : reported.spine = sdecided := by
    unfold reported
    rw [spine_acqStop, spine_raise_hold, spine_setObj_guarded _ _ _ (by decide)]
    unfold sdecided
    rw [← hrejected]
    rfl
  have hfailed : failed.spine = sfailed := by
    unfold failed sfailed Spine.failFold
    rw [spine_ite, spine_failFold, hreported]
  have hstopped : (forN 128 (fun n d => d.controlledStop n) failed).spine = sfailed :=
    (forN_keeps Dev.spine 128 _ (fun n _ d => spine_controlledStop d n) _).trans hfailed
  rw [spine_ite, spine_ite, hreported, hstopped, spine_stoStep, hfailed]

/-- The same cycle, with the same tag in every results set. -/
def Spine.SameCycle (s t : Spine) : Prop := t.cyc = s.cyc ∧ ∀ c, t.obj (Obj.CYCLE_TAG c) = s.obj (Obj.CYCLE_TAG c)

theorem guarded_CYCLE_TAG (c : Nat) : guarded (Obj.CYCLE_TAG c) = true := by
  simp only [guarded, Bool.or_eq_true, Bool.and_eq_true, decide_eq_true_eq, beq_iff_eq]
  grind

variable {d} in
theorem Spine.SameCycle.dev {e : Dev} (h : d.spine.SameCycle e.spine) :
    e.cyc = d.cyc ∧ ∀ c, e.obj (Obj.CYCLE_TAG c) = d.obj (Obj.CYCLE_TAG c) := by
  obtain ⟨hcyc, hobj⟩ := h
  refine ⟨hcyc, fun c => ?_⟩
  rw [← e.spine_obj (guarded_CYCLE_TAG c), hobj, d.spine_obj (guarded_CYCLE_TAG c)]

theorem Spine.put_sameCycle (s : Spine) (k v : Nat) (h : k < 0xA00000) : s.SameCycle (s.put k v) :=
  ⟨rfl, fun c => if_neg (by grind)⟩

theorem Spine.SameCycle.trans {s t u : Spine} (h : s.SameCycle t) (h' : t.SameCycle u) : s.SameCycle u :=
  ⟨h'.1.trans h.1, fun c => (h'.2 c).trans (h.2 c)⟩

theorem Spine.closeBypasses_sameCycle (s : Spine) : s.SameCycle s.closeBypasses :=
  (s.put_sameCycle _ _ (by decide)).trans (Spine.put_sameCycle _ _ _ (by decide))

theorem Spine.tick_sameCycle (s : Spine) (own : Bool) : s.SameCycle (s.tick own) := by
  unfold Spine.tick
  split
  · exact ⟨rfl, fun _ => rfl⟩
  · exact s.put_sameCycle _ _ (by decide)

theorem Spine.enterHold_sameCycle (s : Spine) : s.SameCycle s.enterHold := by
  obtain ⟨hcyc, hobj⟩ := s.closeBypasses_sameCycle.trans ((Spine.tick_sameCycle { s.closeBypasses with queue := [], timed := [], clock := false }
    true).trans (Spine.put_sameCycle (Spine.tick _ true) Obj.DEVICE_STATE stSafeHold (by decide)))
  exact ⟨hcyc, hobj⟩

theorem Spine.stoStep_sameCycle (s : Spine) : s.SameCycle s.stoStep := by
  unfold Spine.stoStep
  split <;> exact ⟨rfl, fun _ => rfl⟩

theorem Spine.decide_sameCycle (s : Spine) (handed : Bool) (cause : Nat) : s.SameCycle (s.decide handed cause) := by
  obtain ⟨hcyc, hobj⟩ := s.put_sameCycle Obj.SAFE_HOLD_CAUSE cause (by decide)
  exact ⟨hcyc, hobj⟩

theorem Spine.holdInBoot_sameCycle (s : Spine) (cause : Nat) : s.SameCycle (s.holdInBoot cause) := by
  unfold Spine.holdInBoot
  refine Spine.SameCycle.trans ?_ ((Spine.stoStep_sameCycle _).trans (Spine.enterHold_sameCycle _))
  obtain ⟨hcyc, hobj⟩ := s.put_sameCycle Obj.SAFE_HOLD_CAUSE cause (by decide)
  exact ⟨hcyc, hobj⟩

theorem Spine.failFold_sameCycle (s : Spine) (cause fold : Nat) : s.SameCycle (s.failFold cause fold) := by
  unfold Spine.failFold
  split <;> exact ⟨rfl, fun _ => rfl⟩

theorem Spine.holdNow_sameCycle (s : Spine) (handed : Bool) (cause fold : Nat) : s.SameCycle (s.holdNow handed cause fold) := by
  have hfailed := (s.decide_sameCycle handed cause).trans (Spine.failFold_sameCycle _ cause fold)
  unfold Spine.holdNow
  dsimp only
  split
  · exact s.decide_sameCycle handed cause
  · split
    · exact hfailed
    · exact hfailed.trans (Spine.stoStep_sameCycle _)

/-- A decision keeps the cycle, and its tag in every results set. -/
theorem holdDecide_sameCycle : d.spine.SameCycle d.holdDecide.spine := by
  cases h : d.ctl.causeReq with
  | none =>
    rw [holdDecide_none d h]
    exact ⟨rfl, fun _ => rfl⟩
  | some x =>
    rw [holdDecide_some d h]
    dsimp only
    split
    · rw [spine_holdInBoot]
      exact Spine.holdInBoot_sameCycle _ _
    · split
      · exact ⟨rfl, fun _ => rfl⟩
      · rw [spine_decideHold]
        exact Spine.holdNow_sameCycle _ _ _ _

end Sys2Proof.Machine
end

section
/-! SUPPORT. The entry into BOOT and the supplies (R33, R34, R433, R585, R588). -/

set_option Elab.async false

namespace Sys2Proof.Machine

variable (d : Dev)

/-! ## The parts of the way to BOOT -/

theorem tget_filter {α : Type} (dflt : Nat → α) (p : Nat → Bool) (m : List (Nat × α)) (k : Nat) :
    tget dflt (m.filter (fun e => p e.1)) k = if p k then tget dflt m k else dflt k := by
  induction m with
  | nil => simp [tget]
  | cons e t ih =>
    obtain ⟨j, v⟩ := e
    rw [List.filter_cons]
    by_cases hp : p j = true
    · simp only [hp, if_true, tget, ih]
      split_ifs with h <;> simp_all
    · rw [if_neg (by simpa using hp), ih, tget]
      split_ifs with h <;> simp_all

/-- The health area is all that an interrupted fuse command changes, and a command that does not run changes nothing. -/
theorem fuseBreak_spine : d.fuseBreak.spine = { d.spine with health := d.fuseBreak.health } ∧ (d.fl.fusing = false → d.fuseBreak = d) := by
  have hfuse : ∀ (l : List (Nat × Bool × Nat)) (e : Dev), (e.fuseEntries l).spine = { e.spine with health := (e.fuseEntries l).health } :=
    fun l e => foldl_keeps (fun a : Dev => ({ a.spine with health := (e.fuseEntries l).health } : Spine)) l _ (fun f a => by
      generalize (if f.2.1 then 4 else 2) = spares
      by_cases h : a.fuseCount f.1 f.2.1 < spares
      · rw [if_pos h]
        rfl
      · rw [if_neg h]) e
  unfold Dev.fuseBreak
  refine ⟨?_, fun h => if_pos (by rw [h]; rfl)⟩
  split
  · rfl
  · exact hfuse _ _

theorem spine_releasePins : d.releasePins.spine = d.spine.closeBypasses.put Obj.DEVICE_STATE stBoot := by
  unfold Dev.releasePins
  dsimp only
  rw [spine_ite, spine_emit, ite_self, spine_connsSilent, spine_stoAll, spine_setObj_guarded _ _ _ (by decide), spine_closeBypasses]

theorem wiped_obj (k : Nat) (h : ofIsland k = false) : d.wiped.obj k = defaultOf k := by
  unfold Dev.wiped Dev.obj
  rw [tget_filter defaultOf ofIsland, h]
  rfl

/-- What BOOT leaves of the spine, and what it keeps of the spine before (R33, R34, R588). -/
structure Spine.Booted (s t : Spine) : Prop where
  state : t.obj Obj.DEVICE_STATE = stBoot
  bypass : t.obj Obj.BYPASS_STATE = 3
  queue : t.queue = []
  timed : t.timed = []
  sessions : t.sessions = List.replicate 8 false
  clock : t.clock = false
  held : t.ctl.boot = .held
  resetN : t.ctl.resetN = s.ctl.resetN
  flash : t.flash = s.flash
  health : s.fusing = false → t.health = s.health

theorem wiped_booted : d.spine.Booted d.wiped.spine where
  state := (d.wiped.spine_obj (by decide)).trans ((wiped_obj d _ (by decide)).trans (by decide))
  bypass := (d.wiped.spine_obj (by decide)).trans ((wiped_obj d _ (by decide)).trans (by decide))
  queue := rfl
  timed := rfl
  sessions := rfl
  clock := rfl
  held := rfl
  resetN := rfl
  flash := rfl
  health := fun _ => rfl

variable {d}

theorem Spine.Booted.put {s t : Spine} (h : s.Booted t) (k v : Nat) (hstate : k ≠ Obj.DEVICE_STATE) (hbypass : k ≠ Obj.BYPASS_STATE) :
    s.Booted (t.put k v) :=
  { h with state := (if_neg (Ne.symm hstate)).trans h.state, bypass := (if_neg (Ne.symm hbypass)).trans h.bypass }

theorem Spine.Booted.tick {s t : Spine} (h : s.Booted t) (own : Bool) : s.Booted (t.tick own) := by
  unfold Spine.tick
  split
  · exact h
  · exact h.put _ _ (by decide) (by decide)

variable (d)

/-- BOOT is entered with its cause. -/
theorem enterBoot_booted (cause : Nat) :
    d.spine.Booted (d.enterBoot cause).spine ∧ (d.enterBoot cause).spine.obj Obj.RESET_CAUSE = cause := by
  obtain ⟨hfuse, hidle⟩ := fuseBreak_spine d
  have hpins : d.fuseBreak.releasePins.spine.ctl = d.spine.ctl ∧ d.fuseBreak.releasePins.spine.flash = d.spine.flash ∧
      d.fuseBreak.releasePins.spine.health = d.fuseBreak.health := by
    rw [spine_releasePins, hfuse]
    exact ⟨rfl, rfl, rfl⟩
  obtain ⟨hctl, hflash, hhealth⟩ := hpins
  have hwiped := wiped_booted d.fuseBreak.releasePins
  have hbooted : d.spine.Booted d.fuseBreak.releasePins.wiped.spine :=
    { hwiped with
      resetN := hwiped.resetN.trans (by rw [hctl])
      flash := hwiped.flash.trans hflash
      health := fun h => (show _ = d.fuseBreak.releasePins.spine.health by rfl).trans (by rw [hhealth, hidle h]; rfl) }
  unfold Dev.enterBoot
  dsimp only
  rw [spine_refreshArb, spine_setObj_guarded _ _ _ (by decide), spine_setObj_guarded _ _ _ (by decide), spine_setObj _ _ _ (by grind [Loose])]
  exact ⟨(hbooted.put _ _ (by decide) (by decide)).put _ _ (by decide) (by decide), by simp [Spine.put]⟩

/-! ## The feeds of VSAFE -/

@[simp] theorem spine_showIsland : d.showIsland.spine = d.spine := by
  unfold Dev.showIsland
  simp (disch := grind [Loose])

end Sys2Proof.Machine
end

section
/-! SUPPORT. The feeds of VSAFE, the rails, and what power and reset lead to (R433, R580 to R588). -/

set_option Elab.async false

namespace Sys2Proof.Machine

variable (d : Dev)

/-! ## The feeds of VSAFE -/

theorem spine_islandStop : d.islandStop.spine = ({ d.spine with island := false } : Spine).closeBypasses := by
  have houts : (forN 8 (fun o d => d.driveOut o false) d).spine = d.spine := forN_keeps Dev.spine 8 _ (fun o _ d => by simp) d
  have hstopped : ∀ e : Dev, (e.updIsl (fun i => { i with running := false, testing := false })).spine = { e.spine with island := false } :=
    fun e => by rfl
  unfold Dev.islandStop
  dsimp only
  rw [spine_closeBypasses, hstopped, houts]

/-- While a feed stays or comes back, the island goes on. -/
theorem spine_vsafe_fed {a b : Bool} (h : (a || b) = true) : (d.vsafe a b).spine = d.spine := by
  have hnone : (!a && !b) = false := by revert a b; decide
  unfold Dev.vsafe
  split
  · rfl
  · simp only [hnone, Bool.false_and, Bool.false_eq_true, if_false]
    rw [spine_showIsland, spine_raise _ _ _ (by decide) (by decide)]
    rfl

/-- Without either feed the island stops, where it ran. -/
theorem spine_vsafe_lost : (d.vsafe false false).spine = d.spine ∨
    (d.vsafe false false).spine = ({ d.spine with island := false } : Spine).closeBypasses := by
  have hnoted : ∀ data, ((d.updIsl (fun i => { i with feedA := false, feedB := false })).raise 0x87 data).spine = d.spine := fun data => by
    rw [spine_raise _ _ _ (by decide) (by decide)]
    rfl
  unfold Dev.vsafe
  dsimp only
  split
  · exact .inl rfl
  · rw [spine_showIsland, spine_ite, spine_islandStop, hnoted]
    split
    · exact .inr rfl
    · exact .inl rfl

theorem vsafe_feeds (a b : Bool) (h : (a || b) = true) : (d.vsafe a b).isl.feedA = a ∧ (d.vsafe a b).isl.feedB = b := by
  have hnone : (!a && !b) = false := by revert a b; decide
  unfold Dev.vsafe
  split
  · next hsame => exact hsame
  · simp only [hnone, Bool.false_and, Bool.false_eq_true, if_false]
    have hisl : ∀ e : Dev, (e.raise 0x87 (b2n a + 2 * b2n b)).showIsland.isl = e.isl := fun e => (reported_raise e _ _ (by decide)).isl
    rw [hisl]
    exact ⟨rfl, rfl⟩

theorem feeds_fed {a b : Bool} (h : (a || b) = true) : d.feeds a b = d.vsafe a b := by
  have hnone : (!a && !b) = false := by revert a b; decide
  simp [Dev.feeds, hnone]

/-- The loss of both feeds leads to BOOT. -/
theorem feeds_booted (h : (d.isl.feedA || d.isl.feedB) = true) :
    d.spine.Booted (d.feeds false false).spine ∧
      (d.feeds false false).spine.obj Obj.RESET_CAUSE = if getAt false d.ctl.supplies 0 then 2 else 0 := by
  have hkept : (d.vsafe false false).spine.ctl = d.spine.ctl ∧ (d.vsafe false false).spine.flash = d.spine.flash ∧
      (d.vsafe false false).spine.health = d.spine.health ∧ (d.vsafe false false).spine.fusing = d.spine.fusing := by
    rcases spine_vsafe_lost d with hsame | hstopped
    · rw [hsame]
      exact ⟨rfl, rfl, rfl, rfl⟩
    · rw [hstopped]
      exact ⟨rfl, rfl, rfl, rfl⟩
  obtain ⟨hctl, hflash, hhealth, hfusing⟩ := hkept
  have hfeeds : d.feeds false false = (d.vsafe false false).enterBoot (if getAt false d.ctl.supplies 0 then 2 else 0) := by
    have hsupplies : (d.vsafe false false).ctl.supplies = d.ctl.supplies := by
      have hfields := congrArg DevCtl.supplies hctl
      exact hfields
    simp [Dev.feeds, h, hsupplies]
  obtain ⟨hbooted, hcause⟩ := enterBoot_booted (d.vsafe false false) (if getAt false d.ctl.supplies 0 then 2 else 0)
  rw [hfeeds]
  exact ⟨{ hbooted with
      resetN := hbooted.resetN.trans (by rw [hctl])
      flash := hbooted.flash.trans hflash
      health := fun hf => (hbooted.health (hfusing.trans hf)).trans hhealth }, hcause⟩

/-! ## Rails -/

/-- The loss of VCORE alone leads to BOOT. -/
theorem powerLoss_vcore_booted (h : (d.isl.feedA || d.isl.feedB) = true) :
    d.spine.Booted (d.powerLoss [.vcore]).spine ∧ (d.powerLoss [.vcore]).spine.obj Obj.RESET_CAUSE = 0 := by
  have hfeeds : ∀ e : Dev, (e.isl.feedA || e.isl.feedB) = true → e.feeds e.isl.feedA e.isl.feedB = e := fun e he => by
    rw [feeds_fed e he]
    exact if_pos ⟨rfl, rfl⟩
  obtain ⟨hbooted, hcause⟩ := enterBoot_booted (d.markRails [.vcore] false) 0
  have hloss : d.powerLoss [.vcore] =
      (({ ((d.markRails [.vcore] false).enterBoot 0) with tb := initTimeBase (d.markRails [.vcore] false).now } : Dev).refreshTick).driveOuts.refreshArb := by
    unfold Dev.powerLoss
    dsimp only
    have hA : ((d.markRails [.vcore] false).isl.feedA && !List.contains [Rail.vcore] .vsafeA) = (d.markRails [.vcore] false).isl.feedA := Bool.and_true _
    have hB : ((d.markRails [.vcore] false).isl.feedB && !List.contains [Rail.vcore] .vsafeB) = (d.markRails [.vcore] false).isl.feedB := Bool.and_true _
    rw [hA, hB, hfeeds (d.markRails [.vcore] false) h]
    rfl
  have hclock : ∀ (e : Dev) (now : Nat), ({ e with tb := initTimeBase now } : Dev).spine = { e.spine with clock := false } := fun e now => by rfl
  rw [hloss, spine_refreshArb, spine_driveOuts]
  unfold Dev.refreshTick
  rw [spine_tickSource, hclock]
  have hcold : d.spine.Booted { ((d.markRails [.vcore] false).enterBoot 0).spine with clock := false } :=
    { hbooted with clock := rfl }
  refine ⟨hcold.tick _, ?_⟩
  unfold Spine.tick
  split
  · exact hcause
  · exact hcause

/-- POWER_UP marks its rails, and leaves the rest of the spine. -/
theorem spine_powerUp (rails : List Rail) (h : (d.isl.feedA || d.isl.feedB) = true) : (d.powerUp rails).spine = (d.markRails rails true).spine := by
  have hfed : ((d.markRails rails true).isl.feedA || rails.contains .vsafeA || ((d.markRails rails true).isl.feedB || rails.contains .vsafeB)) = true := by
    show (d.isl.feedA || _ || (d.isl.feedB || _)) = true
    revert h
    generalize d.isl.feedA = a
    generalize d.isl.feedB = b
    cases a <;> cases b <;> simp
  unfold Dev.powerUp
  dsimp only
  rw [spine_refreshArb, spine_driveOuts, feeds_fed _ hfed, spine_vsafe_fed _ hfed]

/-! ## The obligation -/

/-- A decision in BOOT before its sequence changes no spine. -/
theorem spine_holdDecide_idle (hboot : d.booting = false) (hidle : (!d.cycling || d.ctl.holding) = true) : d.holdDecide.spine = d.spine := by
  cases h : d.ctl.causeReq with
  | none => rw [holdDecide_none d h]
  | some x =>
    rw [holdDecide_some d h]
    dsimp only
    rw [if_neg (by simp [hboot]), if_pos hidle]
    exact spine_causeReq d none

theorem getAt_map {α β : Type} (π : α → β) (a : α) (l : List α) (i : Nat) : getAt (π a) (l.map π) i = π (getAt a l i) := by
  induction l generalizing i with
  | nil => rfl
  | cons b t ih => cases i with
    | zero => rfl
    | succ i => exact ih i

theorem session_isOpen (i : Nat) : (d.session i).isOpen = getAt false d.spine.sessions i := by
  unfold Dev.session
  rw [← getAt_map Session.isOpen]
  rfl

/-- The spine of BOOT, with the cause of the reset, read off the block as the command leaves it. -/
theorem Spine.Booted.answer {s : Spine} {e : Dev} (h : s.Booted e.spine) {cause : Nat} (hcause : e.spine.obj Obj.RESET_CAUSE = cause) (a : State) :
    e.settle.state = stBoot ∧ e.settle.obj Obj.RESET_CAUSE = cause ∧ e.settle.tally.queue = [] ∧ e.settle.tally.timed = [] ∧
      (∀ i, (e.settle.session i).isOpen = false) ∧ (∀ r : Fin 2, e.settle.ringOpen r = false) ∧ e.settle.tb.running = false ∧
      e.settle.flash = s.flash ∧ (s.fusing = false → e.settle.health = s.health) ∧
      ({ a with dev := e.settle } : State).mem = a.mem := by
  rw [← spine_settle e] at h hcause
  obtain ⟨hstate, hbypass, hqueue, htimed, hsessions, hclock, -, -, hflash, hhealth⟩ := h
  refine ⟨(e.settle.spine_obj (by decide)).symm.trans hstate, (e.settle.spine_obj (by decide)).symm.trans hcause, hqueue, htimed, fun i => ?_,
    fun r => ?_, hclock, hflash, hhealth, rfl⟩
  · rw [session_isOpen, hsessions, getAt_replicate]
  · rw [Dev.ringOpen, ← e.settle.spine_obj (by decide), hbypass]
    revert r
    decide

/-- BOOT decides no cause: its sequence has not begun. -/
theorem Spine.Booted.holdDecide {s : Spine} {e : Dev} (h : s.Booted e.spine) : e.holdDecide.spine = e.spine := by
  have hstate : e.state = stBoot := (e.spine_obj (by decide)).symm.trans h.state
  have hheld : e.ctl.boot = .held := h.held
  exact spine_holdDecide_idle e (by simp [Dev.booting, hheld]) (by simp [Dev.cycling, hstate])

theorem supplies_of_spine {d e : Dev} (h : e.spine = d.spine) : e.ctl.supplies = d.ctl.supplies := congrArg (fun t : Spine => t.ctl.supplies) h

theorem answers_onDev {c : Instr} {s : State} {P : State → Prop} (f : Dev → Dev) (hc : exec c s = s.onDev f)
    (h : P { s with dev := (f s.dev.fresh).settle }) : Answers c s P := ⟨_, hc, h⟩

theorem answers_onDevH {c : Instr} {s : State} {P : State → Prop} (f : Dev → Dev) (hc : exec c s = s.onDevH f)
    (h : P { s with dev := (f s.dev.fresh).holdDecide.settle }) : Answers c s P := ⟨_, hc, h⟩

/-- Settles O40: every way into BOOT passes the one entry, whose spine is read off; a feed that stays and POWER_UP keep the spine. -/
theorem powerAndResetLeadToBoot : Obligations.PowerAndResetLeadToBoot := by
  unfold Obligations.PowerAndResetLeadToBoot
  refine ⟨fun s => answers_onDev Dev.resetAssert rfl ?reset, fun s hfed => answers_onDevH (fun d => d.powerLoss [.vcore]) rfl ?vcore,
    fun s hfed hvcore => answers_onDev (fun d => d.feeds false false) rfl ?vsafe,
    fun s a b hfed => answers_onDev (fun d => d.feeds a b) rfl ?feed, fun s rails hfed => answers_onDev (fun d => d.powerUp rails) rfl ?up⟩
  case reset =>
    obtain ⟨hbooted, hcause⟩ := enterBoot_booted ({ s.dev.fresh with ctl := { s.dev.fresh.ctl with resetN := false } } : Dev) 1
    refine ⟨hbooted.answer hcause s, ?_⟩
    have hctl := congrArg Spine.ctl (spine_settle s.dev.fresh.resetAssert)
    exact (congrArg DevCtl.resetN hctl).trans hbooted.resetN
  case vcore =>
    obtain ⟨hbooted, hcause⟩ := powerLoss_vcore_booted s.dev.fresh hfed
    rw [← hbooted.holdDecide] at hcause
    have hdecided : s.dev.fresh.spine.Booted (s.dev.fresh.powerLoss [.vcore]).holdDecide.spine := by
      rw [hbooted.holdDecide]
      exact hbooted
    exact hdecided.answer hcause s
  case vsafe =>
    obtain ⟨hbooted, hcause⟩ := feeds_booted s.dev.fresh hfed
    exact hbooted.answer (hcause.trans (if_pos hvcore)) s
  case feed =>
    have hfeeds : s.dev.fresh.feeds a b = s.dev.fresh.vsafe a b := feeds_fed _ hfed
    obtain ⟨hA, hB⟩ := vsafe_feeds s.dev.fresh a b hfed
    have hspine : (s.dev.fresh.vsafe a b).settle.spine = s.dev.spine := (spine_settle _).trans (spine_vsafe_fed s.dev.fresh hfed)
    have hisl := (reported_settle (s.dev.fresh.vsafe a b)).isl
    rw [hfeeds]
    exact ⟨obj_of_spine hspine (by decide), by rw [hisl, hA], by rw [hisl, hB], rfl⟩
  case up =>
    have hspine : (s.dev.fresh.powerUp rails).settle.spine = (s.dev.fresh.markRails rails true).spine :=
      (spine_settle _).trans (spine_powerUp s.dev.fresh rails hfed)
    exact ⟨obj_of_spine hspine (by decide), rfl, supplies_of_spine hspine⟩

end Sys2Proof.Machine
end

section
/-! SUPPORT. The spine through BOOT's sequence and the entry into CONFIG (R112, R204, R436, R476, R565, R574, R587, R589, R591). -/

set_option Elab.async false

namespace Sys2Proof.Machine

variable (d : Dev)

/-! ## The island's and the Float's steps -/

theorem obj_islandStart (k : Nat) (h : ofIsland k = false) : d.islandStart.obj k = d.obj k := by
  unfold Dev.islandStart Dev.showIsland
  rw [Dev.obj_setObj_ne _ _ _ _ (by rintro rfl; revert h; decide)]
  unfold Dev.obj
  dsimp only
  rw [tget_filter defaultOf (fun k => !ofIsland k), h]
  rfl

theorem ofIsland_of_guarded {k : Nat} (h : guarded k = true) : ofIsland k = false := by
  simp only [guarded, ofIsland, List.contains_cons, List.contains_nil, Bool.or_eq_true, Bool.and_eq_true, beq_iff_eq, decide_eq_true_eq,
    Bool.and_eq_false_iff, decide_eq_false_iff_not] at *
  grind

theorem spine_islandStart : d.islandStart.spine = { d.spine with island := true } := by
  have hobj : (fun k => if guarded k then d.islandStart.obj k else 0) = fun k => if guarded k then d.obj k else 0 := by
    funext k
    by_cases hk : guarded k = true
    · rw [if_pos hk, if_pos hk, obj_islandStart d k (ofIsland_of_guarded hk)]
    · rw [if_neg hk, if_neg hk]
  have hlatch : d.islandStart.latched 7 = d.latched 7 := by
    unfold Dev.latched
    rw [obj_islandStart d _ (by decide)]
  unfold Dev.spine
  rw [hobj, hlatch]
  rfl

theorem spine_islandBoot : d.islandBoot.spine = { d.spine with island := true } := by
  have hrun : ∀ e : Dev, (e.updIsl (fun i => { i with crossOk := true, healthy := 3, differing := 0, testing := true, bootTest := true })).spine = e.spine :=
    fun e => by rfl
  unfold Dev.islandBoot
  dsimp only
  rw [spine_showIsland, hrun, spine_setObjBit _ _ _ _ (by grind [Loose])]
  split
  · next h =>
    have hisl : d.spine.island = true := h
    rw [← hisl]
  · rw [spine_showArb, spine_islandStart]

@[simp] theorem spine_showLanes (f : Nat) (h : f < 8) : (d.showLanes f).spine = d.spine := by
  unfold Dev.showLanes
  simp (disch := grind [Loose])

theorem spine_folds (l : List Fold) : ({ d with folds := l } : Dev).spine = d.spine := by rfl

@[simp] theorem spine_showHours : d.showHours.spine = d.spine := by
  unfold Dev.showHours
  simp (disch := grind [Loose])

@[simp] theorem spine_showHealth (g : Nat) : (d.showHealth g).spine = d.spine := by
  unfold Dev.showHealth
  simp (disch := grind [Loose])

@[simp] theorem spine_showSealed : d.showSealed.spine = d.spine := by
  unfold Dev.showSealed
  refine (forN_keeps Dev.spine 32 _ (fun e he d => by simp (disch := grind [Loose])) _).trans ?_
  simp (disch := grind [Loose])

/-- What the boot sequence reads of the spine: the control of the block, the island, DEVICE_STATE. -/
def Dev.bootView (d : Dev) : DevCtl × Bool × Nat := (d.spine.ctl, d.spine.island, d.spine.obj Obj.DEVICE_STATE)

variable {d} in
theorem bootView_of_spine {e : Dev} (h : e.spine = d.spine) : e.bootView = d.bootView := by
  unfold Dev.bootView
  rw [h]

theorem bootView_setObj (k v : Nat) (h : k ≠ Obj.DEVICE_STATE) : (d.setObj k v).bootView = d.bootView := by
  unfold Dev.bootView
  rw [Dev.spine_obj _ (by decide), Dev.spine_obj _ (by decide), Dev.obj_setObj_ne _ _ _ _ h]
  rfl

theorem bootView_healthLost : d.healthLost.bootView = d.bootView := by
  unfold Dev.healthLost
  exact (bootView_of_spine (spine_setObjBit _ _ _ _ (by grind [Loose]))).trans (by rfl)

theorem bootView_applyRepairs : d.applyRepairs.bootView = d.bootView := by
  unfold Dev.applyRepairs
  refine (forN_keeps Dev.bootView 5 _ (fun g _ d => bootView_of_spine ?_) _).trans (by rfl)
  simp (disch := grind [Loose])

theorem bootView_bootLanes : d.bootLanes.bootView = d.bootView := by
  unfold Dev.bootLanes
  refine (forN_keeps Dev.bootView 8 _ (fun f hf d => bootView_of_spine ((spine_folds _ _).trans ?_)) _).trans
    (foldl_keeps Dev.bootView _ _ (fun e d => bootView_setObj d _ _ (by grind)) d)
  simp (disch := grind [Loose])

theorem bootView_floatBoot : d.floatBoot.bootView = d.bootView := by
  unfold Dev.floatBoot
  dsimp only
  rw [bootView_of_spine (spine_setObjI _ _ _ _ (by grind [Loose])), bootView_of_spine (spine_showSealed _), bootView_bootLanes,
    bootView_of_spine (spine_showHours _), bootView_applyRepairs]
  split
  · rfl
  · exact bootView_healthLost d

theorem bootView_loadTimeBase : d.loadTimeBase.bootView = d.bootView := by
  unfold Dev.loadTimeBase
  split
  · rfl
  · split
    · rfl
    · rw [List.foldl_filter]
      refine foldl_keeps Dev.bootView _ _ (fun e d => ?_) d
      split
      · next h => exact bootView_setObj d e.1 e.2 (by grind)
      · rfl

@[simp] theorem spine_searchT : d.searchT.spine = d.spine := by
  unfold Dev.searchT
  simp (disch := grind [Loose])

@[simp] theorem spine_searchS : d.searchS.spine = d.spine := by
  have hwritten : ∀ e : Dev, ({ e with tb := { e.tb with plsWritten := false } } : Dev).spine = e.spine := fun e => by rfl
  unfold Dev.searchS
  extract_lets blind shown tb noted
  rw [spine_updS]
  refine (hwritten shown).trans ?_
  unfold shown
  simp (disch := grind [Loose])

end Sys2Proof.Machine
end

section
/-! SUPPORT. The spine through the entry into CONFIG, and the boot sequence's commands (R30, R204, R436, R476, R494, R587, R589). -/

set_option Elab.async false

namespace Sys2Proof.Machine

variable (d : Dev)

/-! ## Messages -/

theorem spine_emits {α : Type} (l : List α) (e : α → Emit) : (l.foldl (fun d a => d.emit (e a)) d).spine = d.spine :=
  foldl_keeps Dev.spine l _ (fun a d => spine_emit d (e a)) d

@[simp] theorem spine_putMessage (r : Nat) (ports : List Nat) (m : RingMessage) : (d.putMessage r ports m).spine = d.spine := by
  unfold Dev.putMessage Dev.poolPass
  dsimp only
  by_cases h : d.poolFits r (buffersOf (m.payload.length + 12)) = true
  · rw [if_pos h]
    dsimp only
    rw [spine_emits, spine_poolSet, spine_poolSet]
  · rw [if_neg h]
    exact spine_poolDrop d r

@[simp] theorem spine_sendMessage (r : Nat) (ports : List Nat) (dest msgType : Nat) (payload : List Byte) :
    (d.sendMessage r ports dest msgType payload).spine = d.spine := by
  unfold Dev.sendMessage
  simp

@[simp] theorem spine_sendDiscover (r port : Nat) : (d.sendDiscover r port).spine = d.spine := by
  unfold Dev.sendDiscover
  simp

@[simp] theorem spine_startDiscovery (r : Nat) : (d.startDiscovery r).spine = d.spine := by
  unfold Dev.startDiscovery
  simp

/-! ## Connections and links -/

@[simp] theorem spine_connStart (n reason : Nat) : (d.connStart n reason).spine = d.spine := by
  unfold Dev.connStart
  extract_lets sub begun
  rw [spine_ite, spine_showConn, spine_showConn, ite_self]
  exact spine_updConn d n _

@[simp] theorem spine_connsStart : d.connsStart.spine = d.spine := by
  unfold Dev.connsStart
  rw [spine_countValid]
  exact foldl_keeps Dev.spine _ _ (fun n d => by simp) d

@[simp] theorem spine_startLink (n : Nat) (h : n < 20) : (d.startLink n).spine = d.spine := by
  unfold Dev.startLink
  simp (disch := grind [Loose])

/-! ## Roles and CONFIG -/

theorem spine_setRole (r : Nat) : (d.setRole r).spine = d.spine.put Obj.ROLE r := by
  have hkey : guarded Obj.ROLE = true := by decide
  unfold Dev.setRole
  dsimp only
  split
  · next h =>
    subst h
    rw [spine_refreshArb, ← d.spine_obj hkey, Spine.put_self]
  · rw [spine_refreshArb, spine_raise _ _ _ (by decide) (by decide), spine_setObj_guarded _ _ _ hkey]

theorem spine_pairMode : ∃ r, d.pairMode.spine = d.spine.put Obj.ROLE r := by
  unfold Dev.pairMode
  split
  · exact ⟨0, spine_setRole d 0⟩
  · split
    · exact ⟨5, spine_setRole _ 5⟩
    · exact ⟨d.spine.obj Obj.ROLE, (d.spine.put_self _).symm⟩

theorem spine_enterConfig : ∃ r, d.enterConfig.spine = (d.spine.put Obj.DEVICE_STATE stConfig).put Obj.ROLE r := by
  obtain ⟨r, hr⟩ := spine_pairMode (d.goState stConfig).stoAll
  rw [spine_stoAll, spine_goState] at hr
  refine ⟨r, ?_⟩
  rw [← hr]
  unfold Dev.enterConfig
  extract_lets start paired rings units
  have hrings : rings.spine = paired.spine := forN_keeps Dev.spine 2 _ (fun r hr d => by simp (disch := grind [Loose])) paired
  have hunits : units.spine = paired.spine := (forN_keeps Dev.spine 16 _ (fun u _ d => spine_updUnit d u _) rings).trans hrings
  rw [spine_ite, spine_connsStart, ite_self, hunits]

theorem spine_bootComplete (hstate : d.state = stBoot) (hboot : d.ctl.boot = .loaded) :
    ∃ r, d.bootComplete.spine = (({ d.spine with
      ctl := { d.spine.ctl with boot := .done }
      cyc := { d.cyc with startAt := d.now, startTime := d.timeNs 0, nextAt := d.now + d.cyc.len, dispatched := true } } : Spine).put
        Obj.DEVICE_STATE stConfig).put Obj.ROLE r := by
  unfold Dev.bootComplete
  rw [if_neg (by simp [hstate, hboot])]
  extract_lets ctl begun timed cyc ready
  obtain ⟨r, hr⟩ := spine_enterConfig ready
  refine ⟨r, (forN_keeps Dev.spine 20 _ (fun n hn d => spine_startLink d n hn) _).trans (hr.trans ?_)⟩
  have htimed : timed.spine = { d.spine with ctl := { d.spine.ctl with boot := .done } } := spine_setObj _ _ _ (by grind [Loose])
  have hready : ready.spine = { timed.spine with
      cyc := { d.cyc with startAt := d.now, startTime := d.timeNs 0, nextAt := d.now + d.cyc.len, dispatched := true } } := by rfl
  rw [hready, htimed]

/-! ## The commands of the boot sequence -/

theorem answers_onBoth {c : Instr} {s : State} {P : State → Prop} (f : DM → DM) (hc : exec c s = s.onBoth f)
    (h : P { s with dev := (f (s.dev.fresh, s.mem)).1.settle, mem := (f (s.dev.fresh, s.mem)).2 }) : Answers c s P := ⟨_, hc, h⟩

theorem answers_onBothH {c : Instr} {s : State} {P : State → Prop} (f : DM → DM) (hc : exec c s = s.onBothH f)
    (h : P { s with dev := (f (s.dev.fresh, s.mem)).1.holdDecide.settle, mem := (f (s.dev.fresh, s.mem)).2 }) : Answers c s P := ⟨_, hc, h⟩

/-- A command after which only the outputs and the control of the block may differ shows no change. -/
theorem same_of_dict {s : State} {e : Dev} (hdict : e.dict = s.dev.dict) (hblobs : e.blobs = s.dev.blobs) (hdrops : e.drops = []) :
    s.Same { s with dev := e.settle } := by
  rw [settle_none e hdrops]
  exact ⟨fun k => congrArg (fun l => tget defaultOf l k) hdict, fun k => congrArg (fun l => tget (fun _ => []) l k) hblobs, rfl, rfl⟩

theorem fresh_settle (s : State) : s.dev.fresh.settle = s.dev.fresh := settle_none _ rfl

/-- No copy of the parameter blocks or no good header: the boot origin leads nowhere (R591). -/
def Dev.headerBad (d : Dev) : Bool := !d.flash.headerOk || (!d.flash.block0Ok && !d.flash.block1Ok)

/-- The origin of the boot sequence noted. -/
def Dev.noteOrigin (d : Dev) : Dev := { d with ctl := { d.ctl with resetN := true, bootOrigin := d.now } }

/-- The island's and the Float's steps taken: the synthesisers are to lock. -/
def Dev.awaitLock (d : Dev) : Dev :=
  { d.islandBoot.floatBoot.loadTimeBase with ctl := { d.islandBoot.floatBoot.ctl with boot := .lock } }

theorem bootStart_eq (x : DM) : bootStart x =
    if !x.1.originReady then x
    else if x.1.noteOrigin.headerBad then ({ x.1.noteOrigin with ctl := { x.1.noteOrigin.ctl with boot := .headerBad } }, x.2)
    else (if x.1.noteOrigin.awaitLock.obj Obj.REF_ACTIVE = 0xFF then x.1.noteOrigin.awaitLock else x.1.noteOrigin.awaitLock.searchT.searchS,
      { cells := [] }) := by
  unfold bootStart Dev.awaitLock Dev.noteOrigin Dev.headerBad
  rfl

theorem awaitLock_bootView : d.awaitLock.bootView = ({ d.spine.ctl with boot := .lock }, true, d.spine.obj Obj.DEVICE_STATE) := by
  have hbooted : d.islandBoot.floatBoot.bootView = (d.spine.ctl, true, d.spine.obj Obj.DEVICE_STATE) := by
    rw [bootView_floatBoot]
    unfold Dev.bootView
    rw [spine_islandBoot]
  have hloaded := (bootView_loadTimeBase d.islandBoot.floatBoot).trans hbooted
  have hlock : ∀ e f : Dev, ({ e with ctl := { f.ctl with boot := .lock } } : Dev).bootView = ({ f.bootView.1 with boot := .lock }, e.bootView.2) :=
    fun e f => by rfl
  unfold Dev.awaitLock
  rw [hlock, hloaded, hbooted]

theorem bootStart_early (s : State) (h : s.dev.originReady = false) :
    Answers .bootStart s (fun t => s.Same t ∧ t.dev.ctl = { s.dev.ctl with causeReq := none }) := by
  have hfresh : s.dev.fresh.originReady = false := h
  have hidle : bootStart (s.dev.fresh, s.mem) = (s.dev.fresh, s.mem) := by
    rw [bootStart_eq, hfresh]
    rfl
  refine answers_onBoth bootStart rfl ?_
  rw [hidle]
  refine ⟨same_of_dict rfl rfl rfl, ?_⟩
  rw [fresh_settle]
  rfl

theorem bootStart_badHeader (s : State) (hready : s.dev.originReady = true)
    (hbad : s.dev.flash.headerOk = false ∨ s.dev.flash.block0Ok = false ∧ s.dev.flash.block1Ok = false) :
    Answers .bootStart s (fun t => s.Same t ∧ t.dev.ctl.boot = .headerBad) := by
  have hfresh : s.dev.fresh.originReady = true := hready
  have hheader : s.dev.fresh.noteOrigin.headerBad = true := by
    show (!s.dev.flash.headerOk || (!s.dev.flash.block0Ok && !s.dev.flash.block1Ok)) = true
    rcases hbad with h | ⟨h0, h1⟩
    · simp [h]
    · simp [h0, h1]
  have hstays : bootStart (s.dev.fresh, s.mem) =
      ({ s.dev.fresh.noteOrigin with ctl := { s.dev.fresh.noteOrigin.ctl with boot := .headerBad } }, s.mem) := by
    rw [bootStart_eq, hfresh, hheader]
    rfl
  refine answers_onBoth bootStart rfl ?_
  rw [hstays]
  refine ⟨same_of_dict rfl rfl rfl, ?_⟩
  rw [settle_none _ rfl]

theorem bootStart_good (s : State) (hready : s.dev.originReady = true) (hheader : s.dev.flash.headerOk = true)
    (hblock : s.dev.flash.block0Ok = true ∨ s.dev.flash.block1Ok = true) :
    Answers .bootStart s (fun t => t.dev.ctl.boot = .lock ∧ t.mem.cells = [] ∧ t.dev.isl.running = true ∧ t.dev.state = stBoot) := by
  have hfresh : s.dev.fresh.originReady = true := hready
  have hgood : s.dev.fresh.noteOrigin.headerBad = false := by
    show (!s.dev.flash.headerOk || (!s.dev.flash.block0Ok && !s.dev.flash.block1Ok)) = false
    rcases hblock with h | h <;> simp [hheader, h]
  have hstarts : bootStart (s.dev.fresh, s.mem) = (if s.dev.fresh.noteOrigin.awaitLock.obj Obj.REF_ACTIVE = 0xFF then
      s.dev.fresh.noteOrigin.awaitLock else s.dev.fresh.noteOrigin.awaitLock.searchT.searchS, { cells := [] }) := by
    rw [bootStart_eq, hfresh, hgood]
    rfl
  have hview : (bootStart (s.dev.fresh, s.mem)).1.settle.bootView = s.dev.fresh.noteOrigin.awaitLock.bootView := by
    rw [hstarts]
    refine bootView_of_spine ?_
    rw [spine_settle, spine_ite, spine_searchS, spine_searchT, ite_self]
  rw [awaitLock_bootView] at hview
  have hboot : s.dev.state = stBoot := by
    simp only [Dev.originReady, Bool.and_eq_true, beq_iff_eq] at hready
    exact hready.1.1.1
  refine answers_onBoth bootStart rfl ⟨?lock, ?erased, ?runs, ?state⟩
  case lock =>
    have hlock := congrArg (fun v => v.1.boot) hview
    exact hlock
  case erased => rw [hstarts]
  case runs =>
    have hruns := congrArg (fun v => v.2.1) hview
    exact hruns
  case state =>
    have hstate := congrArg (fun v => v.2.2) hview
    exact (Dev.spine_obj _ (by decide)).symm.trans (hstate.trans ((s.dev.spine_obj (by decide)).trans hboot))

theorem bootComplete_early (s : State) (h : s.dev.state ≠ stBoot ∨ s.dev.ctl.boot ≠ .loaded) :
    Answers .bootSequenceComplete s (fun t => s.Same t) := by
  have hidle : s.dev.fresh.bootComplete = s.dev.fresh := if_pos (by simpa using h)
  refine answers_onDev Dev.bootComplete rfl ?_
  rw [hidle]
  exact same_of_dict rfl rfl rfl

theorem bootComplete_entersConfig (s : State) (hstate : s.dev.state = stBoot) (hboot : s.dev.ctl.boot = .loaded) :
    Answers .bootSequenceComplete s (fun t => t.dev.state = stConfig ∧ t.dev.ctl.boot = .done ∧ t.dev.cyc.startAt = s.dev.now ∧
      t.dev.cyc.nextAt = s.dev.now + s.dev.cyc.len ∧ t.mem = s.mem) := by
  obtain ⟨r, hr⟩ := spine_bootComplete s.dev.fresh hstate hboot
  have hspine := (spine_settle _).trans hr
  refine answers_onDev Dev.bootComplete rfl ⟨?state, ?done, ?start, ?next, rfl⟩
  case state =>
    rw [Dev.state, ← Dev.spine_obj _ (by decide), hspine]
    simp [Spine.put]
  case done =>
    have hdone := congrArg (fun t : Spine => t.ctl.boot) hspine
    exact hdone
  case start =>
    have hcyc := congrArg (fun t : Spine => t.cyc.startAt) hspine
    exact hcyc
  case next =>
    have hcyc := congrArg (fun t : Spine => t.cyc.nextAt) hspine
    exact hcyc

end Sys2Proof.Machine
end

section
/-! SUPPORT. SAFE-HOLD causes as they are decided: VCORE, the handshake, a fold (R36, R37, R39, R214, R581). -/

set_option Elab.async false

namespace Sys2Proof.Machine

/-! ## The bypasses beside the rest -/

/-- Nothing but the bypasses and what they bring differs, and reports. -/
structure BypassesMove (d e : Dev) : Prop where
  obj : d.KeepsBut e [Obj.BYPASS_STATE, Obj.RING_STATUS 0, Obj.RING_STATUS 1]
  blobs : e.blobs = d.blobs
  ctl : e.ctl = d.ctl
  pair : e.pair = d.pair

theorem BypassesMove.trans {d e f : Dev} (h : BypassesMove d e) (g : BypassesMove e f) : BypassesMove d f :=
  ⟨fun k hk he => (g.obj k hk he).trans (h.obj k hk he), g.blobs.trans h.blobs, g.ctl.trans h.ctl, g.pair.trans h.pair⟩

theorem Reported.bypassesMove {d e : Dev} (h : Reported d e) : BypassesMove d e := ⟨fun k _ hk => h.obj k hk, h.blobs, h.ctl, h.pair⟩

variable (d : Dev)

theorem closeBypass_move (r : Nat) (h : r < 2) : BypassesMove d (d.closeBypass r) := by
  have hset : ∀ (e : Dev) (k v : Nat), k ∈ [Obj.BYPASS_STATE, Obj.RING_STATUS 0, Obj.RING_STATUS 1] → BypassesMove e (e.setObj k v) :=
    fun e k v hk => ⟨fun j hj _ => e.obj_setObj_ne k v j (by rintro rfl; exact hj hk), rfl, rfl, rfl⟩
  have hstatus : Obj.RING_STATUS r ∈ [Obj.BYPASS_STATE, Obj.RING_STATUS 0, Obj.RING_STATUS 1] := by
    obtain rfl | rfl : r = 0 ∨ r = 1 := by omega
    · simp
    · simp
  have hring : ∀ (e : Dev) (f : Ring → Ring), BypassesMove e (e.updRing r f) := fun e f => ⟨fun _ _ _ => rfl, rfl, rfl, rfl⟩
  unfold Dev.closeBypass
  extract_lets kept closed off silent moved shown
  split
  · exact hring d _
  · exact ((hset d _ _ (by simp)).trans (hset closed _ _ hstatus)).trans ((hring off _).trans ((reported_emit moved _).trans
      (reported_raise shown _ _ (by decide))).bypassesMove)

theorem closeBypasses_move : BypassesMove d d.closeBypasses :=
  (closeBypass_move d 0 (by decide)).trans (closeBypass_move _ 1 (by decide))

theorem closeBypasses_open : d.closeBypasses.ringOpen 0 = false ∧ d.closeBypasses.ringOpen 1 = false := by
  have hset : ∀ v, bit (setBit (setBit v 0 true) 1 true) 0 = true ∧ bit (setBit (setBit v 0 true) 1 true) 1 = true := fun v => by
    simp [bit_setBit_true]
  have hobj : d.closeBypasses.obj Obj.BYPASS_STATE = setBit (setBit (d.obj Obj.BYPASS_STATE) 0 true) 1 true := by
    rw [← Dev.spine_obj _ (by decide), spine_closeBypasses, ← d.spine_obj (by decide)]
    simp [Spine.closeBypasses, Spine.closeBypass, Spine.put]
  obtain ⟨h0, h1⟩ := hset (d.obj Obj.BYPASS_STATE)
  unfold Dev.ringOpen
  rw [hobj, h0, h1]
  exact ⟨rfl, rfl⟩

/-! ## A cause found and decided -/

/-- What becomes of the first cause a command finds. -/
theorem holdDecide_reqCause (cause fold : Nat) (h : d.ctl.causeReq = none) : (d.reqCause cause fold).holdDecide =
    if d.booting then d.holdInBoot cause else if !d.cycling || d.ctl.holding then d else d.decideHold cause fold := by
  have hreq : (d.reqCause cause fold).ctl.causeReq = some (cause, fold) := by
    unfold Dev.reqCause
    rw [h]
    rfl
  have hback : ({ (d.reqCause cause fold) with ctl := { (d.reqCause cause fold).ctl with causeReq := none } } : Dev) = d := by
    unfold Dev.reqCause
    rw [h]
    exact (by rw [← h] : ({ d with ctl := { d.ctl with causeReq := none } } : Dev) = d)
  have hspine := spine_reqCause d cause fold
  have hstate : (d.reqCause cause fold).state = d.state := obj_of_spine hspine (by decide)
  have hboot : (d.reqCause cause fold).ctl.boot = d.ctl.boot := congrArg (fun t : Spine => t.ctl.boot) hspine
  have hholding : (d.reqCause cause fold).ctl.holding = d.ctl.holding := congrArg (fun t : Spine => t.ctl.holding) hspine
  rw [holdDecide_some _ hreq]
  dsimp only
  rw [hback, Dev.booting, Dev.cycling, hstate, hboot, hholding]
  rfl

variable {d} in
theorem not_booting_of_cycling (h : d.cycling = true) : d.booting = false := by
  simp only [Dev.cycling, Bool.and_eq_true, bne_iff_ne] at h
  simp [Dev.booting, h.1]

theorem Spine.enterHold_obj (s : Spine) :
    s.enterHold.obj Obj.DEVICE_STATE = stSafeHold ∧ s.enterHold.obj Obj.SAFE_HOLD_CAUSE = s.obj Obj.SAFE_HOLD_CAUSE ∧ s.enterHold.latch = s.latch := by
  unfold Spine.enterHold Spine.tick
  split <;> simp [Spine.put, Spine.closeBypasses, Spine.closeBypass]

theorem Spine.stoStep_obj (s : Spine) : s.stoStep.obj = s.obj ∧ s.stoStep.latch = s.latch := by
  unfold Spine.stoStep
  split <;> exact ⟨rfl, rfl⟩

theorem Spine.holdInBoot_obj (s : Spine) (cause : Nat) : (s.holdInBoot cause).obj Obj.DEVICE_STATE = stSafeHold ∧
    (s.holdInBoot cause).obj Obj.SAFE_HOLD_CAUSE = cause ∧ (s.holdInBoot cause).latch = true := by
  unfold Spine.holdInBoot
  obtain ⟨hstate, hcause, hlatch⟩ := Spine.enterHold_obj (Spine.stoStep { (({ s with ctl := { s.ctl with holding := true, decidedAt := s.now } } :
    Spine).put Obj.SAFE_HOLD_CAUSE cause) with latch := true })
  obtain ⟨hobj, hsto⟩ := Spine.stoStep_obj { (({ s with ctl := { s.ctl with holding := true, decidedAt := s.now } } :
    Spine).put Obj.SAFE_HOLD_CAUSE cause) with latch := true }
  refine ⟨hstate, hcause.trans ?_, hlatch.trans hsto⟩
  rw [hobj]
  simp [Spine.put]

/-- A decision without a standby: cause, event and sequence; the STO step at once but for the causes with a controlled stop (R39). -/
theorem Spine.holdNow_alone (s : Spine) (cause fold : Nat) : (s.holdNow false cause fold).obj Obj.SAFE_HOLD_CAUSE = cause ∧
    (s.holdNow false cause fold).latch = true ∧ (s.holdNow false cause fold).ctl.holding = true ∧
    (cause ∉ [1, 2] → (s.holdNow false cause fold).ctl.stoDone = true) ∧
    (cause = 2 → (s.holdNow false cause fold).ctl.failedFold = some fold ∧ (s.holdNow false cause fold).ctl.stoDone = false) := by
  have hdecided : (s.decide false cause).obj Obj.SAFE_HOLD_CAUSE = cause := by simp [Spine.decide, Spine.put]
  by_cases h2 : cause = 2
  · subst h2
    exact ⟨hdecided, rfl, rfl, fun h => absurd (by simp) h, fun _ => ⟨rfl, rfl⟩⟩
  · by_cases h1 : cause = 1
    · subst h1
      exact ⟨hdecided, rfl, rfl, fun h => absurd (by simp) h, fun h => absurd h h2⟩
    · have hnow : s.holdNow false cause fold = (s.decide false cause).stoStep := by
        simp [Spine.holdNow, Spine.failFold, h1, h2]
      rw [hnow]
      exact ⟨hdecided, rfl, rfl, fun _ => rfl, fun h => absurd h h2⟩

/-! ## The commands -/

/-- Past the boot sequence, outside cycling states or with a SAFE-HOLD decided, a cause found changes nothing. -/
theorem cause_idle (s : State) (hboot : s.dev.booting = false) (hidle : s.dev.cycling = false ∨ s.dev.ctl.holding = true) {c : Instr}
    (cause fold : Nat) (hc : exec c s = s.onDevH (fun d => d.reqCause cause fold)) :
    Answers c s (fun t => s.Same t ∧ t.dev.ctl.holding = s.dev.ctl.holding) := by
  have hkept : (s.dev.fresh.reqCause cause fold).holdDecide = s.dev.fresh := by
    rw [holdDecide_reqCause _ cause fold rfl, if_neg, if_pos]
    · show (!s.dev.cycling || s.dev.ctl.holding) = true
      rcases hidle with h | h <;> simp [h]
    · rw [show s.dev.fresh.booting = false from hboot]
      decide
  refine answers_onDevH _ hc ?_
  rw [hkept]
  refine ⟨same_of_dict rfl rfl rfl, ?_⟩
  rw [fresh_settle]
  rfl

theorem vcore_idle (s : State) (hboot : s.dev.booting = false) (hidle : s.dev.cycling = false ∨ s.dev.ctl.holding = true) :
    Answers .vcoreOutOfRange s (fun t => s.Only t [Obj.BYPASS_STATE, Obj.RING_STATUS 0, Obj.RING_STATUS 1] ∧ t.dev.ringOpen 0 = false ∧
      t.dev.ringOpen 1 = false ∧ t.dev.ctl.holding = s.dev.ctl.holding) := by
  have hmove := closeBypasses_move s.dev.fresh
  have hstate : s.dev.fresh.closeBypasses.state = s.dev.state := hmove.obj _ (by decide) (by decide)
  have hkept : (s.dev.fresh.closeBypasses.reqCause 4 0).holdDecide = s.dev.fresh.closeBypasses := by
    rw [holdDecide_reqCause _ 4 0 (by rw [hmove.ctl]; rfl), if_neg, if_pos]
    · rw [Dev.cycling, hstate, hmove.ctl]
      show (!s.dev.cycling || s.dev.ctl.holding) = true
      rcases hidle with h | h <;> simp [h]
    · rw [Dev.booting, hstate, hmove.ctl]
      exact Bool.eq_false_iff.mp hboot
  have hreport := reported_settle s.dev.fresh.closeBypasses
  have hall := hmove.trans hreport.bypassesMove
  obtain ⟨h0, h1⟩ := closeBypasses_open s.dev.fresh
  refine answers_onDevH (fun d => d.closeBypasses.reqCause 4 0) rfl ?_
  dsimp only
  rw [hkept]
  refine ⟨⟨hall.obj, fun j => congrArg (fun l => tget (fun _ => []) l j) hall.blobs, rfl, rfl⟩, ?_, ?_, (congrArg DevCtl.holding hall.ctl :)⟩
  · exact (congrArg (fun v => !bit v 0) (hreport.obj Obj.BYPASS_STATE (by decide))).trans h0
  · exact (congrArg (fun v => !bit v 1) (hreport.obj Obj.BYPASS_STATE (by decide))).trans h1

/-- In the boot sequence a cause found enters SAFE-HOLD at once. -/
theorem cause_booting (s : State) (hboot : s.dev.booting = true) {c : Instr} (f : Dev → Dev) (cause fold : Nat)
    (hc : exec c s = s.onDevH (fun d => (f d).reqCause cause fold)) (hctl : (f s.dev.fresh).ctl = s.dev.fresh.ctl)
    (hstate : (f s.dev.fresh).state = s.dev.state) :
    Answers c s (fun t => t.dev.state = stSafeHold ∧ t.dev.obj Obj.SAFE_HOLD_CAUSE = cause ∧ t.dev.latched 0x07 = true ∧ t.mem = s.mem) := by
  have hbooting : (f s.dev.fresh).booting = true := by
    rw [Dev.booting, hstate, hctl]
    exact hboot
  have hspine : ((f s.dev.fresh).reqCause cause fold).holdDecide.settle.spine = (f s.dev.fresh).spine.holdInBoot cause := by
    rw [spine_settle, holdDecide_reqCause _ cause fold (by rw [hctl]; rfl), if_pos hbooting, spine_holdInBoot]
  obtain ⟨hs, hcause, hlatch⟩ := (f s.dev.fresh).spine.holdInBoot_obj cause
  rw [← hspine] at hs hcause hlatch
  refine answers_onDevH _ hc ⟨?_, ?_, hlatch, rfl⟩
  · exact (Dev.spine_obj _ (by decide)).symm.trans hs
  · exact (Dev.spine_obj _ (by decide)).symm.trans hcause

/-- In a cycling state, with no SAFE-HOLD decided and no healthy standby, a cause found is decided. -/
theorem cause_cycling (s : State) (hcycling : s.dev.cycling = true) (hholding : s.dev.ctl.holding = false) (c : Instr) (f : Dev → Dev)
    (cause fold : Nat) (hc : exec c s = s.onDevH (fun d => (f d).reqCause cause fold)) (hctl : (f s.dev.fresh).ctl = s.dev.fresh.ctl)
    (hstate : (f s.dev.fresh).state = s.dev.state) (halone : (f s.dev.fresh).standbyHealthy = false) :
    Answers c s (fun t => t.dev.obj Obj.SAFE_HOLD_CAUSE = cause ∧ t.dev.latched 0x07 = true ∧ t.dev.ctl.holding = true ∧
      (cause ∉ [1, 2] → t.dev.ctl.stoDone = true) ∧ (cause = 2 → t.dev.ctl.failedFold = some fold ∧ t.dev.ctl.stoDone = false)) := by
  have hcyc : (f s.dev.fresh).cycling = true := by
    rw [Dev.cycling, hstate]
    exact hcycling
  have hspine : ((f s.dev.fresh).reqCause cause fold).holdDecide.settle.spine = (f s.dev.fresh).spine.holdNow false cause fold := by
    rw [spine_settle, holdDecide_reqCause _ cause fold (by rw [hctl]; rfl), if_neg (by simp [not_booting_of_cycling hcyc]),
      if_neg (by rw [hcyc, hctl]; show ¬(!true || s.dev.ctl.holding) = true; simp [hholding]), spine_decideHold, halone]
  obtain ⟨hcause, hrest⟩ := (f s.dev.fresh).spine.holdNow_alone cause fold
  rw [← hspine] at hcause hrest
  exact answers_onDevH _ hc ⟨(Dev.spine_obj _ (by decide)).symm.trans hcause, hrest⟩

/-- The bypasses do not touch what the standby's health is judged by. -/
theorem closeBypasses_standby : d.closeBypasses.standbyHealthy = d.standbyHealthy := by
  have hmove := closeBypasses_move d
  rw [Dev.standbyHealthy, hmove.pair, hmove.obj Obj.ROLE (by decide) (by decide), hmove.obj Obj.PEER_ROLE (by decide) (by decide)]
  rfl

end Sys2Proof.Machine
end

section
/-! SUPPORT. The STO step of a SAFE-HOLD (R39, R433, R436). -/

set_option Elab.async false

namespace Sys2Proof.Machine

variable (d : Dev)

/-! ## A group put in STO -/

/-- The state of group g, as an object no report changes. -/
theorem eventKey_GROUP_STATE (g : Nat) : eventKey (Obj.GROUP_STATE g) = false := by
  unfold eventKey
  simp only [Bool.or_eq_false_iff, Bool.and_eq_false_iff, beq_eq_false_iff_ne]
  grind

theorem showGroup_groupState (g st j : Nat) (hst : st < 8) : (d.showGroup g st).groupState j = if j = g then st else d.groupState j := by
  have hcauses : ∀ (e : Dev) (v : Nat), (e.setObj (Obj.LOCKOUT_CAUSES g) v).groupState j = e.groupState j := fun e v => by
    rw [Dev.groupState, Dev.obj_setObj_ne _ _ _ _ (by grind)]
    rfl
  unfold Dev.showGroup
  dsimp only
  rw [hcauses, Dev.groupState, Dev.obj_setObj]
  split_ifs <;> grind [Dev.groupState]

variable {d} in
theorem Reported.groupState {e : Dev} (h : Reported d e) (g : Nat) : e.groupState g = d.groupState g := by
  rw [Dev.groupState, h.obj _ (eventKey_GROUP_STATE g)]
  rfl

theorem setGroup_sto (g j : Nat) : (d.setGroup g 4).groupState j = if j = g then 4 else d.groupState j := by
  rw [← showGroup_groupState d g 4 j (by decide)]
  have hisl : ∀ (e : Dev) (f : Island → Island), (e.updIsl f).groupState j = e.groupState j := fun _ _ => rfl
  have hgroup : ∀ (e : Dev) (f : SafeGroup → SafeGroup), (e.updGroup g f).groupState j = e.groupState j := fun _ _ => rfl
  unfold Dev.setGroup
  extract_lets old shown told noted reacts stands
  split
  · rfl
  · refine Eq.trans ?_ ((reported_raise shown 0x80 (g * 256 + shown.obj (Obj.GROUP_STATE g)) (by decide)).groupState j)
    simp [stands, reacts, noted, told, hisl, hgroup]

theorem stoLoop_groupState (n j : Nat) :
    (forN n (fun g d => d.setGroup g 4) d).groupState j = if j < n then 4 else d.groupState j := by
  induction n with
  | zero => rfl
  | succ n ih =>
    refine (setGroup_sto _ n j).trans ?_
    rw [ih]
    grind

/-! ## The rest of the step leaves the groups -/

theorem sendHalt_groupState (groups j : Nat) : (d.sendHalt groups).groupState j = d.groupState j := by
  have hbump : ∀ (e : Dev) (r : Nat), (e.bump (Obj.HALTS_SENT r)).groupState j = e.groupState j := fun e r => by
    rw [Dev.groupState]
    unfold Dev.bump Dev.bumpBy
    rw [Dev.obj_setObj_ne _ _ _ _ (by grind)]
    rfl
  unfold Dev.sendHalt
  extract_lets live seq ctl counted epoch crc sent
  split
  · rfl
  · refine ((reported_raise sent _ _ (by decide)).groupState j).trans (foldl_keeps (fun e : Dev => e.groupState j) live _ (fun r e => ?_) counted)
    refine (hbump _ r).trans ?_
    exact foldl_keeps (fun e : Dev => e.groupState j) _ _ (fun p e => by rfl) e

theorem driveOuts_groupState (j : Nat) : d.driveOuts.groupState j = d.groupState j := by
  unfold Dev.driveOuts
  refine forN_keeps (fun e : Dev => e.groupState j) 8 _ (fun o _ e => ?_) d
  unfold Dev.driveOut
  split <;> rfl

theorem stoAll_groupState (j : Nat) (hj : j < 32) (h : d.isl.running = true) : d.stoAll.groupState j = 4 := by
  unfold Dev.stoAll
  rw [if_neg (by simp [h])]
  extract_lets before stopped
  have hstopped : stopped.groupState j = 4 := (stoLoop_groupState d 32 j).trans (if_pos hj)
  rw [driveOuts_groupState]
  split
  · exact hstopped
  · rw [sendHalt_groupState _ _ j, hstopped]

theorem gfTrip_groupState (cause j : Nat) : (d.gfTrip cause).groupState j = d.groupState j := by
  have hset : ∀ (e : Dev) (k v : Nat), k ≠ Obj.GROUP_STATE j → (e.setObj k v).groupState j = e.groupState j := fun e k v hk => by
    rw [Dev.groupState, Dev.obj_setObj_ne _ _ _ _ hk]
    rfl
  have hraise : ∀ (e : Dev) (src data : Nat), src < 256 → (e.raise src data).groupState j = e.groupState j :=
    fun e src data hs => (reported_raise e src data hs).groupState j
  have hgf : ∀ (e : Dev) (st : Nat), (e.setGf st).groupState j = e.groupState j := fun e st => by
    unfold Dev.setGf
    split
    · rfl
    · rw [hraise _ _ _ (by decide), hset _ _ _ (by grind)]
  have hpermit : ∀ e : Dev, e.dropPermit.groupState j = e.groupState j := fun e => by
    unfold Dev.dropPermit
    split
    · rw [hraise _ _ _ (by decide)]
      rfl
    · rfl
  unfold Dev.gfTrip
  split
  · rfl
  · rw [hgf, hpermit, hraise _ _ _ (by decide), hset _ _ _ (by grind)]
    rfl

/-- The STO step puts every group in STO while the island runs. -/
theorem stoStep_groupState (j : Nat) (hj : j < 32) (hrun : d.isl.running = true) (h : (!d.ctl.holding || d.ctl.stoDone) = false) :
    d.stoStep.groupState j = 4 := by
  unfold Dev.stoStep
  rw [if_neg (by rw [h]; decide), gfTrip_groupState _ _ j]
  exact stoAll_groupState _ j hj hrun

/-! ## The command -/

theorem stoStep_idle (s : State) (h : s.dev.ctl.holding = false ∨ s.dev.ctl.stoDone = true) : Answers .safeHoldStoStep s (fun t => s.Same t) := by
  have hdue : s.dev.fresh.stoDue = false := by
    show (s.dev.ctl.holding && !s.dev.ctl.stoDone && _) = false
    rcases h with h | h <;> simp [h]
  refine answers_onDev (fun d => if d.stoDue then d.stoStep else d) rfl ?_
  rw [hdue]
  exact same_of_dict rfl rfl rfl

theorem stoStep_due (s : State) (hholding : s.dev.ctl.holding = true) (hdone : s.dev.ctl.stoDone = false)
    (hready : s.dev.allStand = true ∨ s.dev.ctl.decidedAt + s.dev.obj Obj.SAFE_HOLD_STOP_TIME * 1000000 ≤ s.dev.now) :
    Answers .safeHoldStoStep s (fun t => t.dev.ctl.stoDone = true ∧ t.mem = s.mem ∧
      (s.dev.isl.running = true → ∀ g < 32, t.dev.groupState g = 4)) := by
  have hdue : s.dev.fresh.stoDue = true := by
    show (s.dev.ctl.holding && !s.dev.ctl.stoDone && (s.dev.allStand || decide (s.dev.ctl.decidedAt + s.dev.obj Obj.SAFE_HOLD_STOP_TIME * 1000000
      ≤ s.dev.now))) = true
    rcases hready with h | h <;> simp [hholding, hdone, h]
  have hopen : (!s.dev.fresh.ctl.holding || s.dev.fresh.ctl.stoDone) = false := by
    show (!s.dev.ctl.holding || s.dev.ctl.stoDone) = false
    simp [hholding, hdone]
  refine answers_onDev (fun d => if d.stoDue then d.stoStep else d) rfl ?_
  rw [hdue]
  refine ⟨?_, rfl, fun hrun g hg => ?_⟩
  · have hspine : s.dev.fresh.stoStep.settle.spine = { s.dev.fresh.spine with ctl := { s.dev.fresh.spine.ctl with stoDone := true } } := by
      rw [spine_settle, spine_stoStep]
      exact if_neg (by rw [show (!s.dev.fresh.spine.ctl.holding || s.dev.fresh.spine.ctl.stoDone) = false from hopen]; decide)
    have hsto := congrArg (fun t : Spine => t.ctl.stoDone) hspine
    exact hsto
  · exact ((reported_settle _).groupState g).trans (stoStep_groupState _ g hg hrun hopen)

end Sys2Proof.Machine
end

section
/-! SUPPORT. Boundaries and deadlines that find nothing to do, and the boundary that enters SAFE-HOLD (R31, R39, R65, R136, R340). -/

set_option Elab.async false

namespace Sys2Proof.Machine

/-! ## Nothing to do -/

theorem boundary_idle (s : State) (h : s.dev.cycling = false ∨ s.dev.now < s.dev.cyc.nextAt) :
    Answers .cycleBoundary s (fun t => s.Same t ∧ t.dev.cyc = s.dev.cyc) := by
  have hidle : cycleBoundary (s.dev.fresh, s.mem) = (s.dev.fresh, s.mem) := by
    refine if_pos ?_
    show (!s.dev.cycling || decide (s.dev.now < s.dev.cyc.nextAt)) = true
    rcases h with h | h <;> simp [h]
  refine answers_onBothH cycleBoundary rfl ?_
  rw [hidle]
  dsimp only
  rw [holdDecide_none _ rfl]
  refine ⟨same_of_dict rfl rfl rfl, ?_⟩
  rw [fresh_settle]
  rfl

theorem deadline_idle (s : State) (h : s.dev.cycling = false ∨ s.dev.cyc.dispatched = true ∨ s.dev.now + 5000 < s.dev.cyc.nextAt) :
    Answers .dispatchDeadline s (fun t => s.Same t ∧ t.dev.cyc = s.dev.cyc) := by
  have hidle : s.dev.fresh.dispatch s.mem = s.dev.fresh := by
    refine if_pos ?_
    show (!s.dev.cycling || s.dev.cyc.dispatched || decide (s.dev.now + 5000 < s.dev.cyc.nextAt)) = true
    rcases h with h | h | h <;> simp [h]
  refine answers_onDevH (fun d => d.dispatch s.mem) rfl ?_
  rw [hidle, holdDecide_none _ rfl]
  refine ⟨same_of_dict rfl rfl rfl, ?_⟩
  rw [fresh_settle]
  rfl

/-! ## SAFE-HOLD entered at a boundary -/

@[simp] theorem spine_stoppingEnds (d : Dev) : d.stoppingEnds.spine = d.spine := by
  unfold Dev.stoppingEnds
  refine forN_keeps Dev.spine 128 _ (fun n hn d => ?_) d
  simp (disch := grind [Loose])

theorem getAt_clear (l : List Bool) (i j : Nat) : getAt false (upd (fun _ => false) l i) j = if j = i then false else getAt false l j := by
  by_cases h : j = i
  · subst h
    rw [if_pos rfl]
    induction l generalizing j with
    | nil => rfl
    | cons b t ih => cases j with
      | zero => rfl
      | succ j => exact ih j
  · rw [if_neg h, getAt_upd_ne _ _ _ _ _ (Ne.symm h)]

theorem closedAll_closed (l : List Bool) (i : Nat) (h : i < 8) : getAt false (closedAll l) i = false := by
  have hloop : ∀ n, i < n → getAt false (forN n (fun s l => upd (fun _ => false) l s) l) i = false := by
    intro n hn
    induction n with
    | zero => omega
    | succ n ih =>
      rw [forN, getAt_clear]
      split
      · rfl
      · exact ih (by omega)
  exact hloop 8 h

theorem state_eq (d : Dev) : d.state = d.spine.obj Obj.DEVICE_STATE := (d.spine_obj (by decide)).symm

theorem idle_of_hold {d : Dev} (h : d.state = stSafeHold) : d.booting = false ∧ (!d.cycling || d.ctl.holding) = true := by
  simp [Dev.booting, Dev.cycling, h, stSafeHold, stBoot]

theorem Spine.enterHold_closed (s : Spine) : s.enterHold.queue = [] ∧ s.enterHold.timed = [] ∧ s.enterHold.sessions = closedAll s.sessions ∧
    s.enterHold.obj Obj.SAFETY_TICK_SOURCE ≠ 0 := by
  unfold Spine.enterHold Spine.tick
  split
  · next h => exact ⟨rfl, rfl, rfl, by simpa [Spine.put] using h⟩
  · exact ⟨rfl, rfl, rfl, by simp [Spine.put, b2n]⟩

/-- SAFE-HOLD as a boundary enters it, read off the block. -/
theorem held_of_spine {e : Dev} {s : Spine} (h : e.spine = s.enterHold) (a : State) : e.state = stSafeHold ∧ e.tally.queue = [] ∧
    e.tally.timed = [] ∧ (∀ i < 8, (e.session i).isOpen = false) ∧ e.obj Obj.SAFETY_TICK_SOURCE ≠ 0 ∧ ({ a with dev := e } : State).mem = a.mem := by
  obtain ⟨hqueue, htimed, hsessions, htick⟩ := s.enterHold_closed
  obtain ⟨hstate, -, -⟩ := s.enterHold_obj
  rw [← h] at hqueue htimed hsessions htick hstate
  refine ⟨(state_eq e).trans hstate, hqueue, htimed, fun i hi => ?_, ?_, rfl⟩
  · rw [session_isOpen, hsessions, closedAll_closed _ i hi]
  · rw [← e.spine_obj (by decide)]
    exact htick

theorem boundary_entersHold (s : State) (hcycling : s.dev.cycling = true) (hnow : s.dev.cyc.nextAt ≤ s.dev.now) (hholding : s.dev.ctl.holding = true)
    (hready : s.dev.ctl.stoDone = true ∨ s.dev.ctl.handed = true) : Answers .cycleBoundary s (fun t =>
      t.dev.state = stSafeHold ∧ t.dev.tally.queue = [] ∧ t.dev.tally.timed = [] ∧ (∀ i < 8, (t.dev.session i).isOpen = false) ∧
      t.dev.obj Obj.SAFETY_TICK_SOURCE ≠ 0 ∧ t.mem = s.mem) := by
  have hruns : (!s.dev.fresh.cycling || decide (s.dev.fresh.now < s.dev.fresh.cyc.nextAt)) = false := by
    show (!s.dev.cycling || decide (s.dev.now < s.dev.cyc.nextAt)) = false
    simp [hcycling, hnow]
  have henters : s.dev.fresh.entersHold = true := by
    show (s.dev.ctl.holding && (s.dev.ctl.stoDone || s.dev.ctl.handed)) = true
    rcases hready with h | h <;> simp [hholding, h]
  have hboundary : cycleBoundary (s.dev.fresh, s.mem) = (s.dev.fresh.stoppingEnds.enterHold, s.mem) := by
    unfold cycleBoundary
    dsimp only
    rw [if_neg (by rw [hruns]; decide), if_pos henters]
  have hentered : s.dev.fresh.stoppingEnds.enterHold.spine = s.dev.fresh.spine.enterHold := by
    rw [spine_enterHold, spine_stoppingEnds]
  obtain ⟨hstate, -, -⟩ := s.dev.fresh.spine.enterHold_obj
  have hhold : s.dev.fresh.stoppingEnds.enterHold.state = stSafeHold := by
    rw [Dev.state, ← Dev.spine_obj _ (by decide), hentered, hstate]
  have hspine : s.dev.fresh.stoppingEnds.enterHold.holdDecide.settle.spine = s.dev.fresh.spine.enterHold := by
    obtain ⟨hboot, hidle⟩ := idle_of_hold hhold
    rw [spine_settle, spine_holdDecide_idle _ hboot hidle, hentered]
  refine answers_onBothH cycleBoundary rfl ?_
  rw [hboundary]
  dsimp only
  exact held_of_spine hspine s

end Sys2Proof.Machine
end

section
/-! SUPPORT. The spine through what a boundary applies: latches, retirements, time steps, rates (R118, R122, R132, R163, R166, R285, R573). -/

set_option Elab.async false

namespace Sys2Proof.Machine

variable (d : Dev)

theorem foldl_keeps_mem {α β γ : Type} (π : α → γ) (l : List β) (f : α → β → α) (h : ∀ b ∈ l, ∀ a, π (f a b) = π a) (a : α) :
    π (l.foldl f a) = π a := by
  induction l generalizing a with
  | nil => rfl
  | cons b t ih => exact (ih (fun c hc => h c (List.mem_cons_of_mem b hc)) (f a b)).trans (h b List.mem_cons_self a)

/-! ## The sample instant -/

@[simp] theorem spine_latchTel : d.latchTel.spine = d.spine := by
  unfold Dev.latchTel
  exact forN_keeps Dev.spine 20 _ (fun n _ d => spine_updLeg d n _) d

@[simp] theorem spine_latchSense : d.latchSense.spine = d.spine := by
  unfold Dev.latchSense
  split
  · rfl
  · exact forN_keeps Dev.spine 12 _ (fun p _ d => by simp (disch := grind [Loose])) d

@[simp] theorem spine_latchInputs : d.latchInputs.spine = d.spine := by
  unfold Dev.latchInputs
  refine (forN_keeps Dev.spine 8 _ (fun p hp d => ?_) _).trans (by simp)
  rw [spine_setObj _ _ _ (by grind [Loose])]
  rfl

@[simp] theorem spine_showGather (r : Nat) : (d.showGather r).spine = d.spine := by
  unfold Dev.showGather
  simp (disch := grind [Loose])

theorem spine_newCycle : d.newCycle.spine = { d.spine with cyc := d.newCycle.cyc } := by
  unfold Dev.newCycle
  extract_lets shown cyc
  have hshown : shown.spine = d.spine := by
    unfold shown
    rw [spine_showGather, spine_showGather]
  exact congrArg (fun t : Spine => ({ t with cyc := d.newCycle.cyc } : Spine)) hshown

/-- What the boundary's commands may not touch of the cycle: tag, instants and deadline. -/
def Dev.beat (d : Dev) : Nat × Nat × Nat × Bool := (d.spine.cyc.tag, d.spine.cyc.startAt, d.spine.cyc.nextAt, d.spine.cyc.dispatched)

variable {d} in
theorem beat_of_spine {e : Dev} (h : e.spine = d.spine) : e.beat = d.beat := by
  rw [Dev.beat, h]
  rfl

theorem newCycle_beat : d.newCycle.beat = ((d.cyc.tag + 1) % 2 ^ 32, d.now, d.now + d.cyc.len, false) := by rfl

/-! ## Retirements -/

@[simp] theorem spine_install (f : Nat) (l : List Placed) : (d.install f l).spine = d.spine := by
  unfold Dev.install
  rw [spine_setObj _ _ _ (by grind [Loose]), spine_setObj _ _ _ (by grind [Loose])]
  exact foldl_keeps Dev.spine l _ (fun p d => by simp (disch := grind [Loose])) d

/-- The spine with the health area left out. -/
def Dev.spineBeside (d : Dev) (h : Health) : Spine := { d.spine with health := h }

variable {d} in
theorem spineBeside_of_spine {e : Dev} (hs : e.spine = d.spine) (h : Health) : e.spineBeside h = d.spineBeside h := by
  rw [Dev.spineBeside, hs]
  rfl

theorem spineBeside_retireLane (f lane code : Nat) (h : Health) (hf : f < 8) (hl : lane < 8) :
    (d.retireLane f lane code).spineBeside h = d.spineBeside h := by
  have hretired : ∀ (e : Dev) (l : List (Nat × Nat)), ({ e with health := { e.health with retired := l } } : Dev).spineBeside h = e.spineBeside h :=
    fun e l => by rfl
  have hreduced : ∀ (e : Dev) (l : List Fold), ({ e with folds := l } : Dev).spine = e.spine := fun e l => by rfl
  unfold Dev.retireLane
  extract_lets was shown retired noted less spread
  have hnoted : noted.spineBeside h = d.spineBeside h := by
    refine (hretired shown _).trans (spineBeside_of_spine ?_ h)
    unfold shown
    simp (disch := grind [Loose])
  rw [← hnoted]
  split
  · rfl
  · split
    · next spare hspare =>
      have hlt : spare < 8 := List.mem_range.mp (List.mem_of_find?_eq_some hspare)
      refine spineBeside_of_spine ?_ h
      dsimp only
      rw [spine_showLanes _ f hf, spine_setObj _ _ _ (by grind [Loose])]
      exact foldl_keeps Dev.spine _ _ (fun c e => by simp (disch := grind [Loose])) noted
    · refine spineBeside_of_spine ?_ h
      have hspread : spread.spine = noted.spine := (hreduced less _).trans (spine_showLanes noted f hf)
      rw [← hspread]
      split
      · rfl
      · split
        · rw [spine_raise _ _ _ (by decide) (by decide), spine_install]
        · exact spine_reqCause spread 1 0

theorem spineBeside_retireDue (h : Health) : d.retireDue.spineBeside h = d.spineBeside h := by
  unfold Dev.retireDue
  refine foldl_keeps_mem (fun e : Dev => e.spineBeside h) _ _ (fun i hi e => ?_) d
  have hi : i < 64 := List.mem_range.mp hi
  dsimp only
  split
  · rfl
  · exact (spineBeside_retireLane _ _ _ _ h (by omega) (by omega)).trans (spineBeside_of_spine (spine_updWear e _ _ _) h)

/-! ## Time steps and rates -/

@[simp] theorem beat_setObj (k v : Nat) : (d.setObj k v).beat = d.beat := by rfl

@[simp] theorem beat_setObjI (w k : Nat) (v : Int) : (d.setObjI w k v).beat = d.beat := by rfl

@[simp] theorem beat_raise (src data : Nat) (hs : src < 256) : (d.raise src data).beat = d.beat := by
  rw [Dev.beat, Dev.beat, show (d.raise src data).spine.cyc = d.spine.cyc from (reported_raise d src data hs).cyc]

@[simp] theorem beat_ite (p : Prop) [Decidable p] (a b : Dev) : (if p then a else b).beat = if p then a.beat else b.beat :=
  apply_ite Dev.beat p a b

@[simp] theorem beat_stepDone : d.stepDone.beat = d.beat := by
  unfold Dev.stepDone
  dsimp only
  rw [beat_raise _ _ _ (by decide)]
  rfl

theorem beat_timeStep : d.timeStep.beat = d.beat := by
  unfold Dev.timeStep
  split
  · rfl
  · split
    · rw [beat_stepDone]
      rfl
    · split
      · exact (beat_stepDone _).trans (by rfl)
      · rfl

@[simp] theorem beat_searchT : d.searchT.beat = d.beat := beat_of_spine (spine_searchT d)

@[simp] theorem beat_reqCause (cause fold : Nat) : (d.reqCause cause fold).beat = d.beat := beat_of_spine (spine_reqCause d cause fold)

@[simp] theorem beat_relockT (cause : Nat) (target : Int) : (d.relockT cause target).beat = d.beat := by
  unfold Dev.relockT
  extract_lets was searched tb compensated switched told
  have hswitched : switched.beat = d.beat :=
    (beat_raise _ _ _ (by decide)).trans ((by rfl : _ = d.searchT.beat).trans (beat_searchT d))
  have htold : told.beat = d.beat := by
    unfold told
    split
    · exact hswitched
    · exact (beat_raise _ _ _ (by decide)).trans hswitched
  rw [beat_ite, beat_reqCause, ite_self, htold]

@[simp] theorem beat_requestRelockT (change : Int) : (d.requestRelockT change).beat = d.beat := by
  unfold Dev.requestRelockT Dev.relockBy
  split
  · rfl
  · exact (beat_relockT _ _ _).trans (by rfl)

@[simp] theorem beat_refuseStep : d.refuseStep.beat = d.beat := beat_raise d _ _ (by decide)

@[simp] theorem beat_smallStep (ppb : Int) : (d.smallStep ppb).beat = d.beat := by rfl

@[simp] theorem beat_pumpStep : d.pumpStep.beat = d.beat := by
  unfold Dev.pumpStep
  split
  · rfl
  · extract_lets out tb taken ptp noted
    have htaken : taken.beat = d.beat := by rfl
    have hnoted : noted.beat = d.beat := by
      unfold noted
      split <;> rfl
    simp [htaken, hnoted]

@[simp] theorem beat_applyRate (y : Int) : (d.applyRate y).beat = d.beat := by
  unfold Dev.applyRate
  extract_lets shown ptp noted held drift goal most change part both steps
  split
  · rfl
  · exact (beat_setObjI _ _ _ _).trans ((beat_pumpStep steps).trans (by rfl))

theorem beat_stepDeferred : d.stepDeferred.beat = d.beat := by
  unfold Dev.stepDeferred
  split
  · split
    · unfold Dev.deferStep Dev.freqOnly Dev.showFreq Dev.raiseI
      dsimp only
      rw [beat_applyRate, beat_setObjI, beat_raise _ _ _ (by decide)]
      rfl
    · rfl
  · rfl

theorem beat_countCycle : d.countCycle.beat = d.beat := by rfl

theorem beat_refreshTick : d.refreshTick.beat = d.beat := by
  unfold Dev.refreshTick Dev.tickSource
  split
  · rfl
  · exact (beat_raise _ _ _ (by decide)).trans (by rfl)

end Sys2Proof.Machine
end

section
/-! SUPPORT. Generators and contexts beside the spine (R229, R233, R242, R275, R283 to R285, R329, R339 to R355). -/

set_option Elab.async false

namespace Sys2Proof.Machine

variable (d : Dev)

/-! ## Generators -/

@[simp] theorem spine_homeFinish (n : Nat) : (d.homeFinish n).spine = d.spine := by
  unfold Dev.homeFinish
  dsimp only
  split
  · rfl
  · split
    · rfl
    · rw [spine_setObj _ _ _ (by grind [Loose]), spine_setObj _ _ _ (by grind [Loose]), spine_setObj _ _ _ (by grind [Loose]),
        spine_setObj _ _ _ (by grind [Loose]), spine_putGen]

@[simp] theorem spine_homeFault (n cause : Nat) : (d.homeFault n cause).spine = d.spine := by
  unfold Dev.homeFault
  simp (disch := grind [Loose])

@[simp] theorem spine_homeCheck (n : Nat) : (d.homeCheck n).spine = d.spine := by
  unfold Dev.homeCheck
  simp

@[simp] theorem spine_limitStop (n : Nat) : (d.limitStop n).spine = d.spine := by
  unfold Dev.limitStop
  simp

@[simp] theorem spine_gearCycle (n : Nat) : (d.gearCycle n).spine = d.spine := by
  unfold Dev.gearCycle
  extract_lets _ _ _ _ _ _ _ noted _ _ _ _ _ _ _ _ _ _ _ _ _ _ staged disarmed
  have hstaged : staged.spine = d.spine := by
    unfold staged noted
    simp (disch := grind [Loose])
  have hdisarmed : disarmed.spine = d.spine := by
    unfold disarmed
    simp (disch := grind [Loose]) [hstaged]
  rw [spine_ite, spine_limitStop, spine_putGen, hdisarmed, ite_self]

@[simp] theorem spine_genBoundary (n : Nat) : (d.genBoundary n).spine = d.spine := by
  unfold Dev.genBoundary
  simp

@[simp] theorem spine_leaveMode (n : Nat) : (d.leaveMode n).spine = d.spine := by
  unfold Dev.leaveMode
  simp (disch := grind [Loose])

@[simp] theorem spine_gearEngage (n : Nat) : (d.gearEngage n).spine = d.spine := by
  unfold Dev.gearEngage
  extract_lets
  rw [spine_setObj _ _ _ (by grind [Loose]), spine_putGen]

@[simp] theorem spine_homePhase (n p : Nat) (s : Int) : (d.homePhase n p s).spine = d.spine := by
  unfold Dev.homePhase Dev.showPhase
  extract_lets
  rw [spine_setObj _ _ _ (by grind [Loose]), spine_putGen]

@[simp] theorem spine_homeStart (n : Nat) : (d.homeStart n).spine = d.spine := by
  unfold Dev.homeStart
  simp (disch := grind [Loose])

@[simp] theorem spine_genCommand (n : Nat) (enabled : Bool) : (d.genCommand n enabled).spine = d.spine := by
  unfold Dev.genCommand
  extract_lets g cmd cleared gen discard took left start move speed
  have hcleared : cleared.spine = d.spine := spine_putGen d n _
  have hdiscard : discard.spine = d.spine := (spine_putGen cleared n _).trans hcleared
  have htook : took.spine = d.spine := (spine_putGen cleared n _).trans hcleared
  have hstart : ∀ m s, (start m s).spine = d.spine := fun m s => by
    unfold start
    simp [hdiscard, htook, left]
  have hmove : ∀ t, (move t).spine = d.spine := fun t => by
    unfold move
    simp [hdiscard, hstart]
  clear_value start move took discard cleared cmd
  split
  · exact hdiscard
  · split <;> simp (disch := grind [Loose]) [hdiscard, htook, hstart, hmove, hcleared]

@[simp] theorem spine_rampStops : d.rampStops.spine = d.spine := by
  unfold Dev.rampStops
  extract_lets mask taken
  have htaken : taken.spine = d.spine := by rfl
  split
  · exact htaken
  · exact (forN_keeps Dev.spine 128 _ (fun n _ d => by simp) taken).trans htaken

theorem spine_profileBoundary : d.profileBoundary.spine = d.spine := by
  unfold Dev.profileBoundary
  dsimp only
  rw [spine_stoppingEnds]
  refine (forN_keeps Dev.spine 128 _ (fun n _ d => by simp) _).trans ?_
  rw [spine_rampStops]
  exact forN_keeps Dev.spine 128 _ (fun n _ d => spine_genBoundary d n) d

/-! ## Contexts -/

@[simp] theorem spine_genMark (n : Nat) : (d.genMark n).spine = d.spine := by rfl

@[simp] theorem spine_latchSetPoint (c : Nat) : (d.latchSetPoint c).spine = d.spine := by
  unfold Dev.latchSetPoint
  split <;> simp

@[simp] theorem spine_beginCycle (c : Nat) : (d.beginCycle c).spine = d.spine := by
  unfold Dev.beginCycle
  extract_lets a hist accepted pred grid begun
  rw [spine_ite, spine_latchSetPoint, ite_self]
  exact spine_updAxis d c _

@[simp] theorem spine_genHeld (n : Nat) (x : Option Nat) : (d.genHeld n x).spine = d.spine := by
  unfold Dev.genHeld
  extract_lets
  rw [spine_putGen, spine_homeFault]

@[simp] theorem spine_holdIfOff (c : Nat) : (d.holdIfOff c).spine = d.spine := by
  unfold Dev.holdIfOff
  simp

theorem spine_contextsBegin : d.contextsBegin.spine = d.spine := by
  unfold Dev.contextsBegin
  dsimp only
  refine (foldl_keeps Dev.spine _ _ (fun n d => spine_holdIfOff d n) _).trans ?_
  exact foldl_keeps Dev.spine _ _ (fun c d => spine_beginCycle d c) d

theorem spine_copyProfile : d.copyProfile.spine = d.spine := by
  unfold Dev.copyProfile
  simp

theorem spine_heartbeat : d.heartbeat.spine = d.spine := by
  unfold Dev.heartbeat
  simp

end Sys2Proof.Machine
end

section
/-! SUPPORT. The record engine beside the spine (R524 to R535, R540, R543, R549). -/

set_option Elab.async false

namespace Sys2Proof.Machine

variable (d : Dev)

/-! ## Streams -/

/-- A datagram that a stream sends takes buffers and a frame, and the recorder's number. -/
theorem spine_streamSend {r : Nat} {bytes : List Byte} {e : Dev} (h : d.streamSend r bytes = some e) : e.spine = d.spine := by
  unfold Dev.streamSend Dev.poolTake at h
  dsimp only at h
  by_cases hleaves : d.udpLeaves (d.obj Obj.STREAM_ETH_PORT) (d.obj Obj.STREAM_ADDRESS) = true
  · rw [if_neg (by simp [hleaves])] at h
    by_cases hfits : d.poolFits 6 (buffersOf (bytes.length + 42)) = true
    · rw [if_pos hfits] at h
      injection h with h
      rw [← h, spine_updRec, spine_ethQueue, spine_poolSet]
    · rw [if_neg hfits] at h
      cases h
  · rw [if_pos (by simpa using hleaves)] at h
    injection h with h
    rw [← h]

@[simp] theorem spine_streamGap (r : Nat) : (d.streamGap r).spine = d.spine := by
  unfold Dev.streamGap
  split
  · rfl
  · split
    · simp
    · next hsend => simp [spine_streamSend d hsend]

@[simp] theorem spine_streamFlush (r : Nat) : (d.streamFlush r).spine = d.spine := by
  unfold Dev.streamFlush
  extract_lets x taken gapped n
  have hgapped : gapped.spine = d.spine := (spine_streamGap taken r).trans (spine_updRec d r _)
  clear_value gapped x
  split
  · rfl
  · extract_lets lose
    have hlose : ∀ e : Dev, (lose e).spine = e.spine := fun e => by
      unfold lose
      rw [spine_recFlag, spine_updRec]
    clear_value lose
    split
    · rw [hlose, hgapped]
    · split
      · next hsend => rw [spine_streamSend gapped hsend, hgapped]
      · rw [hlose, spine_poolDrop, hgapped]

@[simp] theorem spine_streamEnd (r : Nat) : (d.streamEnd r).spine = d.spine := by
  unfold Dev.streamEnd
  simp

@[simp] theorem spine_sendAcq (op group time origin : Nat) : (d.sendAcq op group time origin).spine = d.spine := by
  unfold Dev.sendAcq
  exact foldl_keeps Dev.spine _ _ (fun r d => by simp) d

/-! ## Arming -/

@[simp] theorem spine_armRec (r : Nat) : (d.armRec r).spine = d.spine := by
  unfold Dev.armRec
  extract_lets fast div old streams ended _ x begun cleared armed
  have hended : ended.spine = d.spine := by
    unfold ended
    simp
  have hcleared : cleared.spine = begun.spine := by
    unfold cleared
    simp (disch := grind [Loose])
  have harmed : armed.spine = d.spine := (spine_setObj _ _ _ (by grind [Loose])).trans (hcleared.trans ((spine_updRec ended r _).trans hended))
  rw [spine_ite, spine_sendAcq, ite_self, harmed]

@[simp] theorem spine_rearm (r : Nat) : (d.rearm r).spine = d.spine := by
  unfold Dev.rearm
  simp

@[simp] theorem spine_unitsRun : d.unitsRun.spine = d.spine := by
  unfold Dev.unitsRun
  exact forN_keeps Dev.spine 16 _ (fun u _ d => by simp) d

/-! ## Triggers -/

@[simp] theorem spine_streamTrigger (r point : Nat) : (d.streamTrigger r point).spine = d.spine := by
  unfold Dev.streamTrigger
  extract_lets gapped
  have hgapped : gapped.spine = d.spine := by
    unfold gapped
    simp
  clear_value gapped
  split
  · rfl
  · split
    · next hsend => rw [spine_streamSend gapped hsend, hgapped]
    · rw [spine_poolDrop, hgapped]

@[simp] theorem spine_fixTrigger (r openAt point f : Nat) : (d.fixTrigger r openAt point f).spine = d.spine := by
  unfold Dev.fixTrigger
  extract_lets x pre post late want held posts after windowed timed counted short tardy told less streamed fired
  have hcounted : counted.spine = d.spine := by
    unfold counted timed windowed
    simp (disch := grind [Loose])
  have htold : told.spine = d.spine := by
    unfold told tardy short
    simp [hcounted]
  have hstreamed : streamed.spine = d.spine := by
    unfold streamed less
    simp [htold]
  have hfired : fired.spine = d.spine := by
    unfold fired
    simp [hstreamed]
  rw [spine_ite, spine_complete, ite_self, hfired]

@[simp] theorem spine_windowEnd (r : Nat) : (d.windowEnd r).spine = d.spine := by
  unfold Dev.windowEnd
  split
  · rfl
  · split
    · rfl
    · simp

@[simp] theorem spine_receive (r : Nat) (unit : Option Nat) (remote : Bool) (point f : Nat) : (d.receive r unit remote point f).spine = d.spine := by
  unfold Dev.receive
  extract_lets ended flagged
  have hended : ended.spine = d.spine := spine_windowEnd d r
  have hflagged : flagged.spine = d.spine := by
    unfold flagged
    simp [hended]
  clear_value ended flagged
  rw [spine_ite, spine_updRec, spine_ite, spine_recFlag, hended, hflagged, ite_self, ite_self]

@[simp] theorem spine_decideUnit (u point f : Nat) : (d.decideUnit u point f).spine = d.spine := by
  unfold Dev.decideUnit
  refine (forN_keeps Dev.spine 4 _ (fun r _ d => by simp) _).trans ?_
  simp (disch := grind [Loose])

@[simp] theorem spine_eventUnit (u : Nat) : (d.eventUnit u).spine = d.spine := by
  unfold Dev.eventUnit
  exact (foldl_keeps Dev.spine _ _ (fun e d => by simp) _).trans (by simp)

@[simp] theorem spine_forget (n : Nat) : (d.forget n).spine = d.spine := by rfl

/-! ## Samples -/

theorem spine_acq (a : Acq) : ({ d with acq := a } : Dev).spine = d.spine := by rfl

@[simp] theorem spine_streamSample (r : Nat) (s : Sample) : (d.streamSample r s).spine = d.spine := by
  unfold Dev.streamSample
  simp

@[simp] theorem spine_drainQueue : d.drainQueue.spine = d.spine := by
  unfold Dev.drainQueue
  dsimp only
  split <;> rfl

@[simp] theorem spine_takeSample (r t : Nat) : (d.takeSample r t).spine = d.spine := by
  unfold Dev.takeSample
  extract_lets ended x got s st wrong b full block drained size lost _ room peak closed kept streamed
  have hended : ended.spine = d.spine := spine_windowEnd d r
  have hwrong : wrong.spine = ended.spine := by
    unfold wrong
    rw [spine_ite, spine_recFlag, ite_self]
  have hfull : full.spine = wrong.spine := by
    unfold full
    rw [spine_ite, spine_recFlag, ite_self]
  have hdrained : drained.spine = d.spine :=
    (spine_drainQueue block).trans ((spine_updRec full r _).trans (hfull.trans (hwrong.trans hended)))
  have hlost : lost.spine = d.spine := (spine_updRec _ r _).trans ((spine_bump drained _ (by grind [Loose])).trans hdrained)
  have hpeak : peak.spine = d.spine := (spine_setObj room _ _ (by grind [Loose])).trans ((spine_acq drained _).trans hdrained)
  have hkept : kept.spine = d.spine := (spine_updRec closed r _).trans ((spine_closeGap peak r).trans hpeak)
  have hstreamed : streamed.spine = d.spine := (spine_streamSample kept r s).trans hkept
  rw [spine_ite, spine_ite, spine_ite, spine_complete, spine_streamSample, spine_streamSample, ite_self, hended, hlost, hstreamed, ite_self, ite_self]

@[simp] theorem spine_sampleRecs (fast : Bool) (p : Nat → Bool) (t : Nat) : (d.sampleRecs fast p t).spine = d.spine := by
  unfold Dev.sampleRecs
  refine forN_keeps Dev.spine 4 _ (fun r _ d => ?_) d
  extract_lets x st counted
  have hcounted : counted.spine = d.spine := spine_updRec d r _
  rw [spine_ite, spine_ite, spine_takeSample, hcounted, ite_self, ite_self]

@[simp] theorem spine_wmaxExpiry (u : Nat) : (d.wmaxExpiry u).spine = d.spine := by
  unfold Dev.wmaxExpiry
  split
  · rfl
  · split
    · rfl
    · split
      · rfl
      · simp

@[simp] theorem spine_unitSample (u t : Nat) : (d.unitSample u t).spine = d.spine := by
  unfold Dev.unitSample
  extract_lets w s expired x l h per c used ready lo hi keep riseA from_ found kept again
  have hkept : kept.spine = d.spine := by
    unfold kept keep expired
    simp
  have hagain : again.spine = d.spine := by
    unfold again
    split
    · split
      · exact hkept
      · exact hkept
    · exact hkept
  clear_value again found
  split
  · rw [spine_decideUnit, hagain]
  · exact hagain

@[simp] theorem spine_sampleUnits (fast : Bool) (p : Nat → Bool) (t : Nat) : (d.sampleUnits fast p t).spine = d.spine := by
  unfold Dev.sampleUnits
  refine forN_keeps Dev.spine 16 _ (fun u _ d => ?_) d
  extract_lets x counted
  have hcounted : counted.spine = d.spine := spine_updUnit d u _
  rw [spine_ite, spine_ite, spine_unitSample, hcounted, ite_self, ite_self]

theorem spine_acqBoundary : d.acqBoundary.spine = d.spine := by
  unfold Dev.acqBoundary
  extract_lets armed run n told left _ latched t sampled
  have harmed : armed.spine = d.spine := forN_keeps Dev.spine 4 _ (fun r _ d => by simp) d
  have htold : told.spine = run.spine := forN_keeps Dev.spine 16 _ (fun u _ d => by simp) run
  have hsampled : sampled.spine = told.spine := (spine_sampleRecs latched _ _ _).trans ((spine_acq left _).trans (spine_forget told n))
  rw [spine_sampleUnits, hsampled, htold, spine_unitsRun, harmed]

@[simp] theorem spine_acqDispatch : d.acqDispatch.spine = d.spine := by
  unfold Dev.acqDispatch
  simp

end Sys2Proof.Machine
end

section
/-! SUPPORT. A boundary in a state that computes, with nothing to apply: the next cycle begins (R24, R71, R136). -/

set_option Elab.async false

namespace Sys2Proof.Machine

/-- The pair has nothing to do at the boundary of a unit without one. -/
theorem pairAtBoundary_single (x : DM) (tag : Nat) (h : x.1.obj Obj.ROLE = 0) :
    pairAtBoundary x tag = (x.1.updPair14 (fun p => { p with takeTag := none }), x.2) := by
  have hboundary : x.1.pairBoundary tag = x.1.updPair14 (fun p => { p with takeTag := none }) := by
    unfold Dev.pairBoundary
    rw [h]
    rfl
  have hhead : (x.1.updPair14 (fun p => { p with takeTag := none })).isHead = true := by
    show (decide (x.1.obj Obj.ROLE = 0) || decide (x.1.obj Obj.ROLE = 1)) = true
    simp [h]
  unfold pairAtBoundary
  rw [h, hboundary, Dev.followTag, if_pos hhead]
  rfl

/-- With no write waiting, none is applied. -/
theorem applyWrites_none (x : DM) (hqueue : x.1.tally.queue = []) (htimed : x.1.tally.timed = []) : applyWrites x = x := by
  have hsame : (({ x.1 with tally := { x.1.tally with queue := [], timed := [] } }, x.2) : DM) = x := by rw [← hqueue, ← htimed]
  refine Eq.trans ?_ hsame
  simp only [applyWrites, hqueue, htimed, List.filter_nil, List.map_nil, List.foldl_nil, List.append_nil]

/-- Whether AUTO_READY has asked, noted (R590). -/
def Dev.noteAsked (d : Dev) (asked : Bool) : Dev := { d with ctl := { d.ctl with autoAsked := asked } }

theorem noteAsked_keeps (d : Dev) (asked : Bool) : (d.noteAsked asked).ctl.trans = d.ctl.trans ∧ (d.noteAsked asked).beat = d.beat := ⟨rfl, rfl⟩

theorem autoReady_past (x : DM) (h : x.1.state ≠ stConfig) : autoReady x = (x.1.noteAsked false, x.2) := by
  have hdue : (x.1.state == stConfig) = false := by simpa using h
  unfold autoReady
  dsimp only
  rw [hdue]
  rfl

/-- Without a transition begun, none is carried out. -/
theorem carryOut_none (x : DM) (h : x.1.ctl.trans = .none) : (carryOut x).1.beat = x.1.beat ∧ (carryOut x).2 = x.2 := by
  unfold carryOut
  dsimp only
  by_cases hcause : x.1.ctl.causeReq.isSome = true
  · rw [if_pos hcause, if_pos hcause]
    exact ⟨rfl, rfl⟩
  · rw [if_neg hcause, if_neg hcause, h]
    exact ⟨rfl, rfl⟩

/-- The block as the writes of a boundary meet it, in a unit without a pair. -/
def Dev.meetsWrites (d : Dev) : Dev := (d.latchInputs.updPair14 (fun p => { p with takeTag := none })).retireDue.committedDue

theorem spine_committedDue (d : Dev) : d.committedDue.spine = d.spine := by rfl

theorem spineBeside_meetsWrites (d : Dev) (h : Health) : d.meetsWrites.spineBeside h = d.spineBeside h := by
  unfold Dev.meetsWrites
  rw [spineBeside_of_spine (spine_committedDue _), spineBeside_retireDue, spineBeside_of_spine (spine_updPair14 _ _),
    spineBeside_of_spine (spine_latchInputs d)]

/-- What the spine without the health area says of the state, the transition, the writes that wait and the cycle. -/
theorem calm_of_beside {d e : Dev} {h : Health} (hb : e.spineBeside h = d.spineBeside h) :
    e.state = d.state ∧ e.ctl.trans = d.ctl.trans ∧ e.tally.queue = d.tally.queue ∧ e.tally.timed = d.tally.timed ∧ e.beat = d.beat := by
  have hobj := congrArg Spine.obj hb
  have hctl := congrArg Spine.ctl hb
  have hcyc := congrArg Spine.cyc hb
  change e.spine.obj = d.spine.obj at hobj
  change e.spine.ctl = d.spine.ctl at hctl
  change e.spine.cyc = d.spine.cyc at hcyc
  have htrans := congrArg DevCtl.trans hctl
  refine ⟨?_, htrans, congrArg Spine.queue hb, congrArg Spine.timed hb, ?_⟩
  · rw [state_eq, hobj, ← state_eq]
  · rw [Dev.beat, hcyc]
    rfl

theorem applyAll_eq (x : DM) (tag : Nat) (hrole : x.1.obj Obj.ROLE = 0) (hstate : x.1.state ≠ stConfig) (hqueue : x.1.tally.queue = [])
    (htimed : x.1.tally.timed = []) : applyAll x tag =
      let y := carryOut (x.1.meetsWrites.noteAsked false, x.2)
      (y.1.timeStep.stepDeferred.countCycle.refreshTick, y.2) := by
  obtain ⟨hs, -, hq, ht, -⟩ := calm_of_beside (spineBeside_meetsWrites x.1 x.1.health)
  have hlatched : x.1.latchInputs.obj Obj.ROLE = 0 := (obj_of_spine (spine_latchInputs x.1) (by decide)).trans hrole
  have hmeets : (x.1.latchInputs.updPair14 (fun p => { p with takeTag := none })).retireDue.committedDue = x.1.meetsWrites := rfl
  have hauto : autoReady (applyWrites (x.1.meetsWrites, x.2)) =
      (x.1.meetsWrites.noteAsked false, x.2) := by
    rw [applyWrites_none (x.1.meetsWrites, x.2) (hq.trans hqueue) (ht.trans htimed), autoReady_past (x.1.meetsWrites, x.2) (hs.trans_ne hstate)]
  unfold applyAll
  rw [pairAtBoundary_single (x.1.latchInputs, x.2) tag hlatched]
  dsimp only
  rw [hmeets, hauto]

/-- What a boundary applies leaves the cycle just begun, where nothing waits. -/
theorem applyAll_calm (x : DM) (tag : Nat) (hrole : x.1.obj Obj.ROLE = 0) (hstate : x.1.state ≠ stConfig) (htrans : x.1.ctl.trans = .none)
    (hqueue : x.1.tally.queue = []) (htimed : x.1.tally.timed = []) :
    (applyAll x tag).1.beat = x.1.beat ∧ (applyAll x tag).2 = x.2 := by
  obtain ⟨-, ht, -, -, hbeat⟩ := calm_of_beside (spineBeside_meetsWrites x.1 x.1.health)
  obtain ⟨hkept, hasked⟩ := noteAsked_keeps x.1.meetsWrites false
  obtain ⟨hcarried, hram⟩ := carryOut_none (x.1.meetsWrites.noteAsked false, x.2) (hkept.trans (ht.trans htrans))
  rw [applyAll_eq x tag hrole hstate hqueue htimed]
  dsimp only
  refine ⟨?_, hram⟩
  rw [beat_refreshTick, beat_countCycle, beat_stepDeferred, beat_timeStep, hcarried, hasked, hbeat]

/-! ## The boundary -/

/-- The rest of a boundary, its generators, contexts and records, keeps the cycle. -/
theorem beat_boundaryRest (d : Dev) : (if d.isHead then d.profileBoundary else d).contextsBegin.copyProfile.heartbeat.acqBoundary.beat = d.beat := by
  refine beat_of_spine ?_
  rw [spine_acqBoundary, spine_heartbeat, spine_copyProfile, spine_contextsBegin, spine_ite, spine_profileBoundary, ite_self]

/-- A boundary with nothing to apply and no SAFE-HOLD begins the next cycle. -/
theorem cycleBoundary_calm (x : DM) (hstate : x.1.state ∈ [stReady, stRun, stService]) (hnow : x.1.cyc.nextAt ≤ x.1.now)
    (hrole : x.1.obj Obj.ROLE = 0) (hholding : x.1.ctl.holding = false) (htrans : x.1.ctl.trans = .none) (hqueue : x.1.tally.queue = [])
    (htimed : x.1.tally.timed = []) :
    (cycleBoundary x).1.beat = ((x.1.cyc.tag + 1) % 2 ^ 32, x.1.now, x.1.now + x.1.cyc.len, false) ∧ (cycleBoundary x).2 = x.2 := by
  have hnew := spine_newCycle x.1
  have hrole' : x.1.newCycle.obj Obj.ROLE = 0 := by
    rw [← Dev.spine_obj _ (by decide), hnew, ← hrole, ← x.1.spine_obj (by decide)]
  have hstate' : x.1.newCycle.state = x.1.state := by
    rw [state_eq, hnew, state_eq]
  have hctl : x.1.newCycle.ctl = x.1.ctl := rfl
  have hdue : x.1.newCycle.stoDue = false := by
    rw [Dev.stoDue, hctl, hholding]
    rfl
  have hconfig : x.1.newCycle.state ≠ stConfig := by
    rw [hstate']
    rintro h
    rw [h] at hstate
    revert hstate
    decide
  have hcycling : x.1.cycling = true := by
    rw [Dev.cycling]
    revert hstate
    generalize x.1.state = st
    simp only [List.mem_cons, List.not_mem_nil, or_false]
    rintro (rfl | rfl | rfl) <;> decide
  obtain ⟨hbeat, hram⟩ := applyAll_calm (x.1.newCycle, x.2) x.1.cyc.tag hrole' hconfig htrans hqueue htimed
  have hboundary : cycleBoundary x =
      ((if (applyAll (x.1.newCycle, x.2) x.1.cyc.tag).1.isHead then (applyAll (x.1.newCycle, x.2) x.1.cyc.tag).1.profileBoundary
        else (applyAll (x.1.newCycle, x.2) x.1.cyc.tag).1).contextsBegin.copyProfile.heartbeat.acqBoundary,
        (applyAll (x.1.newCycle, x.2) x.1.cyc.tag).2) := by
    unfold cycleBoundary
    dsimp only
    rw [if_neg (by simp [hcycling, hnow]), if_neg (by simp [Dev.entersHold, hholding]), hdue]
    rfl
  rw [hboundary]
  dsimp only at hram ⊢
  exact ⟨(beat_boundaryRest _).trans (hbeat.trans (newCycle_beat x.1)), hram⟩

theorem boundary_newCycle (s : State) (hstate : s.dev.state ∈ [stReady, stRun, stService]) (hnow : s.dev.cyc.nextAt ≤ s.dev.now)
    (hrole : s.dev.obj Obj.ROLE = 0) (hholding : s.dev.ctl.holding = false) (htrans : s.dev.ctl.trans = .none) (hqueue : s.dev.tally.queue = [])
    (htimed : s.dev.tally.timed = []) :
    Answers .cycleBoundary s (fun t => t.dev.cyc.tag = (s.dev.cyc.tag + 1) % 2 ^ 32 ∧ t.dev.cyc.startAt = s.dev.now ∧
      t.dev.cyc.nextAt = s.dev.now + s.dev.cyc.len ∧ t.dev.cyc.dispatched = false ∧ t.mem = s.mem) := by
  obtain ⟨hbeat, hram⟩ := cycleBoundary_calm (s.dev.fresh, s.mem) hstate hnow hrole hholding htrans hqueue htimed
  refine answers_onBothH cycleBoundary rfl ?_
  dsimp only
  generalize (cycleBoundary (s.dev.fresh, s.mem)).1 = d at hbeat
  have hfinal : d.holdDecide.settle.beat = d.beat := by
    rw [beat_of_spine (spine_settle _), Dev.beat, (holdDecide_sameCycle d).1]
    rfl
  rw [hbeat, Dev.beat] at hfinal
  simp only [Prod.mk.injEq] at hfinal
  obtain ⟨htag, hstart, hnext, hdone⟩ := hfinal
  exact ⟨htag, hstart, hnext, hdone, hram⟩

end Sys2Proof.Machine
end

section
/-! SUPPORT. The close of a cycle beside the spine, and what it leaves of the contexts' places and results (R244 to R250, R354, R368, R437). -/

set_option Elab.async false

namespace Sys2Proof.Machine

/-- What stands of the contexts while a cycle closes: whether they are configured, their folds, and the results that wait. -/
def Dev.standing (d : Dev) : (Nat → Nat × Nat) × List (List (Nat × Nat)) :=
  (fun c => (d.obj (Obj.CONFIGURED c), d.obj (Obj.CTX_FOLD c)), d.axes.map Axis.pub)

/-- The object is no context's CONFIGURED or CTX_FOLD. -/
def Aside (k : Nat) : Prop := 0xA00000 ≤ k → k % 0x4000 ≠ 1 ∧ k % 0x4000 ≠ 2

variable (d : Dev)

@[simp] theorem standing_setObj (k v : Nat) (h : Aside k) : (d.setObj k v).standing = d.standing := by
  have hplaces : ∀ c, (d.setObj k v).obj (Obj.CONFIGURED c) = d.obj (Obj.CONFIGURED c) ∧
      (d.setObj k v).obj (Obj.CTX_FOLD c) = d.obj (Obj.CTX_FOLD c) := fun c =>
    ⟨d.obj_setObj_ne _ _ _ (by grind [Aside]), d.obj_setObj_ne _ _ _ (by grind [Aside])⟩
  unfold Dev.standing
  simp only [hplaces]
  rfl

variable {d} in
theorem Reported.standing {e : Dev} (h : Reported d e) : e.standing = d.standing := by
  have hplaces : ∀ c, e.obj (Obj.CONFIGURED c) = d.obj (Obj.CONFIGURED c) ∧ e.obj (Obj.CTX_FOLD c) = d.obj (Obj.CTX_FOLD c) := fun c =>
    ⟨h.obj _ (by unfold eventKey; grind), h.obj _ (by unfold eventKey; grind)⟩
  unfold Dev.standing
  simp only [hplaces, h.axes]

@[simp] theorem standing_raise (src data : Nat) (h : src < 256) : (d.raise src data).standing = d.standing := (reported_raise d src data h).standing

theorem standing_updAxis (c : Nat) (g : Axis → Axis) (h : ∀ a, (g a).pub = a.pub) : (d.updAxis c g).standing = d.standing := by
  have hpub : (upd g d.axes c).map Axis.pub = d.axes.map Axis.pub := by
    rw [map_upd Axis.pub g id h]
    generalize d.axes.map Axis.pub = l
    induction l generalizing c with
    | nil => rfl
    | cons a t ih => cases c with
      | zero => rfl
      | succ c => exact congrArg (a :: ·) (ih c)
  unfold Dev.standing
  rw [show (d.updAxis c g).axes = upd g d.axes c from rfl, hpub]
  rfl

@[simp] theorem standing_ite (p : Prop) [Decidable p] (a b : Dev) : (if p then a else b).standing = if p then a.standing else b.standing :=
  apply_ite Dev.standing p a b

/-! ## Generators -/

theorem standing_gens (l : List Gen) : ({ d with gens := l } : Dev).standing = d.standing := by rfl

@[simp] theorem standing_putGen (n : Nat) (g : Gen) : (d.putGen n g).standing = d.standing := by
  unfold Dev.putGen
  extract_lets put
  rw [standing_setObj _ _ _ (by grind [Aside]), standing_setObj _ _ _ (by grind [Aside])]
  exact standing_gens d _

@[simp] theorem standing_genStop (n : Nat) : (d.genStop n).standing = d.standing := by
  unfold Dev.genStop
  dsimp only
  split <;> simp (disch := grind [Aside])

@[simp] theorem standing_homeFault (n cause : Nat) : (d.homeFault n cause).standing = d.standing := by
  unfold Dev.homeFault
  simp (disch := grind [Aside])

/-! ## Reactions -/

/-- What the close of a cycle keeps. -/
def Dev.kept (d : Dev) : Spine × (Nat → Nat × Nat) × List (List (Nat × Nat)) := (d.spine, d.standing)

variable {d} in
theorem kept_of {e : Dev} (hs : e.spine = d.spine) (ht : e.standing = d.standing) : e.kept = d.kept := by
  rw [Dev.kept, hs, ht]
  rfl

@[simp] theorem kept_ite (p : Prop) [Decidable p] (a b : Dev) : (if p then a else b).kept = if p then a.kept else b.kept :=
  apply_ite Dev.kept p a b

@[simp] theorem kept_raise (src data : Nat) (hs : src < 256) (h : src ≠ 7) : (d.raise src data).kept = d.kept :=
  kept_of (spine_raise d src data hs h) (standing_raise d src data hs)

@[simp] theorem kept_setObj (k v : Nat) (h : Loose k) (h' : Aside k) : (d.setObj k v).kept = d.kept :=
  kept_of (spine_setObj d k v h) (standing_setObj d k v h')

@[simp] theorem kept_genStop (n : Nat) : (d.genStop n).kept = d.kept := kept_of (spine_genStop d n) (standing_genStop d n)

@[simp] theorem kept_homeFault (n cause : Nat) : (d.homeFault n cause).kept = d.kept := kept_of (spine_homeFault d n cause) (standing_homeFault d n cause)

theorem kept_updAxis (c : Nat) (g : Axis → Axis) (h : ∀ a, (g a).pub = a.pub) : (d.updAxis c g).kept = d.kept :=
  kept_of (spine_updAxis d c g) (standing_updAxis d c g h)

@[simp] theorem kept_faultReaction (n cause : Nat) : (d.faultReaction n cause).kept = d.kept := by
  unfold Dev.faultReaction
  extract_lets st new shown due told
  have hdue : due.kept = d.kept := by
    refine (kept_updAxis shown n _ (by intro a; rfl)).trans ?_
    unfold shown
    rw [kept_setObj _ _ _ (by grind [Loose]) (by grind [Aside]), kept_setObj _ _ _ (by grind [Loose]) (by grind [Aside])]
  have htold : told.kept = d.kept := (kept_raise due _ _ (by decide) (by decide)).trans hdue
  simp [htold]

@[simp] theorem kept_unhome (n : Nat) : (d.unhome n).kept = d.kept := by
  unfold Dev.unhome
  rw [kept_ite, kept_setObj _ _ _ (by grind [Loose]) (by grind [Aside]), ite_self]

@[simp] theorem kept_feedbackLost (n : Nat) : (d.feedbackLost n).kept = d.kept := by
  unfold Dev.feedbackLost
  extract_lets a stuck cause st told
  have htold : told.kept = d.kept := by
    unfold told
    simp
  have hflag : ∀ a : Axis, (if st = 4 then a else a.flag 1).pub = a.pub := fun a => by split <;> rfl
  rw [kept_ite, kept_faultReaction, kept_updAxis _ _ _ hflag, htold, ite_self]

@[simp] theorem kept_positionFrozen (n : Nat) : (d.positionFrozen n).kept = d.kept := by
  unfold Dev.positionFrozen
  extract_lets limit c
  rw [kept_ite, kept_faultReaction, kept_updAxis, kept_raise _ _ _ (by decide) (by decide), ite_self]
  exact fun a => rfl

@[simp] theorem kept_missReached (n : Nat) : (d.missReached n).kept = d.kept := by
  unfold Dev.missReached
  simp

theorem kept_closeCycle (c : Nat) : (d.closeCycle c).kept = d.kept := by
  unfold Dev.closeCycle
  extract_lets a grid noRecord none' lost fed frozen committed missed counted limited reacted late miss freeze
  have hnone : none'.kept = d.kept := by
    unfold none'
    rw [kept_ite, kept_raise _ _ _ (by decide) (by decide), kept_updAxis, ite_self]
    exact fun a => rfl
  have hfrozen : frozen.kept = d.kept := by
    unfold frozen fed lost
    simp [hnone]
  have hcounted : counted.kept = d.kept := by
    unfold counted
    rw [kept_ite, kept_updAxis, hfrozen, ite_self]
    exact fun a => rfl
  have hreacted : reacted.kept = d.kept := by
    unfold reacted limited
    simp [hcounted]
  rw [kept_updAxis, hreacted]
  intro a
  split <;> rfl

/-! ## The grid-former, STO and the lanes at the deadline -/

theorem kept_gfTrip (cause : Nat) : (d.gfTrip cause).kept = d.kept := by
  have hgf : ∀ (e : Dev) (st : Nat), (e.setGf st).kept = e.kept := fun e st => by
    unfold Dev.setGf
    rw [kept_ite, kept_raise _ _ _ (by decide) (by decide), kept_setObj _ _ _ (by grind [Loose]) (by grind [Aside]), ite_self]
  have hpermit : ∀ e : Dev, e.dropPermit.kept = e.kept := fun e => by
    unfold Dev.dropPermit
    split
    · exact (kept_raise _ _ _ (by decide) (by decide)).trans (by rfl)
    · rfl
  unfold Dev.gfTrip
  extract_lets tripped
  have htripped : tripped.kept = d.kept :=
    (kept_raise _ _ _ (by decide) (by decide)).trans ((kept_setObj _ _ _ (by grind [Loose]) (by grind [Aside])).trans (by rfl))
  rw [kept_ite, hgf, hpermit, htripped, ite_self]

theorem kept_gfMissed (missed : Nat) : (d.gfMissed missed).kept = d.kept := by
  unfold Dev.gfMissed
  rw [kept_ite, kept_gfTrip, show d.gfLegsOff.kept = d.kept by rfl, ite_self]

theorem kept_gfHeld (missed : Nat) : (d.gfHeld missed).kept = d.kept := by
  unfold Dev.gfHeld
  simp

theorem kept_stoDisable : d.stoDisable.kept = d.kept := by
  unfold Dev.stoDisable
  extract_lets mask taken
  have htaken : taken.kept = d.kept := by rfl
  split
  · exact htaken
  · refine (forN_keeps Dev.kept 128 _ (fun n _ e => ?_) taken).trans htaken
    rw [kept_ite, kept_setObj _ _ _ (by grind [Loose]) (by grind [Aside]), ite_self]

theorem kept_updLane (f l : Nat) (g : Lane → Lane) : (d.updLane f l g).kept = d.kept := by rfl

theorem kept_stopPass (f l why : Nat) : (d.stopPass f l why).kept = d.kept := by
  have hwork : ∀ (e : Dev) (p : Pass), (e.stopWork p).kept = e.kept := fun e p => by
    unfold Dev.stopWork
    rw [kept_ite, kept_updAxis, ite_self]
    exact fun a => rfl
  unfold Dev.stopPass
  split
  · rfl
  · unfold Dev.endStopped Dev.dropPass
    rw [kept_ite, hwork, kept_updLane, kept_updLane, ite_self]

theorem kept_closeContexts : d.closeContexts.kept = d.kept := by
  unfold Dev.closeContexts
  extract_lets took cs closed missed
  have hclosed : closed.kept = d.kept := foldl_keeps Dev.kept cs _ (fun c e => by rw [kept_ite, kept_closeCycle, ite_self]) d
  have hmissed : missed.kept = d.kept := by
    unfold missed
    rw [kept_ite, kept_gfMissed, kept_gfHeld, hclosed, ite_self]
  rw [kept_stoDisable]
  unfold Dev.stopAll
  refine (forN_keeps Dev.kept 8 _ (fun f _ e => ?_) missed).trans hmissed
  exact forN_keeps Dev.kept 8 _ (fun l _ e => kept_stopPass e f l 1) e

end Sys2Proof.Machine
end

section
/-! SUPPORT. The results a deadline publishes (R71, R245, R253, R256, R258, R259, R365). -/

set_option Elab.async false

namespace Sys2Proof.Machine

variable (d : Dev)

/-! ## Counts -/

@[simp] theorem kept_countContext (c : Nat) : (d.countContext c).kept = d.kept := by
  unfold Dev.countContext
  extract_lets a φ told full skim marks
  have htold : told.kept = d.kept := by
    unfold told
    simp
  have hskim : skim.kept = d.kept := by
    unfold skim full
    simp (disch := grind [Loose, Aside]) [htold]
  rw [kept_updAxis, hskim]
  exact fun a => foldl_keeps Axis.pub marks (fun a m => a.counted1 m.2) (fun m a => rfl) a

@[simp] theorem kept_showCounts (c : Nat) : (d.showCounts c).kept = d.kept := by
  unfold Dev.showCounts
  simp (disch := grind [Loose, Aside])

@[simp] theorem kept_setObjI (w k : Nat) (v : Int) (h : Loose k) (h' : Aside k) : (d.setObjI w k v).kept = d.kept := kept_setObj d k _ h h'

/-! ## One context's results -/

/-- With no results waiting, the tag is all that a context's publication brings the spine. -/
theorem publish_tags (c : Nat) (h : (d.axis c).pub = []) :
    (d.publish c).spine = d.spine.put (Obj.CYCLE_TAG c) d.cyc.tag ∧ (d.publish c).standing = d.standing := by
  unfold Dev.publish
  extract_lets a kind counted tagged committed stored state ready fed r
  have hcounted : counted.kept = d.kept := (kept_updAxis _ c _ (by intro a; rfl)).trans (kept_showCounts d c)
  have htag : (counted.setObj (Obj.CYCLE_TAG c) counted.cyc.tag).kept = (d.spine.put (Obj.CYCLE_TAG c) d.cyc.tag, d.standing) := by
    have hspine : counted.spine = d.spine := congrArg Prod.fst hcounted
    have hcyc : counted.cyc = d.cyc := congrArg Spine.cyc hspine
    rw [Dev.kept, spine_setObj_guarded _ _ _ (guarded_CYCLE_TAG c), standing_setObj _ _ _ (by grind [Aside]), hcyc, hspine,
      show counted.standing = d.standing from congrArg Prod.snd hcounted]
  have htagged : tagged.kept = (d.spine.put (Obj.CYCLE_TAG c) d.cyc.tag, d.standing) := by
    unfold tagged
    rw [kept_setObj _ _ _ (by grind [Loose]) (by grind [Aside]), kept_setObj _ _ _ (by grind [Loose]) (by grind [Aside]), htag]
  have hstored : stored.kept = (d.spine.put (Obj.CYCLE_TAG c) d.cyc.tag, d.standing) := by
    unfold stored a
    rw [h]
    exact (kept_setObj tagged _ _ (by grind [Loose]) (by grind [Aside])).trans htagged
  have hready : ready.kept = (d.spine.put (Obj.CYCLE_TAG c) d.cyc.tag, d.standing) := by
    unfold ready state
    rw [kept_setObj _ _ _ (by grind [Loose]) (by grind [Aside]), kept_setObj _ _ _ (by grind [Loose]) (by grind [Aside]), hstored]
  have hfed : fed.kept = (d.spine.put (Obj.CYCLE_TAG c) d.cyc.tag, d.standing) := by
    unfold fed
    split
    · rw [kept_setObj _ _ _ (by grind [Loose]) (by grind [Aside]), kept_setObj _ _ _ (by grind [Loose]) (by grind [Aside]),
        kept_setObj _ _ _ (by grind [Loose]) (by grind [Aside]), hready]
    · rw [kept_setObj _ _ _ (by grind [Loose]) (by grind [Aside]), hready]
  have hall : (if 128 ≤ c then stored else ((fed.setObjI 24 (Obj.DUTY_A c) r.dutyA).setObjI 24 (Obj.DUTY_B c) r.dutyB).setObjI 24 (Obj.DUTY_C c)
      r.dutyC).kept = (d.spine.put (Obj.CYCLE_TAG c) d.cyc.tag, d.standing) := by
    rw [kept_ite, hstored, kept_setObjI _ _ _ _ (by grind [Loose]) (by grind [Aside]), kept_setObjI _ _ _ _ (by grind [Loose]) (by grind [Aside]),
      kept_setObjI _ _ _ _ (by grind [Loose]) (by grind [Aside]), hfed, ite_self]
  exact ⟨congrArg Prod.fst hall, congrArg Prod.snd hall⟩

/-! ## All of them -/

/-- Every context of a list tagged. -/
def Spine.tagAll (s : Spine) (l : List Nat) : Spine := l.foldl (fun s c => s.put (Obj.CYCLE_TAG c) s.cyc.tag) s

theorem Spine.tagAll_cyc (s : Spine) (l : List Nat) : (s.tagAll l).cyc = s.cyc := by
  exact foldl_keeps Spine.cyc l (fun s c => s.put (Obj.CYCLE_TAG c) s.cyc.tag) (fun c s => rfl) s

theorem Spine.tagAll_role (s : Spine) (l : List Nat) : (s.tagAll l).obj Obj.ROLE = s.obj Obj.ROLE :=
  foldl_keeps (fun t : Spine => t.obj Obj.ROLE) l (fun s c => s.put (Obj.CYCLE_TAG c) s.cyc.tag) (fun c s => if_neg (by grind)) s

theorem Spine.tagAll_obj (l : List Nat) (c : Nat) : ∀ s : Spine, (c ∈ l ∨ s.obj (Obj.CYCLE_TAG c) = s.cyc.tag) →
    (s.tagAll l).obj (Obj.CYCLE_TAG c) = s.cyc.tag := by
  induction l with
  | nil => exact fun s h => h.resolve_left (List.not_mem_nil)
  | cons b t ih =>
    intro s h
    refine ih (s.put (Obj.CYCLE_TAG b) s.cyc.tag) ?_
    by_cases hc : c = b
    · subst hc
      exact .inr (if_pos rfl)
    · refine h.imp (fun hm => (List.mem_cons.mp hm).resolve_left hc) fun htag => ?_
      exact (if_neg (by grind)).trans htag

theorem axis_pub (c : Nat) : (d.axis c).pub = getAt [] d.standing.2 c := by
  unfold Dev.axis Dev.standing
  exact (getAt_map Axis.pub initAxis d.axes c).symm

/-- Every context of a list publishes. -/
theorem publishLoop_tags (took : Bool) (l : List Nat) : ∀ d : Dev, (∀ c, (d.axis c).pub = []) →
    (l.foldl (fun d c => if took && c < 128 then (d.publish c).setObj (Obj.PASS_KIND c) 3 else d.publish c) d).spine = d.spine.tagAll l := by
  induction l with
  | nil => exact fun d _ => rfl
  | cons c t ih =>
    intro d hpub
    obtain ⟨hspine, hstanding⟩ := publish_tags d c (hpub c)
    have hnext : ∀ e : Dev, e = (if took && c < 128 then (d.publish c).setObj (Obj.PASS_KIND c) 3 else d.publish c) →
        e.spine = d.spine.put (Obj.CYCLE_TAG c) d.cyc.tag ∧ e.standing = d.standing := by
      rintro e rfl
      rw [spine_ite, standing_ite, spine_setObj _ _ _ (by grind [Loose]), standing_setObj _ _ _ (by grind [Aside]), ite_self, ite_self]
      exact ⟨hspine, hstanding⟩
    obtain ⟨hs, ht⟩ := hnext _ rfl
    refine (ih _ fun b => ?_).trans ?_
    · rw [axis_pub, ht, ← axis_pub, hpub]
    · rw [hs]
      rfl

end Sys2Proof.Machine
end

section
/-! SUPPORT. The deadline's frames and edges beside the spine (R184, R195, R208, R211, R220, R224, R258, R407, R411, R470). -/

set_option Elab.async false

namespace Sys2Proof.Machine

variable (d : Dev)

/-! ## The fold's reserves and the results -/

@[simp] theorem spine_closeFold (f : Nat) : (d.closeFold f).spine = d.spine := by
  unfold Dev.closeFold
  extract_lets x deadline last slack shown spent told
  have hshown : shown.spine = d.spine := spine_setObj _ _ _ (by grind [Loose])
  have htold : told.spine = d.spine := by
    unfold told
    rw [spine_ite, hshown, foldl_keeps Dev.spine spent _ (fun l e => spine_raise e _ _ (by decide) (by decide)),
      spine_bump _ _ (by grind [Loose]), hshown, ite_self]
  exact (spine_folds told _).trans htold

theorem computes_of_kept {d e : Dev} (h : e.kept = d.kept) (c : Nat) : e.computes c = d.computes c := by
  have hspine : e.spine = d.spine := congrArg Prod.fst h
  have hplace : (e.obj (Obj.CONFIGURED c), e.obj (Obj.CTX_FOLD c)) = (d.obj (Obj.CONFIGURED c), d.obj (Obj.CTX_FOLD c)) :=
    congrFun (congrArg (fun k : Spine × (Nat → Nat × Nat) × List (List (Nat × Nat)) => k.2.1) h) c
  have hrole : e.obj Obj.ROLE = d.obj Obj.ROLE := obj_of_spine hspine (by decide)
  have hstate : e.state = d.state := obj_of_spine hspine (by decide)
  have hfold : e.ctl.failedFold = d.ctl.failedFold := congrArg (fun t : Spine => t.ctl.failedFold) hspine
  simp only [Prod.mk.injEq] at hplace
  rw [Dev.computes, Dev.legActive, Dev.isHead, Dev.configured, Dev.objB, hrole, hstate, hfold, hplace.1, hplace.2]
  rfl

/-- The results published: every context computed has the tag of its cycle, outside SERVICE. -/
theorem spine_publishAll (hstate : d.state ≠ stService) (hpub : ∀ c, (d.axis c).pub = []) :
    d.publishAll.spine = d.spine.tagAll ((List.range 136).filter d.computes) := by
  unfold Dev.publishAll
  extract_lets took cs counted published
  have hcounted : counted.kept = d.kept := foldl_keeps Dev.kept cs _ (fun c e => kept_countContext e c) d
  have hspine : counted.spine = d.spine := congrArg Prod.fst hcounted
  have hstanding : counted.standing = d.standing := congrArg Prod.snd hcounted
  have hpublished : published.spine = d.spine.tagAll cs := by
    unfold published
    rw [if_neg (by rw [state_eq, hspine, ← state_eq]; exact hstate), ← hspine]
    refine publishLoop_tags took cs counted fun c => ?_
    rw [axis_pub, hstanding, ← axis_pub, hpub]
  have hfolds : (forN 8 (fun f d => d.closeFold f) published).spine = published.spine :=
    forN_keeps Dev.spine 8 _ (fun f _ e => spine_closeFold e f) published
  rw [spine_ite, hfolds, ite_self, hpublished]

/-! ## Rings -/

@[simp] theorem spine_showHalves (r : Nat) : (d.showHalves r).spine = d.spine := by
  unfold Dev.showHalves
  simp (disch := grind [Loose])

@[simp] theorem spine_heal (r : Nat) (h : r < 2) : (d.heal r).spine = d.spine := by
  unfold Dev.heal
  simp (disch := grind [Loose])

@[simp] theorem spine_planAtDeadline (r : Nat) (h : r < 2) : (d.planAtDeadline r).spine = d.spine := by
  unfold Dev.planAtDeadline
  simp [h]

@[simp] theorem spine_missingBlocks (r : Nat) : (d.missingBlocks r).spine = d.spine := by
  unfold Dev.missingBlocks
  extract_lets g counted
  have hcounted : counted.spine = d.spine := by
    refine forN_keeps Dev.spine _ _ (fun i _ e => ?_) d
    split
    · rfl
    · simp (disch := grind [Loose])
  exact (spine_updRing counted r _).trans hcounted

@[simp] theorem spine_nextSafe (n : Nat) : (d.nextSafe n).2.spine = d.spine := by
  unfold Dev.nextSafe
  simp (disch := grind [Loose])

@[simp] theorem spine_safeSlot (r p : Nat) : (d.safeSlot r p).2.spine = d.spine := by
  unfold Dev.safeSlot
  split
  · split
    · exact spine_nextSafe d _
    · rfl
  · rfl

@[simp] theorem spine_nodeBlocks (r : Nat) (l : List Nat) : (d.nodeBlocks r l).2.spine = d.spine := by
  unfold Dev.nodeBlocks
  refine foldl_keeps (fun acc : List DownBlock × Dev => acc.2.spine) l _ (fun p acc => ?_) ([], d)
  dsimp only
  split
  · rfl
  · split
    · rfl
    · split
      · exact spine_safeSlot _ _ _
      · rfl

@[simp] theorem spine_sendHalf (r port : Nat) (half : List Nat) : (d.sendHalf r port half).spine = d.spine := by
  have hframe : (d.droveFrame r port half).2.spine = d.spine := spine_nodeBlocks d r _
  unfold Dev.sendHalf
  dsimp only
  rw [spine_ite, spine_emit, hframe, ite_self]

@[simp] theorem spine_sendDrove (r : Nat) (h : r < 2) : (d.sendDrove r).spine = d.spine := by
  unfold Dev.sendDrove
  extract_lets planned halves
  have hplanned : planned.spine = d.spine := (spine_planAtDeadline _ r h).trans (spine_missingBlocks d r)
  rw [spine_ite, spine_sendHalf, spine_sendHalf, hplanned, ite_self]

/-! ## Edges -/

@[simp] theorem spine_slotEdges (s n : Nat) (span : ApplySpan) (off : Bool) : (d.slotEdges s n span off).spine = d.spine := by
  unfold Dev.slotEdges
  extract_lets q l conflict told target lim p rn refresh clampAt r pwm clamped apply16 kept last queued t edges
  have htold : told.spine = d.spine := by
    unfold told
    rw [spine_ite, spine_raise _ _ _ (by decide) (by decide), spine_bump _ _ (by grind [Loose]), ite_self]
  have hclamped : clamped.spine = d.spine := by
    refine (forN_keeps Dev.spine _ _ (fun _ _ e => ?_) told).trans htold
    rw [spine_raise _ _ _ (by decide) (by decide), spine_bump _ _ (by grind [Loose])]
  have hqueued : queued.spine = d.spine := (spine_updLeg told n _).trans htold
  clear_value edges queued pwm clamped
  rw [spine_ite, spine_updLeg, spine_ite, spine_updLeg, hclamped, hqueued, ite_self, ite_self]

@[simp] theorem spine_sendEdges : d.sendEdges.spine = d.spine := by
  unfold Dev.sendEdges Dev.dispatchEdges
  extract_lets periods quiet
  have hquiet : quiet.spine = d.spine := forN_keeps Dev.spine 20 _ (fun n _ e => spine_updLeg e n _) d
  split
  · exact hquiet
  · refine (forN_keeps Dev.spine 16 _ (fun s _ e => ?_) quiet).trans hquiet
    extract_lets n st off started stopped
    split
    · rfl
    · next hport =>
      have hn : n < 20 := by
        simp only [Bool.or_eq_true, decide_eq_true_eq, not_or] at hport
        omega
      have hstarted : started.spine = e.spine := by
        unfold started
        rw [spine_ite, spine_setObj _ _ _ (by grind [Loose]), ite_self]
      have hstopped : stopped.spine = started.spine := by
        unfold stopped
        rw [spine_ite, spine_setObj _ _ _ (by grind [Loose]), ite_self]
      rw [spine_slotEdges, hstopped, hstarted]

/-! ## The deadline -/

theorem spine_copySend_single (m : Mem) (h : d.obj Obj.ROLE = 0) : d.copySend m = d := if_pos (.inl (by rw [h]; decide))

theorem dispatch_eq (m : Mem) (hcycling : d.cycling = true) (hnow : d.cyc.nextAt ≤ d.now + 5000) (hhanded : d.ctl.handed = false)
    (hfirst : d.cyc.dispatched = false) (hstale : d.pair.staleStep = none) :
    d.dispatch m =
      let e := (((d.closeContexts.markDispatched.publishAll.sendDrove 0).sendDrove 1).sendEdges.acqDispatch)
      (e.updPair14 (fun p => { p with drove := e.droveNow })).copySend m := by
  have hstands : d.staleDeadline = d := by
    unfold Dev.staleDeadline
    rw [hstale]
  unfold Dev.dispatch
  rw [if_neg (by simp [hcycling, hfirst, hnow]), if_neg (by simp [hhanded]), hstands]

/-- The cycle closed and its deadline marked: what the publication of the results finds. -/
theorem closed_marked :
    d.closeContexts.markDispatched.spine = { d.spine with cyc := { d.cyc with dispatched := true } } ∧
      (∀ c, d.closeContexts.markDispatched.computes c = d.computes c) ∧ d.closeContexts.markDispatched.state = d.state ∧
      ∀ c, (d.closeContexts.markDispatched.axis c).pub = (d.axis c).pub := by
  have hkept := kept_closeContexts d
  have hspine : d.closeContexts.spine = d.spine := congrArg Prod.fst hkept
  have hstanding : d.closeContexts.standing = d.standing := congrArg Prod.snd hkept
  have hmark : ∀ e : Dev, e.markDispatched.spine = { e.spine with cyc := { e.spine.cyc with dispatched := true } } ∧
      (∀ c, e.markDispatched.computes c = e.computes c) ∧ e.markDispatched.state = e.state ∧ ∀ c, e.markDispatched.axis c = e.axis c :=
    fun e => ⟨rfl, fun _ => rfl, rfl, fun _ => rfl⟩
  obtain ⟨hcyc, hcomputes, hstate, haxis⟩ := hmark d.closeContexts
  refine ⟨hcyc.trans (by rw [hspine]; rfl), fun c => (hcomputes c).trans (computes_of_kept hkept c), ?_, fun c => ?_⟩
  · rw [hstate, state_eq, hspine, ← state_eq]
  · rw [haxis, axis_pub, hstanding, ← axis_pub]

/-- A deadline with its frames: the contexts' results bear the tag of the cycle, which is dispatched. -/
theorem dispatch_tags (m : Mem) (hstate : d.state ∈ [stReady, stRun]) (hnow : d.cyc.nextAt ≤ d.now + 5000) (hrole : d.obj Obj.ROLE = 0)
    (hhanded : d.ctl.handed = false) (hfirst : d.cyc.dispatched = false) (hstale : d.pair.staleStep = none) (hpub : ∀ n, (d.axis n).pub = []) :
    (d.dispatch m).spine = ({ d.spine with cyc := { d.cyc with dispatched := true } } : Spine).tagAll ((List.range 136).filter d.computes) := by
  have hcycling : d.cycling = true ∧ d.state ≠ stService := by
    rw [Dev.cycling]
    revert hstate
    generalize d.state = st
    simp only [List.mem_cons, List.not_mem_nil, or_false]
    rintro (rfl | rfl) <;> decide
  obtain ⟨hcycling, hservice⟩ := hcycling
  obtain ⟨hmarked, hcomputes, hstate', hpub'⟩ := closed_marked d
  have hpublished := spine_publishAll d.closeContexts.markDispatched (by rw [hstate']; exact hservice) fun c => (hpub' c).trans (hpub c)
  rw [hmarked, funext hcomputes] at hpublished
  rw [dispatch_eq d m hcycling hnow hhanded hfirst hstale]
  extract_lets e
  have hsent : (e.updPair14 (fun p => { p with drove := e.droveNow })).spine = d.closeContexts.markDispatched.publishAll.spine := by
    unfold e
    rw [spine_updPair14, spine_acqDispatch, spine_sendEdges, spine_sendDrove _ 1 (by decide), spine_sendDrove _ 0 (by decide)]
  have hsingle : (e.updPair14 (fun p => { p with drove := e.droveNow })).obj Obj.ROLE = 0 := by
    rw [← Dev.spine_obj _ (by decide), hsent, hpublished, Spine.tagAll_role, ← hrole]
    exact d.spine_obj (by decide : guarded Obj.ROLE = true)
  rw [spine_copySend_single _ m hsingle, hsent, hpublished]

/-! ## The command -/

theorem deadline_publishes (s : State) (hstate : s.dev.state ∈ [stReady, stRun]) (hnow : s.dev.cyc.nextAt ≤ s.dev.now + 5000)
    (hrole : s.dev.obj Obj.ROLE = 0) (hhanded : s.dev.ctl.handed = false) (hfirst : s.dev.cyc.dispatched = false)
    (hstale : s.dev.pair.staleStep = none) (hpub : ∀ n, (s.dev.axis n).pub = []) :
    Answers .dispatchDeadline s (fun t => t.dev.cyc = { s.dev.cyc with dispatched := true } ∧ t.mem = s.mem ∧
      ∀ c < 136, s.dev.computes c = true → t.dev.obj (Obj.CYCLE_TAG c) = s.dev.cyc.tag) := by
  have hspine := dispatch_tags s.dev.fresh s.mem hstate hnow hrole hhanded hfirst hstale hpub
  refine answers_onDevH (fun d => d.dispatch s.mem) rfl ?_
  dsimp only
  generalize s.dev.fresh.dispatch s.mem = d at hspine
  have hsame := holdDecide_sameCycle d
  rw [← spine_settle d.holdDecide] at hsame
  obtain ⟨hcyc, htag⟩ := hsame.dev
  refine ⟨?_, rfl, fun c hc hcomputes => ?_⟩
  · rw [hcyc]
    exact (congrArg Spine.cyc hspine).trans (Spine.tagAll_cyc _ _)
  · rw [htag, ← d.spine_obj (guarded_CYCLE_TAG c), hspine]
    exact Spine.tagAll_obj _ c _ (.inl (List.mem_filter.mpr ⟨List.mem_range.mpr hc, hcomputes⟩))

end Sys2Proof.Machine
end

section
/-! SUPPORT. Boot, SAFE-HOLD and the cycle: the obligation, assembled (R24, R36, R37, R39, R65, R71, R136, R581, R587, R589). -/

set_option Elab.async false

namespace Sys2Proof.Machine

/-- Settles O60: each clause is a command of the boot sequence, of a SAFE-HOLD decision, of the STO step or of the cycle, whose spine is
read off. -/
theorem bootHoldAndTheCycleGoTheirWay : Obligations.BootHoldAndTheCycleGoTheirWay := by
  unfold Obligations.BootHoldAndTheCycleGoTheirWay
  refine ⟨fun s => ⟨bootStart_early s, bootStart_badHeader s, bootStart_good s, bootComplete_early s, bootComplete_entersConfig s⟩,
    fun s f => ⟨fun hboot hidle => ?idle, fun hboot => ?booting, fun hcycling hholding halone => ?decided⟩,
    fun s => ⟨stoStep_idle s, stoStep_due s⟩,
    fun s => ⟨fun h => boundary_idle s (.inr h), fun h => deadline_idle s (.inr (.inr h)),
      fun h => ⟨boundary_idle s (.inl h), deadline_idle s (.inl h)⟩, fun h => deadline_idle s (.inr (.inl h)), boundary_entersHold s,
      fun hstate hnow hrole hholding htrans hqueue htimed => boundary_newCycle s hstate hnow hrole hholding htrans hqueue htimed,
      fun hstate hnow hrole hhanded hfirst _ hstale hpub => deadline_publishes s hstate hnow hrole hhanded hfirst hstale hpub⟩⟩
  case idle =>
    have hbooting : s.dev.booting = false := by
      simpa [Dev.booting] using hboot
    refine ⟨?_, vcore_idle s hbooting hidle⟩
    simp only [List.forall_mem_cons, List.not_mem_nil, false_implies, implies_true, and_true]
    exact ⟨cause_idle s hbooting hidle 5 0 rfl, cause_idle s hbooting hidle 2 f rfl⟩
  case booting =>
    have hbooting : s.dev.booting = true := by
      simpa [Dev.booting] using hboot
    have hmove := closeBypasses_move s.dev.fresh
    simp only [List.forall_mem_cons, List.not_mem_nil, false_implies, implies_true, and_true]
    exact ⟨cause_booting s hbooting Dev.closeBypasses 4 0 rfl hmove.ctl (hmove.obj _ (by decide) (by decide)),
      cause_booting s hbooting id 5 0 rfl rfl rfl, cause_booting s hbooting id 2 f rfl rfl rfl⟩
  case decided =>
    have hmove := closeBypasses_move s.dev.fresh
    have hbypass : s.dev.fresh.closeBypasses.standbyHealthy = false := (closeBypasses_standby s.dev.fresh).trans halone
    obtain ⟨t4, hexec4, hcause4, hlatch4, hhold4, hsto4, -⟩ := cause_cycling s hcycling hholding .vcoreOutOfRange Dev.closeBypasses 4 0 rfl hmove.ctl
      (hmove.obj _ (by decide) (by decide)) hbypass
    obtain ⟨t5, hexec5, hcause5, hlatch5, hhold5, hsto5, -⟩ := cause_cycling s hcycling hholding .transportHandshakeTimeout id 5 0 rfl rfl rfl halone
    obtain ⟨t2, hexec2, hcause2, hlatch2, hhold2, -, hfold2⟩ := cause_cycling s hcycling hholding (.foldSchedulerFault f) id 2 f rfl rfl rfl halone
    exact ⟨⟨t4, hexec4, hcause4, hlatch4, hhold4, hsto4 (by decide)⟩, ⟨t5, hexec5, hcause5, hlatch5, hhold5, hsto5 (by decide)⟩,
      ⟨t2, hexec2, hcause2, hlatch2, hhold2, hfold2 rfl⟩⟩

end Sys2Proof.Machine
end

section
/-! SUPPORT. What a command may change beside what it says, and how a transaction at the host port ends (R52, R79, R82, R83). -/

set_option Elab.async false

namespace Sys2Proof.Machine

/-! ## Changes within limits -/

/-- Of the objects, only those listed and those a report changes differ; no DOMAIN value does. -/
structure Dev.Alters (d : Dev) (l : List Nat) (e : Dev) : Prop where
  obj : d.KeepsBut e l
  blobs : e.blobs = d.blobs

variable {d e f : Dev} {l : List Nat}

theorem Dev.Alters.refl (d : Dev) (l : List Nat) : d.Alters l d := ⟨fun _ _ _ => rfl, rfl⟩

theorem Dev.Alters.trans (h : d.Alters l e) (g : e.Alters l f) : d.Alters l f :=
  ⟨fun k hk he => (g.obj k hk he).trans (h.obj k hk he), g.blobs.trans h.blobs⟩

theorem Dev.Alters.mono (h : d.Alters l e) {l' : List Nat} (hl : ∀ k ∈ l, k ∈ l') : d.Alters l' e :=
  ⟨fun k hk => h.obj k fun hmem => hk (hl k hmem), h.blobs⟩

theorem Reported.alters (h : Reported d e) (l : List Nat) : d.Alters l e := ⟨fun k _ he => h.obj k he, h.blobs⟩

theorem Dev.Alters.report (h : d.Alters l e) (g : Reported e f) : d.Alters l f := h.trans (g.alters l)

theorem alters_setObj (d : Dev) {k : Nat} (v : Nat) (hk : k ∈ l) : d.Alters l (d.setObj k v) :=
  ⟨fun j hj _ => d.obj_setObj_ne k v j (by rintro rfl; exact hj hk), rfl⟩

/-- A block that differs from the one a command meets within limits, as what a claim says of it. -/
theorem Dev.Alters.only {s : State} (h : s.dev.fresh.Alters l e) : s.Only { s with dev := e } l :=
  ⟨h.obj, fun j => Dev.blob_congr s.dev.fresh e h.blobs j, rfl, rfl⟩

/-! ## A transaction ends -/

/-- With the port live and a good Check, a transaction ends with its response and its reports, when it found no SAFE-HOLD cause. -/
theorem host_ends (s : State) (tag : Byte) (phases : List Byte) (check : Check32) (f : Dev → Answer × Dev) {r : Answer} {e : Dev}
    (hlive : s.dev.hostLive = true) (hcrc : check.toNat = crc32c phases) (hf : f s.dev.fresh = (r, e)) (hcause : e.ctl.causeReq = none) :
    s.host tag phases check f = .next { s with dev := (e.respond tag r).settle } := by
  have hcause' : (e.respond tag r).ctl.causeReq = none := hcause
  simp only [State.host, State.onDevH, State.onDev, transact_good s.dev.fresh tag phases check f hlive hcrc, hf,
    holdDecide_none _ hcause']

theorem respond_latched (d : Dev) (tag : Byte) (r : Answer) (src : Nat) (hs : src < 256) : (d.respond tag r).latched src = d.latched src := by
  have hstatus : Obj.LAST_HOST_STATUS ≠ Obj.EVENT_LATCH (src / 32) := by
    simp only [Obj.LAST_HOST_STATUS, Obj.EVENT_LATCH]; omega
  have htag : Obj.LAST_HOST_TAG ≠ Obj.EVENT_LATCH (src / 32) := by
    simp only [Obj.LAST_HOST_TAG, Obj.EVENT_LATCH]; omega
  exact ((d.setObj Obj.LAST_HOST_STATUS r.status).latched_setObj _ tag.toNat src htag).trans (d.latched_setObj _ r.status src hstatus)

/-- The two objects that show the last transaction (R83). -/
def hostShown : List Nat := [Obj.LAST_HOST_STATUS, Obj.LAST_HOST_TAG]

theorem alters_respond (d : Dev) (tag : Byte) (r : Answer) : d.Alters hostShown (d.respond tag r) := by
  refine ⟨fun k hk _ => ?_, rfl⟩
  simp only [hostShown, List.mem_cons, List.not_mem_nil, or_false, not_or] at hk
  obtain ⟨hstatus, htag⟩ := hk
  rw [respond_obj, if_neg (Ne.symm htag), if_neg (Ne.symm hstatus)]

theorem responds_settle (s : State) (e : Dev) (tag : Byte) (r : Answer) :
    State.Responds { s with dev := (e.respond tag r).settle } r.status tag.toNat r.reread r.stale r.data := by
  refine ⟨(reported_settle _).emitted.subset (hostResponse_mem_respond e tag r), ?_, ?_⟩
  · exact (settle_obj _ _ (by decide)).trans (by simp [respond_obj])
  · exact (settle_obj _ _ (by decide)).trans (by simp [respond_obj])

theorem only_respond {s : State} {e : Dev} (tag : Byte) (r : Answer) (h : s.dev.fresh.Alters [] e) :
    s.Only { s with dev := (e.respond tag r).settle } hostShown :=
  (((h.mono (by simp)).trans (alters_respond e tag r)).report (reported_settle _)).only

/-- A transaction whose work changes nothing but reports, as what a claim says of its end. -/
theorem respondsOnly_settle {s : State} {e : Dev} (tag : Byte) (st : Nat) (data : List Byte) (h : s.dev.fresh.Alters [] e) :
    s.RespondsOnly { s with dev := (e.respond tag (.unflagged st data)).settle } st tag.toNat data :=
  ⟨responds_settle s e tag (.unflagged st data), only_respond tag _ h⟩

/-! ## A mismatched Check -/

/-- Every opcode of the host port is a transaction of its phases, behind the check of its form. -/
theorem exec_transaction {c : Instr} (s : State) {tag : Byte} {phases : List Byte} {check : Check32}
    (h : hostPhases c = some (tag, phases, check)) : ∃ f, exec c s = guardForm c.wf (s.host tag phases check f) := by
  unfold hostPhases at h
  split at h <;> cases h <;> exact ⟨_, rfl⟩

/-- Such a transaction reports HOST_CHECK, and its operation does not run (R82). -/
theorem transact_bad (d : Dev) (tag : Byte) (phases : List Byte) (check : Check32) (f : Dev → Answer × Dev)
    (hlive : d.hostLive = true) (hcrc : crc32c phases ≠ check.toNat) :
    d.transact tag phases check f = (d.raise 3 tag.toNat).respond tag (.unflagged 0x000D []) := by
  simp [Dev.transact, hlive, hcrc, Answer.ofStatus_eq]

/-- Settles O8: the Check is looked at before the opcode's own work, so every opcode ends in the same report and response. -/
theorem aMismatchedCheckDoesNothing : Obligations.AMismatchedCheckDoesNothing := by
  unfold Obligations.AMismatchedCheckDoesNothing
  intro c s tag phases check hwf hphases hlive hcrc
  obtain ⟨f, hexec⟩ := exec_transaction s hphases
  have hreport : Reported s.dev.fresh (s.dev.fresh.raise 3 tag.toNat) := reported_raise _ 3 _ (by decide)
  have hcause : ((s.dev.fresh.raise 3 tag.toNat).respond tag (.unflagged 0x000D [])).ctl.causeReq = none :=
    congrArg DevCtl.causeReq hreport.ctl
  have hbad := transact_bad s.dev.fresh tag phases check f hlive hcrc
  refine ⟨{ s with dev := ((s.dev.fresh.raise 3 tag.toNat).respond tag (.unflagged 0x000D [])).settle }, ?_, ?_⟩
  · rw [hexec, hwf]
    simp only [guardForm, if_true, State.host, State.onDevH, State.onDev, hbad, holdDecide_none _ hcause]
  obtain ⟨hresponds, hkeeps, -, hmem, hpending⟩ := respondsOnly_settle tag 0x000D [] (hreport.alters [])
  have hlatched : ((s.dev.fresh.raise 3 tag.toNat).respond tag (.unflagged 0x000D [])).latched 3 = true :=
    (respond_latched _ _ _ 3 (by decide)).trans (latched_raise _ 3 _ (by decide))
  have hsettle := reported_settle ((s.dev.fresh.raise 3 tag.toNat).respond tag (.unflagged 0x000D []))
  exact ⟨hresponds.1, hsettle.latch 3 (by decide) hlatched, hkeeps, hsettle.blobs.trans hreport.blobs, hmem,
    hsettle.tally.trans hreport.tally, hpending⟩

end Sys2Proof.Machine
end

section
/-! SUPPORT. How the Tally engine takes a write: the check, the acceptance, the rejection (R48 to R52, R65, R66, R621). -/

set_option Elab.async false

namespace Sys2Proof.Machine

/-! ## A write rejected (R52) -/

theorem reported_rejectWrite (d : Dev) (k st : Nat) : Reported d (d.rejectWrite k st) := reported_raise d 8 _ (by decide)

theorem rejectWrite_latched (d : Dev) (k st : Nat) : (d.rejectWrite k st).latched 8 = true := latched_raise d 8 _ (by decide)

/-- A rejection on a block that has changed in its engine alone, as what a claim says of it. -/
theorem rejected_settle (s : State) {e : Dev} (k st : Nat) (h : s.dev.fresh.Alters [] e) :
    s.Only { s with dev := (e.rejectWrite k st).settle } [] ∧ (e.rejectWrite k st).settle.latched 8 = true ∧
      (e.rejectWrite k st).settle.tally = e.tally :=
  ⟨((h.report (reported_rejectWrite e k st)).report (reported_settle _)).only,
    settle_latched _ 8 (by decide) (rejectWrite_latched e k st), (settle_tally _).trans (reported_rejectWrite e k st).tally⟩

/-- A rejection as a transaction of the host port answers it. -/
theorem answers_host_rejected {c : Instr} {s : State} {tag : Byte} {phases : List Byte} {check : Check32} {f : Dev → Answer × Dev} {k st : Nat}
    (hc : exec c s = s.host tag phases check f) (hlive : s.dev.hostLive = true) (hcrc : check.toNat = crc32c phases)
    (hf : f s.dev.fresh = (.unflagged st [], s.dev.fresh.rejectWrite k st)) :
    Answers c s (fun t => s.RespondsOnly t st tag.toNat [] ∧ t.dev.latched 0x08 = true ∧ t.dev.tally = s.dev.tally) := by
  have hreport := reported_rejectWrite s.dev.fresh k st
  refine ⟨_, hc.trans (host_ends s tag phases check f hlive hcrc hf (congrArg DevCtl.causeReq hreport.ctl)),
    respondsOnly_settle tag st [] (hreport.alters []), settle_latched _ 8 (by decide) ?_, (settle_tally _).trans hreport.tally⟩
  exact (respond_latched _ _ _ 8 (by decide)).trans (rejectWrite_latched _ k st)

/-! ## The check of a scalar write -/

theorem checkWrite_fresh (d : Dev) (src : Src) (k : Nat) (data : List Byte) : d.fresh.checkWrite src k data = d.checkWrite src k data := by
  simp only [Dev.checkWrite, Dev.checkWriteAt, ownerAt_fresh]
  rfl

theorem checkWrite_unknown (d : Dev) (src : Src) (k : Nat) (data : List Byte) (hr : rowOf k = none) : d.checkWrite src k data = (1, 0) := by
  simp [Dev.checkWrite, Dev.checkWriteAt, hr]

theorem checkWrite_denied (d : Dev) (src : Src) (k : Nat) (data : List Byte) {r : ObjRow} {st : Nat} (hr : rowOf k = some r)
    (ha : d.rightsStatus src k r.rights = st) (hst : st ≠ 0) : d.checkWrite src k data = (st, 0) := by
  simp [Dev.checkWrite, Dev.checkWriteAt, hr, ha, hst]

theorem checkWrite_length (d : Dev) (src : Src) (k : Nat) (data : List Byte) {r : ObjRow} (hr : rowOf k = some r)
    (ha : d.rightsStatus src k r.rights = 0) (hlen : data.length ≠ r.ty.size) : d.checkWrite src k data = (6, 0) := by
  simp [Dev.checkWrite, Dev.checkWriteAt, hr, ha, holdBytes, hlen]

theorem checkWrite_range (d : Dev) (src : Src) (k : Nat) (data : List Byte) {r : ObjRow} (hr : rowOf k = some r)
    (ha : d.rightsStatus src k r.rights = 0) (hlen : data.length = r.ty.size) (hp : r.ty.plain = true)
    (hc : r.chk.ok r.ty (ofBe data) = false) : d.checkWrite src k data = (7, 0) := by
  have hold : holdBytes r.ty data = (0, ofBe data) := by
    cases hty : r.ty <;> simp_all [holdBytes, ObjType.plain]
  simp [Dev.checkWrite, Dev.checkWriteAt, hr, ha, hold, hc]

theorem isDomain_unknown {k : Nat} (hr : rowOf k = none) : isDomain k = false := by
  simp [isDomain, hr]

theorem isDomain_plain {k : Nat} {r : ObjRow} (hr : rowOf k = some r) (hp : r.ty.plain = true) : isDomain k = false := by
  rw [isDomain_of_row k r hr]
  cases hty : r.ty <;> simp_all [ObjType.isDomain, ObjType.plain]

theorem ObjType.plain_of {ty : ObjType} (hd : ty.isDomain = false) (hg : ty ≠ .gain) (hpu : ty ≠ .pu) : ty.plain = true := by
  cases ty <;> simp_all [ObjType.isDomain, ObjType.plain]

/-! ## A scalar write that waits (R65) -/

/-- Everything the engine itself asks of a scalar write that is to wait; the owner's conditions come beside it. -/
structure Dev.Admits (d : Dev) (src : Src) (k v : Nat) (r : ObjRow) : Prop where
  row : rowOf k = some r
  plain : r.ty.plain = true
  width : v < 256 ^ r.ty.size
  rights : d.rightsStatus src k r.rights = 0
  range : r.chk.ok r.ty v = true
  noMode : k ≠ Obj.HOST_MODE
  noLatch : ¬ (k / 256 = 0x611 ∧ d.state = stSafeHold)
  noSafety : r.rights ≠ .rws
  noRequest : ¬ (k = Obj.STATE_REQUEST ∧ d.ctl.holding = true)

/-- The block once a write is accepted, before the write is listed. -/
def Dev.prepared (d : Dev) (src : Src) (k v : Nat) : Dev := ((d.repairObject k).beginJob src k).noteMove k v

theorem prepared_shape (d : Dev) (src : Src) (k v : Nat) : ∃ fl gens save restoring,
    d.prepared src k v = { d with fl := fl, gens := gens, tally := { d.tally with save := save, restoring := restoring } } := by
  obtain ⟨g, hg⟩ := noteMove_rest ((d.repairObject k).beginJob src k) k v
  unfold Dev.prepared
  rw [hg]
  unfold Dev.beginJob
  split_ifs <;> exact ⟨_, _, _, _, rfl⟩

/-- Nothing that shows differs: the engine has worked on its own lists alone. -/
structure Dev.EngineOnly (d e : Dev) : Prop where
  dict : e.dict = d.dict
  blobs : e.blobs = d.blobs
  drops : e.drops = d.drops
  ctl : e.ctl = d.ctl
  acc : e.acc = d.acc

/-- The block e lists one write more than d, last in the order of acceptance, and shows nothing else. -/
structure Dev.Lists (d e : Dev) (w : QueuedWrite) : Prop extends Dev.EngineOnly d e where
  queue : e.tally.queue = d.tally.queue ++ [w]
  timed : e.tally.timed = d.tally.timed

theorem lists_prepared (d : Dev) (src : Src) (k v : Nat) : d.Lists ((d.prepared src k v).enqueueWrite src k v []) (d.newWrite src k v []) := by
  obtain ⟨fl, gens, save, restoring, hshape⟩ := prepared_shape d src k v
  rw [hshape]
  exact ⟨⟨rfl, rfl, rfl, rfl, rfl⟩, rfl, rfl⟩

theorem Dev.EngineOnly.alters {d e : Dev} (h : d.EngineOnly e) (l : List Nat) : d.Alters l e :=
  ⟨fun k _ _ => Dev.obj_congr d e h.dict k, h.blobs⟩

theorem Dev.EngineOnly.same {s : State} {e : Dev} (h : s.dev.fresh.EngineOnly e) : s.Same { s with dev := e.settle } :=
  same_of_dict h.dict h.blobs h.drops

section
variable {d : Dev} {src : Src} {k v : Nat} {r : ObjRow} (h : d.Admits src k v r)
include h

theorem Dev.Admits.checkWriteAt {b : Nat} (ho : d.ownerStatusAt b k v = 0) : d.checkWriteAt b src k (beBytes r.ty.size v) = (0, v) := by
  simp [Dev.checkWriteAt, h.row, h.rights, holdBytes_plain r.ty v h.plain h.width, h.range, ho]

theorem Dev.Admits.isRws : isRws k = false := by
  simpa [Machine.isRws, h.row] using h.noSafety

theorem Dev.Admits.acceptWrite : d.acceptWrite src k v = (0, (d.prepared src k v).enqueueWrite src k v []) := by
  have hlatch : ¬ (k / 256 = 0x611 ∧ (d.repairObject k).state = stSafeHold) := h.noLatch
  have hrequest : ¬ (k = Obj.STATE_REQUEST ∧ (d.repairObject k).ctl.holding = true) := h.noRequest
  unfold Dev.acceptWrite
  simp only [if_neg h.noMode, if_neg hlatch, h.isRws, Bool.false_eq_true, if_false, if_neg hrequest]
  rfl

theorem Dev.Admits.offer (ho : d.ownerStatus k v = 0) :
    d.offer src k (beBytes r.ty.size v) = (0, (d.prepared src k v).enqueueWrite src k v []) := by
  have hcheck : d.checkWrite src k (beBytes r.ty.size v) = (0, v) := h.checkWriteAt ho
  simp [Dev.offer, isDomain_plain h.row h.plain, hcheck, h.acceptWrite]

end

/-- A write an open source may make, as the engine meets it. -/
theorem Acceptable.admits {s : State} {src : Src} {k v : Nat} {r : ObjRow} (h : Acceptable s k v r) (ho : Open s src) :
    s.dev.Admits src k v r := by
  obtain ⟨hvendor, hsafetyKey⟩ := h.own
  obtain ⟨hdom, hgain, hpu⟩ := h.shape
  obtain ⟨hmode, hrequest⟩ := h.waits
  have hrights : s.dev.rightsStatus src k r.rights = 0 := by
    rcases h.rights with hr | hr | ⟨hr, hconfig⟩
    · exact rightsStatus_open s src k _ ho hvendor hsafetyKey (.inl hr)
    · exact rightsStatus_open s src k _ ho hvendor hsafetyKey (.inr hr)
    · rw [hr]
      exact rightsStatus_config s src k ho hvendor hsafetyKey hconfig
  have hnoSafety : r.rights ≠ .rws := by
    rcases h.rights with hr | hr | ⟨hr, -⟩ <;> simp [hr]
  exact ⟨h.row, ObjType.plain_of hdom hgain hpu, h.width, hrights, h.range, hmode, fun hl => ho.hold hl.2, hnoSafety,
    fun hr => by simp [hrequest hr.1] at hr⟩

/-- What a command starts with is nothing to the engine. -/
theorem Dev.Admits.fresh {d : Dev} {src : Src} {k v : Nat} {r : ObjRow} (h : d.Admits src k v r) : d.fresh.Admits src k v r :=
  ⟨h.row, h.plain, h.width, h.rights, h.range, h.noMode, h.noLatch, h.noSafety, h.noRequest⟩

/-! ## Writes of a source as commands -/

theorem reaches_fresh (d : Dev) (src : Src) : d.fresh.reaches src = d.reaches src := rfl

theorem sourceWrite_reaching {d : Dev} {src : Src} (k : Nat) (data : List Byte) (h : d.reaches src = true) :
    d.fresh.sourceWrite src k data = (d.fresh.offer src k data).2 := if_pos h

/-- A source that does not reach the engine changes nothing. -/
theorem answers_unreached {c : Instr} {s : State} {src : Src} {k : Nat} {data : List Byte} (hc : exec c s = s.write src k data)
    (h : s.dev.reaches src = false) : Answers c s (fun t => s.Same t ∧ t.dev.tally = s.dev.tally) := by
  have hsource : s.dev.fresh.sourceWrite src k data = s.dev.fresh := if_neg (by simp [reaches_fresh, h])
  refine answers_onDevH _ hc ?_
  rw [hsource, holdDecide_none _ rfl]
  exact ⟨same_of_dict rfl rfl rfl, settle_tally _⟩

/-- A scalar write whose check fails is rejected with the check's status. -/
theorem offer_rejected {d : Dev} {src : Src} {k : Nat} {data : List Byte} {st : Nat} (hdom : isDomain k = false)
    (hcheck : (d.checkWrite src k data).1 = st) (hst : st ≠ 0) : d.offer src k data = (st, d.rejectWrite k st) := by
  simp [Dev.offer, hdom, hcheck, hst]

/-- The same, as what a claim says of the command. -/
theorem answers_rejected {c : Instr} {s : State} {src : Src} {k : Nat} {data : List Byte} {st : Nat} (hc : exec c s = s.write src k data)
    (hreach : s.dev.reaches src = true) (hdom : isDomain k = false) (hcheck : (s.dev.checkWrite src k data).1 = st) (hst : st ≠ 0) :
    Answers c s (fun t => s.Only t [] ∧ t.dev.latched 0x08 = true ∧ t.dev.tally = s.dev.tally) := by
  have hcheck' : (s.dev.fresh.checkWrite src k data).1 = st := by rw [checkWrite_fresh, hcheck]
  have hoffer : s.dev.fresh.sourceWrite src k data = s.dev.fresh.rejectWrite k st := by
    rw [sourceWrite_reaching k data hreach, offer_rejected hdom hcheck' hst]
  refine answers_onDevH _ hc ?_
  rw [hoffer, holdDecide_none _ (congrArg DevCtl.causeReq (reported_rejectWrite _ k st).ctl)]
  exact rejected_settle s k st (.refl _ _)

/-- A write accepted without waiting: its check is good, and the engine takes it at once. -/
theorem command_accepted {s : State} {src : Src} {k v : Nat} {e : Dev} (hreach : s.dev.reaches src = true) (hdom : isDomain k = false)
    (hcheck : s.dev.checkWrite src k (beBytes (objSize k) v) = (0, v)) (hacc : s.dev.fresh.acceptWrite src k v = (0, e))
    (hcause : e.ctl.causeReq = none) : s.command src k v = .next { s with dev := e.settle } := by
  have hsource : s.dev.fresh.sourceWrite src k (beBytes (objSize k) v) = e := by
    rw [sourceWrite_reaching k _ hreach]
    simp [Dev.offer, hdom, checkWrite_fresh, hcheck, hacc]
  simp only [State.command, State.write, State.onDevH, State.onDev, hsource, holdDecide_none e hcause]

/-- A write whose check is good and which the engine refuses as it takes it. -/
theorem command_refused {s : State} {src : Src} {k v st : Nat} {e : Dev} (hreach : s.dev.reaches src = true) (hdom : isDomain k = false)
    (hcheck : s.dev.checkWrite src k (beBytes (objSize k) v) = (0, v)) (hacc : s.dev.fresh.acceptWrite src k v = (st, e)) (hst : st ≠ 0)
    (hcause : e.ctl.causeReq = none) : s.command src k v = .next { s with dev := (e.rejectWrite k st).settle } := by
  have hsource : s.dev.fresh.sourceWrite src k (beBytes (objSize k) v) = e.rejectWrite k st := by
    rw [sourceWrite_reaching k _ hreach]
    simp [Dev.offer, hdom, checkWrite_fresh, hcheck, hacc, hst]
  have hcause' : (e.rejectWrite k st).ctl.causeReq = none := (congrArg DevCtl.causeReq (reported_rejectWrite e k st).ctl).trans hcause
  simp only [State.command, State.write, State.onDevH, State.onDev, hsource, holdDecide_none _ hcause']

/-- The owner of no chapter adds a condition to an object outside the indices of ownerStatusAt and of accessWrite. -/
theorem ownerStatus_free (d : Dev) (k v : Nat) (hidx : k / 256 < 0x200 ∨ (0x500 < k / 256 ∧ k / 256 < 0x700) ∨ k / 256 = 0x801)
    (hsave : k ≠ Obj.SAVE) (hrestore : k ≠ Obj.RESTORE) : d.ownerStatus k v = 0 := by
  have hne : ∀ j : Nat, j / 256 = 0x500 ∨ (0x802 ≤ j / 256) → k ≠ j := by
    rintro j hj rfl
    omega
  unfold Dev.ownerStatus Dev.ownerStatusAt
  dsimp only
  rw [if_neg (by omega), if_neg (by omega), if_neg (by omega), if_neg (by omega), if_neg (by omega), if_neg (by omega), if_neg (by omega),
    if_neg (hne _ (by decide)), if_neg (hne _ (by decide))]
  simp [Dev.accessWrite, hsave, hrestore, hne Obj.IPV4_MASK (by decide), hne Obj.UDP_PORT (by decide), hne Obj.STREAM_PORT (by decide),
    hne Obj.SAFE_UDP_PORT (by decide)]

end Sys2Proof.Machine
end

section
/-! SUPPORT. HOST_MODE, SAVE and RESTORE with their ends (R54 to R58, R65, R76, R598). -/

set_option Elab.async false

namespace Sys2Proof.Machine

/-! ## Writes that take effect on an object of no chapter of its own -/

/-- Identity, access, event, pair and safety objects. -/
theorem ownerEffect_misc (x : DM) (own : Bool) (k v : Nat) (data : List Byte)
    (h : k / 256 < 0x200 ∨ (0x500 ≤ k / 256 ∧ k / 256 < 0x700) ∨ (0x800 ≤ k / 256 ∧ k / 256 < 0x2000)) :
    ownerEffect x own k v data = miscEffect x k v data := by
  unfold ownerEffect
  dsimp only
  rw [if_neg (by omega), if_neg (by omega), if_neg (by omega), if_neg (by omega), if_neg (by omega), if_neg (by omega),
    if_neg (by omega), if_neg (by omega), if_neg (by omega)]

/-! ## HOST_MODE (R65, R76) -/

/-- The objects SAFE-HOLD leaves open may be written by every source in every state (R65). -/
theorem rightsStatus_holdOpen (d : Dev) (src : Src) {k : Nat} (hold : holdOpen k = true) (hvendor : vendorDomain k = false)
    (hkey : k / 256 ≠ 0x821) (hcopied : isCopied k = false) : d.rightsStatus src k .rw = 0 := by
  simp [Dev.rightsStatus, hold, hvendor, hkey, hcopied]

theorem checkWrite_HOST_MODE (d : Dev) (src : Src) (v : Nat) (hv : v ≤ 1) :
    d.checkWrite src Obj.HOST_MODE (beBytes (objSize Obj.HOST_MODE) v) = (0, v) := by
  have hrange : v = 0 ∨ v = 1 := by omega
  have hrights : d.rightsStatus src Obj.HOST_MODE .rw = 0 :=
    rightsStatus_holdOpen d src (by decide) (by decide) (by decide) copied_HOST_MODE
  exact checkWrite_ok d src _ v _ row_HOST_MODE rfl (by simp only [ObjType.size]; omega) hrights (by simpa [RangeCheck.ok] using hrange)
    (ownerStatus_free d _ v (by decide) (by decide) (by decide))

/-- The block that holds a HOST_MODE until the next rising edge. -/
def Dev.modeHeld (d : Dev) (v : Nat) : Dev := { d with acc := { d.acc with modeReq := some v } }

theorem acceptWrite_HOST_MODE (d : Dev) (src : Src) (v : Nat) :
    d.acceptWrite src Obj.HOST_MODE v = (0, (d.repairObject Obj.HOST_MODE).modeHeld v) := by
  unfold Dev.acceptWrite
  exact if_pos rfl

/-- A HOST_MODE that waits takes effect while the port answers (R76). -/
theorem csRise_held (d : Dev) (v : Nat) (h : d.acc.modeReq = some v) (hlive : d.hostLive = true) :
    d.csRise = ({ d with acc := { d.acc with modeReq := none } } : Dev).setObj Obj.HOST_MODE v := by
  simp [Dev.csRise, h, hlive]

theorem csRise_free (d : Dev) (h : d.acc.modeReq = none) : d.csRise = d := by
  simp [Dev.csRise, h]

/-- Settles O11: the write is held where it is accepted, and the edge puts the held value in the one object. -/
theorem hostModeWaitsForTheChipSelect : Obligations.HostModeWaitsForTheChipSelect := by
  unfold Obligations.HostModeWaitsForTheChipSelect
  refine ⟨fun s src mode hreach hmode => ?write, fun s v hreq hlive => answers_onDev Dev.csRise rfl ?edge,
    fun s hreq => answers_onDev Dev.csRise rfl ?free⟩
  case write =>
    have hdom : isDomain Obj.HOST_MODE = false := isDomain_plain row_HOST_MODE rfl
    refine ⟨_, command_accepted hreach hdom (checkWrite_HOST_MODE s.dev src _ hmode) (acceptWrite_HOST_MODE s.dev.fresh src _) rfl, ?_,
      same_of_dict rfl rfl rfl⟩
    exact (reported_settle ((s.dev.fresh.repairObject Obj.HOST_MODE).modeHeld mode.toNat)).modeReq
  case edge =>
    rw [csRise_held s.dev.fresh v hreq hlive, settle_none _ rfl]
    exact ⟨Dev.obj_setObj_same _ _ _, rfl, fun k hk _ => Dev.obj_setObj_ne _ _ _ _ (Ne.symm hk), rfl, rfl⟩
  case free =>
    rw [csRise_free s.dev.fresh hreq]
    exact same_of_dict rfl rfl rfl

/-! ## SAVE and RESTORE (R54 to R58) -/

/-- A command object of every open source: WO, with its own conditions met. -/
theorem admits_command {s : State} {src : Src} {k v : Nat} {r : ObjRow} (ho : Open s src) (hrow : rowOf k = some r) (hp : r.ty.plain = true)
    (hwo : r.rights = .wo) (hv : v < 256 ^ r.ty.size) (hc : r.chk.ok r.ty v = true) (hidx : k / 256 < 0x200) (hreq : k ≠ Obj.STATE_REQUEST) :
    s.dev.Admits src k v r where
  row := hrow
  plain := hp
  width := hv
  rights := rightsStatus_open s src k _ ho (by simp only [vendorDomain, Bool.and_eq_false_iff, decide_eq_false_iff_not]; omega) (by omega) (.inl hwo)
  range := hc
  noMode := by rintro rfl; revert hidx; decide
  noLatch := fun hl => ho.hold hl.2
  noSafety := by simp [hwo]
  noRequest := fun hr => hreq hr.1

/-- An accepted command waits last, and its block stands as the engine has prepared it. -/
theorem Dev.Admits.command {s : State} {src : Src} {k v : Nat} {r : ObjRow} (h : s.dev.Admits src k v r) (hreach : s.dev.reaches src = true)
    (ho : s.dev.ownerStatus k v = 0) :
    ∃ t, s.command src k v = .next t ∧ s.Queued t src k v ∧ t.dev.tally.save = (s.dev.fresh.prepared src k v).tally.save ∧
      t.dev.tally.restoring = (s.dev.fresh.prepared src k v).tally.restoring := by
  have hlists := lists_prepared s.dev.fresh src k v
  have hcheck : s.dev.checkWrite src k (beBytes (objSize k) v) = (0, v) := by
    rw [show objSize k = r.ty.size by simp [objSize, h.row]]
    exact h.checkWriteAt ho
  refine ⟨_, command_accepted hreach (isDomain_plain h.row h.plain) hcheck h.fresh.acceptWrite (congrArg DevCtl.causeReq hlists.ctl),
    ⟨?_, hlists.same⟩, ?_, ?_⟩
  · exact (congrArg Tally.queue (settle_tally _)).trans hlists.queue
  · exact (congrArg Tally.save (settle_tally ((s.dev.fresh.prepared src k v).enqueueWrite src k v []))).trans rfl
  · exact (congrArg Tally.restoring (settle_tally ((s.dev.fresh.prepared src k v).enqueueWrite src k v []))).trans rfl

theorem noteMove_save (d : Dev) (k v : Nat) : (d.noteMove k v).tally = d.tally := by
  obtain ⟨g, hg⟩ := noteMove_rest d k v
  rw [hg]

/-- A save is in progress from its acceptance (R58). -/
theorem prepared_SAVE (d : Dev) (src : Src) (v : Nat) :
    (d.prepared src Obj.SAVE v).tally.save = some { acceptedAt := d.now, safety := d.inSafety src, snap := none } := by
  rw [Dev.prepared, noteMove_save]
  rfl

theorem prepared_RESTORE (d : Dev) (src : Src) (v : Nat) : (d.prepared src Obj.RESTORE v).tally.restoring = true := by
  rw [Dev.prepared, noteMove_save]
  rfl

theorem ownerStatus_SAVE (d : Dev) (v : Nat) (hsave : d.tally.save = none) (hrest : d.tally.restoring = false) (hs : d.state ≠ stRun) :
    d.ownerStatus Obj.SAVE v = 0 := by
  simp [Dev.ownerStatus, Dev.ownerStatusAt, Dev.accessWrite, hsave, hrest, hs, Obj.SAVE]

theorem ownerStatus_RESTORE (d : Dev) (v : Nat) (hsave : d.tally.save = none) (hrest : d.tally.restoring = false) (hs : d.state = stConfig) :
    d.ownerStatus Obj.RESTORE v = 0 := by
  simp [Dev.ownerStatus, Dev.ownerStatusAt, Dev.accessWrite, hsave, hrest, hs, Obj.SAVE, Obj.RESTORE]

theorem save_after (d : Dev) (m : Mem) (v : Nat) : d.after m Obj.SAVE v = (d.saveEffect, m) := by
  rw [after_owner d m _ v rws_SAVE copied_SAVE leaves_SAVE (by decide)]
  rfl

theorem saveEffect_snapshot (d : Dev) (j : SaveJob) (h : d.tally.save = some j) (hsnap : j.snap = none) :
    d.saveEffect = { d with tally := { d.tally with save := some { j with snap := some (d.snapshot j.safety) } } } := by
  simp [Dev.saveEffect, h, hsnap]

/-- The block with no save in progress. -/
def Dev.saveEnded (d : Dev) : Dev := { d with tally := { d.tally with save := none } }

/-- The copies once an image has been written to the one that is not current (R54). -/
def Flash.written (f : Flash) (c : ImageCopy) : Flash :=
  if f.current1 then { f with copy0 := some c, current1 := false } else { f with copy1 := some c, current1 := true }

theorem Flash.written_spec (f : Flash) (c : ImageCopy) : (f.written c).current = some c ∧ (f.written c).current1 = !f.current1 ∧
    (if f.current1 then (f.written c).copy1 = f.copy1 else (f.written c).copy0 = f.copy0) := by
  unfold Flash.written
  cases h : f.current1 <;> simp [Flash.current]

/-- The block once an image has been written. -/
def Dev.imaged (d : Dev) (c : ImageCopy) : Dev := { d with flash := d.flash.written c }

section
variable {d : Dev} {j : SaveJob} {c : ImageCopy} (h : d.tally.save = some j) (hsnap : j.snap = some c)
include h hsnap

theorem saveDone_fits (hfits : c.bytes ≤ 4194304) :
    d.saveDone true = (d.saveEnded.imaged c).raise 1 0 := by
  simp only [Dev.saveDone, h, hsnap, if_neg (Nat.not_lt.mpr hfits), if_true]
  rfl

theorem saveDone_tooLarge (hlarge : 4194304 < c.bytes) (ok : Bool) : d.saveDone ok = d.saveEnded.raise 1 0x0006 := by
  simp only [Dev.saveDone, h, hsnap, if_pos hlarge]
  rfl

end

/-- The block once a restore has erased both copies (R57). -/
def Dev.erased (d : Dev) : Dev :=
  { d with tally := { d.tally with restoring := false }, flash := { d.flash with copy0 := none, copy1 := none } }

theorem restoreDone_running (d : Dev) (h : d.tally.restoring = true) : d.restoreDone = d.erased.raise 2 0 := by
  simp only [Dev.restoreDone, h, Bool.not_true, Bool.false_eq_true, if_false]
  rfl

/-- Settles O12: acceptance marks the job, and each end is one change of the copies and one report. -/
theorem saveRestoreAndTheirEnds : Obligations.SaveRestoreAndTheirEnds := by
  unfold Obligations.SaveRestoreAndTheirEnds
  refine ⟨fun s src hopen hsave hrest => ⟨fun hstate => ?save, fun hstate => ?restore⟩, fun d m j hjob hsnap => ?effect,
    fun s j c hjob hsnap => ⟨fun hfits => answers_onDev (fun d => d.saveDone true) rfl ?fits,
      fun hlarge ok => answers_onDev (fun d => d.saveDone ok) rfl ?large⟩,
    fun s hrest => answers_onDev Dev.restoreDone rfl ?restored⟩
  case save =>
    have hadmits : s.dev.Admits src Obj.SAVE 0x73617665 _ := admits_command hopen row_SAVE rfl rfl (by decide) (by decide) (by decide) (by decide)
    obtain ⟨t, ht, hqueued, hjob, -⟩ := hadmits.command hopen.reach (ownerStatus_SAVE _ _ hsave hrest hstate)
    exact ⟨t, ht, hqueued, hjob.trans (prepared_SAVE _ _ _)⟩
  case restore =>
    have hadmits : s.dev.Admits src Obj.RESTORE 0x6C6F6164 _ :=
      admits_command hopen row_RESTORE rfl rfl (by decide) (by decide) (by decide) (by decide)
    obtain ⟨t, ht, hqueued, -, hjob⟩ := hadmits.command hopen.reach (ownerStatus_RESTORE _ _ hsave hrest hstate)
    exact ⟨t, ht, hqueued, hjob.trans (prepared_RESTORE _ _ _)⟩
  case effect =>
    rw [save_after, saveEffect_snapshot d j hjob hsnap]
  case fits =>
    rw [saveDone_fits (d := s.dev.fresh) hjob hsnap hfits]
    have hreport := (reported_raise (s.dev.fresh.saveEnded.imaged c) 1 0 (by decide)).trans (reported_settle _)
    have hflash : ((s.dev.fresh.saveEnded.imaged c).raise 1 0).settle.flash = s.dev.flash.written c := hreport.flash
    obtain ⟨hcurrent, hother, hkept⟩ := s.dev.flash.written_spec c
    refine ⟨?_, ?_, ?_, congrArg Tally.save hreport.tally, settle_latched _ 1 (by decide) (latched_raise _ 1 0 (by decide))⟩
    · exact (congrArg Flash.current hflash).trans hcurrent
    · exact (congrArg Flash.current1 hflash).trans hother
    · dsimp only
      rw [hflash]
      exact hkept
  case large =>
    rw [saveDone_tooLarge (d := s.dev.fresh) hjob hsnap hlarge]
    have hreport := (reported_raise s.dev.fresh.saveEnded 1 6 (by decide)).trans (reported_settle _)
    exact ⟨hreport.flash, congrArg Tally.save hreport.tally, settle_latched _ 1 (by decide) (latched_raise _ 1 6 (by decide))⟩
  case restored =>
    rw [restoreDone_running s.dev.fresh hrest]
    have hreport := (reported_raise s.dev.fresh.erased 2 0 (by decide)).trans (reported_settle _)
    exact ⟨congrArg Flash.copy0 hreport.flash, congrArg Flash.copy1 hreport.flash, congrArg Tally.restoring hreport.tally,
      settle_latched _ 2 (by decide) (latched_raise _ 2 0 (by decide)), fun k _ he => hreport.obj k he⟩

end Sys2Proof.Machine
end

section
/-! SUPPORT. Hurdles at a boundary: what a hurdle lets through and what it holds back (R64, R65, R68 to R70). -/

set_option Elab.async false

namespace Sys2Proof.Machine

/-! ## One write of the list -/

section
variable {p : Pour} {w : QueuedWrite} {timed : Bool}

/-- Behind a hurdle that holds, a write waits. -/
theorem Pour.step_blocked (h : p.blocked = true) : p.step (w, timed) = { p with wait := p.wait ++ [w.seq] } := by
  simp [Pour.step, h]

theorem Pour.step_write (h : p.blocked = false) (hkey : w.key ≠ Obj.HURDLE) :
    p.step (w, timed) = { p with x := takeWrite p.x w, applied := p.applied || !timed, blocked := false } := by
  simp [Pour.step, h, hkey]

/-- A hurdle waits itself while a safety block committed before it has not applied (R68). -/
theorem Pour.step_hurdle_held (h : p.blocked = false) (hkey : w.key = Obj.HURDLE)
    (hblock : p.x.1.tally.committed.any (fun c => c.2.1 < w.seq) = true) :
    p.step (w, timed) = { p with blocked := true, wait := p.wait ++ [w.seq] } := by
  simp [Pour.step, h, hkey, hblock]

/-- A hurdle that completes holds back what follows when a write has taken effect at this boundary (R69). -/
theorem Pour.step_hurdle_completes (h : p.blocked = false) (hkey : w.key = Obj.HURDLE)
    (hblock : p.x.1.tally.committed.any (fun c => c.2.1 < w.seq) = false) :
    p.step (w, timed) = { p with x := (p.x.1.raise 0 w.val, p.x.2), applied := p.applied || !timed, blocked := p.applied } := by
  simp [Pour.step, h, hkey, hblock]

end

/-! ## The list -/

/-- Ordinary writes in their order. -/
def Pour.pour (p : Pour) (l : List QueuedWrite) : Pour := (l.map (fun w => (w, false))).foldl Pour.step p

theorem Pour.pour_append (p : Pour) (l m : List QueuedWrite) : p.pour (l ++ m) = (p.pour l).pour m := by
  simp [Pour.pour]

theorem Pour.pour_cons (p : Pour) (w : QueuedWrite) (l : List QueuedWrite) : p.pour (w :: l) = (p.step (w, false)).pour l := rfl

/-- Behind a hurdle that holds, every write waits. -/
theorem Pour.pour_blocked (p : Pour) (l : List QueuedWrite) (h : p.blocked = true) : p.pour l = { p with wait := p.wait ++ l.map (·.seq) } := by
  induction l generalizing p with
  | nil => simp [Pour.pour]
  | cons w l ih =>
    rw [Pour.pour_cons, Pour.step_blocked h, ih { p with wait := p.wait ++ [w.seq] } h]
    simp

/-- Writes without a hurdle among them all take effect. -/
theorem Pour.pour_writes (p : Pour) (l : List QueuedWrite) (h : p.blocked = false) (hl : ∀ w ∈ l, w.key ≠ Obj.HURDLE) :
    (p.pour l).blocked = false ∧ (p.pour l).applied = (p.applied || !l.isEmpty) := by
  induction l generalizing p with
  | nil => simp [Pour.pour, h]
  | cons w l ih =>
    rw [Pour.pour_cons, Pour.step_write h (hl w (by simp))]
    obtain ⟨hblocked, happlied⟩ := ih { p with x := takeWrite p.x w, applied := p.applied || !false, blocked := false } rfl
      (fun v hv => hl v (by simp [hv]))
    exact ⟨hblocked, happlied.trans (by simp)⟩

/-! ## The boundary -/

/-- The block as it starts to apply its lists. -/
def Pour.start (x : DM) : Pour :=
  { x := ({ x.1 with tally := { x.1.tally with queue := [], timed := [] } }, x.2), applied := false, blocked := false, wait := [] }

/-- The block as it has applied the list l: what waits stays, before what the writes themselves have listed. -/
def Pour.finish (p : Pour) (l : List QueuedWrite) : DM :=
  ({ p.x.1 with tally := { p.x.1.tally with queue := l.filter (fun w => p.wait.contains w.seq) ++ p.x.1.tally.queue, timed := [] } }, p.x.2)

/-- Where every listed write is due and none is timed, the boundary pours the list. -/
theorem applyWrites_ripe (x : DM) (htimed : x.1.tally.timed = []) (hripe : ∀ w ∈ x.1.tally.queue, x.1.ripe w = true) :
    applyWrites x = ((Pour.start x).pour x.1.tally.queue).finish x.1.tally.queue := by
  have hall : x.1.tally.queue.filter x.1.ripe = x.1.tally.queue := List.filter_eq_self.mpr hripe
  have hnone : x.1.tally.queue.filter (fun w => !x.1.ripe w) = [] := List.filter_eq_nil_iff.mpr (by simpa using hripe)
  unfold applyWrites
  simp only [hall, hnone, htimed, List.filter_nil, List.foldl_nil, List.append_nil]
  rfl

theorem Pour.mem_finish {p : Pour} {l : List QueuedWrite} {w : QueuedWrite} (hw : w ∈ l) (hwait : w.seq ∈ p.wait) :
    w ∈ (p.finish l).1.tally.queue := by
  simp [Pour.finish, hw, hwait]

/-- Where every write of the list waits, the list is as before. -/
theorem Pour.finish_all {p : Pour} {l : List QueuedWrite} (hwait : p.wait = l.map (·.seq)) (hnew : p.x.1.tally.queue = []) :
    (p.finish l).1.tally.queue = l := by
  have hall : l.filter (fun w => p.wait.contains w.seq) = l :=
    List.filter_eq_self.mpr fun w hw => by simpa [hwait] using ⟨w, hw, rfl⟩
  rw [Pour.finish, hall, hnew, List.append_nil]

/-- What the end of the list leaves as the writes have left it. -/
theorem Pour.finish_obj (p : Pour) (l : List QueuedWrite) (k : Nat) : (p.finish l).1.obj k = p.x.1.obj k := rfl

theorem Pour.finish_latched (p : Pour) (l : List QueuedWrite) (src : Nat) : (p.finish l).1.latched src = p.x.1.latched src := rfl

/-- A hurdle behind an ordinary write: what follows waits, and the hurdle is reported unless it waits itself. -/
theorem pour_hurdle_behind (p : Pour) (before after : List QueuedWrite) (h : QueuedWrite) (hp : p.blocked = false) (hne : before ≠ [])
    (hkey : h.key = Obj.HURDLE) (hbefore : ∀ w ∈ before, w.key ≠ Obj.HURDLE) :
    (∀ w ∈ after, w.seq ∈ (p.pour (before ++ h :: after)).wait) ∧
      ((p.pour (before ++ h :: after)).x.1.latched 0 = true ∨ h.seq ∈ (p.pour (before ++ h :: after)).wait) := by
  obtain ⟨hblocked, happlied⟩ := Pour.pour_writes p before hp hbefore
  have hbehind : (p.pour before).applied = true := by simp [happlied, hne]
  rw [Pour.pour_append, Pour.pour_cons]
  cases hblock : (p.pour before).x.1.tally.committed.any (fun c => c.2.1 < h.seq) with
  | true =>
    rw [Pour.step_hurdle_held hblocked hkey hblock, Pour.pour_blocked _ after rfl]
    exact ⟨fun w hw => by simp [List.mem_map_of_mem hw], .inr (by simp)⟩
  | false =>
    rw [Pour.step_hurdle_completes hblocked hkey hblock, Pour.pour_blocked _ after hbehind]
    dsimp only
    exact ⟨fun w hw => by simp [List.mem_map_of_mem hw], .inl (latched_raise (p.pour before).x.1 0 h.val (by decide))⟩

/-- A hurdle alone completes, and nothing waits. -/
theorem pour_hurdle_alone (p : Pour) (h : QueuedWrite) (hp : p.blocked = false) (hkey : h.key = Obj.HURDLE)
    (hblock : p.x.1.tally.committed.any (fun c => c.2.1 < h.seq) = false) :
    p.pour [h] = { p with x := (p.x.1.raise 0 h.val, p.x.2), applied := true, blocked := p.applied } := by
  rw [Pour.pour_cons, Pour.step_hurdle_completes hp hkey hblock]
  simp [Pour.pour]

theorem ownerStatus_HURDLE (d : Dev) (v : Nat) : d.ownerStatus Obj.HURDLE v = 0 :=
  ownerStatus_free d _ v (by decide) (by decide) (by decide)

theorem admits_HURDLE {s : State} {src : Src} (ho : Open s src) (number : BitVec 16) : 
    s.dev.Admits src Obj.HURDLE number.toNat ⟨496, 1, 1, 0, 1, .u16, .wo, 0, .rng 0 65535⟩ := by
  have hnumber : number.toNat < 65536 := number.isLt
  refine admits_command ho row_HURDLE rfl rfl hnumber ?_ (by decide) (by decide)
  show (decide ((0 : Int) ≤ number.toNat) && decide ((number.toNat : Int) ≤ 65535)) = true
  rw [Bool.and_eq_true, decide_eq_true_eq, decide_eq_true_eq]
  omega

/-- Settles O13: a boundary pours its list write by write, and a hurdle decides by what has taken effect before it. -/
theorem aHurdleHoldsLaterWritesBack : Obligations.AHurdleHoldsLaterWritesBack := by
  unfold Obligations.AHurdleHoldsLaterWritesBack
  refine ⟨fun s src number hopen => ?accepted, fun x before after h hqueue htimed hripe hkey hne hothers => ?behind,
    fun x h hqueue htimed hripe hkey hcommitted => ?alone, fun x after h hqueue htimed hripe hkey hblock => ?held⟩
  case accepted =>
    obtain ⟨t, ht, hqueued, -⟩ := (admits_HURDLE hopen number).command hopen.reach (ownerStatus_HURDLE _ _)
    exact ⟨t, ht, hqueued⟩
  case behind =>
    rw [applyWrites_ripe x htimed hripe, hqueue]
    obtain ⟨hafter, hself⟩ := pour_hurdle_behind (Pour.start x) before after h rfl hne hkey (fun w hw => hothers w (by simp [hw]))
    exact ⟨fun w hw => Pour.mem_finish (by simp [hw]) (hafter w hw), hself.imp id (Pour.mem_finish (by simp))⟩
  case alone =>
    have hblock : (Pour.start x).x.1.tally.committed.any (fun c => c.2.1 < h.seq) = false := by
      rw [show (Pour.start x).x.1.tally.committed = [] from hcommitted, List.any_nil]
    rw [applyWrites_ripe x htimed (by simp [hqueue, hripe]), hqueue, pour_hurdle_alone _ h rfl hkey hblock]
    have hreport := reported_raise (Pour.start x).x.1 0 h.val (by decide)
    refine ⟨?_, ?_, fun k _ he => ?_, rfl⟩
    · dsimp only [Pour.finish]
      rw [hreport.tally]
      rfl
    · rw [Pour.finish_latched]
      dsimp only
      exact latched_raise (Pour.start x).x.1 0 h.val (by decide)
    · rw [Pour.finish_obj]
      dsimp only
      exact hreport.obj k he
  case held =>
    have hstart : (Pour.start x).x.1.tally.committed.any (fun c => c.2.1 < h.seq) = true := hblock
    rw [applyWrites_ripe x htimed hripe, hqueue, Pour.pour_cons, Pour.step_hurdle_held rfl hkey hstart, Pour.pour_blocked _ after rfl]
    exact Pour.finish_all rfl rfl

end Sys2Proof.Machine
end

section
/-! SUPPORT. EVENT_LATCH and SAFETY_COMMIT: latches cleared by a write of 1, a pending safety block taken or discarded (R64, R65, R96, R471, R485). -/

set_option Elab.async false

namespace Sys2Proof.Machine

/-! ## Latches cleared (R96) -/

/-- A bit read after bit n is cleared. -/
theorem bit_setBit_false (v n m : Nat) : bit (setBit v n false) m = (bit v m && m != n) := by
  cases hb : bit v n with
  | false =>
    have hsame : setBit v n false = v := by simp [setBit, hb]
    rw [hsame]
    by_cases hm : m = n
    · simp [hm, hb]
    · simp [hm]
  | true =>
    obtain ⟨u, rfl⟩ : ∃ u, v = u + 2 ^ n := by
      refine ⟨v - 2 ^ n, (Nat.sub_add_cancel ?_).symm⟩
      by_contra hlt
      simp [bit, Nat.shiftRight_eq_div_pow, Nat.div_eq_of_lt (Nat.not_le.mp hlt)] at hb
    have hclear : bit u n = false := by
      simp only [bit, Nat.shiftRight_eq_div_pow, Nat.add_div_right u (show 0 < 2 ^ n by positivity), beq_iff_eq, beq_eq_false_iff_ne] at hb ⊢
      omega
    have hset : bit (u + 2 ^ n) m = (bit u m || m == n) := by
      simpa [setBit, hclear] using bit_setBit_true u n m
    have hunset : setBit (u + 2 ^ n) n false = u := by simp [setBit, hb]
    rw [hunset, hset]
    by_cases hm : m = n
    · simp [hm, hclear]
    · simp [hm, beq_eq_false_iff_ne.mpr hm]

/-- One latch and its count cleared. -/
def Dev.clearOne (d : Dev) (sub i : Nat) : Dev := (d.setObjBit (Obj.EVENT_LATCH sub) i false).setObj (Obj.OCCURRENCES (32 * sub + i)) 0

theorem clearLatch_eq (d : Dev) (sub mask : Nat) : d.clearLatch sub mask = (bitsSet 32 mask).foldl (fun d i => d.clearOne sub i) d := rfl

theorem clearOne_obj (d : Dev) (sub i k : Nat) : (d.clearOne sub i).obj k = if Obj.OCCURRENCES (32 * sub + i) = k then 0
    else if Obj.EVENT_LATCH sub = k then setBit (d.obj (Obj.EVENT_LATCH sub)) i false else d.obj k := by
  rw [Dev.clearOne, Dev.obj_setObj, Dev.obj_setObjBit]

section
variable (sub : Nat) (l : List Nat) (d : Dev)

/-- No object but the set of latches and the counts of the bits. -/
theorem clearAll_other (k : Nat) (hlatch : k ≠ Obj.EVENT_LATCH sub) (hcount : ∀ i ∈ l, k ≠ Obj.OCCURRENCES (32 * sub + i)) :
    (l.foldl (fun d i => d.clearOne sub i) d).obj k = d.obj k := by
  induction l generalizing d with
  | nil => rfl
  | cons i l ih =>
    rw [List.foldl_cons, ih _ (fun j hj => hcount j (by simp [hj])), clearOne_obj, if_neg (Ne.symm (hcount i (by simp))), if_neg (Ne.symm hlatch)]

/-- The counts of the bits are 0. -/
theorem clearAll_count (i : Nat) (hi : i ∈ l) (hlatch : Obj.OCCURRENCES (32 * sub + i) ≠ Obj.EVENT_LATCH sub) :
    (l.foldl (fun d i => d.clearOne sub i) d).obj (Obj.OCCURRENCES (32 * sub + i)) = 0 := by
  induction l generalizing d with
  | nil => simp at hi
  | cons j l ih =>
    by_cases hl : i ∈ l
    · exact ih _ hl
    · obtain rfl : i = j := by simpa [hl] using hi
      have hcount : ∀ j ∈ l, Obj.OCCURRENCES (32 * sub + i) ≠ Obj.OCCURRENCES (32 * sub + j) := fun j hj heq => by
        obtain rfl : i = j := by simpa [Obj.OCCURRENCES] using heq
        exact hl hj
      rw [List.foldl_cons, clearAll_other sub l _ _ hlatch hcount, clearOne_obj, if_pos rfl]

/-- The latches of the bits are clear, the others as before. -/
theorem clearAll_latch (hsub : sub < 8) (j : Nat) :
    bit ((l.foldl (fun d i => d.clearOne sub i) d).obj (Obj.EVENT_LATCH sub)) j = (bit (d.obj (Obj.EVENT_LATCH sub)) j && !l.contains j) := by
  induction l generalizing d with
  | nil => simp
  | cons i l ih =>
    have hne : Obj.OCCURRENCES (32 * sub + i) ≠ Obj.EVENT_LATCH sub := by simp only [Obj.OCCURRENCES, Obj.EVENT_LATCH]; omega
    rw [List.foldl_cons, ih, clearOne_obj, if_neg hne, if_pos rfl, bit_setBit_false]
    cases bit (d.obj (Obj.EVENT_LATCH sub)) j <;> simp [bne, beq_eq_decide]

end

/-- Beside the dictionary, clearing changes nothing, and it looks at the dictionary alone. -/
theorem clearLatch_shape (d : Dev) (sub mask : Nat) : d.clearLatch sub mask = { d with dict := (d.clearLatch sub mask).dict } := by
  rw [clearLatch_eq]
  refine foldl_induct (fun e : Dev => e = { d with dict := e.dict }) _ _ _ (fun e i he => ?_) rfl
  rw [he]
  rfl

theorem clearLatch_congr {d e : Dev} (h : e.dict = d.dict) (sub mask : Nat) : (e.clearLatch sub mask).dict = (d.clearLatch sub mask).dict := by
  rw [clearLatch_eq, clearLatch_eq]
  induction bitsSet 32 mask generalizing d e with
  | nil => exact h
  | cons i l ih =>
    refine ih ?_
    simp only [Dev.clearOne, Dev.setObj, Dev.setObjBit, Dev.obj, h]

theorem bit_eq_testBit (v n : Nat) : bit v n = v.testBit n := by
  simp [bit, Nat.testBit_eq_decide_div_mod_eq, Nat.shiftRight_eq_div_pow, beq_eq_decide]

theorem mem_bitsSet (mask : BitVec 32) (i : Fin 32) : i.val ∈ bitsSet 32 mask.toNat ↔ mask.getLsb i = true := by
  simp only [bitsSet, List.mem_filter, List.mem_range, i.isLt, true_and, bit_eq_testBit]
  rfl

theorem EVENT_LATCH_index (n : Fin 8) : Obj.EVENT_LATCH n / 256 = 0x611 ∧ Obj.EVENT_LATCH n % 256 = n := by
  simp only [Obj.EVENT_LATCH]
  omega

/-- A write of EVENT_LATCH in effect clears. -/
theorem latch_after (d : Dev) (m : Mem) (n : Fin 8) (v : Nat) : d.after m (Obj.EVENT_LATCH n) v = (d.clearLatch n v, m) := by
  obtain ⟨hidx, hsub⟩ := EVENT_LATCH_index n
  have hbound : isBound (Obj.EVENT_LATCH n) = false := by revert n; decide
  rw [after_owner d m _ v (rws_EVENT_LATCH n) (copied_EVENT_LATCH n) (leaves_EVENT_LATCH n) hbound, ownerEffect_misc _ _ _ _ _ (by omega)]
  have hne : ∀ k : Nat, k / 256 ≠ 0x611 → Obj.EVENT_LATCH n ≠ k := by rintro k hk rfl; exact hk hidx
  simp [miscEffect, hidx, hsub, hne Obj.STATE_REQUEST (by decide), hne Obj.SAVE (by decide)]

theorem checkWrite_EVENT_LATCH (d : Dev) (src : Src) (n : Fin 8) (mask : BitVec 32) :
    d.checkWrite src (Obj.EVENT_LATCH n) (beBytes (objSize (Obj.EVENT_LATCH n)) mask.toNat) = (0, mask.toNat) := by
  obtain ⟨hidx, -⟩ := EVENT_LATCH_index n
  have hrights : d.rightsStatus src (Obj.EVENT_LATCH n) .rw = 0 :=
    rightsStatus_holdOpen d src (by simp [holdOpen, hidx]) (by simp [vendorDomain, hidx]) (by omega) (copied_EVENT_LATCH n)
  have hne : ∀ k : Nat, k / 256 ≠ 0x611 → Obj.EVENT_LATCH n ≠ k := by rintro k hk rfl; exact hk hidx
  exact checkWrite_ok d src _ _ _ (row_EVENT_LATCH n) rfl mask.isLt hrights rfl
    (ownerStatus_free d _ _ (by omega) (hne _ (by decide)) (hne _ (by decide)))

theorem acceptWrite_latch (d : Dev) (src : Src) (n : Fin 8) (v : Nat) (h : d.state = stSafeHold) :
    d.acceptWrite src (Obj.EVENT_LATCH n) v = (0, (d.repairObject (Obj.EVENT_LATCH n)).clearLatch n v) := by
  obtain ⟨hidx, hsub⟩ := EVENT_LATCH_index n
  have hmode : Obj.EVENT_LATCH n ≠ Obj.HOST_MODE := by
    intro heq
    rw [heq] at hidx
    revert hidx
    decide
  have hhold : (d.repairObject (Obj.EVENT_LATCH n)).state = stSafeHold := h
  unfold Dev.acceptWrite
  simp only [if_neg hmode, hidx, hhold, and_self, if_true, hsub]

/-- Settles O14: the write clears one latch and one count for each bit of the mask, and nothing else. -/
theorem latchesAreClearedByAWriteOfOne : Obligations.LatchesAreClearedByAWriteOfOne := by
  unfold Obligations.LatchesAreClearedByAWriteOfOne
  refine ⟨fun s src n mask hopen => ?waits, fun s src n mask hreach hhold => ?atOnce, fun d m n mask => ?effect⟩
  case waits =>
    obtain ⟨hidx, -⟩ := EVENT_LATCH_index n
    have hne : ∀ k : Nat, k / 256 ≠ 0x611 → Obj.EVENT_LATCH n ≠ k := by rintro k hk rfl; exact hk hidx
    exact command_queued s src _ _ _ hopen.reach (row_EVENT_LATCH n) rfl mask.isLt
      (rightsStatus_open s src _ _ hopen (by simp [vendorDomain, hidx]) (by omega) (.inr rfl)) rfl
      (ownerStatus_free _ _ _ (by omega) (hne _ (by decide)) (hne _ (by decide))) (hne _ (by decide)) (fun h => hopen.hold h.2) (by decide)
      (fun h => hne _ (by decide) h.1)
  case atOnce =>
    have hshape := clearLatch_shape (s.dev.fresh.repairObject (Obj.EVENT_LATCH n)) n mask.toNat
    refine ⟨_, command_accepted hreach (isDomain_plain (row_EVENT_LATCH n) rfl) (checkWrite_EVENT_LATCH s.dev src n mask)
      (acceptWrite_latch s.dev.fresh src n _ hhold) (congrArg (fun e : Dev => e.ctl.causeReq) hshape), fun k => ?_⟩
    rw [settle_none _ (congrArg Dev.drops hshape)]
    have hdict : (s.dev.fresh.repairObject (Obj.EVENT_LATCH n)).dict = s.dev.dict := rfl
    exact Dev.obj_congr _ _ (clearLatch_congr hdict n mask.toNat) k
  case effect =>
    rw [latch_after]
    have hkeys : ∀ i : Nat, Obj.OCCURRENCES (32 * n + i) ≠ Obj.EVENT_LATCH n := fun i => by simp only [Obj.OCCURRENCES, Obj.EVENT_LATCH]; omega
    have hplace : ∀ i : Fin 32, (32 * n.val + i) / 32 = n ∧ (32 * n.val + i) % 32 = i := fun i => by omega
    refine ⟨fun i hi => ⟨?cleared, ?zero⟩, fun i hi => ⟨?kept, ?counted⟩, fun k hlatch hcount => ?other, fun k => rfl⟩
    case cleared =>
      rw [Dev.latched, (hplace i).1, (hplace i).2, clearLatch_eq, clearAll_latch n _ d n.isLt, List.contains_iff_mem.mpr ((mem_bitsSet mask i).mpr hi)]
      simp
    case zero => exact clearAll_count n _ d i ((mem_bitsSet mask i).mpr hi) (hkeys i)
    case kept =>
      have hnot : i.val ∉ bitsSet 32 mask.toNat := fun hmem => Bool.false_ne_true (hi.symm.trans ((mem_bitsSet mask i).mp hmem))
      rw [Dev.latched, Dev.latched, (hplace i).1, (hplace i).2, clearLatch_eq, clearAll_latch n _ d n.isLt]
      simp [hnot]
    case counted =>
      refine clearAll_other n _ d _ (hkeys i) fun j hj heq => ?_
      obtain rfl : i.val = j := by simpa [Obj.OCCURRENCES] using heq
      exact Bool.false_ne_true (hi.symm.trans ((mem_bitsSet mask i).mp hj))
    case other =>
      refine clearAll_other n _ d k hlatch fun j hj => ?_
      have hlt : j < 32 := by simpa using (List.mem_filter.mp hj).1
      exact hcount ⟨j, hlt⟩

/-! ## SAFETY_COMMIT (R64, R471, R485) -/

theorem checkWrite_SAFETY_COMMIT {s : State} {src : Src} (ho : Open s src) (hs : s.dev.inSafety src = true) (crc : Check32) :
    s.dev.checkWrite src Obj.SAFETY_COMMIT (beBytes (objSize Obj.SAFETY_COMMIT) crc.toNat) = (0, crc.toNat) := by
  have hrights : s.dev.rightsStatus src Obj.SAFETY_COMMIT .rws = 0 := by
    have hvendor : vendorDomain Obj.SAFETY_COMMIT = false := by decide
    have hkey : Obj.SAFETY_COMMIT / 256 ≠ 0x821 := by decide
    simp [Dev.rightsStatus, ho.hold, hvendor, hkey, hs, copied_SAFETY_COMMIT]
  exact checkWrite_ok s.dev src _ _ _ row_SAFETY_COMMIT rfl crc.isLt hrights rfl (ownerStatus_free _ _ _ (by decide) (by decide) (by decide))

/-- The block without a pending safety block. -/
def Dev.pendingGone (d : Dev) : Dev := { d with tally := { d.tally with pendingBlock := none } }

/-- The block with its pending safety block among the committed ones, in its place in the order of acceptance (R68). -/
def Dev.pendingCommitted (d : Dev) : Dev :=
  { d with tally := { d.tally with pendingBlock := none, accSeq := d.tally.accSeq + 1
                                   committed := d.tally.committed ++ [(false, d.tally.accSeq, d.tally.pendingBlock.getD [])] } }

theorem acceptWrite_SAFETY_COMMIT (d : Dev) (src : Src) (v : Nat) :
    d.acceptWrite src Obj.SAFETY_COMMIT v = (d.repairObject Obj.SAFETY_COMMIT).commitBlock v := by
  have hlatch : ¬ (Obj.SAFETY_COMMIT / 256 = 0x611 ∧ (d.repairObject Obj.SAFETY_COMMIT).state = stSafeHold) := fun h => absurd h.1 (by decide)
  unfold Dev.acceptWrite
  simp only [if_neg (show Obj.SAFETY_COMMIT ≠ Obj.HOST_MODE by decide), if_neg hlatch, rws_SAFETY_COMMIT, if_true]
  exact if_pos rfl

theorem commitBlock_good (d : Dev) (v : Nat) (hopen : d.commitOpen = true) (hcrc : Config.blockCrc d.fullBlock % 2 ^ 32 = v)
    (hconns : connsOk d.fullBlock = true) (hsteps : stepsOk d.fullBlock = true) (hlengths : lengthsOk d.fullBlock = true) :
    d.commitBlock v = (0, d.pendingCommitted) := by
  unfold Dev.commitBlock
  dsimp only
  rw [if_neg (by simp [hopen]), if_neg (not_not.mpr hcrc), if_neg (by simp [hconns]), if_neg (by simp [hsteps, hlengths])]
  rfl

theorem commitBlock_badCrc (d : Dev) (v : Nat) (hopen : d.commitOpen = true) (hcrc : Config.blockCrc d.fullBlock % 2 ^ 32 ≠ v) :
    d.commitBlock v = (0x000A, d.pendingGone) := by
  unfold Dev.commitBlock
  dsimp only
  rw [if_neg (by simp [hopen]), if_pos hcrc]
  rfl

/-- Settles O15: the commit is one decision on the whole block, and either outcome is a change of the engine's lists alone. -/
theorem safetyCommitTakesTheBlockOrDiscardsIt : Obligations.SafetyCommitTakesTheBlockOrDiscardsIt := by
  unfold Obligations.SafetyCommitTakesTheBlockOrDiscardsIt
  intro s src crc hopen hsafety hcommit
  have hdom : isDomain Obj.SAFETY_COMMIT = false := isDomain_plain row_SAFETY_COMMIT rfl
  have hcheck := checkWrite_SAFETY_COMMIT hopen hsafety crc
  let d := s.dev.fresh.repairObject Obj.SAFETY_COMMIT
  refine ⟨fun hcrc hconns hsteps hlengths => ?good, fun hcrc => ?bad⟩
  case good =>
    have hacc : s.dev.fresh.acceptWrite src Obj.SAFETY_COMMIT crc.toNat = (0, d.pendingCommitted) :=
      (acceptWrite_SAFETY_COMMIT _ _ _).trans (commitBlock_good d _ hcommit hcrc hconns hsteps hlengths)
    have htally := settle_tally d.pendingCommitted
    exact ⟨_, command_accepted hopen.reach hdom hcheck hacc rfl, congrArg Tally.committed htally, congrArg Tally.pendingBlock htally,
      same_of_dict rfl rfl rfl⟩
  case bad =>
    have hacc : s.dev.fresh.acceptWrite src Obj.SAFETY_COMMIT crc.toNat = (0x000A, d.pendingGone) :=
      (acceptWrite_SAFETY_COMMIT _ _ _).trans (commitBlock_badCrc d _ hcommit hcrc)
    obtain ⟨⟨hkeeps, -, hmem, -⟩, hlatched, htally⟩ := rejected_settle s Obj.SAFETY_COMMIT 0x000A (e := d.pendingGone) ⟨fun _ _ _ => rfl, rfl⟩
    have hreport := (reported_rejectWrite d.pendingGone Obj.SAFETY_COMMIT 0x000A).trans (reported_settle _)
    exact ⟨_, command_refused hopen.reach hdom hcheck hacc (by decide) rfl, (congrArg Tally.committed htally).trans rfl,
      (congrArg Tally.pendingBlock htally).trans rfl, hlatched, hkeeps, hreport.blobs, hmem⟩

end Sys2Proof.Machine
end

section
/-! SUPPORT. Results read by sets, and the event queue of the host port (R72 to R75, R80, R84, R97, R98, R365). -/

set_option Elab.async false

namespace Sys2Proof.Machine

/-! ## Results objects (R72, R253, R365) -/

theorem resultCtx_index {k c : Nat} (h : resultCtx k = some c) :
    0xA000 ≤ k / 256 ∧ k / 256 < 0xC200 ∧ 0x30 ≤ (k / 256 - 0xA000) % 0x40 := by
  unfold resultCtx at h
  dsimp only at h
  split at h
  · assumption
  · cases h

/-- A result is held: it is neither measured nor shown live. -/
theorem readHeld_result {k c : Nat} (h : resultCtx k = some c) (d : Dev) : d.readHeld k = (d.obj k, d) := by
  obtain ⟨hlo, hhi, hoff⟩ := resultCtx_index h
  have hmeasured : isMeasured k = false := by
    simp only [isMeasured, Obj.TJ, Obj.VFUSE_NOW, Bool.and_eq_false_iff, decide_eq_false_iff_not]
    omega
  have haxis : liveAxis k = none := by
    have hno : [((0x10 : Nat), (4 : Nat)), (0x10, 5), (0x1B, 1)].contains ((k / 256 - 0xA000) % 0x40, k % 256) = false := by
      simp only [List.contains_cons, List.contains_nil, Bool.or_false, Bool.or_eq_false_iff, beq_eq_false_iff_ne, ne_eq, Prod.mk.injEq]
      omega
    unfold liveAxis
    exact if_neg fun hcond => absurd hcond.2.2 (by rw [hno]; decide)
  have hne : ∀ j : Nat, j < 0xA00000 → k ≠ j := by
    rintro j hj rfl
    omega
  have hlive : d.live k = none := by
    simp [Dev.live, haxis, hne Obj.TIME_NOW (by decide), hne Obj.NS32_NOW (by decide), hne Obj.COPY_BUDGET (by decide)]
  exact readHeld_stored d k hmeasured hlive

/-- A result of a vendor domain is read in its row's type (R253). -/
theorem scalarBytes_result {k c : Nat} (h : resultCtx k = some c) (d : Dev) (ty : ObjType) (hdom : d.domOf c < 2)
    (hd : ∀ e ∈ d.fl.damaged, e.1 ≠ k) : d.scalarBytes k ty = (beBytes ty.size (wireOf ty (d.obj k)), d) := by
  have htype : d.readType k ty = ty := by simp [Dev.readType, h, Nat.not_le.mpr hdom]
  simp [Dev.scalarBytes, readHeld_result h d, htype, damagedBytes_undamaged d k _ hd]

theorem read_noSet (d : Dev) (reader : Nat) {k c : Nat} {r : ObjRow} (hr : rowOf k = some r) (hw : r.rights ≠ .wo) (ht : r.ty.isDomain = false)
    (hc : resultCtx k = some c) (hset : d.hasSet c = false) : d.read reader k = (.unflagged 0x000C [], d) := by
  simp [Dev.read, hr, hw, ht, hc, hset, Answer.ofStatus_eq]

theorem read_set (d : Dev) (reader : Nat) {k c : Nat} {r : ObjRow} (hr : rowOf k = some r) (hw : r.rights ≠ .wo) (ht : r.ty.isDomain = false)
    (hc : resultCtx k = some c) (hset : d.hasSet c = true) (hdom : d.domOf c < 2) (hd : ∀ e ∈ d.fl.damaged, e.1 ≠ k) :
    d.read reader k = d.takeSet reader c (beBytes r.ty.size (wireOf r.ty (d.obj k))) := by
  simp [Dev.read, hr, hw, ht, hc, hset, scalarBytes_result hc d r.ty hdom hd]

/-! ## Windows (R74, R75) -/

theorem readWindow_unknown (d : Dev) (reader idx : Nat) (h : ∀ c < 136, idx ≠ 0xA030 + 0x40 * c) :
    d.readWindow reader idx = (.unflagged 0x0001 [], d) := by
  have hno : idx < 0xA030 ∨ 0xC200 ≤ idx ∨ (idx - 0xA000) % 0x40 ≠ 0x30 := by
    have hc := h ((idx - 0xA030) / 0x40)
    omega
  exact if_pos hno

theorem readWindow_window (d : Dev) (reader c : Nat) (hc : c < 136) :
    d.readWindow reader (0xA030 + 0x40 * c) = if d.hasSet c then d.takeSet reader c (d.windowBytes c) else (.unflagged 0x000C [], d) := by
  have hplace : (0xA030 + 0x40 * c - 0xA000) / 0x40 = c := by omega
  unfold Dev.readWindow
  rw [if_neg (by omega)]
  simp only [hplace]
  cases d.hasSet c <;> rfl

theorem scalarBytes_fresh (d : Dev) (k : Nat) (ty : ObjType) : (d.fresh.scalarBytes k ty).1 = (d.scalarBytes k ty).1 := by
  have hlive : d.fresh.live k = d.live k := rfl
  unfold Dev.scalarBytes Dev.readHeld
  cases isMeasured k with
  | true =>
    simp only [if_true, Dev.measure]
    split <;> rfl
  | false =>
    simp only [Bool.false_eq_true, if_false, hlive]
    cases d.live k <;> rfl

theorem windowBytes_fresh (d : Dev) (c : Nat) : d.fresh.windowBytes c = d.windowBytes c := by
  simp only [Dev.windowBytes, scalarBytes_fresh]

/-! ## The flags of a set -/

theorem staleSet_eq (d : Dev) (c : Nat) :
    d.staleSet c = decide (d.obj (Obj.CYCLE_TAG c) ≠ d.cyc.tag ∨ d.state ∉ [stReady, stRun]) := by
  rw [Bool.eq_iff_iff]
  simp [Dev.staleSet]

/-- A set sent to the host port: its flags, and the note that the port has received it (R74). -/
structure State.SendsSet (s t : State) (c : Nat) (tag : Byte) (data : List Byte) : Prop where
  responds : t.Responds 0 tag.toNat (tget (fun _ => 0) s.dev.acc.seen c == s.dev.obj (Obj.CYCLE_TAG c) + 1)
    (decide (s.dev.obj (Obj.CYCLE_TAG c) ≠ s.dev.cyc.tag ∨ s.dev.state ∉ [stReady, stRun])) data
  only : s.Only t [Obj.LAST_HOST_STATUS, Obj.LAST_HOST_TAG]
  seen : tget (fun _ => 0) t.dev.acc.seen c = s.dev.obj (Obj.CYCLE_TAG c) + 1

theorem answers_set {i : Instr} {s : State} {tag : Byte} {phases : List Byte} {check : Check32} {f : Dev → Answer × Dev} {c : Nat}
    {data : List Byte} (hc : exec i s = s.host tag phases check f) (hlive : s.dev.hostLive = true) (hcrc : check.toNat = crc32c phases)
    (hf : f s.dev.fresh = s.dev.fresh.takeSet 0 c data) : Answers i s (fun t => s.SendsSet t c tag data) := by
  have hslot : 0 * 136 + c = c := by omega
  have hnext := host_ends s tag phases check f hlive hcrc (hf.trans (Prod.mk.eta).symm) rfl
  refine ⟨_, hc.trans hnext, ?_, ?_, ?_⟩
  · have hresponds := responds_settle s (s.dev.fresh.takeSet 0 c data).2 tag (s.dev.fresh.takeSet 0 c data).1
    simp only [Dev.takeSet, staleSet_eq, hslot] at hresponds ⊢
    exact hresponds
  · exact only_respond tag _ ⟨fun _ _ _ => rfl, rfl⟩
  · rw [(reported_settle _).seen]
    show tget _ (tput s.dev.acc.seen (0 * 136 + c) (s.dev.obj (Obj.CYCLE_TAG c) + 1)) c = _
    rw [hslot, tget_tput, if_pos rfl]

theorem answers_noSet {i : Instr} {s : State} {tag : Byte} {phases : List Byte} {check : Check32} {f : Dev → Answer × Dev} {st : Nat}
    (hc : exec i s = s.host tag phases check f) (hlive : s.dev.hostLive = true) (hcrc : check.toNat = crc32c phases)
    (hf : f s.dev.fresh = (.unflagged st [], s.dev.fresh)) : Answers i s (fun t => s.RespondsOnly t st tag.toNat []) :=
  ⟨_, hc.trans (host_next s tag phases check f _ hlive hcrc hf), respondsOnly_respond s tag st []⟩

/-- Settles O42: a read of a result and a read of a window end in the same taking of the set. -/
theorem resultsAreReadBySets : Obligations.ResultsAreReadBySets := by
  unfold Obligations.ResultsAreReadBySets
  intro flags s a check hlive hcrc
  have hflags : ∀ {t c data}, s.SendsSet t c a.tag data → flags s t c a.tag data := fun h => ⟨h.responds, h.only, h.seen⟩
  refine ⟨fun r c hr hw ht hc => ⟨fun hset => ?noSet, fun hset hdom hd => ?set⟩, fun hidx => ?noWindow, fun c hlt hidx =>
    ⟨fun hset => ?windowNoSet, fun hset => ?window⟩⟩
  case noSet => exact answers_noSet rfl hlive hcrc (read_noSet s.dev.fresh 0 hr hw ht hc hset)
  case set =>
    obtain ⟨t, ht, hsends⟩ := answers_set (i := .read a check) rfl hlive hcrc (read_set s.dev.fresh 0 hr hw ht hc hset hdom hd)
    exact ⟨t, ht, hflags hsends⟩
  case noWindow => exact answers_noSet rfl hlive hcrc (readWindow_unknown s.dev.fresh 0 _ hidx)
  case windowNoSet =>
    have hno : s.dev.fresh.hasSet c = false := hset
    have hread := readWindow_window s.dev.fresh 0 c hlt
    rw [← hidx, hno] at hread
    exact answers_noSet rfl hlive hcrc hread
  case window =>
    have hyes : s.dev.fresh.hasSet c = true := hset
    have hread := readWindow_window s.dev.fresh 0 c hlt
    rw [← hidx, hyes, if_pos rfl, windowBytes_fresh] at hread
    obtain ⟨t, ht, hsends⟩ := answers_set (i := .readWindow a check) rfl hlive hcrc hread
    exact ⟨t, ht, hflags hsends⟩

/-! ## The overflow record (R98) -/

/-- The overflow record has been placed last, and the loss is counted no more. -/
structure Dev.OverflowPlaced (d e : Dev) : Prop where
  reported : Reported d e
  drops : e.drops = d.drops
  latch : e.latched 5 = true
  episode : e.evq.episode = 0
  record : ∃ o, e.evq.queue = d.evq.queue ++ [o] ∧ o.source = 5 ∧ o.data = d.evq.episode ∧ o.time = d.time80 0

theorem placeOverflow_idle (d : Dev) (h : d.evq.episode = 0 ∨ 64 ≤ d.evq.queue.length) : d.placeOverflow = d := by
  have hidle : (d.evq.episode = 0 || 64 ≤ d.evq.queue.length) = true := by simpa using h
  exact if_pos hidle

theorem enqueueRecord_eq (d : Dev) (r : EventRecord) :
    (d.enqueueRecord r).evq = { d.evq with queue := d.evq.queue ++ [r] } ∧ (d.enqueueRecord r).drops = d.drops := by
  unfold Dev.enqueueRecord
  dsimp only
  split <;> exact ⟨rfl, rfl⟩

theorem placeOverflow_places (d : Dev) (hlost : d.evq.episode ≠ 0) (hroom : d.evq.queue.length < 64) : d.OverflowPlaced d.placeOverflow := by
  have hplaces : ¬ (d.evq.episode = 0 || 64 ≤ d.evq.queue.length) = true := by simpa using ⟨hlost, hroom⟩
  have hreport := reported_placeOverflow d
  unfold Dev.placeOverflow at hreport ⊢
  rw [if_neg hplaces] at hreport ⊢
  dsimp only at hreport ⊢
  refine ⟨hreport, (enqueueRecord_eq _ _).2, (reported_enqueue _ _).latch 5 (by decide) (latched_count d 5), ?_, ?_⟩
  · rw [(enqueueRecord_eq _ _).1]
  · rw [(enqueueRecord_eq _ _).1]
    exact ⟨_, rfl, rfl, rfl, rfl⟩

/-! ## EVENT_POP (R80, R84, R97) -/

theorem eventPop_other (d : Dev) (idx : Nat) (h : idx ≠ 0) : d.eventPop idx = (.unflagged 0x0001 [], d) := by
  simp [Dev.eventPop, h, Answer.ofStatus_eq]

theorem eventPop_empty (d : Dev) (h : d.evq.queue = []) : d.eventPop 0 = (.unflagged 0 [], d) := by
  simp [Dev.eventPop, h, Answer.ofStatus_eq]

/-- The block without its oldest record. -/
def Dev.popped (d : Dev) (rest : List EventRecord) : Dev := { d with evq := { d.evq with queue := rest } }

section
variable {d : Dev} {r : EventRecord} {rest : List EventRecord} (h : d.evq.queue = r :: rest)
include h

/-- With nothing lost, the rest stands, and EVT_N rises with the last record. -/
theorem eventPop_plain (hlost : d.evq.episode = 0) :
    d.eventPop 0 = (.unflagged 0 (recordBytes r), if rest = [] then (d.popped rest).emit (.evtN true) else d.popped rest) := by
  have hidle : (d.popped rest).placeOverflow = d.popped rest := placeOverflow_idle _ (.inl hlost)
  have hbits : (d.evq.episode == 0) = true := by simp [hlost]
  simp only [Dev.eventPop, h, ne_eq, not_true, if_false, Answer.unflagged, ← Dev.popped.eq_def, hidle, hbits, Bool.and_true,
    List.isEmpty_iff]

/-- After lost records the overflow record takes the space. -/
theorem eventPop_overflow (hlost : d.evq.episode ≠ 0) : d.eventPop 0 = (.unflagged 0 (recordBytes r), (d.popped rest).placeOverflow) := by
  have hbits : (d.evq.episode == 0) = false := by simp [hlost]
  simp only [Dev.eventPop, h, ne_eq, not_true, if_false, Answer.unflagged, ← Dev.popped.eq_def, hbits, Bool.and_false, Bool.false_eq_true]

end

/-- EVENT_POP ends with the queue, the outputs and the latches its work has left. -/
theorem answers_eventPop {s : State} {a : HostAddr} {check : Check32} {e : Dev} {data : List Byte} (hlive : s.dev.hostLive = true)
    (hcrc : check.toNat = crc32c (addrBytes a)) (hpop : s.dev.fresh.eventPop a.index.toNat = (.unflagged 0 data, e))
    (hreport : Reported s.dev.fresh e) (hdrops : e.drops = []) :
    Answers (.eventPop a check) s (fun t => s.RespondsOnly t 0 a.tag.toNat data ∧ t.dev.evq = e.evq ∧ (∀ o ∈ e.emitted, o ∈ t.dev.emitted) ∧
      (e.latched 5 = true → t.dev.latched 5 = true)) := by
  have hsettle : (e.respond a.tag (.unflagged 0 data)).settle = e.respond a.tag (.unflagged 0 data) := settle_none _ hdrops
  refine ⟨_, host_ends s a.tag _ check (fun d => d.eventPop a.index.toNat) hlive hcrc hpop (congrArg DevCtl.causeReq hreport.ctl),
    respondsOnly_settle a.tag 0 data (hreport.alters []), ?_, fun o ho => ?_, fun hlatch => ?_⟩
  · rw [hsettle]
    rfl
  · rw [hsettle]
    simp [Dev.respond, Dev.emit, Dev.setObj, ho]
  · exact settle_latched _ 5 (by decide) ((respond_latched _ _ _ 5 (by decide)).trans hlatch)

/-- Settles O43: each way through EVENT_POP is one equation, and the overflow record is placed by one operation of the queue. -/
theorem eventPopTakesTheOldestRecord : Obligations.EventPopTakesTheOldestRecord := by
  unfold Obligations.EventPopTakesTheOldestRecord
  refine ⟨fun s a check hlive hcrc => ⟨fun hidx => ?other, fun hidx hempty => ?empty, fun r rest hidx hqueue =>
      ⟨fun hlost => ?plain, fun hlost hroom => ?overflow⟩, fun op hop => ?unknown⟩,
    fun s => ⟨fun hidle => answers_onDev Dev.placeOverflow rfl ?idle, fun hlost hroom => answers_onDev Dev.placeOverflow rfl ?placed⟩⟩
  case other =>
    exact ⟨_, host_next s a.tag _ check _ _ hlive hcrc (eventPop_other _ _ hidx), respondsOnly_respond s a.tag 1 [], rfl⟩
  case empty =>
    have hpop := (congrArg s.dev.fresh.eventPop hidx).trans (eventPop_empty s.dev.fresh hempty)
    exact ⟨_, host_next s a.tag _ check _ _ hlive hcrc hpop, respondsOnly_respond s a.tag 0 [], rfl⟩
  case plain =>
    have hpop := (congrArg s.dev.fresh.eventPop hidx).trans (eventPop_plain hqueue hlost)
    have hpopped : Reported s.dev.fresh (s.dev.fresh.popped rest) := reported_evq _ _
    by_cases hlast : rest = []
    · rw [if_pos hlast] at hpop
      obtain ⟨t, ht, honly, hevq, hemits, -⟩ := answers_eventPop hlive hcrc hpop (hpopped.trans (reported_emit _ _)) rfl
      exact ⟨t, ht, honly, congrArg EventQ.queue hevq, fun _ => hemits _ (by simp [Dev.emit])⟩
    · rw [if_neg hlast] at hpop
      obtain ⟨t, ht, honly, hevq, -⟩ := answers_eventPop hlive hcrc hpop hpopped rfl
      exact ⟨t, ht, honly, congrArg EventQ.queue hevq, fun hnil => absurd hnil hlast⟩
  case overflow =>
    have hpop := (congrArg s.dev.fresh.eventPop hidx).trans (eventPop_overflow hqueue hlost)
    have hpopped : Reported s.dev.fresh (s.dev.fresh.popped rest) := reported_evq _ _
    obtain ⟨hreport, hdrops, hlatch, hepisode, o, hplaced, hrecord⟩ := placeOverflow_places (s.dev.fresh.popped rest) hlost hroom
    obtain ⟨t, ht, honly, hevq, -, hlatched⟩ := answers_eventPop hlive hcrc hpop (hpopped.trans hreport) hdrops
    exact ⟨t, ht, honly, hlatched hlatch, (congrArg EventQ.episode hevq).trans hepisode, o, (congrArg EventQ.queue hevq).trans hplaced, hrecord⟩
  case unknown =>
    have hwf : (!([0x03, 0x02, 0x12, 0x0D, 0x23, 0x22, 0x1E] : List Nat).contains op.toNat) = true := by simpa using hop
    have hexec : exec (.unknownOpcode op a check) s = s.host a.tag (addrBytes a) check (fun d => (.ofStatus 0x0001, d)) := by
      show guardForm _ _ = _
      rw [hwf]
      rfl
    exact ⟨_, hexec.trans (host_next s a.tag _ check _ _ hlive hcrc rfl), respondsOnly_respond s a.tag 1 [], rfl, rfl⟩
  case idle =>
    rw [placeOverflow_idle s.dev.fresh hidle, fresh_settle]
    exact ⟨⟨fun _ => rfl, fun _ => rfl, rfl, rfl⟩, rfl⟩
  case placed =>
    obtain ⟨hreport, hdrops, hlatch, hepisode, o, hqueue, hsource, hdata, -⟩ := placeOverflow_places s.dev.fresh hlost hroom
    rw [settle_none _ hdrops]
    exact ⟨(hreport.alters []).only, hlatch, hepisode, o, hqueue, hsource, hdata⟩

end Sys2Proof.Machine
end

section
/-! SUPPORT. Writes that may not be made, and writes that wait: at the host port, timed, in segments, to a CAN FD port (R48 to R52, R65 to R67,
R80, R94, R621). -/

set_option Elab.async false

namespace Sys2Proof.Machine

/-! ## Writes that may not be made (R48 to R52, R59) -/

/-- A write of a source whose check fails: the status, and the rejection. -/
theorem objectWrite_rejected {s : State} {src : Src} (index : BitVec 16) (sub : Byte) {data : List Byte} {st : Nat} (hreach : s.dev.reaches src = true)
    (hdom : isDomain (objKey index.toNat sub.toNat) = false) (hcheck : s.dev.checkWrite src (objKey index.toNat sub.toNat) data = (st, 0)) (hst : st ≠ 0) :
    (s.dev.checkWrite src (objKey index.toNat sub.toNat) data).1 = st ∧ Answers (.objectWrite src index sub data) s (fun t =>
      s.Only t [] ∧ t.dev.latched 0x08 = true ∧ t.dev.tally = s.dev.tally) :=
  ⟨congrArg Prod.fst hcheck, answers_rejected rfl hreach hdom (congrArg Prod.fst hcheck) hst⟩

section
variable {d : Dev} {src : Src} {k : Nat}

/-- SAFE-HOLD closes every object but two (R65). -/
theorem rightsStatus_hold (rights : Rights) (hold : d.state = stSafeHold) (hmode : k ≠ Obj.HOST_MODE) (hlatch : k / 256 ≠ 0x611) :
    d.rightsStatus src k rights = 4 := by
  have hclosed : holdOpen k = false := by simp [holdOpen, hmode, hlatch]
  simp [Dev.rightsStatus, hold, hclosed]

theorem rightsStatus_readOnly (hold : d.state ≠ stSafeHold) : d.rightsStatus src k .ro = 3 := by
  simp [Dev.rightsStatus, hold]

theorem rightsStatus_noSafety (hold : d.state ≠ stSafeHold) (hvendor : vendorDomain k = false) (hsafety : d.inSafety src = false) :
    d.rightsStatus src k .rws = 5 := by
  simp [Dev.rightsStatus, hold, hvendor, hsafety]

theorem rightsStatus_noConfig (hold : d.state ≠ stSafeHold) (hvendor : vendorDomain k = false) (hkey : k / 256 ≠ 0x821)
    (hconfig : d.state ≠ stConfig) : d.rightsStatus src k .rwc = 4 := by
  simp [Dev.rightsStatus, hold, hvendor, hkey, hconfig]

end

/-- Settles O45: each clause is one status of the check, and a failed check is one rejection. -/
theorem writesThatMayNotBeMadeAreRejected : Obligations.WritesThatMayNotBeMadeAreRejected := by
  unfold Obligations.WritesThatMayNotBeMadeAreRejected
  intro s src index sub data k rejected
  refine ⟨fun hreach => answers_unreached rfl hreach, fun hreach => ⟨fun hr => ?unknown, fun r hr ht => ⟨fun hhold hmode hlatch => ?held, fun hhold =>
    ⟨fun hro => ?readOnly, fun hrws hvendor hsafety => ?noSafety, fun hrwc hvendor hconfig hkey => ?noConfig, fun hrights hvendor hkey hhead =>
      ⟨fun hlen => ?length, fun hlen hgain hpu hrange => ?range⟩⟩⟩⟩⟩
  case unknown => exact objectWrite_rejected index sub hreach (isDomain_unknown hr) (checkWrite_unknown _ _ _ _ hr) (by decide)
  all_goals
    have hdom : isDomain k = false := (isDomain_of_row k r hr).trans ht
    refine objectWrite_rejected index sub hreach hdom ?_ (by decide)
  case held => exact checkWrite_denied _ _ _ _ hr (rightsStatus_hold _ hhold hmode hlatch) (by decide)
  case readOnly => exact checkWrite_denied _ _ _ _ hr (by rw [hro]; exact rightsStatus_readOnly hhold) (by decide)
  case noSafety => exact checkWrite_denied _ _ _ _ hr (by rw [hrws]; exact rightsStatus_noSafety hhold hvendor hsafety) (by decide)
  case noConfig => exact checkWrite_denied _ _ _ _ hr (by rw [hrwc]; exact rightsStatus_noConfig hhold hvendor hkey hconfig) (by decide)
  case length =>
    have hopen := rightsStatus_open s src k r.rights ⟨hreach, hhead, hhold⟩ hvendor hkey hrights.symm
    exact checkWrite_length _ _ _ _ hr hopen hlen
  case range =>
    have hopen := rightsStatus_open s src k r.rights ⟨hreach, hhead, hhold⟩ hvendor hkey hrights.symm
    exact checkWrite_range _ _ _ _ hr hopen hlen (ObjType.plain_of ht hgain hpu) hrange

/-! ## A transaction that lists a write -/

/-- A transaction in whose work the engine reaches its own lists alone answers status 0 and shows nothing else. -/
theorem answers_host_engine {c : Instr} {s : State} {tag : Byte} {phases : List Byte} {check : Check32} {f : Dev → Answer × Dev} {e : Dev}
    (hc : exec c s = s.host tag phases check f) (hlive : s.dev.hostLive = true) (hcrc : check.toNat = crc32c phases)
    (hf : f s.dev.fresh = (.unflagged 0 [], e)) (hengine : s.dev.fresh.EngineOnly e) :
    Answers c s (fun t => s.RespondsOnly t 0 tag.toNat [] ∧ t.dev.tally = e.tally) :=
  ⟨_, hc.trans (host_ends s tag phases check f hlive hcrc hf (congrArg DevCtl.causeReq hengine.ctl)),
    respondsOnly_settle tag 0 [] (hengine.alters []), settle_tally (e.respond tag (.unflagged 0 []))⟩

theorem guardForm_true {ok : Bool} (r : Res) (h : ok = true) : guardForm ok r = r := by
  rw [h]
  rfl

theorem size_of_plain {ty : ObjType} (v : Nat) : (beBytes ty.size v).length < 65536 := by
  rw [beBytes_length]
  cases ty <;> simp [ObjType.size]

/-! ## Timed writes (R66, R67) -/

/-- The state of the list and of the clock at which a timed write with a good check is offered. -/
structure Dev.TimedGood (d : Dev) (src : Src) (k instant : Nat) (data : List Byte) (v : Nat) : Prop where
  check : d.timedCheck src k instant data = (0, v, [])
  hold : d.state ≠ stSafeHold
  time : instant % 2 ^ 32 < 1000000000
  scalar : isDomain k = false

theorem startValue_scalar (e : Dev) {k : Nat} (whole : List Byte) (hk : isDomain k = false) : e.startValue k whole = e := by
  simp [Dev.startValue, hk]

section
variable {d : Dev} {src : Src} {k instant v : Nat} {data : List Byte} (h : d.TimedGood src k instant data v)
include h

theorem Dev.TimedGood.past (hdue : d.isDue (nsOfTime80 instant) = true) : d.offerTimed src k instant data = (0x000B, d.rejectWrite k 0x000B) := by
  simp only [Dev.offerTimed, h.check, ne_eq, not_true, if_false, if_neg h.hold, if_neg (Nat.not_le.mpr h.time), hdue, if_true]
  rfl

theorem Dev.TimedGood.full (hdue : d.isDue (nsOfTime80 instant) = false) (hfull : 64 ≤ d.tally.timed.length) :
    d.offerTimed src k instant data = (0x0008, d.rejectWrite k 0x0008) := by
  simp only [Dev.offerTimed, h.check, ne_eq, not_true, if_false, if_neg h.hold, if_neg (Nat.not_le.mpr h.time), hdue, Bool.false_eq_true, if_pos hfull]
  rfl

/-- The block with one timed write more. -/
def Dev.listTimed (d : Dev) (t : TimedWrite) : Dev := { d with tally := { d.tally with timed := d.tally.timed ++ [t], accSeq := d.tally.accSeq + 1 } }

theorem Dev.TimedGood.waits (hdue : d.isDue (nsOfTime80 instant) = false) (hroom : d.tally.timed.length < 64) :
    d.offerTimed src k instant data
      = (0, (d.prepared src k v).listTimed { w := (d.prepared src k v).newWrite src k v [], sec := instant / 2 ^ 32, ns := instant % 2 ^ 32 }) := by
  simp only [Dev.offerTimed, h.check, ne_eq, not_true, if_false, if_neg h.hold, if_neg (Nat.not_le.mpr h.time), hdue, Bool.false_eq_true,
    if_neg (Nat.not_le.mpr hroom), startValue_scalar _ [] h.scalar]
  rfl

end

theorem lists_timed (d : Dev) (src : Src) (k v sec ns : Nat) :
    let e := (d.prepared src k v).listTimed { w := (d.prepared src k v).newWrite src k v [], sec := sec, ns := ns }
    d.EngineOnly e ∧ e.tally.queue = d.tally.queue ∧ e.tally.timed = d.tally.timed ++ [{ w := d.newWrite src k v [], sec := sec, ns := ns }] := by
  obtain ⟨fl, gens, save, restoring, hshape⟩ := prepared_shape d src k v
  rw [hshape]
  exact ⟨⟨rfl, rfl, rfl, rfl, rfl⟩, rfl, rfl⟩

/-- An acceptable write at its instant, as the engine meets it. -/
theorem Dev.Admits.timedGood {s : State} {src : Src} {k v instant : Nat} {r : ObjRow} (h : s.dev.Admits src k v r) (hhold : s.dev.state ≠ stSafeHold)
    (htime : instant % 2 ^ 32 < 1000000000) (ho : s.dev.ownerStatusAt (s.dev.timedAt (nsOfTime80 instant)) k v = 0) :
    s.dev.fresh.TimedGood src k instant (beBytes r.ty.size v) v where
  check := by
    have howner : s.dev.fresh.ownerStatusAt (s.dev.fresh.timedAt (nsOfTime80 instant)) k v = 0 := (ownerAt_fresh _ _ _ _).trans ho
    simp [Dev.timedCheck, isDomain_plain h.row h.plain, h.fresh.checkWriteAt howner]
  hold := hhold
  time := htime
  scalar := isDomain_plain h.row h.plain

/-- Whole instants are compared with the time of the block (R133). -/
theorem isDue_whole (d : Dev) (instant : Nat) (hmode : d.obj Obj.COMPARE_MODE = 0) : d.isDue instant = decide (instant ≤ d.timeNs 0) := by
  simp [Dev.isDue, hmode]

/-! ## Segments of a DOMAIN value (R621) -/

/-- What a segment at an offset extends. -/
def Dev.heldSegments (d : Dev) (k off : Nat) : List Byte := if off = 0 then [] else tget (fun _ => []) d.tally.staging k

/-- The object takes segments of a value without one fixed length, and a segment of these bytes. -/
structure Dev.TakesSegment (d : Dev) (src : Src) (k n : Nat) (data : List Byte) : Prop where
  type : ∃ r, rowOf k = some r ∧ r.ty = .domain n false ∧ d.rightsStatus src k r.rights = 0
  some : 0 < data.length
  most : data.length ≤ 4096

section
variable {d : Dev} {src : Src} {k n off : Nat} {data : List Byte} (h : d.TakesSegment src k n data)
include h

theorem Dev.TakesSegment.isDomain : isDomain k = true := by
  obtain ⟨r, hr, ht, -⟩ := h.type
  rw [isDomain_of_row k r hr, ht]
  rfl

theorem Dev.TakesSegment.fixedDomain : fixedDomain k = false := by
  obtain ⟨r, hr, ht, -⟩ := h.type
  simp [Machine.fixedDomain, hr, ht]

theorem Dev.TakesSegment.lengthOk : (data.isEmpty || decide (4096 < data.length)) = false := by
  have hsome := h.some
  have hmost := h.most
  simp only [Bool.or_eq_false_iff, List.isEmpty_eq_false_iff, ne_eq, decide_eq_false_iff_not, ← List.length_pos_iff]
  omega

theorem Dev.TakesSegment.misplaced (hheld : (d.heldSegments k off).length ≠ off) :
    d.segment src k off data = (0x0007, d.rejectWrite k 0x0007) := by
  obtain ⟨r, hr, ht, ha⟩ := h.type
  have hcheck : d.checkDomain src k off data = (0x0007, [], false) := by
    simp only [Dev.checkDomain, hr, ha, ne_eq, not_true, if_false, ht, h.lengthOk, Bool.false_eq_true, ← Dev.heldSegments.eq_def]
    exact if_pos hheld
  simp [Dev.segment, hcheck]

theorem Dev.TakesSegment.waits (hheld : (d.heldSegments k off).length = off) (hfits : (d.heldSegments k off ++ data).length ≤ n)
    (ho : d.domainStatus k off (d.heldSegments k off ++ data) = 0) :
    d.segment src k off data = (0, d.acceptSegment src k (d.heldSegments k off ++ data) true false) := by
  obtain ⟨r, hr, ht, ha⟩ := h.type
  have hcheck : d.checkDomain src k off data = (0, d.heldSegments k off ++ data, true) := by
    simp only [Dev.checkDomain, hr, ha, ne_eq, not_true, if_false, ht, h.lengthOk, Bool.false_eq_true, ← Dev.heldSegments.eq_def]
    rw [if_neg (not_not.mpr hheld), if_neg (Nat.not_lt.mpr hfits), ho]
    rfl
  simp [Dev.segment, hcheck, h.fixedDomain]

/-- The transaction has a form: its length stands in 16 bits. -/
theorem Dev.TakesSegment.form : decide (data.length < 65536) = true := decide_eq_true (Nat.lt_of_le_of_lt h.most (by decide))

/-- DOMAIN_WRITE offers such a segment to the engine. -/
theorem Dev.TakesSegment.offered : (if (Machine.isDomain k || readStatus k == 1) = true then written (d.segment src k off data)
    else (.ofStatus 0x0006, d.rejectWrite k 0x0006)) = written (d.segment src k off data) := by
  rw [h.isDomain]
  rfl

end

theorem lists_segment (d : Dev) (src : Src) (k : Nat) (whole : List Byte) :
    d.Lists (d.acceptSegment src k whole true false) (d.newWrite src k 0 whole) :=
  ⟨⟨rfl, rfl, rfl, rfl, rfl⟩, rfl, rfl⟩

theorem takesSegment_open {s : State} {src : Src} {k n : Nat} {r : ObjRow} {data : List Byte} (hopen : Open s src) (hr : rowOf k = some r)
    (hrights : r.rights = .rw ∨ r.rights = .wo) (ht : r.ty = .domain n false) (hvendor : vendorDomain k = false) (hkey : k / 256 ≠ 0x821)
    (hsome : 0 < data.length) (hmost : data.length ≤ 4096) : s.dev.fresh.TakesSegment src k n data :=
  ⟨⟨r, hr, ht, rightsStatus_open s src k r.rights hopen hvendor hkey hrights.symm⟩, hsome, hmost⟩

/-! ## CAN_TX (R94) -/

theorem row_CAN_TX : ∀ p : Fin 2, rowOf (Obj.CAN_TX p) = some ⟨0x841, 2, 8, 0, 1, .domain 69 false, .wo, 0, .any⟩ := by decide +kernel

theorem CAN_TX_index (p : Fin 2) : (Obj.CAN_TX p / 256 = 0x841 ∨ Obj.CAN_TX p / 256 = 0x849) ∧ (Obj.CAN_TX p / 256 - 0x841) / 8 = p := by
  simp only [Obj.CAN_TX]
  omega

/-- A frame record has its header and at most 64 bytes of data (R94). -/
theorem canFrameOf_length {data : List Byte} {f : CanFrame} (h : canFrameOf data = some f) : 5 ≤ data.length ∧ data.length ≤ 69 := by
  unfold canFrameOf at h
  dsimp only at h
  split at h
  · rename_i hgood
    simp only [Bool.and_eq_true, Bool.or_eq_true, decide_eq_true_eq, beq_iff_eq, List.contains_cons, List.contains_nil, Bool.or_false] at hgood
    omega
  · cases h

theorem takesSegment_CAN_TX {s : State} {src : Src} (hopen : Open s src) (p : Fin 2) {record : List Byte} {f : CanFrame}
    (hf : canFrameOf record = some f) : s.dev.fresh.TakesSegment src (Obj.CAN_TX p) 69 record := by
  obtain ⟨hidx, -⟩ := CAN_TX_index p
  obtain ⟨hsome, hmost⟩ := canFrameOf_length hf
  have hvendor : vendorDomain (Obj.CAN_TX p) = false := by
    revert p
    decide
  exact takesSegment_open hopen (row_CAN_TX p) (.inr rfl) rfl hvendor (by omega) (by omega) (by omega)

/-- The port has a place for the frame, and can send its format. -/
structure Dev.CanTakes (d : Dev) (p : Fin 2) (f : CanFrame) : Prop where
  format : f.fd = false ∨ d.obj (Obj.DATA_RATE p) ≠ 0
  bus : (d.canPort p).busOff = false
  room : (d.canPort p).txq.length + (d.coming.filter (fun e => e.2.key == Obj.CAN_TX p)).length < 16

theorem Dev.CanTakes.domainStatus {d : Dev} {p : Fin 2} {f : CanFrame} (h : d.CanTakes p f) {record : List Byte} (hf : canFrameOf record = some f) :
    d.domainStatus (Obj.CAN_TX p) 0 record = 0 := by
  obtain ⟨hidx, hport⟩ := CAN_TX_index p
  have hrate : (f.fd && d.obj (Obj.DATA_RATE p) == 0) = false := by
    rcases h.format with hfd | hrate <;> simp [*]
  have hroom := Nat.not_le.mpr h.room
  unfold Dev.domainStatus
  simp only [if_pos hidx, hport, hf, hrate, h.bus, hroom]
  rfl

/-! ## The obligation -/

theorem objSize_of_row {k : Nat} {r : ObjRow} (hr : rowOf k = some r) : objSize k = r.ty.size := by
  simp [objSize, hr]

/-- Settles O44: each clause is one equation of the engine's own work, and what lists a write shows nothing else. -/
theorem acceptableWritesWaitForTheirBoundary : Obligations.AcceptableWritesWaitForTheirBoundary := by
  unfold Obligations.AcceptableWritesWaitForTheirBoundary
  refine ⟨fun s a v r hopen haccept => ⟨fun check hcrc => ?write, fun instant check hcrc hmode htime howner =>
      ⟨fun hpast => ?past, fun hahead hfull => ?full, fun hahead hroom => ?timed⟩⟩,
    fun s src index sub v r hopen haccept => ?object, fun s a off data check r n hopen hcrc hr hrights ht hvendor hkey hsome hmost =>
      ⟨fun hheld => ?misplaced, fun hheld hfits howner => ?segment⟩, fun s src port record f hopen hf hformat hbus hroom => ?frame⟩
  case write =>
    have hadmits := (haccept.admits hopen).fresh
    have hoffer : written (s.dev.fresh.offer .host (addrKey a) (beBytes r.ty.size v)) = (.unflagged 0 [], _) :=
      congrArg written (hadmits.offer ((owner_fresh _ _ _).trans haccept.owner))
    obtain ⟨hengine, hqueue, htimed⟩ := lists_prepared s.dev.fresh .host (addrKey a) v
    obtain ⟨t, ht, hshown, htally⟩ :=
      answers_host_engine (c := .write a _ check) (guardForm_true _ (decide_eq_true (size_of_plain v))) hopen.reach hcrc hoffer hengine
    exact ⟨t, ht, hshown, (congrArg Tally.queue htally).trans hqueue, (congrArg Tally.timed htally).trans htimed⟩
  case object =>
    have hadmits := haccept.admits hopen
    obtain ⟨t, ht, hqueued, -⟩ := hadmits.command hopen.reach haccept.owner
    rw [State.command, objSize_of_row haccept.row] at ht
    exact ⟨t, ht, hqueued⟩
  case past =>
    have hgood := (haccept.admits hopen).timedGood hopen.hold htime howner
    have hdue : s.dev.fresh.isDue (nsOfTime80 instant.toNat) = true := (isDue_whole s.dev.fresh _ hmode).trans (decide_eq_true hpast)
    exact answers_host_rejected (guardForm_true _ (decide_eq_true (size_of_plain v))) hopen.reach hcrc (congrArg written (hgood.past hdue))
  case full =>
    have hgood := (haccept.admits hopen).timedGood hopen.hold htime howner
    have hdue : s.dev.fresh.isDue (nsOfTime80 instant.toNat) = false := (isDue_whole s.dev.fresh _ hmode).trans (decide_eq_false (Nat.not_le.mpr hahead))
    exact answers_host_rejected (guardForm_true _ (decide_eq_true (size_of_plain v))) hopen.reach hcrc (congrArg written (hgood.full hdue hfull))
  case timed =>
    have hgood := (haccept.admits hopen).timedGood hopen.hold htime howner
    have hdue : s.dev.fresh.isDue (nsOfTime80 instant.toNat) = false := (isDue_whole s.dev.fresh _ hmode).trans (decide_eq_false (Nat.not_le.mpr hahead))
    obtain ⟨hengine, hqueue, htimed⟩ :=
      lists_timed s.dev.fresh .host (addrKey a) v (instant.toNat / 2 ^ 32) (instant.toNat % 2 ^ 32)
    obtain ⟨t, ht, hshown, htally⟩ :=
      answers_host_engine (c := .writeTimed a instant _ check) (guardForm_true _ (decide_eq_true (size_of_plain v))) hopen.reach hcrc
        (congrArg written (hgood.waits hdue hroom)) hengine
    exact ⟨t, ht, hshown, (congrArg Tally.queue htally).trans hqueue, (congrArg Tally.timed htally).trans htimed⟩
  case misplaced =>
    have htakes := takesSegment_open hopen hr hrights ht hvendor hkey hsome hmost
    exact answers_host_rejected (guardForm_true _ htakes.form) hopen.reach hcrc (htakes.offered.trans (congrArg written (htakes.misplaced hheld)))
  case segment =>
    have htakes := takesSegment_open hopen hr hrights ht hvendor hkey hsome hmost
    obtain ⟨hengine, hqueue, -⟩ := lists_segment s.dev.fresh .host (addrKey a) (s.dev.fresh.heldSegments (addrKey a) off.toNat ++ data)
    obtain ⟨t, hnext, hshown, htally⟩ :=
      answers_host_engine (c := .domainWrite a off data check) (guardForm_true _ htakes.form) hopen.reach hcrc
        (htakes.offered.trans (congrArg written (htakes.waits hheld hfits howner))) hengine
    exact ⟨t, hnext, hshown, (congrArg Tally.queue htally).trans hqueue⟩
  case frame =>
    have htakes := takesSegment_CAN_TX hopen port hf
    have hstatus : s.dev.fresh.domainStatus (Obj.CAN_TX port) 0 record = 0 := Dev.CanTakes.domainStatus ⟨hformat, hbus, hroom⟩ hf
    have hsegment : s.dev.fresh.segment src (Obj.CAN_TX port) 0 record = (0, s.dev.fresh.acceptSegment src (Obj.CAN_TX port) record true false) :=
      htakes.waits (off := 0) rfl (canFrameOf_length hf).2 hstatus
    obtain ⟨hengine, hqueue, -⟩ := lists_segment s.dev.fresh src (Obj.CAN_TX port) record
    refine answers_onDevH _ rfl ?_
    have hreach : s.dev.fresh.reaches src = true := hopen.reach
    rw [if_pos hreach, hsegment, holdDecide_none _ (congrArg DevCtl.causeReq hengine.ctl)]
    exact ⟨hengine.same, (congrArg Tally.queue (settle_tally _)).trans hqueue⟩

end Sys2Proof.Machine
end

section
/-! SUPPORT. The CAN FD ports: what a received frame, a read, a write that takes effect, a transmission and a recovery do (R92, R94, R219). -/

set_option Elab.async false

namespace Sys2Proof.Machine

/-! ## Lists and tables -/

/-- A place that does not hold the default is a place of the list. -/
theorem lt_of_getAt_ne {α : Type} {dflt : α} {l : List α} {i : Nat} (h : getAt dflt l i ≠ dflt) : i < l.length := by
  induction l generalizing i with
  | nil => exact absurd rfl h
  | cons a t ih =>
    cases i with
    | zero => exact Nat.zero_lt_succ _
    | succ i => exact Nat.succ_lt_succ (ih h)

/-- A selection that leaves out an entry's key is the same before and after the entry is set. -/
theorem filterMap_tset {α β : Type} [DecidableEq α] (dflt : Nat → α) (g : Nat × α → Option β) {k : Nat} (hk : ∀ w, g (k, w) = none)
    (v : α) (m : List (Nat × α)) : (tset dflt m k v).filterMap g = m.filterMap g := by
  unfold tset
  split
  · induction m with
    | nil => rfl
    | cons e t ih =>
      obtain ⟨j, w⟩ := e
      simp only [tdel]
      split_ifs with heq
      · subst heq
        simp [hk, ih]
      · simp [List.filterMap_cons, ih]
  · induction m with
    | nil => simp [tput, hk]
    | cons e t ih =>
      obtain ⟨j, w⟩ := e
      simp only [tput]
      split_ifs with hlt heq
      · simp [hk]
      · subst heq
        simp [hk]
      · simp [List.filterMap_cons, ih]

/-! ## A port -/

/-- What a port holds that it does not hold by default shows that there is such a port. -/
theorem port_exists {d : Dev} {p : Nat} {α : Type} (field : CanPort → α) (h : field (d.canPort p) ≠ field ⟨[], [], 0, 0, false⟩) :
    p < d.can.length :=
  lt_of_getAt_ne fun heq => h (congrArg field heq)

theorem canPort_congr {d e : Dev} (h : e.can = d.can) (p : Nat) : e.canPort p = d.canPort p := congrArg (fun l => getAt _ l p) h

theorem showCan_busOff (d : Dev) (p : Nat) (h : (d.canPort p).busOff = true) : (d.showCan p).obj (Obj.CAN_STATUS p) / 2 ^ 24 = 2 := by
  unfold Dev.showCan
  extract_lets q st
  have hst : st = 2 := if_pos h
  rw [Dev.obj_setObj_same, hst]
  omega

theorem showCan_clear (d : Dev) (p : Nat) (hon : (d.canPort p).busOff = false) (htx : (d.canPort p).txErr = 0) (hrx : (d.canPort p).rxErr = 0) :
    (d.showCan p).obj (Obj.CAN_STATUS p) = 0 := by
  unfold Dev.showCan
  simp [hon, htx, hrx]

@[simp] theorem canPort_fresh (d : Dev) (p : Nat) : d.fresh.canPort p = d.canPort p := rfl

/-- A block in whose ports one was changed. -/
theorem canPort_upd {d e : Dev} {p : Nat} {f : CanPort → CanPort} (h : e.can = upd f d.can p) (hp : p < d.can.length) :
    e.canPort p = f (d.canPort p) :=
  (congrArg (fun l => getAt _ l p) h).trans (getAt_upd_same _ f d.can p hp)

section
variable (d : Dev) (p : Nat) (f : CanPort → CanPort)

theorem updCan_canPort (h : p < d.can.length) : (d.updCan p f).canPort p = f (d.canPort p) := canPort_upd rfl h

theorem updCan_can : (d.updCan p f).can = upd f d.can p := rfl

theorem updCan_tb : (d.updCan p f).tb = d.tb := Dev.setObj_tb { d with can := upd f d.can p } _ _

theorem updCan_blobs : (d.updCan p f).blobs = d.blobs := Dev.setObj_blobs { d with can := upd f d.can p } _ _

theorem updCan_drops : (d.updCan p f).drops = d.drops := Dev.setObj_drops { d with can := upd f d.can p } _ _

theorem updCan_eq : d.updCan p f = ({ d with can := upd f d.can p } : Dev).showCan p := rfl

/-- CAN_STATUS of a bus-off port shows the state 2 (R94). -/
theorem updCan_status_busOff (h : p < d.can.length) (hoff : (f (d.canPort p)).busOff = true) :
    (d.updCan p f).obj (Obj.CAN_STATUS p) / 2 ^ 24 = 2 := by
  have hport : ({ d with can := upd f d.can p } : Dev).canPort p = f (d.canPort p) := canPort_upd rfl h
  rw [updCan_eq]
  exact showCan_busOff _ p (by rw [hport, hoff])

/-- CAN_STATUS of a port without errors is 0 (R94). -/
theorem updCan_status_clear (h : p < d.can.length) (hon : (f (d.canPort p)).busOff = false) (htx : (f (d.canPort p)).txErr = 0)
    (hrx : (f (d.canPort p)).rxErr = 0) : (d.updCan p f).obj (Obj.CAN_STATUS p) = 0 := by
  have hport : ({ d with can := upd f d.can p } : Dev).canPort p = f (d.canPort p) := canPort_upd rfl h
  rw [updCan_eq]
  exact showCan_clear _ p (by rw [hport, hon]) (by rw [hport, htx]) (by rw [hport, hrx])

theorem updCan_alters : d.Alters [Obj.CAN_STATUS p] (d.updCan p f) := by
  have hcan : d.Alters [Obj.CAN_STATUS p] { d with can := upd f d.can p } := ⟨fun _ _ _ => rfl, rfl⟩
  exact hcan.trans (alters_setObj _ _ (List.mem_singleton_self _))

theorem updCan_obj {k : Nat} (h : Obj.CAN_STATUS p ≠ k) : (d.updCan p f).obj k = d.obj k := Dev.obj_setObj_ne _ _ _ _ h

end

theorem eventKey_CAN_STATUS (p : Fin 2) : eventKey (Obj.CAN_STATUS p) = false := by
  revert p
  decide

/-! ## The head of the queue starts (R94) -/

theorem reported_canStart (d : Dev) (p : Nat) : Reported d (d.canStart p) := by
  unfold Dev.canStart
  split
  · exact Reported.refl d
  · exact reported_emit d _

theorem canStart_emits {d : Dev} {p : Nat} {f : CanFrame} {rest : List CanFrame} (h : (d.canPort p).txq = f :: rest) :
    Emit.can p f ∈ (d.canStart p).emitted := by
  simp [Dev.canStart, h]

/-! ## Transmission and recovery -/

section
variable {s : State} {p : Fin 2} {f : CanPort → CanPort}

/-- A command that changes a port and then reports: what it shows. -/
theorem updCan_only {e : Dev} (h : Reported (s.dev.fresh.updCan p f) e) : s.Only { s with dev := e.settle } [Obj.CAN_STATUS p] :=
  ((updCan_alters s.dev.fresh p f).report (h.trans (reported_settle e))).only

/-- The port as it stands then. -/
theorem updCan_port {e : Dev} (h : Reported (s.dev.fresh.updCan p f) e) (hp : (p : Nat) < s.dev.can.length) :
    e.settle.canPort p = f (s.dev.canPort p) :=
  (canPort_congr (h.trans (reported_settle e)).can p).trans (updCan_canPort s.dev.fresh p f hp)

/-- Its status as it stands then. -/
theorem updCan_shown {e : Dev} (h : Reported (s.dev.fresh.updCan p f) e) :
    e.settle.obj (Obj.CAN_STATUS p) = (s.dev.fresh.updCan p f).obj (Obj.CAN_STATUS p) :=
  (h.trans (reported_settle e)).obj _ (eventKey_CAN_STATUS p)

end

/-- A frame that starts is on the pins when the command has ended. -/
theorem canStart_settle_emits {d : Dev} {p : Nat} {f : CanFrame} {rest : List CanFrame} (h : (d.canPort p).txq = f :: rest) :
    Emit.can p f ∈ (d.canStart p).settle.emitted :=
  (reported_settle _).emitted.subset (canStart_emits h)

section
variable {d : Dev} {p : Nat}

theorem canSent_idle (ok : Bool) (h : d.canLive p = false ∨ (d.canPort p).txq = []) : d.canSent p ok = d := by
  rcases h with h | h <;> simp [Dev.canSent, h]

/-- A port after a transmission (ISO 11898-1). -/
def CanPort.sent (q : CanPort) : CanPort := { q with txq := q.txq.drop 1, txErr := q.txErr - 1 }

theorem canSent_ok (hlive : d.canLive p = true) (hq : (d.canPort p).txq ≠ []) :
    d.canSent p true = (d.updCan p CanPort.sent).canStart p := by
  have hempty : (d.canPort p).txq.isEmpty = false := by simpa using hq
  simp only [Dev.canSent, hlive, hempty, Bool.not_true, Bool.or_false, Bool.false_eq_true, if_false, if_true, ← CanPort.sent.eq_def]

/-- A port after a failed transmission (ISO 11898-1). -/
def CanPort.failed (q : CanPort) : CanPort := { q with txErr := q.txErr + 8, busOff := decide (255 < q.txErr + 8) }

theorem canSent_fail (hlive : d.canLive p = true) (hq : (d.canPort p).txq ≠ []) (hp : p < d.can.length) :
    d.canSent p false
      = if 255 < (d.canPort p).txErr + 8 then d.updCan p CanPort.failed else (d.updCan p CanPort.failed).canStart p := by
  have hoff : ((d.updCan p CanPort.failed).canPort p).busOff = decide (255 < (d.canPort p).txErr + 8) :=
    congrArg CanPort.busOff (updCan_canPort d p CanPort.failed hp)
  have hempty : (d.canPort p).txq.isEmpty = false := by simpa using hq
  simp only [Dev.canSent, hlive, hempty, Bool.not_true, Bool.or_false, Bool.false_eq_true, if_false, ← CanPort.failed.eq_def, hoff,
    decide_eq_true_eq]

theorem canRecover_idle (h : (d.canPort p).busOff = false) : d.canRecover p = d := by simp [Dev.canRecover, h]

/-- A port that resumes from bus-off (ISO 11898-1). -/
def CanPort.resumed (q : CanPort) : CanPort := { q with busOff := false, txErr := 0, rxErr := 0 }

theorem canRecover_off (h : (d.canPort p).busOff = true) : d.canRecover p = (d.updCan p CanPort.resumed).canStart p := by
  simp only [Dev.canRecover, h, Bool.not_true, Bool.false_eq_true, if_false, ← CanPort.resumed.eq_def]

end

/-! ## CAN_TX in effect (R94) -/

theorem canQueue_txq {d : Dev} {p : Nat} (f : CanFrame) (hp : p < d.can.length) (hhead : d.isHead = true) (hroom : (d.canPort p).txq.length < 16) :
    ((d.canQueue p f).canPort p).txq = (d.canPort p).txq ++ [f] ∧
      ((d.canPort p).txq = [] → (d.canPort p).busOff = false → Emit.can p f ∈ (d.canQueue p f).emitted) := by
  have hupd := getAt_upd_same ⟨[], [], 0, 0, false⟩ (fun q : CanPort => { q with txq := q.txq ++ [f] }) d.can p hp
  have hgo : ¬ ((!d.isHead || decide (16 ≤ (d.canPort p).txq.length)) = true) := by simp [hhead, hroom]
  unfold Dev.canQueue
  simp only [← Dev.canPort.eq_def, if_neg hgo]
  refine ⟨?_, fun hempty hon => by simp [hempty, hon]⟩
  split
  all_goals exact congrArg CanPort.txq hupd

theorem all_CAN_TX : ∀ p : Fin 2, isRws (Obj.CAN_TX p) = false ∧ isCopied (Obj.CAN_TX p) = false ∧ leavesValue (Obj.CAN_TX p) = false ∧
    isBound (Obj.CAN_TX p) = false := by decide +kernel

/-- A write of CAN_TX in effect is the port's own act. -/
theorem takeWrite_CAN_TX (d : Dev) (m : Mem) (w : QueuedWrite) (p : Fin 2) (h : w.key = Obj.CAN_TX p) :
    takeWrite (d, m) w = (d.canTx p w.data, m) := by
  obtain ⟨hrws, hcopied, hleaves, hbound⟩ := all_CAN_TX p
  obtain ⟨hidx, hport⟩ := CAN_TX_index p
  rw [← h] at hrws hcopied hleaves hbound hidx hport
  have hne : ∀ j : Nat, j / 256 ≠ 0x841 ∧ j / 256 ≠ 0x849 → w.key ≠ j := by
    rintro j ⟨h1, h2⟩ rfl
    omega
  have hmisc : miscEffect (d, m) w.key w.val w.data = (d.canTx p w.data, m) := by
    unfold miscEffect
    dsimp only
    rw [if_neg (hne _ (by decide)), if_neg (hne _ (by decide)), if_neg (by omega), if_neg (hne _ (by decide)), if_pos hidx, hport]
  simp only [takeWrite, hrws, stillBound_free d w hbound, applyObject, Dev.copyWrite, hcopied, Dev.leaveValue, hleaves, Bool.and_false,
    Bool.not_true, Bool.not_false, Bool.false_eq_true, if_false, if_true]
  exact (ownerEffect_misc _ _ _ _ _ (by omega)).trans hmisc

/-! ## A read of CAN_RX (R92, R94) -/

theorem CAN_RX_index (p : Fin 2) : (Obj.CAN_RX p / 256 = 0x843 ∨ Obj.CAN_RX p / 256 = 0x84B) ∧ (Obj.CAN_RX p / 256 - 0x843) / 8 = p := by
  simp only [Obj.CAN_RX]
  omega

/-- The record a read returns. -/
def CanPort.oldest (q : CanPort) : List Byte := match q.rxq with
  | (f, t) :: _ => canRecord f t
  | [] => []

theorem canRecord_length (f : CanFrame) (t : Nat) : (canRecord f t).length = 15 + f.data.length := by
  simp only [canRecord, List.length_append, beBytes_length]
  omega

/-- An undamaged mailbox is read whole, and the record it returns is removed. -/
theorem readDomain_CAN_RX {d : Dev} (p : Fin 2) (hd : ∀ e ∈ d.fl.damaged, e.1 ≠ Obj.CAN_RX p) (hlen : (d.canPort p).oldest.length ≤ 4096) :
    d.readDomain (Obj.CAN_RX p) 0 4096 = (.unflagged 0 (d.canPort p).oldest, d.canPop p) := by
  obtain ⟨hidx, hport⟩ := CAN_RX_index p
  have hbusy : d.recordBusy (Obj.CAN_RX p) = false := by
    have hlow : Obj.CAN_RX p / 256 < 0x4090 := by omega
    simp [Dev.recordBusy, Nat.not_le.mpr hlow]
  have hne : Obj.CAN_RX p ≠ Obj.ORDER_NUMBER := by
    simp only [Obj.CAN_RX, Obj.ORDER_NUMBER]
    omega
  have hvalue : d.domainValue (Obj.CAN_RX p) = (d.canPort p).oldest := by
    simp only [Dev.domainValue, if_neg hne, if_pos hidx, hport, CanPort.oldest]
    cases (d.canPort p).rxq <;> rfl
  simp only [Dev.readDomain, hbusy, damagedBytes_undamaged d _ _ hd, hvalue, Bool.false_eq_true, if_false, Nat.not_lt_zero, List.drop_zero,
    List.take_of_length_le hlen, if_pos hidx, hport]
  rfl

/-- CAN_RX as a command: the source gets what the read returns. -/
def Dev.readCan (d : Dev) (src : Src) (p : Fin 2) : Dev :=
  if d.reaches src then (let r := d.readDomain (Obj.CAN_RX p) 0 4096; r.2.emit (.canRecord src r.1.data)) else d

theorem readCan_reaching {d e : Dev} {src : Src} {p : Fin 2} {l : List Byte} (hreach : d.reaches src = true)
    (hread : d.readDomain (Obj.CAN_RX p) 0 4096 = (.unflagged 0 l, e)) : d.readCan src p = e.emit (.canRecord src l) := by
  rw [Dev.readCan, if_pos hreach, hread]
  rfl

/-! ## The frame buffer pool (R219) -/

/-- Whether buffers are left rests on the channel's objects and the shared buffers alone. -/
theorem poolFits_setObj (d : Dev) {c n k : Nat} (v : Nat) (hpool : k / 256 ≠ 0x480 + c) (hshared : k ≠ Obj.SHARED_FREE) :
    (d.setObj k v).poolFits c n = d.poolFits c n := by
  have hne : ∀ j : Nat, j / 256 = 0x480 + c → k ≠ j := by
    rintro j hj rfl
    exact hpool hj
  simp only [Dev.poolFits]
  rw [d.obj_setObj_ne k v (Obj.POOL_IN_USE c) (hne _ (by simp only [Obj.POOL_IN_USE]; omega)),
    d.obj_setObj_ne k v (Obj.POOL_RESERVE c) (hne _ (by simp only [Obj.POOL_RESERVE]; omega)),
    d.obj_setObj_ne k v (Obj.POOL_CAP c) (hne _ (by simp only [Obj.POOL_CAP]; omega)), d.obj_setObj_ne k v Obj.SHARED_FREE hshared]

/-- A total set writes objects alone. -/
theorem poolSet_shape (d : Dev) (c n : Nat) : ∃ m, d.poolSet c n = { d with dict := m } := ⟨_, rfl⟩

theorem poolTake_some {d : Dev} {c len : Nat} (h : d.poolFits c (buffersOf len) = true) :
    d.poolTake c len = some (d.poolSet c (d.obj (Obj.POOL_IN_USE c) + buffersOf len)) := if_pos h

theorem poolTake_none {d : Dev} {c len : Nat} (h : d.poolFits c (buffersOf len) = false) : d.poolTake c len = none := by
  simp [Dev.poolTake, h]

/-- A command in which a frame was dropped raises POOL_DROP as it ends. -/
theorem settle_latches_drop {d : Dev} (h : d.drops ≠ []) : d.settle.latched 0x3D = true := by
  obtain ⟨c, l, hl⟩ := List.exists_cons_of_ne_nil h
  have hraised : Reported (({ d with drops := [] } : Dev).raise 0x3D c) d.settle := by
    simp only [Dev.settle, hl, List.foldl_cons]
    refine Reported.trans ?_ (reported_drops _ [])
    refine Reported.trans ?_ (foldl_induct (fun e => Reported _ e) _ _ _ (fun a _ h => h.trans (reported_occur a 0x3D (by omega))) (Reported.refl _))
    exact foldl_induct (fun e => Reported _ e) _ _ _ (fun a c h => h.trans (reported_raise a 0x3D c (by omega))) (Reported.refl _)
  exact hraised.latch _ (by decide) (latched_raise _ _ _ (by decide))

/-! ## A frame received (R94) -/

/-- Whether an identifier is a safe one rests on objects of the connections alone (R473). -/
theorem canIsSafe_setObj (d : Dev) {k : Nat} (v p : Nat) (x : Bool) (id : Nat) (hk : k < 0x340000) :
    (d.setObj k v).canIsSafe p x id = d.canIsSafe p x id := by
  have hlisted : (d.setObj k v).listed 0x3400 256 0 = d.listed 0x3400 256 0 := by
    refine filterMap_tset _ _ (fun w => if_neg ?_) v d.dict
    simp only
    omega
  have hobj : ∀ j : Nat, 0x340000 ≤ j → (d.setObj k v).obj j = d.obj j := fun j hj => Dev.obj_setObj_ne _ _ _ _ (by omega)
  have henable : ∀ n, (d.setObj k v).obj (Obj.CONN_ENABLE n) = d.obj (Obj.CONN_ENABLE n) := fun n => hobj _ (Nat.le_add_right _ _)
  have hdirection : ∀ n, (d.setObj k v).obj (Obj.CN_DIRECTION n) = d.obj (Obj.CN_DIRECTION n) := fun n => hobj _ (by simp only [Obj.CN_DIRECTION]; omega)
  have hcarrier : ∀ n, (d.setObj k v).obj (Obj.CN_CARRIER n) = d.obj (Obj.CN_CARRIER n) := fun n => hobj _ (by simp only [Obj.CN_CARRIER]; omega)
  have hroute : ∀ n, (d.setObj k v).obj (Obj.CN_ROUTE n) = d.obj (Obj.CN_ROUTE n) := fun n => hobj _ (by simp only [Obj.CN_ROUTE]; omega)
  simp only [Dev.canIsSafe, Dev.connsOf, hlisted, Dev.objB, henable, hdirection, hcarrier, hroute]

/-- A port after a good frame (ISO 11898-1). -/
def CanPort.heard (q : CanPort) : CanPort := { q with rxErr := if 127 < q.rxErr then 119 else q.rxErr - 1 }

/-- A port that holds one received frame more. -/
def CanPort.kept (r : CanFrame × Nat) (q : CanPort) : CanPort := { q with rxq := q.rxq ++ [r] }

/-- The block once a received frame has taken its buffers and its place. -/
def Dev.canKeep (d : Dev) (p : Nat) (f : CanFrame) (off : Nat) : Dev :=
  let d := d.poolSet (4 + p) (d.obj (Obj.POOL_IN_USE (4 + p)) + buffersOf (f.data.length + 15))
  { d with can := upd (CanPort.kept (f, d.time80 off)) d.can p }

/-- The block once a received frame is dropped and counted. -/
def Dev.canDrop (d : Dev) (p : Nat) : Dev := (d.poolDrop (4 + p)).bump (Obj.RX_DROPPED p)

/-- A frame that a filter passes is kept while the pool has room, else dropped. -/
def Dev.canPass (d : Dev) (p : Nat) (f : CanFrame) (off : Nat) : Dev :=
  if d.poolFits (4 + p) (buffersOf (f.data.length + 15)) then d.canKeep p f off else d.canDrop p

theorem buffersOf_pos (len : Nat) : buffersOf (len + 15) ≠ 0 := by
  simp only [buffersOf, ceilDiv]
  omega

theorem kept_eq (r : CanFrame × Nat) : (fun q : CanPort => { q with rxq := q.rxq ++ [r] }) = CanPort.kept r := rfl

theorem heard_eq : (fun q : CanPort => { q with rxErr := if 127 < q.rxErr then 119 else q.rxErr - 1 }) = CanPort.heard := rfl

section
variable {d : Dev} {p : Fin 2} {f : CanFrame} {off : Nat}

theorem filters_updCan (g : CanPort → CanPort) {i : Nat} (hi : i < 32) : (d.updCan p g).obj (Obj.RX_FILTER p i) = d.obj (Obj.RX_FILTER p i) :=
  updCan_obj d p g (by simp only [Obj.CAN_STATUS, Obj.RX_FILTER]; omega)

theorem poolFits_updCan (g : CanPort → CanPort) (n : Nat) : (d.updCan p g).poolFits (4 + p) n = d.poolFits (4 + p) n :=
  poolFits_setObj _ _ (by simp only [Obj.CAN_STATUS]; omega) (by simp only [Obj.CAN_STATUS, Obj.SHARED_FREE]; omega)

theorem canIsSafe_updCan (g : CanPort → CanPort) (x : Bool) (id : Nat) : (d.updCan p g).canIsSafe p x id = d.canIsSafe p x id :=
  canIsSafe_setObj _ _ _ _ _ (by simp only [Obj.CAN_STATUS]; omega)

theorem canRx_dead (ok : Bool) (h : d.canLive p = false) : d.canRx p f ok off = d := by simp [Dev.canRx, h]

theorem canRx_bad {ok : Bool} (hlive : d.canLive p = true) (h : ok = false ∨ (f.fd = true ∧ d.obj (Obj.DATA_RATE p) = 0)) :
    d.canRx p f ok off = d.updCan p (fun q => { q with rxErr := min 255 (q.rxErr + 1) }) := by
  rcases h with rfl | ⟨hfd, hrate⟩
  · simp [Dev.canRx, hlive]
  · simp [Dev.canRx, hlive, hfd, hrate]

/-- A port that can take a good frame no connection owns. -/
structure Dev.CanHears (d : Dev) (p : Fin 2) (f : CanFrame) : Prop where
  live : d.canLive p = true
  format : f.fd = true → d.obj (Obj.DATA_RATE p) ≠ 0
  free : d.canIsSafe p f.ext f.id.toNat = false

variable (h : d.CanHears p f)
include h

/-- Past the checks of the bus and of the connections, the filters decide. -/
theorem canRx_filters : d.canRx p f true off =
    if (List.range 32).any (fun i => filterPasses ((d.updCan p CanPort.heard).obj (Obj.RX_FILTER p i)) f) then
      (d.updCan p CanPort.heard).canPass p f off
    else d.updCan p CanPort.heard := by
  have hrate : (f.fd && d.obj (Obj.DATA_RATE p) == 0) = false := by
    cases hfd : f.fd
    · rfl
    · simpa using h.format hfd
  have hfree := (canIsSafe_updCan CanPort.heard f.ext f.id.toNat).trans h.free
  unfold Dev.canRx
  simp only [h.live, hrate, Bool.not_true, Bool.or_false, Bool.false_eq_true, if_false, heard_eq, hfree, if_neg (buffersOf_pos _)]
  cases (List.range 32).any fun i => filterPasses ((d.updCan p CanPort.heard).obj (Obj.RX_FILTER p i)) f
  · simp only [Bool.not_false, if_true, Bool.false_eq_true, if_false]
  · cases hfits : (d.updCan p CanPort.heard).poolFits (4 + p) (buffersOf (f.data.length + 15))
    · simp only [Bool.not_true, Bool.false_eq_true, if_false, if_true, Dev.canPass, hfits, poolTake_none hfits, Dev.canDrop]
    · simp only [Bool.not_true, Bool.false_eq_true, if_false, if_true, Dev.canPass, hfits, poolTake_some hfits, Dev.canKeep, kept_eq]

theorem canRx_refused (hnone : ∀ i < 32, filterPasses (d.obj (Obj.RX_FILTER p i)) f = false) :
    d.canRx p f true off = d.updCan p CanPort.heard := by
  rw [canRx_filters h, if_neg]
  simp only [List.any_eq_true, List.mem_range, not_exists, not_and, Bool.not_eq_true]
  intro i hi
  rw [filters_updCan _ hi, hnone i hi]

theorem canRx_passed {i : Nat} (hi : i < 32) (hpass : filterPasses (d.obj (Obj.RX_FILTER p i)) f = true) :
    d.canRx p f true off = (d.updCan p CanPort.heard).canPass p f off := by
  rw [canRx_filters h, if_pos]
  exact List.any_eq_true.mpr ⟨i, List.mem_range.mpr hi, by rw [filters_updCan _ hi, hpass]⟩

end

/-! ## What the commands of a port show -/

section
variable {s : State} {p : Fin 2} {f : CanFrame}

theorem time80_congr {d e : Dev} (h : e.tb = d.tb) (off : Nat) : e.time80 off = d.time80 off := by
  simp only [Dev.time80, h]

theorem canKeep_shape (d : Dev) (q : Nat) (f : CanFrame) (off : Nat) :
    ∃ m, d.canKeep q f off = { d with dict := m, can := upd (CanPort.kept (f, d.time80 off)) d.can q } := by
  obtain ⟨m, hm⟩ := poolSet_shape d (4 + q) (d.obj (Obj.POOL_IN_USE (4 + q)) + buffersOf (f.data.length + 15))
  exact ⟨m, by simp only [Dev.canKeep, hm, Dev.time80]⟩

theorem canKeep_can (d : Dev) (q : Nat) (f : CanFrame) (off : Nat) :
    (d.canKeep q f off).can = upd (CanPort.kept (f, d.time80 off)) d.can q := by
  obtain ⟨m, hm⟩ := canKeep_shape d q f off
  rw [hm]

theorem canKeep_drops (d : Dev) (q : Nat) (f : CanFrame) (off : Nat) : (d.canKeep q f off).drops = d.drops := by
  obtain ⟨m, hm⟩ := canKeep_shape d q f off
  rw [hm]

theorem canKeep_blobs (d : Dev) (q : Nat) (f : CanFrame) (off : Nat) : (d.canKeep q f off).blobs = d.blobs := by
  obtain ⟨m, hm⟩ := canKeep_shape d q f off
  rw [hm]

theorem canDrop_can (d : Dev) (q : Nat) : (d.canDrop q).can = d.can := rfl

/-- A frame kept: the port holds it last, nothing of the queue differs. -/
theorem canKeep_port (off : Nat) (hp : (p : Nat) < s.dev.can.length) :
    ((s.dev.fresh.updCan p CanPort.heard).canKeep p f off).settle.canPort p = ((s.dev.canPort p).heard).kept (f, s.dev.time80 off) := by
  have htime : (s.dev.fresh.updCan p CanPort.heard).time80 off = s.dev.time80 off := time80_congr (updCan_tb s.dev.fresh p CanPort.heard) off
  have hlen : (p : Nat) < (s.dev.fresh.updCan p CanPort.heard).can.length := by
    rw [updCan_can, upd_length]
    exact hp
  rw [settle_none _ ((canKeep_drops _ _ _ _).trans (updCan_drops _ _ _)), canPort_upd (canKeep_can _ _ _ _) hlen, 
    updCan_canPort s.dev.fresh p CanPort.heard hp, htime, canPort_fresh]

theorem canDrop_alters (d : Dev) (q : Nat) {l : List Nat} (hpool : Obj.POOL_DROPPED (4 + q) ∈ l) (hport : Obj.RX_DROPPED q ∈ l) :
    d.Alters l (d.canDrop q) := by
  have hcounted : d.Alters l (d.poolDrop (4 + q)) := (alters_setObj d _ hpool).report (reported_drops _ _)
  exact hcounted.trans (alters_setObj _ _ hport)

/-- A frame dropped: the port holds what it held, and POOL_DROP is raised. -/
theorem canDrop_settle (hp : (p : Nat) < s.dev.can.length) :
    let e := ((s.dev.fresh.updCan p CanPort.heard).canDrop p).settle
    (e.canPort p).rxq = (s.dev.canPort p).rxq ∧ e.latched 0x3D = true ∧
      s.Only { s with dev := e } [Obj.CAN_STATUS p, Obj.RX_DROPPED p, Obj.POOL_DROPPED (4 + p), Obj.POOL_DROPPED 3] := by
  have hstatus := (updCan_alters s.dev.fresh p CanPort.heard).mono
    (l' := [Obj.CAN_STATUS p, Obj.RX_DROPPED p, Obj.POOL_DROPPED (4 + p), Obj.POOL_DROPPED 3]) (by simp)
  have hdrop := canDrop_alters (s.dev.fresh.updCan p CanPort.heard) p
    (l := [Obj.CAN_STATUS p, Obj.RX_DROPPED p, Obj.POOL_DROPPED (4 + p), Obj.POOL_DROPPED 3]) (by simp) (by simp)
  refine ⟨?_, settle_latches_drop (List.append_ne_nil_of_right_ne_nil _ (List.cons_ne_nil _ _)),
    ((hstatus.trans hdrop).report (reported_settle _)).only⟩
  have hcan := (settle_can _).trans (canDrop_can (s.dev.fresh.updCan p CanPort.heard) p)
  have hport := (canPort_congr hcan p).trans (updCan_canPort s.dev.fresh p CanPort.heard hp)
  exact (congrArg CanPort.rxq hport).trans rfl

/-- A port with these received frames left. -/
def CanPort.holding (rest : List (CanFrame × Nat)) (q : CanPort) : CanPort := { q with rxq := rest }

/-- The block once a record is read, before its buffers return. -/
def Dev.takeFrame (d : Dev) (q : Nat) (rest : List (CanFrame × Nat)) : Dev := { d with can := upd (CanPort.holding rest) d.can q }

/-- A record read: it leaves the mailbox. -/
theorem canPop_port {d : Dev} {q : Nat} {at80 : Nat} {rest : List (CanFrame × Nat)} (h : (d.canPort q).rxq = (f, at80) :: rest) :
    ((d.canPop q).canPort q).rxq = rest ∧ (d.canPop q).blobs = d.blobs ∧ (d.canPop q).drops = d.drops := by
  have hq : q < d.can.length := port_exists CanPort.rxq (by simp [h])
  have hpop : d.canPop q = (d.takeFrame q rest).poolFree (4 + q) (buffersOf (f.data.length + 15)) := by
    unfold Dev.canPop
    rw [h]
    rfl
  obtain ⟨m, hm⟩ := poolSet_shape (d.takeFrame q rest) (4 + q)
    ((d.takeFrame q rest).obj (Obj.POOL_IN_USE (4 + q)) - buffersOf (f.data.length + 15))
  rw [hpop, Dev.poolFree, hm]
  exact ⟨congrArg CanPort.rxq (canPort_upd (f := CanPort.holding rest) rfl hq), rfl, rfl⟩

end

/-! ## The obligation -/

/-- Settles O47: each clause is one case of the port's own step, and what it shows beside is CAN_STATUS alone. -/
theorem canPortsQueueAndDeliver : Obligations.CanPortsQueueAndDeliver := by
  unfold Obligations.CanPortsQueueAndDeliver
  refine ⟨fun s p f ok off hcan hform => ⟨fun hdead => ?dead, fun hlive hbad => ?bad, fun hlive hrate hfree => ⟨fun hnone => ?refused,
      fun i hi hpass => ⟨fun hfits => ?kept, fun hfull => ?dropped⟩⟩⟩,
    fun s src p hreach hd => ⟨fun hrx => ?empty, fun f at80 rest hrx hlen => ?oldest⟩,
    fun d m w p f hcan hkey hf henable hhead hroom => ?queued,
    fun s p ok => ⟨fun hidle => ?idle, fun f rest hlive hq => ⟨?sent, ?failed⟩⟩,
    fun s p => ⟨fun hon => ?on, fun hoff => ?recovered⟩⟩
  case dead =>
    refine answers_onDev _ (guardForm_true _ hform) ?_
    rw [canRx_dead (d := s.dev.fresh) ok hdead]
    exact ⟨same_of_dict rfl rfl rfl, settle_can _⟩
  case bad =>
    refine answers_onDev _ (guardForm_true _ hform) ?_
    rw [canRx_bad (d := s.dev.fresh) hlive hbad]
    exact ⟨updCan_only (.refl _), settle_can _⟩
  case refused =>
    have hears : s.dev.fresh.CanHears p f := ⟨hlive, hrate, hfree⟩
    refine answers_onDev _ (guardForm_true _ hform) ?_
    rw [canRx_refused hears hnone]
    have hport := updCan_port (s := s) (p := p) (.refl (s.dev.fresh.updCan p CanPort.heard)) (by omega)
    exact ⟨updCan_only (.refl _), (congrArg CanPort.rxq hport).trans rfl, (congrArg CanPort.rxErr hport).trans rfl⟩
  case kept =>
    have hears : s.dev.fresh.CanHears p f := ⟨hlive, hrate, hfree⟩
    have hroom := (poolFits_updCan (d := s.dev.fresh) CanPort.heard _).trans hfits
    refine answers_onDev _ (guardForm_true _ hform) ?_
    rw [canRx_passed hears hi hpass, Dev.canPass, if_pos hroom]
    have hport := canKeep_port (s := s) (p := p) (f := f) off (by omega)
    have hblobs := ((settle_blobs _).trans (canKeep_blobs _ p f off)).trans (updCan_blobs s.dev.fresh p CanPort.heard)
    exact ⟨(congrArg CanPort.rxq hport).trans rfl, (congrArg CanPort.txq hport).trans rfl, hblobs, rfl⟩
  case dropped =>
    have hears : s.dev.fresh.CanHears p f := ⟨hlive, hrate, hfree⟩
    have hroom := (poolFits_updCan (d := s.dev.fresh) CanPort.heard _).trans hfull
    refine answers_onDev _ (guardForm_true _ hform) ?_
    rw [canRx_passed hears hi hpass, Dev.canPass, if_neg (by simp [hroom])]
    exact canDrop_settle (by omega)
  case empty =>
    have hread := readDomain_CAN_RX (d := s.dev.fresh) p hd (by simp [CanPort.oldest, hrx])
    have hpop : s.dev.fresh.canPop p = s.dev.fresh := by simp [Dev.canPop, hrx]
    refine answers_onDev (fun d => d.readCan src p) rfl ?_
    rw [readCan_reaching (d := s.dev.fresh) hreach hread, hpop]
    refine ⟨same_of_dict rfl rfl rfl, (reported_settle _).emitted.subset ?_⟩
    simp [CanPort.oldest, hrx]
  case oldest =>
    have hhead : (s.dev.fresh.canPort p).oldest = canRecord f at80 := by simp [CanPort.oldest, hrx]
    have hread := readDomain_CAN_RX (d := s.dev.fresh) p hd (by rw [hhead, canRecord_length]; omega)
    obtain ⟨hrest, hblobs, hdrops⟩ := canPop_port (d := s.dev.fresh) hrx
    refine answers_onDev (fun d => d.readCan src p) rfl ?_
    rw [readCan_reaching (d := s.dev.fresh) hreach hread, settle_none _ (by exact hdrops)]
    exact ⟨by simp [← hhead], hrest, hblobs, rfl⟩
  case queued =>
    obtain ⟨htxq, hemit⟩ := canQueue_txq f (by omega) hhead hroom
    have hcanTx : d.canTx p w.data = d.canQueue p f := by simp [Dev.canTx, hf, henable]
    rw [takeWrite_CAN_TX d m w p hkey, hcanTx]
    exact ⟨htxq, rfl, hemit⟩
  case idle =>
    refine answers_onDev (fun d => d.canSent p ok) rfl ?_
    rw [canSent_idle (d := s.dev.fresh) ok hidle]
    exact ⟨same_of_dict rfl rfl rfl, settle_can _⟩
  case sent =>
    have hp : (p : Nat) < s.dev.can.length := port_exists CanPort.txq (by simp [hq])
    have hstart := reported_canStart (s.dev.fresh.updCan p CanPort.sent) p
    have hport := updCan_port hstart hp
    have hrest : (s.dev.canPort p).sent.txq = rest := congrArg (List.drop 1) hq
    refine answers_onDev (fun d => d.canSent p true) rfl ?_
    rw [canSent_ok (d := s.dev.fresh) hlive (by simp [hq])]
    refine ⟨updCan_only hstart, (congrArg CanPort.txq hport).trans hrest, (congrArg CanPort.txErr hport).trans rfl, fun g l hgl => ?_⟩
    exact canStart_settle_emits ((congrArg CanPort.txq (updCan_canPort s.dev.fresh p CanPort.sent hp)).trans (hrest.trans hgl))
  case failed =>
    have hp : (p : Nat) < s.dev.can.length := port_exists CanPort.txq (by simp [hq])
    have hkept : (s.dev.canPort p).failed.txq = f :: rest := hq
    refine answers_onDev (fun d => d.canSent p false) rfl ?_
    rw [canSent_fail (d := s.dev.fresh) hlive (by simp [hq]) hp, canPort_fresh]
    by_cases hover : 255 < (s.dev.canPort p).txErr + 8
    · have hstart := Reported.refl (s.dev.fresh.updCan p CanPort.failed)
      have hport := updCan_port hstart hp
      have hoff : (s.dev.canPort p).failed.busOff = true := decide_eq_true hover
      rw [if_pos hover]
      refine ⟨updCan_only hstart, (congrArg CanPort.txq hport).trans hkept, (congrArg CanPort.txErr hport).trans rfl,
        fun _ => ⟨(congrArg CanPort.busOff hport).trans hoff, ?_⟩, fun hle => absurd hover (Nat.not_lt.mpr hle)⟩
      exact (congrArg (· / 2 ^ 24) (updCan_shown hstart)).trans (updCan_status_busOff _ _ _ hp hoff)
    · have hstart := reported_canStart (s.dev.fresh.updCan p CanPort.failed) p
      have hport := updCan_port hstart hp
      rw [if_neg hover]
      refine ⟨updCan_only hstart, (congrArg CanPort.txq hport).trans hkept, (congrArg CanPort.txErr hport).trans rfl,
        fun hlt => absurd hlt hover, fun _ => ⟨(congrArg CanPort.busOff hport).trans (decide_eq_false hover), ?_⟩⟩
      exact canStart_settle_emits ((congrArg CanPort.txq (updCan_canPort s.dev.fresh p CanPort.failed hp)).trans hkept)
  case on =>
    refine answers_onDev (fun d => d.canRecover p) rfl ?_
    rw [canRecover_idle (d := s.dev.fresh) hon]
    exact ⟨same_of_dict rfl rfl rfl, settle_can _⟩
  case recovered =>
    have hp : (p : Nat) < s.dev.can.length := port_exists CanPort.busOff (by simp [hoff])
    have hstart := reported_canStart (s.dev.fresh.updCan p CanPort.resumed) p
    have hport := updCan_port hstart hp
    refine answers_onDev (fun d => d.canRecover p) rfl ?_
    rw [canRecover_off (d := s.dev.fresh) hoff]
    refine ⟨⟨List.forall_mem_singleton.mpr ?_, updCan_only hstart⟩, (congrArg CanPort.busOff hport).trans rfl,
      (congrArg CanPort.txErr hport).trans rfl, (congrArg CanPort.rxErr hport).trans rfl, (congrArg CanPort.txq hport).trans rfl, fun g l hq => ?_⟩
    · exact (updCan_shown hstart).trans (updCan_status_clear _ _ _ hp rfl rfl rfl)
    · exact canStart_settle_emits ((congrArg CanPort.txq (updCan_canPort s.dev.fresh p CanPort.resumed hp)).trans hq)

end Sys2Proof.Machine
end

section
/-! SUPPORT. The conditions of an object's owner rest on objects outside the frame buffer pool and on no session (R48, R65, R219): what a
received datagram changes on its way in changes none of them. -/

set_option Elab.async false

namespace Sys2Proof.Machine

/-- The blocks d and e differ in objects of the frame buffer pool and in the state of access alone. -/
structure Dev.Alike (d e : Dev) : Prop where
  obj : ∀ k, k < 0x048000 ∨ 0x049000 ≤ k → e.obj k = d.obj k
  rest : { e with dict := [], acc := d.acc } = { d with dict := [] }

section
variable {d e : Dev} (h : d.Alike e)
include h

theorem Dev.Alike.high (base off : Nat) (hb : 0x049000 ≤ base) : e.obj (base + off) = d.obj (base + off) :=
  h.obj _ (.inr (Nat.le_add_right_of_le hb))

theorem Dev.Alike.higher (base off i : Nat) (hb : 0x049000 ≤ base) : e.obj (base + off + i) = d.obj (base + off + i) :=
  h.high _ _ (Nat.le_add_right_of_le hb)

theorem Dev.Alike.now : e.now = d.now := (congrArg Dev.now h.rest :)
theorem Dev.Alike.ctl : e.ctl = d.ctl := (congrArg Dev.ctl h.rest :)
theorem Dev.Alike.tally : e.tally = d.tally := (congrArg Dev.tally h.rest :)
theorem Dev.Alike.tb : e.tb = d.tb := (congrArg Dev.tb h.rest :)
theorem Dev.Alike.cyc : e.cyc = d.cyc := (congrArg Dev.cyc h.rest :)
theorem Dev.Alike.axes : e.axes = d.axes := (congrArg Dev.axes h.rest :)
theorem Dev.Alike.gens : e.gens = d.gens := (congrArg Dev.gens h.rest :)
theorem Dev.Alike.gf : e.gf = d.gf := (congrArg Dev.gf h.rest :)
theorem Dev.Alike.legs : e.legs = d.legs := (congrArg Dev.legs h.rest :)
theorem Dev.Alike.folds : e.folds = d.folds := (congrArg Dev.folds h.rest :)
theorem Dev.Alike.acq : e.acq = d.acq := (congrArg Dev.acq h.rest :)
theorem Dev.Alike.fl : e.fl = d.fl := (congrArg Dev.fl h.rest :)

theorem Dev.Alike.state : e.state = d.state := h.obj _ (by decide)

/-! ## Instants and waiting writes -/

theorem Dev.Alike.boundaryFrom (t : Nat) : e.boundaryFrom t = d.boundaryFrom t := by simp only [Dev.boundaryFrom, h.cyc]

theorem Dev.Alike.timedAt (t : Nat) : e.timedAt t = d.timedAt t := by
  simp (disch := decide) only [Dev.timedAt, Dev.timeNs, h.obj, h.tb, h.now, h.boundaryFrom]

theorem Dev.Alike.coming : e.coming = d.coming := by simp only [Dev.coming, h.tally, h.boundaryFrom, h.timedAt]

theorem Dev.Alike.effectAt : e.effectAt = d.effectAt := by simp only [Dev.effectAt, h.now, h.boundaryFrom]

/-- The value an object will have is read from the waiting writes and from the object. -/
theorem Dev.Alike.soon (b k : Nat) (hk : k < 0x048000 ∨ 0x049000 ≤ k) : e.soon b k = d.soon b k := by
  simp only [Dev.soon, h.coming, h.obj k hk]

theorem Dev.Alike.soonHigh (b base off : Nat) (hb : 0x049000 ≤ base) : e.soon b (base + off) = d.soon b (base + off) :=
  h.soon b _ (.inr (Nat.le_add_right_of_le hb))

theorem Dev.Alike.soonWith (b k v w j : Nat) (hj : j < 0x048000 ∨ 0x049000 ≤ j) : e.soonWith b k v w j = d.soonWith b k v w j := by
  simp only [Dev.soonWith, h.soon b j hj]

theorem Dev.Alike.soonWithHigh (b k v w base off : Nat) (hb : 0x049000 ≤ base) :
    e.soonWith b k v w (base + off) = d.soonWith b k v w (base + off) :=
  h.soonWith b k v w _ (.inr (Nat.le_add_right_of_le hb))

/-! ## Axes -/

theorem Dev.Alike.axisCondition (n cmd : Nat) : e.axisCondition n cmd = d.axisCondition n cmd := by
  simp (disch := decide) only [Dev.axisCondition, Dev.causeCleared, Dev.axis, Dev.axisState, h.state, h.axes, h.ctl, h.high]
  rfl

theorem Dev.Alike.profileStatus (n v : Nat) : e.profileStatus n v = d.profileStatus n v := by
  simp (disch := decide) only [Dev.profileStatus, Dev.gen, Dev.axisState, Dev.objB, h.gens, h.high, h.obj]
  rfl

theorem Dev.Alike.pulseRateOk (n v : Nat) : e.pulseRateOk n v = d.pulseRateOk n v := by
  simp (disch := decide) only [Dev.pulseRateOk, h.high]

theorem Dev.Alike.axisWrite (b n off sub k v : Nat) : e.axisWrite b n off sub k v = d.axisWrite b n off sub k v := by
  simp (disch := decide) only [Dev.axisWrite, Dev.axisStatus, Dev.gen, h.axisCondition, h.profileStatus, h.pulseRateOk, h.gens, h.state, h.high,
    h.soonHigh, h.soonWithHigh]
  rfl

/-! ## The grid-former and the leg ports -/

theorem Dev.Alike.sense (p : Nat) : e.sense p = d.sense p := by
  simp (disch := decide) only [Dev.sense, Dev.objI, h.high]

theorem Dev.Alike.gfVdc : e.gfVdc = d.gfVdc := by
  simp (disch := decide) only [Dev.gfVdc, h.sense, h.obj]

theorem Dev.Alike.slotOf (n : Nat) : e.slotOf n = d.slotOf n := by
  simp (disch := decide) only [Dev.slotOf, h.high]

theorem Dev.Alike.slotFaulty (n : Nat) : e.slotFaulty n = d.slotFaulty n := by
  simp (disch := decide) only [Dev.slotFaulty, Dev.leg, h.legs, h.high]

theorem Dev.Alike.fastPorts : e.fastPorts = d.fastPorts := by
  simp (disch := decide) only [Dev.fastPorts, Dev.objB, h.high]

theorem Dev.Alike.fastLegs (l : List Nat) : e.fastLegs l = d.fastLegs l := by
  simp (disch := decide) only [Dev.fastLegs, h.high]

theorem Dev.Alike.gfCausePresent (cause : Nat) : e.gfCausePresent cause = d.gfCausePresent cause := by
  simp (disch := decide) only [Dev.gfCausePresent, Dev.pu, Dev.puAmp, Dev.objI, h.gfVdc, h.sense, h.axes, h.slotFaulty, h.fastPorts, h.fastLegs,
    h.slotOf, h.obj]
  rfl

theorem Dev.Alike.gfCondition (cmd : Nat) : e.gfCondition cmd = d.gfCondition cmd := by
  simp (disch := decide) only [Dev.gfCondition, Dev.gfState, Dev.objB, Dev.gfOwns, Dev.ownInWindow, Dev.pu, Dev.objI, h.gfVdc, h.state, h.gf,
    h.gfCausePresent, h.obj]
  rfl

theorem Dev.Alike.gfWrite (b k v : Nat) : e.gfWrite b k v = d.gfWrite b k v := by
  simp (disch := decide) only [Dev.gfWrite, Dev.objB, h.gfCondition, h.soon, h.soonWith, h.obj]
  rfl

theorem Dev.Alike.legStatus (n v : Nat) : e.legStatus n v = d.legStatus n v := by
  simp (disch := decide) only [Dev.legStatus, Dev.legState, Dev.fastClear, Dev.testEligible, Dev.objB, h.slotOf, h.state, h.obj, h.high]
  rfl

/-! ## Recorders -/

theorem Dev.Alike.recUses (f : Nat → Bool) : e.recUses f = d.recUses f := by
  simp (disch := decide) only [Dev.recUses, Dev.recState, h.high]
  rfl

theorem Dev.Alike.usesChannel (c : Nat) : e.usesChannel c = d.usesChannel c := by
  funext r
  simp (disch := decide) only [Dev.usesChannel, h.high]

theorem Dev.Alike.usesUnit (u : Nat) : e.usesUnit u = d.usesUnit u := by
  funext r
  simp (disch := decide) only [Dev.usesUnit, h.high]

theorem Dev.Alike.mostFrom (b base off : Nat) (hb : 0x049000 ≤ base) : e.mostFrom b (base + off) = d.mostFrom b (base + off) := by
  simp only [Dev.mostFrom, h.coming, h.soonHigh b base off hb]

theorem Dev.Alike.rateOk (fast : Bool) : e.rateOk fast = d.rateOk fast := by
  funext c
  simp (disch := decide) only [Dev.rateOk, Dev.chKind, h.high]
  rfl

theorem Dev.Alike.unitOk : e.unitOk = d.unitOk := by
  funext u
  simp (disch := decide) only [Dev.unitOk, Dev.objI, h.rateOk, h.high]
  rfl

theorem Dev.Alike.regionBytes (r : Nat) : e.regionBytes r = d.regionBytes r := by
  have hsize : e.obj (Obj.REC_SIZE r) = d.obj (Obj.REC_SIZE r) := h.high _ _ (by decide)
  exact congrArg (fun n => n * 1024 - 1088) hsize

theorem Dev.Alike.rawCapacity (r : Nat) : e.rawCapacity r = d.rawCapacity r := by
  simp (disch := decide) only [Dev.rawCapacity, Dev.rawBytes, h.regionBytes, h.high]

theorem Dev.Alike.sealReads (r : Nat) : e.sealReads r = d.sealReads r := by
  simp only [Dev.sealReads, h.acq, h.now]

theorem Dev.Alike.armStatus (r : Nat) : e.armStatus r = d.armStatus r := by
  simp (disch := decide) only [Dev.armStatus, Dev.recState, h.rawCapacity, h.rateOk, h.unitOk, h.sealReads, h.high]
  rfl

theorem Dev.Alike.acqWrite (b idx sub v : Nat) : e.acqWrite b idx sub v = d.acqWrite b idx sub v := by
  simp (disch := decide) only [Dev.acqWrite, Dev.recStatus, Dev.recState, h.recUses, h.usesChannel, h.usesUnit, h.mostFrom, h.armStatus, h.state,
    h.high]
  rfl

/-! ## Time, life, redundancy and access -/

theorem Dev.Alike.timeWrite (b k v : Nat) : e.timeWrite b k v = d.timeWrite b k v := by
  simp (disch := decide) only [Dev.timeWrite, Dev.stepInRange, Dev.goalT, Dev.queuedSteps, Dev.relockingT, Dev.slaveRuns, Dev.offsetT,
    Dev.comingSteps, Dev.objB, Dev.objI, h.coming, h.tb, h.state, h.obj]
  rfl

theorem Dev.Alike.lifeWrite (k v : Nat) : e.lifeWrite k v = d.lifeWrite k v := by
  simp (disch := decide) only [Dev.lifeWrite, Dev.testStatus, Dev.clearOk, Dev.lane, Dev.fold, h.ctl, h.fl, h.folds, h.state, h.obj,
    h.higher]
  rfl

theorem Dev.Alike.redundancyOk (cmd : Nat) : e.redundancyOk cmd = d.redundancyOk cmd := by
  simp (disch := decide) only [Dev.redundancyOk, Dev.configured, Dev.objB, Dev.gen, h.gens, h.obj, h.high]
  rfl

theorem Dev.Alike.accessWrite (b k v : Nat) : e.accessWrite b k v = d.accessWrite b k v := by
  simp (disch := decide) only [Dev.accessWrite, h.tally, h.state, h.soon]

/-! ## Every owner -/

theorem Dev.Alike.ownerStatusAt (b k v : Nat) : e.ownerStatusAt b k v = d.ownerStatusAt b k v := by
  simp only [Dev.ownerStatusAt, h.axisWrite, h.gfWrite, h.acqWrite, h.timeWrite, h.lifeWrite, h.legStatus, h.redundancyOk, h.accessWrite, h.state]

theorem Dev.Alike.ownerStatus (k v : Nat) : e.ownerStatus k v = d.ownerStatus k v := by
  simp only [Dev.ownerStatus, h.effectAt, h.ownerStatusAt]

end

end Sys2Proof.Machine
end

section
/-! SUPPORT. Tally over UDP: a datagram's way in, its OPEN, its session and its end; ARP (R85 to R90, R93). -/

set_option Elab.async false

namespace Sys2Proof.Machine

/-! ## A datagram's way in (R218, R219) -/

/-- The block once a datagram's buffers were taken and returned. -/
def Dev.passed (d : Dev) (g : List Byte) : Dev :=
  (d.poolSet 3 (d.obj (Obj.POOL_IN_USE 3) + buffersOf (g.length + 42))).poolSet 3 (d.obj (Obj.POOL_IN_USE 3))

theorem udpIn_fits {d : Dev} {g : List Byte} (f : Dev → Dev) (h : d.poolFits 3 (buffersOf (g.length + 42)) = true) :
    d.udpIn g f = f (d.passed g) := by
  simp only [Dev.udpIn, Dev.poolPass, h, if_true, Dev.passed]

theorem udpIn_full {d : Dev} {g : List Byte} (f : Dev → Dev) (h : d.poolFits 3 (buffersOf (g.length + 42)) = false) :
    d.udpIn g f = d.poolDrop 3 := by
  simp only [Dev.udpIn, Dev.poolPass, h, Bool.false_eq_true, if_false]

section
variable (d : Dev) (g : List Byte)

theorem reported_passed : Reported d (d.passed g) := (reported_poolSet3 _ _).trans (reported_poolSet3 _ _)

/-- A datagram on its way in changes objects alone. -/
theorem passed_shape : ∃ m, d.passed g = { d with dict := m } := by
  obtain ⟨m, hm⟩ := poolSet_shape d 3 (d.obj (Obj.POOL_IN_USE 3) + buffersOf (g.length + 42))
  obtain ⟨m', hm'⟩ := poolSet_shape { d with dict := m } 3 (d.obj (Obj.POOL_IN_USE 3))
  exact ⟨m', by rw [Dev.passed, hm, hm']⟩

theorem passed_acc : (d.passed g).acc = d.acc := by
  obtain ⟨m, hm⟩ := passed_shape d g
  rw [hm]

theorem passed_now : (d.passed g).now = d.now := (reported_passed d g).now

theorem passed_session (i : Nat) : (d.passed g).session i = d.session i := by rw [Dev.session, passed_acc, Dev.session]

theorem passed_freeSlot (safety : Bool) : (d.passed g).freeSlot safety = d.freeSlot safety := by simp only [Dev.freeSlot, passed_session]

theorem passed_slotKey (slot : Nat) : (d.passed g).slotKey slot = d.slotKey slot := by
  simp only [Dev.slotKey, (reported_passed d g).blob]

theorem passed_udpValid (p : Peer) : (d.passed g).udpValid p g = d.udpValid p g := by simp only [Dev.udpValid, passed_session]

/-- It changes objects of the pool alone. -/
theorem passed_alike : d.Alike (d.passed g) where
  obj k hk := by
    have hne : ∀ j : Nat, 0x048000 ≤ j ∧ j < 0x049000 → j ≠ k := by
      rintro j hj rfl
      omega
    simp only [Dev.passed, Dev.poolSet, Dev.showShared]
    rw [Dev.obj_setObj_ne _ _ _ _ (hne _ (by decide)), Dev.obj_setObj_ne _ _ _ _ (hne _ (by decide)), Dev.obj_setObj_ne _ _ _ _ (hne _ (by decide)),
      Dev.obj_setObj_ne _ _ _ _ (hne _ (by decide)), Dev.obj_setObj_ne _ _ _ _ (hne _ (by decide)), Dev.obj_setObj_ne _ _ _ _ (hne _ (by decide))]
  rest := by
    obtain ⟨m, hm⟩ := passed_shape d g
    rw [hm]

end

/-! ## Sessions after reports (R86, R99) -/

section
variable {d e : Dev} (h : Reported d e) (i : Nat)
include h

/-- A report takes at most a session's next SEQUENCE. -/
theorem Reported.session : (e.session i).quiet = (d.session i).quiet := by
  have hmap := congrArg (fun l => getAt (Session.quiet ⟨false, false, 0, 0, 0, [], 0, 0, 0⟩) l i) h.sessions
  simp only [getAt_map] at hmap
  exact hmap

theorem Reported.session_isOpen : (e.session i).isOpen = (d.session i).isOpen := (congrArg Session.isOpen (h.session i) :)

theorem Reported.session_safety : (e.session i).safety = (d.session i).safety := (congrArg Session.safety (h.session i) :)

theorem Reported.session_seqRx : (e.session i).seqRx = (d.session i).seqRx := (congrArg Session.seqRx (h.session i) :)

end

/-- A slot whose session is open is a slot. -/
theorem session_exists {d : Dev} {i : Nat} (h : (d.session i).isOpen = true) : i < d.acc.sessions.length :=
  lt_of_getAt_ne fun heq => by
    rw [Dev.session, heq] at h
    cases h

theorem session_updSession {d : Dev} {i : Nat} (f : Session → Session) (h : i < d.acc.sessions.length) :
    (d.updSession i f).session i = f (d.session i) := getAt_upd_same _ f d.acc.sessions i h

theorem session_updSession_ne (d : Dev) {i j : Nat} (f : Session → Session) (h : i ≠ j) : (d.updSession i f).session j = d.session j :=
  getAt_upd_ne _ f d.acc.sessions i j h

/-- A session changed shows nothing. -/
theorem alters_updSession (d : Dev) (i : Nat) (f : Session → Session) (l : List Nat) : d.Alters l (d.updSession i f) := ⟨fun _ _ _ => rfl, rfl⟩

/-! ## A datagram of a session (R86, R90) -/

theorem udpValid_some {d : Dev} {p : Peer} {g : List Byte} {i : Nat} (h : d.udpValid p g = some i) : (d.session i).isOpen = true ∧ i < 8 := by
  unfold Dev.udpValid at h
  dsimp only at h
  split at h
  · rename_i hgood
    simp only [Bool.and_eq_true, bne_iff_ne, decide_eq_true_eq] at hgood
    obtain ⟨⟨⟨⟨⟨⟨⟨-, hn⟩, hle⟩, hopen⟩, -⟩, -⟩, -⟩, -⟩ := hgood
    cases h
    exact ⟨hopen, by omega⟩
  · cases h

/-- The service is open to the peer, and there are buffers for the datagram (R85, R218). -/
structure Dev.TakesIn (d : Dev) (p : Peer) (g : List Byte) : Prop where
  service : d.udpOpenFor p = true
  short : g.length ≤ 1472
  fits : d.poolFits 3 (buffersOf (g.length + 42)) = true

section
variable {d : Dev} {p : Peer} {g : List Byte} (h : d.TakesIn p g)
include h

theorem udpRequest_invalid (hvalid : d.udpValid p g = none) : d.udpRequest p g = (d.passed g).authFail p := by
  have hvalid' := (passed_udpValid d g p).trans hvalid
  simp only [Dev.udpRequest, h.service, Nat.not_lt.mpr h.short, udpIn_fits _ h.fits, hvalid', Bool.not_true, decide_false, Bool.or_false,
    Bool.false_eq_true, if_false]

theorem udpRequest_other {i : Nat} (hvalid : d.udpValid p g = some i) (hkind : udpKind g ≠ 1) :
    d.udpRequest p g = (d.passed g).udpTake i g := by
  have hvalid' := (passed_udpValid d g p).trans hvalid
  simp only [Dev.udpRequest, h.service, Nat.not_lt.mpr h.short, udpIn_fits _ h.fits, hvalid', if_pos hkind, Bool.not_true, decide_false,
    Bool.or_false, Bool.false_eq_true, if_false]

theorem udpRequest_ops {i : Nat} (hvalid : d.udpValid p g = some i) (hkind : udpKind g = 1) {out : List Byte} {e : Dev}
    (hops : udpOps (Fin.ofNat 8 i) 184 ((g.drop 12).take (fieldAt g 10 2)) ([], (d.passed g).udpTake i g) = (out, e)) :
    d.udpRequest p g = e.sendSession i 2 out := by
  have hvalid' := (passed_udpValid d g p).trans hvalid
  simp only [Dev.udpRequest, h.service, Nat.not_lt.mpr h.short, udpIn_fits _ h.fits, hvalid', if_neg (not_not.mpr hkind), hops, Bool.not_true,
    decide_false, Bool.or_false, Bool.false_eq_true, if_false]

theorem udpClose_invalid (hvalid : d.udpValid p g = none) : d.udpClose p g = (d.passed g).authFail p := by
  have hvalid' := (passed_udpValid d g p).trans hvalid
  simp only [Dev.udpClose, h.service, Nat.not_lt.mpr h.short, udpIn_fits _ h.fits, hvalid', Bool.not_true, decide_false, Bool.or_false,
    Bool.false_eq_true, if_false]

theorem udpClose_valid {i : Nat} (hvalid : d.udpValid p g = some i) : d.udpClose p g = ((d.passed g).udpTake i g).endSession i := by
  have hvalid' := (passed_udpValid d g p).trans hvalid
  simp only [Dev.udpClose, h.service, Nat.not_lt.mpr h.short, udpIn_fits _ h.fits, hvalid', Bool.not_true, decide_false, Bool.or_false,
    Bool.false_eq_true, if_false]

end

/-- A datagram that belongs to no open session: UDP_AUTH_FAIL is raised, and nothing else shows. -/
theorem authFail_settle (s : State) (p : Peer) (g : List Byte) :
    let e := ((s.dev.fresh.passed g).authFail p).settle
    s.Only { s with dev := e } [] ∧ e.latched 0x04 = true ∧ e.tally = s.dev.tally := by
  have hreport := ((reported_passed s.dev.fresh g).trans (reported_raise _ 4 p.ip.toNat (by decide))).trans (reported_settle _)
  exact ⟨(hreport.alters []).only, settle_latched _ _ (by decide) (latched_raise _ _ _ (by decide)), hreport.tally⟩

section
variable {s : State} {g : List Byte} {i : Nat}

/-- What a session's datagram changes when it is accepted: the session's own state. -/
theorem udpTake_alters (l : List Nat) : s.dev.fresh.Alters l ((s.dev.fresh.passed g).udpTake i g) :=
  ((reported_passed s.dev.fresh g).alters l).trans (alters_updSession _ i _ l)

theorem udpTake_session (hopen : (s.dev.session i).isOpen = true) :
    ((s.dev.fresh.passed g).udpTake i g).session i = { s.dev.session i with seqRx := fieldAt g 6 4, lastValidAt := s.dev.now } := by
  have hslot : i < (s.dev.fresh.passed g).acc.sessions.length := by
    rw [passed_acc]
    exact session_exists (d := s.dev) hopen
  rw [Dev.udpTake, session_updSession _ hslot, passed_session, passed_now]
  rfl

end

/-! ## OPEN (R88, R89) -/

/-- An OPEN under the key of its slot, in its form and with a good tag. -/
def openIsGood (key g : List Byte) : Bool := udpFormOk g && fieldAt g 10 2 == 17 && fieldAt g 4 2 == 0 && udpTagOk key g

theorem openIsGood_length {key g : List Byte} (h : openIsGood key g = true) : g.length ≤ 1472 := by
  simp only [openIsGood, udpFormOk, Bool.and_eq_true, decide_eq_true_eq] at h
  omega

theorem udpOpen_blocked {d : Dev} {p : Peer} {g : List Byte} (h : d.acc.openBlocked = true) : d.udpOpen p g = d := by simp [Dev.udpOpen, h]

theorem udpOpen_full {d : Dev} {p : Peer} {g : List Byte} (hopen : d.udpOpenFor p = true) (hfree : d.acc.openBlocked = false)
    (hlen : g.length ≤ 1472) (hfull : d.poolFits 3 (buffersOf (g.length + 42)) = false) : d.udpOpen p g = d.poolDrop 3 := by
  simp only [Dev.udpOpen, hopen, hfree, Nat.not_lt.mpr hlen, udpIn_full _ hfull, Bool.not_true, decide_false, Bool.or_false,
    Bool.false_eq_true, if_false]

section
variable {d : Dev} {p : Peer} {g : List Byte} (h : d.TakesIn p g) (hfree : d.acc.openBlocked = false)
include h hfree

theorem udpOpen_good {key : List Byte} (hkey : d.slotKey (fieldAt g 12 1) = some key) (hgood : openIsGood key g = true) :
    d.udpOpen p g = (d.passed g).openGood p (fieldAt g 12 1) key ((g.drop 13).take 16) := by
  have hkey' := (passed_slotKey d g _).trans hkey
  simp only [Dev.udpOpen, h.service, hfree, Nat.not_lt.mpr h.short, udpIn_fits _ h.fits, hkey', ← openIsGood.eq_def, hgood,
    Bool.not_true, decide_false, Bool.or_false, Bool.false_eq_true, if_false, if_true]

theorem udpOpen_bad {key : List Byte}
    (hbad : d.slotKey (fieldAt g 12 1) = none ∨ (d.slotKey (fieldAt g 12 1) = some key ∧ openIsGood key g = false)) :
    d.udpOpen p g = (d.passed g).openFailed p := by
  have hkeys := passed_slotKey d g (fieldAt g 12 1)
  simp only [Dev.udpOpen, h.service, hfree, Nat.not_lt.mpr h.short, udpIn_fits _ h.fits, ← openIsGood.eq_def, hkeys,
    Bool.not_true, decide_false, Bool.or_false, Bool.false_eq_true, if_false]
  rcases hbad with hkey | ⟨hkey, hgood⟩
  · rw [hkey]
  · rw [hkey]
    simp only [hgood, Bool.false_eq_true, if_false]

end

/-! ### A failed OPEN -/

/-- The block with one failed OPEN more in its memory of the last second. -/
def Dev.noteFail (d : Dev) : Dev :=
  let l := (d.acc.openFails.filter (fun t => decide (d.now < t + 1000000000))) ++ [d.now]
  let full : Bool := decide (16 ≤ l.length)
  { d with acc := { d.acc with openFails := if full then [] else l, openBlocked := full, blockedAt := d.now } }

theorem noteFail_alters (d : Dev) (l : List Nat) : d.Alters l d.noteFail := ⟨fun _ _ _ => rfl, rfl⟩

/-- The sixteenth failed OPEN within 1 s blocks OPEN (R89). -/
theorem noteFail_openBlocked (d : Dev) :
    d.noteFail.acc.openBlocked = decide (15 ≤ (d.acc.openFails.filter (fun t => decide (d.now < t + 1000000000))).length) := by
  have hblocked : d.noteFail.acc.openBlocked
      = decide (16 ≤ ((d.acc.openFails.filter (fun t => decide (d.now < t + 1000000000))) ++ [d.now]).length) := rfl
  rw [hblocked, List.length_append, List.length_singleton]
  exact decide_eq_decide.mpr (by omega)

theorem openFailed_settle (s : State) (p : Peer) (g : List Byte) :
    let e := ((s.dev.fresh.passed g).openFailed p).settle
    s.Only { s with dev := e } [] ∧ e.latched 0x04 = true ∧
      e.acc.openBlocked = decide (15 ≤ (s.dev.acc.openFails.filter (fun x => decide (s.dev.now < x + 1000000000))).length) := by
  have hnote : s.dev.fresh.Alters [] (s.dev.fresh.passed g).noteFail := 
    ((reported_passed s.dev.fresh g).alters []).trans (noteFail_alters _ [])
  have hreport := (reported_raise (s.dev.fresh.passed g).noteFail 4 p.ip.toNat (by decide)).trans (reported_settle _)
  refine ⟨(hnote.report hreport).only, settle_latched _ _ (by decide) (latched_raise _ _ _ (by decide)), ?_⟩
  refine hreport.openBlocked.trans ((noteFail_openBlocked _).trans ?_)
  rw [passed_acc, passed_now]
  rfl

end Sys2Proof.Machine
end

section
/-! SUPPORT. Tally over UDP: a session's opening, its request and its end, and ARP (R64, R85 to R90, R93). -/

set_option Elab.async false

namespace Sys2Proof.Machine

/-! ## A session opens (R88, R90, R93) -/

section
variable {d : Dev} {p : Peer}

theorem openGood_none {slot : Nat} (key nc : List Byte) (h : d.freeSlot (decide (16 ≤ slot)) = none) :
    d.openGood p slot key nc = (d.draw 88).2.openAck p key (beBytes 16 (d.draw 88).1) 0 := by
  have hdrawn : (d.draw 88).2.freeSlot (decide (16 ≤ slot)) = none := h
  simp only [Dev.openGood, hdrawn]

/-- A session opens under a key that rests on both nonces. -/
theorem openGood_some {slot i : Nat} (key nc : List Byte) (h : d.freeSlot (decide (16 ≤ slot)) = some i) : ∃ ks,
    d.openGood p slot key nc
      = ((d.draw 88).2.openSlot p (decide (16 ≤ slot)) ks i).openAck p key (beBytes 16 (d.draw 88).1) (i + 1) := by
  have hdrawn : (d.draw 88).2.freeSlot (decide (16 ≤ slot)) = some i := h
  exact ⟨_, by simp only [Dev.openGood, hdrawn]; rfl⟩

theorem freeSlot_lt {safety : Bool} {i : Nat} (h : d.freeSlot safety = some i) : i < 8 := by
  unfold Dev.freeSlot at h
  split at h
  · cases h
  · exact List.mem_range.mp (List.mem_of_find?_eq_some h)

theorem reported_openAck (key nt : List Byte) (n : Nat) : Reported d (d.openAck p key nt n) := reported_sendUdp _ _ _ _ _ _

theorem draw_acc (tag : Nat) : (d.draw tag).2.acc = d.acc := rfl

theorem draw_session (tag i : Nat) : (d.draw tag).2.session i = d.session i := rfl

theorem draw_alters (tag : Nat) (l : List Nat) : d.Alters l (d.draw tag).2 := ⟨fun _ _ _ => rfl, rfl⟩

end

/-- A session as its OPEN leaves it. -/
def Dev.newSession (d : Dev) (p : Peer) (safety : Bool) (ks : List Byte) : Session :=
  { isOpen := true, safety := safety, ip := p.ip.toNat, port := p.udp.toNat, eth := p.eth, key := ks, seqRx := 0, seqTx := 0, lastValidAt := d.now }

/-- A run of objects cleared. -/
theorem obj_clearRun (d : Dev) (base n k : Nat) :
    (forN n (fun i d => d.setObj (base + i) 0) d).obj k = if base ≤ k ∧ k < base + n then 0 else d.obj k := by
  induction n with
  | zero => rw [if_neg (by omega)]; rfl
  | succ n ih =>
    rw [forN]
    by_cases hk : base + n = k
    · rw [if_pos (by omega), ← hk, Dev.obj_setObj_same]
    · rw [Dev.obj_setObj_ne _ _ _ _ hk, ih]
      exact if_congr (by omega) rfl rfl

/-- The state of access is no object. -/
theorem obj_setAcc (d : Dev) (a : Access) (k : Nat) : ({ d with acc := a } : Dev).obj k = d.obj k := rfl

section
variable (d : Dev) (p : Peer) (safety : Bool) (ks : List Byte) (i : Nat)

/-- The objects of an opened slot before its event mask is cleared. -/
def Dev.showSession : Dev :=
  ((d.updSession i (fun _ => d.newSession p safety ks)).setObj (Obj.SESSION_STATE i) (if safety then 2 else 1)).setObj (Obj.SESSION_PEER i)
    (p.ip.toNat * 65536 + p.udp.toNat)

/-- The event mask of a slot cleared. -/
def Dev.clearMask : Dev := forN 8 (fun j d => d.setObj (Obj.SESSION_EVENT_MASK i j) 0) d

theorem clearMask_acc : (d.clearMask i).acc = d.acc := forN_keeps (fun e : Dev => e.acc) 8 _ (fun _ _ _ => rfl) d

theorem clearMask_obj (k : Nat) : (d.clearMask i).obj k =
    if Obj.SESSION_EVENT_MASK i 0 ≤ k ∧ k < Obj.SESSION_EVENT_MASK i 0 + 8 then 0 else d.obj k :=
  obj_clearRun d (Obj.SESSION_EVENT_MASK i 0) 8 k

theorem openSlot_eq : d.openSlot p safety ks i =
    (let e := (d.showSession p safety ks i).clearMask i
     { e with acc := { e.acc with seen := e.acc.seen.filter (fun x => x.1 / 136 != 1 + i) } }) := rfl

theorem openSlot_obj (k : Nat) : (d.openSlot p safety ks i).obj k = ((d.showSession p safety ks i).clearMask i).obj k := by
  rw [openSlot_eq]
  exact obj_setAcc _ _ k

theorem openSlot_sessions : (d.openSlot p safety ks i).acc.sessions = upd (fun _ => d.newSession p safety ks) d.acc.sessions i := by
  rw [openSlot_eq]
  exact congrArg Access.sessions (clearMask_acc (d.showSession p safety ks i) i)

end

section
variable (d : Dev) (p : Peer) (safety : Bool) (ks : List Byte) {i : Nat}

theorem openSlot_state (hi : i < 8) : (d.openSlot p safety ks i).obj (Obj.SESSION_STATE i) = if safety then 2 else 1 := by
  rw [openSlot_obj, clearMask_obj, if_neg (by simp only [Obj.SESSION_STATE, Obj.SESSION_EVENT_MASK]; omega), Dev.showSession,
    Dev.obj_setObj_ne _ _ _ _ (by simp only [Obj.SESSION_STATE, Obj.SESSION_PEER]; omega), Dev.obj_setObj_same]

theorem openSlot_peer (hi : i < 8) : (d.openSlot p safety ks i).obj (Obj.SESSION_PEER i) = p.ip.toNat * 65536 + p.udp.toNat := by
  rw [openSlot_obj, clearMask_obj, if_neg (by simp only [Obj.SESSION_PEER, Obj.SESSION_EVENT_MASK]; omega), Dev.showSession, Dev.obj_setObj_same]

theorem openSlot_mask {j : Nat} (hj : j < 8) : (d.openSlot p safety ks i).obj (Obj.SESSION_EVENT_MASK i j) = 0 := by
  rw [openSlot_obj, clearMask_obj, if_pos (by simp only [Obj.SESSION_EVENT_MASK]; omega)]

theorem openSlot_session (h : i < d.acc.sessions.length) : (d.openSlot p safety ks i).session i = d.newSession p safety ks := by
  rw [Dev.session, openSlot_sessions]
  exact getAt_upd_same _ _ _ _ h

theorem openSlot_session_ne {j : Nat} (h : i ≠ j) : (d.openSlot p safety ks i).session j = d.session j := by
  rw [Dev.session, openSlot_sessions]
  exact getAt_upd_ne _ _ _ _ _ h

end

/-- The objects of a slot are none a report changes. -/
theorem eventKey_slot {i k : Nat} (hi : i < 8) (hk : k = Obj.SESSION_STATE i ∨ k = Obj.SESSION_PEER i ∨ ∃ j < 8, k = Obj.SESSION_EVENT_MASK i j) :
    eventKey k = false := by
  have hidx : 0x812 ≤ k / 256 := by
    rcases hk with rfl | rfl | ⟨j, hj, rfl⟩
    · simp only [Obj.SESSION_STATE]; omega
    · simp only [Obj.SESSION_PEER]; omega
    · simp only [Obj.SESSION_EVENT_MASK]; omega
  simp only [eventKey, Obj.EVENTS_DROPPED, Obj.SHARED_FREE, Bool.or_eq_false_iff, Bool.and_eq_false_iff, beq_eq_false_iff_ne]
  omega

/-! ## A session ends (R64, R66, R90) -/

section
variable (d : Dev) (i : Nat)

/-- The block with a slot shown closed. -/
def Dev.closeSlot : Dev := (d.setObj (Obj.SESSION_STATE i) 0).updSession i (fun x => { x with isOpen := false, safety := false })

theorem endSession_ordinary (h : (d.session i).safety = false) : d.endSession i = d.closeSlot i := by
  simp only [Dev.endSession, h, Bool.not_false, if_true, Dev.closeSlot]

/-- The block without a pending safety block and without timed safety writes. -/
def Dev.dropSafety : Dev :=
  { d with tally := { d.tally with pendingBlock := none, timed := d.tally.timed.filter (fun t => !isRws t.w.key) } }

theorem endSession_safety (h : (d.session i).safety = true) : d.endSession i = (d.closeSlot i).dropSafety := by
  simp only [Dev.endSession, h, Bool.not_true, Bool.false_eq_true, if_false, Dev.closeSlot, Dev.dropSafety]

/-- What shows of a session's end is the one object of its slot. -/
theorem endSession_shown : ∃ t, d.endSession i = { d.closeSlot i with tally := t } := by
  cases h : (d.session i).safety
  · exact ⟨d.tally, endSession_ordinary d i h⟩
  · exact ⟨_, endSession_safety d i h⟩

theorem closeSlot_obj : (d.closeSlot i).obj (Obj.SESSION_STATE i) = 0 := Dev.obj_setObj_same _ _ _

theorem closeSlot_obj_ne {k : Nat} (h : Obj.SESSION_STATE i ≠ k) : (d.closeSlot i).obj k = d.obj k := Dev.obj_setObj_ne _ _ _ _ h

theorem closeSlot_isOpen : ((d.closeSlot i).session i).isOpen = false := by
  by_cases hslot : i < d.acc.sessions.length
  · exact congrArg Session.isOpen (session_updSession (d := d.setObj (Obj.SESSION_STATE i) 0) _ hslot)
  · by_contra hopen
    rw [Bool.not_eq_false] at hopen
    have hslot' := session_exists hopen
    rw [Dev.closeSlot, Dev.updSession, upd_length] at hslot'
    exact hslot hslot'

end

section
variable (d : Dev) (i : Nat)

theorem closeSlot_alters {l : List Nat} (h : Obj.SESSION_STATE i ∈ l) : d.Alters l (d.closeSlot i) :=
  (alters_setObj d 0 h).trans (alters_updSession _ i _ l)

theorem endSession_alters {l : List Nat} (h : Obj.SESSION_STATE i ∈ l) : d.Alters l (d.endSession i) := by
  obtain ⟨t, ht⟩ := endSession_shown d i
  rw [ht]
  exact (closeSlot_alters d i h).trans ⟨fun _ _ _ => rfl, rfl⟩

theorem endSession_obj : (d.endSession i).obj (Obj.SESSION_STATE i) = 0 := by
  obtain ⟨t, ht⟩ := endSession_shown d i
  rw [ht]
  exact closeSlot_obj d i

theorem endSession_obj_ne {k : Nat} (h : Obj.SESSION_STATE i ≠ k) : (d.endSession i).obj k = d.obj k := by
  obtain ⟨t, ht⟩ := endSession_shown d i
  rw [ht]
  exact closeSlot_obj_ne d i h

theorem endSession_isOpen : ((d.endSession i).session i).isOpen = false := by
  obtain ⟨t, ht⟩ := endSession_shown d i
  rw [ht]
  exact closeSlot_isOpen d i

theorem endSession_drops : (d.endSession i).drops = d.drops := by
  obtain ⟨t, ht⟩ := endSession_shown d i
  rw [ht]
  exact Dev.setObj_drops d (Obj.SESSION_STATE i) 0

theorem endSession_blobs : (d.endSession i).blobs = d.blobs := by
  obtain ⟨t, ht⟩ := endSession_shown d i
  rw [ht]
  exact Dev.setObj_blobs d (Obj.SESSION_STATE i) 0

theorem endSession_pendingBlock (h : (d.session i).safety = true) : (d.endSession i).tally.pendingBlock = none := by
  rw [endSession_safety d i h]
  rfl

theorem endSession_timed (h : (d.session i).safety = true) : ∀ w ∈ (d.endSession i).tally.timed, isRws w.w.key = false := by
  rw [endSession_safety d i h]
  intro w hw
  simpa using (List.mem_filter.mp hw).2

end

/-! ## A request that writes (R86, R87) -/

/-- A session is no object, and part of the state of access. -/
theorem Dev.Alike.updSession {d e : Dev} (h : d.Alike e) (i : Nat) (f : Session → Session) : d.Alike (e.updSession i f) := ⟨h.obj, h.rest⟩

/-- The block once a session's datagram was accepted. -/
theorem alike_udpTake (d : Dev) (i : Nat) (g : List Byte) : d.Alike ((d.passed g).udpTake i g) := (passed_alike d g).updSession i _

/-- The rights of an object rest on the state, the role, the keys and the kind of the session. -/
theorem Dev.Alike.rightsStatus {d e : Dev} (h : d.Alike e) (hblobs : e.blobs = d.blobs) {src : Src} (hsafety : e.inSafety src = d.inSafety src)
    (k : Nat) (r : Rights) : e.rightsStatus src k r = d.rightsStatus src k r := by
  have hhead : e.isHead = d.isHead := by
    simp (disch := decide) only [Dev.isHead, h.obj]
  have hkeys : e.safetyKeyOpen src = d.safetyKeyOpen src := by
    simp only [Dev.safetyKeyOpen, hsafety, h.state, Dev.blob_congr d e hblobs]
  simp only [Dev.rightsStatus, h.state, hsafety, hkeys, hhead]

theorem Dev.Admits.alike {d e : Dev} {src : Src} {k v : Nat} {r : ObjRow} (h : d.Admits src k v r) (ha : d.Alike e) (hblobs : e.blobs = d.blobs)
    (hsafety : e.inSafety src = d.inSafety src) : e.Admits src k v r where
  row := h.row
  plain := h.plain
  width := h.width
  rights := (ha.rightsStatus hblobs hsafety k r.rights).trans h.rights
  range := h.range
  noMode := h.noMode
  noLatch := by
    rw [ha.state]
    exact h.noLatch
  noSafety := h.noSafety
  noRequest := by
    rw [ha.ctl]
    exact h.noRequest

/-- Of a session, an accepted datagram leaves all but its SEQUENCE and its last instant. -/
theorem inSafety_udpTake {s : State} {g : List Byte} {i : Nat} (hopen : (s.dev.session i).isOpen = true) (src : Src) :
    ((s.dev.fresh.passed g).udpTake i g).inSafety src = s.dev.fresh.inSafety src := by
  cases src with
  | host => simp only [Dev.inSafety]
  | session j =>
    by_cases hj : i = j
    · subst hj
      have hsession := udpTake_session (g := g) hopen
      simp only [Dev.inSafety]
      rw [hsession]
      rfl
    · simp only [Dev.inSafety, Dev.udpTake, session_updSession_ne _ _ hj, passed_session]

/-- The body of a request that writes one object (R87). -/
def writeBody (tag : Byte) (index : BitVec 16) (sub : Byte) (data : List Byte) : List Byte :=
  [0x02, tag] ++ beBytes 2 index.toNat ++ [sub, 0] ++ beBytes 2 data.length ++ data

section
variable (tag : Byte) (index : BitVec 16) (sub : Byte) {data : List Byte}

theorem writeBody_op : fieldAt (writeBody tag index sub data) 0 1 = 2 := by
  simp [fieldAt, slice, writeBody, ofBe]

theorem writeBody_index : fieldAt (writeBody tag index sub data) 2 2 = index.toNat := by
  have hslice : slice (writeBody tag index sub data) 2 2 = beBytes 2 index.toNat := by simp [slice, writeBody, beBytes]
  rw [fieldAt, hslice, ofBe_beBytes]
  exact Nat.mod_eq_of_lt index.isLt

theorem writeBody_sub : fieldAt (writeBody tag index sub data) 4 1 = sub.toNat := by
  simp [fieldAt, slice, writeBody, ofBe, beBytes]

theorem writeBody_data : (writeBody tag index sub data).drop 8 = data := by
  simp [writeBody, beBytes]

theorem writeBody_length : (writeBody tag index sub data).length = 8 + data.length := by
  simp only [writeBody, List.length_append, List.length_cons, List.length_nil, beBytes_length]

theorem writeBody_dataLength (h : data.length < 65536) : fieldAt (writeBody tag index sub data) 6 2 = data.length := by
  have hslice : slice (writeBody tag index sub data) 6 2 = beBytes 2 data.length := by simp [slice, writeBody, beBytes]
  rw [fieldAt, hslice, ofBe_beBytes]
  exact Nat.mod_eq_of_lt h

/-- Its one operation is the offer of the write to the engine; nothing of the body is left. -/
theorem udpOps_write (s : Fin 8) (n : Nat) (d : Dev) (h : data.length < 65536) : ∃ out,
    udpOps s (n + 2) (writeBody tag index sub data) ([], d) = (out, (d.offer (.session s) (objKey index.toNat sub.toNat) data).2) := by
  have hlen := writeBody_dataLength tag index sub h
  have hsize := writeBody_length tag index sub (data := data)
  have hrest : (writeBody tag index sub data).drop (8 + data.length) = [] := List.drop_eq_nil_of_le (by omega)
  refine ⟨[] ++ opResponse 2 (fieldAt (writeBody tag index sub data) 1 1) (written (d.offer (.session s) (objKey index.toNat sub.toNat) data)).1, ?_⟩
  rw [udpOps]
  simp only [hlen, hsize, Nat.lt_irrefl, if_false, writeBody_op, writeBody_index, writeBody_sub, writeBody_data, List.take_length, hrest]
  rw [udpOps, if_pos (by simp)]
  rfl

end

/-! ## ARP (R85) -/

theorem arp_unowned {d : Dev} {p target ip mac : Nat} (h : d.ownsIp target = false) : d.arpRequest p target ip mac = d := by
  simp [Dev.arpRequest, h]

/-- The answer to an ARP request on its way out. -/
def arpQueued (target ip mac : Nat) : EthQueued :=
  { cls := 2, payload := .arp mac ip target, ingress := none, channel := 3, buffers := buffersOf 64 }

/-- On an idle port the answer starts at once. -/
theorem arp_answered {d : Dev} {p target ip mac : Nat} (hruns : d.ethRuns = true) (hlink : d.obj (Obj.LINK p) ≠ 0) (howns : d.ownsIp target = true)
    (hfits : d.poolFits 3 1 = true) (hidle : (d.ethPort p).busy = false) :
    d.arpRequest p target ip mac = (d.poolSet 3 (d.obj (Obj.POOL_IN_USE 3) + buffersOf 64)).ethStart p (arpQueued target ip mac) (.arp mac ip target) := by
  obtain ⟨m, hm⟩ := poolSet_shape d 3 (d.obj (Obj.POOL_IN_USE 3) + buffersOf 64)
  have hport : ((d.poolSet 3 (d.obj (Obj.POOL_IN_USE 3) + buffersOf 64)).ethPort p).busy = false := by
    rw [hm]
    exact hidle
  have htake : d.poolTake 3 64 = some (d.poolSet 3 (d.obj (Obj.POOL_IN_USE 3) + buffersOf 64)) := poolTake_some hfits
  simp only [Dev.arpRequest, hruns, hlink, howns, Bool.not_true, decide_false, Bool.or_false, Bool.false_eq_true, if_false, htake, Dev.ethOffer,
    hport, Dev.ethSend, Dev.asItLeaves, arpQueued]

theorem reported_ethStart (d : Dev) (p : Nat) (q : EthQueued) (payload : EthPayload) : Reported d (d.ethStart p q payload) :=
  (reported_eth d _).trans (reported_emit _ _)

theorem ethStart_emits (d : Dev) (p : Nat) (q : EthQueued) (payload : EthPayload) :
    Emit.eth p (d.frameOf p payload) true ∈ (d.ethStart p q payload).emitted :=
  List.mem_append_right _ (List.mem_singleton_self _)

/-- An ARP frame rests on the port's own address alone. -/
theorem frameOf_arp {d e : Dev} (p : Fin 2) (h : Reported d e) (mac ip target : Nat) :
    e.frameOf p (.arp mac ip target) = d.frameOf p (.arp mac ip target) := by
  have hmac : e.obj (Obj.MAC_ADDRESS p) = d.obj (Obj.MAC_ADDRESS p) := h.obj _ (by revert p; decide)
  simp only [Dev.frameOf, hmac]

end Sys2Proof.Machine
end

section
/-! SUPPORT. Tally over UDP keeps its sessions: what each of its commands shows (R64, R85 to R90, R93). -/

set_option Elab.async false

namespace Sys2Proof.Machine

/-! ## What each command shows -/

/-- A datagram without buffers: it is dropped and reported. -/
theorem poolDrop_settle (s : State) :
    let e := (s.dev.fresh.poolDrop 3).settle
    s.Only { s with dev := e } [] ∧ e.acc.openFails = s.dev.acc.openFails ∧ e.latched 0x3D = true := by
  have hreport := (reported_poolDrop3 s.dev.fresh).trans (reported_settle _)
  exact ⟨(hreport.alters []).only, hreport.openFails, settle_latches_drop (List.append_ne_nil_of_right_ne_nil _ (List.cons_ne_nil _ _))⟩

section
variable {s : State} {p : Peer} {g : List Byte} {slot : Nat}

/-- A good OPEN without a free slot: no session differs. -/
theorem openGood_none_settle (key nc : List Byte) (h : s.dev.freeSlot (decide (16 ≤ slot)) = none) :
    let e := ((s.dev.fresh.passed g).openGood p slot key nc).settle
    s.Only { s with dev := e } [] ∧ ∀ j, (e.session j).isOpen = (s.dev.session j).isOpen := by
  have hfree := (passed_freeSlot s.dev.fresh g _).trans h
  rw [openGood_none key nc hfree]
  have hdrawn := ((reported_passed s.dev.fresh g).alters []).trans (draw_alters 88 [])
  have hreport := (reported_openAck (d := ((s.dev.fresh.passed g).draw 88).2) (p := p) key
    (beBytes 16 ((s.dev.fresh.passed g).draw 88).1) 0).trans (reported_settle _)
  refine ⟨(hdrawn.report hreport).only, fun j => (hreport.session_isOpen j).trans ?_⟩
  rw [draw_session, passed_session]
  rfl

/-- A good OPEN with a free slot: the slot shows the session, and no other session differs. -/
theorem openGood_some_settle {i : Nat} (key nc : List Byte) (h : s.dev.freeSlot (decide (16 ≤ slot)) = some i) (hi : i < s.dev.acc.sessions.length) :
    let e := ((s.dev.fresh.passed g).openGood p slot key nc).settle
    e.obj (Obj.SESSION_STATE i) = (if 16 ≤ slot then 2 else 1) ∧ e.obj (Obj.SESSION_PEER i) = p.ip.toNat * 65536 + p.udp.toNat ∧
      (∀ j < 8, e.obj (Obj.SESSION_EVENT_MASK i j) = 0) ∧ (e.session i).isOpen = true ∧ (e.session i).safety = decide (16 ≤ slot) ∧
      (e.session i).seqRx = 0 ∧ ∀ j, j ≠ i → (e.session j).isOpen = (s.dev.session j).isOpen := by
  have hslot := freeSlot_lt h
  obtain ⟨ks, hopen⟩ := openGood_some (p := p) key nc ((passed_freeSlot s.dev.fresh g _).trans h)
  rw [hopen]
  generalize hd : ((s.dev.fresh.passed g).draw 88).2 = d
  have hacc : d.acc = s.dev.acc := by
    rw [← hd, draw_acc, passed_acc]
    rfl
  have hsession : (d.openSlot p (decide (16 ≤ slot)) ks i).session i = d.newSession p (decide (16 ≤ slot)) ks :=
    openSlot_session d p _ ks (by rw [hacc]; exact hi)
  have hreport := (reported_openAck (d := d.openSlot p (decide (16 ≤ slot)) ks i) (p := p) key
    (beBytes 16 ((s.dev.fresh.passed g).draw 88).1) (i + 1)).trans (reported_settle _)
  have hobj : ∀ k, k = Obj.SESSION_STATE i ∨ k = Obj.SESSION_PEER i ∨ (∃ j < 8, k = Obj.SESSION_EVENT_MASK i j) → _ :=
    fun k hk => hreport.obj k (eventKey_slot hslot hk)
  refine ⟨(hobj _ (.inl rfl)).trans ?_, (hobj _ (.inr (.inl rfl))).trans (openSlot_peer d p _ ks hslot),
    fun j hj => (hobj _ (.inr (.inr ⟨j, hj, rfl⟩))).trans (openSlot_mask d p _ ks hj),
    (hreport.session_isOpen i).trans (congrArg Session.isOpen hsession), (hreport.session_safety i).trans (congrArg Session.safety hsession),
    (hreport.session_seqRx i).trans (congrArg Session.seqRx hsession), fun j hj => (hreport.session_isOpen j).trans ?_⟩
  · rw [openSlot_state d p _ ks hslot]
    simp only [decide_eq_true_eq]
  · rw [openSlot_session_ne d p _ ks (Ne.symm hj), Dev.session, hacc]
    rfl

end

section
variable {s : State} {g : List Byte} {i : Nat}

/-- An accepted datagram without an operation: the session takes its SEQUENCE. -/
theorem udpTake_settle (hopen : (s.dev.session i).isOpen = true) :
    let e := ((s.dev.fresh.passed g).udpTake i g).settle
    s.Only { s with dev := e } [] ∧ e.tally = s.dev.tally ∧ (e.session i).seqRx = fieldAt g 6 4 := by
  have hreport := reported_settle ((s.dev.fresh.passed g).udpTake i g)
  have htally : ((s.dev.fresh.passed g).udpTake i g).tally = s.dev.fresh.tally := (alike_udpTake s.dev.fresh i g).tally
  exact ⟨((udpTake_alters []).report hreport).only, hreport.tally.trans htally,
    (hreport.session_seqRx i).trans (congrArg Session.seqRx (udpTake_session hopen))⟩

/-- A session ends with its last datagram. -/
theorem udpClose_settle (hopen : (s.dev.session i).isOpen = true) (hi : i < 8) :
    let e := (((s.dev.fresh.passed g).udpTake i g).endSession i).settle
    s.Sets { s with dev := e } [(Obj.SESSION_STATE i, 0)] ∧ (e.session i).isOpen = false ∧
      ((s.dev.session i).safety = true → e.tally.pendingBlock = none) := by
  have hreport := reported_settle (((s.dev.fresh.passed g).udpTake i g).endSession i)
  have halters := (udpTake_alters (s := s) (g := g) (i := i) [Obj.SESSION_STATE i]).trans
    (endSession_alters _ i (List.mem_singleton_self _))
  refine ⟨⟨List.forall_mem_singleton.mpr ?_, (halters.report hreport).only⟩,
    (hreport.session_isOpen i).trans (endSession_isOpen _ i), fun hsafety => ?_⟩
  · exact (hreport.obj _ (eventKey_slot hi (.inl rfl))).trans (endSession_obj _ i)
  · have hsafety' : (((s.dev.fresh.passed g).udpTake i g).session i).safety = true := by
      rw [udpTake_session hopen]
      exact hsafety
    exact (congrArg Tally.pendingBlock hreport.tally).trans (endSession_pendingBlock _ i hsafety')

/-- A request that writes an acceptable value: the write waits as that session's. -/
theorem udpWrite_lists {k v : Nat} {r : ObjRow} (hopen : (s.dev.session i).isOpen = true) (hsrc : Open s (.session (Fin.ofNat 8 i)))
    (hacc : Acceptable s k v r) :
    ((s.dev.fresh.passed g).udpTake i g).Lists (((s.dev.fresh.passed g).udpTake i g).offer (.session (Fin.ofNat 8 i)) k (beBytes r.ty.size v)).2
      (s.waiting (.session (Fin.ofNat 8 i)) k v) := by
  have halike := alike_udpTake s.dev.fresh i g
  have hblobs : ((s.dev.fresh.passed g).udpTake i g).blobs = s.dev.fresh.blobs := (udpTake_alters []).blobs
  have hadmits := (hacc.admits hsrc).fresh.alike halike hblobs (inSafety_udpTake hopen _)
  have howner : ((s.dev.fresh.passed g).udpTake i g).ownerStatus k v = 0 :=
    (halike.ownerStatus k v).trans ((owner_fresh _ _ _).trans hacc.owner)
  have hwrite : ((s.dev.fresh.passed g).udpTake i g).newWrite (.session (Fin.ofNat 8 i)) k v [] = s.waiting (.session (Fin.ofNat 8 i)) k v := by
    rw [Dev.newWrite, halike.tally, halike.now]
    rfl
  rw [hadmits.offer howner, ← hwrite]
  exact lists_prepared _ _ _ _

/-- The response goes out, and nothing else shows. -/
theorem udpWrite_settle {e : Dev} {w : QueuedWrite} (hopen : (s.dev.session i).isOpen = true) (out : List Byte)
    (h : ((s.dev.fresh.passed g).udpTake i g).Lists e w) :
    let f := (e.sendSession i 2 out).settle
    s.Only { s with dev := f } [] ∧ (f.session i).seqRx = fieldAt g 6 4 ∧ f.tally.queue = s.dev.tally.queue ++ [w] := by
  obtain ⟨hengine, hqueue, -⟩ := h
  have hreport := (reported_sendSession e i 2 out).trans (reported_settle _)
  have hkept : e.session i = ((s.dev.fresh.passed g).udpTake i g).session i := by rw [Dev.session, hengine.acc, Dev.session]
  have htally := congrArg Tally.queue (alike_udpTake s.dev.fresh i g).tally
  refine ⟨(((udpTake_alters []).trans (hengine.alters [])).report hreport).only, ?_, (congrArg Tally.queue hreport.tally).trans (hqueue.trans ?_)⟩
  · exact (hreport.session_seqRx i).trans (congrArg Session.seqRx (hkept.trans (udpTake_session hopen)))
  · rw [htally]
    rfl

/-- No cause of SAFE-HOLD is found in it. -/
theorem udpWrite_cause {e : Dev} {w : QueuedWrite} (out : List Byte) (h : ((s.dev.fresh.passed g).udpTake i g).Lists e w) :
    (e.sendSession i 2 out).ctl.causeReq = none := by
  have hctl := ((reported_sendSession e i 2 out).ctl.trans h.ctl).trans (alike_udpTake s.dev.fresh i g).ctl
  exact congrArg DevCtl.causeReq hctl

end

/-- A datagram that is neither an OPEN nor a CLOSE is a request. -/
theorem requestKind {g : List Byte} (h : udpKind g ∉ [0x80, 0x82]) : (udpKind g != 0x80 && udpKind g != 0x82) = true := by
  simpa [not_or] using h

/-! ## The block of OPEN ends (R89) -/

theorem openBlockEnd_ends {d : Dev} (h : (d.acc.openBlocked && decide (d.acc.blockedAt + 10000000000 ≤ d.now)) = true) :
    d.openBlockEnd = { d with acc := { d.acc with openBlocked := false } } := if_pos h

theorem openBlockEnd_stays {d : Dev} (h : (d.acc.openBlocked && decide (d.acc.blockedAt + 10000000000 ≤ d.now)) = false) : d.openBlockEnd = d :=
  if_neg (Bool.eq_false_iff.mp h)

/-- The block lasts while its 10 s do. -/
theorem openBlockEnd_openBlocked (d : Dev) :
    d.openBlockEnd.acc.openBlocked = (d.acc.openBlocked && decide (d.now < d.acc.blockedAt + 10000000000)) := by
  cases h : d.acc.openBlocked && decide (d.acc.blockedAt + 10000000000 ≤ d.now)
  · rw [openBlockEnd_stays h]
    cases hblocked : d.acc.openBlocked
    · rfl
    · rw [hblocked, Bool.true_and, decide_eq_false_iff_not, Nat.not_le] at h
      simp [h]
  · rw [openBlockEnd_ends h]
    rw [Bool.and_eq_true, decide_eq_true_eq] at h
    simp [Nat.not_lt.mpr h.2]

theorem openBlockEnd_same (s : State) : s.Same { s with dev := s.dev.fresh.openBlockEnd.settle } := by
  cases h : s.dev.fresh.acc.openBlocked && decide (s.dev.fresh.acc.blockedAt + 10000000000 ≤ s.dev.fresh.now)
  · rw [openBlockEnd_stays h]
    exact same_of_dict (e := s.dev.fresh) rfl rfl rfl
  · rw [openBlockEnd_ends h]
    exact same_of_dict rfl rfl rfl

/-! ## The answer to an ARP request (R85) -/

theorem arp_settle (s : State) (p : Fin 2) (n target ip mac : Nat) :
    let e := ((s.dev.fresh.poolSet 3 n).ethStart p (arpQueued target ip mac) (.arp mac ip target)).settle
    s.Only { s with dev := e } [] ∧ Emit.eth p (s.dev.frameOf p (.arp mac ip target)) true ∈ e.emitted := by
  have hpool := reported_poolSet3 s.dev.fresh n
  have hreport := (hpool.trans (reported_ethStart _ p (arpQueued target ip mac) (.arp mac ip target))).trans (reported_settle _)
  have hframe : (s.dev.fresh.poolSet 3 n).frameOf p (.arp mac ip target) = s.dev.frameOf p (.arp mac ip target) := frameOf_arp p hpool mac ip target
  refine ⟨(hreport.alters []).only, (reported_settle _).emitted.subset ?_⟩
  rw [← hframe]
  exact ethStart_emits _ _ _ _

/-! ## The obligation -/

/-- Settles O46: each clause is one outcome of the datagram's way in, and what it shows beside is its own slot. -/
theorem tallyOverUdpKeepsItsSessions : Obligations.TallyOverUdpKeepsItsSessions := by
  unfold Obligations.TallyOverUdpKeepsItsSessions
  refine ⟨fun s p g slot key hkind hservice => ⟨fun hblocked => ?blocked, fun hfree hlen hfull => ?full, fun hfree hfits hslot =>
      ⟨fun hkey hgood i hi hlen => ?opens, fun hkey hgood hnone => ?noSlot, fun hlen hbad => ?failed⟩⟩,
    fun s p g hservice hlen hfits hkind => ⟨fun hvalid => ?invalid, fun i hvalid hother => ?other,
      fun i index sub tag v r hvalid hop hbody hsrc hacc => ?write⟩,
    fun s p g hservice hlen hfits hkind => ⟨fun hvalid => ?closeInvalid, fun i hvalid => ?close⟩,
    fun s i => ⟨fun hsilent => ?lost, fun hkept => ?kept⟩, fun s => ?blockEnd,
    fun s p target ip mac hruns hlink => ⟨fun howns => ?unowned, fun howns hfits hidle => ?arp⟩⟩
  case blocked =>
    refine answers_onDev (fun d => d.udpOpen p g) (guardForm_true _ (by simp [hkind])) ?_
    rw [udpOpen_blocked (d := s.dev.fresh) hblocked, fresh_settle]
    exact ⟨same_of_dict (e := s.dev.fresh) rfl rfl rfl, rfl⟩
  case full =>
    refine answers_onDev (fun d => d.udpOpen p g) (guardForm_true _ (by simp [hkind])) ?_
    rw [udpOpen_full (d := s.dev.fresh) hservice hfree hlen hfull]
    exact poolDrop_settle s
  case opens =>
    have htakes : s.dev.fresh.TakesIn p g := ⟨hservice, openIsGood_length hgood, hfits⟩
    subst hslot
    refine answers_onDev (fun d => d.udpOpen p g) (guardForm_true _ (by simp [hkind])) ?_
    rw [udpOpen_good htakes hfree hkey hgood]
    exact openGood_some_settle key _ hi hlen
  case noSlot =>
    have htakes : s.dev.fresh.TakesIn p g := ⟨hservice, openIsGood_length hgood, hfits⟩
    subst hslot
    refine answers_onDev (fun d => d.udpOpen p g) (guardForm_true _ (by simp [hkind])) ?_
    rw [udpOpen_good htakes hfree hkey hgood]
    exact openGood_none_settle key _ hnone
  case failed =>
    have htakes : s.dev.fresh.TakesIn p g := ⟨hservice, hlen, hfits⟩
    subst hslot
    refine answers_onDev (fun d => d.udpOpen p g) (guardForm_true _ (by simp [hkind])) ?_
    rw [udpOpen_bad htakes hfree hbad]
    exact openFailed_settle s p g
  case invalid =>
    refine answers_onDevH (fun d => d.udpRequest p g) (guardForm_true _ (requestKind hkind)) ?_
    obtain ⟨honly, hlatch, htally⟩ := authFail_settle s p g
    have hcause := congrArg DevCtl.causeReq ((reported_passed s.dev.fresh g).trans (reported_raise _ 4 p.ip.toNat (by decide))).ctl
    rw [udpRequest_invalid (d := s.dev.fresh) ⟨hservice, hlen, hfits⟩ hvalid, Dev.authFail, holdDecide_none _ hcause]
    exact ⟨honly, hlatch, htally⟩
  case other =>
    obtain ⟨hopen, -⟩ := udpValid_some hvalid
    refine answers_onDevH (fun d => d.udpRequest p g) (guardForm_true _ (requestKind hkind)) ?_
    rw [udpRequest_other (d := s.dev.fresh) ⟨hservice, hlen, hfits⟩ hvalid hother,
      holdDecide_none _ (congrArg DevCtl.causeReq (alike_udpTake s.dev.fresh i g).ctl)]
    exact udpTake_settle hopen
  case write =>
    obtain ⟨hopen, -⟩ := udpValid_some hvalid
    have hsize := size_of_plain (ty := r.ty) v
    have hbody' : (g.drop 12).take (fieldAt g 10 2) = writeBody tag index sub (beBytes r.ty.size v) := by
      rw [hbody, writeBody, beBytes_length]
    obtain ⟨out, hops⟩ := udpOps_write tag index sub (Fin.ofNat 8 i) 182 ((s.dev.fresh.passed g).udpTake i g) hsize
    rw [← hbody'] at hops
    refine answers_onDevH (fun d => d.udpRequest p g) (guardForm_true _ (requestKind hkind)) ?_
    have hlists := udpWrite_lists (g := g) hopen hsrc hacc
    rw [udpRequest_ops (d := s.dev.fresh) ⟨hservice, hlen, hfits⟩ hvalid hop hops, holdDecide_none _ (udpWrite_cause out hlists)]
    exact udpWrite_settle hopen out hlists
  case closeInvalid =>
    refine answers_onDev (fun d => d.udpClose p g) (guardForm_true _ (by simp [hkind])) ?_
    rw [udpClose_invalid (d := s.dev.fresh) ⟨hservice, hlen, hfits⟩ hvalid]
    obtain ⟨honly, hlatch, -⟩ := authFail_settle s p g
    exact ⟨honly, hlatch⟩
  case close =>
    obtain ⟨hopen, hi⟩ := udpValid_some hvalid
    refine answers_onDev (fun d => d.udpClose p g) (guardForm_true _ (by simp [hkind])) ?_
    rw [udpClose_valid (d := s.dev.fresh) ⟨hservice, hlen, hfits⟩ hvalid]
    exact udpClose_settle hopen hi
  case lost =>
    refine answers_onDev (fun d => d.sessionTimeout i) rfl ?_
    have hlost : s.dev.fresh.sessionTimeout i = s.dev.fresh.endSession i := if_pos hsilent
    rw [hlost, settle_none _ (endSession_drops s.dev.fresh i)]
    refine ⟨⟨List.forall_mem_singleton.mpr (endSession_obj _ i), fun k hk => endSession_obj_ne s.dev.fresh i (hk _ (List.mem_singleton_self _)),
      ?_, rfl, rfl⟩,
      endSession_isOpen _ i, fun hsafety => ⟨endSession_pendingBlock _ i hsafety, endSession_timed _ i hsafety⟩⟩
    exact fun j => Dev.blob_congr s.dev.fresh _ (endSession_blobs s.dev.fresh i) j
  case kept =>
    refine answers_onDev (fun d => d.sessionTimeout i) rfl ?_
    have hkept' : s.dev.fresh.sessionTimeout i = s.dev.fresh := if_neg (Bool.eq_false_iff.mp hkept)
    rw [hkept', fresh_settle]
    exact ⟨same_of_dict (e := s.dev.fresh) rfl rfl rfl, rfl⟩
  case blockEnd =>
    refine answers_onDev Dev.openBlockEnd rfl ?_
    exact ⟨openBlockEnd_same s, (reported_settle _).openBlocked.trans (openBlockEnd_openBlocked s.dev.fresh)⟩
  case unowned =>
    refine answers_onDev (fun d => d.arpRequest p target.toNat ip.toNat mac.toNat) rfl ?_
    rw [arp_unowned (d := s.dev.fresh) howns, fresh_settle]
    exact ⟨same_of_dict (e := s.dev.fresh) rfl rfl rfl, rfl⟩
  case arp =>
    refine answers_onDev (fun d => d.arpRequest p target.toNat ip.toNat mac.toNat) rfl ?_
    rw [arp_answered (d := s.dev.fresh) hruns hlink howns hfits hidle]
    exact arp_settle s p _ _ _ _

end Sys2Proof.Machine
end

section
/-! SUPPORT. The synthesisers' own operations: what a search and a relock show, and what they leave alone (R112, R113, R117, R122, R123, R129). -/

set_option Elab.async false

namespace Sys2Proof.Machine

/-! ## Small facts -/

theorem sgn_toNat (w : Nat) (b : BitVec w) : sgn w b.toNat = b.toInt := by
  have hlt := b.isLt
  simp only [sgn, Nat.mod_eq_of_lt hlt, BitVec.toInt_eq_toNat_cond]
  norm_cast

variable (d : Dev)

@[simp] theorem reqCause_obj (cause fold k : Nat) : (d.reqCause cause fold).obj k = d.obj k := by
  unfold Dev.reqCause
  split <;> rfl

@[simp] theorem reqCause_tb (cause fold : Nat) : (d.reqCause cause fold).tb = d.tb := by
  unfold Dev.reqCause
  split <;> rfl

@[simp] theorem reqCause_latched (cause fold src : Nat) : (d.reqCause cause fold).latched src = d.latched src :=
  congrArg (fun v => bit v (src % 32)) (reqCause_obj d cause fold (Obj.EVENT_LATCH (src / 32)))

theorem reqCause_first (cause fold : Nat) (h : d.ctl.causeReq = none) : (d.reqCause cause fold).ctl.causeReq = some (cause, fold) := by
  simp [Dev.reqCause, h]

/-- No latch of an event falls. -/
def Dev.Remembers (d e : Dev) : Prop := ∀ src < 256, d.latched src = true → e.latched src = true

variable {d} in
theorem Dev.Remembers.trans {e f : Dev} (h : d.Remembers e) (g : e.Remembers f) : d.Remembers f := fun src hs hl => g src hs (h src hs hl)

variable {d} in
theorem Reported.remembers {e : Dev} (h : Reported d e) : d.Remembers e := h.latch

theorem remembers_of_obj {e : Dev} (h : ∀ k, k / 256 = 0x611 → e.obj k = d.obj k) : d.Remembers e := fun src hs hl => by
  have hkey : e.obj (Obj.EVENT_LATCH (src / 32)) = d.obj (Obj.EVENT_LATCH (src / 32)) := h _ (by simp only [Obj.EVENT_LATCH]; omega)
  rw [Dev.latched, hkey]
  exact hl

/-! ## Searches (R112, R113) -/

theorem searchT_obj (k : Nat) : d.searchT.obj k =
    if Obj.PLLT_BAND = k then startBand 0 d.tb.pllT else if Obj.PLLT_STATE = k then (if d.obj Obj.REF_ACTIVE = 0xFF then 5 else 1) else d.obj k := by
  change ((d.setObj Obj.PLLT_STATE _).setObj Obj.PLLT_BAND _).obj k = _
  rw [Dev.obj_setObj, Dev.obj_setObj]
  simp

theorem searchS_obj (k : Nat) : d.searchS.obj k =
    if Obj.PLLS_BAND = k then startBand 1 d.tb.pllS else if Obj.PLLS_STATE = k then (if d.obj Obj.REF_ACTIVE = 0xFF then 5 else 1) else d.obj k := by
  change ((d.setObj Obj.PLLS_STATE _).setObj Obj.PLLS_BAND _).obj k = _
  rw [Dev.obj_setObj, Dev.obj_setObj]
  simp

/-! ## A relock of PLL-T (R122, R123) -/

/-- PLL-T searching toward a target with its consumers on the backup path, before any report. -/
def Dev.relocked (target : Int) : Dev :=
  let d := d.searchT.updT (fun p => { p with target := target })
  ({ d with tb := { d.tb with comp := compOf target } } : Dev).setObjB Obj.BACKUP_ACTIVE true

theorem relocked_obj (target : Int) (k : Nat) : (d.relocked target).obj k = if Obj.BACKUP_ACTIVE = k then 1 else d.searchT.obj k :=
  Dev.obj_setObjB _ _ _ _

/-- A relock is reported, and without a backup path it finds a SAFE-HOLD cause (R37, R122). -/
theorem relockT_reports (cause : Nat) (target : Int) : ∃ e, Reported (d.relocked target) e ∧ e.latched 0x11 = true ∧
    d.relockT cause target = if d.backupAvailable then e else e.reqCause 3 0 := by
  have hraise : Reported (d.relocked target) ((d.relocked target).raise 0x11 cause) := reported_raise _ _ _ (by decide)
  have hlatch : ((d.relocked target).raise 0x11 cause).latched 0x11 = true := latched_raise _ _ _ (by decide)
  have hbackup : ∀ e, Reported (d.relocked target) e → e.backupAvailable = d.backupAvailable := fun e h => by
    rw [Dev.backupAvailable, h.obj _ (by decide), relocked_obj, searchT_obj]
    rfl
  unfold Dev.relockT
  extract_lets was searched tb compensated switched told
  have htold : Reported (d.relocked target) told ∧ told.latched 0x11 = true := by
    unfold told
    split
    · exact ⟨hraise, hlatch⟩
    · have hnext := reported_raise switched 0x17 cause (by decide)
      exact ⟨hraise.trans hnext, hnext.latch _ (by decide) hlatch⟩
  exact ⟨told, htold.1, htold.2, by rw [hbackup told htold.1]⟩

section
variable (cause : Nat) (target : Int)

theorem relockT_obj (k : Nat) (hk : eventKey k = false) : (d.relockT cause target).obj k = if Obj.BACKUP_ACTIVE = k then 1 else d.searchT.obj k := by
  obtain ⟨e, hreport, -, heq⟩ := relockT_reports d cause target
  rw [heq, apply_ite (fun x : Dev => x.obj k), reqCause_obj, ite_self, hreport.obj k hk, relocked_obj]

theorem relockT_tb : (d.relockT cause target).tb = (d.relocked target).tb := by
  obtain ⟨e, hreport, -, heq⟩ := relockT_reports d cause target
  rw [heq, apply_ite Dev.tb, reqCause_tb, ite_self, hreport.tb]

theorem relockT_latched : (d.relockT cause target).latched 0x11 = true := by
  obtain ⟨e, -, hlatch, heq⟩ := relockT_reports d cause target
  rw [heq, apply_ite (fun x : Dev => x.latched 0x11), reqCause_latched, ite_self, hlatch]

/-- A relock finds the loss of the time base where no backup path serves, and no other cause (R37). -/
theorem relockT_causeReq (h : d.ctl.causeReq = none) :
    (d.relockT cause target).ctl.causeReq = if d.backupAvailable then none else some (3, 0) := by
  obtain ⟨e, hreport, -, heq⟩ := relockT_reports d cause target
  have hnone : e.ctl.causeReq = none := (congrArg DevCtl.causeReq hreport.ctl).trans h
  rw [heq]
  split
  · exact hnone
  · exact reqCause_first e 3 0 hnone

theorem relockT_keeps : d.KeepsBut (d.relockT cause target) [Obj.PLLT_STATE, Obj.PLLT_BAND, Obj.BACKUP_ACTIVE] := fun k hk he => by
  simp only [List.mem_cons, List.not_mem_nil, or_false, not_or] at hk
  obtain ⟨hstate, hband, hbackup⟩ := hk
  rw [relockT_obj d cause target k he, searchT_obj, if_neg (Ne.symm hbackup), if_neg (Ne.symm hband), if_neg (Ne.symm hstate)]

/-- On an active input the relock searches (R113, R127). -/
theorem relockT_searches (h : d.obj Obj.REF_ACTIVE ≠ 0xFF) :
    (d.relockT cause target).obj Obj.PLLT_STATE = 1 ∧ (d.relockT cause target).obj Obj.BACKUP_ACTIVE = 1 := by
  rw [relockT_obj _ _ _ _ (by decide), relockT_obj _ _ _ _ (by decide), searchT_obj, if_neg (by decide), if_neg (by decide), if_pos rfl, if_pos rfl,
    if_neg h]
  exact ⟨rfl, rfl⟩

end

end Sys2Proof.Machine
end

section
/-! SUPPORT. The five writes of the time base: accepted under their conditions, and what each does as it takes effect (R111, R117, R118, R120 to
R122, R128, R129, R132). -/

set_option Elab.async false

namespace Sys2Proof.Machine

/-! ## The owner's conditions (R118, R121, R122) -/

section
variable (d : Dev)

theorem ownerStatus_time (k v : Nat) (hlo : 0x20000 ≤ k) (hhi : k < 0x30000) : d.ownerStatus k v = d.timeWrite d.effectAt k v := by
  have hindex : 0x200 ≤ k / 256 ∧ k / 256 < 0x300 := by omega
  unfold Dev.ownerStatus Dev.ownerStatusAt
  dsimp only
  rw [if_neg (by omega), if_neg (by omega), if_neg (by omega), if_pos hindex]

theorem ownerStatus_PLLT_STEP (ppb : BitVec 32) (hrange : d.stepInRange (d.comingSteps d.effectAt + ppb.toInt) = true)
    (hslave : d.slaveRuns = false) (hrelock : d.relockingT = false) : d.ownerStatus Obj.PLLT_STEP ppb.toNat = 0 := by
  rw [ownerStatus_time d _ _ (by decide) (by decide)]
  simp [Dev.timeWrite, sgn_toNat, hrange, hslave, hrelock]

theorem ownerStatus_PLLT_RELOCK (h : d.state = stConfig ∨ d.state = stService) : d.ownerStatus Obj.PLLT_RELOCK 1 = 0 := by
  rw [ownerStatus_time d _ _ (by decide) (by decide)]
  simp [Dev.timeWrite, h]

theorem ownerStatus_COUNTER_SLEW (v : Nat) (h : d.slaveRuns = false) : d.ownerStatus Obj.COUNTER_SLEW v = 0 := by
  rw [ownerStatus_time d _ _ (by decide) (by decide)]
  simp [Dev.timeWrite, h]

theorem ownerStatus_PLLT_PRESCALE (v : Nat) : d.ownerStatus Obj.PLLT_PRESCALE v = 0 := ownerStatus_time d _ _ (by decide) (by decide)

theorem ownerStatus_TIME_SET (v : Nat) : d.ownerStatus Obj.TIME_SET v = 0 := ownerStatus_time d _ _ (by decide) (by decide)

end

/-- A write of the time base whose value its row takes and whose owner has no objection waits (R65). -/
theorem timeWrite_queued {s : State} {src : Src} {k v : Nat} {r : ObjRow} (h : Open s src) (hlo : 0x20000 ≤ k) (hhi : k < 0x30000)
    (hr : rowOf k = some r) (hp : r.ty.plain = true) (hv : v < 256 ^ r.ty.size) (hrights : s.dev.rightsStatus src k r.rights = 0)
    (hc : r.chk.ok r.ty v = true) (ho : s.dev.ownerStatus k v = 0) (hrws : r.rights ≠ .rws) :
    ∃ t, s.command src k v = .next t ∧ s.Queued t src k v :=
  command_queued s src k v r h.reach hr hp hv hrights hc ho (by rintro rfl; revert hhi; decide) (by omega) hrws
    (by rintro ⟨rfl, -⟩; revert hlo; decide)

/-! ## Taking effect -/

section
variable {d : Dev} {m : Mem}

theorem timeEffect_owner (x : DM) (k v : Nat) (hlo : 0x20000 ≤ k) (hhi : k < 0x40000) : ownerEffect x true k v [] = (x.1.timeEffect k v, x.2) := by
  have hindex : 0x200 ≤ k / 256 ∧ k / 256 < 0x400 := by omega
  unfold ownerEffect
  dsimp only
  rw [if_neg (by omega), if_neg (by omega), if_neg (by omega), if_pos hindex]

/-- A command of the time base that leaves no value takes effect as its chapter says. -/
theorem after_timeCommand (k v : Nat) (hlo : 0x20000 ≤ k) (hhi : k < 0x30000) (hrws : isRws k = false) (hcopied : isCopied k = false)
    (hleaves : leavesValue k = false) (hbound : isBound k = false) : (d.after m k v).1 = d.timeEffect k v := by
  rw [after_owner d m k v hrws hcopied hleaves hbound, timeEffect_owner _ _ _ hlo (by omega)]

/-- The same for an object that holds the value. -/
theorem after_timeValue (k v : Nat) (hlo : 0x20000 ≤ k) (hhi : k < 0x30000) (hrws : isRws k = false) (hcopied : isCopied k = false)
    (hleaves : leavesValue k = true) (hdomain : isDomain k = false) (hbound : isBound k = false) : (d.after m k v).1 = (d.setObj k v).timeEffect k v := by
  obtain ⟨r, hr⟩ : ∃ r, rowOf k = some r := by
    cases h : rowOf k with
    | none => simp [leavesValue, h] at hleaves
    | some r => exact ⟨r, rfl⟩
  have hty : r.ty.isDomain = false := (isDomain_of_row k r hr).symm.trans hdomain
  simp [Dev.after, takeWrite, hrws, Dev.stillBound, hbound, Dev.copyWrite, hcopied, applyObject, Dev.leaveValue, hleaves, hr, hty,
    timeEffect_owner _ _ _ hlo (show k < 0x40000 by omega)]

/-! ## Both synthesisers serve -/

/-- While PLL-S serves and the SerDes run, no link falls (R129). -/
theorem serdesFall_served (hbackup : d.backupAvailable = true) (hstopped : d.tb.serdesStopped = false) (hpower : getAt false d.ctl.supplies 1 = true) :
    d.serdesFall = d := by
  simp [Dev.serdesFall, hbackup, hstopped, hpower]

theorem relockT_backup (cause : Nat) (target : Int) : (d.relockT cause target).backupAvailable = d.backupAvailable := by
  rw [Dev.backupAvailable, relockT_obj _ _ _ _ (by decide), searchT_obj]
  rfl

theorem not_relocking (h : d.servesT = true) : d.relockingT = false := by
  simp only [Dev.servesT, Bool.or_eq_true, beq_iff_eq] at h
  rcases h with h | h <;> simp [Dev.relockingT, h]

/-- The block with these small steps waiting. -/
def Dev.queueSteps (d : Dev) (l : List Int) : Dev := { d with tb := { d.tb with stepQ := l } }

theorem relockBy_eq (change : Int) : d.relockBy change = (d.queueSteps []).relockT 3 (d.goalT + d.tb.stepSum + change) := rfl

/-- A step alone in the queue is applied when its moment has come and its target and drift allow it (R117, R118). -/
theorem pumpStep_alone (ppb : Int) (hready : d.stepReady = true) (hnear : absI (d.offsetT + ppb) ≤ 500000)
    (hdrift : absI (d.objI 32 Obj.PLLT_DRIFT + ppb) ≤ 200000) : (d.queueSteps [ppb]).pumpStep = (d.queueSteps []).smallStep ppb := by
  have hready' : (d.queueSteps [ppb]).stepReady = true := hready
  have hin : ¬ 500000 < absI ((d.queueSteps [ppb]).offsetT + ppb) := not_lt.mpr hnear
  have hdrift' : absI ((d.queueSteps []).objI 32 Obj.PLLT_DRIFT + ppb) ≤ 200000 := hdrift
  unfold Dev.pumpStep
  simp only [Dev.queueSteps] at *
  simp [hready', hin, hdrift']

theorem smallStep_obj (ppb : Int) (k : Nat) : (d.smallStep ppb).obj k = if Obj.PLLT_OFFSET = k then raw 32 (d.offsetT + ppb)
    else if Obj.PLLT_DRIFT = k then raw 32 (d.objI 32 Obj.PLLT_DRIFT + ppb) else d.obj k := by
  have hoffset : ∀ v, (d.setObjI 32 Obj.PLLT_DRIFT v).offsetT = d.offsetT := fun v => congrArg (sgn 32) (Dev.obj_setObj_ne d _ _ _ (by decide))
  change ((d.setObjI 32 Obj.PLLT_DRIFT (d.objI 32 Obj.PLLT_DRIFT + ppb)).setObjI 32 Obj.PLLT_OFFSET
    ((d.setObjI 32 Obj.PLLT_DRIFT (d.objI 32 Obj.PLLT_DRIFT + ppb)).offsetT + ppb)).obj k = _
  rw [hoffset, Dev.obj_setObjI, Dev.obj_setObjI]

section
variable (h : Clocked d)
include h

theorem Clocked.goal : d.goalT = d.offsetT := by
  simp [Dev.goalT, not_relocking h.serves]

theorem Clocked.settled : d.serdesFall = d := serdesFall_served h.backup h.serdes.1 h.serdes.2

theorem Clocked.inRange (ppb : Int) : d.stepInRange ppb = decide (absI (d.offsetT + ppb) ≤ 500000) := by
  obtain ⟨hq, hrelock, -⟩ := h.steps
  simp [Dev.stepInRange, Dev.queuedSteps, TimeBase.stepSum, hq, hrelock, h.goal]

/-- No step waits, so emptying the queue of steps changes nothing. -/
theorem Clocked.emptied : d.queueSteps [] = d := by
  rw [Dev.queueSteps, ← h.steps.1]

/-- A relock requested starts at once, from the present offset (R122). -/
theorem Clocked.requested (change : Int) : (d.requestRelockT change).serdesFall = d.relockT 3 (d.offsetT + change) := by
  have hat_once : d.requestRelockT change = d.relockT 3 (d.offsetT + change) := by
    simp [Dev.requestRelockT, Dev.waitsForS, h.backup, h.goal, TimeBase.stepSum, h.steps.1, relockBy_eq, h.emptied]
  obtain ⟨e, hreport, -, heq⟩ := relockT_reports d 3 (d.offsetT + change)
  rw [hat_once]
  refine serdesFall_served ((relockT_backup 3 _).trans h.backup) (by rw [relockT_tb]; exact h.serdes.1) ?_
  rw [heq, h.backup, if_pos rfl, hreport.ctl]
  exact h.serdes.2

/-- A step that would leave ±500 ppm is refused and reported (R118). -/
theorem Clocked.step_refused (ppb : Int) (hfar : 500000 < absI (d.offsetT + ppb)) : (d.pllStep ppb).serdesFall = d.refuseStep := by
  have hout : d.stepInRange ppb = false := by
    rw [h.inRange]
    exact decide_eq_false (not_le.mpr hfar)
  have hreport : Reported d d.refuseStep := reported_raise d 8 _ (by decide)
  rw [Dev.pllStep, hout, Bool.not_false, if_pos rfl]
  refine serdesFall_served ?_ (by rw [hreport.tb]; exact h.serdes.1) (by rw [hreport.ctl]; exact h.serdes.2)
  rw [Dev.backupAvailable, hreport.obj _ (by decide)]
  exact h.backup

/-- A small step is applied at once (R117). -/
theorem Clocked.step_small (ppb : Int) (hnear : absI (d.offsetT + ppb) ≤ 500000) (hsmall : absI ppb ≤ 2000) (hready : d.stepReady = true)
    (hdrift : absI (d.objI 32 Obj.PLLT_DRIFT + ppb) ≤ 200000) : (d.pllStep ppb).serdesFall = d.smallStep ppb := by
  have hin : d.stepInRange ppb = true := (h.inRange ppb).trans (decide_eq_true hnear)
  have hpumped : d.pllStep ppb = d.smallStep ppb := by
    have halone : d.pllStep ppb = (d.queueSteps [ppb]).pumpStep := by simp [Dev.pllStep, hin, hsmall, h.steps.1, Dev.queueSteps]
    rw [halone, pumpStep_alone ppb hready hnear hdrift, h.emptied]
  rw [hpumped]
  refine serdesFall_served ?_ h.serdes.1 h.serdes.2
  rw [Dev.backupAvailable, smallStep_obj]
  exact h.backup

/-- A larger step relocks PLL-T (R118, R122). -/
theorem Clocked.step_large (ppb : Int) (hnear : absI (d.offsetT + ppb) ≤ 500000) (hlarge : 2000 < absI ppb) :
    (d.pllStep ppb).serdesFall = d.relockT 3 (d.offsetT + ppb) := by
  have hin : d.stepInRange ppb = true := (h.inRange ppb).trans (decide_eq_true hnear)
  have hrequest : d.pllStep ppb = d.requestRelockT ppb := by simp [Dev.pllStep, hin, not_le.mpr hlarge]
  rw [hrequest, h.requested]

end

end

/-! ## The writes as they take effect -/

section
variable (d : Dev) (m : Mem)

theorem after_PLLT_STEP (ppb : BitVec 32) : (d.after m Obj.PLLT_STEP ppb.toNat).1 = (d.pllStep ppb.toInt).serdesFall := by
  rw [after_timeCommand _ _ (by decide) (by decide) rws_PLLT_STEP copied_PLLT_STEP leaves_PLLT_STEP (by decide), ← sgn_toNat]
  rfl

theorem after_PLLT_RELOCK : (d.after m Obj.PLLT_RELOCK 1).1 = d.relockWrite.serdesFall :=
  after_timeCommand _ _ (by decide) (by decide) rws_PLLT_RELOCK copied_PLLT_RELOCK leaves_PLLT_RELOCK (by decide)

theorem after_PLLT_PRESCALE (v : Nat) : (d.after m Obj.PLLT_PRESCALE v).1 = ((d.setObj Obj.PLLT_PRESCALE v).requestRelockT 0).serdesFall :=
  after_timeValue _ _ (by decide) (by decide) rws_PLLT_PRESCALE copied_PLLT_PRESCALE leaves_PLLT_PRESCALE (isDomain_of_row _ _ row_PLLT_PRESCALE)
    (by decide)

theorem after_COUNTER_SLEW (v : Nat) : (d.after m Obj.COUNTER_SLEW v).1 = d.setObj Obj.COUNTER_SLEW v :=
  after_timeValue _ _ (by decide) (by decide) rws_COUNTER_SLEW copied_COUNTER_SLEW leaves_COUNTER_SLEW (isDomain_of_row _ _ row_COUNTER_SLEW)
    (by decide)

/-- A requested step of TIME80 to an instant (R132). -/
def Dev.askStep (d : Dev) (ns : Nat) : Dev := { d with tb := { d.tb with stepReq := some ns } }

theorem after_TIME_SET (v : Nat) : (d.after m Obj.TIME_SET v).1 = (d.setObj Obj.TIME_SET v).askStep (nsOfTime80 v) :=
  after_timeValue _ _ (by decide) (by decide) rws_TIME_SET copied_TIME_SET leaves_TIME_SET (isDomain_of_row _ _ row_TIME_SET) (by decide)

end

/-- The comparison period changes nothing both synthesisers are judged by. -/
theorem Clocked.prescaled {d : Dev} (h : Clocked d) (v : Nat) : Clocked (d.setObj Obj.PLLT_PRESCALE v) where
  serves := by
    have hstate := d.obj_setObj_ne Obj.PLLT_PRESCALE v Obj.PLLT_STATE (by decide)
    rw [Dev.servesT, hstate]
    exact h.serves
  backup := by
    have hstate := d.obj_setObj_ne Obj.PLLT_PRESCALE v Obj.PLLS_STATE (by decide)
    rw [Dev.backupAvailable, hstate]
    exact h.backup
  serdes := h.serdes
  steps := h.steps

/-! ## The obligation -/

/-- Settles O16: each write passes its row and its owner's condition; in effect each is one operation of the time base, and while both
synthesisers serve no link falls behind it. -/
theorem timeBaseWritesTakeEffect : Obligations.TimeBaseWritesTakeEffect := by
  unfold Obligations.TimeBaseWritesTakeEffect
  refine ⟨fun s src hopen => ⟨fun ppb hrange hslave hrelock => ?step, fun hstate => ?relock, fun code hconfig hcode => ?prescale,
    fun slew hslave => ?slew, fun time hconfig htime => ?time⟩, fun d m ppb h => ?stepped, fun d m h hactive => ⟨fun v => ?prescaled, fun hwritten =>
    ?relocked⟩, fun d m v => ?held⟩
  case step =>
    exact timeWrite_queued hopen (by decide) (by decide) row_PLLT_STEP rfl ppb.isLt
      (rightsStatus_open s src _ _ hopen (by decide) (by decide) (.inl rfl)) rfl (ownerStatus_PLLT_STEP s.dev ppb hrange hslave hrelock) (by decide)
  case relock =>
    exact timeWrite_queued hopen (by decide) (by decide) row_PLLT_RELOCK rfl (by decide)
      (rightsStatus_open s src _ _ hopen (by decide) (by decide) (.inl rfl)) rfl (ownerStatus_PLLT_RELOCK s.dev hstate) (by decide)
  case prescale =>
    have hrange : (RangeCheck.oneOf [0, 1, 2]).ok .u8 code.toNat = true := by
      simp only [RangeCheck.ok, List.contains_eq_mem, List.mem_cons, List.not_mem_nil, or_false, decide_eq_true_eq]
      omega
    exact timeWrite_queued hopen (by decide) (by decide) row_PLLT_PRESCALE rfl code.isLt
      (rightsStatus_config s src _ hopen (by decide) (by decide) hconfig) hrange (ownerStatus_PLLT_PRESCALE s.dev _) (by decide)
  case slew =>
    have hrange : (RangeCheck.rng (-32768) 32767).ok .i16 slew.toNat = true := by
      have hlo := slew.le_toInt
      have hhi := slew.toInt_lt
      simp only [RangeCheck.ok, heldValue, sgn_toNat, Bool.and_eq_true, decide_eq_true_eq]
      omega
    exact timeWrite_queued hopen (by decide) (by decide) row_COUNTER_SLEW rfl slew.isLt
      (rightsStatus_open s src _ _ hopen (by decide) (by decide) (.inr rfl)) hrange (ownerStatus_COUNTER_SLEW s.dev _ hslave) (by decide)
  case time =>
    exact timeWrite_queued hopen (by decide) (by decide) row_TIME_SET rfl time.isLt
      (rightsStatus_config s src _ hopen (by decide) (by decide) hconfig) (decide_eq_true htime) (ownerStatus_TIME_SET s.dev _) (by decide)
  case stepped =>
    rw [after_PLLT_STEP]
    refine ⟨fun hfar => ?refused, fun hnear hsmall hready hdrift => ?small, fun hnear hlarge hactive => ?large⟩
    case refused =>
      rw [h.step_refused _ hfar]
      exact ⟨latched_raise d 8 _ (by decide), fun k _ he => (reported_raise d 8 _ (by decide)).obj k he⟩
    case small =>
      rw [h.step_small _ hnear hsmall hready hdrift]
      refine ⟨(smallStep_obj _ _).trans (if_pos rfl), (smallStep_obj _ _).trans ?_, fun k hoffset hdrifts => ?_⟩
      · rw [if_neg (by decide), if_pos rfl]
      · rw [smallStep_obj, if_neg (Ne.symm hoffset), if_neg (Ne.symm hdrifts)]
    case large =>
      rw [h.step_large _ hnear hlarge]
      obtain ⟨hstate, hbackup⟩ := relockT_searches d 3 (d.offsetT + ppb.toInt) hactive
      exact ⟨hstate, hbackup, congrArg (fun b : TimeBase => b.pllT.target) (relockT_tb d 3 _), relockT_latched d 3 _, relockT_keeps d 3 _⟩
  case prescaled =>
    have hsame : ∀ k, Obj.PLLT_PRESCALE ≠ k → (d.setObj Obj.PLLT_PRESCALE v).obj k = d.obj k := fun k hk => d.obj_setObj_ne _ v k hk
    have hoffset : (d.setObj Obj.PLLT_PRESCALE v).offsetT = d.offsetT := congrArg (sgn 32) (hsame _ (by decide))
    rw [after_PLLT_PRESCALE, (h.prescaled v).requested]
    refine ⟨(relockT_searches _ 3 _ (by rwa [hsame _ (by decide)])).1, ?_, ?_⟩
    · exact (relockT_keeps _ 3 _ _ (by decide) (by decide)).trans (d.obj_setObj_same _ v)
    · rw [relockT_tb, hoffset, add_zero]
      rfl
  case relocked =>
    have hrequest : d.relockWrite = d.requestRelockT 0 := by simp [Dev.relockWrite, hwritten]
    rw [after_PLLT_RELOCK, hrequest, h.requested]
    refine ⟨(relockT_searches d 3 _ hactive).1, ?_⟩
    rw [relockT_tb, add_zero]
    rfl
  case held =>
    rw [after_COUNTER_SLEW, after_TIME_SET]
    exact ⟨d.obj_setObj_same _ v, fun k hk => d.obj_setObj_ne _ v k (Ne.symm hk), rfl, rfl, rfl⟩

end Sys2Proof.Machine
end

section
/-! SUPPORT. The time base beside the other chapters: what the fall of a link, a SAFE-HOLD and reports leave of it (R36 to R39, R129, R137). -/

set_option Elab.async false

namespace Sys2Proof.Machine

/-- The objects of the references, of the synthesisers and of the counter (R139 to R142). -/
def timeKey (k : Nat) : Bool := decide (0x020000 ≤ k) && decide (k < 0x024000)

/-- The events of the time base, all in the first set of latches (R139). -/
def timeEvent (src : Nat) : Bool := decide (0x10 ≤ src) && decide (src < 0x1A)

/-- An object of another chapter: none of the time base, and not the set of its latches. -/
def Aloof (k : Nat) : Prop := (k < 0x020000 ∨ 0x024000 ≤ k) ∧ k ≠ Obj.EVENT_LATCH 0

/-- The time base as its own chapter holds it, with the generators it moves; whether the counter runs is the spine's. -/
structure Timing where
  now : Nat
  tb : TimeBase
  gens : List Gen
  obj : Nat → Nat
  latch : Nat → Bool

def Dev.timing (d : Dev) : Timing where
  now := d.now
  tb := { d.tb with running := false }
  gens := d.gens
  obj := fun k => if timeKey k then d.obj k else 0
  latch := fun src => if timeEvent src then d.latched src else false

section
variable {d e : Dev} (h : e.timing = d.timing)
include h

theorem timing_now : e.now = d.now := (congrArg Timing.now h :)
theorem timing_gens : e.gens = d.gens := (congrArg Timing.gens h :)

theorem timing_obj {k : Nat} (hk : timeKey k = true) : e.obj k = d.obj k := by
  have hobj := congrFun (congrArg Timing.obj h) k
  simpa [Dev.timing, hk] using hobj

theorem timing_latched {src : Nat} (hs : timeEvent src = true) : e.latched src = d.latched src := by
  have hlatch := congrFun (congrArg Timing.latch h) src
  simpa [Dev.timing, hs] using hlatch

theorem timing_tb : ({ e.tb with running := false } : TimeBase) = { d.tb with running := false } := (congrArg Timing.tb h :)

theorem timing_pllT : e.tb.pllT = d.tb.pllT := (congrArg TimeBase.pllT (timing_tb h) :)
theorem timing_pllS : e.tb.pllS = d.tb.pllS := (congrArg TimeBase.pllS (timing_tb h) :)
theorem timing_serdesStopped : e.tb.serdesStopped = d.tb.serdesStopped := (congrArg TimeBase.serdesStopped (timing_tb h) :)

theorem timing_counter : e.tb.sec = d.tb.sec ∧ e.tb.ns = d.tb.ns ∧ e.tb.frac = d.tb.frac :=
  ⟨(congrArg TimeBase.sec (timing_tb h) :), (congrArg TimeBase.ns (timing_tb h) :), (congrArg TimeBase.frac (timing_tb h) :)⟩

end

/-- The same clock, generators, objects and latches make the same timing. -/
theorem timing_of {d e : Dev} (hnow : e.now = d.now) (htb : e.tb = d.tb) (hgens : e.gens = d.gens)
    (hobj : ∀ k, timeKey k = true → e.obj k = d.obj k) (hlatch : ∀ src, timeEvent src = true → e.latched src = d.latched src) :
    e.timing = d.timing := by
  have hobj' : (fun k => if timeKey k then e.obj k else 0) = fun k => if timeKey k then d.obj k else 0 := by
    funext k
    split
    · next hk => exact hobj k hk
    · rfl
  have hlatch' : (fun src => if timeEvent src then e.latched src else false) = fun src => if timeEvent src then d.latched src else false := by
    funext src
    split
    · next hs => exact hlatch src hs
    · rfl
  unfold Dev.timing
  rw [hnow, htb, hgens, hobj', hlatch']

variable (d : Dev)

theorem latched_setObj_aloof (k v src : Nat) (h : Aloof k) (hs : timeEvent src = true) : (d.setObj k v).latched src = d.latched src := by
  simp only [timeEvent, Bool.and_eq_true, decide_eq_true_eq] at hs
  refine d.latched_setObj k v src ?_
  rw [show src / 32 = 0 by omega]
  exact h.2

@[simp] theorem timing_setObj (k v : Nat) (h : Aloof k) : (d.setObj k v).timing = d.timing := by
  refine timing_of rfl rfl rfl (fun j hj => Dev.obj_setObj_ne _ _ _ _ ?_) (fun src hs => latched_setObj_aloof d k v src h hs)
  rintro rfl
  simp only [timeKey, Bool.and_eq_true, decide_eq_true_eq] at hj
  have hk := h.1
  omega

@[simp] theorem timing_setObjB (k : Nat) (b : Bool) (h : Aloof k) : (d.setObjB k b).timing = d.timing := timing_setObj d k _ h
@[simp] theorem timing_setObjBit (k n : Nat) (b : Bool) (h : Aloof k) : (d.setObjBit k n b).timing = d.timing := timing_setObj d k _ h
@[simp] theorem timing_bump (k : Nat) (h : Aloof k) : (d.bump k).timing = d.timing := timing_setObj d k _ h

@[simp] theorem timing_ite (p : Prop) [Decidable p] (a b : Dev) : (if p then a else b).timing = if p then a.timing else b.timing :=
  apply_ite Dev.timing p a b

/-! ## Reports: an event sets its own latch and that of a drop before it, no other (R96, R98) -/

section
variable {d} {s : Nat} (hs : timeEvent s = true)
include hs

theorem timeLatch_occur (src : Nat) (h : src ≠ s) : (d.occur src).latched s = d.latched s := by
  have hset : (d.setObjBit (Obj.EVENT_LATCH (src / 32)) (src % 32) true).latched s = d.latched s := by
    rw [latched_set]
    simp [Ne.symm h]
  exact (latched_setObj_aloof _ (Obj.OCCURRENCES src) _ s (by grind [Aloof]) hs).trans hset

theorem timeLatch_hostRecord (r : EventRecord) : (d.hostRecord r).latched s = d.latched s := by
  have hne : 5 ≠ s := by rintro rfl; revert hs; decide
  have hqueued : ∀ (e : Dev) (r : EventRecord), (e.enqueueRecord r).latched s = e.latched s := fun e r => by
    unfold Dev.enqueueRecord
    split <;> rfl
  have hplaced : d.placeOverflow.latched s = d.latched s := by
    unfold Dev.placeOverflow
    split
    · rfl
    · exact (hqueued _ _).trans (timeLatch_occur hs 5 hne)
  unfold Dev.hostRecord
  dsimp only
  split
  · exact (latched_setObj_aloof _ Obj.EVENTS_DROPPED _ s (by grind [Aloof]) hs).trans hplaced
  · exact (hqueued _ _).trans hplaced

theorem timeLatch_sendSession (i kind : Nat) (body : List Byte) : (d.sendSession i kind body).latched s = d.latched s := by
  have hpool : ∀ (e : Dev) (n : Nat), (e.poolSet 3 n).latched s = e.latched s := fun e n =>
    (latched_setObj_aloof _ (Obj.POOL_PEAK 3) _ s (by grind [Aloof]) hs).trans
      ((latched_setObj_aloof _ Obj.SHARED_FREE _ s (by grind [Aloof]) hs).trans
        (latched_setObj_aloof e (Obj.POOL_IN_USE 3) n s (by grind [Aloof]) hs))
  have hqueue : ∀ (e : Dev) (p : Nat) (q : EthQueued), (e.ethQueue p q).latched s = e.latched s := fun e p q => by
    unfold Dev.ethQueue
    dsimp only
    split <;> rfl
  have hsend : ∀ (e : Dev) (p a b c : Nat) (l : List Byte), (e.sendUdp p a b c l).latched s = e.latched s := fun e p a b c l => by
    unfold Dev.sendUdp Dev.poolTake
    split
    · rfl
    · by_cases hfits : e.poolFits 3 (buffersOf (l.length + 42)) = true
      · rw [if_pos hfits]
        exact (hqueue _ _ _).trans (hpool e _)
      · rw [if_neg hfits]
        exact latched_setObj_aloof e (Obj.POOL_DROPPED 3) _ s (by grind [Aloof]) hs
  unfold Dev.sendSession
  split
  · rfl
  · exact hsend _ _ _ _ _ _

theorem timeLatch_raise (src data : Nat) (h : src ≠ s) : (d.raise src data).latched s = d.latched s := by
  unfold Dev.raise
  dsimp only
  refine Eq.trans ?_ (timeLatch_occur hs src h)
  split
  · refine (foldl_keeps (fun e : Dev => e.latched s) _ _ (fun i e => timeLatch_sendSession hs i 3 _) _).trans ?_
    split
    · exact timeLatch_hostRecord hs _
    · rfl
  · rfl

end

variable {d} in
theorem eventKey_of_timeKey {k : Nat} (h : timeKey k = true) : eventKey k = false := by
  simp only [timeKey, eventKey] at *
  grind

variable {d} in
theorem Reported.timing {e : Dev} (h : Reported d e) (hlatch : ∀ src, timeEvent src = true → e.latched src = d.latched src) : e.timing = d.timing :=
  timing_of h.now h.tb h.gens (fun _ hk => h.obj _ (eventKey_of_timeKey hk)) hlatch

@[simp] theorem timing_raise (src data : Nat) (hs : src < 256) (h : timeEvent src = false) : (d.raise src data).timing = d.timing :=
  (reported_raise d src data hs).timing fun s ht => timeLatch_raise ht src data (by rintro rfl; rw [h] at ht; cases ht)

@[simp] theorem timing_settle : d.settle.timing = d.timing := by
  refine (reported_settle d).timing fun s ht => ?_
  have hne : 0x3D ≠ s := by rintro rfl; revert ht; decide
  unfold Dev.settle
  dsimp only
  refine (foldl_keeps (fun e : Dev => e.latched s) _ _ (fun _ e => timeLatch_occur ht 0x3D hne) _).trans ?_
  exact foldl_keeps (fun e : Dev => e.latched s) _ _ (fun c e => timeLatch_raise ht 0x3D c hne) _

@[simp] theorem timing_emit (e : Emit) : (d.emit e).timing = d.timing := by rfl

/-! ## Updates of one part -/

@[simp] theorem timing_updRing (r : Nat) (f : Ring → Ring) : (d.updRing r f).timing = d.timing := by rfl
@[simp] theorem timing_updLeg (n : Nat) (f : LegPort → LegPort) : (d.updLeg n f).timing = d.timing := by rfl
@[simp] theorem timing_updRec (r : Nat) (f : Recorder → Recorder) : (d.updRec r f).timing = d.timing := by rfl
@[simp] theorem timing_updPair14 (f : Pair → Pair) : (d.updPair14 f).timing = d.timing := by rfl
@[simp] theorem timing_updGroup (g : Nat) (f : SafeGroup → SafeGroup) : (d.updGroup g f).timing = d.timing := by rfl
@[simp] theorem timing_updOut (o : Nat) (f : SafeOut → SafeOut) : (d.updOut o f).timing = d.timing := by rfl
@[simp] theorem timing_updMonitor (a : Nat) (f : Monitor → Monitor) : (d.updMonitor a f).timing = d.timing := by rfl
@[simp] theorem timing_updIsl (f : Island → Island) : (d.updIsl f).timing = d.timing := by rfl
@[simp] theorem timing_updSession (s : Nat) (f : Session → Session) : (d.updSession s f).timing = d.timing := by rfl

end Sys2Proof.Machine
end

section
/-! SUPPORT. The time base beside the island, the grid-former, the pins, the ports and the pair (R36, R39, R357, R424, R433, R508). -/

set_option Elab.async false

namespace Sys2Proof.Machine

variable (d : Dev)

/-! ## The buffer pool and the ports -/

@[simp] theorem timing_poolFree (c n : Nat) : (d.poolFree c n).timing = d.timing := by
  unfold Dev.poolFree Dev.poolSet Dev.showShared
  simp (disch := grind [Aloof])

@[simp] theorem timing_rejectState (reason : Nat) : (d.rejectState reason).timing = d.timing := by
  unfold Dev.rejectState
  simp (disch := grind [Aloof])

@[simp] theorem timing_abandonSeals : d.abandonSeals.timing = d.timing := by
  unfold Dev.abandonSeals
  refine foldl_keeps Dev.timing _ _ (fun s d => ?_) _
  simp [Dev.sealEvent, timeEvent]

/-! ## Leg ports -/

@[simp] theorem timing_legsSilent : d.legsSilent.timing = d.timing := by
  unfold Dev.legsSilent
  refine forN_keeps Dev.timing 20 _ (fun n hn d => ?_) d
  simp (disch := grind [Aloof])

@[simp] theorem timing_legsRest : d.legsRest.timing = d.timing := by
  unfold Dev.legsRest
  refine forN_keeps Dev.timing 20 _ (fun n hn d => ?_) d
  simp (disch := grind [Aloof])

@[simp] theorem timing_startLink (n : Nat) : (d.startLink n).timing = d.timing := by
  unfold Dev.startLink
  simp (disch := grind [Aloof])

@[simp] theorem timing_legRestarts : d.legRestarts.timing = d.timing := by
  unfold Dev.legRestarts Dev.legRestart
  exact forN_keeps Dev.timing 20 _ (fun n _ d => by simp) d

/-! ## Groups and outputs of the island -/

@[simp] theorem timing_showGroup (g st : Nat) : (d.showGroup g st).timing = d.timing := by
  unfold Dev.showGroup
  simp (disch := grind [Aloof])

@[simp] theorem timing_rampStart (g : Nat) : (d.rampStart g).timing = d.timing := by
  unfold Dev.rampStart
  exact (foldl_keeps Dev.timing _ _ (fun a d => by simp) _).trans (by simp)

@[simp] theorem timing_setGroup (g st : Nat) : (d.setGroup g st).timing = d.timing := by
  have hisl : ∀ (d : Dev) (f : Island → Nat), (d.updIsl (fun i => { i with stoNew := f i })).timing = d.timing := fun d f => by rfl
  have hramp : ∀ (d : Dev) (f : Island → Nat), (d.updIsl (fun i => { i with rampNew := f i })).timing = d.timing := fun d f => by rfl
  unfold Dev.setGroup
  simp [hisl, hramp, timeEvent]

@[simp] theorem timing_driveOut (o : Nat) (on : Bool) : (d.driveOut o on).timing = d.timing := by
  unfold Dev.driveOut
  simp

@[simp] theorem timing_driveOuts : d.driveOuts.timing = d.timing := by
  unfold Dev.driveOuts
  exact forN_keeps Dev.timing 8 _ (fun o _ d => by simp) d

@[simp] theorem timing_sendHalt (groups : Nat) : (d.sendHalt groups).timing = d.timing := by
  unfold Dev.sendHalt
  extract_lets live seq ctl noted e c sent
  have hsent : sent.timing = d.timing := by
    refine (foldl_keeps_mem Dev.timing live _ (fun r hr d => ?_) noted).trans (by rfl)
    have hring : r < 2 := by
      simp only [live, List.mem_filter, List.mem_cons, List.not_mem_nil, or_false] at hr
      omega
    rw [timing_bump _ _ (by grind [Aloof])]
    exact foldl_keeps Dev.timing _ _ (fun p d => by simp) d
  simp [hsent, timeEvent]

@[simp] theorem timing_stoAll : d.stoAll.timing = d.timing := by
  have hgroups : (forN 32 (fun g d => d.setGroup g 4) d).timing = d.timing :=
    forN_keeps Dev.timing 32 _ (fun g _ d => timing_setGroup d g 4) d
  unfold Dev.stoAll
  simp [hgroups]

/-! ## The grid-former and leaving RUN -/

@[simp] theorem timing_gfLegsOff : d.gfLegsOff.timing = d.timing := by rfl

@[simp] theorem timing_setGf (st : Nat) : (d.setGf st).timing = d.timing := by
  unfold Dev.setGf
  simp (disch := grind [Aloof, timeEvent])

@[simp] theorem timing_dropPermit : d.dropPermit.timing = d.timing := by
  unfold Dev.dropPermit
  split
  · exact (timing_raise _ 0xB4 0 (by decide) (by decide)).trans (by rfl)
  · rfl

@[simp] theorem timing_gfOffNow : d.gfOffNow.timing = d.timing := by
  unfold Dev.gfOffNow
  rw [timing_setGf, timing_dropPermit]
  rfl

@[simp] theorem timing_gfTrip (cause : Nat) : (d.gfTrip cause).timing = d.timing := by
  unfold Dev.gfTrip
  simp (disch := grind [Aloof, timeEvent])

@[simp] theorem timing_leaveRun : d.leaveRun.timing = d.timing := by
  unfold Dev.leaveRun
  simp

@[simp] theorem timing_eventPin : d.eventPin.timing = d.timing := by
  unfold Dev.eventPin
  simp

@[simp] theorem timing_goState (st : Nat) : (d.goState st).timing = d.timing := by
  unfold Dev.goState
  simp (disch := grind [Aloof, timeEvent])

/-! ## Rings, connections and pins -/

@[simp] theorem timing_closeBypass (r : Nat) (h : r < 2) : (d.closeBypass r).timing = d.timing := by
  unfold Dev.closeBypass
  simp (disch := grind [Aloof, timeEvent])

@[simp] theorem timing_closeBypasses : d.closeBypasses.timing = d.timing := by
  simp [Dev.closeBypasses]

@[simp] theorem timing_countValid : d.countValid.timing = d.timing := by
  unfold Dev.countValid
  simp (disch := grind [Aloof])

@[simp] theorem timing_showConn (n st reason : Nat) : (d.showConn n st reason).timing = d.timing := by
  unfold Dev.showConn
  simp (disch := grind [Aloof])

@[simp] theorem timing_connsSilent : d.connsSilent.timing = d.timing := by
  unfold Dev.connsSilent
  rw [timing_countValid]
  exact foldl_keeps Dev.timing _ _ (fun n d => by simp) d

@[simp] theorem timing_tickSource (own : Bool) : (d.tickSource own).timing = d.timing := by
  unfold Dev.tickSource
  simp (disch := grind [Aloof, timeEvent])

@[simp] theorem timing_showArb (hb : Bool) : (d.showArb hb).timing = d.timing := by
  unfold Dev.showArb
  simp (disch := grind [Aloof])

@[simp] theorem timing_pulseRest : d.pulseRest.timing = d.timing := by rfl

end Sys2Proof.Machine
end

section
/-! SUPPORT. The time base beside the entry into SAFE-HOLD, the record engine and a decision (R36 to R39, R544). -/

set_option Elab.async false

namespace Sys2Proof.Machine

variable (d : Dev)

/-! ## Entry into SAFE-HOLD -/

@[simp] theorem timing_ethFlush (p : Nat) : (d.ethFlush p).timing = d.timing := by
  unfold Dev.ethFlush
  extract_lets e freed rest
  have hfreed : freed.timing = d.timing := foldl_keeps Dev.timing e.queue _ (fun q d => by simp) d
  have hrest : rest.timing = freed.timing := by
    unfold rest
    cases e.sending with
    | none => rfl
    | some x => exact timing_poolFree _ x.1 x.2
  exact (show _ = rest.timing by rfl).trans (hrest.trans hfreed)

@[simp] theorem timing_dropSessions : d.dropSessions.timing = d.timing := by
  have hloop : (forN 8 (fun s d => (d.setObj (Obj.SESSION_STATE s) 0).updSession s (fun x => { x with isOpen := false })) d).timing = d.timing :=
    forN_keeps Dev.timing 8 _ (fun s hs d => by simp (disch := grind [Aloof])) d
  exact (show _ = _ by rfl : d.dropSessions.timing = _).trans hloop

@[simp] theorem timing_enterHold : d.enterHold.timing = d.timing := by
  unfold Dev.enterHold
  extract_lets asked silent off closed rejected tally clock emptied held dropped
  have hclosed : closed.timing = d.timing := by
    unfold closed
    rw [timing_closeBypasses]
    refine (forN_keeps Dev.timing 2 _ (fun r _ d => timing_updRing d r _) _).trans ?_
    simp [silent]
  have hemptied : emptied.timing = rejected.timing := by rfl
  simp [dropped, held, hemptied, rejected, hclosed]

@[simp] theorem timing_stoStep : d.stoStep.timing = d.timing := by
  unfold Dev.stoStep
  split
  · rfl
  · rw [timing_gfTrip, timing_stoAll]
    rfl

/-! ## The record engine stops (R544) -/

@[simp] theorem timing_recFlag (r n : Nat) : (d.recFlag r n).timing = d.timing := by
  unfold Dev.recFlag
  simp (disch := grind [Aloof])

@[simp] theorem timing_closeGap (r : Nat) : (d.closeGap r).timing = d.timing := by
  unfold Dev.closeGap
  split
  · rfl
  · simp [timeEvent]

@[simp] theorem timing_startSeal : d.startSeal.timing = d.timing := by
  unfold Dev.startSeal
  split
  · rfl
  · split <;> rfl

@[simp] theorem timing_requestSeal (r : Nat) : (d.requestSeal r).timing = d.timing := by
  unfold Dev.requestSeal
  exact timing_startSeal _

@[simp] theorem timing_complete (r : Nat) (aborted : Bool) : (d.complete r aborted).timing = d.timing := by
  unfold Dev.complete
  simp (disch := grind [Aloof, timeEvent])

@[simp] theorem timing_abortRec (r : Nat) : (d.abortRec r).timing = d.timing := by
  unfold Dev.abortRec
  simp (disch := grind [Aloof])

@[simp] theorem timing_acqStop : d.acqStop.timing = d.timing := by
  unfold Dev.acqStop
  exact forN_keeps Dev.timing 4 _ (fun r _ d => by simp) d

/-! ## A cause decided -/

@[simp] theorem timing_holdInBoot (cause : Nat) : (d.holdInBoot cause).timing = d.timing := by
  unfold Dev.holdInBoot
  rw [timing_enterHold, timing_stoStep, timing_raise _ _ _ (by decide) (by decide), timing_setObj _ _ _ (by grind [Aloof])]
  rfl

/-- A cause that is no fault of a fold stops no generator. -/
theorem timing_decideHold (cause fold : Nat) (h : cause ≠ 1) (h' : cause ≠ 2) : (d.decideHold cause fold).timing = d.timing := by
  unfold Dev.decideHold
  extract_lets handed rejected ctl decided reported failed
  have hdecided : decided.timing = rejected.timing := by rfl
  have hreported : reported.timing = d.timing := by
    unfold reported
    rw [timing_acqStop, timing_raise _ _ _ (by decide) (by decide), timing_setObj _ _ _ (by grind [Aloof]), hdecided]
    simp [rejected]
  simp [failed, h, h', hreported]

/-- A decision of no cause, or of one that is no fault of a fold, is none of the time base. -/
theorem timing_holdDecide (h : ∀ cause fold, d.ctl.causeReq = some (cause, fold) → cause ≠ 1 ∧ cause ≠ 2) : d.holdDecide.timing = d.timing := by
  cases hreq : d.ctl.causeReq with
  | none => rw [holdDecide_none d hreq]
  | some x =>
    obtain ⟨cause, fold⟩ := x
    obtain ⟨h1, h2⟩ := h cause fold hreq
    have hcleared : ({ d with ctl := { d.ctl with causeReq := none } } : Dev).timing = d.timing := by rfl
    rw [holdDecide_some d hreq]
    dsimp only
    rw [timing_ite, timing_ite, timing_holdInBoot, timing_decideHold _ _ _ h1 h2, hcleared]
    simp

/-- The dictionary loads in BOOT alone. -/
theorem bootLoad_outside (h : d.state ≠ stBoot) : d.bootLoad = d := by
  unfold Dev.bootLoad
  simp [h]

end Sys2Proof.Machine
end

section
/-! SUPPORT. What follows an event of the time base outside BOOT: the links that fall, the tick source, a decision (R37, R39, R129, R137). -/

set_option Elab.async false

namespace Sys2Proof.Machine

/-- Beside the time base, its state and its causes, the block may differ as after a link that fell. -/
structure Dev.Follows (d e : Dev) : Prop where
  timing : e.timing = d.timing
  ctl : e.ctl = d.ctl
  running : e.tb.running = d.tb.running
  state : e.state = d.state

section
variable {d e : Dev}

theorem Dev.Follows.refl (d : Dev) : d.Follows d := ⟨rfl, rfl, rfl, rfl⟩

theorem Dev.Follows.trans {f : Dev} (h : d.Follows e) (g : e.Follows f) : d.Follows f :=
  ⟨g.timing.trans h.timing, g.ctl.trans h.ctl, g.running.trans h.running, g.state.trans h.state⟩

theorem Dev.Follows.ite {a b : Dev} (p : Prop) [Decidable p] (h : d.Follows a) (g : d.Follows b) : d.Follows (if p then a else b) := by
  split
  · exact h
  · exact g

theorem follows_setObj (k v : Nat) (h : Aloof k) (hk : k ≠ Obj.DEVICE_STATE) : d.Follows (d.setObj k v) :=
  ⟨timing_setObj d k v h, rfl, rfl, Dev.obj_setObj_ne d k v _ hk⟩

theorem follows_raise (src data : Nat) (hs : src < 256) (h : timeEvent src = false) : d.Follows (d.raise src data) :=
  have hreport := reported_raise d src data hs
  ⟨timing_raise d src data hs h, hreport.ctl, congrArg TimeBase.running hreport.tb, hreport.obj Obj.DEVICE_STATE (by decide)⟩

end

variable (d : Dev)

theorem follows_poolFree (c n : Nat) : d.Follows (d.poolFree c n) := by
  unfold Dev.poolFree Dev.poolSet Dev.showShared
  exact ((follows_setObj _ _ (by grind [Aloof]) (by grind)).trans (follows_setObj _ _ (by grind [Aloof]) (by grind))).trans
    (follows_setObj _ _ (by grind [Aloof]) (by grind))

theorem follows_ethFlush (p : Nat) : d.Follows (d.ethFlush p) := by
  have hqueue : ∀ (l : List EthQueued) (d : Dev), d.Follows (l.foldl (fun d q => d.poolFree q.channel q.buffers) d) := fun l => by
    induction l with
    | nil => exact Dev.Follows.refl
    | cons q l ih => exact fun d => (follows_poolFree d _ _).trans (ih _)
  unfold Dev.ethFlush
  extract_lets e freed rest
  have hrest : freed.Follows rest := by
    unfold rest
    cases e.sending with
    | none => exact Dev.Follows.refl _
    | some x => exact follows_poolFree _ x.1 x.2
  exact ((hqueue e.queue d).trans hrest).trans ⟨rfl, rfl, rfl, rfl⟩

theorem follows_closeBypass (r : Nat) (h : r < 2) : d.Follows (d.closeBypass r) := by
  unfold Dev.closeBypass
  extract_lets kept closed off silent moved shown
  have hclosed : d.Follows closed := follows_setObj Obj.BYPASS_STATE _ (by grind [Aloof]) (by decide)
  have hoff : closed.Follows off := follows_setObj (Obj.RING_STATUS r) _ (by grind [Aloof]) (by grind)
  have hshown : off.Follows shown := ⟨rfl, rfl, rfl, rfl⟩
  exact Dev.Follows.ite _ ⟨rfl, rfl, rfl, rfl⟩ (((hclosed.trans hoff).trans hshown).trans (follows_raise 0x3C _ (by decide) (by decide)))

theorem follows_closeBypasses : d.Follows d.closeBypasses :=
  (follows_closeBypass d 0 (by decide)).trans (follows_closeBypass _ 1 (by decide))

theorem follows_ethLink_down (p : Nat) (h : p < 2) : d.Follows (d.ethLink p .down) := by
  unfold Dev.ethLink
  refine Dev.Follows.ite _ (Dev.Follows.refl d) (Dev.Follows.ite _ (Dev.Follows.refl d) ?_)
  have hshown : d.Follows (d.setObjB (Obj.LINK p) (linkUp .down)) := follows_setObj _ _ (by grind [Aloof]) (by grind)
  exact (hshown.trans (Dev.Follows.ite _ (Dev.Follows.refl _) (follows_ethFlush _ p))).trans (follows_raise 0x2A _ (by decide) (by decide))

theorem follows_twinLoss (errors : Nat) : d.Follows (d.twinLoss errors) := by
  have hpair : ∀ (d : Dev) f, d.Follows (d.updPair14 f) := fun d f => ⟨rfl, rfl, rfl, rfl⟩
  unfold Dev.twinLoss
  extract_lets counted downed role
  have hcounted : d.Follows counted := follows_setObj _ _ (by grind [Aloof]) (by decide)
  have hdowned : d.Follows downed := hcounted.trans (hpair counted _)
  refine Dev.Follows.ite _ hcounted (hdowned.trans ?_)
  refine Dev.Follows.ite _ ?_ (Dev.Follows.ite _ ?_ (Dev.Follows.refl _))
  · exact ((follows_setObj Obj.PEER_ROLE 4 (by grind [Aloof]) (by decide)).trans (follows_raise 0x51 1 (by decide) (by decide))).trans (hpair _ _)
  · exact (follows_raise 0x51 1 (by decide) (by decide)).trans (hpair _ _)

theorem follows_serdesFall : d.Follows d.serdesFall := by
  unfold Dev.serdesFall
  extract_lets gone closed
  have hclosed : d.Follows closed := Dev.Follows.ite _ (follows_closeBypasses d) (Dev.Follows.refl d)
  exact hclosed.trans (Dev.Follows.ite _ (((follows_ethLink_down _ 0 (by decide)).trans (follows_ethLink_down _ 1 (by decide))).trans
    (follows_twinLoss _ 0)) (Dev.Follows.refl _))

theorem follows_refreshTick : d.Follows d.refreshTick := by
  unfold Dev.refreshTick Dev.tickSource
  exact Dev.Follows.ite _ (Dev.Follows.refl d) ((follows_setObj Obj.SAFETY_TICK_SOURCE _ (by grind [Aloof]) (by decide)).trans
    (follows_raise 0x1B _ (by decide) (by decide)))

/-- Outside BOOT the links that fall and the tick source are all an event of the time base brings with it. -/
theorem follows_clockStep (h : d.state ≠ stBoot) : d.Follows d.clockStep := by
  have hfell := (follows_serdesFall d).trans (follows_refreshTick _)
  have hstep : d.clockStep = d.serdesFall.refreshTick := by
    unfold Dev.clockStep
    rw [if_neg (by simpa using h), bootLoad_outside _ (by rw [hfell.state]; exact h)]
  rw [hstep]
  exact hfell

/-! ## The time base's own operations -/

/-- The time base worked: beside its objects and its clocks nothing differs but reports and the loss it may find (R37). -/
structure Dev.TimeWork (d e : Dev) : Prop where
  obj : ∀ k, timeKey k = false → eventKey k = false → e.obj k = d.obj k
  latch : d.Remembers e
  cause : e.ctl.causeReq = d.ctl.causeReq ∨ e.ctl.causeReq = some (3, 0) ∨ e.ctl.causeReq = some (6, 0)
  ctl : { e.ctl with causeReq := none } = { d.ctl with causeReq := none }
  now : e.now = d.now
  gens : e.gens = d.gens

variable {d} {e : Dev}

theorem Dev.TimeWork.refl (d : Dev) : d.TimeWork d := ⟨fun _ _ _ => rfl, fun _ _ h => h, .inl rfl, rfl, rfl, rfl⟩

theorem Dev.TimeWork.trans {f : Dev} (h : d.TimeWork e) (g : e.TimeWork f) : d.TimeWork f where
  obj := fun k hk he => (g.obj k hk he).trans (h.obj k hk he)
  latch := h.latch.trans g.latch
  cause := by
    rcases g.cause with hg | hg
    · rw [hg]
      exact h.cause
    · exact .inr hg
  ctl := g.ctl.trans h.ctl
  now := g.now.trans h.now
  gens := g.gens.trans h.gens

theorem Dev.TimeWork.ite {a b : Dev} (p : Prop) [Decidable p] (h : d.TimeWork a) (g : d.TimeWork b) : d.TimeWork (if p then a else b) := by
  split
  · exact h
  · exact g

theorem Reported.timeWork (h : Reported d e) : d.TimeWork e :=
  ⟨fun k _ hk => h.obj k hk, h.remembers, .inl (congrArg DevCtl.causeReq h.ctl), by rw [h.ctl], h.now, h.gens⟩

theorem timeWork_raise (src data : Nat) (h : src < 256) : d.TimeWork (d.raise src data) := (reported_raise d src data h).timeWork

theorem timeWork_setObj (k v : Nat) (h : timeKey k = true) : d.TimeWork (d.setObj k v) where
  obj := fun j hj _ => Dev.obj_setObj_ne d k v j (by rintro rfl; rw [h] at hj; cases hj)
  latch := remembers_of_obj d fun j hj => Dev.obj_setObj_ne d k v j (by
    rintro rfl
    simp only [timeKey, Bool.and_eq_true, decide_eq_true_eq] at h
    omega)
  cause := .inl rfl
  ctl := rfl
  now := rfl
  gens := rfl

theorem timeWork_updT (f : Pll → Pll) : d.TimeWork (d.updT f) := ⟨fun _ _ _ => rfl, fun _ _ h => h, .inl rfl, rfl, rfl, rfl⟩
theorem timeWork_updS (f : Pll → Pll) : d.TimeWork (d.updS f) := ⟨fun _ _ _ => rfl, fun _ _ h => h, .inl rfl, rfl, rfl, rfl⟩
theorem timeWork_tb (t : TimeBase) : d.TimeWork { d with tb := t } := ⟨fun _ _ _ => rfl, fun _ _ h => h, .inl rfl, rfl, rfl, rfl⟩

theorem timeWork_reqCause (cause : Nat) (h : cause = 3 ∨ cause = 6) : d.TimeWork (d.reqCause cause 0) := by
  unfold Dev.reqCause
  refine Dev.TimeWork.ite _ ⟨fun _ _ _ => rfl, fun _ _ h => h, .inr ?_, rfl, rfl, rfl⟩ (Dev.TimeWork.refl d)
  rcases h with rfl | rfl
  · exact .inl rfl
  · exact .inr rfl

theorem Dev.TimeWork.state (h : d.TimeWork e) : e.state = d.state := h.obj Obj.DEVICE_STATE (by decide) (by decide)

theorem Dev.TimeWork.holding (h : d.TimeWork e) : e.ctl.holding = d.ctl.holding := (congrArg DevCtl.holding h.ctl :)

variable (d)

theorem timeWork_searchT : d.TimeWork d.searchT := by
  unfold Dev.searchT
  extract_lets blind shown
  have hshown : d.TimeWork shown := (timeWork_setObj Obj.PLLT_STATE _ (by decide)).trans (timeWork_setObj Obj.PLLT_BAND _ (by decide))
  exact hshown.trans (timeWork_updT _)

theorem timeWork_searchS : d.TimeWork d.searchS := by
  unfold Dev.searchS
  extract_lets blind shown tb taken
  have hshown : d.TimeWork shown := (timeWork_setObj Obj.PLLS_STATE _ (by decide)).trans (timeWork_setObj Obj.PLLS_BAND _ (by decide))
  have htaken : shown.TimeWork taken := timeWork_tb _
  exact (hshown.trans htaken).trans (timeWork_updS _)

theorem timeWork_relocked (target : Int) : d.TimeWork (d.relocked target) :=
  (((timeWork_searchT d).trans (timeWork_updT _)).trans (timeWork_tb _)).trans (timeWork_setObj Obj.BACKUP_ACTIVE _ (by decide))

theorem timeWork_relockT (cause : Nat) (target : Int) : d.TimeWork (d.relockT cause target) := by
  obtain ⟨e, hreport, -, heq⟩ := relockT_reports d cause target
  rw [heq]
  exact ((timeWork_relocked d target).trans hreport.timeWork).trans (Dev.TimeWork.ite _ (Dev.TimeWork.refl e) (timeWork_reqCause 3 (.inl rfl)))

theorem timeWork_relockBy (change : Int) : d.TimeWork (d.relockBy change) := (timeWork_tb _).trans (timeWork_relockT _ 3 _)

theorem timeWork_requestRelockT (change : Int) : d.TimeWork (d.requestRelockT change) :=
  Dev.TimeWork.ite _ (timeWork_tb _) (timeWork_relockBy d change)

theorem timeWork_relockBoth : d.TimeWork d.relockBoth := by
  have hsearched : d.TimeWork (if d.state == stConfig then d.searchS.stopSerdes else d.searchS) :=
    Dev.TimeWork.ite _ ((timeWork_searchS d).trans (timeWork_tb _)) (timeWork_searchS d)
  exact (hsearched.trans (timeWork_tb _)).trans (timeWork_raise 0x13 3 (by decide))

theorem timeWork_relockPending : d.TimeWork d.relockPending := by
  unfold Dev.relockPending
  exact Dev.TimeWork.ite _ (Dev.TimeWork.refl d) ((timeWork_tb _).trans (Dev.TimeWork.ite _ (timeWork_relockBoth _) (Dev.TimeWork.refl _)))

theorem timeWork_dropS (cause : Nat) : d.TimeWork (d.dropS cause) := by
  unfold Dev.dropS
  extract_lets relocks searched told
  have hsearched : d.TimeWork searched := Dev.TimeWork.ite _ (timeWork_searchS d)
    (Dev.TimeWork.ite _ ((timeWork_searchS d).trans (timeWork_tb _)) (timeWork_setObj Obj.PLLS_STATE 5 (by decide)))
  exact (hsearched.trans (timeWork_raise 0x13 cause (by decide))).trans (Dev.TimeWork.ite _ (timeWork_reqCause 3 (.inl rfl))
    (Dev.TimeWork.ite _ (Dev.TimeWork.refl _) (timeWork_reqCause 6 (.inr rfl))))

/-! ## The end of a command of the time base -/

/-- The block at the end of an event of the time base. -/
def Dev.ticked (d : Dev) : Dev := d.clockStep.holdDecide.settle

variable {d}

/-- Work of the time base outside BOOT is all that shows of the time base after the links and the decision. -/
theorem Dev.TimeWork.ticked (h : d.TimeWork e) (hnone : d.ctl.causeReq = none) (hboot : d.state ≠ stBoot) : e.ticked.timing = e.timing := by
  have hfollows := follows_clockStep e (by rw [h.state]; exact hboot)
  have hcause : ∀ cause fold, e.clockStep.ctl.causeReq = some (cause, fold) → cause ≠ 1 ∧ cause ≠ 2 := fun cause fold hreq => by
    rw [hfollows.ctl] at hreq
    rcases h.cause with hc | hc | hc <;> rw [hc] at hreq
    · rw [hnone] at hreq
      cases hreq
    · cases hreq
      decide
    · cases hreq
      decide
  rw [Dev.ticked, timing_settle, timing_holdDecide _ hcause, hfollows.timing]

/-- Without a cause the counter runs on as the time base left it. -/
theorem ticked_running (hboot : e.state ≠ stBoot) (hcause : e.ctl.causeReq = none) : e.ticked.tb.running = e.tb.running := by
  have hfollows := follows_clockStep e hboot
  have hclock := congrArg Spine.clock (spine_settle e.clockStep)
  rw [Dev.ticked, holdDecide_none _ (by rw [hfollows.ctl, hcause])]
  exact hclock.trans hfollows.running

/-- A decision shows its cause, the event and that it holds, handed to the standby or not (R37, R39). -/
theorem Spine.holdNow_shows (s : Spine) (handed : Bool) (cause fold : Nat) : (s.holdNow handed cause fold).obj Obj.SAFE_HOLD_CAUSE = cause ∧
    (s.holdNow handed cause fold).latch = true ∧ (s.holdNow handed cause fold).ctl.holding = true := by
  cases handed with
  | true => exact ⟨by simp [Spine.holdNow, Spine.decide, Spine.put], rfl, rfl⟩
  | false =>
    obtain ⟨hcause, hlatch, hholding, -⟩ := s.holdNow_alone cause fold
    exact ⟨hcause, hlatch, hholding⟩

/-- In a cycling state that does not hold already, the cause found is decided (R37, R39). -/
theorem ticked_holds {cause : Nat} (hcycling : e.cycling = true) (hholding : e.ctl.holding = false) (hcause : e.ctl.causeReq = some (cause, 0)) :
    e.ticked.obj Obj.SAFE_HOLD_CAUSE = cause ∧ e.ticked.ctl.holding = true ∧ e.ticked.latched 0x07 = true := by
  have hboot : e.state ≠ stBoot := by
    intro hstate
    simp [Dev.cycling, hstate] at hcycling
  have hfollows := follows_clockStep e hboot
  have hcycling' : e.clockStep.cycling = true := by
    rw [Dev.cycling, hfollows.state]
    exact hcycling
  have hdecided : e.ticked.spine = ({ e.clockStep with ctl := { e.clockStep.ctl with causeReq := none } } : Dev).spine.holdNow
      ({ e.clockStep with ctl := { e.clockStep.ctl with causeReq := none } } : Dev).standbyHealthy cause 0 := by
    rw [Dev.ticked, spine_settle, holdDecide_some _ (by rw [hfollows.ctl, hcause])]
    dsimp only
    rw [not_booting_of_cycling hcycling', hcycling', hfollows.ctl, hholding]
    exact spine_decideHold _ cause 0
  obtain ⟨hshown, hlatch, hheld⟩ := Spine.holdNow_shows ({ e.clockStep with ctl := { e.clockStep.ctl with causeReq := none } } : Dev).spine
    ({ e.clockStep with ctl := { e.clockStep.ctl with causeReq := none } } : Dev).standbyHealthy cause 0
  rw [← hdecided] at hshown hlatch hheld
  exact ⟨(e.ticked.spine_obj (by decide)).symm.trans hshown, hheld, hlatch⟩

end Sys2Proof.Machine
end

section
/-! SUPPORT. Searches, locks, losses of lock and clamps of the synthesisers (R37, R113 to R115, R122 to R126, R129). -/

set_option Elab.async false

namespace Sys2Proof.Machine

/-! ## A band search ends (R113) -/

/-- Two objects that alone differ are all a quiet command puts. -/
theorem puts_two {s : State} {e : Dev} {k v k' v' : Nat} (hdict : e.dict = ((s.dev.fresh.setObj k v).setObj k' v').dict)
    (hblobs : e.blobs = s.dev.blobs) (hdrops : e.drops = []) (hne : k ≠ k') : s.Puts { s with dev := e.settle } [(k, v), (k', v')] := by
  have hobj : ∀ j, e.obj j = if k' = j then v' else if k = j then v else s.dev.obj j := fun j => by
    refine (congrArg (fun l => tget defaultOf l j) hdict).trans ?_
    exact (Dev.obj_setObj _ _ _ _).trans (by rw [Dev.obj_setObj]; rfl)
  rw [settle_none e hdrops]
  refine ⟨fun x hx => ?_, fun j hj => ?_, fun j => congrArg (fun l => tget (fun _ => []) l j) hblobs, rfl, rfl⟩
  · simp only [List.mem_cons, List.not_mem_nil, or_false] at hx
    rcases hx with rfl | rfl
    · exact (hobj k).trans (by rw [if_neg (Ne.symm hne), if_pos rfl])
    · exact (hobj k').trans (if_pos rfl)
  · exact (hobj j).trans (by rw [if_neg (hj (k', v') (by simp)), if_neg (hj (k, v) (by simp))])

section
variable (d : Dev) (band : Nat)

theorem bandSearchDone_idle (pll : PllId) (h : match pll with
    | .t => d.obj Obj.PLLT_STATE ≠ 1 ∨ d.now < d.tb.pllT.searchAt + 2000
    | .s => d.obj Obj.PLLS_STATE ≠ 1 ∨ d.now < d.tb.pllS.searchAt + 2000) : d.bandSearchDone pll band = d := by
  cases pll with
  | t => exact if_neg (by simp only at h; omega)
  | s => exact if_neg (by simp only at h; omega)

theorem bandSearchDone_t (hstate : d.obj Obj.PLLT_STATE = 1) (hdue : d.tb.pllT.searchAt + 2000 ≤ d.now) :
    d.bandSearchDone .t band = ((d.setObj Obj.PLLT_STATE 2).setObj Obj.PLLT_BAND band).updT (fun p => { p with countFrom := d.now }) :=
  if_pos ⟨hstate, hdue⟩

theorem bandSearchDone_s (hstate : d.obj Obj.PLLS_STATE = 1) (hdue : d.tb.pllS.searchAt + 2000 ≤ d.now) :
    d.bandSearchDone .s band = ((d.setObj Obj.PLLS_STATE 2).setObj Obj.PLLS_BAND band).updS (fun p => { p with countFrom := d.now }) :=
  if_pos ⟨hstate, hdue⟩

end

/-! ## PLL-T locks (R114, R115, R122) -/

section
variable (d : Dev)

theorem relockBoth_keeps : d.KeepsBut d.relockBoth [Obj.PLLS_STATE, Obj.PLLS_BAND] := fun k hk he => by
  simp only [List.mem_cons, List.not_mem_nil, or_false, not_or] at hk
  obtain ⟨hstate, hband⟩ := hk
  have hsearched : (if d.state == stConfig then d.searchS.stopSerdes else d.searchS).obj k = d.obj k := by
    have hsearch : d.searchS.obj k = d.obj k := by rw [searchS_obj, if_neg (Ne.symm hband), if_neg (Ne.symm hstate)]
    split
    · exact hsearch
    · exact hsearch
  exact (raise_obj _ 0x13 3 k (by decide) he).trans hsearched

theorem relockPending_keeps : d.KeepsBut d.relockPending [Obj.PLLS_STATE, Obj.PLLS_BAND] := fun k hk he => by
  unfold Dev.relockPending
  split
  · rfl
  · dsimp only
    split
    · exact relockBoth_keeps _ k hk he
    · rfl

theorem relockBoth_running : d.relockBoth.tb.running = d.tb.running := by
  refine (congrArg TimeBase.running (reported_raise _ 0x13 3 (by decide)).tb).trans ?_
  show (if d.state == stConfig then d.searchS.stopSerdes else d.searchS).tb.running = d.tb.running
  split <;> rfl

theorem relockPending_running : d.relockPending.tb.running = d.tb.running := by
  unfold Dev.relockPending
  split
  · rfl
  · dsimp only
    split
    · exact relockBoth_running _
    · rfl

theorem timeWork_startCounter : d.TimeWork d.startCounter := Dev.TimeWork.ite _ (Dev.TimeWork.refl d) (timeWork_tb _)

theorem startCounter_obj (k : Nat) : d.startCounter.obj k = d.obj k := by
  unfold Dev.startCounter
  split <;> rfl

theorem startCounter_running (h : d.state ≠ stSafeHold) : d.startCounter.tb.running = true := by
  unfold Dev.startCounter
  cases hrun : d.tb.running <;> simp [h, hrun]

theorem startCounter_waits : d.startCounter.tb.heldService = d.tb.heldService ∧ d.startCounter.tb.stepQ = d.tb.stepQ := by
  unfold Dev.startCounter
  split <;> exact ⟨rfl, rfl⟩

theorem relockPending_ctl : d.relockPending.ctl = d.ctl := by
  have hboth : ∀ d : Dev, d.relockBoth.ctl = d.ctl := fun d => by
    refine (reported_raise _ 0x13 3 (by decide)).ctl.trans ?_
    show (if d.state == stConfig then d.searchS.stopSerdes else d.searchS).ctl = d.ctl
    split <;> rfl
  unfold Dev.relockPending
  split
  · rfl
  · dsimp only
    split
    · exact hboth _
    · rfl

theorem pumpStep_none (h : d.tb.stepQ = []) : d.pumpStep = d := by
  unfold Dev.pumpStep
  rw [h]

/-- What PLL-T's lock shows. -/
structure Dev.LocksT (d e : Dev) : Prop where
  work : d.TimeWork e
  locked : e.obj Obj.PLLT_STATE = 3
  offset : e.obj Obj.PLLT_OFFSET = raw 32 d.tb.pllT.target
  drift : e.obj Obj.PLLT_DRIFT = 0
  backup : e.obj Obj.BACKUP_ACTIVE = 0
  running : d.state ≠ stSafeHold → e.tb.running = true
  told : e.latched 0x10 = true
  cause : d.ctl.causeReq = none → e.ctl.causeReq = none

theorem lockT_locks (hheld : d.tb.heldService = false) (hsteps : d.tb.stepQ = []) : d.LocksT d.lockT := by
  unfold Dev.lockT
  extract_lets t locked placed kept tb clocked started wasOn off off' told held emptied last
  have hkept : d.TimeWork clocked := ((((timeWork_setObj Obj.PLLT_STATE 3 (by decide)).trans (timeWork_setObj Obj.PLLT_OFFSET _ (by decide))).trans
    (timeWork_setObj Obj.PLLT_DRIFT 0 (by decide))).trans (timeWork_updT _)).trans (timeWork_tb _)
  have hstarted : d.TimeWork off := (hkept.trans (timeWork_startCounter clocked)).trans (timeWork_setObj Obj.BACKUP_ACTIVE _ (by decide))
  have htold : Reported off told := by
    refine Reported.trans ?_ (reported_raise off' 0x10 _ (by decide))
    unfold off'
    split
    · exact reported_raise off 0x18 0 (by decide)
    · exact Reported.refl off
  have hlatch : told.latched 0x10 = true := latched_raise off' 0x10 _ (by decide)
  have hwork : d.TimeWork last := (hstarted.trans htold.timeWork).trans (timeWork_tb _)
  obtain ⟨hwaits, hqueue⟩ := startCounter_waits clocked
  have hnone : held = false := (congrArg TimeBase.heldService htold.tb).trans (hwaits.trans hheld)
  have hempty : last.tb.stepQ = [] := (congrArg TimeBase.stepQ htold.tb).trans (hqueue.trans hsteps)
  have hobj : ∀ k, eventKey k = false → last.obj k = if Obj.BACKUP_ACTIVE = k then 0 else if Obj.PLLT_DRIFT = k then 0
      else if Obj.PLLT_OFFSET = k then raw 32 d.tb.pllT.target else if Obj.PLLT_STATE = k then 3 else d.obj k := fun k hk => by
    refine (htold.obj k hk).trans ((Dev.obj_setObjB _ _ _ _).trans ?_)
    rw [startCounter_obj]
    show (if Obj.BACKUP_ACTIVE = k then _ else placed.obj k) = _
    rw [Dev.obj_setObj, Dev.obj_setObjI, Dev.obj_setObj]
    rfl
  rw [hnone, Bool.false_and, if_neg (by decide), pumpStep_none last hempty]
  have hkeeps := relockPending_keeps last
  have hpending := timeWork_relockPending last
  refine ⟨hwork.trans hpending, ?_, ?_, ?_, ?_, fun hrun => ?_, hpending.latch _ (by decide) hlatch, fun hcause => ?_⟩
  · rw [hkeeps _ (by decide) (by decide), hobj _ (by decide)]
    rfl
  · rw [hkeeps _ (by decide) (by decide), hobj _ (by decide)]
    rfl
  · rw [hkeeps _ (by decide) (by decide), hobj _ (by decide)]
    rfl
  · rw [hkeeps _ (by decide) (by decide), hobj _ (by decide)]
    rfl
  · have hstate : clocked.state ≠ stSafeHold := by
      rw [hkept.state]
      exact hrun
    rw [relockPending_running]
    exact (congrArg TimeBase.running htold.tb).trans (startCounter_running clocked hstate)
  · rw [relockPending_ctl]
    refine (congrArg DevCtl.causeReq htold.ctl).trans ?_
    show clocked.startCounter.ctl.causeReq = none
    unfold Dev.startCounter
    rw [apply_ite Dev.ctl, ite_self]
    exact hcause

end

/-! ## PLL-S locks and loses lock (R124, R126, R129) -/

section
variable (d : Dev)

/-- PLL-S locked, before the relock that waits for it. -/
theorem lockS_shows (hstate : d.obj Obj.PLLS_STATE = 2) (hcounted : d.tb.pllS.counted periodS d.now = true) :
    ∃ e, d.TimeWork e ∧ e.obj Obj.PLLS_STATE = 3 ∧ e.latched 0x12 = true ∧ e.obj Obj.REF_ACTIVE = d.obj Obj.REF_ACTIVE ∧
      e.tb.serdesStopped = (d.tb.serdesStopped && d.tb.tRelock.isSome) ∧
      d.lockS = match d.tb.tRelock with
        | none => e
        | some change => e.relockBy change := by
  unfold Dev.lockS
  rw [if_neg (by simp [hstate, hcounted])]
  extract_lets locked kept pending tb freed told
  have hreport : Reported freed told := reported_raise freed 0x12 _ (by decide)
  have hfreed : d.TimeWork freed := ((timeWork_setObj Obj.PLLS_STATE 3 (by decide)).trans (timeWork_updS _)).trans (timeWork_tb _)
  refine ⟨told, hfreed.trans hreport.timeWork, ?_, latched_raise freed 0x12 _ (by decide), ?_, congrArg TimeBase.serdesStopped hreport.tb, rfl⟩
  · exact (hreport.obj _ (by decide)).trans (show locked.obj Obj.PLLS_STATE = 3 from Dev.obj_setObj_same d _ _)
  · exact (hreport.obj _ (by decide)).trans (show locked.obj Obj.REF_ACTIVE = _ from Dev.obj_setObj_ne d _ _ _ (by decide))

/-- What the loss of PLL-S shows (R37, R124, R129). -/
theorem dropS_shows (cause : Nat) (hboot : d.state ≠ stBoot) (hnone : d.ctl.causeReq = none) :
    (d.dropS cause).latched 0x13 = true ∧
    (d.dropS cause).obj Obj.PLLS_STATE = (if d.state = stConfig ∧ d.obj Obj.REF_ACTIVE ≠ 0xFF then 1 else 5) ∧
    (d.state = stConfig → (d.dropS cause).tb.serdesStopped = true) ∧
    (d.state ≠ stConfig → (d.dropS cause).ctl.causeReq = some (if d.objB Obj.BACKUP_ACTIVE then 3 else 6, 0)) := by
  unfold Dev.dropS
  extract_lets relocks searched told
  have hreport : Reported searched told := reported_raise searched 0x13 cause (by decide)
  have hlatch : told.latched 0x13 = true := latched_raise searched 0x13 cause (by decide)
  have hsearched : searched = if d.state = stConfig then d.searchS.stopSerdes else d.setObj Obj.PLLS_STATE 5 := by
    simp [searched, hboot]
  have hshown : searched.obj Obj.PLLS_STATE = if d.state = stConfig ∧ d.obj Obj.REF_ACTIVE ≠ 0xFF then 1 else 5 := by
    rw [hsearched]
    by_cases hconfig : d.state = stConfig
    · rw [if_pos hconfig]
      exact (searchS_obj d _).trans (by by_cases hblind : d.obj Obj.REF_ACTIVE = 0xFF <;> simp [hconfig, hblind])
    · rw [if_neg hconfig, if_neg (fun h => hconfig h.1), Dev.obj_setObj_same]
  have hbackup : told.objB Obj.BACKUP_ACTIVE = d.objB Obj.BACKUP_ACTIVE := by
    rw [Dev.objB, hreport.obj _ (by decide), hsearched, Dev.objB]
    split
    · exact congrArg (· != 0) ((searchS_obj d _).trans (by simp))
    · rw [Dev.obj_setObj_ne _ _ _ _ (by decide)]
  have hcause : told.ctl.causeReq = none := by
    rw [hreport.ctl, hsearched]
    split <;> exact hnone
  have hstopped : d.state = stConfig → told.tb.serdesStopped = true := fun hconfig => by
    rw [hreport.tb, hsearched, if_pos hconfig]
    rfl
  have hrelocks : relocks = true ↔ d.state = stConfig := by simp [relocks, hboot]
  have hshown' : told.obj Obj.PLLS_STATE = _ := (hreport.obj _ (by decide)).trans hshown
  rw [hbackup]
  by_cases hon : d.objB Obj.BACKUP_ACTIVE = true
  · rw [if_pos hon, if_pos hon, reqCause_latched, reqCause_obj, reqCause_tb]
    exact ⟨hlatch, hshown', hstopped, fun _ => reqCause_first told 3 0 hcause⟩
  · rw [if_neg hon, if_neg hon]
    by_cases hconfig : d.state = stConfig
    · rw [if_pos (hrelocks.mpr hconfig)]
      exact ⟨hlatch, hshown', hstopped, fun h => absurd hconfig h⟩
    · rw [if_neg (fun h => hconfig (hrelocks.mp h)), reqCause_latched, reqCause_obj, reqCause_tb]
      exact ⟨hlatch, hshown', hstopped, fun _ => reqCause_first told 6 0 hcause⟩

end

/-! ## The commands -/

/-- A command of the time base answers with what its work and the end of the event leave. -/
theorem answers_ticked {c : Instr} {s : State} {P : State → Prop} (f : Dev → Dev) (hc : exec c s = s.onDevH (fun d => (f d).clockStep))
    (h : P { s with dev := (f s.dev.fresh).ticked }) : Answers c s P := answers_onDevH _ hc h

section
variable {s : State} (hboot : s.dev.state ≠ stBoot)
include hboot

theorem plltLock_counted (hstate : s.dev.obj Obj.PLLT_STATE = 2) (hcounted : s.dev.tb.pllT.counted s.dev.periodT s.dev.now = true)
    (hheld : s.dev.tb.heldService = false) (hsteps : s.dev.tb.stepQ = []) :
    Answers .plltLock s (fun t => t.dev.obj Obj.PLLT_STATE = 3 ∧ t.dev.obj Obj.PLLT_OFFSET = raw 32 s.dev.tb.pllT.target ∧
      t.dev.obj Obj.PLLT_DRIFT = 0 ∧ t.dev.obj Obj.BACKUP_ACTIVE = 0 ∧ (s.dev.state ≠ stSafeHold → t.dev.tb.running = true) ∧
      t.dev.latched 0x10 = true) := by
  refine answers_ticked Dev.pllTLock rfl ?_
  have hlock : s.dev.fresh.pllTLock = s.dev.fresh.lockT := if_pos ⟨hstate, hcounted⟩
  have hlocks := lockT_locks s.dev.fresh hheld hsteps
  have htiming := hlocks.work.ticked rfl hboot
  have hleft : s.dev.fresh.lockT.state ≠ stBoot := by
    rw [hlocks.work.state]
    exact hboot
  rw [hlock]
  refine ⟨(timing_obj htiming (by decide)).trans hlocks.locked, (timing_obj htiming (by decide)).trans hlocks.offset,
    (timing_obj htiming (by decide)).trans hlocks.drift, (timing_obj htiming (by decide)).trans hlocks.backup, fun hrun => ?_,
    (timing_latched htiming (by decide)).trans hlocks.told⟩
  exact (ticked_running hleft (hlocks.cause rfl)).trans (hlocks.running hrun)

theorem plltLock_early (hstate : s.dev.obj Obj.PLLT_STATE = 2) (hcounted : s.dev.tb.pllT.counted s.dev.periodT s.dev.now = false) :
    Answers .plltLock s (fun t => t.dev.obj Obj.PLLT_STATE = 2) := by
  refine answers_ticked Dev.pllTLock rfl ?_
  have hidle : s.dev.fresh.pllTLock = s.dev.fresh := if_neg (fun h => by
    have hcounted' := h.2
    exact absurd (hcounted.symm.trans hcounted') (by decide))
  rw [hidle]
  exact (timing_obj ((Dev.TimeWork.refl s.dev.fresh).ticked rfl hboot) (by decide)).trans hstate

theorem pllsLock_alone (hstate : s.dev.obj Obj.PLLS_STATE = 2) (hcounted : s.dev.tb.pllS.counted periodS s.dev.now = true)
    (hnone : s.dev.tb.tRelock = none) : Answers .pllsLock s (fun t => t.dev.obj Obj.PLLS_STATE = 3 ∧ t.dev.latched 0x12 = true ∧
      t.dev.tb.serdesStopped = false) := by
  refine answers_ticked Dev.lockS rfl ?_
  obtain ⟨e, hwork, hlocked, htold, -, hserdes, heq⟩ := lockS_shows s.dev.fresh hstate hcounted
  have hnone' : s.dev.fresh.tb.tRelock = none := hnone
  rw [hnone'] at heq hserdes
  have htiming := hwork.ticked rfl hboot
  rw [show s.dev.fresh.lockS = e from heq]
  exact ⟨(timing_obj htiming (by decide)).trans hlocked, (timing_latched htiming (by decide)).trans htold,
    (timing_serdesStopped htiming).trans (hserdes.trans (Bool.and_false _))⟩

theorem pllsLock_relocks (hstate : s.dev.obj Obj.PLLS_STATE = 2) (hcounted : s.dev.tb.pllS.counted periodS s.dev.now = true)
    (change : Int) (hsome : s.dev.tb.tRelock = some change) (hactive : s.dev.obj Obj.REF_ACTIVE ≠ 0xFF) :
    Answers .pllsLock s (fun t => t.dev.obj Obj.PLLS_STATE = 3 ∧ t.dev.latched 0x12 = true ∧ t.dev.obj Obj.PLLT_STATE = 1 ∧
      t.dev.obj Obj.BACKUP_ACTIVE = 1 ∧ t.dev.latched 0x11 = true) := by
  refine answers_ticked Dev.lockS rfl ?_
  obtain ⟨e, hwork, hlocked, htold, href, -, heq⟩ := lockS_shows s.dev.fresh hstate hcounted
  have hsome' : s.dev.fresh.tb.tRelock = some change := hsome
  rw [hsome'] at heq
  have hrelock := timeWork_relockBy e change
  have htiming := (hwork.trans hrelock).ticked rfl hboot
  obtain ⟨hsearching, hbackup⟩ := relockT_searches (e.queueSteps []) 3 (e.goalT + e.tb.stepSum + change) (by
    show e.obj Obj.REF_ACTIVE ≠ 0xFF
    rw [href]
    exact hactive)
  have hkept : (e.relockBy change).obj Obj.PLLS_STATE = 3 :=
    (relockT_keeps (e.queueSteps []) 3 (e.goalT + e.tb.stepSum + change) Obj.PLLS_STATE (by decide) (by decide)).trans hlocked
  rw [show s.dev.fresh.lockS = e.relockBy change from heq]
  exact ⟨(timing_obj htiming (by decide)).trans hkept, (timing_latched htiming (by decide)).trans (hrelock.latch _ (by decide) htold),
    (timing_obj htiming (by decide)).trans hsearching, (timing_obj htiming (by decide)).trans hbackup,
    (timing_latched htiming (by decide)).trans (relockT_latched (e.queueSteps []) 3 _)⟩

theorem plltUnlock_relocks (hstate : s.dev.obj Obj.PLLT_STATE = 3) (hactive : s.dev.obj Obj.REF_ACTIVE ≠ 0xFF) :
    Answers .plltUnlock s (fun t => t.dev.obj Obj.PLLT_STATE = 1 ∧ t.dev.obj Obj.BACKUP_ACTIVE = 1 ∧ t.dev.latched 0x11 = true ∧
      (s.dev.backupAvailable = false → s.dev.cycling = true → s.dev.ctl.holding = false →
        t.dev.obj Obj.SAFE_HOLD_CAUSE = 3 ∧ t.dev.ctl.holding = true ∧ t.dev.latched 0x07 = true)) := by
  refine answers_ticked (fun d => d.unlockT 1) rfl ?_
  have hunlock : s.dev.fresh.unlockT 1 = s.dev.fresh.relockT 1 s.dev.fresh.offsetT := if_pos ⟨hstate, hactive⟩
  have hwork := timeWork_relockT s.dev.fresh 1 s.dev.fresh.offsetT
  have htiming := hwork.ticked rfl hboot
  obtain ⟨hsearching, hbackup⟩ := relockT_searches s.dev.fresh 1 s.dev.fresh.offsetT hactive
  rw [hunlock]
  refine ⟨(timing_obj htiming (by decide)).trans hsearching, (timing_obj htiming (by decide)).trans hbackup,
    (timing_latched htiming (by decide)).trans (relockT_latched _ 1 _), fun hlost hcycling hholding => ?_⟩
  refine ticked_holds ?_ (hwork.holding.trans hholding) ?_
  · rw [Dev.cycling, hwork.state]
    exact hcycling
  · rw [relockT_causeReq _ 1 _ rfl, show s.dev.fresh.backupAvailable = false from hlost]
    rfl

theorem pllsUnlock_drops (hstate : s.dev.obj Obj.PLLS_STATE = 3) :
    Answers .pllsUnlock s (fun t => t.dev.latched 0x13 = true ∧
      (s.dev.state = stConfig → s.dev.obj Obj.REF_ACTIVE ≠ 0xFF → t.dev.obj Obj.PLLS_STATE = 1 ∧ t.dev.tb.serdesStopped = true) ∧
      (s.dev.state ∈ [stReady, stRun, stService] → t.dev.obj Obj.PLLS_STATE = 5 ∧
        (s.dev.ctl.holding = false → t.dev.obj Obj.SAFE_HOLD_CAUSE = (if s.dev.objB Obj.BACKUP_ACTIVE then 3 else 6) ∧
          t.dev.ctl.holding = true))) := by
  refine answers_ticked (fun d => d.unlockS 1) rfl ?_
  have hunlock : s.dev.fresh.unlockS 1 = s.dev.fresh.dropS 1 := if_pos hstate
  have hwork := timeWork_dropS s.dev.fresh 1
  have htiming := hwork.ticked rfl hboot
  obtain ⟨htold, hshown, hstopped, hcause⟩ := dropS_shows s.dev.fresh 1 hboot rfl
  rw [hunlock]
  refine ⟨(timing_latched htiming (by decide)).trans htold, fun hconfig hactive => ⟨?_, ?_⟩, fun hcycling => ?_⟩
  · exact (timing_obj htiming (by decide)).trans (hshown.trans (if_pos ⟨hconfig, hactive⟩))
  · exact (timing_serdesStopped htiming).trans (hstopped hconfig)
  · have hstate' : s.dev.state ≠ stConfig ∧ s.dev.state ≠ stSafeHold := by
      simp only [List.mem_cons, List.not_mem_nil, or_false] at hcycling
      rcases hcycling with h | h | h <;> rw [h] <;> decide
    refine ⟨(timing_obj htiming (by decide)).trans (hshown.trans (if_neg fun h => hstate'.1 h.1)), fun hholding => ?_⟩
    obtain ⟨hdecided, hholds, -⟩ := ticked_holds (by rw [Dev.cycling, hwork.state]; simp [hboot, hstate'.2]) (hwork.holding.trans hholding)
      (hcause hstate'.1)
    exact ⟨hdecided, hholds⟩

theorem clamp_t_serving (periods : BitVec 32) (hserves : s.dev.servesT = true) (hactive : s.dev.obj Obj.REF_ACTIVE ≠ 0xFF) :
    Answers (.clamp .t periods) s (fun t => t.dev.latched 0x19 = true ∧ t.dev.latched 0x11 = true ∧ t.dev.obj Obj.PLLT_STATE = 1 ∧
      t.dev.obj Obj.BACKUP_ACTIVE = 1) := by
  refine answers_ticked (fun d => d.clamp .t periods.toNat) rfl ?_
  have hraise := reported_raise s.dev.fresh 0x19 periods.toNat (by decide)
  have hclamp : s.dev.fresh.clamp .t periods.toNat = (s.dev.fresh.raise 0x19 periods.toNat).relockT 2 s.dev.fresh.offsetT := if_pos hserves
  have hrelock := timeWork_relockT (s.dev.fresh.raise 0x19 periods.toNat) 2 s.dev.fresh.offsetT
  have htiming := (hraise.timeWork.trans hrelock).ticked rfl hboot
  obtain ⟨hsearching, hbackup⟩ := relockT_searches (s.dev.fresh.raise 0x19 periods.toNat) 2 s.dev.fresh.offsetT (by
    rw [hraise.obj _ (by decide)]
    exact hactive)
  rw [hclamp]
  exact ⟨(timing_latched htiming (by decide)).trans (hrelock.latch _ (by decide) (latched_raise _ _ _ (by decide))),
    (timing_latched htiming (by decide)).trans (relockT_latched _ 2 _), (timing_obj htiming (by decide)).trans hsearching,
    (timing_obj htiming (by decide)).trans hbackup⟩

theorem clamp_t_counting (periods : BitVec 32) (hstate : s.dev.obj Obj.PLLT_STATE = 2) :
    Answers (.clamp .t periods) s (fun t => t.dev.tb.pllT.countFrom = s.dev.now ∧ t.dev.obj Obj.PLLT_STATE = 2) := by
  refine answers_ticked (fun d => d.clamp .t periods.toNat) rfl ?_
  have hclamp : s.dev.fresh.clamp .t periods.toNat = s.dev.fresh.updT (fun p => { p with countFrom := s.dev.now }) :=
    (if_neg (by simp [Dev.servesT, hstate])).trans (if_pos hstate)
  have htiming := (timeWork_updT (d := s.dev.fresh) (fun p => { p with countFrom := s.dev.now })).ticked rfl hboot
  rw [hclamp]
  exact ⟨congrArg Pll.countFrom (timing_pllT htiming), (timing_obj htiming (by decide)).trans hstate⟩

theorem clamp_s_serving (periods : BitVec 32) (hbackup : s.dev.backupAvailable = true) :
    Answers (.clamp .s periods) s (fun t => t.dev.latched 0x19 = true ∧ t.dev.latched 0x13 = true ∧ t.dev.backupAvailable = false) := by
  refine answers_ticked (fun d => d.clamp .s periods.toNat) rfl ?_
  have hraise := reported_raise s.dev.fresh 0x19 periods.toNat (by decide)
  have hclamp : s.dev.fresh.clamp .s periods.toNat = (s.dev.fresh.raise 0x19 periods.toNat).dropS 2 := if_pos hbackup
  have hdrop := timeWork_dropS (s.dev.fresh.raise 0x19 periods.toNat) 2
  have htiming := (hraise.timeWork.trans hdrop).ticked rfl hboot
  obtain ⟨htold, hshown, -, -⟩ := dropS_shows (s.dev.fresh.raise 0x19 periods.toNat) 2 (by rw [hraise.timeWork.state]; exact hboot)
    (congrArg DevCtl.causeReq hraise.ctl)
  rw [hclamp]
  refine ⟨(timing_latched htiming (by decide)).trans (hdrop.latch _ (by decide) (latched_raise _ _ _ (by decide))),
    (timing_latched htiming (by decide)).trans htold, ?_⟩
  rw [Dev.backupAvailable, timing_obj htiming (by decide), hshown]
  split <;> rfl

theorem clamp_s_counting (periods : BitVec 32) (hstate : s.dev.obj Obj.PLLS_STATE = 2) :
    Answers (.clamp .s periods) s (fun t => t.dev.tb.pllS.countFrom = s.dev.now ∧ t.dev.obj Obj.PLLS_STATE = 2) := by
  refine answers_ticked (fun d => d.clamp .s periods.toNat) rfl ?_
  have hclamp : s.dev.fresh.clamp .s periods.toNat = s.dev.fresh.updS (fun p => { p with countFrom := s.dev.now }) :=
    (if_neg (by simp [Dev.backupAvailable, hstate])).trans (if_pos hstate)
  have htiming := (timeWork_updS (d := s.dev.fresh) (fun p => { p with countFrom := s.dev.now })).ticked rfl hboot
  rw [hclamp]
  exact ⟨congrArg Pll.countFrom (timing_pllS htiming), (timing_obj htiming (by decide)).trans hstate⟩

end

/-- Settles O39: a band search writes its two objects alone; the other events are work of the time base, whose objects and events the links
that fall and a decision leave. -/
theorem synthesisersLockAndUnlock : Obligations.SynthesisersLockAndUnlock := by
  unfold Obligations.SynthesisersLockAndUnlock
  refine ⟨fun s band => ⟨fun hstate hdue => ?_, fun hidle => ?_, fun hstate hdue => ?_, fun hidle => ?_⟩,
    fun s hboot hstate => ⟨plltLock_counted hboot hstate, plltLock_early hboot hstate⟩,
    fun s hboot hstate hcounted => ⟨pllsLock_alone hboot hstate hcounted, pllsLock_relocks hboot hstate hcounted⟩,
    fun s hboot => plltUnlock_relocks hboot, fun s hboot => pllsUnlock_drops hboot,
    fun s periods hboot => ⟨clamp_t_serving hboot periods, clamp_t_counting hboot periods, clamp_s_serving hboot periods,
      clamp_s_counting hboot periods⟩⟩
  · refine answers_onDev (fun d => d.bandSearchDone .t band.val) rfl ?_
    rw [bandSearchDone_t s.dev.fresh band.val hstate hdue]
    exact ⟨puts_two rfl rfl rfl (by decide), by rw [settle_none _ rfl]; rfl⟩
  · refine answers_onDev (fun d => d.bandSearchDone .t band.val) rfl ?_
    rw [bandSearchDone_idle s.dev.fresh band.val .t hidle]
    exact same_of_dict rfl rfl rfl
  · refine answers_onDev (fun d => d.bandSearchDone .s band.val) rfl ?_
    rw [bandSearchDone_s s.dev.fresh band.val hstate hdue]
    exact ⟨puts_two rfl rfl rfl (by decide), by rw [settle_none _ rfl]; rfl⟩
  · refine answers_onDev (fun d => d.bandSearchDone .s band.val) rfl ?_
    rw [bandSearchDone_idle s.dev.fresh band.val .s hidle]
    exact same_of_dict rfl rfl rfl

end Sys2Proof.Machine
end

section
/-! SUPPORT. References adopted and lost (R102 to R108, R124 to R127). -/

set_option Elab.async false

namespace Sys2Proof.Machine

/-- The objects of the references (R139). -/
def refKey (k : Nat) : Bool := decide (0x020000 ≤ k) && decide (k < 0x021000)

theorem eventKey_of_refKey {k : Nat} (h : refKey k = true) : eventKey k = false := by
  simp only [refKey, eventKey] at *
  grind

/-- The time base worked and left the references as they were. -/
structure Dev.Steers (d e : Dev) : Prop where
  work : d.TimeWork e
  refs : ∀ k, refKey k = true → e.obj k = d.obj k

section
variable {d e : Dev}

theorem Dev.Steers.refl (d : Dev) : d.Steers d := ⟨Dev.TimeWork.refl d, fun _ _ => rfl⟩

theorem Dev.Steers.trans {f : Dev} (h : d.Steers e) (g : e.Steers f) : d.Steers f :=
  ⟨h.work.trans g.work, fun k hk => (g.refs k hk).trans (h.refs k hk)⟩

theorem Dev.Steers.ite {a b : Dev} (p : Prop) [Decidable p] (h : d.Steers a) (g : d.Steers b) : d.Steers (if p then a else b) := by
  split
  · exact h
  · exact g

/-- Work that keeps every object but these, none of them of the references, steers. -/
theorem Dev.TimeWork.steers {l : List Nat} (h : d.TimeWork e) (hkeeps : d.KeepsBut e l) (hl : ∀ k ∈ l, refKey k = false) : d.Steers e :=
  ⟨h, fun k hk => hkeeps k (fun hmem => by rw [hl k hmem] at hk; cases hk) (eventKey_of_refKey hk)⟩

theorem Reported.steers (h : Reported d e) : d.Steers e := ⟨h.timeWork, fun k hk => h.obj k (eventKey_of_refKey hk)⟩

theorem steers_setObj (k v : Nat) (h : timeKey k = true) (hk : refKey k = false) : d.Steers (d.setObj k v) :=
  ⟨timeWork_setObj k v h, fun j hj => Dev.obj_setObj_ne _ _ _ _ (by rintro rfl; rw [hk] at hj; cases hj)⟩

theorem steers_tb (t : TimeBase) : d.Steers { d with tb := t } := ⟨timeWork_tb t, fun _ _ => rfl⟩
theorem steers_updT (f : Pll → Pll) : d.Steers (d.updT f) := ⟨timeWork_updT f, fun _ _ => rfl⟩
theorem steers_updS (f : Pll → Pll) : d.Steers (d.updS f) := ⟨timeWork_updS f, fun _ _ => rfl⟩

end

section
variable (d : Dev)

theorem steers_searchT : d.Steers d.searchT := by
  refine (timeWork_searchT d).steers (l := [Obj.PLLT_BAND, Obj.PLLT_STATE]) (fun k hk _ => ?_) (by decide)
  simp only [List.mem_cons, List.not_mem_nil, or_false, not_or] at hk
  rw [searchT_obj, if_neg (Ne.symm hk.1), if_neg (Ne.symm hk.2)]

theorem steers_searchS : d.Steers d.searchS := by
  refine (timeWork_searchS d).steers (l := [Obj.PLLS_BAND, Obj.PLLS_STATE]) (fun k hk _ => ?_) (by decide)
  simp only [List.mem_cons, List.not_mem_nil, or_false, not_or] at hk
  rw [searchS_obj, if_neg (Ne.symm hk.1), if_neg (Ne.symm hk.2)]

theorem steers_relockBoth : d.Steers d.relockBoth := (timeWork_relockBoth d).steers (relockBoth_keeps d) (by decide)

theorem steers_relockBy (change : Int) : d.Steers (d.relockBy change) :=
  (timeWork_relockBy d change).steers (relockT_keeps (d.queueSteps []) 3 (d.goalT + d.tb.stepSum + change)) (by decide)

theorem steers_requestRelockT (change : Int) : d.Steers (d.requestRelockT change) := Dev.Steers.ite _ (steers_tb _) (steers_relockBy d change)

theorem steers_resumeT (phase : Int) : d.Steers (d.resumeT phase) := by
  unfold Dev.resumeT
  extract_lets measured locked built
  have hlocked : d.Steers locked := steers_setObj Obj.PLLT_STATE 3 (by decide) (by decide)
  have hbuilt : locked.Steers built := steers_setObj Obj.PHASE_BUILD_OUT _ (by decide) (by decide)
  exact hlocked.trans (Dev.Steers.ite _ (Dev.Steers.refl _) (hbuilt.trans (reported_raise built 0x16 _ (by decide)).steers))

theorem steers_resumeS (phase : Int) : d.Steers (d.resumeS phase) := by
  unfold Dev.resumeS
  extract_lets measured locked
  have hlocked : d.Steers locked := steers_setObj Obj.PLLS_STATE 3 (by decide) (by decide)
  exact hlocked.trans (Dev.Steers.ite _ (Dev.Steers.refl _) ((steers_updS _).trans (reported_raise _ 0x16 _ (by decide)).steers))

theorem steers_adoptFar : d.Steers d.adoptFar := by
  unfold Dev.adoptFar
  extract_lets shown
  have hshown : d.Steers shown := Dev.Steers.ite _ (steers_setObj Obj.PLLS_STATE 3 (by decide) (by decide)) (Dev.Steers.refl d)
  exact Dev.Steers.ite _ (steers_relockBoth d) (hshown.trans (Dev.Steers.ite _ (steers_requestRelockT _ 0) (Dev.Steers.refl _)))

theorem steers_adoptNear (phaseT phaseS : Int) : d.Steers (d.adoptNear phaseT phaseS) := by
  unfold Dev.adoptNear
  extract_lets resumed
  have hresumed : d.Steers resumed := Dev.Steers.ite _ (steers_resumeS d _) (Dev.Steers.refl d)
  exact hresumed.trans (Dev.Steers.ite _ (steers_resumeT _ _) (Dev.Steers.refl _))

theorem steers_startSearches : d.Steers d.startSearches := by
  unfold Dev.startSearches
  extract_lets first searched
  have hsearched : d.Steers searched := Dev.Steers.ite _ (steers_searchS d) (Dev.Steers.refl d)
  exact Dev.Steers.ite _ (hsearched.trans (steers_searchT _)) hsearched

theorem steers_coastT : d.Steers d.coastT := by
  unfold Dev.coastT
  extract_lets recent back coasting placed tb kept
  have hcoasting : d.Steers coasting := steers_setObj Obj.PLLT_STATE 4 (by decide) (by decide)
  have hplaced : coasting.Steers placed := (steers_setObj Obj.PLLT_OFFSET _ (by decide) (by decide)).trans
    (steers_setObj Obj.PLLT_DRIFT _ (by decide) (by decide))
  have hkept : placed.Steers kept := steers_tb _
  have hptp : ∀ p : Ptp, kept.Steers { kept with ptp := p } := fun p =>
    ⟨⟨fun _ _ _ => rfl, fun _ _ h => h, .inl rfl, rfl, rfl, rfl⟩, fun _ _ => rfl⟩
  split
  · exact hcoasting
  · split
    · exact ((hcoasting.trans hplaced).trans hkept).trans (hptp _)
    · exact (hcoasting.trans hplaced).trans hkept

theorem coastT_state : d.coastT.obj Obj.PLLT_STATE = 4 := by
  have htb : ∀ (e : Dev) t, ({ e with tb := t } : Dev).obj Obj.PLLT_STATE = e.obj Obj.PLLT_STATE := fun _ _ => rfl
  have hptp : ∀ (e : Dev) p, ({ e with ptp := p } : Dev).obj Obj.PLLT_STATE = e.obj Obj.PLLT_STATE := fun _ _ => rfl
  unfold Dev.coastT
  extract_lets recent back coasting placed tb kept
  have hcoasting : coasting.obj Obj.PLLT_STATE = 4 := Dev.obj_setObj_same d _ _
  have hplaced : placed.obj Obj.PLLT_STATE = 4 := by
    unfold placed
    rw [Dev.obj_setObjI, Dev.obj_setObjI, if_neg (by decide), if_neg (by decide), hcoasting]
  have hkept : kept.obj Obj.PLLT_STATE = 4 := (htb placed _).trans hplaced
  split
  · exact hcoasting
  · split
    · exact (hptp kept _).trans hkept
    · exact hkept

/-- The half of coasting that is PLL-T's. -/
def Dev.coastingT (d : Dev) : Dev :=
  let st := d.obj Obj.PLLT_STATE
  if st = 3 then d.coastT
  else if st = 1 ∨ st = 2 then (d.setObj Obj.PLLT_STATE 5).updT (fun p => { p with suspended := true })
  else d

/-- The half that is PLL-S's leaves PLL-T's. -/
theorem coast_halves : d.coastingT.Steers d.coast ∧ d.coast.obj Obj.PLLT_STATE = d.coastingT.obj Obj.PLLT_STATE := by
  have hset : ∀ (e : Dev) v, e.Steers (e.setObj Obj.PLLS_STATE v) := fun e v => steers_setObj _ v (by decide) (by decide)
  have hobj : ∀ (e : Dev) v, (e.setObj Obj.PLLS_STATE v).obj Obj.PLLT_STATE = e.obj Obj.PLLT_STATE := fun e v =>
    Dev.obj_setObj_ne e _ v _ (by decide)
  have hcoast : d.coast = if d.coastingT.obj Obj.PLLS_STATE = 3 then d.coastingT.setObj Obj.PLLS_STATE 4
      else if d.coastingT.obj Obj.PLLS_STATE = 1 ∨ d.coastingT.obj Obj.PLLS_STATE = 2 then
        (d.coastingT.setObj Obj.PLLS_STATE 5).updS (fun p => { p with suspended := true })
      else d.coastingT := rfl
  rw [hcoast]
  split
  · exact ⟨hset _ 4, hobj _ 4⟩
  · split
    · exact ⟨(hset _ 5).trans (steers_updS _), hobj _ 5⟩
    · exact ⟨Dev.Steers.refl _, rfl⟩

theorem steers_coast : d.Steers d.coast := by
  have hcoasting : d.Steers d.coastingT := Dev.Steers.ite _ (steers_coastT d) (Dev.Steers.ite _
    ((steers_setObj Obj.PLLT_STATE 5 (by decide) (by decide)).trans (steers_updT _)) (Dev.Steers.refl d))
  exact hcoasting.trans (coast_halves d).1

/-- A locked PLL-T coasts (R124). -/
theorem coast_locked (h : d.obj Obj.PLLT_STATE = 3) : d.coast.obj Obj.PLLT_STATE = 4 := by
  have hhalf : d.coastingT = d.coastT := if_pos h
  rw [(coast_halves d).2, hhalf, coastT_state]

/-! ## An input adopted -/

/-- The input shown active, coasting over, before the synthesisers follow. -/
def Dev.taken (d : Dev) (input : Nat) : Dev :=
  let d := (d.setObj Obj.REF_ACTIVE input).setObjBit Obj.REF_STATUS 2 false
  { d with tb := { d.tb with lastRef := input } }

theorem taken_obj (input k : Nat) : (d.taken input).obj k =
    if Obj.REF_STATUS = k then setBit (d.obj Obj.REF_STATUS) 2 false else if Obj.REF_ACTIVE = k then input else d.obj k := by
  change ((d.setObj Obj.REF_ACTIVE input).setObjBit Obj.REF_STATUS 2 false).obj k = _
  rw [Dev.setObjBit, Dev.obj_setObj_ne d Obj.REF_ACTIVE input Obj.REF_STATUS (by decide), Dev.obj_setObj, Dev.obj_setObj]

theorem timeWork_taken (input : Nat) : d.TimeWork (d.taken input) :=
  ((timeWork_setObj Obj.REF_ACTIVE input (by decide)).trans (timeWork_setObj Obj.REF_STATUS _ (by decide))).trans (timeWork_tb _)

/-- The synthesisers follow an input adopted without touching what the references show. -/
theorem steers_adopt (input : Nat) (diff phaseT phaseS : Int) : (d.taken input).Steers (d.adopt input diff phaseT phaseS) := by
  have htold : (d.taken input).Steers (if (d.taken input).tb.pllT.everLocked then (d.taken input).raise 0x15 (d.tb.lastRef * 256 + input)
      else d.taken input) := Dev.Steers.ite _ (reported_raise _ 0x15 _ (by decide)).steers (Dev.Steers.refl _)
  exact (htold.trans (Dev.Steers.ite _ (steers_adoptFar _) (steers_adoptNear _ phaseT phaseS))).trans (steers_startSearches _)

theorem timeWork_adopt (input : Nat) (diff phaseT phaseS : Int) : d.TimeWork (d.adopt input diff phaseT phaseS) :=
  (timeWork_taken d input).trans (steers_adopt d input diff phaseT phaseS).work

theorem adopt_active (input : Nat) (diff phaseT phaseS : Int) : (d.adopt input diff phaseT phaseS).obj Obj.REF_ACTIVE = input := by
  rw [(steers_adopt d input diff phaseT phaseS).refs _ (by decide), taken_obj, if_neg (by decide), if_pos rfl]

theorem adopt_status (input : Nat) (diff phaseT phaseS : Int) :
    (d.adopt input diff phaseT phaseS).obj Obj.REF_STATUS = setBit (d.obj Obj.REF_STATUS) 2 false := by
  rw [(steers_adopt d input diff phaseT phaseS).refs _ (by decide), taken_obj, if_pos rfl]

/-! ## A coasting PLL-T resumes (R125) -/

theorem resumeT_resumes (phase : Int) : (d.resumeT phase).obj Obj.PLLT_STATE = 3 ∧ (d.resumeT phase).tb = d.tb := by
  unfold Dev.resumeT
  extract_lets measured locked built
  have hlocked : locked.obj Obj.PLLT_STATE = 3 := Dev.obj_setObj_same d _ _
  split
  · exact ⟨hlocked, rfl⟩
  · have hreport : Reported built (built.raiseI 0x16 measured) := reported_raise built 0x16 _ (by decide)
    refine ⟨(hreport.obj _ (by decide)).trans ?_, hreport.tb⟩
    exact (Dev.obj_setObj_ne _ _ _ _ (by decide)).trans hlocked

theorem resumeS_leavesT (phase : Int) : (d.resumeS phase).obj Obj.PLLT_STATE = d.obj Obj.PLLT_STATE ∧ (d.resumeS phase).tb.pllT = d.tb.pllT := by
  unfold Dev.resumeS
  extract_lets measured locked
  have hlocked : locked.obj Obj.PLLT_STATE = d.obj Obj.PLLT_STATE := Dev.obj_setObj_ne d _ _ _ (by decide)
  split
  · exact ⟨hlocked, rfl⟩
  · have hreport := reported_raise (locked.updS (fun p => { p with buildOut := wrapHalf periodS (p.buildOut + measured) })) 0x16
      (raw 32 (sat 32 measured)) (by decide)
    exact ⟨(hreport.obj _ (by decide)).trans hlocked, (congrArg TimeBase.pllT hreport.tb).trans rfl⟩

theorem adoptNear_resumes (phaseT phaseS : Int) (h : d.servesT = true) :
    (d.adoptNear phaseT phaseS).obj Obj.PLLT_STATE = 3 ∧ (d.adoptNear phaseT phaseS).tb.pllT = d.tb.pllT := by
  unfold Dev.adoptNear
  extract_lets resumed
  have hresumed : resumed.obj Obj.PLLT_STATE = d.obj Obj.PLLT_STATE ∧ resumed.tb.pllT = d.tb.pllT := by
    unfold resumed
    split
    · exact resumeS_leavesT d phaseS
    · exact ⟨rfl, rfl⟩
  have hserves : resumed.servesT = true := by
    rw [Dev.servesT, hresumed.1]
    exact h
  rw [if_pos hserves]
  exact ⟨(resumeT_resumes resumed phaseT).1, (congrArg TimeBase.pllT (resumeT_resumes resumed phaseT).2).trans hresumed.2⟩

theorem startSearches_running (h : d.obj Obj.PLLT_STATE = 3) (hsearching : d.tb.pllT.suspended = false) :
    d.startSearches.obj Obj.PLLT_STATE = 3 := by
  have hsearched : ∀ p : Bool, (if p then d.searchS else d).obj Obj.PLLT_STATE = 3 := fun p => by
    cases p
    · exact h
    · exact (searchS_obj d _).trans h
  unfold Dev.startSearches
  simp only [hsearching, h, Bool.false_or, Nat.reduceBEq, Bool.false_and, Bool.false_eq_true, if_false]
  exact hsearched _

theorem adopt_resumes (input : Nat) (diff phaseT phaseS : Int) (hstate : d.obj Obj.PLLT_STATE = 4) (hsearching : d.tb.pllT.suspended = false)
    (hnear : absI diff ≤ 200000) : (d.adopt input diff phaseT phaseS).obj Obj.PLLT_STATE = 3 := by
  unfold Dev.adopt
  extract_lets old shown tb taken told
  have htold : Reported taken told := by
    unfold told
    split
    · exact reported_raise taken 0x15 _ (by decide)
    · exact Reported.refl taken
  have hserves : told.servesT = true := by
    rw [Dev.servesT, htold.obj _ (by decide), show taken.obj Obj.PLLT_STATE = d.obj Obj.PLLT_STATE from taken_obj d input _, hstate]
    rfl
  obtain ⟨hresumed, hpll⟩ := adoptNear_resumes told phaseT phaseS hserves
  rw [if_neg (not_lt.mpr hnear)]
  refine startSearches_running _ hresumed ?_
  rw [hpll, htold.tb]
  exact hsearching

end

end Sys2Proof.Machine
end

section
/-! SUPPORT. The commands of the references (R102 to R108). -/

set_option Elab.async false

namespace Sys2Proof.Machine

section
variable (d : Dev)

/-! ## An input qualifies (R104 to R107) -/

theorem refQualified_idle (input : Nat) (freq diff phaseT phaseS : Int)
    (h : 1000000 < absI freq ∨ d.now < getAt 0 d.tb.refFrom input + d.obj Obj.REF_QUAL_TIME * 1000000) :
    d.refQualified input freq diff phaseT phaseS = d := if_pos (by rcases h with h | h <;> simp [h])

theorem refQualified_due (input : Nat) (freq diff phaseT phaseS : Int) (hnear : absI freq ≤ 1000000)
    (hdue : getAt 0 d.tb.refFrom input + d.obj Obj.REF_QUAL_TIME * 1000000 ≤ d.now) (hnew : bit (d.obj Obj.REF_STATUS) input = false) :
    d.refQualified input freq diff phaseT phaseS = if (d.setObjBit Obj.REF_STATUS input true).refChosen input
      then (d.setObjBit Obj.REF_STATUS input true).adopt input diff phaseT phaseS else d.setObjBit Obj.REF_STATUS input true :=
  if_neg (by simp [hnear, hdue, hnew])

theorem refChosen_first (input : Nat) (hnone : d.obj Obj.REF_ACTIVE = 0xFF) (hauto : d.objB Obj.REF_AUTO = true) : d.refChosen input = true := by
  simp [Dev.refChosen, hnone, hauto]

theorem not_refChosen_other (input : Nat) (hactive : d.obj Obj.REF_ACTIVE ≠ 0xFF) (hrevert : d.objB Obj.REF_REVERT = false) :
    d.refChosen input = false := by
  simp [Dev.refChosen, hactive, hrevert]

theorem timeWork_refStatus (n : Nat) (b : Bool) : d.TimeWork (d.setObjBit Obj.REF_STATUS n b) := timeWork_setObj Obj.REF_STATUS _ (by decide)

/-! ## An input is lost (R108) -/

/-- The input's bit cleared and its edges counted anew. -/
def Dev.unqualified (d : Dev) (input : Nat) : Dev :=
  let d := d.setObjBit Obj.REF_STATUS input false
  { d with tb := { d.tb with refFrom := setAt d.tb.refFrom input d.now } }

/-- No input active, both synthesisers coasting, before any report. -/
def Dev.orphaned (d : Dev) (input : Nat) : Dev :=
  let d := (d.unqualified input).setObj Obj.REF_ACTIVE 0xFF
  (d.setObjBit Obj.REF_STATUS 2 true).coast

theorem unqualified_obj (input k : Nat) :
    (d.unqualified input).obj k = if Obj.REF_STATUS = k then setBit (d.obj Obj.REF_STATUS) input false else d.obj k := Dev.obj_setObjBit _ _ _ _ _

theorem timeWork_unqualified (input : Nat) : d.TimeWork (d.unqualified input) := (timeWork_refStatus d input false).trans (timeWork_tb _)

theorem orphaned_steers (input : Nat) :
    (((d.unqualified input).setObj Obj.REF_ACTIVE 0xFF).setObjBit Obj.REF_STATUS 2 true).Steers (d.orphaned input) := steers_coast _

theorem timeWork_orphaned (input : Nat) : d.TimeWork (d.orphaned input) :=
  (((timeWork_unqualified d input).trans (timeWork_setObj Obj.REF_ACTIVE 0xFF (by decide))).trans (timeWork_refStatus _ 2 true)).trans
    (orphaned_steers d input).work

theorem orphaned_active (input : Nat) : (d.orphaned input).obj Obj.REF_ACTIVE = 0xFF := by
  rw [(orphaned_steers d input).refs _ (by decide), Dev.obj_setObjBit, if_neg (by decide), Dev.obj_setObj_same]

theorem orphaned_status (input : Nat) : (d.orphaned input).obj Obj.REF_STATUS = setBit (setBit (d.obj Obj.REF_STATUS) input false) 2 true := by
  rw [(orphaned_steers d input).refs _ (by decide), Dev.obj_setObjBit, if_pos rfl, Dev.obj_setObj_ne _ _ _ _ (by decide), unqualified_obj, if_pos rfl]

theorem orphaned_auto (input : Nat) : (d.orphaned input).obj Obj.REF_AUTO = d.obj Obj.REF_AUTO := by
  rw [(orphaned_steers d input).refs _ (by decide), Dev.obj_setObjBit, if_neg (by decide), Dev.obj_setObj_ne _ _ _ _ (by decide), unqualified_obj,
    if_neg (by decide)]

theorem orphaned_coasts (input : Nat) (h : d.obj Obj.PLLT_STATE = 3) : (d.orphaned input).obj Obj.PLLT_STATE = 4 := by
  refine coast_locked _ ?_
  rw [Dev.obj_setObjBit, if_neg (by decide), Dev.obj_setObj_ne _ _ _ _ (by decide), unqualified_obj, if_neg (by decide), h]

theorem refLoss_idle (input : Nat) (diff phaseT phaseS : Int) (h : d.obj Obj.REF_ACTIVE ≠ input) :
    d.refLoss input diff phaseT phaseS = d.unqualified input := if_pos (by
  simp only [bne_iff_ne]
  exact fun heq => h ((unqualified_obj d input _).symm.trans heq))

theorem refLoss_active (input : Nat) (diff phaseT phaseS : Int) (h : d.obj Obj.REF_ACTIVE = input) :
    d.refLoss input diff phaseT phaseS = if ((d.orphaned input).raise 0x14 input).objB Obj.REF_AUTO &&
        bit (((d.orphaned input).raise 0x14 input).obj Obj.REF_STATUS) (1 - input)
      then ((d.orphaned input).raise 0x14 input).adopt (1 - input) diff phaseT phaseS else (d.orphaned input).raise 0x14 input := if_neg (by
  simp only [bne_iff_ne, not_not]
  exact (unqualified_obj d input _).trans h)

end

section
variable {s : State} (input : Fin 2) (hboot : s.dev.state ≠ stBoot)
include hboot

theorem refQualified_adopts (freq diff p1 p2 : Int) (hnear : absI freq ≤ 1000000)
    (hdue : getAt 0 s.dev.tb.refFrom input + s.dev.obj Obj.REF_QUAL_TIME * 1000000 ≤ s.dev.now)
    (hnew : bit (s.dev.obj Obj.REF_STATUS) input = false) :
    Answers (.refQualified input ⟨freq, diff⟩ p1 p2) s (fun t => bit (t.dev.obj Obj.REF_STATUS) input = true ∧
      (s.dev.obj Obj.REF_ACTIVE = 0xFF → s.dev.objB Obj.REF_AUTO = true → t.dev.obj Obj.REF_ACTIVE = input ∧ bit (t.dev.obj Obj.REF_STATUS) 2 = false ∧
        (s.dev.obj Obj.PLLT_STATE = 4 → s.dev.tb.pllT.suspended = false → absI diff ≤ 200000 → t.dev.obj Obj.PLLT_STATE = 3)) ∧
      (s.dev.obj Obj.REF_ACTIVE = 1 - input.val → s.dev.objB Obj.REF_REVERT = false → t.dev.obj Obj.REF_ACTIVE = 1 - input.val ∧
        t.dev.obj Obj.PLLT_STATE = s.dev.obj Obj.PLLT_STATE)) := by
  refine answers_ticked (fun d => d.refQualified input freq diff p1 p2) rfl ?_
  rw [refQualified_due s.dev.fresh input freq diff p1 p2 hnear hdue hnew]
  have hwork := timeWork_refStatus s.dev.fresh input true
  have hobj : ∀ k, (s.dev.fresh.setObjBit Obj.REF_STATUS input true).obj k =
      if Obj.REF_STATUS = k then setBit (s.dev.obj Obj.REF_STATUS) input true else s.dev.obj k := fun k => Dev.obj_setObjBit _ _ _ _ _
  by_cases hchosen : (s.dev.fresh.setObjBit Obj.REF_STATUS input true).refChosen input = true
  · rw [if_pos hchosen]
    have htiming := (hwork.trans (timeWork_adopt _ input diff p1 p2)).ticked rfl hboot
    have hstatus := (timing_obj htiming (by decide)).trans (adopt_status (s.dev.fresh.setObjBit Obj.REF_STATUS input true) input diff p1 p2)
    have hactive := (timing_obj htiming (by decide)).trans (adopt_active (s.dev.fresh.setObjBit Obj.REF_STATUS input true) input diff p1 p2)
    rw [hobj, if_pos rfl] at hstatus
    refine ⟨?_, fun hnone hauto => ⟨hactive, ?_, fun hcoasts hsearching hslow => ?_⟩, fun hother hrevert => ?_⟩
    · rw [hstatus, bit_setBit_false, bit_setBit_true]
      simp [show (input : Nat) ≠ 2 by omega]
    · rw [hstatus, bit_setBit_false]
      simp
    · exact (timing_obj htiming (by decide)).trans (adopt_resumes _ input diff p1 p2 ((hobj _).trans hcoasts) hsearching hslow)
    · have hnot := not_refChosen_other (s.dev.fresh.setObjBit Obj.REF_STATUS input true) input
        (by rw [hobj, if_neg (by decide), hother]; omega) (by rw [Dev.objB, hobj, if_neg (by decide)]; exact hrevert)
      exact absurd (hchosen.symm.trans hnot) (by decide)
  · rw [if_neg hchosen]
    have htiming := hwork.ticked rfl hboot
    have hshown : ∀ k, timeKey k = true → _ := fun k hk => (timing_obj htiming hk).trans (hobj k)
    refine ⟨?_, fun hnone hauto => ?_, fun hother hrevert => ⟨(hshown _ (by decide)).trans hother, hshown _ (by decide)⟩⟩
    · rw [hshown _ (by decide), if_pos rfl, bit_setBit_true]
      simp
    · exact absurd (refChosen_first _ input ((hobj _).trans hnone) (by rw [Dev.objB, hobj, if_neg (by decide)]; exact hauto)) hchosen

theorem refQualified_early (freq diff p1 p2 : Int)
    (h : 1000000 < absI freq ∨ s.dev.now < getAt 0 s.dev.tb.refFrom input + s.dev.obj Obj.REF_QUAL_TIME * 1000000) :
    Answers (.refQualified input ⟨freq, diff⟩ p1 p2) s (fun t =>
      t.dev.obj Obj.REF_STATUS = s.dev.obj Obj.REF_STATUS ∧ t.dev.obj Obj.REF_ACTIVE = s.dev.obj Obj.REF_ACTIVE) := by
  refine answers_ticked (fun d => d.refQualified input freq diff p1 p2) rfl ?_
  rw [refQualified_idle s.dev.fresh input freq diff p1 p2 h]
  have htiming := (Dev.TimeWork.refl s.dev.fresh).ticked rfl hboot
  exact ⟨timing_obj htiming (by decide), timing_obj htiming (by decide)⟩

theorem refLoss_clears (diff p1 p2 : Int) :
    Answers (.refLoss input diff p1 p2) s (fun t => bit (t.dev.obj Obj.REF_STATUS) input = false ∧
      (s.dev.obj Obj.REF_ACTIVE ≠ input.val → t.dev.obj Obj.REF_ACTIVE = s.dev.obj Obj.REF_ACTIVE) ∧
      (s.dev.obj Obj.REF_ACTIVE = input.val → t.dev.latched 0x14 = true ∧
        (s.dev.objB Obj.REF_AUTO = false ∨ bit (s.dev.obj Obj.REF_STATUS) (1 - input.val) = false →
          t.dev.obj Obj.REF_ACTIVE = 0xFF ∧ bit (t.dev.obj Obj.REF_STATUS) 2 = true ∧
          (s.dev.obj Obj.PLLT_STATE = 3 → t.dev.obj Obj.PLLT_STATE = 4)) ∧
        (s.dev.objB Obj.REF_AUTO = true → bit (s.dev.obj Obj.REF_STATUS) (1 - input.val) = true →
          t.dev.obj Obj.REF_ACTIVE = 1 - input.val ∧ bit (t.dev.obj Obj.REF_STATUS) 2 = false))) := by
  refine answers_ticked (fun d => d.refLoss input diff p1 p2) rfl ?_
  by_cases hact : s.dev.obj Obj.REF_ACTIVE = input.val
  · rw [refLoss_active s.dev.fresh input diff p1 p2 hact]
    have hraise := reported_raise (s.dev.fresh.orphaned input) 0x14 input (by decide)
    have htold : ((s.dev.fresh.orphaned input).raise 0x14 input).latched 0x14 = true := latched_raise _ _ _ (by decide)
    have hwork := (timeWork_orphaned s.dev.fresh input).trans hraise.timeWork
    have hstatus : ((s.dev.fresh.orphaned input).raise 0x14 input).obj Obj.REF_STATUS =
        setBit (setBit (s.dev.obj Obj.REF_STATUS) input false) 2 true := (hraise.obj _ (by decide)).trans (orphaned_status s.dev.fresh input)
    have hauto : ((s.dev.fresh.orphaned input).raise 0x14 input).objB Obj.REF_AUTO = s.dev.objB Obj.REF_AUTO := by
      rw [Dev.objB, hraise.obj _ (by decide), orphaned_auto]
      rfl
    have hother : bit (setBit (setBit (s.dev.obj Obj.REF_STATUS) input false) 2 true) (1 - input.val) =
        bit (s.dev.obj Obj.REF_STATUS) (1 - input.val) := by
      rw [bit_setBit_true, bit_setBit_false]
      have hne : (1 - input.val != input.val) = true ∧ (1 - input.val == 2) = false := by
        simp only [bne_iff_ne, beq_eq_false_iff_ne]
        omega
      rw [hne.1, hne.2, Bool.and_true, Bool.or_false]
    have hinput : bit (setBit (setBit (s.dev.obj Obj.REF_STATUS) input false) 2 true) input = false := by
      rw [bit_setBit_true, bit_setBit_false]
      simp [show (input : Nat) ≠ 2 by omega]
    rw [hauto, hstatus, hother]
    by_cases hadopts : (s.dev.objB Obj.REF_AUTO && bit (s.dev.obj Obj.REF_STATUS) (1 - input.val)) = true
    · rw [if_pos hadopts]
      obtain ⟨hauto', hbit⟩ := Bool.and_eq_true_iff.mp hadopts
      have hadopt := timeWork_adopt ((s.dev.fresh.orphaned input).raise 0x14 input) (1 - input.val) diff p1 p2
      have htiming := (hwork.trans hadopt).ticked rfl hboot
      have hshown := (timing_obj htiming (by decide)).trans (adopt_status _ (1 - input.val) diff p1 p2)
      rw [hstatus] at hshown
      refine ⟨?_, fun h => absurd hact h, fun _ => ⟨(timing_latched htiming (by decide)).trans (hadopt.latch _ (by decide) htold),
        fun h => ?_, fun _ _ => ⟨(timing_obj htiming (by decide)).trans (adopt_active _ _ diff p1 p2), ?_⟩⟩⟩
      · rw [hshown, bit_setBit_false, hinput]
        rfl
      · rcases h with h | h
        · exact absurd (hauto'.symm.trans h) (by decide)
        · exact absurd (hbit.symm.trans h) (by decide)
      · rw [hshown, bit_setBit_false]
        simp
    · rw [if_neg hadopts]
      have htiming := hwork.ticked rfl hboot
      have hshown := (timing_obj htiming (by decide)).trans hstatus
      refine ⟨by rw [hshown, hinput], fun h => absurd hact h, fun _ => ⟨(timing_latched htiming (by decide)).trans htold,
        fun _ => ⟨?_, ?_, fun hlocked => ?_⟩, fun hauto' hbit => absurd (Bool.and_eq_true_iff.mpr ⟨hauto', hbit⟩) hadopts⟩⟩
      · exact (timing_obj htiming (by decide)).trans ((hraise.obj _ (by decide)).trans (orphaned_active s.dev.fresh input))
      · rw [hshown, bit_setBit_true]
        simp
      · exact (timing_obj htiming (by decide)).trans ((hraise.obj _ (by decide)).trans (orphaned_coasts s.dev.fresh input hlocked))
  · rw [refLoss_idle s.dev.fresh input diff p1 p2 hact]
    have htiming := (timeWork_unqualified s.dev.fresh input).ticked rfl hboot
    have hshown : ∀ k, timeKey k = true → _ := fun k hk => (timing_obj htiming hk).trans (unqualified_obj s.dev.fresh input k)
    refine ⟨?_, fun _ => hshown _ (by decide), fun h => absurd h hact⟩
    rw [hshown _ (by decide), if_pos rfl, bit_setBit_false]
    simp

end

/-- Settles O38: adoption and loss are work of the time base; what the synthesisers do to follow leaves the references' objects, and the end of
the event leaves both. -/
theorem referencesAreAdoptedAndLost : Obligations.ReferencesAreAdoptedAndLost := by
  unfold Obligations.ReferencesAreAdoptedAndLost
  exact ⟨fun s input freq diff p1 p2 hboot => ⟨refQualified_adopts input hboot freq diff p1 p2, refQualified_early input hboot freq diff p1 p2⟩,
    fun s input diff p1 p2 hboot => refLoss_clears input hboot diff p1 p2⟩

end Sys2Proof.Machine
end

section
/-! SUPPORT. The counter's tick and the speeds of a move, as numbers (R120, R131, R331 to R333). -/

set_option Elab.async false

namespace Sys2Proof.Machine

/-! ## The counter (R120, R131) -/

/-- Before the mark the counter takes what stands to the next 125th nanosecond. -/
theorem tick_before (b : TimeBase) (slew : Int) (h : 125 - b.ahead < 1000 - b.sinceMark) :
    b.tick slew = { (b.addNs (125 - b.ahead)) with
      ahead := 0, sinceMark := b.sinceMark + (125 - b.ahead), periods := b.periods + (125 - b.ahead) } := if_pos h

/-- The clock periods of a tick that reaches the mark. -/
def TimeBase.markPeriods (b : TimeBase) (slew : Int) : Nat :=
  max (1000 - b.sinceMark) (((125 - b.ahead : Nat) : Int) - (b.frac + slew) / 65536).toNat

/-- The nanoseconds such a tick gains, with the carry of the fraction. -/
def TimeBase.markGain (b : TimeBase) (slew : Int) : Nat := ((b.markPeriods slew : Int) + (b.frac + slew) / 65536).toNat

theorem tick_mark (b : TimeBase) (slew : Int) (h : 1000 - b.sinceMark ≤ 125 - b.ahead) :
    b.tick slew = { (b.addNs (b.markGain slew)) with
      frac := (((b.frac : Int) + slew) % 65536).toNat, ahead := b.markGain slew - (125 - b.ahead),
      sinceMark := b.markPeriods slew - (1000 - b.sinceMark), periods := b.periods + b.markPeriods slew } := if_neg (not_lt.mpr h)

/-- The tick at the mark gains the nanoseconds it needs, and what the carry puts past them. -/
theorem markGain_need (b : TimeBase) (slew : Int) : 125 - b.ahead ≤ b.markGain slew := by
  unfold TimeBase.markGain TimeBase.markPeriods
  omega

theorem markGain_unslewed (b : TimeBase) (h : 1000 - b.sinceMark ≤ 125 - b.ahead) (hfrac : b.frac < 65536) : b.markGain 0 = 125 - b.ahead := by
  unfold TimeBase.markGain TimeBase.markPeriods
  omega

theorem tick_counter (b : TimeBase) (slew : Int) :
    (b.tick slew).ns = (b.ns + (125 - b.ahead + (b.tick slew).ahead)) % 1000000000 ∧
    (b.tick slew).sec = (b.sec + (b.ns + (125 - b.ahead + (b.tick slew).ahead)) / 1000000000) % 2 ^ 48 ∧
    (125 - b.ahead < 1000 - b.sinceMark → (b.tick slew).frac = b.frac ∧ (b.tick slew).ahead = 0) ∧
    (1000 - b.sinceMark ≤ 125 - b.ahead → ((b.tick slew).frac : Int) = (b.frac + slew) % 65536) ∧
    (slew = 0 → b.frac < 65536 → (b.tick slew).ahead = 0) := by
  by_cases h : 125 - b.ahead < 1000 - b.sinceMark
  · rw [tick_before b slew h]
    exact ⟨rfl, rfl, fun _ => ⟨rfl, rfl⟩, fun h' => absurd h (not_lt.mpr h'), fun _ _ => rfl⟩
  · have hmark := not_lt.mp h
    have hgain : 125 - b.ahead + (b.markGain slew - (125 - b.ahead)) = b.markGain slew := Nat.add_sub_cancel' (markGain_need b slew)
    rw [tick_mark b slew hmark]
    dsimp only
    rw [hgain]
    refine ⟨rfl, rfl, fun h' => absurd h' h, fun _ => Int.toNat_of_nonneg (Int.emod_nonneg _ (by decide)), fun hslew hfrac => ?_⟩
    rw [hslew, markGain_unslewed b hmark hfrac, Nat.sub_self]

/-! ## The speeds of a move (R331, R333) -/

theorem down_between {c : GenCfg} {u : Int} (hve : 0 ≤ c.ve) (hd1 : 0 ≤ c.d1) (hd2 : 0 ≤ c.d2) (hu : 0 ≤ u) :
    0 ≤ c.down c.ve u ∧ c.down c.ve u ≤ u := by
  unfold GenCfg.down
  dsimp only
  split <;> omega

theorem up_between {c : GenCfg} {u : Int} (hu : 0 ≤ u) (hmax : u ≤ c.vmax) : 0 ≤ c.up c.vmax u ∧ c.up c.vmax u ≤ c.vmax := by
  unfold GenCfg.up
  split <;> omega

theorem startSpeed_between {v : Int} (hv : 0 ≤ v) : 0 ≤ sra v 24 * 16777216 ∧ sra v 24 * 16777216 ≤ v := by
  unfold sra
  norm_num
  omega

theorem absI_signed {s v vmax : Int} (hs : s = 1 ∨ s = -1) (hlo : 0 ≤ v) (hhi : v ≤ vmax) : absI (s * v) ≤ vmax := by
  unfold absI
  rcases hs with rfl | rfl <;> split <;> omega

@[simp] theorem Gen.show_vel (g : Gen) (st : Nat) : (g.show st).vel = g.vel := by
  unfold Gen.show
  split <;> rfl

theorem tickMove_bounded (c : GenCfg) (g : Gen) (target : Int) (hvs : 0 ≤ c.vs) (hstart : c.vs ≤ c.vmax) (hve : 0 ≤ c.ve) (hd1 : 0 ≤ c.d1)
    (hd2 : 0 ≤ c.d2) (hvel : absI g.vel ≤ c.vmax) : absI (g.tickMove c target).vel ≤ c.vmax := by
  unfold Gen.tickMove
  extract_lets r0 s r u fits slower v plan w moved
  have hsign : s = 1 ∨ s = -1 := by
    unfold s
    split_ifs <;> simp
  have hu : 0 ≤ u := by
    unfold u absI
    split <;> omega
  have hdown := down_between hve hd1 hd2 hu
  have hv : 0 ≤ v ∧ v ≤ c.vmax := by
    unfold v
    rw [if_neg (not_lt.mpr hvel)]
    exact up_between hu hvel
  have hplan : 0 ≤ plan.1 ∧ plan.1 ≤ c.vmax := by
    have hfirst := startSpeed_between hvs
    have hslower : 0 ≤ c.down c.ve u ∧ c.down c.ve u ≤ c.vmax := ⟨hdown.1, hdown.2.trans hvel⟩
    unfold plan
    split
    · exact ⟨hfirst.1, hfirst.2.trans hstart⟩
    · split
      · exact hslower
      · split
        · exact hv
        · exact hslower
  split
  · show absI 0 ≤ c.vmax
    exact hvs.trans hstart
  · rw [Gen.show_vel]
    exact absI_signed hsign hplan.1 hplan.2

end Sys2Proof.Machine
end

section
/-! SUPPORT. A profile tick: the counter, the leg ports and every generator in its turn (R120, R131, R325, R331). -/

set_option Elab.async false

namespace Sys2Proof.Machine

/-! ## The counter and the waiting step -/

section
variable (d : Dev)

theorem timeWork_smallStep (ppb : Int) : d.TimeWork (d.smallStep ppb) := by
  unfold Dev.smallStep
  extract_lets tb noted drifted
  have hnoted : d.TimeWork noted := timeWork_tb _
  have hdrifted : noted.TimeWork drifted := timeWork_setObj Obj.PLLT_DRIFT _ (by decide)
  exact (hnoted.trans hdrifted).trans (timeWork_setObj Obj.PLLT_OFFSET _ (by decide))

/-- Whatever becomes of the step first in the queue, it is work of the time base. -/
theorem timeWork_pumpStep : d.TimeWork d.pumpStep := by
  have hptp : ∀ (e : Dev) (p : Ptp), e.TimeWork { e with ptp := p } := fun e p => ⟨fun _ _ _ => rfl, fun _ _ h => h, .inl rfl, rfl, rfl, rfl⟩
  unfold Dev.pumpStep
  split
  · exact Dev.TimeWork.refl d
  · extract_lets out tb taken ptp refused
    have htaken : d.TimeWork taken := timeWork_tb _
    have hrefused : taken.TimeWork refused := Dev.TimeWork.ite _ (hptp _ _) (Dev.TimeWork.refl _)
    refine Dev.TimeWork.ite _ (Dev.TimeWork.refl d) (Dev.TimeWork.ite _ (Dev.TimeWork.refl d) (Dev.TimeWork.ite _ ?_ (Dev.TimeWork.ite _ ?_ ?_)))
    · exact (htaken.trans hrefused).trans (timeWork_raise 8 _ (by decide))
    · exact htaken.trans (timeWork_smallStep _ _)
    · exact htaken.trans (timeWork_requestRelockT _ _)

/-- TIME80 and its fraction (R131). -/
def TimeBase.counter (b : TimeBase) : Nat × Nat × Nat := (b.sec, b.ns, b.frac)

theorem relockBy_counter (change : Int) : (d.relockBy change).tb.counter = d.tb.counter :=
  (congrArg TimeBase.counter (relockT_tb (d.queueSteps []) 3 (d.goalT + d.tb.stepSum + change))).trans rfl

theorem pumpStep_counter : d.pumpStep.tb.counter = d.tb.counter := by
  unfold Dev.pumpStep
  split
  · rfl
  · extract_lets out tb taken ptp refused
    have hrefused : refused.tb.counter = d.tb.counter := by
      unfold refused
      split <;> rfl
    split
    · rfl
    · split
      · rfl
      · split
        · exact (congrArg TimeBase.counter (reported_raise refused 8 _ (by decide)).tb).trans hrefused
        · split
          · rfl
          · unfold Dev.requestRelockT
            split
            · rfl
            · exact relockBy_counter taken _

/-- The tick of the time base, the elapsed time moved on (R120, R131). -/
def Dev.later (d : Dev) : Dev := { d with now := d.now + 125 }

/-- The counter's part of the tick. -/
def Dev.counting (d : Dev) : Dev :=
  if d.tb.running then ({ d with tb := d.tb.tick d.effSlew } : Dev).pumpStep
  else if d.tb.pllT.everLocked then { d with tb := { d.tb with periods := d.tb.periods + 125 } }
  else d

theorem tickTime_parts : d.tickTime = d.later.ditherTick.counting := rfl

/-- The dither is PLL-S's own (R116). -/
theorem ditherTick_updS : ∃ f, d.ditherTick = d.updS f := by
  unfold Dev.ditherTick
  split
  · exact ⟨id, rfl⟩
  · exact ⟨_, rfl⟩

theorem timeWork_tickTime : d.later.TimeWork d.tickTime := by
  obtain ⟨f, hdither⟩ := ditherTick_updS d.later
  rw [tickTime_parts, hdither]
  exact (timeWork_updS f).trans (Dev.TimeWork.ite _ ((timeWork_tb _).trans (timeWork_pumpStep _)) (Dev.TimeWork.ite _ (timeWork_tb _) (Dev.TimeWork.refl _)))

theorem counting_counter : d.counting.tb.counter = if d.tb.running then (d.tb.tick d.effSlew).counter else d.tb.counter := by
  unfold Dev.counting
  split
  · exact pumpStep_counter _
  · split <;> rfl

/-- PLL-S is no part of the counter's tick. -/
theorem tick_pllS (b : TimeBase) (p : Pll) (slew : Int) : (({ b with pllS := p } : TimeBase).tick slew).counter = (b.tick slew).counter := by
  unfold TimeBase.tick
  dsimp only
  split <;> rfl

theorem tickTime_counter : d.tickTime.tb.counter = if d.tb.running then (d.tb.tick d.effSlew).counter else d.tb.counter := by
  obtain ⟨f, hdither⟩ := ditherTick_updS d.later
  rw [tickTime_parts, hdither, counting_counter]
  exact congrArg (fun c => if d.tb.running then c else d.tb.counter) (tick_pllS d.tb (f d.tb.pllS) d.effSlew)

end

/-! ## What a generator's turn leaves alone -/

/-- The profile objects of an axis (R321, R327). -/
def setupKey (k : Nat) : Bool := decide (0xA00000 ≤ k) && decide (0x1100 ≤ k % 0x4000) && decide (k % 0x4000 ≤ 0x1300)

/-- The leg ports or a generator took their turn. -/
structure Dev.Turns (d e : Dev) : Prop where
  ctl : e.ctl = d.ctl
  now : e.now = d.now
  tb : e.tb = d.tb
  setup : ∀ k, setupKey k = true → e.obj k = d.obj k

section
variable {d e : Dev}

theorem Dev.Turns.refl (d : Dev) : d.Turns d := ⟨rfl, rfl, rfl, fun _ _ => rfl⟩

theorem Dev.Turns.trans {f : Dev} (h : d.Turns e) (g : e.Turns f) : d.Turns f :=
  ⟨g.ctl.trans h.ctl, g.now.trans h.now, g.tb.trans h.tb, fun k hk => (g.setup k hk).trans (h.setup k hk)⟩

theorem Dev.Turns.ite {a b : Dev} (p : Prop) [Decidable p] (h : d.Turns a) (g : d.Turns b) : d.Turns (if p then a else b) := by
  split
  · exact h
  · exact g

theorem turns_setObj (k v : Nat) (h : setupKey k = false) : d.Turns (d.setObj k v) :=
  ⟨rfl, rfl, rfl, fun j hj => Dev.obj_setObj_ne _ _ _ _ (by rintro rfl; rw [h] at hj; cases hj)⟩

theorem turns_forN (n : Nat) (f : Nat → Dev → Dev) (h : ∀ i < n, ∀ e : Dev, e.Turns (f i e)) : d.Turns (forN n f d) := by
  induction n with
  | zero => exact Dev.Turns.refl d
  | succ n ih => exact (ih fun i hi => h i (by omega)).trans (h n (by omega) _)

end

section
variable (d : Dev)

theorem turns_putGen (n : Nat) (g : Gen) : d.Turns (d.putGen n g) := by
  unfold Dev.putGen
  extract_lets moved
  have hmoved : d.Turns moved := ⟨rfl, rfl, rfl, fun _ _ => rfl⟩
  exact (hmoved.trans (turns_setObj _ _ (by grind [setupKey]))).trans (turns_setObj _ _ (by grind [setupKey]))

theorem turns_homePhase (n p : Nat) (s : Int) : d.Turns (d.homePhase n p s) :=
  (turns_putGen d n _).trans (turns_setObj (Obj.HOME_STATE n) p (by grind [setupKey]))

theorem turns_homeNext (n : Nat) : d.Turns (d.homeNext n) := by
  unfold Dev.homeNext
  extract_lets g
  refine Dev.Turns.ite _ (Dev.Turns.refl d) ?_
  split
  · exact Dev.Turns.ite _ (turns_homePhase d n _ _) (turns_homePhase d n _ _)
  · exact turns_homePhase d n _ _
  · exact Dev.Turns.refl d

theorem turns_dwellEnd (n : Nat) : d.Turns (d.dwellEnd n) := by
  unfold Dev.dwellEnd
  extract_lets g idle
  refine Dev.Turns.ite _ (Dev.Turns.refl d) ?_
  split
  · exact turns_putGen d n _
  · exact turns_putGen d n _
  · exact Dev.Turns.ite _ (turns_putGen d n _) (turns_putGen d n _)

theorem turns_genTick (n : Nat) : d.Turns (d.genTick n) := by
  unfold Dev.genTick
  extract_lets ended g t t' t''
  exact Dev.Turns.ite _ (Dev.Turns.refl d) (((turns_dwellEnd d n).trans (turns_putGen _ n _)).trans (turns_homeNext _ n))

theorem turns_pulseOutTick (o : Nat) (h : o < 8) : d.Turns (d.pulseOutTick o) := by
  unfold Dev.pulseOutTick
  extract_lets mode n q back dir step k q' left moved shown counted
  have hmoved : d.Turns moved := ⟨rfl, rfl, rfl, fun _ _ => rfl⟩
  have hshown : moved.Turns shown := turns_setObj (Obj.PO_BACKLOG o) _ (by grind [setupKey])
  have hcounted : shown.Turns counted := turns_setObj (Obj.PO_OVERRUNS o) _ (by grind [setupKey])
  exact Dev.Turns.ite _ (Dev.Turns.refl d) (Dev.Turns.ite _ (hmoved.trans hshown)
    (((hmoved.trans hshown).trans hcounted).trans (turns_putGen counted n _)))

theorem turns_startLink (n : Nat) (h : n < 20) : d.Turns (d.startLink n) := by
  unfold Dev.startLink
  extract_lets started
  have hstarted : d.Turns started := ⟨rfl, rfl, rfl, fun _ _ => rfl⟩
  exact Dev.Turns.ite _ (Dev.Turns.refl d) (hstarted.trans (turns_setObj (Obj.LEG_STATE n) 1 (by grind [setupKey])))

theorem turns_legRestarts : d.Turns d.legRestarts := by
  unfold Dev.legRestarts
  refine turns_forN 20 _ fun n hn e => ?_
  unfold Dev.legRestart
  exact Dev.Turns.ite _ (turns_startLink e n hn) (Dev.Turns.refl e)

end

/-! ## Which generator a turn moves -/

section
variable (d : Dev)

theorem gen_putGen_ne (n m : Nat) (g : Gen) (h : n ≠ m) : (d.putGen n g).gen m = d.gen m := getAt_upd_ne _ _ _ _ _ h

theorem gen_putGen_same (n : Nat) (g : Gen) (h : n < d.gens.length) : (d.putGen n g).gen n = g := getAt_upd_same _ _ _ _ h

theorem gens_length_putGen (n : Nat) (g : Gen) : (d.putGen n g).gens.length = d.gens.length := upd_length _ _ _

theorem gen_homePhase_ne (n p m : Nat) (s : Int) (h : n ≠ m) : (d.homePhase n p s).gen m = d.gen m := gen_putGen_ne d n m _ h

theorem gen_homeNext_ne (n m : Nat) (h : n ≠ m) : (d.homeNext n).gen m = d.gen m := by
  unfold Dev.homeNext
  extract_lets g
  split
  · rfl
  · split
    · split <;> exact gen_homePhase_ne d n _ m _ h
    · exact gen_homePhase_ne d n _ m _ h
    · rfl

theorem gen_dwellEnd_ne (n m : Nat) (h : n ≠ m) : (d.dwellEnd n).gen m = d.gen m := by
  unfold Dev.dwellEnd
  extract_lets g idle
  split
  · rfl
  · split
    · exact gen_putGen_ne d n m _ h
    · exact gen_putGen_ne d n m _ h
    · split <;> exact gen_putGen_ne d n m _ h

/-- A generator's turn leaves the others. -/
theorem gen_genTick_ne (n m : Nat) (h : n ≠ m) : (d.genTick n).gen m = d.gen m := by
  unfold Dev.genTick
  extract_lets ended g t t' t''
  split
  · rfl
  · exact (gen_homeNext_ne _ n m h).trans ((gen_putGen_ne ended n m _ h).trans (gen_dwellEnd_ne d n m h))

/-- A generator without work keeps. -/
theorem genTick_idle (n : Nat) (h : (d.gen n).busy = false) : d.genTick n = d := if_pos (by simp [h])

/-- A generator with work is one of the block's. -/
theorem busy_lt (n : Nat) (h : (d.gen n).busy = true) : n < d.gens.length := by
  refine lt_of_getAt_ne (dflt := initGen) fun hidle => ?_
  rw [Dev.gen, hidle] at h
  exact absurd h (by decide)

theorem dwellEnd_running (n : Nat) (h : (d.gen n).motion ≠ .dwell ∨ (d.gen n).dwell ≠ 0) : d.dwellEnd n = d :=
  if_pos (by simpa using h)

theorem homeNext_unhomed (n : Nat) (h : (d.gen n).home.phase = 0) : d.homeNext n = d := by
  unfold Dev.homeNext
  dsimp only
  rw [h]
  split <;> rfl

theorem tick_home (c : GenCfg) (dwell : Nat) (g : Gen) : (g.tick c dwell).home = g.home := by
  have hshow : ∀ (g : Gen) st, (g.show st).home = g.home := fun g st => by
    unfold Gen.show
    split <;> rfl
  unfold Gen.tick
  split
  · unfold Gen.tickGear
    split <;> rfl
  · split
    · rfl
    · rfl
    · unfold Gen.tickMove
      extract_lets r0 s r u fits slower v plan w moved
      split
      · rfl
      · exact hshow _ _
    · unfold Gen.tickSpeed
      dsimp only
      split
      · split
        · rfl
        · exact hshow _ _
      · exact hshow _ _
    · unfold Gen.tickStop
      dsimp only
      split
      · split <;> rfl
      · exact hshow _ _

/-- A generator with work takes one tick in its turn (R325). -/
theorem gen_genTick_same (n : Nat) (hbusy : (d.gen n).busy = true) (hhome : (d.gen n).home.phase = 0)
    (hdwell : (d.gen n).motion ≠ .dwell ∨ (d.gen n).dwell ≠ 0) :
    ((d.genTick n).gen n).acc = ((d.gen n).tick (d.genCfg n) (d.obj (Obj.DWELL n))).acc ∧
    ((d.genTick n).gen n).vel = ((d.gen n).tick (d.genCfg n) (d.obj (Obj.DWELL n))).vel := by
  unfold Dev.genTick
  rw [if_neg (by simp [hbusy]), dwellEnd_running d n hdwell]
  extract_lets e g t t' t''
  have hlt := busy_lt d n hbusy
  have ht' : t'.acc = t.acc ∧ t'.vel = t.vel ∧ t'.home = t.home := by
    unfold t'
    split <;> exact ⟨rfl, rfl, rfl⟩
  have ht'' : t''.acc = t.acc ∧ t''.vel = t.vel ∧ t''.home = t.home := by
    unfold t''
    split <;> exact ht'
  have hput : (e.putGen n t'').gen n = t'' := gen_putGen_same d n t'' hlt
  have hphase : ((e.putGen n t'').gen n).home.phase = 0 := by
    rw [hput, ht''.2.2, tick_home]
    exact hhome
  rw [homeNext_unhomed _ n hphase, hput]
  exact ⟨ht''.1, ht''.2.1⟩

/-! ## All in their turn -/

/-- The speeds and accelerations of a generator outside homing are its profile objects alone. -/
theorem genCfg_congr {e : Dev} (n : Nat) (hsetup : ∀ k, setupKey k = true → e.obj k = d.obj k) (hgen : e.gen n = d.gen n)
    (hhome : (d.gen n).home.phase = 0) : e.genCfg n = d.genCfg n := by
  have haccel : ∀ i < 4, e.obj (Obj.ACCELS n i) = d.obj (Obj.ACCELS n i) := fun i hi => hsetup _ (by grind [setupKey])
  unfold Dev.genCfg
  simp only [hgen, hhome, if_pos]
  rw [haccel 0 (by decide), haccel 1 (by decide), haccel 2 (by decide), haccel 3 (by decide), hsetup (Obj.VS n) (by grind [setupKey]),
    hsetup (Obj.VE n) (by grind [setupKey]), hsetup (Obj.VB n) (by grind [setupKey]), hsetup (Obj.VMAX n) (by grind [setupKey])]

theorem turns_genTicks (n : Nat) : d.Turns (forN n (fun n d => d.genTick n) d) := turns_forN n _ fun i _ e => turns_genTick e i

theorem gen_genTicks_before (n j : Nat) (h : j ≤ n) : (forN j (fun n d => d.genTick n) d).gen n = d.gen n := by
  induction j with
  | zero => rfl
  | succ j ih => exact (gen_genTick_ne _ j n (by omega)).trans (ih (by omega))

theorem gen_genTicks_after (n j : Nat) (h : n < j) :
    (forN j (fun n d => d.genTick n) d).gen n = ((forN n (fun n d => d.genTick n) d).genTick n).gen n := by
  induction j with
  | zero => omega
  | succ j ih =>
    obtain rfl | hlt := Nat.lt_succ_iff_lt_or_eq.mp h |>.symm
    · rfl
    · exact (gen_genTick_ne _ j n (by omega)).trans (ih hlt)

theorem gen_genTicks_idle (n j : Nat) (h : (d.gen n).busy = false) : (forN j (fun n d => d.genTick n) d).gen n = d.gen n := by
  by_cases hj : j ≤ n
  · exact gen_genTicks_before d n j hj
  · have hbefore := gen_genTicks_before d n n (le_refl n)
    rw [gen_genTicks_after d n j (by omega), genTick_idle _ n (by rw [hbefore]; exact h), hbefore]

/-- In its turn each generator with work takes one tick under its own speeds. -/
theorem gen_genTicks_busy (n j : Nat) (hj : n < j) (hbusy : (d.gen n).busy = true) (hhome : (d.gen n).home.phase = 0)
    (hdwell : (d.gen n).motion ≠ .dwell ∨ (d.gen n).dwell ≠ 0) :
    ((forN j (fun n d => d.genTick n) d).gen n).acc = ((d.gen n).tick (d.genCfg n) (d.obj (Obj.DWELL n))).acc ∧
    ((forN j (fun n d => d.genTick n) d).gen n).vel = ((d.gen n).tick (d.genCfg n) (d.obj (Obj.DWELL n))).vel := by
  have hbefore := gen_genTicks_before d n n (le_refl n)
  have hturns := turns_genTicks d n
  have htick := gen_genTick_same (forN n (fun n d => d.genTick n) d) n (by rw [hbefore]; exact hbusy) (by rw [hbefore]; exact hhome)
    (by rw [hbefore]; exact hdwell)
  rw [hbefore, genCfg_congr d n hturns.setup hbefore hhome, hturns.setup _ (by grind [setupKey])] at htick
  rw [gen_genTicks_after d n j hj]
  exact htick

/-! ## Pulse outputs -/

/-- Position and velocity of every generator stay. -/
def Dev.StandsStill (d e : Dev) : Prop := ∀ n, (e.gen n).acc = (d.gen n).acc ∧ (e.gen n).vel = (d.gen n).vel

theorem standsStill_putGen (n : Nat) (g : Gen) (hacc : g.acc = (d.gen n).acc) (hvel : g.vel = (d.gen n).vel) : d.StandsStill (d.putGen n g) := by
  intro m
  by_cases hm : n = m
  · subst hm
    by_cases hlt : n < d.gens.length
    · rw [gen_putGen_same d n g hlt]
      exact ⟨hacc, hvel⟩
    · have hout : ∀ (l : List Gen), ¬ n < l.length → getAt initGen l n = initGen := fun l hl => by
        by_contra hne
        exact hl (lt_of_getAt_ne hne)
      have hgen : (d.putGen n g).gen n = d.gen n := by
        rw [Dev.gen, hout _ (by rw [gens_length_putGen]; exact hlt), Dev.gen, hout _ hlt]
      rw [hgen]
      exact ⟨rfl, rfl⟩
  · rw [gen_putGen_ne d n m g hm]
    exact ⟨rfl, rfl⟩

theorem standsStill_pulseOutTick (o : Nat) : d.StandsStill (d.pulseOutTick o) := by
  unfold Dev.pulseOutTick
  extract_lets mode n q back dir step k q' left moved shown counted
  split
  · exact fun _ => ⟨rfl, rfl⟩
  · split
    · exact fun _ => ⟨rfl, rfl⟩
    · exact standsStill_putGen counted n _ rfl rfl

theorem standsStill_pulseOutTicks (j : Nat) : d.StandsStill (forN j (fun o d => d.pulseOutTick o) d) :=
  forN_induct d.StandsStill j _ d (fun o e he n => by
    obtain ⟨hacc, hvel⟩ := standsStill_pulseOutTick e o n
    exact ⟨hacc.trans (he n).1, hvel.trans (he n).2⟩) (fun _ => ⟨rfl, rfl⟩)

end

end Sys2Proof.Machine
end

section
/-! SUPPORT. The profile tick as a command, and the steps of TIME80 (R120, R131, R132, R325). -/

set_option Elab.async false

namespace Sys2Proof.Machine

section
variable (d : Dev)

/-! ## The profile tick -/

/-- The generators' part of a profile tick, where they take one. -/
def Dev.genTicks (d : Dev) : Dev :=
  let head : Bool := d.obj Obj.ROLE == 0 || d.obj Obj.ROLE == 1
  if head && [stReady, stRun, stService].contains d.state then forN 128 (fun n d => d.genTick n) d else d

/-- The part of the pulse outputs. -/
def Dev.pulseTicks (d : Dev) : Dev := if d.state != stBoot && d.state != stSafeHold then forN 8 (fun o d => d.pulseOutTick o) d else d

theorem profileTick_parts : d.profileTick = d.tickTime.legRestarts.genTicks.pulseTicks := rfl

theorem turns_headTicks : d.Turns d.genTicks := Dev.Turns.ite _ (turns_genTicks d 128) (Dev.Turns.refl d)

theorem turns_pulseTicks : d.Turns d.pulseTicks := Dev.Turns.ite _ (turns_forN 8 _ fun o ho e => turns_pulseOutTick e o ho) (Dev.Turns.refl d)

theorem standsStill_pulseTicks : d.StandsStill d.pulseTicks := by
  unfold Dev.pulseTicks
  split
  · exact standsStill_pulseOutTicks d 8
  · exact fun _ => ⟨rfl, rfl⟩

theorem spine_legRestarts : d.legRestarts.spine = d.spine := by
  unfold Dev.legRestarts Dev.legRestart
  exact forN_keeps Dev.spine 20 _ (fun n hn d => by simp [hn]) d

/-- After the time base and the leg ports the generators stand as they stood, under the same state, role and profile objects. -/
theorem restarted_shows : d.tickTime.legRestarts.gens = d.gens ∧ d.tickTime.legRestarts.state = d.state ∧
    d.tickTime.legRestarts.obj Obj.ROLE = d.obj Obj.ROLE ∧ (∀ k, setupKey k = true → d.tickTime.legRestarts.obj k = d.obj k) := by
  have hwork := timeWork_tickTime d
  have hspine := spine_legRestarts d.tickTime
  refine ⟨(timing_gens (timing_legRestarts d.tickTime)).trans hwork.gens, (obj_of_spine hspine (by decide)).trans hwork.state,
    (obj_of_spine hspine (by decide)).trans (hwork.obj _ (by decide) (by decide)), fun k hk => ?_⟩
  exact ((turns_legRestarts d.tickTime).setup k hk).trans (hwork.obj k (by grind [setupKey, timeKey]) (by grind [setupKey, eventKey]))

theorem genTicks_heads (hstate : d.state ∈ [stReady, stRun, stService]) (hhead : d.isHead = true) :
    d.genTicks = forN 128 (fun n d => d.genTick n) d := by
  have hrole : (d.obj Obj.ROLE == 0 || d.obj Obj.ROLE == 1) = true := by simpa [Dev.isHead] using hhead
  refine if_pos ?_
  rw [hrole]
  simpa using hstate

/-- A generator with work takes its tick within the whole. -/
theorem profileTick_busy (n : Nat) (hn : n < 128) (hstate : d.state ∈ [stReady, stRun, stService]) (hhead : d.isHead = true)
    (hbusy : (d.gen n).busy = true) (hhome : (d.gen n).home.phase = 0) (hdwell : (d.gen n).motion ≠ .dwell ∨ (d.gen n).dwell ≠ 0) :
    (d.profileTick.gen n).acc = ((d.gen n).tick (d.genCfg n) (d.obj (Obj.DWELL n))).acc ∧
    (d.profileTick.gen n).vel = ((d.gen n).tick (d.genCfg n) (d.obj (Obj.DWELL n))).vel := by
  obtain ⟨hgens, hstate', hrole, hsetup⟩ := restarted_shows d
  have hgen : d.tickTime.legRestarts.gen n = d.gen n := congrArg (fun l => getAt initGen l n) hgens
  obtain ⟨hacc, hvel⟩ := standsStill_pulseTicks d.tickTime.legRestarts.genTicks n
  have htick := gen_genTicks_busy d.tickTime.legRestarts n 128 hn (by rw [hgen]; exact hbusy) (by rw [hgen]; exact hhome)
    (by rw [hgen]; exact hdwell)
  rw [hgen, genCfg_congr d n hsetup hgen hhome, hsetup _ (by grind [setupKey])] at htick
  rw [profileTick_parts, hacc, hvel, genTicks_heads _ (by rw [hstate']; exact hstate) (by rw [Dev.isHead, hrole]; exact hhead)]
  exact htick

/-- One without work stands still. -/
theorem profileTick_idle (n : Nat) (hbusy : (d.gen n).busy = false) :
    (d.profileTick.gen n).acc = (d.gen n).acc ∧ (d.profileTick.gen n).vel = (d.gen n).vel := by
  obtain ⟨hgens, -, -, -⟩ := restarted_shows d
  have hgen : d.tickTime.legRestarts.gen n = d.gen n := congrArg (fun l => getAt initGen l n) hgens
  obtain ⟨hacc, hvel⟩ := standsStill_pulseTicks d.tickTime.legRestarts.genTicks n
  have hticks : d.tickTime.legRestarts.genTicks.gen n = d.gen n := by
    unfold Dev.genTicks
    dsimp only
    split
    · exact (gen_genTicks_idle _ n 128 (by rw [hgen]; exact hbusy)).trans hgen
    · exact hgen
  rw [profileTick_parts, hacc, hvel, hticks]
  exact ⟨rfl, rfl⟩

/-- The generators and the pulse outputs leave the clock as the time base's tick left it. -/
theorem profileTick_turns : d.tickTime.Turns d.profileTick :=
  ((turns_legRestarts d.tickTime).trans (turns_headTicks _)).trans (turns_pulseTicks _)

end

/-- Nothing of a profile tick is lost to a decision: the tick finds no fault of a fold. -/
theorem profileTick_end (d : Dev) (hnone : d.ctl.causeReq = none) : (d.profileTick.holdDecide.settle).timing = d.profileTick.timing := by
  rw [timing_settle]
  refine timing_holdDecide _ fun cause fold hreq => ?_
  have hwork := timeWork_tickTime d
  rw [(profileTick_turns d).ctl] at hreq
  rcases hwork.cause with hc | hc | hc <;> rw [hc] at hreq
  · exact absurd (hreq.symm.trans hnone) (by simp)
  · cases hreq
    decide
  · cases hreq
    decide

/-! ## A step of TIME80 (R132) -/

section
variable {s : State}

theorem timeStep_idle (h : (s.dev.state ≠ stConfig ∧ s.dev.state ≠ stReady) ∨ s.dev.cyc.startAt ≠ s.dev.now) :
    Answers .timeStep s (fun t => s.Same t ∧ t.dev.tb = s.dev.tb) := by
  refine answers_onDev Dev.stepNow rfl ?_
  have hstep : ∃ c, s.dev.fresh.stepNow = { s.dev.fresh with cyc := c } := by
    unfold Dev.stepNow
    split
    · exact ⟨s.dev.fresh.cyc, rfl⟩
    · next hnow =>
      have hstate : s.dev.state ≠ stConfig ∧ s.dev.state ≠ stReady := by
        rcases h with h | h
        · exact h
        · exact absurd (by simp [h]) hnow
      have hkept : s.dev.fresh.timeStep = s.dev.fresh := if_pos (by simp [hstate.1, hstate.2])
      dsimp only
      rw [hkept]
      exact ⟨_, rfl⟩
  obtain ⟨c, hstep⟩ := hstep
  rw [hstep]
  exact ⟨same_of_dict rfl rfl rfl, (congrArg Dev.tb (settle_none ({ s.dev.fresh with cyc := c } : Dev) rfl)).trans rfl⟩

/-- The block with TIME80 set to an instant, its request taken and the timed actions discarded, before the count and the report. -/
def Dev.stepped (d : Dev) (ns : Nat) : Dev :=
  let d := { d with tb := { d.tb with stepReq := none } }.setTime ns
  { d with tally := { d.tally with timed := [] } }

theorem timeStep_steps (ns : Nat) (hstate : s.dev.state = stConfig ∨ s.dev.state = stReady) (hstart : s.dev.cyc.startAt = s.dev.now)
    (hreq : s.dev.tb.stepReq = some ns) :
    Answers .timeStep s (fun t => t.dev.tb.sec = ns / 1000000000 % 2 ^ 48 ∧ t.dev.tb.ns = ns % 1000000000 ∧ t.dev.tb.stepReq = none ∧
      t.dev.tally.timed = [] ∧ t.dev.latched 0x1A = true ∧ s.Sets t [(Obj.STEP_COUNT, satAdd 16 (s.dev.obj Obj.STEP_COUNT) 1)]) := by
  refine answers_onDev Dev.stepNow rfl ?_
  have hcycling : s.dev.cycling = true := by
    rcases hstate with h | h <;> simp [Dev.cycling, h]
  have hstep : s.dev.fresh.timeStep = ((s.dev.fresh.stepped ns).bumpBy 16 Obj.STEP_COUNT 1).raise 0x1A s.dev.tally.timed.length := by
    have hreq' : s.dev.fresh.tb.stepReq = some ns := hreq
    unfold Dev.timeStep
    rw [if_neg (by rcases hstate with h | h <;> simp [h]), hreq']
    rfl
  have hnow : ∃ c, s.dev.fresh.stepNow = { s.dev.fresh.timeStep with cyc := c } := by
    refine ⟨_, if_neg ?_⟩
    rw [show s.dev.fresh.cycling = true from hcycling]
    simp [hstart]
  obtain ⟨c, hnow⟩ := hnow
  have hraise := reported_raise ((s.dev.fresh.stepped ns).bumpBy 16 Obj.STEP_COUNT 1) 0x1A s.dev.tally.timed.length (by decide)
  have hlatch := latched_raise ((s.dev.fresh.stepped ns).bumpBy 16 Obj.STEP_COUNT 1) 0x1A s.dev.tally.timed.length (by decide)
  rw [← hstep] at hraise hlatch
  have hsettle := reported_settle ({ s.dev.fresh.timeStep with cyc := c } : Dev)
  have hobj : ∀ k, eventKey k = false → ({ s.dev.fresh.timeStep with cyc := c } : Dev).settle.obj k =
      if Obj.STEP_COUNT = k then satAdd 16 (s.dev.obj Obj.STEP_COUNT) 1 else s.dev.obj k := fun k hk =>
    (hsettle.obj k hk).trans ((hraise.obj k hk).trans (Dev.obj_bumpBy _ _ _ _ _))
  have htb : ({ s.dev.fresh.timeStep with cyc := c } : Dev).settle.tb = (s.dev.fresh.stepped ns).tb := hsettle.tb.trans hraise.tb
  rw [hnow]
  refine ⟨congrArg TimeBase.sec htb, congrArg TimeBase.ns htb, congrArg TimeBase.stepReq htb,
    congrArg Tally.timed (hsettle.tally.trans hraise.tally), hsettle.latch _ (by decide) hlatch, fun x hx => ?_, fun k hk he => ?_, fun j => ?_, rfl, rfl⟩
  · obtain rfl := List.mem_singleton.mp hx
    exact (hobj Obj.STEP_COUNT (by decide)).trans (if_pos rfl)
  · exact (hobj k he).trans (if_neg (by rintro rfl; exact hk (by simp)))
  · exact congrArg (fun l => tget (fun _ => []) l j) (hsettle.blobs.trans hraise.blobs)

end

theorem counter_parts {a b : TimeBase} (h : a.counter = b.counter) : a.ns = b.ns ∧ a.sec = b.sec ∧ a.frac = b.frac := by
  simp only [TimeBase.counter, Prod.mk.injEq] at h
  obtain ⟨hsec, hns, hfrac⟩ := h
  exact ⟨hns, hsec, hfrac⟩

/-- Settles O21: the counter's tick is arithmetic, each generator takes its turn without touching another's, and no decision that a profile
tick can bring moves either; a step of TIME80 is one object, the instant and one report. -/
theorem ticksMoveTimeAndGenerators : Obligations.TicksMoveTimeAndGenerators := by
  unfold Obligations.TicksMoveTimeAndGenerators
  refine ⟨fun s => answers_onDevH Dev.profileTick rfl ?_, tick_counter, fun c g target hvs hstart hve _ hd1 hd2 hvel =>
    tickMove_bounded c g target hvs hstart hve hd1 hd2 hvel, fun s ns => timeStep_steps ns, fun s => timeStep_idle⟩
  have htiming := profileTick_end s.dev.fresh rfl
  have hturns := profileTick_turns s.dev.fresh
  have hgen : ∀ n, (s.dev.fresh.profileTick.holdDecide.settle).gen n = s.dev.fresh.profileTick.gen n := fun n =>
    congrArg (fun l => getAt initGen l n) (timing_gens htiming)
  have hcounter : (s.dev.fresh.profileTick.holdDecide.settle).tb.counter =
      if s.dev.tb.running then (s.dev.tb.tick s.dev.effSlew).counter else s.dev.tb.counter := by
    obtain ⟨hsec, hns, hfrac⟩ := timing_counter htiming
    rw [TimeBase.counter, hsec, hns, hfrac, hturns.tb]
    exact tickTime_counter s.dev.fresh
  refine ⟨(timing_now htiming).trans (hturns.now.trans (timeWork_tickTime s.dev.fresh).now), fun hrun => ?_, fun hstop => ?_,
    fun hstate hhead n => ⟨fun hbusy hhome hdwell => ?_, fun hbusy => ?_⟩⟩
  · exact counter_parts (hcounter.trans (if_pos hrun))
  · obtain ⟨hns, hsec, -⟩ := counter_parts (hcounter.trans (if_neg (by rw [hstop]; decide)))
    exact ⟨hns, hsec⟩
  · rw [hgen]
    exact profileTick_busy s.dev.fresh n n.isLt hstate hhead hbusy hhome hdwell
  · rw [hgen]
    exact profileTick_idle s.dev.fresh n hbusy

end Sys2Proof.Machine
end

section
/-! SUPPORT. What leaves an Ethernet port: a frame that starts, the fields written as it leaves, the port it starts on (R144, R146, R149, R150, R153, R162). -/

set_option Elab.async false

namespace Sys2Proof.Machine

/-! ## An egress port (R146) -/

theorem ethPort_congr {d e : Dev} (h : e.eth = d.eth) (p : Nat) : e.ethPort p = d.ethPort p := congrArg (fun l => getAt _ l p) h

/-- A block in whose egress ports one was changed. -/
theorem ethPort_upd {d e : Dev} {p : Nat} {f : EthPort → EthPort} (h : e.eth = upd f d.eth p) (hp : p < d.eth.length) :
    e.ethPort p = f (d.ethPort p) :=
  (congrArg (fun l => getAt _ l p) h).trans (getAt_upd_same _ f d.eth p hp)

/-- What a port holds that it does not hold by default shows that there is such a port. -/
theorem ethPort_exists {d : Dev} {p : Nat} {α : Type} (field : EthPort → α) (h : field (d.ethPort p) ≠ field ⟨false, [], none⟩) :
    p < d.eth.length :=
  lt_of_getAt_ne fun heq => h (congrArg field heq)

/-- A port that sends a frame which holds n buffers of channel c. -/
def EthPort.started (c n : Nat) (e : EthPort) : EthPort := { e with busy := true, sending := some (c, n) }

theorem ethStart_eth (d : Dev) (p : Nat) (q : EthQueued) (payload : EthPayload) :
    (d.ethStart p q payload).eth = upd (EthPort.started q.channel q.buffers) d.eth p := rfl

theorem ethStart_dict (d : Dev) (p : Nat) (q : EthQueued) (payload : EthPayload) : (d.ethStart p q payload).dict = d.dict := rfl

/-- Whether the ports run rests on one object, the SerDes and the supplies (R148). -/
theorem ethRuns_congr {d e : Dev} (hstate : e.obj Obj.DEVICE_STATE = d.obj Obj.DEVICE_STATE) (htb : e.tb = d.tb) (hctl : e.ctl = d.ctl) :
    e.ethRuns = d.ethRuns := by
  simp only [Dev.ethRuns, Dev.cycling, Dev.state, hstate, htb, hctl]

/-! ## Stamps (R149, R150) -/

/-- The objects of the two ports' own table are none of a report's, and none of the pool's. -/
theorem portObject_low (p : Fin 2) (k : Nat) (h : k < 0x100) : eventKey (0x033000 + k + 0x100 * p) = false ∧ 0x033000 + k + 0x100 * p < 0x048000 := by
  have hp := p.isLt
  refine ⟨?_, by omega⟩
  simp only [eventKey, Obj.EVENTS_DROPPED, Obj.SHARED_FREE, Bool.or_eq_false_iff, Bool.and_eq_false_iff, beq_eq_false_iff_ne]
  omega

section
variable {d e : Dev} (htb : e.tb = d.tb) (p : Nat) (off : Nat)
include htb

theorem egressStamp_congr (h : e.obj (Obj.EGRESS_LATENCY p) = d.obj (Obj.EGRESS_LATENCY p)) : e.egressStamp p off = d.egressStamp p off := by
  simp only [Dev.egressStamp, Dev.timeNs, Dev.objI, htb, h]

theorem ingressStamp_congr (h : e.obj (Obj.INGRESS_LATENCY p) = d.obj (Obj.INGRESS_LATENCY p)) :
    e.ingressStamp p off = d.ingressStamp p off := by
  simp only [Dev.ingressStamp, Dev.timeNs, Dev.objI, htb, h]

end

/-! ## The fields written as a frame leaves (R153, R162) -/

section
variable {d : Dev} {p off : Nat} {q : EthQueued}

/-- A frame passed on leaves unchanged where it is no event message, or with the transparent clock off. -/
theorem asItLeaves_plain {f : List Byte} (hf : q.payload = .raw f) (h : q.ingress = none ∨ d.objB Obj.TC_ENABLE = false) :
    d.asItLeaves p off q = (.raw f, d) := by
  cases hq : q.ingress with
  | none => simp only [Dev.asItLeaves, hf, hq]
  | some t =>
    have htc : d.objB Obj.TC_ENABLE = false := h.resolve_left (by simp [hq])
    simp only [Dev.asItLeaves, hf, hq, htc, Bool.false_eq_true, if_false]

/-- An event message passed on leaves with its residence, and is counted. -/
theorem asItLeaves_event {f : List Byte} {t : Int} (hf : q.payload = .raw f) (hq : q.ingress = some t) (htc : d.objB Obj.TC_ENABLE = true) :
    d.asItLeaves p off q = (.raw (correctFrame f (d.egressStamp p off - t)), d.bump (Obj.TC_CORRECTED p)) := by
  simp only [Dev.asItLeaves, hf, hq, htc, if_true]

/-- An own message leaves with its stamp. -/
theorem asItLeaves_own {m : PtpMsg} (hm : q.payload = .ptp m) : d.asItLeaves p off q = (.ptp (d.stampOwn p off m).2, (d.stampOwn p off m).1) := by
  simp only [Dev.asItLeaves, hm]

theorem stampOwn_sync {m : PtpMsg} (h : m.kind = 0) :
    d.stampOwn p off m = (d, { m with stamp := time80OfNs (d.egressStamp p off).toNat }) := if_pos h

/-- Announce and Delay_Resp carry no stamp of their own egress. -/
theorem stampOwn_general {m : PtpMsg} (h : 1 < m.kind) : d.stampOwn p off m = (d, m) := by
  rw [Dev.stampOwn, if_neg (by omega), if_neg (by omega)]

/-- What of a frame is written as it leaves goes into the frame, and its count or its stamp alone into the block. -/
theorem ethSend_eq {pl : EthPayload} {e : Dev} (h : d.asItLeaves p off q = (pl, e)) : d.ethSend p off q = e.ethStart p q pl := by
  simp only [Dev.ethSend, h]

theorem ethOffer_idle (h : (d.ethPort p).busy = false) : d.ethOffer p off q = d.ethSend p off q := by
  simp only [Dev.ethOffer, h, Bool.false_eq_true, if_false]

end

end Sys2Proof.Machine
end

section
/-! SUPPORT. The ordinary clock as a master: Announce, Sync and the answer to a Delay_Req (R158, R162, R218). -/

set_option Elab.async false

namespace Sys2Proof.Machine

/-! ## An own message sent (R162, R218) -/

/-- A port on which an own message starts at once: it runs, its link is up, it is idle, and the pool has a buffer. -/
structure Dev.ReadyAt (d : Dev) (p : Nat) : Prop where
  runs : d.ethRuns = true
  link : d.obj (Obj.LINK p) ≠ 0
  fits : d.poolFits 3 1 = true
  idle : (d.ethPort p).busy = false

/-- An own message on its way out. -/
def ownQueued (m : PtpMsg) : EthQueued := { cls := 1, payload := .ptp m, ingress := none, channel := 3, buffers := buffersOf 128 }

/-- The block once an own message has taken its buffer. -/
def Dev.reserved (d : Dev) : Dev := d.poolSet 3 (d.obj (Obj.POOL_IN_USE 3) + buffersOf 128)

theorem reported_reserved (d : Dev) : Reported d d.reserved := reported_poolSet3 d _

theorem ptpSend_ready {d : Dev} {p : Nat} (off : Nat) (m : PtpMsg) (h : d.ReadyAt p) :
    d.ptpSend p off m = d.reserved.ethSend p off (ownQueued m) := by
  have htake : d.poolTake 3 128 = some d.reserved := poolTake_some h.fits
  have hidle : (d.reserved.ethPort p).busy = false := h.idle
  simp only [Dev.ptpSend, h.runs, h.link, Bool.not_true, decide_false, Bool.or_false, Bool.false_eq_true, if_false, htake]
  exact ethOffer_idle hidle

/-- The frame of an own message rests on the port's addresses alone. -/
theorem frameOf_ptp {d e : Dev} (p : Fin 2) (h : d.KeepsBut e []) (m : PtpMsg) : e.frameOf p (.ptp m) = d.frameOf p (.ptp m) := by
  have hip : e.obj Obj.IPV4_ADDRESS = d.obj Obj.IPV4_ADDRESS := h _ List.not_mem_nil (by decide)
  have hmac : e.obj (Obj.MAC_ADDRESS p) = d.obj (Obj.MAC_ADDRESS p) := h _ List.not_mem_nil (by revert p; decide)
  simp only [Dev.frameOf, hip, hmac]

/-- A message that leaves as m' from a block that differs from the one before the command in nothing that shows. -/
theorem ptpSend_settle {s : State} {d : Dev} {p : Fin 2} {off : Nat} {m m' : PtpMsg} (hd : s.dev.fresh.Alters [] d) (h : d.ReadyAt p)
    (hstamp : d.reserved.stampOwn p off m = (d.reserved, m')) :
    let e := (d.ptpSend p off m).settle
    s.Only { s with dev := e } [] ∧ e.ptp = d.ptp ∧ Emit.eth p (s.dev.frameOf p (.ptp m')) true ∈ e.emitted := by
  have hleaves : d.reserved.asItLeaves p off (ownQueued m) = (.ptp m', d.reserved) := by
    rw [asItLeaves_own rfl, hstamp]
  have hsend : d.ptpSend p off m = d.reserved.ethStart p (ownQueued m) (.ptp m') := by rw [ptpSend_ready off m h, ethSend_eq hleaves]
  have hreport : Reported d (d.ptpSend p off m).settle := by
    rw [hsend]
    exact ((reported_reserved d).trans (reported_ethStart _ _ _ _)).trans (reported_settle _)
  have hframe : d.reserved.frameOf p (.ptp m') = s.dev.frameOf p (.ptp m') :=
    frameOf_ptp (d := s.dev.fresh) p (hd.report (reported_reserved d)).obj m'
  refine ⟨(hd.report hreport).only, hreport.ptp, (reported_settle _).emitted.subset ?_⟩
  rw [hsend, ← hframe]
  exact ethStart_emits _ _ _ _

/-! ## Announce and Sync (R162) -/

/-- A change of the ordinary clock's own state is no object, no port and no buffer. -/
theorem Dev.ReadyAt.withPtp {d : Dev} {p : Nat} (h : d.ReadyAt p) (c : Ptp) : ({ d with ptp := c } : Dev).ReadyAt p :=
  ⟨h.runs, h.link, h.fits, h.idle⟩

theorem ptpPorts_single {d : Dev} (p : Fin 2) (h : d.obj Obj.PTP_PORT = p) : d.ptpPorts = [(p : Nat)] := by
  have hports : ∀ q : Fin 2, (match (q : Nat) with | 0 => [0] | 1 => [1] | _ => [0, 1]) = [(q : Nat)] := by decide
  rw [Dev.ptpPorts, h]
  exact hports p

/-- The Announce of the data set of the objects. -/
def Dev.announcement (d : Dev) : PtpMsg :=
  { d.ptpMsg 0xB d.ptp.annSeq with extra := [d.obj Obj.PRIORITY1, d.obj Obj.CLOCK_CLASS, d.obj Obj.PRIORITY2] }

/-- The block with the next Announce's sequence. -/
def Dev.announced (d : Dev) : Dev := { d with ptp := { d.ptp with annSeq := (d.ptp.annSeq + 1) % 65536 } }

/-- The block with the next Sync's sequence. -/
def Dev.synced (d : Dev) : Dev := { d with ptp := { d.ptp with masterSyncSeq := (d.ptp.masterSyncSeq + 1) % 65536 } }

section
variable {d : Dev}

theorem announceTx_none (h : d.masterRuns = false) : d.announceTx = d := by simp [Dev.announceTx, h]

theorem syncTx_none (off : Nat) (h : d.masterRuns = false) : d.syncTx off = d := by simp [Dev.syncTx, h]

theorem delayReqRx_none (p : Nat) (hdr : PtpHdr) (off : Nat) (h : d.masterRuns = false) : d.delayReqRx p hdr off = d := by
  simp [Dev.delayReqRx, h]

variable (h : d.masterRuns = true)
include h

theorem announceTx_port (p : Fin 2) (hport : d.obj Obj.PTP_PORT = p) : d.announceTx = d.announced.ptpSend p 0 d.announcement := by
  have hports : d.announced.ptpPorts = [(p : Nat)] := ptpPorts_single p hport
  simp only [Dev.announceTx, h, Bool.not_true, Bool.false_eq_true, if_false, ← Dev.announced.eq_def, ← Dev.announcement.eq_def, hports,
    List.foldl_cons, List.foldl_nil]

theorem syncTx_port (p : Fin 2) (off : Nat) (hport : d.obj Obj.PTP_PORT = p) :
    d.syncTx off = d.synced.ptpSend p off (d.ptpMsg 0 d.ptp.masterSyncSeq) := by
  have hports : d.synced.ptpPorts = [(p : Nat)] := ptpPorts_single p hport
  simp only [Dev.syncTx, h, Bool.not_true, Bool.false_eq_true, if_false, ← Dev.synced.eq_def, hports, List.foldl_cons, List.foldl_nil]

end

/-! ## A Delay_Req answered (R162, R218) -/

/-- The block once a received message's buffer was taken and returned. -/
def Dev.heard (d : Dev) : Dev := (d.poolSet 3 (d.obj (Obj.POOL_IN_USE 3) + buffersOf 128)).poolSet 3 (d.obj (Obj.POOL_IN_USE 3))

theorem reported_heard (d : Dev) : Reported d d.heard := (reported_poolSet3 _ _).trans (reported_poolSet3 _ _)

theorem heard_shape (d : Dev) : ∃ m, d.heard = { d with dict := m } := by
  obtain ⟨m, hm⟩ := poolSet_shape d 3 (d.obj (Obj.POOL_IN_USE 3) + buffersOf 128)
  obtain ⟨m', hm'⟩ := poolSet_shape { d with dict := m } 3 (d.obj (Obj.POOL_IN_USE 3))
  exact ⟨m', by rw [Dev.heard, hm, hm']⟩

theorem ptpConsume_fits {d : Dev} (f : Dev → Dev) (h : d.poolFits 3 1 = true) : d.ptpConsume f = f d.heard := by
  have hfits : d.poolFits 3 (buffersOf 128) = true := h
  simp only [Dev.ptpConsume, Dev.consume, Dev.poolPass, hfits, if_true, ← Dev.heard.eq_def]

/-- The buffers neither a reserve nor a total beyond it holds (R219). -/
def Dev.sharedLeft (d : Dev) : Nat :=
  let held := fun c => max (d.obj (Obj.POOL_RESERVE c)) (d.obj (Obj.POOL_IN_USE c))
  2048 - (held 0 + held 1 + held 2 + held 3 + held 4 + held 5 + held 6)

theorem showShared_obj (d : Dev) (k : Nat) : d.showShared.obj k = if Obj.SHARED_FREE = k then d.sharedLeft else d.obj k := d.obj_setObj _ _ k

theorem sharedLeft_congr {d e : Dev} (h : ∀ k, Obj.POOL_PEAK 3 ≠ k → Obj.SHARED_FREE ≠ k → e.obj k = d.obj k) : e.sharedLeft = d.sharedLeft := by
  simp (disch := decide) only [Dev.sharedLeft, h]

theorem poolSet_obj (d : Dev) (c n k : Nat) (hpeak : Obj.POOL_PEAK c ≠ k) :
    (d.poolSet c n).obj k =
      if Obj.SHARED_FREE = k then (d.setObj (Obj.POOL_IN_USE c) n).sharedLeft else if Obj.POOL_IN_USE c = k then n else d.obj k := by
  have hset : (d.poolSet c n).obj k = (d.setObj (Obj.POOL_IN_USE c) n).showShared.obj k := Dev.obj_setObj_ne _ _ _ _ hpeak
  rw [hset, showShared_obj, Dev.obj_setObj]

/-- The total of a channel set back to what it was. -/
theorem totalBack_obj (d : Dev) (n : Nat) {k : Nat} (hpeak : Obj.POOL_PEAK 3 ≠ k) (hshared : Obj.SHARED_FREE ≠ k) :
    ((d.poolSet 3 n).setObj (Obj.POOL_IN_USE 3) (d.obj (Obj.POOL_IN_USE 3))).obj k = d.obj k := by
  rw [Dev.obj_setObj, poolSet_obj _ _ _ _ hpeak, if_neg hshared]
  split_ifs with huse
  · rw [huse]
  · rfl

/-- Of the pool, a message that has passed changes its channel's peak and the shared buffers alone. -/
theorem heard_obj (d : Dev) {k : Nat} (hpeak : Obj.POOL_PEAK 3 ≠ k) (hshared : Obj.SHARED_FREE ≠ k) : d.heard.obj k = d.obj k := by
  rw [← totalBack_obj d (d.obj (Obj.POOL_IN_USE 3) + buffersOf 128) hpeak hshared, Dev.heard, poolSet_obj _ _ _ _ hpeak, if_neg hshared, Dev.obj_setObj]

theorem heard_shared (d : Dev) : d.heard.obj Obj.SHARED_FREE = d.sharedLeft := by
  rw [Dev.heard, poolSet_obj _ _ _ _ (by decide), if_pos rfl]
  exact sharedLeft_congr fun k hpeak hshared => totalBack_obj d _ hpeak hshared

/-- A message that has passed leaves the buffers in use as they were, and the shared ones as the reserves and totals have them. -/
theorem poolFits_heard (d : Dev) : d.heard.poolFits 3 1 = d.showShared.poolFits 3 1 := by
  have hkept : ∀ k, Obj.POOL_PEAK 3 ≠ k → Obj.SHARED_FREE ≠ k → d.heard.obj k = d.showShared.obj k := fun k hpeak hshared => by
    rw [heard_obj d hpeak hshared, showShared_obj, if_neg hshared]
  have hshared : d.heard.obj Obj.SHARED_FREE = d.showShared.obj Obj.SHARED_FREE := by
    rw [heard_shared, showShared_obj, if_pos rfl]
  simp only [Dev.poolFits, hshared, hkept (Obj.POOL_IN_USE 3) (by decide) (by decide), hkept (Obj.POOL_RESERVE 3) (by decide) (by decide),
    hkept (Obj.POOL_CAP 3) (by decide) (by decide)]

/-- The answer to a Delay_Req that arrived at an instant (R162). -/
def Dev.delayAnswer (d : Dev) (hdr : PtpHdr) (instant : Int) : PtpMsg :=
  { d.ptpMsg 9 hdr.seq.toNat with corr := hdr.corr.toNat, stamp := time80OfNs instant.toNat, extra := [hdr.identity.toNat, hdr.port.toNat] }

theorem delayReqRx_takes {d : Dev} {p : Nat} {hdr : PtpHdr} (off : Nat) (h : d.masterRuns = true) (htakes : d.ptpTakes p hdr = true)
    (hfits : d.poolFits 3 1 = true) : d.delayReqRx p hdr off = d.heard.ptpSend p 0 (d.heard.delayAnswer hdr (d.heard.ingressStamp p off)) := by
  simp only [Dev.delayReqRx, h, htakes, Bool.not_true, Bool.or_false, Bool.false_eq_true, if_false]
  exact ptpConsume_fits _ hfits

/-- The fields of an own message rest on objects outside the pool. -/
theorem delayAnswer_heard (d : Dev) (hdr : PtpHdr) (instant : Int) : d.heard.delayAnswer hdr instant = d.delayAnswer hdr instant := by
  have hobj : ∀ k, eventKey k = false → d.heard.obj k = d.obj k := (reported_heard d).obj
  simp (disch := decide) only [Dev.delayAnswer, Dev.ptpMsg, Dev.ptpLog, hobj]

theorem heard_ready {d : Dev} {p : Fin 2} (h : d.ReadyAt p) (hfits : d.showShared.poolFits 3 1 = true) : d.heard.ReadyAt p := by
  have hobj : ∀ k, eventKey k = false → d.heard.obj k = d.obj k := (reported_heard d).obj
  obtain ⟨m, hm⟩ := heard_shape d
  have hruns := ethRuns_congr (hobj _ (by decide)) (reported_heard d).tb (reported_heard d).ctl
  refine ⟨hruns.trans h.runs, ?_, (poolFits_heard d).trans hfits, ?_⟩
  · rw [hobj _ (portObject_low p 0 (by decide)).1]
    exact h.link
  · rw [hm]
    exact h.idle

/-! ## The obligation -/

/-- Settles O50: each message takes its buffer, starts at once on its idle port, and leaves with the stamp of its kind. -/
theorem ptpMasterAnnouncesAndAnswers : Obligations.PtpMasterAnnouncesAndAnswers := by
  unfold Obligations.PtpMasterAnnouncesAndAnswers
  refine ⟨fun s off p h hnone => ⟨?noAnnounce, ?noSync, ?noAnswer⟩,
    fun s p off hruns hport ⟨hethRuns, hlink, hfits, hidle⟩ => ⟨?announce, ?sync⟩,
    fun s p off h hruns htakes ⟨hethRuns, hlink, hfits, hidle⟩ hagain => ?answer⟩
  case noAnnounce =>
    refine answers_onDev Dev.announceTx rfl ?_
    rw [announceTx_none (d := s.dev.fresh) hnone, fresh_settle]
    exact ⟨same_of_dict (e := s.dev.fresh) rfl rfl rfl, rfl⟩
  case noSync =>
    refine answers_onDev (fun d => d.syncTx off) rfl ?_
    rw [syncTx_none (d := s.dev.fresh) off hnone, fresh_settle]
    exact ⟨same_of_dict (e := s.dev.fresh) rfl rfl rfl, rfl⟩
  case noAnswer =>
    refine answers_onDev (fun d => d.delayReqRx p h off) rfl ?_
    rw [delayReqRx_none (d := s.dev.fresh) p h off hnone, fresh_settle]
    exact ⟨same_of_dict (e := s.dev.fresh) rfl rfl rfl, rfl⟩
  case announce =>
    have hready : s.dev.fresh.announced.ReadyAt p := Dev.ReadyAt.withPtp (d := s.dev.fresh) ⟨hethRuns, hlink, hfits, hidle⟩ _
    refine answers_onDev Dev.announceTx rfl ?_
    rw [announceTx_port (d := s.dev.fresh) hruns p hport]
    have hkept : s.dev.fresh.Alters [] s.dev.fresh.announced := ⟨fun _ _ _ => rfl, rfl⟩
    have hgeneral : 1 < s.dev.fresh.announcement.kind := show 1 < 0xB by decide
    obtain ⟨honly, hptp, hemit⟩ := ptpSend_settle (s := s) (off := 0) hkept hready (stampOwn_general hgeneral)
    exact ⟨honly, congrArg Ptp.annSeq hptp, hemit⟩
  case sync =>
    have hready : s.dev.fresh.synced.ReadyAt p := Dev.ReadyAt.withPtp (d := s.dev.fresh) ⟨hethRuns, hlink, hfits, hidle⟩ _
    have hstamp : s.dev.fresh.synced.reserved.egressStamp p off = s.dev.egressStamp p off :=
      egressStamp_congr (reported_reserved _).tb p off ((reported_reserved _).obj _ (portObject_low p 2 (by decide)).1)
    refine answers_onDev (fun d => d.syncTx off) rfl ?_
    rw [syncTx_port (d := s.dev.fresh) hruns p off hport]
    have hkept : s.dev.fresh.Alters [] s.dev.fresh.synced := ⟨fun _ _ _ => rfl, rfl⟩
    obtain ⟨honly, hptp, hemit⟩ := ptpSend_settle (s := s) (off := off) hkept hready
      (stampOwn_sync (m := s.dev.fresh.ptpMsg 0 s.dev.ptp.masterSyncSeq) rfl)
    rw [hstamp] at hemit
    exact ⟨honly, congrArg Ptp.masterSyncSeq hptp, hemit⟩
  case answer =>
    have hready : s.dev.fresh.heard.ReadyAt p := heard_ready ⟨hethRuns, hlink, hfits, hidle⟩ hagain
    have hstamp : s.dev.fresh.heard.ingressStamp p off = s.dev.ingressStamp p off :=
      ingressStamp_congr (reported_heard _).tb p off ((reported_heard _).obj _ (portObject_low p 1 (by decide)).1)
    refine answers_onDev (fun d => d.delayReqRx p h off) rfl ?_
    rw [delayReqRx_takes (d := s.dev.fresh) off hruns htakes hfits, hstamp, delayAnswer_heard]
    have hgeneral : 1 < (s.dev.fresh.delayAnswer h (s.dev.ingressStamp p off)).kind := show 1 < 9 by decide
    obtain ⟨honly, hptp, hemit⟩ := ptpSend_settle (s := s) (off := 0) ((reported_heard _).alters []) hready (stampOwn_general hgeneral)
    exact ⟨honly, hptp.trans (reported_heard _).ptp, hemit⟩

end Sys2Proof.Machine
end

section
/-! SUPPORT. The two-port line: a frame received, passed on or dropped, a frame that has left, a link that changes (R144 to R157). -/

set_option Elab.async false

namespace Sys2Proof.Machine

/-- A total set changes objects of its channel and the shared buffers alone. -/
theorem poolSet_other (d : Dev) (c n : Nat) {k : Nat} (h : k / 256 ≠ 0x480 + c) (hshared : Obj.SHARED_FREE ≠ k) : (d.poolSet c n).obj k = d.obj k := by
  rw [poolSet_obj _ _ _ _ (by simp only [Obj.POOL_PEAK]; omega), if_neg hshared, if_neg (by simp only [Obj.POOL_IN_USE]; omega)]

/-! ## A frame received (R145, R157) -/

section
variable {d : Dev} {p : Nat} {f : List Byte} (off : Nat)

theorem ethFrameRx_stopped (ok : Bool) (h : d.ethRuns = false ∨ d.obj (Obj.LINK p) = 0) : d.ethFrameRx p off f ok = d := by
  rcases h with h | h <;> simp [Dev.ethFrameRx, h]

/-- The block once an event message over IPv6 was counted and reported (R157). -/
def Dev.ipv6Seen (d : Dev) (p : Nat) : Dev := (d.bump (Obj.IPV6_EVENTS p)).raise 0x29 p

/-- What becomes of a frame past its count: it is passed on where the other port has a link and it is not for the Thoek alone. -/
def Dev.passOn (d : Dev) (p off : Nat) (f : List Byte) (ok : Bool) : Dev :=
  if d.obj (Obj.LINK (1 - p)) = 0 || d.isOwnMac f then d else d.forward p off f ok

variable (hruns : d.ethRuns = true) (hlink : d.obj (Obj.LINK p) ≠ 0)
include hruns hlink

theorem ethFrameRx_good (h : isIpv6Event f = false) : d.ethFrameRx p off f true = d.passOn p off f true := by
  simp only [Dev.ethFrameRx, hruns, hlink, h, Bool.not_true, decide_false, Bool.or_false, Bool.and_false, Bool.false_eq_true, if_false, if_true,
    Dev.passOn]

theorem ethFrameRx_ipv6 (h : isIpv6Event f = true) : d.ethFrameRx p off f true = (d.ipv6Seen p).passOn p off f true := by
  simp only [Dev.ethFrameRx, hruns, hlink, h, Bool.not_true, decide_false, Bool.or_false, Bool.and_true, Bool.false_eq_true, if_false, if_true,
    Dev.passOn, Dev.ipv6Seen]
  rfl

theorem ethFrameRx_bad : d.ethFrameRx p off f false = (d.bump (Obj.RX_FCS_ERRORS p)).passOn p off f false := by
  simp only [Dev.ethFrameRx, hruns, hlink, Bool.not_true, decide_false, Bool.or_false, Bool.false_and, Bool.false_eq_true, if_false, Dev.passOn]

end

section
variable {d : Dev} {p : Nat} {f : List Byte} (off : Nat) (ok : Bool)

theorem passOn_own (h : d.isOwnMac f = true) : d.passOn p off f ok = d := by simp [Dev.passOn, h]

theorem passOn_forwards (hlink : d.obj (Obj.LINK (1 - p)) ≠ 0) (hown : d.isOwnMac f = false) : d.passOn p off f ok = d.forward p off f ok := by
  simp [Dev.passOn, hlink, hown]

/-- The address of either port is the Thoek's own. -/
theorem isOwnMac_of (p : Fin 2) (h : fieldAt f 0 6 = d.obj (Obj.MAC_ADDRESS p)) : d.isOwnMac f = true := by
  rw [Dev.isOwnMac, h]
  obtain rfl | rfl : p = 0 ∨ p = 1 := by omega
  · simp
  · simp

section
variable (hruns : d.ethRuns = true) (hlink : d.obj (Obj.LINK p) ≠ 0) (hplain : isIpv6Event f = false)
include hruns hlink hplain

theorem ethFrameRx_own (hown : d.isOwnMac f = true) : d.ethFrameRx p off f true = d := by
  rw [ethFrameRx_good off hruns hlink hplain, passOn_own off true hown]

theorem ethFrameRx_forwards (hother : d.obj (Obj.LINK (1 - p)) ≠ 0) (hown : d.isOwnMac f = false) :
    d.ethFrameRx p off f true = d.forward p off f true := by
  rw [ethFrameRx_good off hruns hlink hplain, passOn_forwards off true hother hown]

end

end

/-! ## Passing on (R145, R147, R153, R156) -/

/-- A frame passed on, with its ingress stamp where it is an event message. -/
def Dev.throughFrame (d : Dev) (p off : Nat) (f : List Byte) : EthQueued :=
  { cls := if (isEventMessage f).isSome then 0 else 2, payload := .raw f,
    ingress := if (isEventMessage f).isSome then some (d.ingressStamp p off) else none, channel := 2, buffers := 0 }

/-- The block with one free value more drawn. -/
def Dev.drawn (d : Dev) : Dev := { d with free := d.free + 1 }

/-- The residence of a frame cut through (R147). -/
def Dev.residence (d : Dev) : Nat := d.cutThrough.1

theorem residence_bounds (d : Dev) : 512 ≤ d.residence ∧ d.residence ≤ 1000 := by
  have hlt := Nat.mod_lt (d.draw 0x147).1 (show 0 < 489 by decide)
  constructor
  · exact Nat.le_add_right _ _
  · change 512 + (d.draw 0x147).1 % 489 ≤ 1000
    omega

/-- A port that sends a copy which holds no buffer. -/
def EthPort.cut (e : EthPort) : EthPort := { e with busy := true, sending := none }

/-- The block once a frame cut through with a bad FCS has started, before it is counted. -/
def Dev.cutBad (d : Dev) (p : Nat) (pl : EthPayload) : Dev :=
  ({ d with eth := upd EthPort.cut d.eth p } : Dev).emit (.eth p (d.frameOf p pl) false)

section
variable {d : Dev} {p : Nat} {f : List Byte} (off : Nat)

theorem forward_cut (h : (d.ethPort (1 - p)).busy = false) :
    d.forward p off f true = d.drawn.ethSend (1 - p) (off + d.residence) (d.throughFrame p off f) := by
  simp only [Dev.forward, h, Bool.not_false, if_true]
  rfl

theorem forward_bad (h : (d.ethPort (1 - p)).busy = false) {pl : EthPayload} {e : Dev}
    (hl : d.drawn.asItLeaves (1 - p) (off + d.residence) (d.throughFrame p off f) = (pl, e)) :
    d.forward p off f false = ((e.cutBad (1 - p) pl).bump (Obj.TC_ERRORS p)).raise 0x28 p := by
  have hl' : d.cutThrough.2.asItLeaves (1 - p) (off + d.cutThrough.1) (d.throughFrame p off f) = (pl, e) := hl
  simp only [Dev.forward, h, Bool.not_false, if_true, Bool.false_eq_true, if_false, ← Dev.throughFrame.eq_def, hl']
  rfl

/-- A frame that waits, with the buffers it holds. -/
def EthPort.waiting (q : EthQueued) (e : EthPort) : EthPort := { e with queue := e.queue ++ [q] }

theorem forward_waits (h : (d.ethPort (1 - p)).busy = true) (hfits : d.poolFits 2 (buffersOf f.length) = true) :
    d.forward p off f true = (let t := d.poolSet 2 (d.obj (Obj.POOL_IN_USE 2) + buffersOf f.length)
      { t with eth := upd (EthPort.waiting { d.throughFrame p off f with buffers := buffersOf f.length }) d.eth (1 - p) }) := by
  have hbusy : ((d.poolSet 2 (d.obj (Obj.POOL_IN_USE 2) + buffersOf f.length)).ethPort (1 - p)).busy = true := h
  simp only [Dev.forward, h, Bool.not_true, Bool.false_eq_true, if_false, poolTake_some hfits, Dev.ethOffer, hbusy, if_true]
  rfl

theorem forward_dropped (h : (d.ethPort (1 - p)).busy = true) (hfull : d.poolFits 2 (buffersOf f.length) = false) :
    d.forward p off f true = (d.bump (Obj.FORWARD_DROPPED p)).poolDrop 2 := by
  simp only [Dev.forward, h, Bool.not_true, Bool.false_eq_true, if_false, poolTake_none hfull]

end

/-! ## Buffers returned (R219) -/

/-- The block once buffers were returned to the pool, whatever their channels: no object below the pool's own differs. -/
structure Dev.Freed (d e : Dev) : Prop where
  rest : { e with dict := d.dict } = d
  low : ∀ k < 0x048000, e.obj k = d.obj k

theorem Dev.Freed.refl (d : Dev) : d.Freed d := ⟨rfl, fun _ _ => rfl⟩

theorem Dev.Freed.poolFree {d e : Dev} (h : d.Freed e) (c n : Nat) : d.Freed (e.poolFree c n) := by
  obtain ⟨m, hm⟩ := poolSet_shape e c (e.obj (Obj.POOL_IN_USE c) - n)
  refine ⟨?_, fun k hk => (poolSet_other e c _ (by omega) (by simp only [Obj.SHARED_FREE]; omega)).trans (h.low k hk)⟩
  rw [Dev.poolFree, hm]
  exact h.rest

section
variable {d e : Dev} (h : d.Freed e)
include h

theorem Dev.Freed.eth : e.eth = d.eth := (congrArg Dev.eth h.rest :)
theorem Dev.Freed.tb : e.tb = d.tb := (congrArg Dev.tb h.rest :)
theorem Dev.Freed.ctl : e.ctl = d.ctl := (congrArg Dev.ctl h.rest :)
theorem Dev.Freed.blobs : e.blobs = d.blobs := (congrArg Dev.blobs h.rest :)
theorem Dev.Freed.drops : e.drops = d.drops := (congrArg Dev.drops h.rest :)

end

/-- The buffers of the frame that was being sent returned. -/
def Dev.sentFreed (d : Dev) (p : Nat) : Dev := (d.ethPort p).sending.elim d fun x => d.poolFree x.1 x.2

theorem freed_sent {d e : Dev} (h : d.Freed e) (o : Option (Nat × Nat)) : d.Freed (o.elim e fun x => e.poolFree x.1 x.2) := by
  cases o with
  | none => exact h
  | some x => exact h.poolFree x.1 x.2

/-! ## A frame has left (R146) -/

/-- A port on which no frame is being sent. -/
def EthPort.idle (e : EthPort) : EthPort := { e with busy := false, sending := none }

/-- A port without a frame that waited. -/
def EthPort.without (q : EthQueued) (e : EthPort) : EthPort := { e with queue := e.queue.erase q }

/-- The block once a frame has left a port. -/
def Dev.frameEnded (d : Dev) (p : Nat) : Dev := { d.sentFreed p with eth := upd EthPort.idle (d.sentFreed p).eth p }

/-- The block once the next frame is taken from the queue. -/
def Dev.frameTaken (d : Dev) (p : Nat) (q : EthQueued) : Dev :=
  { d.frameEnded p with eth := upd (EthPort.without q) (d.frameEnded p).eth p }

section
variable {d : Dev} {p : Nat}

theorem ethEgressTx_empty (off : Nat) (h : pickFrame (d.ethPort p).queue = none) : d.ethEgressTx p off = d.frameEnded p := by
  cases hs : (d.ethPort p).sending <;> simp only [Dev.ethEgressTx, h, hs, Dev.frameEnded, Dev.sentFreed, Option.elim] <;> rfl

theorem freed_sentFreed (d : Dev) (p : Nat) : d.Freed (d.sentFreed p) := freed_sent (.refl d) _

theorem frameEnded_runs : (d.frameEnded p).ethRuns = d.ethRuns :=
  ethRuns_congr ((freed_sentFreed d p).low _ (by decide)) (freed_sentFreed d p).tb (freed_sentFreed d p).ctl

theorem ethEgressTx_next (off : Nat) {q : EthQueued} (hruns : d.ethRuns = true) (h : pickFrame (d.ethPort p).queue = some q) :
    d.ethEgressTx p off = (d.frameTaken p q).ethSend p off q := by
  have hgoes : ¬ (!(d.frameEnded p).ethRuns) = true := by
    rw [frameEnded_runs, hruns]
    decide
  unfold Dev.frameEnded Dev.sentFreed at hgoes
  cases hs : (d.ethPort p).sending <;> rw [hs] at hgoes <;>
    simp only [Dev.ethEgressTx, Dev.frameTaken, Dev.frameEnded, Dev.sentFreed, h, hs, Option.elim] <;> exact if_neg hgoes

theorem frameTaken_low (q : EthQueued) {k : Nat} (h : k < 0x048000) : (d.frameTaken p q).obj k = d.obj k := (freed_sentFreed d p).low k h

theorem frameTaken_tb (q : EthQueued) : (d.frameTaken p q).tb = d.tb := (freed_sentFreed d p).tb

/-- The port once its next frame has started. -/
theorem next_port {q : EthQueued} {e : Dev} (h : pickFrame (d.ethPort p).queue = some q)
    (he : e.eth = upd (EthPort.started q.channel q.buffers) (d.frameTaken p q).eth p) :
    (e.ethPort p).queue = (d.ethPort p).queue.erase q ∧ (e.ethPort p).busy = true := by
  have hport : p < d.eth.length := ethPort_exists EthPort.queue fun heq => by
    rw [heq] at h
    cases h
  have hsent : (d.sentFreed p).eth = d.eth := (freed_sentFreed d p).eth
  have hended : (d.frameEnded p).ethPort p = (d.ethPort p).idle := by
    rw [ethPort_upd (d := d.sentFreed p) rfl (by rw [hsent]; exact hport), ethPort_congr hsent]
  have hendedLength : p < (d.frameEnded p).eth.length := by
    rw [Dev.frameEnded, upd_length, hsent]
    exact hport
  have htaken : (d.frameTaken p q).ethPort p = (d.ethPort p).idle.without q := by
    rw [ethPort_upd (d := d.frameEnded p) rfl hendedLength, hended]
  have htakenLength : p < (d.frameTaken p q).eth.length := by
    rw [Dev.frameTaken, upd_length]
    exact hendedLength
  rw [ethPort_upd he htakenLength, htaken]
  exact ⟨rfl, rfl⟩

end

/-! ## A link changes (R144) -/

/-- The link of a port is down, and the port stands as given. -/
def Dev.DownAs (d : Dev) (p : Fin 2) (x : EthPort) : Prop := d.obj (Obj.LINK p) = 0 ∧ d.ethPort p = x

section
variable {d : Dev} {p : Fin 2} {x : EthPort} (h : d.DownAs p x)
include h

/-- A report that sends no frame leaves the port. -/
theorem Dev.DownAs.report {e : Dev} (hreport : Reported d e) (heth : e.eth = d.eth) : e.DownAs p x :=
  ⟨(hreport.obj _ (portObject_low p 0 (by decide)).1).trans h.1, (ethPort_congr heth p).trans h.2⟩

theorem Dev.DownAs.occur {src : Nat} (hs : src < 256) : (d.occur src).DownAs p x := h.report (reported_occur d src hs) rfl

theorem Dev.DownAs.withEvq (q : EventQ) : ({ d with evq := q } : Dev).DownAs p x := h

theorem Dev.DownAs.enqueueRecord (r : EventRecord) : (d.enqueueRecord r).DownAs p x := by
  refine h.report (reported_enqueue d r) ?_
  unfold Dev.enqueueRecord
  split <;> rfl

theorem Dev.DownAs.placeOverflow : d.placeOverflow.DownAs p x := by
  unfold Dev.placeOverflow
  split
  · exact h
  · exact ((h.occur (by decide)).withEvq _).enqueueRecord _

theorem Dev.DownAs.hostRecord (r : EventRecord) : (d.hostRecord r).DownAs p x := by
  unfold Dev.hostRecord
  dsimp only
  split
  · exact (h.placeOverflow.withEvq _).report (reported_bump _ Obj.EVENTS_DROPPED (by decide) (by decide)) rfl
  · exact h.placeOverflow.enqueueRecord _

/-- A frame for another port is none for this one. -/
theorem Dev.DownAs.ethQueue {j : Nat} (hj : j ≠ p) (q : EthQueued) : (d.ethQueue j q).DownAs p x := by
  have hother : ∀ f : EthPort → EthPort, getAt _ (upd f d.eth j) p = x := fun f => (getAt_upd_ne _ f d.eth j p hj).trans h.2
  refine ⟨((reported_ethQueue d j q).obj _ (portObject_low p 0 (by decide)).1).trans h.1, ?_⟩
  unfold Dev.ethQueue
  dsimp only
  split
  · exact hother _
  · exact hother _

/-- No datagram leaves a port whose link is down. -/
theorem Dev.DownAs.sendUdp (j ip dst src : Nat) (l : List Byte) : (d.sendUdp j ip dst src l).DownAs p x := by
  unfold Dev.sendUdp
  split
  · exact h
  · rename_i hleaves
    have hj : j ≠ p := by
      rintro rfl
      exact hleaves (by simp [Dev.udpLeaves, h.1])
    cases hfits : d.poolFits 3 (buffersOf (l.length + 42)) with
    | false =>
      rw [poolTake_none hfits]
      exact h.report (reported_poolDrop3 d) rfl
    | true =>
      rw [poolTake_some hfits]
      exact (h.report (reported_poolSet3 d _) rfl).ethQueue hj _

theorem Dev.DownAs.sendSession (i kind : Nat) (body : List Byte) : (d.sendSession i kind body).DownAs p x := by
  unfold Dev.sendSession
  split
  · exact h
  · have hsession : (d.updSession i fun y => { y with seqTx := y.seqTx + 1 }).DownAs p x := h
    exact hsession.sendUdp _ _ _ _ _

theorem Dev.DownAs.raise {src : Nat} (data : Nat) (hs : src < 256) : (d.raise src data).DownAs p x := by
  unfold Dev.raise
  dsimp only
  have hoccur := h.occur hs
  split
  · refine foldl_induct (fun e => Dev.DownAs e p x) _ _ _ (fun _ _ g => g.sendSession _ _ _) ?_
    split
    · exact (hoccur.withEvq _).hostRecord _
    · exact hoccur.withEvq _
  · exact hoccur

theorem Dev.DownAs.settle : d.settle.DownAs p x := by
  unfold Dev.settle
  dsimp only
  have hraised := foldl_induct (fun e : Dev => e.DownAs p x) d.drops (fun e c => e.raise 0x3D c) { d with drops := [] }
    (fun _ c g => g.raise c (by decide)) h
  exact foldl_induct (fun e : Dev => e.DownAs p x) _ (fun e _ => e.occur 0x3D) _ (fun _ _ g => g.occur (by decide)) hraised

end

/-- The block once the buffers of a port's frames were returned. -/
def Dev.queueFreed (d : Dev) (p : Nat) : Dev :=
  let e := (d.ethPort p).queue.foldl (fun d q => d.poolFree q.channel q.buffers) d
  (d.ethPort p).sending.elim e fun x => e.poolFree x.1 x.2

theorem freed_queueFreed (d : Dev) (p : Nat) : d.Freed (d.queueFreed p) :=
  freed_sent (foldl_induct (fun e => d.Freed e) _ _ _ (fun _ q g => g.poolFree q.channel q.buffers) (.refl d)) _

theorem ethFlush_eq (d : Dev) (p : Nat) :
    d.ethFlush p = { d.queueFreed p with eth := upd (fun _ => ⟨false, [], none⟩) (d.queueFreed p).eth p } := by
  cases hs : (d.ethPort p).sending <;> simp only [Dev.ethFlush, hs, Dev.queueFreed, Option.elim]

theorem ethFlush_obj (d : Dev) (p : Nat) {k : Nat} (h : k < 0x048000) : (d.ethFlush p).obj k = d.obj k := by
  rw [ethFlush_eq]
  exact (freed_queueFreed d p).low k h

theorem ethFlush_blobs (d : Dev) (p : Nat) : (d.ethFlush p).blobs = d.blobs := by
  rw [ethFlush_eq]
  exact (freed_queueFreed d p).blobs

/-- A port flushed waits for nothing, whether or not there is one. -/
theorem ethFlush_port (d : Dev) (p : Nat) : (d.ethFlush p).ethPort p = ⟨false, [], none⟩ := by
  by_contra hne
  have hlength : p < (d.queueFreed p).eth.length := by
    have hport : p < (d.ethFlush p).eth.length := ethPort_exists id hne
    rw [ethFlush_eq, upd_length] at hport
    exact hport
  rw [ethFlush_eq] at hne
  exact hne (ethPort_upd (d := d.queueFreed p) (f := fun _ => ⟨false, [], none⟩) rfl hlength)

section
variable {d : Dev} {p : Fin 2} {report : LinkReport}

theorem ethLink_same (h : (d.tb.serdesStopped = true ∧ linkUp report = true) ∨ decide (d.obj (Obj.LINK p) ≠ 0) = linkUp report) :
    d.ethLink p report = d := by
  rcases h with ⟨hstopped, hup⟩ | hsame
  · simp [Dev.ethLink, hstopped, hup]
  · have hsame' : ((d.obj (Obj.LINK p) != 0) == linkUp report) = true := by
      rw [← hsame]
      simp [bne, beq_eq_decide]
    simp only [Dev.ethLink, hsame', if_true, ite_self]

/-- The block once a changed link is shown, before it is reported: a link that goes down empties its queue. -/
def Dev.linkShown (d : Dev) (p : Nat) (up : Bool) : Dev := if up then d.setObjB (Obj.LINK p) up else (d.setObjB (Obj.LINK p) up).ethFlush p

theorem ethLink_changes (h : decide (d.obj (Obj.LINK p) ≠ 0) ≠ linkUp report) (hserdes : linkUp report = true → d.tb.serdesStopped = false) :
    d.ethLink p report = (d.linkShown p (linkUp report)).raise 0x2A (b2n (linkUp report) * 256 + p) := by
  have hlive : (d.tb.serdesStopped && linkUp report) = false := by
    cases hup : linkUp report with
    | false => exact Bool.and_false _
    | true => rw [hserdes hup]; rfl
  have hdiffers : ((d.obj (Obj.LINK p) != 0) == linkUp report) = false := by
    rw [beq_eq_false_iff_ne]
    intro heq
    exact h (heq ▸ by simp [bne, beq_eq_decide])
  simp only [Dev.ethLink, hlive, hdiffers, Bool.false_eq_true, if_false, Dev.linkShown]

theorem linkShown_obj (up : Bool) : (d.linkShown p up).obj (Obj.LINK p) = up.toNat := by
  cases up with
  | true => exact Dev.obj_setObj_same _ _ _
  | false => exact (ethFlush_obj _ p (portObject_low p 0 (by decide)).2).trans (Dev.obj_setObj_same _ _ _)

theorem linkShown_blobs (up : Bool) : (d.linkShown p up).blobs = d.blobs := by
  cases up with
  | true => rfl
  | false => exact ethFlush_blobs _ p

theorem linkShown_down : (d.linkShown p false).DownAs p ⟨false, [], none⟩ := ⟨linkShown_obj false, ethFlush_port _ p⟩

end

end Sys2Proof.Machine
end

section
/-! SUPPORT. The two-port line: what each of its commands shows, and the obligation (R144 to R157). -/

set_option Elab.async false

namespace Sys2Proof.Machine

theorem alters_bump (d : Dev) {k : Nat} {l : List Nat} (h : k ∈ l) : d.Alters l (d.bump k) := alters_setObj d _ h

/-! ## What a frame cut through shows (R145, R153, R155) -/

section
variable {d : Dev} {p : Nat} {f : List Byte} (off : Nat)

/-- No event message, or no transparent clock: the frame leaves as it came. -/
theorem cut_plain (hidle : (d.ethPort (1 - p)).busy = false) (h : isEventMessage f = none ∨ d.objB Obj.TC_ENABLE = false) :
    d.forward p off f true = d.drawn.ethStart (1 - p) (d.throughFrame p off f) (.raw f) := by
  rw [forward_cut off hidle]
  refine ethSend_eq (asItLeaves_plain rfl (h.imp (fun hnone => ?_) id))
  simp [Dev.throughFrame, hnone]

/-- An event message: the residence is the frame's way through the block and its latencies. -/
theorem cut_event (hidle : (d.ethPort (1 - p)).busy = false) (hevent : (isEventMessage f).isSome = true) (htc : d.objB Obj.TC_ENABLE = true) :
    d.forward p off f true = (d.drawn.bump (Obj.TC_CORRECTED (1 - p))).ethStart (1 - p) (d.throughFrame p off f)
      (.raw (correctFrame f (d.residence + d.objI 16 (Obj.EGRESS_LATENCY (1 - p)) + d.objI 16 (Obj.INGRESS_LATENCY p)))) := by
  have hingress : (d.throughFrame p off f).ingress = some (d.ingressStamp p off) := if_pos hevent
  have hresidence : d.drawn.egressStamp (1 - p) (off + d.residence) - d.ingressStamp p off
      = d.residence + d.objI 16 (Obj.EGRESS_LATENCY (1 - p)) + d.objI 16 (Obj.INGRESS_LATENCY p) := by
    have hstamp : d.drawn.egressStamp (1 - p) (off + d.residence) = d.egressStamp (1 - p) (off + d.residence) := egressStamp_congr rfl _ _ rfl
    rw [hstamp]
    simp only [Dev.egressStamp, Dev.ingressStamp, Dev.timeNs, Nat.cast_add]
    ring
  rw [forward_cut off hidle, ← hresidence]
  exact ethSend_eq (asItLeaves_event rfl hingress htc)

/-- Whatever is written into a frame passed on, it stays a frame, one that is no event message as it came, and its count is the one object. -/
theorem asItLeaves_through (q off' : Nat) : ∃ g e, d.asItLeaves q off' (d.throughFrame p off f) = (.raw g, e) ∧
    (isEventMessage f = none → g = f) ∧ d.Alters [Obj.TC_CORRECTED q] e := by
  by_cases h : (d.throughFrame p off f).ingress = none ∨ d.objB Obj.TC_ENABLE = false
  · exact ⟨f, d, asItLeaves_plain rfl h, fun _ => rfl, .refl d _⟩
  · rw [not_or, Bool.not_eq_false] at h
    obtain ⟨t, ht⟩ := Option.ne_none_iff_exists'.mp h.1
    refine ⟨_, _, asItLeaves_event rfl ht h.2, fun hnone => absurd ?_ h.1, alters_bump d (List.mem_singleton_self _)⟩
    simp [Dev.throughFrame, hnone]

end

section
variable {s : State} {p : Fin 2} {f : List Byte} (off : Nat)

/-- What the counters of a bad frame may change (R156, R176). -/
def badFrameShown (p : Fin 2) : List Nat := [Obj.RX_FCS_ERRORS p, Obj.TC_ERRORS p, Obj.TC_CORRECTED (1 - p)]

/-- A frame cut through with a bad FCS: its copy leaves with the FCS inverted, and it is counted and reported. -/
theorem cut_bad {d : Dev} (hd : s.dev.fresh.Alters (badFrameShown p) d) (hidle : (d.ethPort (1 - p)).busy = false) :
    let e := (d.forward p off f false).settle
    (∃ g, Emit.eth (1 - p) (.raw g) false ∈ e.emitted ∧ (isEventMessage f = none → g = f)) ∧ e.latched 0x28 = true ∧
      s.Only { s with dev := e } (badFrameShown p) := by
  obtain ⟨g, c, hleaves, hsame, hcounted⟩ := asItLeaves_through (d := d.drawn) (p := p) (f := f) off (1 - p) (off + d.residence)
  have hforward := forward_bad off hidle (show d.drawn.asItLeaves _ _ (d.throughFrame p off f) = _ from hleaves)
  have hreport := (reported_raise ((c.cutBad (1 - p) (.raw g)).bump (Obj.TC_ERRORS p)) 0x28 p (by decide)).trans (reported_settle _)
  have hcut : c.Alters (badFrameShown p) (c.cutBad (1 - p) (.raw g)) := ⟨fun _ _ _ => rfl, rfl⟩
  have hdrawn : d.Alters (badFrameShown p) d.drawn := ⟨fun _ _ _ => rfl, rfl⟩
  have hbumped : (c.cutBad (1 - p) (.raw g)).Alters (badFrameShown p) ((c.cutBad (1 - p) (.raw g)).bump (Obj.TC_ERRORS p)) :=
    alters_bump _ (by simp [badFrameShown])
  have hshown := ((((hd.trans hdrawn).trans (hcounted.mono (by simp [badFrameShown]))).trans hcut).trans hbumped).report hreport
  rw [hforward]
  refine ⟨⟨g, hreport.emitted.subset (List.mem_append_right _ (List.mem_singleton_self _)), hsame⟩,
    settle_latched _ _ (by decide) (latched_raise _ _ _ (by decide)), hshown.only⟩

end

/-! ## Reports of an event message over IPv6 (R157) -/

section
variable {d : Dev} {p : Fin 2} {f : List Byte} (off : Nat)

theorem remembers_bump (d : Dev) {k : Nat} (h : k / 256 ≠ 0x611) : d.Remembers (d.bump k) :=
  remembers_of_obj _ fun j hj => by rw [Dev.obj_bump, if_neg (by rintro rfl; exact h hj)]

theorem remembers_ethStart (d : Dev) (p : Nat) (q : EthQueued) (pl : EthPayload) : d.Remembers (d.ethStart p q pl) :=
  (reported_ethStart d p q pl).remembers

theorem remembers_poolSet2 (d : Dev) (n : Nat) : d.Remembers (d.poolSet 2 n) :=
  remembers_of_obj _ fun _ hj => poolSet_other d 2 n (by omega) (by simp only [Obj.SHARED_FREE]; omega)

/-- Passing a good frame on clears no latch. -/
theorem remembers_forward : d.Remembers (d.forward p off f true) := by
  have hdrawn : d.Remembers d.drawn := remembers_of_obj _ fun _ _ => rfl
  cases hbusy : (d.ethPort (1 - p)).busy with
  | false =>
    by_cases h : isEventMessage f = none ∨ d.objB Obj.TC_ENABLE = false
    · rw [cut_plain off hbusy h]
      exact hdrawn.trans (remembers_ethStart _ _ _ _)
    · rw [not_or, Bool.not_eq_false] at h
      rw [cut_event off hbusy (Option.isSome_iff_ne_none.mpr h.1) h.2]
      exact (hdrawn.trans (remembers_bump _ (by simp only [Obj.TC_CORRECTED]; omega))).trans (remembers_ethStart _ _ _ _)
  | true =>
    cases hfits : d.poolFits 2 (buffersOf f.length) with
    | true =>
      rw [forward_waits off hbusy hfits]
      exact (remembers_poolSet2 d _).trans (remembers_of_obj _ fun _ _ => rfl)
    | false =>
      rw [forward_dropped off hbusy hfits]
      have hdropped := remembers_bump d (k := Obj.FORWARD_DROPPED p) (by simp only [Obj.FORWARD_DROPPED]; omega)
      exact (hdropped.trans (remembers_bump _ (k := Obj.POOL_DROPPED 2) (by decide))).trans (reported_drops _ _).remembers

theorem ipv6_latched : ((d.ipv6Seen p).passOn p off f true).latched 0x29 = true := by
  have hlatched : (d.ipv6Seen p).latched 0x29 = true := latched_raise _ _ _ (by decide)
  unfold Dev.passOn
  split
  · exact hlatched
  · exact remembers_forward off _ (by decide) hlatched

end

/-! ## A frame that waits, and one that is dropped (R145) -/

section
variable {s : State} {p : Fin 2} {f : List Byte} (off : Nat)

theorem waits_settle (hbusy : (s.dev.ethPort (1 - p)).busy = true) (hfits : s.dev.poolFits 2 (buffersOf f.length) = true) :
    ((s.dev.fresh.forward p off f true).settle.ethPort (1 - p)).queue =
      (s.dev.ethPort (1 - p)).queue ++ [{ s.dev.throughFrame p off f with buffers := buffersOf f.length }] := by
  have hport : (1 - p : Nat) < s.dev.eth.length := ethPort_exists EthPort.busy (by simp [hbusy])
  rw [forward_waits (d := s.dev.fresh) off hbusy hfits, settle_none _ rfl]
  exact congrArg EthPort.queue (ethPort_upd (d := s.dev)
    (f := EthPort.waiting { s.dev.throughFrame p off f with buffers := buffersOf f.length }) rfl hport)

theorem dropped_settle (hbusy : (s.dev.ethPort (1 - p)).busy = true) (hfull : s.dev.poolFits 2 (buffersOf f.length) = false) :
    let e := (s.dev.fresh.forward p off f true).settle
    e.latched 0x3D = true ∧ s.Only { s with dev := e } [Obj.FORWARD_DROPPED p, Obj.POOL_DROPPED 2, Obj.POOL_DROPPED 3] := by
  rw [forward_dropped (d := s.dev.fresh) off hbusy hfull]
  have hcounted : s.dev.fresh.Alters [Obj.FORWARD_DROPPED p, Obj.POOL_DROPPED 2, Obj.POOL_DROPPED 3] (s.dev.fresh.bump (Obj.FORWARD_DROPPED p)) :=
    alters_bump _ (by simp)
  have hdropped := (hcounted.trans (alters_bump _ (k := Obj.POOL_DROPPED 2) (by simp))).report (reported_drops _ [2])
  exact ⟨settle_latches_drop (List.cons_ne_nil _ _), (hdropped.report (reported_settle _)).only⟩

end

/-! ## A frame that follows (R146, R153) -/

section
variable {s : State} {p : Fin 2} {q : EthQueued} {pl : EthPayload} {e : Dev}

/-- The frame that follows starts on the port it was picked from. -/
theorem next_settle (off : Nat) (hruns : s.dev.ethRuns = true) (hq : pickFrame (s.dev.ethPort p).queue = some q)
    (hleaves : (s.dev.fresh.frameTaken p q).asItLeaves p off q = (pl, e)) (heth : e.eth = (s.dev.fresh.frameTaken p q).eth)
    (hdrops : e.drops = (s.dev.fresh.frameTaken p q).drops) :
    let t := (s.dev.fresh.ethEgressTx p off).settle
    Emit.eth p (e.frameOf p pl) true ∈ t.emitted ∧ (t.ethPort p).queue = (s.dev.ethPort p).queue.erase q ∧ (t.ethPort p).busy = true ∧
      t.dict = e.dict := by
  have hnone : (e.ethStart p q pl).drops = [] := hdrops.trans (freed_sentFreed s.dev.fresh p).drops
  rw [ethEgressTx_next (d := s.dev.fresh) off hruns hq, ethSend_eq hleaves, settle_none _ hnone]
  have hstarted : (e.ethStart p q pl).eth = upd (EthPort.started q.channel q.buffers) (s.dev.fresh.frameTaken p q).eth p := by
    rw [ethStart_eth, heth]
  obtain ⟨hqueue, hbusy⟩ := next_port (d := s.dev.fresh) hq hstarted
  exact ⟨ethStart_emits e p q pl, hqueue, hbusy, rfl⟩

end

/-! ## The obligation -/

/-- Settles O48: a frame is received, passed on, or dropped by one equation for each case, a frame that follows starts from the queue it is
taken from, and no report reaches a port whose link is down. -/
theorem ethernetForwardsAndCorrects : Obligations.EthernetForwardsAndCorrects := by
  unfold Obligations.EthernetForwardsAndCorrects
  refine ⟨fun s p f ok off hmin hmax => ⟨fun hstopped => ?stopped, fun hruns hlink => ⟨fun hmac hplain => ?own, fun hipv6 => ?ipv6,
      fun hother hown hplain => ⟨fun hidle => ⟨fun hevent => ?unchanged, fun hevent htc => ?corrected, ?bad⟩,
        fun hbusy => ⟨fun hfits => ?waits, fun hfull => ?dropped⟩⟩⟩⟩,
    fun s p off => ⟨fun hqueue hsending => ?empty, fun q f hruns hq hpayload hingress => ?next,
      fun q f t0 hruns hq hpayload hingress htc => ?nextCorrected⟩,
    fun s p report => ⟨fun hsame => ?same, fun hchanges hserdes => ?changes⟩⟩
  case stopped =>
    refine answers_onDev (fun d => d.ethFrameRx p off f ok) (guardForm_true _ (by simp [hmin, hmax])) ?_
    rw [ethFrameRx_stopped (d := s.dev.fresh) off ok hstopped, fresh_settle]
    exact ⟨same_of_dict (e := s.dev.fresh) rfl rfl rfl, rfl⟩
  case own =>
    refine answers_onDev (fun d => d.ethFrameRx p off f true) (guardForm_true _ (by simp [hmin, hmax])) ?_
    rw [ethFrameRx_own (d := s.dev.fresh) off hruns hlink hplain (isOwnMac_of p hmac), fresh_settle]
    exact ⟨same_of_dict (e := s.dev.fresh) rfl rfl rfl, rfl⟩
  case ipv6 =>
    refine answers_onDev (fun d => d.ethFrameRx p off f true) (guardForm_true _ (by simp [hmin, hmax])) ?_
    rw [ethFrameRx_ipv6 (d := s.dev.fresh) off hruns hlink hipv6]
    exact settle_latched _ _ (by decide) (ipv6_latched off)
  case unchanged =>
    refine answers_onDev (fun d => d.ethFrameRx p off f true) (guardForm_true _ (by simp [hmin, hmax])) ?_
    rw [ethFrameRx_forwards (d := s.dev.fresh) off hruns hlink hplain hother hown, cut_plain (d := s.dev.fresh) off hidle hevent]
    exact ⟨same_of_dict rfl rfl rfl, (reported_settle _).emitted.subset (ethStart_emits _ _ _ _)⟩
  case corrected =>
    refine answers_onDev (fun d => d.ethFrameRx p off f true) (guardForm_true _ (by simp [hmin, hmax])) ?_
    rw [ethFrameRx_forwards (d := s.dev.fresh) off hruns hlink hplain hother hown, cut_event (d := s.dev.fresh) off hidle hevent htc]
    have hdrawn : s.dev.fresh.Alters [Obj.TC_CORRECTED (1 - p)] s.dev.fresh.drawn := ⟨fun _ _ _ => rfl, rfl⟩
    have hcounted := hdrawn.trans (alters_bump _ (k := Obj.TC_CORRECTED (1 - p)) (List.mem_singleton_self _))
    obtain ⟨hleast, hmost⟩ := residence_bounds s.dev.fresh
    exact ⟨⟨s.dev.fresh.residence, hleast, hmost, (reported_settle _).emitted.subset (ethStart_emits _ _ _ _)⟩,
      (hcounted.report ((reported_ethStart _ _ _ _).trans (reported_settle _))).only⟩
  case bad =>
    refine answers_onDev (fun d => d.ethFrameRx p off f false) (guardForm_true _ (by simp [hmin, hmax])) ?_
    have hobj : ∀ k, Obj.RX_FCS_ERRORS p ≠ k → (s.dev.fresh.bump (Obj.RX_FCS_ERRORS p)).obj k = s.dev.obj k := fun k hk =>
      (Dev.obj_bump _ _ _).trans (if_neg hk)
    have hother' : (s.dev.fresh.bump (Obj.RX_FCS_ERRORS p)).obj (Obj.LINK (1 - p)) ≠ 0 := by
      rw [hobj _ (by simp only [Obj.RX_FCS_ERRORS, Obj.LINK]; omega)]
      exact hother
    have hown' : (s.dev.fresh.bump (Obj.RX_FCS_ERRORS p)).isOwnMac f = false := by
      rw [← hown, Dev.isOwnMac, hobj _ (by simp only [Obj.RX_FCS_ERRORS, Obj.MAC_ADDRESS]; omega),
        hobj _ (by simp only [Obj.RX_FCS_ERRORS, Obj.MAC_ADDRESS]; omega), Dev.isOwnMac]
    rw [ethFrameRx_bad (d := s.dev.fresh) off hruns hlink, passOn_forwards off false hother' hown']
    exact cut_bad off (alters_bump s.dev.fresh (by simp [badFrameShown])) hidle
  case waits =>
    refine answers_onDev (fun d => d.ethFrameRx p off f true) (guardForm_true _ (by simp [hmin, hmax])) ?_
    rw [ethFrameRx_forwards (d := s.dev.fresh) off hruns hlink hplain hother hown]
    exact waits_settle off hbusy hfits
  case dropped =>
    refine answers_onDev (fun d => d.ethFrameRx p off f true) (guardForm_true _ (by simp [hmin, hmax])) ?_
    rw [ethFrameRx_forwards (d := s.dev.fresh) off hruns hlink hplain hother hown]
    exact dropped_settle off hbusy hfull
  case empty =>
    have hfreed : s.dev.fresh.sentFreed p = s.dev.fresh := by
      have hsending' : (s.dev.fresh.ethPort p).sending = none := hsending
      rw [Dev.sentFreed, hsending']
      rfl
    have hnone : pickFrame (s.dev.fresh.ethPort p).queue = none := congrArg pickFrame hqueue
    refine answers_onDev (fun d => d.ethEgressTx p off) rfl ?_
    rw [ethEgressTx_empty (d := s.dev.fresh) off hnone, Dev.frameEnded, hfreed]
    refine ⟨same_of_dict rfl rfl rfl, ?_⟩
    rw [settle_none _ rfl]
    by_contra hbusy
    have hport := ethPort_exists EthPort.busy hbusy
    rw [upd_length] at hport
    exact hbusy (congrArg EthPort.busy (ethPort_upd (d := s.dev) (f := EthPort.idle) rfl hport))
  case next =>
    refine answers_onDev (fun d => d.ethEgressTx p off) rfl ?_
    obtain ⟨hemit, hqueue, hbusy, -⟩ := next_settle off hruns hq (asItLeaves_plain hpayload (.inl hingress)) rfl rfl
    exact ⟨hemit, hqueue, hbusy⟩
  case nextCorrected =>
    have htc' : (s.dev.fresh.frameTaken p q).objB Obj.TC_ENABLE = true := by
      rw [Dev.objB, frameTaken_low q (by decide)]
      exact htc
    have hstamp : (s.dev.fresh.frameTaken p q).egressStamp p off = s.dev.egressStamp p off :=
      egressStamp_congr (frameTaken_tb q) p off (frameTaken_low q (portObject_low p 2 (by decide)).2)
    refine answers_onDev (fun d => d.ethEgressTx p off) rfl ?_
    obtain ⟨hemit, hqueue, -, hdict⟩ := next_settle off hruns hq (asItLeaves_event hpayload hingress htc') rfl rfl
    rw [hstamp] at hemit
    refine ⟨hemit, hqueue, ?_⟩
    rw [Dev.obj_congr _ _ hdict, Dev.obj_bump, if_pos rfl, frameTaken_low q (portObject_low p 4 (by decide)).2]
    rfl
  case same =>
    refine answers_onDev (fun d => d.ethLink p report) rfl ?_
    rw [ethLink_same (d := s.dev.fresh) hsame, fresh_settle]
    exact ⟨same_of_dict (e := s.dev.fresh) rfl rfl rfl, rfl⟩
  case changes =>
    refine answers_onDev (fun d => d.ethLink p report) rfl ?_
    rw [ethLink_changes (d := s.dev.fresh) hchanges hserdes]
    have hreport := (reported_raise (s.dev.fresh.linkShown p (linkUp report)) 0x2A (b2n (linkUp report) * 256 + p) (by decide)).trans (reported_settle _)
    refine ⟨(hreport.obj _ (portObject_low p 0 (by decide)).1).trans (linkShown_obj _), settle_latched _ _ (by decide) (latched_raise _ _ _ (by decide)),
      fun hdown => ?_, hreport.blobs.trans (linkShown_blobs _), rfl⟩
    rw [hdown]
    exact congrArg EthPort.queue (linkShown_down.raise _ (by decide)).settle.2

end Sys2Proof.Machine
end

section
/-! SUPPORT. The ordinary clock as a slave: a Delay_Req where MASTER_INGRESS holds no port's number (R150, R161, R218). -/

set_option Elab.async false

namespace Sys2Proof.Machine

/-- A slave in CONFIG whose MASTER_INGRESS holds 0x153, which is no Ethernet port: the egress latency of that number is the object
that counts the buffers of pool channel 3 in use. -/
def portlessMaster : State :=
  { State.reset with
    dev := (((bootDev.setObj Obj.DEVICE_STATE stConfig).setObj Obj.PTP_ENABLE 1).setObj Obj.PTP_ROLE 1).setObj Obj.MASTER_INGRESS 0x153 }

/-- It may send a Delay_Req: every condition of R161 holds, the link it looks at being the reserve of pool channel 3. -/
theorem portlessMaster_mayRequest :
    portlessMaster.dev.slaveRuns = true ∧ portlessMaster.dev.reqAllowed = true ∧ portlessMaster.dev.obj Obj.MASTER_INGRESS = 0x153 ∧
      portlessMaster.dev.ethRuns = true ∧ portlessMaster.dev.obj (Obj.LINK 0x153) ≠ 0 ∧ portlessMaster.dev.poolFits 3 1 = true ∧
      (portlessMaster.dev.ethPort 0x153).busy = false := by
  and_intros <;> decide +kernel

/-- Its Delay_Req takes a buffer before it is stamped, so t3 is 1 ns later than the stamp before the command. -/
theorem portlessMaster_stamp :
    portlessMaster.dev.egressStamp 0x153 0 = 0 ∧ (portlessMaster.dev.fresh.delayReqTx 0).settle.ptp.t3 = some 1 := by
  and_intros <;> decide +kernel

/-- Refutes O49: its clause on the Delay_Req takes every value of MASTER_INGRESS but 0xFF for a port, and at 0x153 the t3 it claims is the
stamp with the pool's count of buffers before the request has taken its own. -/
theorem not_ptpSlaveFollowsItsMaster : ¬ Obligations.PtpSlaveFollowsItsMaster := by
  unfold Obligations.PtpSlaveFollowsItsMaster
  rintro ⟨-, -, -, -, hreq⟩
  obtain ⟨hslave, hallowed, hport, hruns, hlink, hfits, hidle⟩ := portlessMaster_mayRequest
  obtain ⟨hstamp, ht3⟩ := portlessMaster_stamp
  obtain ⟨-, hsends⟩ := hreq portlessMaster 0
  rw [hport] at hsends
  obtain ⟨t, hexec, -, -, hclaimed, -⟩ := hsends hslave hallowed (by decide) hruns hlink hfits hidle
  cases hexec
  exact absurd (ht3.symm.trans (hclaimed.trans (congrArg some hstamp))) (by decide)

end Sys2Proof.Machine
end

section
/-! SUPPORT. Rings beside the head and rings that are not there: what a repeat and a loopback do of them (R203, R215, R516). -/

set_option Elab.async false

namespace Sys2Proof.Machine

/-! ## A repeat away from the head (R203, R516) -/

/-- Only the head repeats a request. -/
theorem retryTimeout_of_not_head {d : Dev} (h : d.isHead = false) (r : Nat) : d.retryTimeout r = d := by
  simp [Dev.retryTimeout, h]

/-- A request of 1 ms ago, sent once, east. -/
def oldRequest : RingRequest := { port := 0, dest := 1, msgType := 6, seq := 0, payload := [], tries := 0, sentAt := 0 }

/-- A standby in CONFIG whose east link is up and which still lists the request, unanswered for 1 ms. -/
def standbyAsking : State :=
  { State.reset with
    dev := { ((bootDev.setObj Obj.DEVICE_STATE stConfig).setObj Obj.ROLE 2) with
             now := 1000000, rings := [{ emptyRing with eastUp := true, requests := [oldRequest] }, emptyRing] } }

/-- The request is overdue, buffers are left and its port is up, but the unit heads no ring. -/
theorem standbyAsking_overdue :
    standbyAsking.dev.overdue 0 = some oldRequest ∧ standbyAsking.dev.poolFits 0 (buffersOf (oldRequest.payload.length + 12)) = true ∧
      (standbyAsking.dev.ring 0).portUp oldRequest.port = true ∧ standbyAsking.dev.fresh.isHead = false := by
  and_intros <;> decide +kernel

/-- Refutes O35: its clauses on the repeat do not ask for a head, and a standby with an overdue request in line sends nothing (R516). -/
theorem not_messagesAreDeliveredAndRepeated : ¬ Obligations.MessagesAreDeliveredAndRepeated := by
  unfold Obligations.MessagesAreDeliveredAndRepeated
  rintro ⟨-, hretry⟩
  obtain ⟨hoverdue, hfits, hup, hhead⟩ := standbyAsking_overdue
  obtain ⟨-, hrepeats⟩ := hretry standbyAsking 0
  obtain ⟨hagain, -⟩ := hrepeats oldRequest hoverdue
  obtain ⟨t, hexec, -, hsent, -⟩ := hagain (by decide) hfits hup
  cases hexec
  have hsilent : (standbyAsking.dev.fresh.retryTimeout 0).settle.emitted = [] := by
    rw [retryTimeout_of_not_head hhead, fresh_settle]
    rfl
  exact absurd (hsilent.symm.trans hsent) (by simp)

/-! ## A loopback of a ring that is not listed (R215) -/

/-- A change of a ring that is not listed changes nothing. -/
theorem updRing_nil {d : Dev} (h : d.rings = []) (r : Nat) (f : Ring → Ring) : d.updRing r f = d := by
  simp only [Dev.updRing, h, upd]
  exact congrArg (fun l => ({ d with rings := l } : Dev)) h.symm

/-- A loopback is not noted where no ring is listed, so no bypass opens. -/
theorem loopbackDone_nil {d : Dev} (h : d.rings = []) (r : Nat) : d.loopbackDone r = d := by
  have hlooped : (d.ring r).looped = false := by
    rw [Dev.ring, h]
    rfl
  simp [Dev.loopbackDone, Dev.openBypass, updRing_nil h, hlooped]

/-- A block in CONFIG whose SerDes run and whose ring 0 is enabled, with no ring listed. -/
def ringless : State :=
  { State.reset with
    dev := { (((bootDev.setObj Obj.DEVICE_STATE stConfig).setObj Obj.PLLS_STATE 3).setObj Obj.RING_ENABLE 3) with rings := [] } }

/-- Its bypass is closed and nothing of R214 keeps it so. -/
theorem ringless_mayOpen :
    ringless.dev.ringOpen 0 = false ∧ ringless.dev.ringEnabled 0 = true ∧ ringless.dev.serdesRun = true := by
  and_intros <;> decide +kernel

/-- Refutes O36: its clause on RING_LOOPBACK_DONE takes every state, and one that lists no ring cannot note the loopback that opens the
bypass. -/
theorem not_ringsFoldAndReturn : ¬ Obligations.RingsFoldAndReturn := by
  unfold Obligations.RingsFoldAndReturn
  rintro ⟨-, -, -, -, -, hloopback⟩
  obtain ⟨hclosed, henabled, hserdes⟩ := ringless_mayOpen
  obtain ⟨hopens, -, -⟩ := hloopback ringless 0
  obtain ⟨t, hexec, hopen, -⟩ := hopens hclosed henabled hserdes
  cases hexec
  have hstays : (ringless.dev.fresh.loopbackDone 0).settle.ringOpen 0 = false := by
    rw [loopbackDone_nil rfl, fresh_settle]
    exact hclosed
  exact absurd (hstays.symm.trans hopen) (by decide)

end Sys2Proof.Machine
end

section
/-! SUPPORT. Work of the rings: messages, delays and reports, what they show and what they leave alone (R181, R202 to R211, R219). -/

set_option Elab.async false

namespace Sys2Proof.Machine

/-- A list whose elements are not changed is the list itself. -/
theorem upd_id {α : Type} (l : List α) (i : Nat) : upd id l i = l := by
  induction l generalizing i with
  | nil => rfl
  | cons a t ih => cases i with
    | zero => rfl
    | succ i => exact congrArg (a :: ·) (ih i)

/-- A ring without the traffic of its messages and of the check before a heal. -/
def Ring.quiet (g : Ring) : Ring := { g with msgSeq := 0, requests := [], healChecking := false, healAnswers := [] }

/-- Of the objects only those listed and those of reports differ; no latch falls, and the control of the block is as before. -/
structure Dev.Shows (d : Dev) (l : List Nat) (e : Dev) : Prop where
  alters : d.Alters l e
  latch : d.Remembers e
  ctl : e.ctl = d.ctl

/-- The same, the rings as before but for their traffic, and neither a context nor the cycle touched. -/
structure Dev.RingWork (d : Dev) (l : List Nat) (e : Dev) : Prop extends d.Shows l e where
  rings : e.rings.map Ring.quiet = d.rings.map Ring.quiet
  axes : e.axes = d.axes
  cyc : e.cyc = d.cyc

section
variable {d e f : Dev} {l : List Nat}

theorem Dev.Shows.refl (d : Dev) (l : List Nat) : d.Shows l d := ⟨Dev.Alters.refl d l, fun _ _ h => h, rfl⟩

theorem Dev.Shows.trans (h : d.Shows l e) (g : e.Shows l f) : d.Shows l f :=
  ⟨h.alters.trans g.alters, h.latch.trans g.latch, g.ctl.trans h.ctl⟩

theorem Dev.Shows.mono (h : d.Shows l e) {l' : List Nat} (hl : ∀ k ∈ l, k ∈ l') : d.Shows l' e := ⟨h.alters.mono hl, h.latch, h.ctl⟩

theorem Dev.RingWork.refl (d : Dev) (l : List Nat) : d.RingWork l d := ⟨Dev.Shows.refl d l, rfl, rfl, rfl⟩

theorem Dev.RingWork.trans (h : d.RingWork l e) (g : e.RingWork l f) : d.RingWork l f :=
  ⟨h.toShows.trans g.toShows, g.rings.trans h.rings, g.axes.trans h.axes, g.cyc.trans h.cyc⟩

theorem Dev.RingWork.ite {a b : Dev} (p : Prop) [Decidable p] (h : d.RingWork l a) (g : d.RingWork l b) :
    d.RingWork l (if p then a else b) := by
  split
  · exact h
  · exact g

theorem Reported.ringWork (h : Reported d e) (l : List Nat) : d.RingWork l e :=
  ⟨⟨h.alters l, h.remembers, h.ctl⟩, congrArg (List.map Ring.quiet) h.rings, h.axes, h.cyc⟩

theorem ringWork_raise (d : Dev) (src data : Nat) (l : List Nat) (hs : src < 256) : d.RingWork l (d.raise src data) :=
  (reported_raise d src data hs).ringWork l

theorem shows_setObj (d : Dev) {k : Nat} (v : Nat) (hk : k ∈ l) (hlatch : k / 256 ≠ 0x611) : d.Shows l (d.setObj k v) :=
  ⟨alters_setObj d v hk, remembers_of_obj d fun j hj => Dev.obj_setObj_ne d k v j (by rintro rfl; exact hlatch hj), rfl⟩

theorem ringWork_setObj (d : Dev) {k : Nat} (v : Nat) (hk : k ∈ l) (hlatch : k / 256 ≠ 0x611) : d.RingWork l (d.setObj k v) :=
  ⟨shows_setObj d v hk hlatch, rfl, rfl, rfl⟩

/-- The buffers shared by the channels are an object of reports. -/
theorem ringWork_showShared (d : Dev) (l : List Nat) : d.RingWork l d.showShared :=
  (reported_setObj d Obj.SHARED_FREE _ (by decide) (by decide)).ringWork l

theorem ringWork_updRing (d : Dev) (r : Nat) (f : Ring → Ring) (l : List Nat) (h : ∀ g, (f g).quiet = g.quiet := by intro g; rfl) :
    d.RingWork l (d.updRing r f) := by
  refine ⟨⟨⟨fun _ _ _ => rfl, rfl⟩, fun _ _ hl => hl, rfl⟩, ?_, rfl, rfl⟩
  have hmap := map_upd Ring.quiet f id h d.rings r
  rw [Dev.updRing_rings, hmap]
  exact upd_id _ r

theorem ringWork_foldl {α : Type} (xs : List α) (f : Dev → α → Dev) (h : ∀ (e : Dev) x, e.RingWork l (f e x)) (d : Dev) :
    d.RingWork l (xs.foldl f d) :=
  foldl_induct (fun e => d.RingWork l e) xs f d (fun e x he => he.trans (h e x)) (Dev.RingWork.refl d l)

theorem ringWork_forN (n : Nat) (f : Nat → Dev → Dev) (h : ∀ i (e : Dev), e.RingWork l (f i e)) (d : Dev) : d.RingWork l (forN n f d) :=
  forN_induct (fun e => d.RingWork l e) n f d (fun i e he => he.trans (h i e)) (Dev.RingWork.refl d l)

/-- A ring but for its traffic is as before. -/
theorem Dev.RingWork.ring_quiet (h : d.RingWork l e) (r : Nat) : (e.ring r).quiet = (d.ring r).quiet := by
  have hget : getAt emptyRing.quiet (e.rings.map Ring.quiet) r = getAt emptyRing.quiet (d.rings.map Ring.quiet) r := by rw [h.rings]
  rw [getAt_map, getAt_map] at hget
  exact hget

theorem Dev.RingWork.nodes (h : d.RingWork l e) (r : Nat) : (e.ring r).nodes = (d.ring r).nodes := (congrArg Ring.nodes (h.ring_quiet r) :)
theorem Dev.RingWork.phase (h : d.RingWork l e) (r : Nat) : (e.ring r).phase = (d.ring r).phase := (congrArg Ring.phase (h.ring_quiet r) :)
theorem Dev.RingWork.lastBlock (h : d.RingWork l e) (r : Nat) : (e.ring r).lastBlock = (d.ring r).lastBlock :=
  (congrArg Ring.lastBlock (h.ring_quiet r) :)

end

/-- A ring that is listed, changed. -/
theorem ring_updRing {d : Dev} {r : Nat} (h : r < d.rings.length) (f : Ring → Ring) : (d.updRing r f).ring r = f (d.ring r) :=
  getAt_upd_same emptyRing f d.rings r h

/-! ## The buffer pool and messages (R202, R203, R219) -/

/-- What a message of ring r may show: its channel of the buffer pool. -/
def poolShown (r : Nat) : List Nat := [Obj.POOL_IN_USE r, Obj.POOL_PEAK r, Obj.POOL_DROPPED r]

/-- What a ring may show of the way it runs: the half the east port serves, and the delays of the two halves (R220). -/
def halvesShown (r : Nat) : List Nat := [Obj.SPLIT_ACTIVE r, Obj.DELAY_EAST r, Obj.DELAY_WEST r]

section
variable (d : Dev) (r : Fin 2) {l : List Nat}

section
variable (hl : ∀ k ∈ poolShown r, k ∈ l)
include hl

theorem ringWork_poolSet (n : Nat) : d.RingWork l (d.poolSet r n) := by
  unfold Dev.poolSet
  exact ((ringWork_setObj d n (hl _ (by simp [poolShown])) (by grind)).trans (ringWork_showShared _ l)).trans
    (ringWork_setObj _ _ (hl _ (by simp [poolShown])) (by grind))

theorem ringWork_poolDrop : d.RingWork l (d.poolDrop r) :=
  (ringWork_setObj d _ (hl (Obj.POOL_DROPPED r) (by simp [poolShown])) (by grind)).trans ((reported_drops _ _).ringWork l)

theorem ringWork_putMessage (ports : List Nat) (m : RingMessage) : d.RingWork l (d.putMessage r ports m) := by
  unfold Dev.putMessage Dev.poolPass
  dsimp only
  by_cases hfits : d.poolFits r (buffersOf (m.payload.length + 12)) = true
  · rw [if_pos hfits]
    exact ((ringWork_poolSet d r hl _).trans (ringWork_poolSet _ r hl _)).trans
      (ringWork_foldl _ _ (fun e p => (reported_emit e _).ringWork l) _)
  · rw [if_neg hfits]
    exact ringWork_poolDrop d r hl

theorem ringWork_sendMessage (ports : List Nat) (dest msgType : Nat) (payload : List Byte) :
    d.RingWork l (d.sendMessage r ports dest msgType payload) :=
  (ringWork_updRing d r _ l).trans (ringWork_putMessage _ r hl ports _)

theorem ringWork_sendRequestOn (port dest msgType : Nat) (payload : List Byte) : d.RingWork l (d.sendRequestOn r port dest msgType payload) :=
  (ringWork_sendMessage d r hl _ dest msgType payload).trans (ringWork_updRing _ r _ l)

theorem ringWork_sendRequest (dest msgType : Nat) (payload : List Byte) : d.RingWork l (d.sendRequest r dest msgType payload) :=
  ringWork_sendRequestOn d r hl _ dest msgType payload

/-- The check before a heal is messages alone. -/
theorem ringWork_startHeal : d.RingWork l (d.startHeal r) := by
  unfold Dev.startHeal
  extract_lets g checking
  refine .ite _ (ringWork_updRing d r _ l) (.ite _ (.refl d l) ?_)
  exact (ringWork_updRing d r _ l).trans (ringWork_foldl _ _ (fun e p => ringWork_sendRequest e r hl p 8 []) _)

/-- What step 5 of discovery writes to the nodes are messages alone. -/
theorem ringWork_writeNodes : d.RingWork l (d.writeNodes r) := by
  unfold Dev.writeNodes
  extract_lets g east
  refine ringWork_forN _ _ (fun i e => ?_) d
  split
  · exact .refl e l
  · exact (ringWork_sendRequestOn e r hl _ _ 5 _).trans (ringWork_sendRequestOn _ r hl _ _ 6 _)

end

theorem ringWork_showHalves (hl : ∀ k ∈ halvesShown r, k ∈ l) : d.RingWork l (d.showHalves r) := by
  unfold Dev.showHalves
  extract_lets g h split
  exact ((ringWork_setObj d _ (hl _ (by simp [halvesShown])) (by grind)).trans
    (ringWork_setObj _ _ (hl _ (by simp [halvesShown])) (by grind))).trans
    (ringWork_setObj _ _ (hl _ (by simp [halvesShown])) (by grind))

theorem ringWork_noteRing (ring p : Nat) (n : RingNode) (l : List Nat) : d.RingWork l (d.noteRing ring p n) := by
  unfold Dev.noteRing
  exact .ite _ ⟨⟨⟨fun _ _ _ => rfl, rfl⟩, fun _ _ h => h, rfl⟩, rfl, rfl, rfl⟩ (.refl d l)

/-- The standby position of a ring and the bounds of its takeover plan (R512, R522). -/
def takeoverShown (r : Nat) : List Nat :=
  [Obj.STANDBY_POSITION r, Obj.TAKEOVER_SCATTER_EAST r, Obj.TAKEOVER_SCATTER_WEST r, Obj.TAKEOVER_GATHER_EAST r, Obj.TAKEOVER_GATHER_WEST r]

theorem ringWork_takeoverBounds (hl : ∀ k ∈ takeoverShown r, k ∈ l) : d.RingWork l (d.takeoverBounds r) := by
  unfold Dev.takeoverBounds
  extract_lets s g h put shown scattered
  have hput : ∀ (e : Dev) (k v : Nat), k ∈ takeoverShown r → e.RingWork l (put e k v) := fun e k v hk => by
    refine ringWork_setObj e _ (hl k hk) ?_
    simp only [takeoverShown, List.mem_cons, List.not_mem_nil, or_false] at hk
    grind
  have hshown : d.RingWork l shown := ringWork_setObj d s (hl _ (by simp [takeoverShown])) (by grind)
  have hscattered : shown.RingWork l scattered :=
    (hput shown _ _ (by simp [takeoverShown])).trans (hput _ _ _ (by simp [takeoverShown]))
  exact ((hshown.trans hscattered).trans (hput _ _ _ (by simp [takeoverShown]))).trans (hput _ _ _ (by simp [takeoverShown]))

end

end Sys2Proof.Machine
end

section
/-! SUPPORT. Discovery's findings and the re-measured delays, as they are shown (R204 to R206). -/

set_option Elab.async false

namespace Sys2Proof.Machine

/-! ## The nodes shown (R204) -/

/-- What the dictionary shows of a position: its identity and its delays from the two ports. -/
def Dev.nodeEntry (d : Dev) (r i : Nat) : Nat × Nat × Nat :=
  (d.obj (Obj.NODE_IDENT r i), d.obj (Obj.HOP_DELAY_EAST r i), d.obj (Obj.HOP_DELAY_WEST r i))

/-- The entry of a position, written. -/
def Dev.putEntry (d : Dev) (r i : Nat) (v : Nat × Nat × Nat) : Dev :=
  ((d.setObj (Obj.NODE_IDENT r i) v.1).setObj (Obj.HOP_DELAY_EAST r i) v.2.1).setObj (Obj.HOP_DELAY_WEST r i) v.2.2

/-- The entry of a node as it is to be shown; an absent position reads 0. -/
def shownEntry : Option RingNode → Nat × Nat × Nat
  | none => (0, 0, 0)
  | some n => (n.kind * 2 ^ 24 + n.axes * 2 ^ 16 + n.revision, n.dEast, n.dWest)

section
variable (d : Dev) (r : Fin 2)

theorem nodeEntry_putEntry_same (i : Nat) (v : Nat × Nat × Nat) : (d.putEntry r i v).nodeEntry r i = v := by
  unfold Dev.putEntry Dev.nodeEntry
  rw [Dev.obj_setObj_same, Dev.obj_setObj_ne _ _ _ (Obj.HOP_DELAY_EAST r i) (by grind), Dev.obj_setObj_same,
    Dev.obj_setObj_ne _ _ _ (Obj.NODE_IDENT r i) (by grind), Dev.obj_setObj_ne _ _ _ (Obj.NODE_IDENT r i) (by grind), Dev.obj_setObj_same]

theorem putEntry_obj_ne (i : Nat) (v : Nat × Nat × Nat) (k : Nat) (hident : Obj.NODE_IDENT r i ≠ k) (heast : Obj.HOP_DELAY_EAST r i ≠ k)
    (hwest : Obj.HOP_DELAY_WEST r i ≠ k) : (d.putEntry r i v).obj k = d.obj k := by
  unfold Dev.putEntry
  rw [Dev.obj_setObj_ne _ _ _ _ hwest, Dev.obj_setObj_ne _ _ _ _ heast, Dev.obj_setObj_ne _ _ _ _ hident]

theorem putEntry_rings (i : Nat) (v : Nat × Nat × Nat) : (d.putEntry r i v).rings = d.rings := rfl

theorem nodeEntry_putEntry_ne {i j : Nat} (hi : i < 64) (hj : j < 64) (hne : j ≠ i) (v : Nat × Nat × Nat) :
    (d.putEntry r j v).nodeEntry r i = d.nodeEntry r i := by
  unfold Dev.nodeEntry
  rw [putEntry_obj_ne d r j v _ (by grind) (by grind) (by grind), putEntry_obj_ne d r j v _ (by grind) (by grind) (by grind),
    putEntry_obj_ne d r j v _ (by grind) (by grind) (by grind)]

theorem showNodes_eq (nodes : List RingNode) :
    d.showNodes r nodes = forN 64 (fun i e => e.putEntry r i (shownEntry (nodes.drop i).head?)) d := by
  unfold Dev.showNodes
  congr 1
  funext i e
  cases (nodes.drop i).head? with
  | none => rfl
  | some n => rfl

/-- What one step of a repetition sets and no other touches is as that step set it. -/
theorem forN_sets {α β : Type} (π : α → β) {b : β} {n i : Nat} (hi : i < n) (f : Nat → α → α) (hset : ∀ a, π (f i a) = b)
    (hkeep : ∀ j < n, j ≠ i → ∀ a, π (f j a) = π a) (a : α) : π (forN n f a) = b := by
  induction n with
  | zero => omega
  | succ n ih =>
    by_cases hlast : n = i
    · subst hlast
      exact hset _
    · exact (hkeep n (by grind) hlast _).trans (ih (by grind) fun j hj => hkeep j (by grind))

/-- Every position shows the node found there. -/
theorem showNodes_entry (nodes : List RingNode) {i : Nat} (hi : i < 64) : (d.showNodes r nodes).nodeEntry r i = shownEntry nodes[i]? := by
  rw [showNodes_eq, ← List.head?_drop]
  exact forN_sets (fun e : Dev => e.nodeEntry r i) hi _ (fun e => nodeEntry_putEntry_same e r i _)
    (fun j hj hne e => nodeEntry_putEntry_ne e r hi hj hne _) d

theorem showNodes_rings (nodes : List RingNode) : (d.showNodes r nodes).rings = d.rings := by
  rw [showNodes_eq]
  exact forN_keeps Dev.rings 64 _ (fun i _ e => putEntry_rings e r i _) d

end

/-! ## Discovery ends (R204, R205) -/

/-- The delivery bounds of a ring, and the link of its fold (R25, R27, R193, R196, R208). -/
def boundsShown (r : Nat) : List Nat :=
  [Obj.SCATTER_EAST r, Obj.SCATTER_WEST r, Obj.GATHER_EAST r, Obj.GATHER_WEST r, Obj.FOLDED_WORST r, Obj.FOLD_LINK r]

/-- What the end of discovery shows of a ring beside its status and the number of its nodes. -/
def findingsShown (r : Nat) : List Nat := (halvesShown r ++ boundsShown r) ++ (poolShown r ++ takeoverShown r)

/-- They stand with the ring's own objects, with its channel of the pool, or with the takeover plan. -/
theorem index_of_findingsShown {r k : Nat} (h : k ∈ findingsShown r) : k / 256 = 0x410 + r ∨ k / 256 = 0x480 + r ∨ k / 256 = 0x520 + r := by
  simp only [findingsShown, List.mem_append] at h
  rcases h with (h | h) | h | h
  · grind [halvesShown]
  · grind [boundsShown]
  · grind [poolShown]
  · grind [takeoverShown]

/-- The low bits of the status: discovered, and closed. -/
theorem status_bits (a : Bool) (b c d e f : Nat) (k : Nat) (hk : k = 1 + 2 * b2n a + 4 * b + 8 * c + 16 * d + 32 * e + 64 * f) :
    bit k 0 = true ∧ bit k 1 = a := by
  subst hk
  constructor
  · rw [bit, Nat.shiftRight_eq_div_pow, beq_iff_eq]
    omega
  · rw [bit, Nat.shiftRight_eq_div_pow, Bool.eq_iff_iff, beq_iff_eq]
    cases a <;> simp only [b2n] <;> simp <;> omega

section
variable (d : Dev) (r : Fin 2)

/-- The end of discovery: the ring is complete with its nodes, its status and their number are shown, what follows are other objects and
messages, and source 0x30 comes last. -/
theorem finishDiscovery_parts :
    ∃ (g : Ring) (status : Nat) (e : Dev), g.phase = .complete ∧ g.nodes = (d.ring r).nodes ∧ bit status 0 = true ∧
      bit status 1 = (d.ring r).closed ∧
      (((d.updRing r (fun _ => g)).setObj (Obj.RING_STATUS r) status).setObj (Obj.NODE_COUNT r) (d.ring r).nodes.length).RingWork (findingsShown r) e ∧
      d.finishDiscovery r = e.raise 0x30 r := by
  unfold Dev.finishDiscovery
  extract_lets g n want bad s folded g' begun h sE sW gE gW oE oW fw late bounds st shown scattered gathered worst link eastLate westLate
    badTold worstTold told
  obtain ⟨hdiscovered, hclosed⟩ := status_bits g'.closed (b2n folded) (b2n (decide (fw ≤ 4500))) (b2n late) (b2n bounds) (b2n g'.segmented) st rfl
  refine ⟨g', st, told, rfl, rfl, hdiscovered, hclosed, ?_, rfl⟩
  have hput : ∀ (e : Dev) (k v : Nat), k ∈ findingsShown r → e.RingWork (findingsShown r) (e.setObj k v) := fun e k v hk => by
    have hindex := index_of_findingsShown hk
    exact ringWork_setObj e v hk (by omega)
  have hraise : ∀ (e : Dev) (p : Prop) [Decidable p] (src data : Nat), src < 256 →
      e.RingWork (findingsShown r) (if p then e.raise src data else e) := fun e p _ src data hs =>
    .ite p (ringWork_raise e src data _ hs) (.refl e _)
  have hshown := ringWork_showHalves ((begun.setObj (Obj.RING_STATUS r) st).setObj (Obj.NODE_COUNT r) n) r (l := findingsShown r)
    (by simp +contextual [findingsShown])
  have hscattered : shown.RingWork (findingsShown r) scattered :=
    (hput _ _ _ (by simp [findingsShown, boundsShown])).trans (hput _ _ _ (by simp [findingsShown, boundsShown]))
  have hgathered : scattered.RingWork (findingsShown r) gathered :=
    (hput _ _ _ (by simp [findingsShown, boundsShown])).trans (hput _ _ _ (by simp [findingsShown, boundsShown]))
  have hlink : gathered.RingWork (findingsShown r) link :=
    (hput _ _ _ (by simp [findingsShown, boundsShown])).trans (hput _ _ _ (by simp [findingsShown, boundsShown]))
  have hworst : link.RingWork (findingsShown r) worstTold :=
    (((hraise link _ _ _ (by decide)).trans (hraise _ _ _ _ (by decide))).trans (hraise _ _ _ _ (by decide))).trans (hraise _ _ _ _ (by decide))
  have htold : worstTold.RingWork (findingsShown r) told :=
    ((ringWork_writeNodes worstTold r (by simp +contextual [findingsShown])).trans
      (ringWork_takeoverBounds _ r (by simp +contextual [findingsShown]))).trans
      (ringWork_foldl _ _ (fun e x => ringWork_noteRing e _ _ _ _) _)
  exact ((((hshown.trans hscattered).trans hgathered).trans hlink).trans hworst).trans htold

end

end Sys2Proof.Machine
end

section
/-! SUPPORT. A record of an uplink block and its axis: what the intake changes, and what it leaves alone (R230, R231, R349 to R355). -/

set_option Elab.async false

namespace Sys2Proof.Machine

/-- The objects that bind axes: the place of an axis on the rings, and whether a context is configured (R204, R229). -/
def bindingKey (k : Nat) : Bool := k / 256 == 0x430 || (decide (0xA00000 ≤ k) && k % 0x4000 == 1)

theorem eventKey_of_bindingKey {k : Nat} (h : bindingKey k = true) : eventKey k = false := by
  simp only [bindingKey, eventKey] at *
  grind

/-- The cycle, the control of the block and what binds the axes are as before. -/
structure Dev.Binds (d e : Dev) : Prop where
  cyc : e.cyc = d.cyc
  ctl : e.ctl = d.ctl
  bound : ∀ k, bindingKey k = true → e.obj k = d.obj k

/-- The same, and every context and every ring is as before. -/
structure Dev.KeepsAxes (d e : Dev) : Prop extends d.Binds e where
  axes : e.axes = d.axes
  rings : e.rings = d.rings

section
variable {d e : Dev}

theorem Dev.Binds.refl (d : Dev) : d.Binds d := ⟨rfl, rfl, fun _ _ => rfl⟩

theorem Dev.Binds.trans {f : Dev} (h : d.Binds e) (g : e.Binds f) : d.Binds f :=
  ⟨g.cyc.trans h.cyc, g.ctl.trans h.ctl, fun k hk => (g.bound k hk).trans (h.bound k hk)⟩

theorem Dev.KeepsAxes.refl (d : Dev) : d.KeepsAxes d := ⟨.refl d, rfl, rfl⟩

theorem Dev.KeepsAxes.trans {f : Dev} (h : d.KeepsAxes e) (g : e.KeepsAxes f) : d.KeepsAxes f :=
  ⟨h.toBinds.trans g.toBinds, g.axes.trans h.axes, g.rings.trans h.rings⟩

theorem Dev.KeepsAxes.ite {a b : Dev} (p : Prop) [Decidable p] (h : d.KeepsAxes a) (g : d.KeepsAxes b) :
    d.KeepsAxes (if p then a else b) := by
  split
  · exact h
  · exact g

theorem Reported.keepsAxes (h : Reported d e) : d.KeepsAxes e :=
  ⟨⟨h.cyc, h.ctl, fun k hk => h.obj k (eventKey_of_bindingKey hk)⟩, h.axes, h.rings⟩

theorem keepsAxes_setObj (d : Dev) (k v : Nat) (h : bindingKey k = false) : d.KeepsAxes (d.setObj k v) :=
  ⟨⟨rfl, rfl, fun j hj => Dev.obj_setObj_ne _ _ _ _ (by rintro rfl; rw [h] at hj; cases hj)⟩, rfl, rfl⟩

end

/-! ## The generator at an accepted record (R349, R351 to R355) -/

section
variable (d : Dev) (n : Nat)

theorem keepsAxes_putGen (g : Gen) : d.KeepsAxes (d.putGen n g) := by
  unfold Dev.putGen
  extract_lets put
  have hput : d.KeepsAxes put := ⟨⟨rfl, rfl, fun _ _ => rfl⟩, rfl, rfl⟩
  exact (hput.trans (keepsAxes_setObj _ _ _ (by grind [bindingKey]))).trans (keepsAxes_setObj _ _ _ (by grind [bindingKey]))

theorem keepsAxes_homeFault (cause : Nat) : d.KeepsAxes (d.homeFault n cause) := by
  unfold Dev.homeFault
  extract_lets g left
  refine .ite _ (.refl d) ?_
  exact (((keepsAxes_putGen d n _).trans (keepsAxes_setObj _ _ _ (by grind [bindingKey]))).trans
    (keepsAxes_setObj _ _ _ (by grind [bindingKey]))).trans (keepsAxes_setObj _ _ _ (by grind [bindingKey]))

theorem keepsAxes_homeFound (ref : Nat) : d.KeepsAxes (d.homeFound n ref) :=
  (keepsAxes_putGen d n _).trans (keepsAxes_setObj _ (Obj.HOME_STATE n) 5 (by grind [bindingKey]))

theorem keepsAxes_homeIndex (pos : Nat) : d.KeepsAxes (d.homeIndex n pos) := by
  unfold Dev.homeIndex
  extract_lets g beyond
  exact .ite _ (.refl d) (.ite _ (keepsAxes_homeFault d n 5) (keepsAxes_homeFound d n pos))

theorem keepsAxes_switchSample (aux pos : Nat) : d.KeepsAxes (d.switchSample n aux pos) := keepsAxes_putGen d n _

theorem keepsAxes_indexSample (aux pos : Nat) (prev : Option Nat) : d.KeepsAxes (d.indexSample n aux pos prev) := by
  unfold Dev.indexSample
  extract_lets src g level marked
  refine .ite _ (.ite _ ((keepsAxes_putGen d n _).trans (keepsAxes_homeIndex _ n pos)) (keepsAxes_putGen d n _)) ?_
  split
  · exact .refl d
  · refine .ite _ (.refl d) ?_
    split
    · exact .ite _ (keepsAxes_putGen d n _) ((keepsAxes_putGen d n _).trans (keepsAxes_homeIndex _ n _))
    · exact keepsAxes_putGen d n _

theorem keepsAxes_unhome : d.KeepsAxes (d.unhome n) :=
  .ite _ (keepsAxes_setObj d (Obj.HOMED n) 0 (by grind [bindingKey])) (.refl d)

end

/-! ## A record and its axis (R230, R231) -/

/-- A record that its context takes: a configured one that has none yet, of this cycle and of this place, with a new sample count. -/
structure Dev.TakesRecord (d : Dev) (n i tagLow : Nat) (f : Feedback) : Prop where
  configured : d.configured n = true
  none : (d.axis n).cur = none
  tag : tagLow = d.cyc.tag % 65536
  place : f.localAxis.val = i
  counted : (d.axis n).counted = true
  fresh : f.count.toNat ≠ (d.axis n).sampleCount

/-- The feedback of a record. -/
def Fb.ofRecord (f : Feedback) : Fb :=
  { pos := f.position.toNat, ia := f.iA.toInt, ib := f.iB.toInt, ic := f.iC.toInt, vdc := f.vdc.toInt }

/-- The record is the context's of the cycle. -/
def Axis.Holds (a : Axis) (f : Feedback) : Prop := a.cur = some (Fb.ofRecord f) ∧ a.sampleCount = f.count.toNat

theorem updAxis_id (d : Dev) (n : Nat) : d.updAxis n id = d := by
  rw [Dev.updAxis, upd_id]

/-- A record changes its own context, and beside it nothing that binds an axis; a record that is taken becomes the context's of the cycle. -/
theorem acceptRecord_updates (d : Dev) (n i off tagLow : Nat) (f : Feedback) :
    ∃ g : Axis → Axis, (d.updAxis n g).KeepsAxes (d.acceptRecord n i off tagLow f) ∧
      (d.TakesRecord n i tagLow f → ∀ a, (g a).Holds f) := by
  unfold Dev.acceptRecord
  extract_lets a cnt skipped skip fb x ready took told prev
  split
  · next hrefused =>
    refine ⟨id, by rw [updAxis_id]; exact .refl d, fun h => ?_⟩
    simp [h.configured, a, h.none] at hrefused
  · split
    · next htag =>
      exact ⟨_, .refl _, fun h => absurd h.tag (by simpa using htag)⟩
    · split
      · next hplace =>
        exact ⟨_, .refl _, fun h => absurd h.place (by simpa using hplace)⟩
      · split
        · next hstale =>
          simp only [Bool.and_eq_true, decide_eq_true_eq] at hstale
          exact ⟨_, .refl _, fun h => absurd hstale.2 h.fresh⟩
        · have htook : ∃ g : Axis → Axis, (d.updAxis n g).KeepsAxes took ∧ ∀ a, (g a).Holds f := by
            refine ⟨_, ⟨⟨rfl, rfl, fun _ _ => rfl⟩, rfl, rfl⟩, fun a => ?_⟩
            dsimp only
            split
            · exact ⟨rfl, rfl⟩
            · exact ⟨rfl, rfl⟩
          obtain ⟨g, hg, htaken⟩ := htook
          refine ⟨g, hg.trans ?_, fun _ => htaken⟩
          have htold : took.KeepsAxes told :=
            .ite _ ((reported_raise took 0xC8 _ (by decide)).keepsAxes.trans (keepsAxes_unhome _ n)) (.refl took)
          exact htold.trans (.ite _ ((keepsAxes_switchSample told n _ _).trans (keepsAxes_indexSample _ n _ _ prev)) (.refl told))

section
variable {d e : Dev}

theorem Dev.KeepsAxes.axis (h : d.KeepsAxes e) (n : Nat) : e.axis n = d.axis n := by rw [Dev.axis, h.axes, ← Dev.axis]

/-- A record leaves what binds the axes. -/
theorem acceptRecord_binds (d : Dev) (n i off tagLow : Nat) (f : Feedback) : d.Binds (d.acceptRecord n i off tagLow f) := by
  obtain ⟨g, hkeeps, -⟩ := acceptRecord_updates d n i off tagLow f
  have hupdated : d.Binds (d.updAxis n g) := ⟨rfl, rfl, fun _ _ => rfl⟩
  exact hupdated.trans hkeeps.toBinds

theorem acceptRecord_rings (d : Dev) (n i off tagLow : Nat) (f : Feedback) : (d.acceptRecord n i off tagLow f).rings = d.rings := by
  obtain ⟨g, hkeeps, -⟩ := acceptRecord_updates d n i off tagLow f
  exact hkeeps.rings

/-- A record leaves the context of every other axis. -/
theorem acceptRecord_axis_ne (d : Dev) {n m : Nat} (h : m ≠ n) (i off tagLow : Nat) (f : Feedback) :
    (d.acceptRecord m i off tagLow f).axis n = d.axis n := by
  obtain ⟨g, hkeeps, -⟩ := acceptRecord_updates d m i off tagLow f
  exact (hkeeps.axis n).trans (getAt_upd_ne initAxis g d.axes m n h)

/-- A record that is taken becomes the context's of the cycle. -/
theorem acceptRecord_holds {n i tagLow : Nat} {f : Feedback} (h : d.TakesRecord n i tagLow f) (off : Nat) :
    ((d.acceptRecord n i off tagLow f).axis n).Holds f := by
  obtain ⟨g, hkeeps, htaken⟩ := acceptRecord_updates d n i off tagLow f
  have hlisted : n < d.axes.length := lt_of_getAt_ne (dflt := initAxis) fun heq => by
    have hcounted := h.counted
    rw [Dev.axis, heq] at hcounted
    cases hcounted
  have haxis : (d.updAxis n g).axis n = g (d.axis n) := getAt_upd_same initAxis g d.axes n hlisted
  rw [hkeeps.axis, haxis]
  exact htaken h _

/-! ## A block's records in their turn (R195) -/

theorem Dev.Binds.axisSlot (h : d.Binds e) {n : Nat} (hn : n < 128) : e.axisSlot n = d.axisSlot n := by
  have hobj : e.obj (Obj.AXIS_SLOT n) = d.obj (Obj.AXIS_SLOT n) := h.bound _ (by grind [bindingKey])
  simp only [Dev.axisSlot, hobj]

theorem Dev.Binds.axisAt (h : d.Binds e) (r p i : Nat) : e.axisAt r p i = d.axisAt r p i :=
  List.find?_congr fun n hn => by rw [h.axisSlot (List.mem_range.mp hn)]

theorem Dev.Binds.configured (h : d.Binds e) (n : Nat) : e.configured n = d.configured n := by
  have hobj : e.obj (Obj.CONFIGURED n) = d.obj (Obj.CONFIGURED n) := h.bound _ (by grind [bindingKey])
  simp only [Dev.configured, Dev.objB, hobj]

theorem Dev.TakesRecord.later {n i tagLow : Nat} {f : Feedback} (t : d.TakesRecord n i tagLow f) (h : d.Binds e)
    (haxis : e.axis n = d.axis n) : e.TakesRecord n i tagLow f :=
  ⟨(h.configured n).trans t.configured, by rw [haxis]; exact t.none, by rw [h.cyc]; exact t.tag, t.place, by rw [haxis]; exact t.counted,
    by rw [haxis]; exact t.fresh⟩

/-- One axis is bound to one place. -/
theorem place_of_axisAt {r p i j n : Nat} (hi : d.axisAt r p i = some n) (hj : d.axisAt r p j = some n) : i = j := by
  unfold Dev.axisAt at hi hj
  have hslot := List.find?_some hi
  have hslot' := List.find?_some hj
  rw [beq_iff_eq] at hslot hslot'
  simpa using hslot.symm.trans hslot'

/-- A record of a block, with its place in it, handed to the axis bound there. -/
def Dev.intakeOne (r off p tagLow : Nat) (d : Dev) (x : Feedback × Nat) : Dev := match d.axisAt r p x.2 with
  | some n => d.acceptRecord n x.2 off tagLow x.1
  | none => d

variable (r off p tagLow : Nat)

theorem intakeOne_binds (d : Dev) (x : Feedback × Nat) : d.Binds (d.intakeOne r off p tagLow x) := by
  unfold Dev.intakeOne
  split
  · exact acceptRecord_binds d _ _ _ _ _
  · exact .refl d

theorem intakeOne_rings (d : Dev) (x : Feedback × Nat) : (d.intakeOne r off p tagLow x).rings = d.rings := by
  unfold Dev.intakeOne
  split
  · exact acceptRecord_rings d _ _ _ _ _
  · rfl

theorem intakeOne_axis_ne {x : Feedback × Nat} {n i : Nat} (hn : d.axisAt r p i = some n) (hne : x.2 ≠ i) :
    (d.intakeOne r off p tagLow x).axis n = d.axis n := by
  unfold Dev.intakeOne
  split
  · next m hm =>
    refine acceptRecord_axis_ne d ?_ _ _ _ _
    rintro rfl
    exact hne (place_of_axisAt hm hn)
  · rfl

theorem intakes_bind (l : List (Feedback × Nat)) (d : Dev) : d.Binds (l.foldl (Dev.intakeOne r off p tagLow) d) :=
  foldl_induct (fun e => d.Binds e) l _ d (fun e x he => he.trans (intakeOne_binds r off p tagLow e x)) (.refl d)

theorem intakes_rings (l : List (Feedback × Nat)) (d : Dev) : (l.foldl (Dev.intakeOne r off p tagLow) d).rings = d.rings :=
  foldl_keeps Dev.rings l _ (fun x e => intakeOne_rings r off p tagLow e x) d

/-- Records of other places leave the context of an axis. -/
theorem intakes_axis_ne {n i : Nat} (l : List (Feedback × Nat)) (hl : ∀ x ∈ l, x.2 ≠ i) (hn : d.axisAt r p i = some n) :
    (l.foldl (Dev.intakeOne r off p tagLow) d).axis n = d.axis n := by
  induction l generalizing d with
  | nil => rfl
  | cons x xs ih =>
    have hbinds := intakeOne_binds r off p tagLow d x
    exact (ih (fun y hy => hl y (List.mem_cons_of_mem x hy)) ((hbinds.axisAt r p i).trans hn)).trans
      (intakeOne_axis_ne r off p tagLow hn (hl x List.mem_cons_self))

/-- A record whose axis takes it is that axis's record once the block has been handed on. -/
theorem intakes_hold {n i k : Nat} {f : Feedback} (l : List Feedback) (hf : l[i]? = some f) (hn : d.axisAt r p (k + i) = some n)
    (ht : d.TakesRecord n (k + i) tagLow f) : (((l.zipIdx k).foldl (Dev.intakeOne r off p tagLow) d).axis n).Holds f := by
  induction l generalizing d i k with
  | nil => simp at hf
  | cons x xs ih =>
    have hbinds := intakeOne_binds r off p tagLow d (x, k)
    rw [List.zipIdx_cons, List.foldl_cons]
    cases i with
    | zero =>
      obtain rfl : x = f := by simpa using hf
      have hone : d.intakeOne r off p tagLow (x, k) = d.acceptRecord n k off tagLow x := by
        simp only [Dev.intakeOne]
        rw [show d.axisAt r p k = some n from hn]
      have hrest : ∀ y ∈ xs.zipIdx (k + 1), y.2 ≠ k := fun y hy => by
        have := List.le_snd_of_mem_zipIdx hy
        omega
      rw [intakes_axis_ne r off p tagLow _ hrest ((hbinds.axisAt r p k).trans hn), hone]
      exact acceptRecord_holds ht off
    | succ i =>
      have hplace : k + (i + 1) = k + 1 + i := by omega
      rw [hplace] at hn ht
      exact ih (by simpa using hf) ((hbinds.axisAt r p _).trans hn)
        (ht.later hbinds (intakeOne_axis_ne r off p tagLow hn (by simp only; omega)))

end

end Sys2Proof.Machine
end

section
/-! SUPPORT. Uplink blocks at the head: late, bad, unknown and taken; the obligation (R188, R189, R195, R230, R231). -/

set_option Elab.async false

namespace Sys2Proof.Machine

/-! ## What a block that is not taken leaves (R230, R259) -/

/-- Details noted for the axes of a position stand in their contexts alone. -/
theorem refuseBlock_shape (d : Dev) (r p : Nat) : ∃ l, d.refuseBlock r p = { d with axes := l } := by
  refine forN_induct (fun e => ∃ l, e = { d with axes := l }) 4 _ d (fun i e he => ?_) ⟨d.axes, rfl⟩
  obtain ⟨l, rfl⟩ := he
  split
  · exact ⟨_, rfl⟩
  · exact ⟨l, rfl⟩

/-- A late block is reports alone. -/
theorem reported_lateBlock (d : Dev) (r p : Nat) : Reported d (d.lateBlock r p) := by
  refine forN_induct (fun e => Reported d e) 4 _ d (fun i e he => he.trans ?_) (.refl d)
  split
  · split
    · exact reported_raise e 0xC0 _ (by decide)
    · exact .refl e
  · exact .refl e

/-! ## The ways a block goes (R188, R195) -/

section
variable {d : Dev} {r : Fin 2} {b : UplinkBlock} (off : Fin 125)

theorem uplinkBlock_position (hhead : d.isHead = false) : d.uplinkBlock r b off = d := by simp [Dev.uplinkBlock, hhead]

theorem uplinkBlock_closed (hclosed : d.ringOpen r = false) : d.uplinkBlock r b off = d := by
  simp [Dev.uplinkBlock, Dev.uplinkCheck, hclosed]

section
variable (hhead : d.isHead = true) (hopen : d.ringOpen r = true)
include hhead hopen

theorem uplinkBlock_late (hlate : d.cyc.dispatched = true) :
    d.uplinkBlock r b off = (d.bump (Obj.LATE_BLOCKS r)).lateBlock r b.position.toNat := by
  have hstays : (d.bump (Obj.LATE_BLOCKS r)).ringOpen r = d.ringOpen r := by
    rw [Dev.ringOpen, Dev.obj_bump, if_neg (by grind), ← Dev.ringOpen]
  simp [Dev.uplinkBlock, Dev.uplinkCheck, hhead, hopen, hlate, hstays]

variable (htime : d.cyc.dispatched = false)
include htime

theorem uplinkBlock_bad (hbad : crc16 (uplinkBytes b) ≠ b.crc.toNat) :
    d.uplinkBlock r b off =
      ((d.bump (Obj.BLOCK_CRC_ERRORS r)).raise 0x39 (r * 256 + b.position.toNat)).refuseBlock r b.position.toNat := by
  have hstays : ((d.bump (Obj.BLOCK_CRC_ERRORS r)).raise 0x39 (r * 256 + b.position.toNat)).ringOpen r = d.ringOpen r := by
    rw [Dev.ringOpen, raise_obj _ _ _ _ (by decide) (by decide), Dev.obj_bump, if_neg (by grind), ← Dev.ringOpen]
  simp [Dev.uplinkBlock, Dev.uplinkCheck, hhead, hopen, htime, hbad, hstays]

variable (hgood : crc16 (uplinkBytes b) = b.crc.toNat)
include hgood

theorem uplinkBlock_unknown (hnode : (d.ring r).node b.position.toNat = none) :
    d.uplinkBlock r b off = d.refuseBlock r b.position.toNat := by
  simp [Dev.uplinkBlock, Dev.uplinkCheck, hhead, hopen, htime, hgood, hnode]

/-- A good block in time from a position: its ring takes it, reports and the check before a heal follow, and its records are handed on. -/
theorem uplinkBlock_taken (hnode : (d.ring r).node b.position.toNat ≠ none) (hsafe : b.safe = none) :
    ∃ (f : Ring → Ring) (e : Dev), (∀ g, (f g).lastBlock = d.now + off - d.cyc.startAt) ∧ (d.updRing r f).RingWork (poolShown r) e ∧
      d.uplinkBlock r b off = b.records.zipIdx.foldl (Dev.intakeOne r off b.position.toNat b.tagLow.toNat) e := by
  obtain ⟨node, hnode⟩ := Option.ne_none_iff_exists'.mp hnode
  have hcheck : ∃ (f : Ring → Ring) (e : Dev), (∀ g, (f g).lastBlock = d.now + off - d.cyc.startAt) ∧
      (d.updRing r f).RingWork (poolShown r) e ∧ d.uplinkCheck r off b = (e, true) := by
    unfold Dev.uplinkCheck
    extract_lets p wasLost note came took back told
    rw [if_neg (by simp [hopen]), if_neg (by simp [htime]), if_neg (by simp [hgood]), if_neg (by simp [p, hnode])]
    have hback : took.RingWork (poolShown r) back := .ite _ (ringWork_raise took 0x38 _ _ (by decide)) (.refl took _)
    have htold : back.RingWork (poolShown r) told := .ite _ (ringWork_raise back 0x3A _ _ (by decide)) (.refl back _)
    have hheal : told.RingWork (poolShown r) (if (told.ring r).lostLinks.isEmpty then told else told.startHeal r) :=
      .ite _ (.refl told _) (ringWork_startHeal told r fun _ hk => hk)
    exact ⟨_, _, by exact fun _ => rfl, (hback.trans htold).trans hheal, rfl⟩
  obtain ⟨f, e, hlast, hwork, hcheck⟩ := hcheck
  refine ⟨f, e, hlast, hwork, ?_⟩
  simp only [Dev.uplinkBlock, hhead, hcheck, hsafe]
  rfl

end

end

/-! ## What the command shows -/

/-- A ring that has a node is listed. -/
theorem listed_of_node {d : Dev} {r p : Nat} (h : (d.ring r).node p ≠ none) : r < d.rings.length :=
  lt_of_getAt_ne (dflt := emptyRing) fun heq => h (by
    rw [Dev.ring, heq, Ring.node]
    simp [emptyRing])

theorem ring_settle (d : Dev) (r : Nat) : d.settle.ring r = d.ring r := by rw [Dev.ring, settle_rings, ← Dev.ring]
theorem axis_settle (d : Dev) (n : Nat) : d.settle.axis n = d.axis n := by rw [Dev.axis, settle_axes, ← Dev.axis]

/-- Work of a ring on its channel of the pool leaves what binds the axes. -/
theorem Dev.RingWork.binds {d e : Dev} {r : Fin 2} (h : d.RingWork (poolShown r) e) : d.Binds e :=
  ⟨h.cyc, h.ctl, fun k hk => h.alters.obj k (by grind [poolShown, bindingKey]) (eventKey_of_bindingKey hk)⟩

/-- What a block that is taken leaves: the instant it came, and the records of the axes that take theirs. -/
theorem uplinkBlock_taken_shows {d : Dev} {r : Fin 2} {b : UplinkBlock} (off : Fin 125) (hhead : d.isHead = true) (hopen : d.ringOpen r = true)
    (htime : d.cyc.dispatched = false) (hgood : crc16 (uplinkBytes b) = b.crc.toNat) (hnode : (d.ring r).node b.position.toNat ≠ none)
    (hsafe : b.safe = none) :
    let e := d.uplinkBlock r b off
    e.ctl = d.ctl ∧ (e.settle.ring r).lastBlock = d.now + off - d.cyc.startAt ∧
      ∀ (i : Nat) (f : Feedback) (n : Nat), b.records[i]? = some f → d.axisAt r b.position.toNat i = some n →
        d.TakesRecord n i b.tagLow.toNat f → (e.settle.axis n).Holds f := by
  obtain ⟨f, e, hlast, hwork, hblock⟩ := uplinkBlock_taken off hhead hopen htime hgood hnode hsafe
  have hupdated : d.Binds (d.updRing r f) := ⟨rfl, rfl, fun _ _ => rfl⟩
  have hfound := hupdated.trans hwork.binds
  have hhanded := intakes_bind r off b.position.toNat b.tagLow.toNat b.records.zipIdx e
  dsimp only
  rw [hblock, ring_settle]
  refine ⟨(hfound.trans hhanded).ctl, ?_, fun i record n hrecord hn htakes => ?_⟩
  · rw [Dev.ring, intakes_rings, ← Dev.ring, hwork.lastBlock, ring_updRing (listed_of_node hnode)]
    exact hlast _
  · have haxis : e.axis n = d.axis n := by rw [Dev.axis, hwork.axes, Dev.updRing_axes, ← Dev.axis]
    rw [axis_settle]
    exact intakes_hold r off b.position.toNat b.tagLow.toNat b.records hrecord (by rw [Nat.zero_add, hfound.axisAt, hn])
      (by rw [Nat.zero_add]; exact htakes.later hfound haxis)

section
variable {s : State} {ring : Fin 2} {b : UplinkBlock} {off : Fin 125} {e : Dev}

/-- An uplink block of the form its wire carries, when it leads to no SAFE-HOLD cause. -/
theorem answers_uplink {P : State → Prop} (hform : blockFormOk b = true) (he : s.dev.fresh.uplinkBlock ring b off = e)
    (hcause : e.ctl.causeReq = none) (h : P { s with dev := e.settle }) : Answers (.uplinkBlockRx ring b off) s P := by
  refine ⟨_, ?_, h⟩
  change guardForm (blockFormOk b) (s.onDevH (fun d => d.uplinkBlock ring b off)) = _
  rw [hform]
  simp only [guardForm, if_true, State.onDevH, State.onDev, he, holdDecide_none e hcause]

/-- One counter raised, reports, and details in contexts: what a claim says of it. -/
theorem sets_of_bump {k : Nat} (h : Reported (s.dev.fresh.bump k) e) (hk : eventKey k = false) (l : List Axis) :
    s.Sets { s with dev := ({ e with axes := l } : Dev).settle } [(k, satAdd 32 (s.dev.obj k) 1)] := by
  have hsettle := reported_settle { e with axes := l }
  have hcounted : s.dev.fresh.Alters [k] e := (alters_bump s.dev.fresh List.mem_cons_self).report h
  have hnoted : s.dev.fresh.Alters [k] { e with axes := l } := ⟨hcounted.obj, hcounted.blobs⟩
  refine ⟨fun x hx => ?_, (hnoted.report hsettle).only⟩
  obtain rfl := List.mem_singleton.mp hx
  refine ((hsettle.obj k hk).trans (h.obj k hk)).trans ?_
  rw [Dev.obj_bump, if_pos rfl]
  rfl

end

/-- Settles O34: each way a block goes is one equation; a block that is taken hands its records on, and the one of a bound axis finds its
context as the claim has it, since records of other places leave it alone. -/
theorem uplinkBlocksAreCheckedAndTaken : Obligations.UplinkBlocksAreCheckedAndTaken := by
  unfold Obligations.UplinkBlocksAreCheckedAndTaken
  intro s ring b off hrecords hsafe isOpen known good
  have hform : blockFormOk b = true := by simp [blockFormOk, hrecords, hsafe]
  have hunseen : s.Same { s with dev := s.dev.fresh.settle } := same_of_dict rfl rfl rfl
  refine ⟨fun hnot => ?_, fun hhead => ⟨fun hopen htime hgood hnode => ?_, fun hopen hlate => ?_, fun hopen htime hbad => ?_,
    fun hopen htime hgood hnode => ?_⟩⟩
  · have hstays : s.dev.fresh.uplinkBlock ring b off = s.dev.fresh := by
      rcases hnot with hclosed | hposition
      · exact uplinkBlock_closed (d := s.dev.fresh) off (Bool.eq_false_iff.mpr hclosed)
      · exact uplinkBlock_position off hposition
    exact answers_uplink hform hstays rfl hunseen
  · have hunknown := uplinkBlock_unknown (d := s.dev.fresh) off hhead hopen htime hgood (not_not.mp hnode)
    obtain ⟨l, hl⟩ := refuseBlock_shape s.dev.fresh ring b.position.toNat
    exact answers_uplink hform (hunknown.trans hl) rfl (same_of_dict rfl rfl rfl)
  · have hreport := reported_lateBlock (s.dev.fresh.bump (Obj.LATE_BLOCKS ring)) ring b.position.toNat
    exact answers_uplink hform (uplinkBlock_late (d := s.dev.fresh) off hhead hopen hlate) (congrArg DevCtl.causeReq hreport.ctl)
      (sets_of_bump hreport (by grind [eventKey]) _)
  · have hrefused := uplinkBlock_bad (d := s.dev.fresh) off hhead hopen htime hbad
    have hreport := reported_raise (s.dev.fresh.bump (Obj.BLOCK_CRC_ERRORS ring)) 0x39 (ring * 256 + b.position.toNat) (by decide)
    have hlatched := latched_raise (s.dev.fresh.bump (Obj.BLOCK_CRC_ERRORS ring)) 0x39 (ring * 256 + b.position.toNat) (by decide)
    obtain ⟨l, hl⟩ := refuseBlock_shape ((s.dev.fresh.bump (Obj.BLOCK_CRC_ERRORS ring)).raise 0x39 (ring * 256 + b.position.toNat)) ring
      b.position.toNat
    exact answers_uplink hform (hrefused.trans hl) (congrArg DevCtl.causeReq hreport.ctl)
      ⟨settle_latched _ _ (by decide) hlatched, sets_of_bump hreport (by grind [eventKey]) l⟩
  · obtain ⟨hctl, hlast, hholds⟩ := uplinkBlock_taken_shows (d := s.dev.fresh) off hhead hopen htime hgood hnode hsafe
    refine answers_uplink hform rfl (congrArg DevCtl.causeReq hctl) ⟨hlast, fun i f n hf hn hconfigured hnone htag hplace hcounted hfresh => ?_⟩
    exact hholds i f n hf hn ⟨hconfigured, hnone, htag, hplace, hcounted, hfresh⟩

end Sys2Proof.Machine
end

section
/-! SUPPORT. DISCOVERY_DONE and DELAY_REMEASURE: the obligation (R204 to R206). -/

set_option Elab.async false

namespace Sys2Proof.Machine

/-! ## DISCOVERY_DONE (R204) -/

/-- A ring in a phase other than off is listed. -/
theorem listed_of_phase {d : Dev} {r : Nat} (h : (d.ring r).phase ≠ .off) : r < d.rings.length :=
  lt_of_getAt_ne (dflt := emptyRing) fun heq => h (by rw [Dev.ring, heq]; rfl)

/-- Findings outside CONFIG change nothing. -/
theorem discoveryDone_elsewhere {d : Dev} (h : d.state ≠ stConfig) (r : Nat) (closed : Bool) (l : List NodeReport) :
    d.discoveryDone r closed l = d := by
  simp [Dev.discoveryDone, h]

/-- The findings of a discovery put in the ring: its nodes, and whether it is closed; what else they leave in the ring is not spoken of. -/
theorem discoveryDone_finds {d : Dev} {r : Fin 2} (closed : Bool) {l : List NodeReport} (hl : l.length ≤ 64) (hstate : d.state = stConfig)
    (hopen : d.ringOpen r = true) (hhead : d.isHead = true) (hphase : (d.ring r).phase = .discovering) :
    ∃ e : Dev, r < e.rings.length ∧ (e.ring r).nodes = l.map nodeOf ∧ (e.ring r).closed = (closed || (d.ring r).returned) ∧
      d.discoveryDone r closed l = (e.showNodes r (l.map nodeOf)).finishDiscovery r := by
  have hlisted : (r : Nat) < d.rings.length := listed_of_phase (by rw [hphase]; decide)
  unfold Dev.discoveryDone
  rw [if_neg (by simp [hstate, hopen, hhead]), hphase, List.take_of_length_le hl]
  extract_lets g nodes top seen shut found
  have hring : found.ring r = _ := ring_updRing (d := seen) hlisted _
  refine ⟨found, by simpa [found, seen] using hlisted, ?_, ?_, rfl⟩
  · rw [hring]
  · rw [hring]

/-- The status of a ring and the number of its nodes are none of the other objects of the end of discovery. -/
theorem status_apart (r : Fin 2) : Obj.RING_STATUS r ∉ findingsShown r ∧ Obj.NODE_COUNT r ∉ findingsShown r :=
  ⟨by simp [findingsShown, halvesShown, boundsShown, poolShown, takeoverShown],
    by simp [findingsShown, halvesShown, boundsShown, poolShown, takeoverShown]⟩

/-- No object that shows a position is an object of the end of discovery or of a report. -/
theorem entry_apart (r : Fin 2) {i k : Nat} (hi : i < 64) (hk : k = Obj.NODE_IDENT r i ∨ k = Obj.HOP_DELAY_EAST r i ∨ k = Obj.HOP_DELAY_WEST r i) :
    k ∉ findingsShown r ∧ eventKey k = false ∧ Obj.RING_STATUS r ≠ k ∧ Obj.NODE_COUNT r ≠ k := by
  have hindex : k / 256 = 0x420 + r ∨ k / 256 = 0x422 + r ∨ k / 256 = 0x424 + r := by grind
  refine ⟨fun hmem => ?_, by grind [eventKey], by grind, by grind⟩
  have hother := index_of_findingsShown hmem
  omega

/-- What the end of discovery leaves: a complete ring with its nodes, its status and their number shown, the entries of the positions as
before, and source 0x30 latched. -/
theorem finishDiscovery_shows {d : Dev} {r : Fin 2} (hlisted : (r : Nat) < d.rings.length) :
    let e := (d.finishDiscovery r).settle
    e.obj (Obj.NODE_COUNT r) = (d.ring r).nodes.length ∧ bit (e.obj (Obj.RING_STATUS r)) 0 = true ∧
      bit (e.obj (Obj.RING_STATUS r)) 1 = (d.ring r).closed ∧ e.latched 0x30 = true ∧ (e.ring r).phase = .complete ∧
      (e.ring r).nodes = (d.ring r).nodes ∧ ∀ i < 64, e.nodeEntry r i = d.nodeEntry r i := by
  obtain ⟨g, status, e, hphase, hnodes, hdiscovered, hclosed, hwork, heq⟩ := finishDiscovery_parts d r
  have hend : e.RingWork (findingsShown r) (e.raise 0x30 r).settle :=
    (ringWork_raise e 0x30 r _ (by decide)).trans ((reported_settle _).ringWork _)
  have hall := hwork.trans hend
  have hring : ∀ k v k' v', (((d.updRing r (fun _ => g)).setObj k v).setObj k' v').ring r = g := fun _ _ _ _ =>
    ring_updRing hlisted (fun _ => g)
  have hkept : ∀ k, k ∉ findingsShown r → eventKey k = false → (e.raise 0x30 r).settle.obj k =
      (((d.updRing r (fun _ => g)).setObj (Obj.RING_STATUS r) status).setObj (Obj.NODE_COUNT r) (d.ring r).nodes.length).obj k := hall.alters.obj
  have hstatus : (e.raise 0x30 r).settle.obj (Obj.RING_STATUS r) = status := by
    rw [hkept _ (status_apart r).1 (by grind [eventKey]), Dev.obj_setObj_ne _ _ _ _ (by grind), Dev.obj_setObj_same]
  rw [heq]
  refine ⟨?_, by rw [hstatus]; exact hdiscovered, by rw [hstatus]; exact hclosed, settle_latched _ _ (by decide) (latched_raise _ _ _ (by decide)),
    ?_, ?_, fun i hi => ?_⟩
  · rw [hkept _ (status_apart r).2 (by grind [eventKey]), Dev.obj_setObj_same]
  · rw [hall.phase, hring, hphase]
  · rw [hall.nodes, hring, hnodes]
  · have hentry : ∀ k, k = Obj.NODE_IDENT r i ∨ k = Obj.HOP_DELAY_EAST r i ∨ k = Obj.HOP_DELAY_WEST r i →
        (e.raise 0x30 r).settle.obj k = d.obj k := fun k hk => by
      obtain ⟨hlist, hevent, hstatus, hcount⟩ := entry_apart r hi hk
      rw [hkept k hlist hevent, Dev.obj_setObj_ne _ _ _ _ hcount, Dev.obj_setObj_ne _ _ _ _ hstatus]
      rfl
    simp only [Dev.nodeEntry, hentry _ (.inl rfl), hentry _ (.inr (.inl rfl)), hentry _ (.inr (.inr rfl))]

/-- The findings of a discovery, as they are shown. -/
theorem discoveryDone_shows {d : Dev} {r : Fin 2} (closed : Bool) {l : List NodeReport} (hl : l.length ≤ 64) (hstate : d.state = stConfig)
    (hopen : d.ringOpen r = true) (hhead : d.isHead = true) (hphase : (d.ring r).phase = .discovering) :
    let e := (d.discoveryDone r closed l).settle
    e.obj (Obj.NODE_COUNT r) = l.length ∧ bit (e.obj (Obj.RING_STATUS r)) 0 = true ∧
      bit (e.obj (Obj.RING_STATUS r)) 1 = (closed || (d.ring r).returned) ∧ e.latched 0x30 = true ∧ (e.ring r).phase = .complete ∧
      (e.ring r).nodes = l.map nodeOf ∧ ∀ (i : Nat) (n : NodeReport), l[i]? = some n →
        e.obj (Obj.NODE_IDENT r i) = n.kind.toNat * 2 ^ 24 + n.axes.val * 2 ^ 16 + n.revision.toNat ∧
        e.obj (Obj.HOP_DELAY_EAST r i) = delayOf n.east ∧ e.obj (Obj.HOP_DELAY_WEST r i) = delayOf n.west := by
  obtain ⟨found, hlisted, hnodes, hclosed, heq⟩ := discoveryDone_finds closed hl hstate hopen hhead hphase
  have hring : (found.showNodes r (l.map nodeOf)).ring r = found.ring r := by rw [Dev.ring, showNodes_rings, ← Dev.ring]
  obtain ⟨hcount, hdiscovered, hshut, hlatched, hcomplete, hkept, hentries⟩ :=
    finishDiscovery_shows (d := found.showNodes r (l.map nodeOf)) (r := r) (by rw [showNodes_rings]; exact hlisted)
  rw [hring, hnodes] at hcount hkept
  rw [hring, hclosed] at hshut
  rw [heq]
  refine ⟨by rw [hcount, List.length_map], hdiscovered, hshut, hlatched, hcomplete, hkept, fun i n hn => ?_⟩
  have hi : i < 64 := (List.getElem?_eq_some_iff.mp hn).1.trans_le hl
  have hentry := (hentries i hi).trans (showNodes_entry found r (l.map nodeOf) hi)
  rw [List.getElem?_map, hn] at hentry
  obtain ⟨hident, hdelays⟩ := Prod.mk.inj hentry
  exact ⟨hident, Prod.mk.inj hdelays⟩

/-! ## DELAY_REMEASURE (R206) -/

/-- The object that shows the delay of a position from a port. -/
def hopKey (r port p : Nat) : Nat := if port = 0 then Obj.HOP_DELAY_EAST r (p - 1) else Obj.HOP_DELAY_WEST r (p - 1)

/-- What a re-measured delay of a ring may show beside the delay itself. -/
def remeasureShown (r : Nat) : List Nat := halvesShown r ++ poolShown r

section
variable (d : Dev) (r : Fin 2) (port p own : Nat)

/-- A delay that moved by at most 1 ns is left as it is. -/
theorem remeasureOne_still (h : absI ((own + (d.ring r).offset port : Nat) - d.obj (hopKey r port p)) ≤ 1) : d.remeasureOne r port p own = d :=
  if_pos h

/-- One that moved by more is taken, the halves and the node are told, and it is reported when it moved by more than 10 ns. -/
theorem remeasureOne_moved (h : 1 < absI ((own + (d.ring r).offset port : Nat) - d.obj (hopKey r port p))) :
    (d.setObj (hopKey r port p) (own + (d.ring r).offset port)).Shows (remeasureShown r) (d.remeasureOne r port p own) ∧
      (10 < absI ((own + (d.ring r).offset port : Nat) - d.obj (hopKey r port p)) → (d.remeasureOne r port p own).latched 0x3E = true) := by
  unfold Dev.remeasureOne
  extract_lets k new diff put note shown noted asked
  have hmoved : ¬ absI diff ≤ 1 := not_le.mpr h
  rw [if_neg hmoved]
  have hput : put.Shows (remeasureShown r) (put.updRing r (fun g => { g with nodes := upd note g.nodes (p - 1) })) :=
    ⟨⟨fun _ _ _ => rfl, rfl⟩, fun _ _ hl => hl, rfl⟩
  have hshown : put.Shows (remeasureShown r) shown := hput.trans (ringWork_showHalves _ r (by simp +contextual [remeasureShown])).toShows
  have hnoted : shown.RingWork (remeasureShown r) noted := by
    unfold noted
    split
    · exact ringWork_noteRing shown r p _ _
    · exact .refl shown _
  have hasked : noted.RingWork (remeasureShown r) asked := ringWork_sendRequest noted r (by simp +contextual [remeasureShown]) p 5 _
  have hbefore := (hshown.trans hnoted.toShows).trans hasked.toShows
  split
  · exact ⟨hbefore.trans (ringWork_raise asked 0x3E _ _ (by decide)).toShows, fun _ => latched_raise _ _ _ (by decide)⟩
  · next hsmall => exact ⟨hbefore, fun hbig => absurd hbig hsmall⟩

/-- Whatever a port measures, the ring shows that delay and what goes with it. -/
theorem remeasureOne_shows (hp : p ≤ 64) : d.Shows (hopKey r port p :: remeasureShown r) (d.remeasureOne r port p own) := by
  by_cases h : absI ((own + (d.ring r).offset port : Nat) - d.obj (hopKey r port p)) ≤ 1
  · rw [remeasureOne_still d r port p own h]
    exact .refl d _
  · refine (shows_setObj d _ List.mem_cons_self ?_).trans ((remeasureOne_moved d r port p own (not_le.mp h)).1.mono fun k hk => List.mem_cons_of_mem _ hk)
    unfold hopKey
    split <;> grind

end

/-- The next position of a half is one of it. -/
theorem nextOf_mem {l : List Nat} {i p : Nat} (h : nextOf l i = some p) : p ∈ l :=
  List.mem_of_mem_drop (List.mem_of_mem_head? h)

/-- The west half holds positions of the ring. -/
theorem served_west_le {g : Ring} (htakeover : g.takeover = none) {lost : List Nat} {p : Nat} (h : p ∈ (g.served lost).2) : p ≤ g.nodes.length := by
  simp only [Ring.served, htakeover, List.mem_map] at h
  obtain ⟨i, -, rfl⟩ := h
  omega

/-- A re-measurement is due at the head of a complete ring, and position p of the east half is in turn (R206). -/
structure Dev.RemeasureDue (d : Dev) (r p : Nat) : Prop where
  state : d.state ∈ [stReady, stRun, stService]
  head : d.isHead = true
  phase : (d.ring r).phase = .complete
  due : (d.ring r).remeasured + d.obj Obj.REMEASURE_PERIOD ≤ d.cyc.count
  plan : (d.ring r).takeover = none
  nodes : (d.ring r).nodes.length ≤ 64
  next : nextOf ((d.ring r).served (d.ring r).plan).1 (d.ring r).remeasureEast = some p

section
variable {d : Dev} {r : Fin 2} {p : Nat}

/-- The east half's position in turn is measured first; what follows shows one delay of the west half. -/
theorem remeasure_east_first (h : d.RemeasureDue r p) (east west : Nat) :
    ∃ q, (d.remeasureOne r 0 p east).Shows (hopKey r 1 q :: remeasureShown r) (d.remeasure r east west) := by
  have hgoes : ¬ (! [stReady, stRun, stService].contains d.state || (d.ring r).phase != .complete || !d.isHead
      || decide (d.cyc.count < (d.ring r).remeasured + d.obj Obj.REMEASURE_PERIOD)) = true := by
    rw [List.contains_iff_mem.mpr h.state]
    simp [h.phase, h.head, h.due]
  have hcounted : ∀ (e : Dev) (f : Ring → Ring) (l : List Nat), e.Shows l (e.updRing r f) := fun _ _ _ =>
    ⟨⟨fun _ _ _ => rfl, rfl⟩, fun _ _ hl => hl, rfl⟩
  unfold Dev.remeasure
  rw [if_neg hgoes]
  extract_lets g halves measured both count
  have hmeasured : measured = d.remeasureOne r 0 p east := by
    unfold measured
    rw [show nextOf halves.1 g.remeasureEast = some p from h.next]
  have hboth : ∃ q, measured.Shows (hopKey r 1 q :: remeasureShown r) both := by
    unfold both
    split
    · next q hwest => exact ⟨q, remeasureOne_shows measured r 1 q west ((served_west_le h.plan (nextOf_mem hwest)).trans h.nodes)⟩
    · exact ⟨0, .refl measured _⟩
  obtain ⟨q, hwest⟩ := hboth
  rw [← hmeasured]
  exact ⟨q, hwest.trans (hcounted both _ _)⟩

/-- The delay of a position from the east port is no other object of a re-measurement. -/
theorem eastDelay_apart (hp : p ≤ 64) (q : Nat) :
    hopKey r 0 p ∉ hopKey r 1 q :: remeasureShown r ∧ hopKey r 0 p ∉ remeasureShown r ∧ eventKey (hopKey r 0 p) = false := by
  have hshown : hopKey r 0 p ∉ remeasureShown r := by
    simp only [hopKey, if_true, remeasureShown, halvesShown, poolShown, List.cons_append, List.nil_append, List.mem_cons, List.not_mem_nil,
      or_false]
    grind
  refine ⟨fun hmem => ?_, hshown, by grind [hopKey, eventKey]⟩
  rcases List.mem_cons.mp hmem with hsame | hmem
  · grind [hopKey]
  · exact hshown hmem

/-- The delay shown of the east half's position in turn: it stays within 1 ns, follows beyond, and is reported beyond 10 ns. -/
theorem remeasure_shows (h : d.RemeasureDue r p) (hp : p ≤ 64) (east west : Nat) :
    let e := (d.remeasure r east west).settle
    let diff := (east : Int) - d.obj (hopKey r 0 p)
    (absI diff ≤ 1 → e.obj (hopKey r 0 p) = d.obj (hopKey r 0 p)) ∧ (1 < absI diff → e.obj (hopKey r 0 p) = east) ∧
      (10 < absI diff → e.latched 0x3E = true) := by
  intro e diff
  obtain ⟨q, hafter⟩ := remeasure_east_first h east west
  obtain ⟨hlist, hbeside, hevent⟩ := eastDelay_apart (r := r) hp q
  have hend := hafter.trans ((reported_settle _).ringWork _).toShows
  have hobj : e.obj (hopKey r 0 p) = (d.remeasureOne r 0 p east).obj (hopKey r 0 p) := hend.alters.obj _ hlist hevent
  have hown : east + (d.ring r).offset 0 = east := by
    rw [Ring.offset, h.plan]
    rfl
  have hmoved := remeasureOne_moved d r 0 p east
  have hstill := remeasureOne_still d r 0 p east
  rw [hown] at hmoved hstill
  refine ⟨fun hsmall => ?_, fun hmore => ?_, fun hbig => ?_⟩
  · rw [hobj, hstill hsmall]
  · rw [hobj, (hmoved hmore).1.alters.obj _ hbeside hevent, Dev.obj_setObj_same]
  · exact hend.latch _ (by decide) ((hmoved (lt_trans (by decide) hbig)).2 hbig)

end

/-- Settles O37: the end of discovery writes the entries of the positions and then only other objects; a re-measurement takes the east delay
first, and what it does of the west half and of messages is beside that delay. -/
theorem discoveryAndRemeasurementShowTheNodes : Obligations.DiscoveryAndRemeasurementShowTheNodes := by
  unfold Obligations.DiscoveryAndRemeasurementShowTheNodes
  constructor
  · intro s ring closed nodes hlength
    have hexec : exec (.discoveryDone ring closed nodes) s = s.onDev (fun d => d.discoveryDone ring closed nodes) := by
      change guardForm (decide (nodes.length ≤ 64)) _ = _
      rw [decide_eq_true hlength]
      rfl
    refine ⟨fun hstate hopen hhead hphase => ?_, fun hstate => ?_⟩
    · exact answers_onDev (fun d => d.discoveryDone ring closed nodes) hexec
        (discoveryDone_shows (d := s.dev.fresh) closed hlength hstate hopen hhead hphase)
    · refine answers_onDev (fun d => d.discoveryDone ring closed nodes) hexec ?_
      rw [discoveryDone_elsewhere (d := s.dev.fresh) hstate, fresh_settle]
      exact ⟨same_of_dict (e := s.dev.fresh) rfl rfl rfl, rfl⟩
  · intro s ring east west p hstate hhead g hphase hdue htakeover hnodes hp hnext old
    have hremeasure : s.dev.fresh.RemeasureDue ring p := ⟨hstate, hhead, hphase, hdue, htakeover, hnodes, hnext⟩
    exact answers_onDev (fun d => d.remeasure ring east.toNat west.toNat) rfl (remeasure_shows hremeasure hp east.toNat west.toNat)

end Sys2Proof.Machine
end

section
/-! SUPPORT. AXIS_COMMAND and RC_CLEAR at their acceptance and as they take effect: the obligation (R65, R228, R282, R434). -/

set_option Elab.async false

namespace Sys2Proof.Machine

/-! ## Acceptance -/

/-- A command object of an axis, its owner's condition met, is accepted and waits. -/
theorem axisObject_queued {s : State} {src : Src} {k v : Nat} {r : ObjRow} (h : Open s src) (hrow : rowOf k = some r) (hp : r.ty.plain = true)
    (hwo : r.rights = .wo) (hv : v < 256 ^ r.ty.size) (hc : r.chk.ok r.ty v = true) (hidx : 0xA000 ≤ k / 256 ∧ k / 256 < 0xC000)
    (ho : s.dev.ownerStatus k v = 0) : ∃ t, s.command src k v = .next t ∧ s.Queued t src k v := by
  have hne : ∀ j : Nat, j / 256 < 0xA000 → k ≠ j := by
    rintro j hj rfl
    omega
  have hrights : s.dev.rightsStatus src k r.rights = 0 :=
    rightsStatus_open s src k _ h (by simp only [vendorDomain, Bool.and_eq_false_iff, decide_eq_false_iff_not]; omega) (by omega) (.inl hwo)
  exact command_queued s src k v r h.reach hrow hp hv hrights hc ho (hne _ (by decide)) (by omega) (by simp [hwo])
    (fun hr => hne _ (by decide) hr.1)

/-- Where the objects of axis n at an offset lie in the dictionary. -/
theorem axisKey_parts {k n off sub : Nat} (hk : k = (0xA000 + 0x40 * n + off) * 256 + sub) (hn : n < 128) (hoff : off < 0x40) (hsub : sub < 256) :
    (0xA000 ≤ k / 256 ∧ k / 256 < 0xC000) ∧ (k / 256 - 0xA000) / 0x40 = n ∧ (k / 256 - 0xA000) % 0x40 = off ∧ k % 256 = sub := by
  omega

theorem AXIS_COMMAND_parts (n : Fin 128) : (0xA000 ≤ Obj.AXIS_COMMAND n / 256 ∧ Obj.AXIS_COMMAND n / 256 < 0xC000) ∧
    (Obj.AXIS_COMMAND n / 256 - 0xA000) / 0x40 = n ∧ (Obj.AXIS_COMMAND n / 256 - 0xA000) % 0x40 = 0 ∧ Obj.AXIS_COMMAND n % 256 = 0x0D :=
  axisKey_parts (by simp only [Obj.AXIS_COMMAND]; omega) n.isLt (by decide) (by decide)

theorem RC_CLEAR_parts (n : Fin 128) : (0xA000 ≤ Obj.RC_CLEAR n / 256 ∧ Obj.RC_CLEAR n / 256 < 0xC000) ∧
    (Obj.RC_CLEAR n / 256 - 0xA000) / 0x40 = n ∧ (Obj.RC_CLEAR n / 256 - 0xA000) % 0x40 = 0x22 ∧ Obj.RC_CLEAR n % 256 = 0 :=
  axisKey_parts (by simp only [Obj.RC_CLEAR]; omega) n.isLt (by decide) (by decide)

theorem ownerStatus_AXIS_COMMAND (d : Dev) (n : Fin 128) (v : Nat) : d.ownerStatus (Obj.AXIS_COMMAND n) v = d.axisStatus n v := by
  obtain ⟨hidx, hn, hoff, hsub⟩ := AXIS_COMMAND_parts n
  simp only [Dev.ownerStatus, Dev.ownerStatusAt, if_pos hidx, hn, hoff, hsub, Dev.axisWrite]

theorem ownerStatus_RC_CLEAR (d : Dev) (n : Fin 128) (v : Nat) : d.ownerStatus (Obj.RC_CLEAR n) v = 0 := by
  obtain ⟨hidx, -, hoff, hsub⟩ := RC_CLEAR_parts n
  simp only [Dev.ownerStatus, Dev.ownerStatusAt, if_pos hidx, hoff, hsub, Dev.axisWrite]

/-- An axis command whose condition holds is accepted and waits. -/
theorem axisCommand_queued {s : State} {src : Src} (h : Open s src) (n : Fin 128) {v : Nat} (hv : v ∈ [1, 2, 3])
    (hcond : s.dev.axisCondition n v = true) (hgroup : v = 1 → s.dev.obj (Obj.AXIS_GROUP n) < 32) :
    ∃ t, s.command src (Obj.AXIS_COMMAND n) v = .next t ∧ s.Queued t src (Obj.AXIS_COMMAND n) v := by
  have howner : s.dev.ownerStatus (Obj.AXIS_COMMAND n) v = 0 := by
    rw [ownerStatus_AXIS_COMMAND, Dev.axisStatus, if_pos]
    by_cases h1 : v = 1
    · simp [hcond, hgroup h1]
    · simp [hcond, h1]
  have hrange : ∀ v ∈ [1, 2, 3], v < 256 ^ ObjType.u8.size ∧ (RangeCheck.oneOf [1, 2, 3]).ok .u8 v = true := by decide
  exact axisObject_queued h (row_AXIS_COMMAND n) rfl rfl (hrange v hv).1 (hrange v hv).2 (AXIS_COMMAND_parts n).1 howner

/-! ## In effect -/

theorem not_isBound_AXIS_COMMAND (n : Fin 128) : isBound (Obj.AXIS_COMMAND n) = false := by revert n; decide +kernel

theorem not_isBound_RC_CLEAR (n : Fin 128) : isBound (Obj.RC_CLEAR n) = false := by revert n; decide +kernel

/-- In effect an axis command is the command itself; the pair may note it for the standby. -/
theorem axisCommand_after (d : Dev) (m : Mem) (n : Fin 128) (v : Nat) :
    ∃ p, d.after m (Obj.AXIS_COMMAND n) v = (Dev.axisExecute { d with pair := p } n v, m) := by
  obtain ⟨p, hp⟩ := after_copied d m _ v (rws_AXIS_COMMAND n) (leaves_AXIS_COMMAND n) (not_isBound_AXIS_COMMAND n)
  obtain ⟨hidx, hn, hoff, hsub⟩ := AXIS_COMMAND_parts n
  refine ⟨p, hp.trans ?_⟩
  simp only [ownerEffect, if_pos hidx, hn, hoff, hsub, axisEffect, if_true]

theorem rcClear_after (d : Dev) (m : Mem) (n : Fin 128) : ∃ p, d.after m (Obj.RC_CLEAR n) 1 = (Dev.rcClear { d with pair := p } n, m) := by
  obtain ⟨p, hp⟩ := after_copied d m _ 1 (rws_RC_CLEAR n) (leaves_RC_CLEAR n) (not_isBound_RC_CLEAR n)
  obtain ⟨hidx, hn, hoff, hsub⟩ := RC_CLEAR_parts n
  refine ⟨p, hp.trans ?_⟩
  simp only [ownerEffect, if_pos hidx, hn, hoff, hsub, axisEffect]

section
variable {d : Dev} {n : Nat}

theorem axisExecute_off {v : Nat} (h : d.axisCondition n v = false) : d.axisExecute n v = d := by simp [Dev.axisExecute, h]

theorem axisExecute_enable (h : d.axisCondition n 1 = true) :
    d.axisExecute n 1 = (d.setObj (Obj.AXIS_STATE n) 2).putGen n ((d.gen n).rest 0) := by simp [Dev.axisExecute, h]

theorem axisExecute_disable (h : d.axisCondition n 2 = true) : d.axisExecute n 2 = d.setObj (Obj.AXIS_STATE n) 1 := by simp [Dev.axisExecute, h]

theorem axisExecute_clear (h : d.axisCondition n 3 = true) :
    d.axisExecute n 3 = (d.setObj (Obj.AXIS_STATE n) 1).setObj (Obj.FAULT_CAUSE n) 0 := by simp [Dev.axisExecute, h]

end

theorem putGen_obj (d : Dev) (n : Nat) (g : Gen) (k : Nat) : (d.putGen n g).obj k =
    if Obj.PROFILE_FLAGS n = k then g.flags else if Obj.PROFILE_STATE n = k then g.state else d.obj k := by
  unfold Dev.putGen
  rw [Dev.obj_setObj, Dev.obj_setObj]
  rfl

theorem rcClear_blob (d : Dev) (n k : Nat) : (d.rcClear n).blob k = if Obj.RC_TABLE n = k then [] else d.blob k :=
  Dev.blob_setBlob d (Obj.RC_TABLE n) [] k

/-- Settles O17: the check of an AXIS_COMMAND is its condition, and in effect each command is one row of axisExecute. -/
theorem axisCommandsWaitAndAct : Obligations.AxisCommandsWaitAndAct := by
  unfold Obligations.AxisCommandsWaitAndAct
  refine ⟨fun s src axis hopen => ⟨?enable, ?disable, ?clear, ?rc⟩, fun d m axis => ⟨?enabled, ?disabled, ?cleared, ?off⟩,
    fun d m axis => ?emptied⟩
  case enable =>
    intro hrun hstate hgate hgroup hfold
    exact axisCommand_queued hopen axis (by decide) (by simp [Dev.axisCondition, hrun, hstate, hgate, hfold]) fun _ => hgroup
  case disable =>
    intro hused
    exact axisCommand_queued hopen axis (by decide) (by simp [Dev.axisCondition, hused]) fun h => absurd h (by decide)
  case clear =>
    intro hfault hcleared
    exact axisCommand_queued hopen axis (by decide) (by simp [Dev.axisCondition, hfault, hcleared]) fun h => absurd h (by decide)
  case rc =>
    exact axisObject_queued hopen (row_RC_CLEAR axis) rfl rfl (by decide) (by decide) (RC_CLEAR_parts axis).1 (ownerStatus_RC_CLEAR s.dev axis 1)
  case enabled =>
    intro hcond
    obtain ⟨p, hp⟩ := axisCommand_after d m axis 1
    have hafter : (d.after m (Obj.AXIS_COMMAND axis) 1).1 = _ := (congrArg Prod.fst hp).trans (axisExecute_enable hcond)
    beta_reduce
    rw [hafter]
    refine ⟨?_, ?_, fun k hstate hprofile hflags => ?_⟩
    · rw [Dev.axisState, putGen_obj, if_neg (by simp [Obj.PROFILE_FLAGS, Obj.AXIS_STATE]), if_neg (by simp [Obj.PROFILE_STATE, Obj.AXIS_STATE]),
        Dev.obj_setObj_same]
    · rw [putGen_obj, if_neg (by simp [Obj.PROFILE_FLAGS, Obj.PROFILE_STATE]), if_pos rfl]
      rfl
    · rw [putGen_obj, if_neg hflags.symm, if_neg hprofile.symm, Dev.obj_setObj_ne _ _ _ _ hstate.symm]
      rfl
  case disabled =>
    intro hcond
    obtain ⟨p, hp⟩ := axisCommand_after d m axis 2
    have hafter : (d.after m (Obj.AXIS_COMMAND axis) 2).1 = _ := (congrArg Prod.fst hp).trans (axisExecute_disable hcond)
    beta_reduce
    rw [hafter]
    exact ⟨Dev.obj_setObj_same _ _ _, fun k hk => Dev.obj_setObj_ne _ _ _ _ hk.symm⟩
  case cleared =>
    intro hcond
    obtain ⟨p, hp⟩ := axisCommand_after d m axis 3
    have hafter : (d.after m (Obj.AXIS_COMMAND axis) 3).1 = _ := (congrArg Prod.fst hp).trans (axisExecute_clear hcond)
    beta_reduce
    rw [hafter]
    refine ⟨?_, Dev.obj_setObj_same _ _ _, fun k hstate hcause => ?_⟩
    · rw [Dev.axisState, Dev.obj_setObj_ne _ _ _ _ (by simp [Obj.FAULT_CAUSE, Obj.AXIS_STATE]), Dev.obj_setObj_same]
    · rw [Dev.obj_setObj_ne _ _ _ _ hcause.symm, Dev.obj_setObj_ne _ _ _ _ hstate.symm]
      rfl
  case off =>
    intro v hcond
    obtain ⟨p, hp⟩ := axisCommand_after d m axis v
    have hafter : d.after m (Obj.AXIS_COMMAND axis) v = ({ d with pair := p }, m) :=
      hp.trans (congrArg (·, m) (axisExecute_off (d := { d with pair := p }) hcond))
    beta_reduce
    rw [hafter]
    exact ⟨fun _ => rfl, rfl⟩
  case emptied =>
    obtain ⟨p, hp⟩ := rcClear_after d m axis
    rw [hp]
    have hblob := rcClear_blob { d with pair := p } axis
    exact ⟨(hblob _).trans (if_pos rfl), Dev.obj_setObj_same _ _ _, fun k hk => Dev.obj_setObj_ne _ _ _ _ hk.symm,
      fun k hk => (hblob k).trans (if_neg hk.symm)⟩

end Sys2Proof.Machine
end

section
/-! SUPPORT. Words read through the checker where every byte carries its check bits (R308, R309, R555). -/

set_option Elab.async false

namespace Sys2Proof.Machine

/-- n bytes from address a on hold the value v with their check bits, the most significant byte first. -/
def Mem.Holds (m : Mem) (a n v : Nat) : Prop := ∀ i < n, m.sym (a + i) = v / 256 ^ (n - 1 - i) % 256 + 256 * checkOf (v / 256 ^ (n - 1 - i) % 256)

variable {x : DM} {a n v : Nat}

/-- The first byte of a held value and the rest. -/
theorem Mem.Holds.head {m : Mem} (h : m.Holds a (n + 1) v) : m.sym a = v / 256 ^ n % 256 + 256 * checkOf (v / 256 ^ n % 256) := h 0 n.succ_pos

theorem Mem.Holds.tail {m : Mem} (h : m.Holds a (n + 1) v) : m.Holds (a + 1) n v := fun i hi => by
  have hplace : n + 1 - 1 - (i + 1) = n - 1 - i := by omega
  rw [show a + 1 + i = a + (i + 1) by omega, h (i + 1) (by omega), hplace]

theorem Mem.holds_one {m : Mem} (h : m.sym a = v % 256 + 256 * checkOf (v % 256)) : m.Holds a 1 v := fun i hi => by
  obtain rfl : i = 0 := by omega
  rw [Nat.sub_self, pow_zero, Nat.div_one]
  exact h

/-- A byte with its check bits reads as it is, and the read leaves no trace. -/
theorem readChecked_good (reader : Nat) (h : x.2.sym a = v % 256 + 256 * checkOf (v % 256)) : readChecked x reader a = (.ok, v % 256, x) := by
  simp only [readChecked, h, readSym_encode]

theorem readWord_good (reader off acc : Nat) (h : x.2.Holds a n v) :
    readWord reader x a off n acc = (.ok (acc * 256 ^ n + v % 256 ^ n), x) := by
  induction n generalizing a off acc with
  | zero => simp [readWord, Nat.mod_one]
  | succ n ih =>
    have hvalue : (acc * 256 + v / 256 ^ n % 256) * 256 ^ n + v % 256 ^ n = acc * 256 ^ (n + 1) + v % 256 ^ (n + 1) := by
      rw [Nat.mod_pow_succ, pow_succ]
      ring
    simp only [readWord, readChecked_good reader h.head, ih _ _ h.tail, hvalue]

/-- A read of bytes is the read of a word that forgets where it failed. -/
theorem readBytes_eq_readWord (reader off acc : Nat) :
    readBytes reader x a n acc = ((readWord reader x a off n acc).1.toOption, (readWord reader x a off n acc).2) := by
  induction n generalizing x a off acc with
  | zero => rfl
  | succ n ih =>
    simp only [readBytes, readWord]
    cases (readChecked x reader a).1
    case ok => exact ih _ _
    case corrected => exact ih _ _
    case unwritten => rfl
    case uncorrectable => rfl

theorem readBytes_good (reader : Nat) (h : x.2.Holds a n v) (hv : v < 256 ^ n) : readBytes reader x a n 0 = (some v, x) := by
  rw [readBytes_eq_readWord reader 0, readWord_good reader 0 0 h, Nat.mod_eq_of_lt hv, Nat.zero_mul, Nat.zero_add]
  rfl

/-- A byte never written since power-up ends the read at its offset. -/
theorem readWord_marker (reader off acc : Nat) (h : x.2.sym a = marker) : readWord reader x a off (n + 1) acc = (.error off, x) := by
  have hread : readChecked x reader a = (.unwritten, 0, x) := by simp only [readChecked, h, readSym_marker]
  simp only [readWord, hread]

/-! ## Instruction words -/

theorem b2n_le_one (b : Bool) : b2n b ≤ 1 := by cases b <;> decide

theorem wordA_lt {op : Nat} (h : op < 64) (x : FmtA) : wordA op x < 256 ^ 8 := by
  have hsat := b2n_le_one x.sat
  have hvs := b2n_le_one x.vs
  simp only [wordA]
  omega

theorem wordI_lt {op : Nat} (h : op < 64) (x : FmtI) : wordI op x < 256 ^ 8 := by
  have hsat := b2n_le_one x.sat
  simp only [wordI]
  omega

theorem wordM_lt {op : Nat} (h : op < 64) (x : FmtM) : wordM op x < 256 ^ 8 := by
  simp only [wordM]
  omega

theorem wordX_lt {op : Nat} (h : op < 64) (x : FmtX) : wordX op x < 256 ^ 8 := by
  simp only [wordX]
  omega

theorem wordC_lt {op : Nat} (h : op < 64) (x : FmtC) : wordC op x < 256 ^ 8 := by
  have hsrc := b2n_le_one x.lcsrc
  simp only [wordC]
  omega

theorem wordT_lt {op : Nat} (h : op < 64) (x : FmtT) : wordT op x < 256 ^ 8 := by
  have hslot := b2n_le_one x.slot
  have hsel := b2n_le_one x.sel
  simp only [wordT]
  omega

end Sys2Proof.Machine
end

section
/-! SUPPORT. A lane's pass before its next instruction: what lands, what the issue of the instruction leaves, and its context faults
(R247, R302, R304, R311). -/

set_option Elab.async false

namespace Sys2Proof.Machine

/-! ## Lanes -/

section
variable {d : Dev} {f l : Nat} {g : Lane → Lane}

/-- A lane that is not as at BOOT is a lane of the block. -/
theorem lane_exists_of_ne (h : d.lane f l ≠ initLane) : f < d.folds.length ∧ l < (d.fold f).lanes.length := by
  refine ⟨lt_of_getAt_ne (dflt := initFold) fun hfold => h ?_, lt_of_getAt_ne h⟩
  rw [Dev.lane, Dev.fold, hfold]
  exact getAt_replicate initLane 8 l

/-- Only a lane the block has carries a pass. -/
theorem lane_exists {p : Pass} (h : (d.lane f l).run = some p) : f < d.folds.length ∧ l < (d.fold f).lanes.length :=
  lane_exists_of_ne fun hinit => by
    rw [hinit] at h
    exact Option.some_ne_none p h.symm

theorem fold_updLane (hf : f < d.folds.length) : (d.updLane f l g).fold f = { d.fold f with lanes := upd g (d.fold f).lanes l } :=
  getAt_upd_same initFold _ d.folds f hf

theorem lane_updLane (hf : f < d.folds.length) (hl : l < (d.fold f).lanes.length) : (d.updLane f l g).lane f l = g (d.lane f l) := by
  rw [Dev.lane, fold_updLane hf]
  exact getAt_upd_same initLane g _ l hl

/-- A change of a lane the block does not have changes no lane there. -/
theorem lane_updLane_absent (h : ¬ (f < d.folds.length ∧ l < (d.fold f).lanes.length)) :
    d.lane f l = initLane ∧ (d.updLane f l g).lane f l = initLane := by
  refine ⟨not_not.mp fun hne => h (lane_exists_of_ne hne), not_not.mp fun hne => h ?_⟩
  obtain ⟨hf, hl⟩ := lane_exists_of_ne hne
  have hf' : f < d.folds.length := (upd_length _ d.folds f).symm ▸ hf
  rw [fold_updLane hf', upd_length] at hl
  exact ⟨hf', hl⟩

theorem Lane.bank_setBank (y : Lane) (b : Bank) (h : y.cur < y.banks.length) : (y.setBank b).bank = b := getAt_upd_same initBank _ _ _ h

theorem dropPass_run {p : Pass} (h : (d.lane f l).run = some p) : ((d.dropPass f l).lane f l).run = none := by
  obtain ⟨hf, hl⟩ := lane_exists h
  rw [Dev.dropPass, lane_updLane hf hl]

end

/-! ## What lands before an instruction -/

section
variable (d : Dev)

theorem mboxEntry_fresh (c kind dom w : Nat) : d.fresh.mboxEntry c kind dom w = d.mboxEntry c kind dom w := by
  have hservo : d.fresh.servoIn = d.servoIn := rfl
  have htheta : d.fresh.theta = d.theta := rfl
  have hleg : d.fresh.legTelWord = d.legTelWord := rfl
  have hsense : d.fresh.sense = d.sense := rfl
  have haxis : d.fresh.axis = d.axis := rfl
  have hflags : d.fresh.domFlags = d.domFlags := rfl
  simp only [Dev.mboxEntry, hservo, htheta, hleg, hsense, haxis, hflags]
  rfl

theorem mboxRead_fresh (p : Pass) (w : Nat) : d.fresh.mboxRead p w = d.mboxRead p w := by
  unfold Dev.mboxRead
  rw [mboxEntry_fresh]

theorem landStore_fresh : d.fresh.landStore = d.landStore := by
  funext p s
  unfold Dev.landStore
  rw [mboxRead_fresh]
  rfl

theorem land_fresh (b : Bank) (p : Pass) (n : Nat) : d.fresh.land b p n = d.land b p n := by
  unfold Dev.land
  rw [landStore_fresh]

/-- Of a pass, a landing changes the shadow, the mailbox copy and what is in flight. -/
theorem land_pass (b : Bank) (p : Pass) (n : Nat) : (d.land b p n).2 = { p with
    flight := (d.land b p n).2.flight, stores := (d.land b p n).2.stores, shadow := (d.land b p n).2.shadow, mbox := (d.land b p n).2.mbox } := by
  have hstore : ∀ (q : Pass) (s : StoreFlight), q = { p with shadow := q.shadow, mbox := q.mbox } →
      d.landStore q s = { p with shadow := (d.landStore q s).shadow, mbox := (d.landStore q s).mbox } := by
    intro q s hq
    unfold Dev.landStore
    rw [hq]
    dsimp only
    split
    · split <;> rfl
    · rfl
  have hlanded := foldl_induct (fun q : Pass => q = { p with shadow := q.shadow, mbox := q.mbox }) (p.stores.filter fun s => decide (s.landAt ≤ n))
    d.landStore p hstore rfl
  unfold Dev.land
  dsimp only
  rw [hlanded]

end

/-! ## Context faults -/

theorem faultContext_latched (d : Dev) (c detail : Nat) (ends : Bool) : (d.faultContext c detail ends).latched 0xC7 = true :=
  latched_raise _ _ _ (by decide)

/-- A context fault as a change of one axis and a report. -/
theorem faultContext_reported (d : Dev) (c detail : Nat) (ends : Bool) : Reported (d.updAxis c fun a =>
    if ends then { a.flag 15 with work := { a.work with skim := 4, full := 4 }, skim := none } else a.flag 15) (d.faultContext c detail ends) :=
  reported_raise _ _ _ (by decide)

theorem axis_updAxis {d : Dev} {c : Nat} (g : Axis → Axis) (h : c < d.axes.length) : (d.updAxis c g).axis c = g (d.axis c) :=
  getAt_upd_same initAxis g d.axes c h

/-- What a change of an axis does not touch stays on every axis. -/
theorem axis_updAxis_proj {α : Type} (d : Dev) (π : Axis → α) (c n : Nat) (g : Axis → Axis) (h : ∀ a, π (g a) = π a) :
    π ((d.updAxis c g).axis n) = π (d.axis n) := by
  show π (getAt initAxis (upd g d.axes c) n) = π (getAt initAxis d.axes n)
  rw [← getAt_map π, map_upd π g id h, upd_id, getAt_map]

theorem Reported.axis {d e : Dev} (h : Reported d e) (c : Nat) : e.axis c = d.axis c := by rw [Dev.axis, Dev.axis, h.axes]

theorem Reported.lane {d e : Dev} (h : Reported d e) (f l : Nat) : e.lane f l = d.lane f l := by
  rw [Dev.lane, Dev.lane, Dev.fold, Dev.fold, h.folds]

theorem bit_flag (a : Axis) (i : Nat) : bit (a.flag i).flags i = true := (bit_setBit_true a.flags i i).trans (by simp)

/-- e is d but for the folds' lanes, and what no statement about a lane shows. -/
structure FoldsOnly (d e : Dev) : Prop where
  dict : e.dict = d.dict
  blobs : e.blobs = d.blobs
  axes : e.axes = d.axes
  cyc : e.cyc = d.cyc
  causeReq : e.ctl.causeReq = none
  drops : e.drops = []

theorem foldsOnly_fresh (d : Dev) : FoldsOnly d d.fresh := ⟨rfl, rfl, rfl, rfl, rfl, rfl⟩

theorem FoldsOnly.updLane {d e : Dev} (h : FoldsOnly d e) (f l : Nat) (g : Lane → Lane) : FoldsOnly d (e.updLane f l g) :=
  ⟨h.dict, h.blobs, h.axes, h.cyc, h.causeReq, h.drops⟩

theorem FoldsOnly.alters {d e : Dev} (h : FoldsOnly d e) (k : List Nat) : d.fresh.Alters k e :=
  ⟨fun j _ _ => congrArg (fun t => tget defaultOf t j) h.dict, h.blobs⟩

theorem FoldsOnly.holdDecide {d e : Dev} (h : FoldsOnly d e) : e.holdDecide = e := holdDecide_none e h.causeReq

theorem FoldsOnly.settle {d e : Dev} (h : FoldsOnly d e) : e.settle = e := settle_none e h.drops

theorem FoldsOnly.same {s : State} {e : Dev} (h : FoldsOnly s.dev e) : s.Same { s with dev := e.settle } := same_of_dict h.dict h.blobs h.drops

section
variable {s : State} {f l : Fin 8} {p : Pass}

/-- The axis of a context that has ended by a context fault. -/
theorem faultContext_axis {d : Dev} {c : Nat} (hc : c < d.axes.length) (detail : Nat) (ends : Bool) :
    bit ((d.faultContext c detail ends).axis c).flags 15 = true ∧ (ends = true → ((d.faultContext c detail ends).axis c).work.full = 4) := by
  rw [(faultContext_reported d c detail ends).axis c, axis_updAxis _ hc]
  refine ⟨?_, fun hends => by rw [if_pos hends]⟩
  split
  · exact bit_flag _ 15
  · exact bit_flag _ 15

theorem faultContext_causeReq (d : Dev) (c detail : Nat) (ends : Bool) : (d.faultContext c detail ends).ctl.causeReq = d.ctl.causeReq :=
  congrArg DevCtl.causeReq (faultContext_reported d c detail ends).ctl

theorem updAxis_alters (d : Dev) (c : Nat) (g : Axis → Axis) (k : List Nat) : d.Alters k (d.updAxis c g) := ⟨fun _ _ _ => rfl, rfl⟩

theorem faultContext_alters (d : Dev) (c detail : Nat) (ends : Bool) (k : List Nat) : d.Alters k (d.faultContext c detail ends) :=
  (updAxis_alters d c _ k).report (faultContext_reported d c detail ends)

/-- A context fault of the pass in a lane, whatever else the fold's lanes hold, ends the command as the claim says. -/
theorem faulted_contextFault {e : Dev} {q r : Pass} (he : FoldsOnly s.dev e) (hrun : (e.lane f l).run = some r)
    (hctx : q.ctx = p.ctx) (hstart : q.startAt = p.startAt) (detail : Nat) :
    s.Faulted { s with dev := (e.contextFault f l q detail).holdDecide.settle } f l p := by
  have hdrop : FoldsOnly s.dev (e.dropPass f l) := he.updLane f l _
  have hdecide := holdDecide_none _ ((faultContext_causeReq (e.dropPass f l) q.ctx detail (decide (e.cyc.startAt ≤ q.startAt))).trans
    hdrop.causeReq)
  rw [Dev.contextFault, hdecide]
  have hsettle := reported_settle ((e.dropPass f l).faultContext q.ctx detail (decide (e.cyc.startAt ≤ q.startAt)))
  refine ⟨?gone, hsettle.latch _ (by decide) (faultContext_latched _ _ _ _), rfl, ?only, fun hlen => ?axis⟩
  case gone =>
    refine (congrArg Lane.run ((hsettle.lane f l).trans ((faultContext_reported _ _ _ _).lane f l))).trans (dropPass_run hrun)
  case only => exact (((hdrop.alters []).trans (faultContext_alters _ _ _ _ _)).report hsettle).only
  case axis =>
    rw [hsettle.axis, hctx, hstart, he.cyc]
    obtain ⟨hflag, hfull⟩ := faultContext_axis (d := e.dropPass f l) (c := p.ctx) (by rw [hdrop.axes]; exact hlen) detail
      (decide (s.dev.cyc.startAt ≤ p.startAt))
    exact ⟨hflag, fun h => hfull (decide_eq_true h)⟩

end

end Sys2Proof.Machine
end

section
/-! SUPPORT. The issue of one instruction of a customer pass, step by step: its word, its load, its stack, its store, and where the pass
stands after it (R300 to R312). -/

set_option Elab.async false

namespace Sys2Proof.Machine

/-! ## The parts of an instruction's issue -/

/-- What the load of an instruction gives; an instruction without one gives 0. -/
def Act.loaded (a : Act) (x : DM) (f l : Nat) (p : Pass) : Except Nat Nat × DM :=
  match a.load with
  | none => (.ok 0, x)
  | some (_, addr, wide) => loadWord x f l p addr wide

/-- The return stack after an instruction, or none where it cannot take it (R303, R304). -/
def Act.stackOn (a : Act) (b : Bank) : Option (List Nat) :=
  match a.pc with
  | .call _ => if 2 ≤ b.stack.length then none else some ((b.pc + 1) :: b.stack)
  | .ret => if b.stack.isEmpty then none else some (b.stack.drop 1)
  | _ => some b.stack

/-- The result of a load of the value v. -/
def Act.loadWr (a : Act) (v : Nat) : List Wr :=
  match a.load with
  | some (reg, _, wide) => [{ reg := reg, val := if wide then sgn 32 v else v, dist := 3, early := false }]
  | none => []

/-- The result of a post-update. -/
def postWr (post : Option (Nat × Nat)) : List Wr :=
  match post with
  | some (i, q) => [{ reg := .p i, val := q, dist := 1, early := false }]
  | none => []

/-- Every result of an instruction whose load gave v. -/
def Act.results (a : Act) (v : Nat) : List Wr := a.wr ++ a.loadWr v ++ postWr a.post

/-- A result of an instruction issued as number n, in flight. -/
def Wr.fly (n : Nat) (w : Wr) : Flight := { reg := w.reg, val := w.val, landAt := n + w.dist, early := w.early }

/-- The results of an instruction in flight: its own, that of its load, that of its post-update. -/
def Act.flights (a : Act) (v n : Nat) : List Flight :=
  let own := a.wr.map (Wr.fly n)
  let loaded := match a.load with
    | some (reg, _, wide) => own ++ [{ reg := reg, val := if wide then sgn 32 v else v, landAt := n + 3, early := false }]
    | none => own
  match a.post with
  | some (i, q) => loaded ++ [{ reg := .p i, val := q, landAt := n + 1, early := false }]
  | none => loaded

theorem Act.flights_eq (a : Act) (v n : Nat) : a.flights v n = (a.results v).map (Wr.fly n) := by
  cases hload : a.load with
  | none => cases hpost : a.post <;> simp [Act.flights, Act.results, Act.loadWr, postWr, hload, hpost, Wr.fly]
  | some x => cases hpost : a.post <;> simp [Act.flights, Act.results, Act.loadWr, postWr, hload, hpost, Wr.fly]

/-- The store of an instruction, in flight. -/
def Act.stored (a : Act) (n : Nat) : List StoreFlight :=
  match a.store with
  | some (addr, wide, v) => storeFlights n addr wide v
  | none => []

/-- Whether an instruction changes PC by itself. -/
def Act.taken (a : Act) : Bool :=
  match a.pc with
  | .next => false
  | _ => true

/-- The slots an instruction takes: three for a change of PC (R303). -/
def Act.slots (a : Act) : Nat := if a.taken then 3 else 1

/-- The executions that a REP still has after this one. -/
def repLeft (rep : Option Nat) : Nat :=
  match rep with
  | some k => k - 1
  | none => 0

/-- PC after an instruction. -/
def Act.pcAfter (a : Act) (b : Bank) (rep : Option Nat) : Nat :=
  match a.pc with
  | .jump t => t
  | .call t => t
  | .ret => b.stack.headD 0
  | .next => if rep.isSome && repLeft rep != 0 then b.pc
    else match a.rep with
      | some 0 => b.pc + 2
      | _ => b.pc + 1

/-- The repetitions after an instruction. -/
def Act.repAfter (a : Act) (rep : Option Nat) : Option Nat :=
  if rep.isSome then (if repLeft rep = 0 then none else some (repLeft rep))
  else match a.rep with
    | some 0 => none
    | r => r

/-- The pass after an instruction whose load gave v. -/
def Act.passAfter (a : Act) (v : Nat) (q : Pass) : Pass :=
  { q with
    flight := q.flight ++ a.flights v q.n
    stores := q.stores ++ a.stored q.n, rep := a.repAfter q.rep, n := q.n + a.slots }

/-- An instruction put into a lane, its load having given v and its stack st. -/
def Act.put (a : Act) (d : Dev) (f l : Nat) (b : Bank) (q : Pass) (v : Nat) (st : List Nat) : Dev :=
  d.updLane f l fun y => { y.setBank { b with pc := a.pcAfter b q.rep, stack := st } with run := some (a.passAfter v q) }

/-- The issue of an instruction whose word is read, of a pass whose results have landed. -/
def Act.issue (a : Act) (x : DM) (f l : Nat) (b : Bank) (q : Pass) : DM :=
  let r := a.loaded x f l q
  match r.1, a.stackOn b with
  | .ok v, some st =>
    match x.1.badStore q a.store with
    | some detail => (r.2.1.contextFault f l q detail, r.2.2)
    | none =>
      let d := a.put r.2.1 f l b q v st
      if d.codeLength q.domain ≤ a.pcAfter b q.rep && !a.ends then (d.contextFault f l (a.passAfter v q) 0xFFFF, r.2.2)
      else if q.stop != 0 && (a.repAfter q.rep).isNone then (d.endStopped f l (a.passAfter v q), r.2.2)
      else (d, r.2.2)
  | .error off, some _ => (r.2.1.contextFault f l q off, r.2.2)
  | _, none => (r.2.1.contextFault f l q 0xFFFF, r.2.2)

section
variable {a : Act} {x : DM} {f l : Nat} {b : Bank} {q : Pass} {v detail : Nat} {st : List Nat}

/-- An instruction that goes on inside the code, or is the END that stands last, leaves the pass in its lane. -/
theorem Act.issue_goes (hload : a.loaded x f l q = (.ok v, x)) (hstack : a.stackOn b = some st) (hstore : x.1.badStore q a.store = none)
    (hstop : q.stop = 0) (hpc : a.pcAfter b q.rep < x.1.codeLength q.domain ∨ a.ends = true) :
    a.issue x f l b q = (a.put x.1 f l b q v st, x.2) := by
  have hcode : (a.put x.1 f l b q v st).codeLength q.domain = x.1.codeLength q.domain := rfl
  have hgo : ¬ (x.1.codeLength q.domain ≤ a.pcAfter b q.rep ∧ a.ends = false) := by
    rintro ⟨hpast, hends⟩
    exact hpc.elim (fun hin => absurd hpast (Nat.not_le.mpr hin)) (fun h => by simp [hends] at h)
  simp [Act.issue, hload, hstack, hstore, hstop, hcode, hgo]

/-- An instruction after which PC would stand past the code faults the context. -/
theorem Act.issue_past (hload : a.loaded x f l q = (.ok v, x)) (hstack : a.stackOn b = some st) (hstore : x.1.badStore q a.store = none)
    (hends : a.ends = false) (hpc : x.1.codeLength q.domain ≤ a.pcAfter b q.rep) :
    a.issue x f l b q = ((a.put x.1 f l b q v st).contextFault f l (a.passAfter v q) 0xFFFF, x.2) := by
  have hcode : (a.put x.1 f l b q v st).codeLength q.domain = x.1.codeLength q.domain := rfl
  simp [Act.issue, hload, hstack, hstore, hends, hcode, hpc]

theorem Act.issue_badStack (hload : a.loaded x f l q = (.ok v, x)) (hstack : a.stackOn b = none) :
    a.issue x f l b q = (x.1.contextFault f l q 0xFFFF, x.2) := by simp [Act.issue, hload, hstack]

theorem Act.issue_badLoad (hload : a.loaded x f l q = (.error detail, x)) (hstack : a.stackOn b = some st) :
    a.issue x f l b q = (x.1.contextFault f l q detail, x.2) := by simp [Act.issue, hload, hstack]

theorem Act.issue_badStore (hload : a.loaded x f l q = (.ok v, x)) (hstack : a.stackOn b = some st) (hstore : x.1.badStore q a.store = some detail) :
    a.issue x f l b q = (x.1.contextFault f l q detail, x.2) := by simp [Act.issue, hload, hstack, hstore]

theorem Act.loaded_none (h : a.load = none) : a.loaded x f l q = (.ok 0, x) := by simp [Act.loaded, h]

theorem Act.loaded_some {reg : LReg} {addr : Nat} {wide : Bool} (h : a.load = some (reg, addr, wide)) :
    a.loaded x f l q = loadWord x f l q addr wide := by simp [Act.loaded, h]

end

/-! ## The issue of the instruction a pass stands before -/

section
variable {s : State} {f l : Fin 8} {p : Pass} {word : Nat} {act : Lane → Bank → Pass → Act} {a : Act}

theorem passAt_eq (s : State) (f l : Fin 8) (p : Pass) : s.passAt f l p = { p with
    flight := (s.passAt f l p).flight, stores := (s.passAt f l p).stores, shadow := (s.passAt f l p).shadow, mbox := (s.passAt f l p).mbox } :=
  land_pass s.dev _ p p.n

@[simp] theorem passAt_ctx (s : State) (f l : Fin 8) (p : Pass) : (s.passAt f l p).ctx = p.ctx := (congrArg Pass.ctx (passAt_eq s f l p) :)
@[simp] theorem passAt_kind (s : State) (f l : Fin 8) (p : Pass) : (s.passAt f l p).kind = p.kind := (congrArg Pass.kind (passAt_eq s f l p) :)
@[simp] theorem passAt_domain (s : State) (f l : Fin 8) (p : Pass) : (s.passAt f l p).domain = p.domain :=
  (congrArg Pass.domain (passAt_eq s f l p) :)
@[simp] theorem passAt_startAt (s : State) (f l : Fin 8) (p : Pass) : (s.passAt f l p).startAt = p.startAt :=
  (congrArg Pass.startAt (passAt_eq s f l p) :)
@[simp] theorem passAt_n (s : State) (f l : Fin 8) (p : Pass) : (s.passAt f l p).n = p.n := (congrArg Pass.n (passAt_eq s f l p) :)
@[simp] theorem passAt_rep (s : State) (f l : Fin 8) (p : Pass) : (s.passAt f l p).rep = p.rep := (congrArg Pass.rep (passAt_eq s f l p) :)
@[simp] theorem passAt_stop (s : State) (f l : Fin 8) (p : Pass) : (s.passAt f l p).stop = p.stop := (congrArg Pass.stop (passAt_eq s f l p) :)

/-- The word of the instruction as the checker reads it. -/
theorem Stands.word_read (h : Stands s f l p word) (hword : word < 256 ^ 8) :
    readBytes (8 * f + l) (s.dev.fresh, s.mem) (codeByte f (8 * (tget (fun _ => 0) (s.dev.fold f).code p.domain + (s.dev.lane f l).bank.pc))) 8 0
      = (some word, (s.dev.fresh, s.mem)) := readBytes_good _ h.code hword

/-- The issue of the instruction a pass stands before, once its word is read. -/
theorem Stands.issue (h : Stands s f l p word) (hword : word < 256 ^ 8)
    (ha : act (s.dev.lane f l) (s.bankAt f l p) (s.passAt f l p) = a) :
    laneIssue (s.dev.fresh, s.mem) f l word act = a.issue (s.dev.fresh, s.mem) f l (s.bankAt f l p) (s.passAt f l p) := by
  have hlane : s.dev.fresh.lane f l = s.dev.lane f l := rfl
  have hfold : s.dev.fresh.fold f = s.dev.fold f := rfl
  have hcode : s.dev.fresh.codeLength p.domain = s.dev.codeLength p.domain := rfl
  have hcomp : s.dev.fresh.computes p.ctx = s.dev.computes p.ctx := rfl
  have hcust : ¬ p.domain < 2 := Nat.not_lt.mpr h.customer
  have hin : ¬ s.dev.codeLength p.domain ≤ (s.dev.lane f l).bank.pc := Nat.not_le.mpr h.inside
  have hb : (s.dev.land (s.dev.lane f l).bank p p.n).1 = s.bankAt f l p := rfl
  have hq : (s.dev.land (s.dev.lane f l).bank p p.n).2 = s.passAt f l p := rfl
  unfold laneIssue
  simp only [hlane, h.runs, hcomp, h.computed, hcust, decide_false, Bool.not_true, Bool.or_self, Bool.false_eq_true, if_false, hcode, hin, hfold,
    h.word_read hword, bne_self_eq_false, land_fresh, hb, hq, ha]
  rfl

theorem Stands.run_fresh (h : Stands s f l p word) : (s.dev.fresh.lane f l).run = some p := h.runs

/-- The lane after an instruction. -/
theorem Stands.lane_put (h : Stands s f l p word) (v : Nat) (st : List Nat) :
    (a.put s.dev.fresh f l (s.bankAt f l p) (s.passAt f l p) v st).lane f l = { (s.dev.lane f l).setBank
      { s.bankAt f l p with pc := a.pcAfter (s.bankAt f l p) p.rep, stack := st } with run := some (a.passAfter v (s.passAt f l p)) } := by
  obtain ⟨hf, hl⟩ := lane_exists h.run_fresh
  rw [Act.put, lane_updLane hf hl, passAt_rep]
  rfl

theorem Act.put_foldsOnly (a : Act) (s : State) (f l : Fin 8) (b : Bank) (q : Pass) (v : Nat) (st : List Nat) :
    FoldsOnly s.dev (a.put s.dev.fresh f l b q v st) := (foldsOnly_fresh s.dev).updLane f l _

/-- The pass after an instruction as the claims say it, whatever else the lanes hold. -/
theorem Stands.issued_of (h : Stands s f l p word) (v : Nat) (st : List Nat) {e : Dev} (he : FoldsOnly s.dev e)
    (hbank : (e.lane f l).bank = ((a.put s.dev.fresh f l (s.bankAt f l p) (s.passAt f l p) v st).lane f l).bank)
    (hrun : (e.lane f l).run = ((a.put s.dev.fresh f l (s.bankAt f l p) (s.passAt f l p) v st).lane f l).run) :
    s.Issued { s with dev := e.holdDecide.settle } f l p (a.results v) (a.stored p.n)
      { s.bankAt f l p with pc := a.pcAfter (s.bankAt f l p) p.rep, stack := st } a.slots (a.repAfter p.rep) := by
  rw [he.holdDecide]
  refine ⟨he.same, ?_, ?_⟩
  · rw [he.settle, hbank, h.lane_put]
    exact Lane.bank_setBank _ _ h.bank
  · rw [he.settle, hrun, h.lane_put, Act.passAfter, Act.flights_eq, passAt_rep, passAt_n]
    rfl

theorem Stands.issued (h : Stands s f l p word) (v : Nat) (st : List Nat) :
    s.Issued { s with dev := (a.put s.dev.fresh f l (s.bankAt f l p) (s.passAt f l p) v st).holdDecide.settle } f l p (a.results v) (a.stored p.n)
      { s.bankAt f l p with pc := a.pcAfter (s.bankAt f l p) p.rep, stack := st } a.slots (a.repAfter p.rep) :=
  h.issued_of v st (a.put_foldsOnly s f l _ _ v st) rfl rfl

/-- A context fault of the pass before its instruction is issued. -/
theorem Stands.faulted (h : Stands s f l p word) (detail : Nat) :
    s.Faulted { s with dev := (s.dev.fresh.contextFault f l (s.passAt f l p) detail).holdDecide.settle } f l p :=
  faulted_contextFault (foldsOnly_fresh s.dev) h.run_fresh (passAt_ctx s f l p) (passAt_startAt s f l p) detail

end

end Sys2Proof.Machine
end

section
/-! SUPPORT. An instruction that goes on, or faults at the end of the code; an exact result fitted into its destination (R296, R304). -/

set_option Elab.async false

namespace Sys2Proof.Machine

/-! ## Exact results fitted (R296) -/

theorem two_pow_pred {w : Nat} (hw : 0 < w) : (2 : Int) ^ w = 2 * 2 ^ (w - 1) := by
  obtain ⟨k, rfl⟩ : ∃ k, w = k + 1 := ⟨w - 1, by omega⟩
  rw [Nat.add_sub_cancel, pow_succ]
  ring

/-- The wrapped value: the residue between −2^(w−1) and 2^(w−1). -/
theorem sgn_raw {w : Nat} (hw : 0 < w) (x : Int) : sgn w (raw w x) = (x + 2 ^ (w - 1)) % 2 ^ w - 2 ^ (w - 1) := by
  have hpow := two_pow_pred hw
  have hhalf : (0 : Int) < 2 ^ (w - 1) := by positivity
  have hr0 : 0 ≤ x % 2 ^ w := Int.emod_nonneg _ (by omega)
  have hr1 : x % 2 ^ w < 2 ^ w := Int.emod_lt_of_pos _ (by omega)
  have hraw : ((raw w x : Nat) : Int) = x % 2 ^ w := Int.toNat_of_nonneg hr0
  have hlt : raw w x < 2 ^ w := by zify; omega
  have hsum : (x + 2 ^ (w - 1)) % 2 ^ w = (x % 2 ^ w + 2 ^ (w - 1)) % 2 ^ w := (Int.emod_add_emod _ _ _).symm
  have hcast : (2 * raw w x < 2 ^ w) ↔ 2 * (x % 2 ^ w) < 2 ^ w := by
    rw [← hraw]
    norm_cast
  simp only [sgn, Nat.mod_eq_of_lt hlt, hcast, hraw, hsum]
  generalize x % 2 ^ w = r at *
  split
  next hlow =>
    rw [Int.emod_eq_of_lt (by omega) (by omega)]
    omega
  next hhigh =>
    rw [← Int.sub_emod_right, Int.emod_eq_of_lt (by omega) (by omega)]
    omega

/-- The value inside its range is the value, whether clamped or wrapped. -/
theorem fitted_inside {w : Nat} (hw : 0 < w) (s : Bool) {num : Int} {drop : Nat} (h : fitsIn w num drop = true) :
    fitted w s num drop = num / 2 ^ drop := by
  simp only [fitsIn, Bool.and_eq_true, decide_eq_true_eq] at h
  obtain ⟨hlo, hhi⟩ := h
  have hdrop : (0 : Int) < 2 ^ drop := by positivity
  have hlow : -(2 ^ (w - 1)) ≤ num / 2 ^ drop := (Int.le_ediv_iff_mul_le hdrop).mpr hlo
  have hhigh : num / 2 ^ drop ≤ 2 ^ (w - 1) - 1 := (Int.ediv_le_ediv hdrop hhi).trans_eq (Int.mul_ediv_cancel _ hdrop.ne')
  have hpow := two_pow_pred hw
  unfold fitted
  cases s with
  | true => rw [if_pos rfl, min_eq_right hhigh, max_eq_right hlow]
  | false =>
    rw [if_neg Bool.false_ne_true, Int.emod_eq_of_lt (by omega) (by omega)]
    omega

/-- A value outside its range is clamped to the end on its side. -/
theorem fitted_clamped {w : Nat} {num : Int} {drop : Nat} (h : fitsIn w num drop = false) :
    fitted w true num drop = if 0 < num then 2 ^ (w - 1) - 1 else -(2 ^ (w - 1)) := by
  have hdrop : (0 : Int) < 2 ^ drop := by positivity
  have hhalf : (0 : Int) < 2 ^ (w - 1) := by positivity
  have hspan : -(2 ^ (w - 1) : Int) ≤ 2 ^ (w - 1) - 1 := by omega
  rw [fitted, if_pos rfl]
  rw [fitsIn, Bool.and_eq_false_iff, decide_eq_false_iff_not, decide_eq_false_iff_not, not_le, not_le] at h
  by_cases hpos : 0 < num
  · have hlo : -(2 ^ (w - 1)) * 2 ^ drop ≤ num := (mul_nonpos_of_nonpos_of_nonneg (by omega) hdrop.le).trans hpos.le
    have hhi : (2 ^ (w - 1) - 1) * 2 ^ drop < num := h.resolve_left (not_lt.mpr hlo)
    rw [if_pos hpos, min_eq_left ((Int.le_ediv_iff_mul_le hdrop).mpr hhi.le), max_eq_right hspan]
  · have hhi : num ≤ (2 ^ (w - 1) - 1) * 2 ^ drop := (not_lt.mp hpos).trans (mul_nonneg (by omega) hdrop.le)
    have hdiv : num / 2 ^ drop < -(2 ^ (w - 1)) := (Int.ediv_lt_iff_lt_mul hdrop).mpr (h.resolve_right (not_lt.mpr hhi))
    rw [if_neg hpos, max_eq_left ((min_le_right _ _).trans hdiv.le)]

/-- The model's fitting gives the fitted value and tells where it lay outside. -/
theorem fit_eq {w : Nat} (hw : 0 < w) (s : Bool) (num : Int) (drop : Nat) : fit w s num drop = (fitted w s num drop, !fitsIn w num drop) := by
  have hinside : (decide (-(2 ^ (w - 1)) * 2 ^ drop ≤ num) && decide (num ≤ (2 ^ (w - 1) - 1) * 2 ^ drop)) = fitsIn w num drop := rfl
  simp only [fit, hinside]
  cases hfits : fitsIn w num drop with
  | true => simp [fitted_inside hw s hfits, sra]
  | false =>
    cases s with
    | true => simp [fitted_clamped hfits]
    | false => simp [fitted, sgn_raw hw, sra]

theorem flagsZN_eq (v : Int) : flagsZN v = (if v = 0 then 1 else 0) + (if v < 0 then 2 else 0) := by
  by_cases hzero : v = 0 <;> by_cases hneg : v < 0 <;> simp [flagsZN, b2n, hzero, hneg]

theorem wrZNV_eq (v : Int) (inside : Bool) : wrZNV (v, !inside) = flagsOf v inside := by
  cases inside <;> simp [wrZNV, flagsOf, flagsZN_eq]

/-! ## Answers of an instruction -/

section
variable {s : State} {f l : Fin 8} {p : Pass} {word : Nat} {act : Lane → Bank → Pass → Act} {a : Act} {c : Instr}

/-- An instruction that cannot be issued faults the context. -/
theorem Stands.answers_faulted (h : Stands s f l p word) (hword : word < 256 ^ 8) (hexec : exec c s = s.onBothH (fun y => laneIssue y f l word act))
    (ha : act (s.dev.lane f l) (s.bankAt f l p) (s.passAt f l p) = a)
    {detail : Nat} (hissue : a.issue (s.dev.fresh, s.mem) f l (s.bankAt f l p) (s.passAt f l p) =
      (s.dev.fresh.contextFault f l (s.passAt f l p) detail, s.mem)) : Answers c s (fun t => s.Faulted t f l p) := by
  refine answers_onBothH _ hexec ?_
  rw [h.issue hword ha, hissue]
  exact h.faulted detail

/-- An instruction whose load, stack and store are good is issued, or faults the context where PC would stand past the code. -/
theorem Stands.answers_goes (h : Stands s f l p word) (hword : word < 256 ^ 8) (hexec : exec c s = s.onBothH (fun y => laneIssue y f l word act))
    (ha : act (s.dev.lane f l) (s.bankAt f l p) (s.passAt f l p) = a)
    {v : Nat} {st : List Nat} (hload : a.loaded (s.dev.fresh, s.mem) f l (s.passAt f l p) = (.ok v, (s.dev.fresh, s.mem)))
    (hstack : a.stackOn (s.bankAt f l p) = some st) (hstore : s.dev.fresh.badStore (s.passAt f l p) a.store = none) (hends : a.ends = false) :
    Answers c s (fun t => if a.pcAfter (s.bankAt f l p) p.rep < s.dev.codeLength p.domain then
      s.Issued t f l p (a.results v) (a.stored p.n) { s.bankAt f l p with pc := a.pcAfter (s.bankAt f l p) p.rep, stack := st }
        a.slots (a.repAfter p.rep)
    else s.Faulted t f l p) := by
  have hissue := h.issue hword ha
  refine answers_onBothH _ hexec ?_
  by_cases hpc : a.pcAfter (s.bankAt f l p) p.rep < s.dev.codeLength p.domain
  · have hgoes := hissue.trans (Act.issue_goes hload hstack hstore (by simpa using h.going)
      (.inl (by rw [passAt_rep, passAt_domain]; exact hpc)))
    simp only [if_pos hpc, hgoes]
    exact h.issued v st
  · have hpast := hissue.trans (Act.issue_past hload hstack hstore hends (by rw [passAt_rep, passAt_domain]; exact not_lt.mp hpc))
    simp only [if_neg hpc, hpast]
    exact faulted_contextFault (a.put_foldsOnly s f l _ _ v st) (congrArg Lane.run (h.lane_put v st)) (passAt_ctx s f l p) (passAt_startAt s f l p) _

/-- The same of an instruction whose next PC lies inside the code. -/
theorem Answers.issued {P Q : State → Prop} {q : Prop} [Decidable q] (h : Answers c s (fun t => if q then P t else Q t)) (hq : q) :
    Answers c s P := by
  simpa only [if_pos hq] using h

theorem Answers.faulted {P Q : State → Prop} {q : Prop} [Decidable q] (h : Answers c s (fun t => if q then P t else Q t)) (hq : ¬ q) :
    Answers c s Q := by
  simpa only [if_neg hq] using h

/-- An instruction that only produces results. -/
theorem Stands.answers_results (h : Stands s f l p word) (hword : word < 256 ^ 8) (hrep : p.rep = none)
    (hexec : exec c s = s.onBothH (fun y => laneIssue y f l word act))
    {wr : List Wr}
    (ha : act (s.dev.lane f l) (s.bankAt f l p) (s.passAt f l p) = { noAct with wr := wr }) :
    Answers c s (fun t => if (s.bankAt f l p).pc + 1 < s.dev.codeLength p.domain then
      s.Issued t f l p wr [] { s.bankAt f l p with pc := (s.bankAt f l p).pc + 1 } 1 none else s.Faulted t f l p) := by
  have hgoes := h.answers_goes hword hexec ha (Act.loaded_none rfl) rfl rfl rfl
  have hresults : Act.results { noAct with wr := wr } 0 = wr := by simp [Act.results, Act.loadWr, postWr, noAct]
  rw [hrep, hresults] at hgoes
  exact hgoes

end

end Sys2Proof.Machine
end

section
/-! SUPPORT. Loads and stores of a pass, immediates and moves between registers: the obligation (R295, R299, R300, R302, R308 to R312, R317). -/

set_option Elab.async false

namespace Sys2Proof.Machine

/-! ## Loads -/

/-- Bytes gathered one by one, the most significant first, give the value they hold. -/
theorem foldl_bytes {α : Type} (step : Except Nat Nat × α → Nat → Except Nat Nat × α) (x : α) (n v : Nat)
    (h : ∀ i < n, ∀ acc, step (.ok acc, x) i = (.ok (acc * 256 + v / 256 ^ (n - 1 - i) % 256), x)) :
    (List.range n).foldl step (.ok 0, x) = (.ok (v % 256 ^ n), x) := by
  have hprefix : ∀ m ≤ n, (List.range m).foldl step (.ok 0, x) = (.ok (v / 256 ^ (n - m) % 256 ^ m), x) := by
    intro m hm
    induction m with
    | zero => simp [Nat.mod_one]
    | succ m ih =>
      have hdigit : n - 1 - m = n - (m + 1) := by omega
      have hnext : v / 256 ^ (n - m) = v / 256 ^ (n - (m + 1)) / 256 := by
        rw [Nat.div_div_eq_div_mul, ← pow_succ, show n - (m + 1) + 1 = n - m by omega]
      rw [List.range_succ, List.foldl_append, ih (by omega), List.foldl_cons, List.foldl_nil, h m (by omega), hdigit, hnext, pow_succ',
        Nat.mod_mul, Nat.add_comm, Nat.mul_comm]
  simpa using hprefix n le_rfl

section
variable {x : DM} {f l : Nat} {q : Pass} {addr v : Nat} {wide : Bool}

/-- The bytes of a word that a load leaves out: the first for a D register. -/
def skipped (wide : Bool) : Nat := if wide then 0 else 1

theorem loadWord_mbox (hlo : 0x10000 ≤ addr) (hhi : addr ≤ 0x103FF) :
    loadWord x f l q addr wide = (.ok (if wide then x.1.mboxRead q (addr - 0x10000) else x.1.mboxRead q (addr - 0x10000) % 2 ^ 24), x) := by
  simp only [loadWord, if_pos (And.intro hlo hhi)]

/-- A word of the window, byte by byte, each from where the pass finds it. -/
theorem loadWord_window (hlo : addr < 0x10000) (hin : addr < x.1.ctxWords q.domain) (hv : v < 256 ^ (4 - skipped wide))
    (h : ∀ i < 4 - skipped wide, ∀ acc, (match q.shadow.find? (fun e => e.1 == 4 * addr + skipped wide + i) with
      | some e => (Except.ok (acc * 256 + e.2), x)
      | none => readWord (8 * f + l) x (foldByte f (4 * tget (fun _ => 0) (x.1.fold f).windows q.ctx + (4 * addr + skipped wide + i)))
          (4 * addr + skipped wide + i) 1 acc) = (.ok (acc * 256 + v / 256 ^ (4 - skipped wide - 1 - i) % 256), x)) :
    loadWord x f l q addr wide = (.ok v, x) := by
  have hmbox : ¬ (0x10000 ≤ addr ∧ addr ≤ 0x103FF) := by omega
  have hbytes := foldl_bytes (α := DM) (fun acc i => match acc.1 with
      | .error _ => acc
      | .ok v => match q.shadow.find? (fun e => e.1 == 4 * addr + skipped wide + i) with
        | some e => (.ok (v * 256 + e.2), acc.2)
        | none => readWord (8 * f + l) acc.2 (foldByte f (4 * tget (fun _ => 0) (x.1.fold f).windows q.ctx + (4 * addr + skipped wide + i)))
            (4 * addr + skipped wide + i) 1 v) x (4 - skipped wide) v h
  rw [Nat.mod_eq_of_lt hv] at hbytes
  simp only [loadWord, if_neg hmbox, if_pos hin]
  exact hbytes

/-- Bytes the pass itself has stored. -/
theorem loadWord_shadow (hlo : addr < 0x10000) (hin : addr < x.1.ctxWords q.domain) (hv : v < 256 ^ (4 - skipped wide))
    (h : ∀ i < 4 - skipped wide, q.shadow.find? (fun y => y.1 == 4 * addr + skipped wide + i) =
      some (4 * addr + skipped wide + i, v / 256 ^ (4 - skipped wide - 1 - i) % 256)) : loadWord x f l q addr wide = (.ok v, x) :=
  loadWord_window hlo hin hv fun i hi acc => by rw [h i hi]

/-- Good bytes of the context SRAM under no store of the pass. -/
theorem loadWord_sram (hlo : addr < 0x10000) (hin : addr < x.1.ctxWords q.domain) (hv : v < 256 ^ (4 - skipped wide))
    (hfree : ∀ y ∈ q.shadow, y.1 / 4 ≠ addr)
    (h : ∀ i < 4 - skipped wide, x.2.Holds (foldByte f (4 * tget (fun _ => 0) (x.1.fold f).windows q.ctx + (4 * addr + skipped wide + i))) 1
      (v / 256 ^ (4 - skipped wide - 1 - i))) : loadWord x f l q addr wide = (.ok v, x) := by
  refine loadWord_window hlo hin hv fun i hi acc => ?_
  have hnone : q.shadow.find? (fun e => e.1 == 4 * addr + skipped wide + i) = none := by
    have hskip : skipped wide ≤ 1 := by cases wide <;> decide
    refine List.find?_eq_none.mpr fun y hy => ?_
    have hy' := hfree y hy
    simp only [beq_iff_eq]
    omega
  rw [hnone]
  exact (readWord_good _ _ acc (h i hi)).trans (by rw [pow_one])

theorem loadWord_shared (hlo : 0x18000 ≤ addr) (hin : addr < 0x18000 + x.1.sharedWords q.domain) (hout : x.1.ctxWords q.domain ≤ addr)
    (hv : v < 256 ^ (4 - skipped wide))
    (h : x.2.Holds (foldByte f (4 * tget (fun _ => 0) (x.1.fold f).shared q.domain + 4 * (addr - 0x18000) + skipped wide)) (4 - skipped wide) v) :
    loadWord x f l q addr wide = (.ok v, x) := by
  have hmbox : ¬ (0x10000 ≤ addr ∧ addr ≤ 0x103FF) := by omega
  have hread := readWord_good (8 * f + l) (4 * addr + skipped wide) 0 h
  rw [Nat.mod_eq_of_lt hv, Nat.zero_mul, Nat.zero_add] at hread
  simp only [loadWord, if_neg hmbox, if_neg (not_lt.mpr hout), if_pos (And.intro hlo hin)]
  exact hread

theorem loadWord_outside (hout : x.1.ctxWords q.domain ≤ addr)
    (h : addr < 0x10000 ∨ (0x103FF < addr ∧ addr < 0x18000) ∨ 0x18000 + x.1.sharedWords q.domain ≤ addr) :
    loadWord x f l q addr wide = (.error (4 * addr), x) := by
  have hmbox : ¬ (0x10000 ≤ addr ∧ addr ≤ 0x103FF) := by omega
  have hshared : ¬ (0x18000 ≤ addr ∧ addr < 0x18000 + x.1.sharedWords q.domain) := by omega
  simp only [loadWord, if_neg hmbox, if_neg (not_lt.mpr hout), if_neg hshared]

/-! ## Stores -/

/-- Where a store may go, and how many words it may add. -/
theorem badStore_eq_none_iff {d : Dev} : d.badStore q (some (addr, wide, v)) = none ↔
    (addr < d.ctxWords q.domain ∨ (0x10000 ≤ addr ∧ addr ≤ 0x103FF)) ∧ (addr < 0x10000 → addr ∈ q.words ∨ q.words.length < 256) := by
  have hmay : d.mayStore q addr = true ↔ addr < d.ctxWords q.domain ∨ (0x10000 ≤ addr ∧ addr ≤ 0x103FF) := by simp [Dev.mayStore]
  rw [← hmay]
  by_cases h : d.mayStore q addr = true
  · simp [Dev.badStore, h, or_iff_not_imp_left]
  · simp [Dev.badStore, h]

end

/-! ## Their answers -/

section
variable {s : State} {f l : Fin 8} {p : Pass} {word : Nat} {c : Instr}

theorem Stands.answers_load (h : Stands s f l p word) (hword : word < 256 ^ 8) (hrep : p.rep = none)
    (hgo : (s.bankAt f l p).pc + 1 < s.dev.codeLength p.domain) {reg : LReg} {addr : Bank → Nat} {wide : Bool} {post : Bank → Option (Nat × Nat)}
    (hexec : exec c s = s.onBothH (fun y => laneIssue y f l word fun _ b _ => { noAct with load := some (reg, addr b, wide), post := post b }))
    {v : Nat} (hload : loadWord (s.dev.fresh, s.mem) f l (s.passAt f l p) (addr (s.bankAt f l p)) wide = (.ok v, (s.dev.fresh, s.mem))) :
    Answers c s (fun t => s.Issued t f l p
      ([{ reg := reg, val := (if wide then sgn 32 v else v : Int), dist := 3, early := false }] ++ postWr (post (s.bankAt f l p))) []
      { s.bankAt f l p with pc := (s.bankAt f l p).pc + 1 } 1 none) := by
  have hgoes := h.answers_goes hword hexec rfl ((Act.loaded_some rfl).trans hload) rfl rfl rfl
  rw [hrep] at hgoes
  exact hgoes.issued hgo

theorem Stands.answers_badLoad (h : Stands s f l p word) (hword : word < 256 ^ 8) {reg : LReg} {addr : Bank → Nat} {wide : Bool}
    {post : Bank → Option (Nat × Nat)}
    (hexec : exec c s = s.onBothH (fun y => laneIssue y f l word fun _ b _ => { noAct with load := some (reg, addr b, wide), post := post b }))
    {off : Nat} (hload : loadWord (s.dev.fresh, s.mem) f l (s.passAt f l p) (addr (s.bankAt f l p)) wide = (.error off, (s.dev.fresh, s.mem))) :
    Answers c s (fun t => s.Faulted t f l p) :=
  h.answers_faulted hword hexec rfl (Act.issue_badLoad ((Act.loaded_some rfl).trans hload) rfl)

theorem Stands.answers_store (h : Stands s f l p word) (hword : word < 256 ^ 8) (hrep : p.rep = none)
    (hgo : (s.bankAt f l p).pc + 1 < s.dev.codeLength p.domain) {addr v : Bank → Nat} {wide : Bool} {post : Bank → Option (Nat × Nat)}
    (hexec : exec c s = s.onBothH (fun y => laneIssue y f l word fun _ b _ => { noAct with store := some (addr b, wide, v b), post := post b }))
    (hstore : s.dev.badStore (s.passAt f l p) (some (addr (s.bankAt f l p), wide, v (s.bankAt f l p))) = none) :
    Answers c s (fun t => s.Issued t f l p (postWr (post (s.bankAt f l p))) (storeFlights p.n (addr (s.bankAt f l p)) wide (v (s.bankAt f l p)))
      { s.bankAt f l p with pc := (s.bankAt f l p).pc + 1 } 1 none) := by
  have hgoes := h.answers_goes hword hexec rfl (Act.loaded_none rfl) rfl hstore rfl
  rw [hrep] at hgoes
  exact hgoes.issued hgo

theorem Stands.answers_badStore (h : Stands s f l p word) (hword : word < 256 ^ 8) {addr v : Bank → Nat} {wide : Bool}
    {post : Bank → Option (Nat × Nat)}
    (hexec : exec c s = s.onBothH (fun y => laneIssue y f l word fun _ b _ => { noAct with store := some (addr b, wide, v b), post := post b }))
    (hstore : s.dev.badStore (s.passAt f l p) (some (addr (s.bankAt f l p), wide, v (s.bankAt f l p))) ≠ none) :
    Answers c s (fun t => s.Faulted t f l p) := by
  obtain ⟨detail, hdetail⟩ := Option.ne_none_iff_exists'.mp hstore
  exact h.answers_faulted hword hexec rfl (Act.issue_badStore (Act.loaded_none rfl) rfl hdetail)

end

/-! ## Immediates -/

theorem wr6_p {c : Nat} (v : Nat) (h : 24 ≤ c ∧ c < 32) : wr6 c v = [{ reg := .p (c - 24), val := v, dist := 2, early := false }] := by
  have hd : ¬ c < 16 := by omega
  simp only [wr6, if_neg hd, if_pos h]

/-- Settles O52: every instruction's issue is followed from its word to its answer; loads and stores turn on where their address lies. -/
theorem laneMovesLoadAndStore : Obligations.LaneMovesLoadAndStore := by
  unfold Obligations.LaneMovesLoadAndStore
  refine ⟨?immediates, ?movx, ?memory⟩
  case immediates =>
    intro e he s f l x p hstands hrep
    simp only [List.mem_cons, List.not_mem_nil, or_false] at he
    rcases he with rfl | rfl | rfl
    · exact hstands.answers_results (wordI_lt (by decide) x) hrep rfl rfl
    · refine hstands.answers_results (wordI_lt (by decide) x) hrep rfl ?_
      dsimp only
      split
      next hp => rw [wr6_p _ hp]
      next => rw [fit_eq (by decide), wrZNV_eq]
    · refine hstands.answers_results (wordI_lt (by decide) x) hrep rfl ?_
      dsimp only
      rw [flagsZN_eq]
  case movx =>
    intro s f l x p hstands hrep
    exact hstands.answers_results (wordX_lt (by decide) x) hrep rfl rfl
  case memory =>
    intro addrM addrB post
    refine ⟨fun e he s f l x p hstands hrep hgo => ?loads, fun e he s f l x p hstands hrep hgo => ?stores⟩
    case loads =>
      intro wide b q addr k own shared loaded
      obtain ⟨hop, hexec⟩ : e.2.1 < 64 ∧ exec (e.1 f l x) s = s.onBothH (fun y => laneIssue y f l (wordM e.2.1 x) fun _ b _ =>
          { noAct with load := some (if wide then .a (x.reg.toNat - 16) else .d x.reg.toNat, e.2.2.2.2 x b, wide)
                       post := if e.2.2.2.1 then b.postUpdate x.pp x.pm x.upd else none }) := by
        simp only [List.mem_cons, List.not_mem_nil, or_false] at he
        rcases he with rfl | rfl | rfl | rfl
        all_goals exact ⟨by decide, rfl⟩
      have hok : ∀ v, loadWord (s.dev.fresh, s.mem) f l q addr wide = (.ok v, (s.dev.fresh, s.mem)) → loaded v := fun v hload =>
        hstands.answers_load (wordM_lt hop x) hrep hgo hexec hload
      have hdom : q.domain = p.domain := passAt_domain s f l p
      have hctx : q.ctx = p.ctx := passAt_ctx s f l p
      have hplace : ∀ i, 4 - k - 1 - i = 3 - k - i := fun i => by omega
      refine ⟨fun hlo hhi => ?mailbox, fun v hv hlo hin hshadow => ?shadow, fun v hv hlo hin hfree hgood => ?sram,
        fun v hv hlo hin hout hgood => ?shared, fun hout hrange => ?outside⟩
      case mailbox =>
        refine hok _ ((loadWord_mbox hlo hhi).trans ?_)
        rw [mboxRead_fresh]
      case shadow =>
        refine hok v (loadWord_shadow hlo (by rw [hdom]; exact hin) hv fun i hi => ?_)
        have hbyte := hshadow i hi
        rw [← hplace] at hbyte
        exact hbyte
      case sram =>
        refine hok v (loadWord_sram hlo (by rw [hdom]; exact hin) hv hfree fun i hi => Mem.holds_one ?_)
        have hbyte := hgood i hi
        rw [← hplace] at hbyte
        rw [hctx]
        exact hbyte
      case shared =>
        refine hok v (loadWord_shared hlo (by rw [hdom]; exact hin) (by rw [hdom]; exact hout) hv fun i hi => ?_)
        have hbyte := hgood i hi
        rw [← hplace] at hbyte
        rw [hdom]
        exact hbyte
      case outside =>
        exact hstands.answers_badLoad (wordM_lt hop x) hexec (loadWord_outside (by rw [hdom]; exact hout) (by rw [hdom]; exact hrange))
    case stores =>
      intro b q addr may
      obtain ⟨hop, hexec⟩ : e.2.1 < 64 ∧ exec (e.1 f l x) s = s.onBothH (fun y => laneIssue y f l (wordM e.2.1 x) fun _ b _ =>
          { noAct with store := some (e.2.2.2.2 x b, e.2.2.1, if e.2.2.1 then raw 32 (b.ra x.reg) else raw 24 (b.rd x.reg))
                       post := if e.2.2.2.1 then b.postUpdate x.pp x.pm x.upd else none }) := by
        simp only [List.mem_cons, List.not_mem_nil, or_false] at he
        rcases he with rfl | rfl | rfl | rfl
        all_goals exact ⟨by decide, rfl⟩
      have hdom : q.domain = p.domain := passAt_domain s f l p
      refine ⟨fun hmay => ?good, fun hsize hmay => ?bad⟩
      case good =>
        refine hstands.answers_store (wordM_lt hop x) hrep hgo hexec (badStore_eq_none_iff.mpr ?_)
        rw [passAt_domain]
        exact ⟨hmay.elim .inr fun h => .inl h.2.1, fun hlo => hmay.elim (fun h => absurd h.1 (not_le.mpr hlo)) fun h => h.2.2⟩
      case bad =>
        refine hstands.answers_badStore (wordM_lt hop x) hexec fun hnone => hmay ?_
        obtain ⟨hplace, hwords⟩ := badStore_eq_none_iff.mp hnone
        rw [passAt_domain] at hplace
        rcases hplace with hin | hmbox
        · have hlo : addr < 0x10000 := hin.trans_le hsize
          exact .inr ⟨hlo, hin, hwords hlo⟩
        · exact .inl hmbox

end Sys2Proof.Machine
end

section
/-! SUPPORT. What the end of a pass and the commit of its results leave (R238, R311, R313). -/

set_option Elab.async false

namespace Sys2Proof.Machine

/-! ## Changes no object shows -/

/-- e shows what d shows: the objects, the DOMAIN values and what is still to be reported are the same. -/
structure Unshown (d e : Dev) : Prop where
  dict : e.dict = d.dict
  blobs : e.blobs = d.blobs
  ctl : e.ctl = d.ctl
  drops : e.drops = d.drops

theorem Unshown.trans {d e g : Dev} (h : Unshown d e) (h' : Unshown e g) : Unshown d g :=
  ⟨h'.dict.trans h.dict, h'.blobs.trans h.blobs, h'.ctl.trans h.ctl, h'.drops.trans h.drops⟩

theorem unshown_updLane (d : Dev) (f l : Nat) (g : Lane → Lane) : Unshown d (d.updLane f l g) := ⟨rfl, rfl, rfl, rfl⟩

theorem unshown_updAxis (d : Dev) (c : Nat) (g : Axis → Axis) : Unshown d (d.updAxis c g) := ⟨rfl, rfl, rfl, rfl⟩

/-- A command that ends in such a change decides nothing and reports nothing. -/
theorem Unshown.ends {s : State} {e : Dev} (h : Unshown s.dev.fresh e) : e.holdDecide.settle = e := by
  rw [holdDecide_none e (by rw [h.ctl]; rfl), settle_none e h.drops]

theorem Unshown.same {s : State} {e : Dev} (h : Unshown s.dev.fresh e) : s.Same { s with dev := e } :=
  ⟨fun k => congrArg (fun t => tget defaultOf t k) h.dict, fun k => congrArg (fun t => tget (fun _ => []) t k) h.blobs, rfl, rfl⟩

/-! ## Commits -/

/-- The folds, the number of axes and the device control of d stand in e. -/
structure Keeps (d e : Dev) : Prop where
  folds : e.folds = d.folds
  axes : e.axes.length = d.axes.length
  ctl : e.ctl = d.ctl

theorem Keeps.trans {d e g : Dev} (h : Keeps d e) (h' : Keeps e g) : Keeps d g :=
  ⟨h'.folds.trans h.folds, h'.axes.trans h.axes, h'.ctl.trans h.ctl⟩

theorem Keeps.lane {d e : Dev} (h : Keeps d e) (f l : Nat) : e.lane f l = d.lane f l := by rw [Dev.lane, Dev.lane, Dev.fold, Dev.fold, h.folds]

theorem keeps_updAxis (d : Dev) (c : Nat) (g : Axis → Axis) : Keeps d (d.updAxis c g) := ⟨rfl, upd_length _ _ _, rfl⟩

theorem keeps_noteCommit (d : Dev) (c : Nat) : Keeps d (d.noteCommit c) := by
  unfold Dev.noteCommit
  dsimp only
  split
  · exact ⟨rfl, upd_length _ _ _, rfl⟩
  · exact keeps_updAxis d c _

theorem unshown_noteCommit (d : Dev) (c : Nat) : Unshown d (d.noteCommit c) := by
  unfold Dev.noteCommit
  dsimp only
  split
  · exact ⟨rfl, rfl, rfl, rfl⟩
  · exact unshown_updAxis d c _

/-- A commit is done with its context's full pass. -/
theorem noteCommit_full {d : Dev} {c : Nat} (hc : c < d.axes.length) : ((d.noteCommit c).axis c).work.full = 3 := by
  have haxis := axis_updAxis (fun a => { a with commitAt := some (d.now - d.cyc.startAt), work := { a.work with full := 3 }, miss := 0 }) hc
  refine (congrArg (fun a : Axis => a.work.full) (Eq.trans ?_ haxis)).trans rfl
  unfold Dev.noteCommit
  dsimp only
  split
  · rfl
  · rfl

/-- The words of a customer's commit in its window (R238). -/
def Dev.windowPut (d : Dev) (f c : Nat) (stores : List (Nat × Nat)) (m : Mem) : Mem :=
  stores.foldl (fun (m : Mem) e => m.put (foldByte f (4 * tget (fun _ => 0) (d.fold f).windows c + e.1)) e.2) m

/-- A customer's commit puts its stores into the window; of the block it changes what no object shows. -/
theorem commitCode_leaves (x : DM) (f c : Nat) (stores mbox : List (Nat × Nat)) : ∃ e, Keeps x.1 e ∧ Unshown x.1 e ∧
    commitCode x f c stores mbox = (e.noteCommit c, x.1.windowPut f c stores x.2) := by
  unfold commitCode
  extract_lets d base m o w out pub axes legWords legs put pair noted
  refine ⟨noted, ?_, ?_, rfl⟩
  · have hput : Keeps d put := by
      unfold put
      split
      · exact ⟨rfl, upd_length _ _ _, rfl⟩
      · exact ⟨rfl, upd_length _ _ _, rfl⟩
    unfold noted
    split
    · exact hput.trans ⟨rfl, rfl, rfl⟩
    · exact hput
  · have hput : Unshown d put := by
      unfold put
      split
      · exact ⟨rfl, rfl, rfl, rfl⟩
      · exact ⟨rfl, rfl, rfl, rfl⟩
    unfold noted
    split
    · exact hput.trans ⟨rfl, rfl, rfl, rfl⟩
    · exact hput

theorem commitServo_leaves (d : Dev) (c : Nat) (st : Servo) (out : Outputs) (pub : List (Nat × Nat)) (rc : Option (Nat × Int)) :
    ∃ e, Keeps d e ∧ d.commitServo c st out pub rc = e.noteCommit c := by
  unfold Dev.commitServo
  extract_lets axes learned shown
  refine ⟨shown, ?_, rfl⟩
  have haxes : Keeps d axes := keeps_updAxis d c _
  have hlearned : Keeps axes learned := by
    unfold learned Dev.notePair
    split
    · split
      · exact ⟨rfl, rfl, rfl⟩
      · exact ⟨rfl, rfl, rfl⟩
    · exact ⟨rfl, rfl, rfl⟩
  have hshown : Keeps learned shown := by
    unfold shown
    split
    · exact ⟨rfl, rfl, rfl⟩
    · exact ⟨rfl, rfl, rfl⟩
  exact haxes.trans (hlearned.trans hshown)

/-! ## The end of a pass -/

/-- A landing without stores in flight leaves the shadow and the mailbox copy. -/
theorem land_no_stores {d : Dev} (b : Bank) {p : Pass} (n : Nat) (h : p.stores = []) :
    (d.land b p n).2.shadow = p.shadow ∧ (d.land b p n).2.mbox = p.mbox := by simp [Dev.land, h]

/-- A lane whose pass has ended: its results land in its bank, and it changes banks. -/
def Dev.leaveLane (d : Dev) (f l : Nat) (p : Pass) : Dev :=
  d.updLane f l fun y => { y.setBank (d.land (d.lane f l).bank p (p.n + 4)).1 with run := none, t0 := none, t1 := none, cur := 1 - y.cur }

theorem leaveLane_run {d : Dev} {f l : Nat} {p q : Pass} (h : (d.lane f l).run = some q) : ((d.leaveLane f l p).lane f l).run = none := by
  obtain ⟨hf, hl⟩ := lane_exists h
  rw [Dev.leaveLane, lane_updLane hf hl]

/-- What a pass hands over at its END. -/
def Dev.passResult (d : Dev) (f l : Nat) (p : Pass) : PassResult :=
  match p.domain with
  | 0 => (d.leaveLane f l p).servoPass p.ctx ((d.leaveLane f l p).servoIn p.ctx (((d.leaveLane f l p).axis p.ctx).passFb p.kind))
  | 1 => (d.leaveLane f l p).gridPass (d.leaveLane f l p).gf
  | _ => .code (d.land (d.lane f l).bank p (p.n + 4)).2.shadow (d.land (d.lane f l).bank p (p.n + 4)).2.mbox

variable {x : DM} {f l : Nat} {p : Pass}

theorem unshown_leaveLane (d : Dev) (f l : Nat) (p : Pass) : Unshown d (d.leaveLane f l p) := unshown_updLane d f l _

/-- The END of a skim pass keeps its results for the set pass. -/
theorem endPass_skim (h : p.kind = 1) : ∃ g, Keeps (x.1.leaveLane f l p) g ∧ Unshown x.1 g ∧ (p.ctx < x.1.axes.length →
    (g.axis p.ctx).work.skim = 3 ∧ (g.axis p.ctx).skim = some (x.1.passResult f l p)) ∧ endPass x f l p = (g, x.2) := by
  refine ⟨(x.1.leaveLane f l p).updAxis p.ctx (fun a => 
      { a.counted1 0 with skim := some (x.1.passResult f l p), work := { a.work with skim := 3 } }),
    keeps_updAxis _ _ _, (unshown_leaveLane _ _ _ _).trans (unshown_updAxis _ _ _), fun hc => ?_, ?_⟩
  · rw [axis_updAxis (d := x.1.leaveLane f l p) _ hc]
    exact ⟨rfl, rfl⟩
  · unfold endPass
    simp only [if_pos h]
    rfl

/-- The END of another pass commits its results; a recomputation is noted. -/
theorem endPass_commit (h : p.kind ≠ 1) : endPass x f l p =
    if p.kind = 2 then
      ((commitResult (x.1.leaveLane f l p, x.2) f p.ctx (x.1.passResult f l p)).1.updAxis p.ctx (fun a => { a with recomputed := true }),
        (commitResult (x.1.leaveLane f l p, x.2) f p.ctx (x.1.passResult f l p)).2)
    else commitResult (x.1.leaveLane f l p, x.2) f p.ctx (x.1.passResult f l p) := by
  unfold endPass
  simp only [if_neg h]
  rfl

/-- A pass that commits leaves its lane, and its context's full pass is done. -/
theorem endPass_of_commit (h : p.kind ≠ 1) {e : Dev} {m : Mem} (he : Keeps (x.1.leaveLane f l p) e)
    (hcommit : commitResult (x.1.leaveLane f l p, x.2) f p.ctx (x.1.passResult f l p) = (e.noteCommit p.ctx, m)) :
    ∃ g, Keeps (x.1.leaveLane f l p) g ∧ Unshown e g ∧ (p.ctx < x.1.axes.length → (g.axis p.ctx).work.full = 3) ∧
      endPass x f l p = (g, m) := by
  have hnoted := he.trans (keeps_noteCommit e p.ctx)
  have hfull : p.ctx < x.1.axes.length → ((e.noteCommit p.ctx).axis p.ctx).work.full = 3 := fun hc =>
    noteCommit_full (by rw [he.axes]; exact hc)
  rw [endPass_commit h, hcommit]
  by_cases hkind : p.kind = 2
  · rw [if_pos hkind]
    refine ⟨_, hnoted.trans (keeps_updAxis _ _ _), (unshown_noteCommit e p.ctx).trans (unshown_updAxis _ _ _), fun hc => ?_, rfl⟩
    rw [axis_updAxis _ (by rw [hnoted.axes]; exact hc)]
    exact hfull hc
  · rw [if_neg hkind]
    exact ⟨_, hnoted, unshown_noteCommit e p.ctx, hfull, rfl⟩

/-- A pass of a customer domain with every store landed hands over its shadow and its mailbox copy. -/
theorem passResult_code {d : Dev} (hdom : 2 ≤ p.domain) (hstores : p.stores = []) : d.passResult f l p = .code p.shadow p.mbox := by
  obtain ⟨hshadow, hmbox⟩ := land_no_stores (d := d) (d.lane f l).bank (p.n + 4) hstores
  obtain ⟨k, hk⟩ : ∃ k, p.domain = k + 2 := ⟨p.domain - 2, by omega⟩
  simp only [Dev.passResult, hk, hshadow, hmbox]

theorem windowPut_updLane {d : Dev} (hf : f < d.folds.length) (j : Nat) (g : Lane → Lane) :
    (d.updLane f j g).windowPut f = d.windowPut f := by
  funext c stores m
  simp only [Dev.windowPut, fold_updLane hf]

/-- The END of a customer's full pass: its stores stand in the window. -/
theorem endPass_code (hf : f < x.1.folds.length) (hkind : p.kind ≠ 1) (hdom : 2 ≤ p.domain) (hstores : p.stores = []) :
    ∃ g, Keeps (x.1.leaveLane f l p) g ∧ Unshown x.1 g ∧ (p.ctx < x.1.axes.length → (g.axis p.ctx).work.full = 3) ∧
      endPass x f l p = (g, x.1.windowPut f p.ctx p.shadow x.2) := by
  obtain ⟨e, hkeeps, hunshown, hcommit⟩ := commitCode_leaves (x.1.leaveLane f l p, x.2) f p.ctx p.shadow p.mbox
  obtain ⟨g, hg, hshown, hfull, hend⟩ := endPass_of_commit (x := x) (l := l) hkind hkeeps (by rw [passResult_code hdom hstores]; exact hcommit)
  refine ⟨g, hg, ((unshown_leaveLane _ _ _ _).trans hunshown).trans hshown, hfull, hend.trans ?_⟩
  dsimp only
  rw [Dev.leaveLane, windowPut_updLane hf]

/-- The END of a servo pass that commits. -/
theorem endPass_servo (hkind : p.kind ≠ 1) (hdom : p.domain = 0) :
    ∃ g, Keeps (x.1.leaveLane f l p) g ∧ (p.ctx < x.1.axes.length → (g.axis p.ctx).work.full = 3) ∧ endPass x f l p = (g, x.2) := by
  obtain ⟨st, out, pub, rc, br, hresult⟩ : ∃ st out pub rc br, x.1.passResult f l p = .servo st out pub rc br := by
    simp only [Dev.passResult, hdom]
    exact ⟨_, _, _, _, _, rfl⟩
  obtain ⟨e, hkeeps, hcommit⟩ := commitServo_leaves (x.1.leaveLane f l p) p.ctx st out pub rc
  obtain ⟨g, hg, -, hfull, hend⟩ := endPass_of_commit (x := x) hkind hkeeps (by rw [hresult, commitResult, hcommit])
  exact ⟨g, hg, hfull, hend⟩

end Sys2Proof.Machine
end

section
/-! SUPPORT. Branches, calls, returns, repetition, END and the transcendental unit: the obligation (R300, R301, R303 to R306, R311, R314,
R315). -/

set_option Elab.async false

namespace Sys2Proof.Machine

/-! ## Branches, calls, returns and repetition -/

theorem onBothH_congr {s : State} {F G : DM → DM} (h : F (s.dev.fresh, s.mem) = G (s.dev.fresh, s.mem)) : s.onBothH F = s.onBothH G := by
  simp only [State.onBothH, State.onBoth, h]

/-- A landing leaves PC and the return stack. -/
theorem bankAt_pc (s : State) (f l : Fin 8) (p : Pass) : (s.bankAt f l p).pc = (s.dev.lane f l).bank.pc := by
  have hwrite : ∀ (b : Bank) (r : LReg) (v : Int), (b.write r v).pc = b.pc := fun b r v => by cases r <;> rfl
  exact foldl_induct (fun b : Bank => b.pc = (s.dev.lane f l).bank.pc) _ _ _ (fun b w hb => (hwrite b w.reg w.val).trans hb) rfl

section
variable {s : State} {f l : Fin 8} {p : Pass} {word : Nat} {act : Lane → Bank → Pass → Act} {a : Act} {c : Instr}

/-- An instruction of format C or T outside REP, which neither loads nor stores. -/
theorem Stands.answers_flow (h : Stands s f l p word) (hword : word < 256 ^ 8) (hrep : p.rep = none)
    (hexec : exec c s = s.onBothH (fun y => laneIssue y f l word act)) (ha : act (s.dev.lane f l) (s.bankAt f l p) (s.passAt f l p) = a)
    (hload : a.load = none) (hpost : a.post = none) (hstore : a.store = none) (hends : a.ends = false) {st : List Nat}
    (hstack : a.stackOn (s.bankAt f l p) = some st) :
    Answers c s (fun t => if a.pcAfter (s.bankAt f l p) none < s.dev.codeLength p.domain then
      s.Issued t f l p a.wr [] { s.bankAt f l p with pc := a.pcAfter (s.bankAt f l p) none, stack := st } a.slots (a.repAfter none)
    else s.Faulted t f l p) := by
  have hgoes := h.answers_goes hword hexec ha (Act.loaded_none hload) hstack (by rw [hstore]; rfl) hends
  have hresults : a.results 0 = a.wr := by simp [Act.results, Act.loadWr, postWr, hload, hpost]
  have hstored : a.stored p.n = [] := by simp [Act.stored, hstore]
  rw [hrep, hresults, hstored] at hgoes
  exact hgoes

theorem Stands.answers_badStack (h : Stands s f l p word) (hword : word < 256 ^ 8)
    (hexec : exec c s = s.onBothH (fun y => laneIssue y f l word act)) (ha : act (s.dev.lane f l) (s.bankAt f l p) (s.passAt f l p) = a)
    (hload : a.load = none) (hstack : a.stackOn (s.bankAt f l p) = none) : Answers c s (fun t => s.Faulted t f l p) :=
  h.answers_faulted hword hexec ha (Act.issue_badStack (Act.loaded_none hload) hstack)

end

/-! ## NOP under REP -/

theorem pmove_none {x : FmtA} (h : x.pmove.kind.toNat = 0) (b : Bank) (a : Act) : b.pmove x a = a := by simp [Bank.pmove, h]

section
variable {s : State} {f l : Fin 8} {p : Pass} {k : Nat}

/-- PC and the repetitions after an instruction inside REP. -/
theorem pcAfter_rep (b : Bank) : noAct.pcAfter b (some k) = if 1 < k then b.pc else b.pc + 1 := by
  by_cases h : 1 < k
  · have hleft : k - 1 ≠ 0 := by omega
    simp [Act.pcAfter, noAct, repLeft, h, hleft]
  · have hleft : k - 1 = 0 := by omega
    simp [Act.pcAfter, noAct, repLeft, h, hleft]

theorem repAfter_rep : noAct.repAfter (some k) = if 1 < k then some (k - 1) else none := by
  by_cases h : 1 < k
  · have hleft : k - 1 ≠ 0 := by omega
    simp [Act.repAfter, repLeft, h, hleft]
  · have hleft : k - 1 = 0 := by omega
    simp [Act.repAfter, repLeft, h, hleft]

end

/-- PC and the repetitions after the REP that starts them. -/
theorem pcAfter_start (b : Bank) (n : Nat) (wr : List Wr) : Act.pcAfter { noAct with rep := some n, wr := wr } b none =
    if n = 0 then b.pc + 2 else b.pc + 1 := by cases n <;> rfl

theorem repAfter_start (n : Nat) (wr : List Wr) : Act.repAfter { noAct with rep := some n, wr := wr } none = if n = 0 then none else some n := by
  cases n <;> rfl

/-! ## END -/

section
variable {s : State} {f l : Fin 8} {p : Pass} {x : FmtC}

/-- The act of END. -/
def endAct : Act := { noAct with ends := true }

/-- The END of a customer pass is the end of the pass that has issued it. -/
theorem Stands.exec_end (h : Stands s f l p (wordC 0x34 x)) : exec (.endPass f l x) s = s.onBothH (fun _ =>
    endPass (endAct.put s.dev.fresh f l (s.bankAt f l p) (s.passAt f l p) 0 (s.bankAt f l p).stack, s.mem) f l
      (endAct.passAfter 0 (s.passAt f l p))) := by
  have hissue : laneIssue (s.dev.fresh, s.mem) f l (wordC 0x34 x) (fun _ _ _ => endAct) =
      (endAct.put s.dev.fresh f l (s.bankAt f l p) (s.passAt f l p) 0 (s.bankAt f l p).stack, s.mem) :=
    (h.issue (wordC_lt (by decide) x) rfl).trans
      (Act.issue_goes (Act.loaded_none rfl) rfl rfl (by rw [passAt_stop]; exact h.going) (.inr rfl))
  have hrun := congrArg Lane.run (h.lane_put (a := endAct) 0 (s.bankAt f l p).stack)
  have hn : (endAct.passAfter 0 (s.passAt f l p)).n ≠ p.n := by
    rw [Act.passAfter, passAt_n]
    exact (Nat.lt_succ_self p.n).ne'
  have hcomputed : s.dev.fresh.computes p.ctx = true := h.computed
  have hcustomer : ¬ p.domain < 2 := Nat.not_lt.mpr h.customer
  show execEnd f l x s = _
  unfold execEnd
  refine onBothH_congr ?_
  have hact : (fun (_ : Lane) (_ : Bank) (_ : Pass) => { noAct with ends := true }) = fun _ _ _ => endAct := rfl
  simp only [h.run_fresh, hcomputed, Bool.not_true, Bool.false_eq_true, if_false, hcustomer, hact, hissue, hrun, if_neg hn]

/-- The END of a customer pass that commits. -/
theorem Stands.answers_end (h : Stands s f l p (wordC 0x34 x)) (hstores : (s.passAt f l p).stores = []) (hkind : p.kind ≠ 1) :
    Answers (.endPass f l x) s (fun t => (t.dev.lane f l).run = none ∧ s.Same { t with mem := s.mem } ∧
      t.mem = s.dev.windowPut f p.ctx (s.passAt f l p).shadow s.mem ∧ (p.ctx < s.dev.axes.length → (t.dev.axis p.ctx).work.full = 3)) := by
  have hrun := congrArg Lane.run (h.lane_put (a := endAct) 0 (s.bankAt f l p).stack)
  obtain ⟨hf, -⟩ := lane_exists h.run_fresh
  obtain ⟨g, hkeeps, hunshown, hfull, hend⟩ := endPass_code
    (x := (endAct.put s.dev.fresh f l (s.bankAt f l p) (s.passAt f l p) 0 (s.bankAt f l p).stack, s.mem)) (f := f) (l := l)
    (p := endAct.passAfter 0 (s.passAt f l p)) (by simpa [Act.put, Dev.updLane] using hf) (by simpa [Act.passAfter] using hkind)
    (by simpa [Act.passAfter] using h.customer) (by simpa [Act.passAfter, Act.stored, endAct, noAct] using hstores)
  have hctx : (endAct.passAfter 0 (s.passAt f l p)).ctx = p.ctx := passAt_ctx s f l p
  have hshown : Unshown s.dev.fresh g := (unshown_updLane _ _ _ _).trans hunshown
  refine answers_onBothH _ h.exec_end ?_
  rw [hend]
  dsimp only
  rw [hshown.ends]
  refine ⟨?_, ⟨hshown.same.1, hshown.same.2.1, rfl, rfl⟩, ?_, ?_⟩
  · exact (congrArg Lane.run (hkeeps.lane f l)).trans (leaveLane_run hrun)
  · rw [hctx, Act.put, windowPut_updLane hf]
    rfl
  · rw [← hctx]
    exact hfull

/-- The END of a customer's skim pass. -/
theorem Stands.answers_endSkim (h : Stands s f l p (wordC 0x34 x)) (hstores : (s.passAt f l p).stores = []) (hkind : p.kind = 1) :
    Answers (.endPass f l x) s (fun t => (t.dev.lane f l).run = none ∧ s.Same t ∧ (p.ctx < s.dev.axes.length →
      (t.dev.axis p.ctx).work.skim = 3 ∧ (t.dev.axis p.ctx).skim = some (.code (s.passAt f l p).shadow (s.passAt f l p).mbox))) := by
  have hrun := congrArg Lane.run (h.lane_put (a := endAct) 0 (s.bankAt f l p).stack)
  obtain ⟨g, hkeeps, hunshown, hskim, hend⟩ := endPass_skim
    (x := (endAct.put s.dev.fresh f l (s.bankAt f l p) (s.passAt f l p) 0 (s.bankAt f l p).stack, s.mem)) (f := f) (l := l)
    (p := endAct.passAfter 0 (s.passAt f l p)) (by simpa [Act.passAfter] using hkind)
  rw [passResult_code (by simpa [Act.passAfter] using h.customer) (by simpa [Act.passAfter, Act.stored, endAct, noAct] using hstores)] at hskim
  have hctx : (endAct.passAfter 0 (s.passAt f l p)).ctx = p.ctx := passAt_ctx s f l p
  have hshown : Unshown s.dev.fresh g := (unshown_updLane _ _ _ _).trans hunshown
  refine answers_onBothH _ h.exec_end ?_
  rw [hend]
  dsimp only
  rw [hshown.ends]
  refine ⟨(congrArg Lane.run (hkeeps.lane f l)).trans (leaveLane_run hrun), hshown.same, ?_⟩
  rw [← hctx]
  exact hskim

/-- The END of a servo pass, at any time. -/
theorem answers_endServo (hrun : (s.dev.lane f l).run = some p) (hdom : p.domain = 0) (hcomp : s.dev.computes p.ctx = true) :
    Answers (.endPass f l x) s (fun t => (t.dev.lane f l).run = none ∧ t.mem = s.mem ∧
      (p.ctx < s.dev.axes.length → if p.kind = 1 then (t.dev.axis p.ctx).work.skim = 3 else (t.dev.axis p.ctx).work.full = 3)) := by
  have hexec : exec (.endPass f l x) s = s.onBothH (fun _ => endPass (s.dev.fresh, s.mem) f l p) := by
    have hrun' : (s.dev.fresh.lane f l).run = some p := hrun
    have hcomp' : s.dev.fresh.computes p.ctx = true := hcomp
    have hvendor : p.domain < 2 := by omega
    show execEnd f l x s = _
    unfold execEnd
    refine onBothH_congr ?_
    simp only [hrun', hcomp', Bool.not_true, Bool.false_eq_true, if_false, if_pos hvendor]
  refine answers_onBothH _ hexec ?_
  by_cases hkind : p.kind = 1
  · obtain ⟨g, hkeeps, hunshown, hskim, hend⟩ := endPass_skim (x := (s.dev.fresh, s.mem)) (f := f) (l := l) hkind
    rw [hend]
    dsimp only
    rw [hunshown.ends]
    refine ⟨(congrArg Lane.run (hkeeps.lane f l)).trans (leaveLane_run hrun), rfl, fun hc => ?_⟩
    rw [if_pos hkind]
    exact (hskim hc).1
  · obtain ⟨g, hkeeps, hfull, hend⟩ := endPass_servo (x := (s.dev.fresh, s.mem)) (f := f) (l := l) hkind hdom
    rw [hend]
    dsimp only
    rw [holdDecide_none g (by rw [hkeeps.ctl]; rfl)]
    have hsettle := reported_settle g
    refine ⟨(congrArg Lane.run ((hsettle.lane f l).trans (hkeeps.lane f l))).trans (leaveLane_run hrun), rfl, fun hc => ?_⟩
    rw [if_neg hkind, hsettle.axis]
    exact hfull hc

end

/-! ## The transcendental unit -/

/-- The request a TREQ places, from the bank with what has landed. -/
def treqSlot (b : Bank) (x : FmtT) : TuSlot :=
  { func := x.func.toNat, a := raw 24 (b.rd x.srcA), b := raw 24 (b.rd x.srcB), ready := false, r0 := 0, r1 := 0, bad := false }

theorem slot_setSlot (y : Lane) (slot : Bool) (t : Option TuSlot) : (y.setSlot slot t).slot slot = t := by cases slot <;> rfl

theorem setSlot_run (y : Lane) (slot : Bool) (t : Option TuSlot) : (y.setSlot slot t).run = y.run := by cases slot <;> rfl

theorem setSlot_bank (y : Lane) (slot : Bool) (t : Option TuSlot) : (y.setSlot slot t).bank = y.bank := by cases slot <;> rfl

section
variable {y z : DM} {x : FmtT} {f l : Nat} {p q : Pass}

/-- A TREQ that is issued places its request. -/
theorem treq_issued (hrun : (y.1.lane f l).run = some p) (hissue : laneIssue y f l (wordT 0x38 x) (fun _ _ _ => noAct) = z)
    (hq : (z.1.lane f l).run = some q) (hn : q.n ≠ p.n) : treq y f l x =
      (z.1.updLane f l (fun w => w.setSlot x.slot (some (treqSlot (y.1.land (y.1.lane f l).bank p p.n).1 x))), z.2) := by
  simp only [treq, hissue, hq, hrun, Option.map_some, Option.getD_some, if_neg hn]
  rfl

/-- A TREQ that ends its pass places nothing. -/
theorem treq_ended (hissue : laneIssue y f l (wordT 0x38 x) (fun _ _ _ => noAct) = z) (hnone : (z.1.lane f l).run = none) : treq y f l x = z := by
  simp only [treq, hissue, hnone]

end

section
variable {s : State} {f l : Fin 8} {p : Pass} {x : FmtT}

/-- A TREQ whose next instruction lies past the code faults the context. -/
theorem Stands.answers_treqPast (h : Stands s f l p (wordT 0x38 x)) (hrep : p.rep = none)
    (hpast : ¬ (s.bankAt f l p).pc + 1 < s.dev.codeLength p.domain) : Answers (.treq f l x) s (fun t => s.Faulted t f l p) := by
  have hissue := (h.issue (act := fun _ _ _ => noAct) (wordT_lt (by decide) x) rfl).trans
    (Act.issue_past (Act.loaded_none rfl) rfl rfl rfl (by rw [passAt_rep, passAt_domain, hrep]; exact not_lt.mp hpast))
  have hrun := congrArg Lane.run (h.lane_put (a := noAct) 0 (s.bankAt f l p).stack)
  have hfault := faulted_contextFault (p := p) (q := noAct.passAfter 0 (s.passAt f l p)) (noAct.put_foldsOnly s f l _ _ 0 _) hrun
    (passAt_ctx s f l p) (passAt_startAt s f l p) 0xFFFF
  refine answers_onBothH (fun y => treq y f l x) rfl ?_
  rw [treq_ended hissue (((faultContext_reported _ _ _ _).lane f l).symm ▸ dropPass_run hrun)]
  exact hfault

/-- A TREQ that goes on is issued, its request in the slot. -/
theorem Stands.answers_treq (h : Stands s f l p (wordT 0x38 x)) (hrep : p.rep = none) (hgo : (s.bankAt f l p).pc + 1 < s.dev.codeLength p.domain) :
    Answers (.treq f l x) s (fun t => s.Issued t f l p [] [] { s.bankAt f l p with pc := (s.bankAt f l p).pc + 1 } 1 none ∧
      (t.dev.lane f l).slot x.slot = some (treqSlot (s.bankAt f l p) x)) := by
  have hissue := (h.issue (act := fun _ _ _ => noAct) (wordT_lt (by decide) x) rfl).trans
    (Act.issue_goes (Act.loaded_none rfl) rfl rfl (by rw [passAt_stop]; exact h.going) (.inl (by rw [passAt_rep, passAt_domain, hrep]; exact hgo)))
  have hlane := h.lane_put (a := noAct) 0 (s.bankAt f l p).stack
  have hput := noAct.put_foldsOnly s f l (s.bankAt f l p) (s.passAt f l p) 0 (s.bankAt f l p).stack
  obtain ⟨hf, hl⟩ := lane_exists (congrArg Lane.run hlane)
  have hn : (noAct.passAfter 0 (s.passAt f l p)).n ≠ p.n := by
    rw [Act.passAfter, passAt_n]
    exact (Nat.lt_succ_self p.n).ne'
  refine answers_onBothH (fun y => treq y f l x) rfl ?_
  rw [treq_issued h.run_fresh hissue (congrArg Lane.run hlane) hn]
  have hset := hput.updLane f l (fun w => w.setSlot x.slot (some (treqSlot (s.dev.fresh.land (s.dev.fresh.lane f l).bank p p.n).1 x)))
  have hissued := h.issued_of (a := noAct) 0 (s.bankAt f l p).stack hset (by rw [lane_updLane hf hl, setSlot_bank])
    (by rw [lane_updLane hf hl, setSlot_run])
  rw [hrep] at hissued
  refine ⟨hissued, ?_⟩
  dsimp only
  rw [hset.holdDecide, hset.settle, lane_updLane hf hl, slot_setSlot, land_fresh]
  rfl

/-- A TRD that waits changes nothing. -/
theorem answers_trdWaits {u : TuSlot} (hslot : (s.dev.lane f l).slot x.slot = some u) (hready : u.ready = false) :
    Answers (.trd f l x) s (fun t => s.Same t ∧ t.dev.folds = s.dev.folds) := by
  have hexec : exec (.trd f l x) s = s.onBothH id := by
    have hslot' : (s.dev.fresh.lane f l).slot x.slot = some u := hslot
    show execTrd f l x s = _
    unfold execTrd
    refine onBothH_congr ?_
    simp only [hslot', hready, Bool.not_false, if_true]
    rfl
  refine answers_onBothH _ hexec ?_
  have hfresh : Unshown s.dev.fresh s.dev.fresh := ⟨rfl, rfl, rfl, rfl⟩
  show s.Same { s with dev := s.dev.fresh.holdDecide.settle } ∧ s.dev.fresh.holdDecide.settle.folds = s.dev.folds
  rw [hfresh.ends]
  exact ⟨hfresh.same, rfl⟩

/-- The results of a TRD that read v. -/
def trdWr (x : FmtT) (v : Nat) (bad : Bool) : List Wr :=
  (if x.dst.toNat < 16 then [{ reg := .d x.dst.toNat, val := v, dist := 3, early := false }] else []) ++
    wrFlags (if bad then 12 else 4) (if bad then 12 else 0)

/-- What a slot with its results ready, or without a request, gives a TRD. -/
def trdReads (slot : Option TuSlot) (x : FmtT) : Nat × Bool :=
  match slot with
  | some u => (if x.sel then u.r1 else u.r0, u.bad)
  | none => (0, true)

/-- A TRD that does not wait reads its slot. -/
theorem Stands.answers_trd (h : Stands s f l p (wordT 0x39 x)) (hrep : p.rep = none) (hgo : (s.bankAt f l p).pc + 1 < s.dev.codeLength p.domain)
    (hready : ∀ u, (s.dev.lane f l).slot x.slot = some u → u.ready = true) :
    Answers (.trd f l x) s (fun t => s.Issued t f l p
      (trdWr x (trdReads ((s.dev.lane f l).slot x.slot) x).1 (trdReads ((s.dev.lane f l).slot x.slot) x).2) []
      { s.bankAt f l p with pc := (s.bankAt f l p).pc + 1 } 1 none) := by
  have hexec : exec (.trd f l x) s = s.onBothH (fun y => laneIssue y f l (wordT 0x39 x) fun lane _ _ =>
      { noAct with wr := trdWr x (trdReads (lane.slot x.slot) x).1 (trdReads (lane.slot x.slot) x).2 }) := by
    show execTrd f l x s = _
    unfold execTrd
    refine onBothH_congr ?_
    cases hslot : (s.dev.fresh.lane f l).slot x.slot with
    | none =>
      simp only [Bool.false_eq_true, if_false]
      rfl
    | some u =>
      simp only [hready u hslot, Bool.not_true, Bool.false_eq_true, if_false]
      rfl
  exact (h.answers_results (wordT_lt (by decide) x) hrep hexec rfl).issued hgo

end

/-- The unit's results of a request. -/
def TuSlot.answered (t : TuSlot) : TuSlot :=
  { t with ready := true, r0 := (tuResult t.func t.a t.b).1, r1 := (tuResult t.func t.a t.b).2.1, bad := (tuResult t.func t.a t.b).2.2 }

/-- The unit answers a lane's request, and a lane the block does not have has none. -/
theorem tuReady_slot (d : Dev) (f l : Nat) (slot : Bool) :
    ((d.tuReady f l slot).lane f l).slot slot = ((d.lane f l).slot slot).map TuSlot.answered := by
  have hupd : d.tuReady f l slot = d.updLane f l (fun y => y.setSlot slot ((y.slot slot).map TuSlot.answered)) := rfl
  rw [hupd]
  by_cases h : f < d.folds.length ∧ l < (d.fold f).lanes.length
  · rw [lane_updLane h.1 h.2, slot_setSlot]
  · obtain ⟨hlane, hupd'⟩ := lane_updLane_absent (g := fun y => y.setSlot slot ((y.slot slot).map TuSlot.answered)) h
    rw [hlane, hupd']
    cases slot <;> rfl

/-- Settles O53: branches and the unit's instructions are issued like any other; END is followed from its issue to the commit. -/
theorem laneControlFlowAndRequests : Obligations.LaneControlFlowAndRequests := by
  unfold Obligations.LaneControlFlowAndRequests
  refine ⟨?flow, ?vendor, ?nop, ?unit, ?result⟩
  case flow =>
    intro s f l x p b on goes stay hrep
    refine ⟨fun h => ?br, fun h hoff => ?callOff, fun h hon hroom => ?call, fun h hon hfull => ?callFull, fun h hoff => ?retOff,
      fun a rest h hon hstack => ?ret, fun h hon hempty => ?retEmpty, fun h hcount => ?repCount, fun h hlc => ?repLc, fun h => ?clrf,
      fun h hstores hf => ⟨fun hkind => h.answers_end hstores hkind, fun hkind => h.answers_endSkim hstores hkind⟩⟩
    case br =>
      cases hon : on with
      | true =>
        exact h.answers_flow (a := { noAct with pc := .jump x.target.toNat }) (wordC_lt (by decide) x) hrep rfl (if_pos hon) rfl rfl rfl rfl rfl
      | false => exact h.answers_flow (a := noAct) (wordC_lt (by decide) x) hrep rfl (if_neg (Bool.eq_false_iff.mp hon)) rfl rfl rfl rfl rfl
    case callOff => exact h.answers_flow (a := noAct) (wordC_lt (by decide) x) hrep rfl (if_neg (Bool.eq_false_iff.mp hoff)) rfl rfl rfl rfl rfl
    case call =>
      exact h.answers_flow (a := { noAct with pc := .call x.target.toNat }) (wordC_lt (by decide) x) hrep rfl (if_pos hon) rfl rfl rfl rfl
        (if_neg (not_le.mpr hroom))
    case callFull =>
      exact h.answers_badStack (a := { noAct with pc := .call x.target.toNat }) (wordC_lt (by decide) x) rfl (if_pos hon) rfl (if_pos hfull)
    case retOff => exact h.answers_flow (a := noAct) (wordC_lt (by decide) x) hrep rfl (if_neg (Bool.eq_false_iff.mp hoff)) rfl rfl rfl rfl rfl
    case ret =>
      have htaken := h.answers_flow (c := .ret f l x) (a := { noAct with pc := .ret }) (st := rest) (wordC_lt (by decide) x) hrep rfl
        (if_pos hon) rfl rfl rfl rfl
        (by simp only [Act.stackOn]; rw [show (s.bankAt f l p).stack = a :: rest from hstack]; rfl)
      have hpc : Act.pcAfter { noAct with pc := .ret } (s.bankAt f l p) none = a := congrArg (List.headD · 0) hstack
      rw [hpc] at htaken
      exact htaken
    case retEmpty =>
      exact h.answers_badStack (a := { noAct with pc := .ret }) (wordC_lt (by decide) x) rfl (if_pos hon) rfl
        (by simp only [Act.stackOn]; rw [show (s.bankAt f l p).stack = [] from hempty]; rfl)
    case repCount =>
      exact h.answers_flow (a := { noAct with rep := some (x.count.toNat + 1) }) (wordC_lt (by decide) x) hrep rfl (by simp [hcount])
        rfl rfl rfl rfl rfl
    case repLc =>
      intro cap n pc
      have hstart := h.answers_flow (c := .rep f l x) (a := { noAct with rep := some n, wr := if cap < b.lc then wrFlags 12 12 else [] })
        (act := fun _ b q => if x.lcsrc then
          { noAct with rep := some (min b.lc (hdr (s.dev.fresh.image q.domain) 22 2)),
                       wr := if hdr (s.dev.fresh.image q.domain) 22 2 < b.lc then wrFlags 12 12 else [] }
          else { noAct with rep := some (x.count.toNat + 1) })
        (wordC_lt (by decide) x) hrep rfl (by rw [if_pos hlc, passAt_domain]; rfl) rfl rfl rfl rfl rfl
      rw [pcAfter_start, repAfter_start] at hstart
      exact hstart
    case clrf => exact h.answers_flow (a := { noAct with wr := wrFlags 8 0 }) (wordC_lt (by decide) x) hrep rfl rfl rfl rfl rfl rfl rfl
  case vendor => exact fun s f l x p hrun hdom hcomp => answers_endServo hrun hdom hcomp
  case nop =>
    intro s f l x p k h hrep hmove b
    have hgoes := h.answers_goes (c := .nop f l x) (a := noAct) (wordA_lt (by decide) x) rfl (pmove_none hmove _ _) (Act.loaded_none rfl) rfl rfl rfl
    rw [hrep, pcAfter_rep, repAfter_rep] at hgoes
    by_cases hk : 1 < k
    · have hin : (s.bankAt f l p).pc < s.dev.codeLength p.domain := by
        rw [bankAt_pc]
        exact h.inside
      simp only [hk, if_true, true_or] at hgoes ⊢
      exact hgoes.issued hin
    · simp only [hk, if_false, false_or] at hgoes ⊢
      exact hgoes
  case unit =>
    intro s f l x p hrep b goes
    exact ⟨fun h hpast => h.answers_treqPast hrep hpast, fun h hgo => h.answers_treq hrep hgo, fun u hslot hready => answers_trdWaits hslot hready,
      fun h hgo => ⟨fun hnone => by
        have hread := h.answers_trd hrep hgo (fun u hu => absurd (hnone.symm.trans hu) (Option.some_ne_none u).symm)
        rw [hnone] at hread
        exact hread, fun u hslot hready => by
        have hread := h.answers_trd hrep hgo (fun w hw => by rw [← Option.some.inj (hslot.symm.trans hw)]; exact hready)
        rw [hslot] at hread
        exact hread⟩⟩
  case result =>
    intro s f l slot
    have hready : Unshown s.dev.fresh (s.dev.fresh.tuReady f l slot) := unshown_updLane _ _ _ _
    refine answers_onDevH (fun d => d.tuReady f l slot) rfl ?_
    rw [hready.ends]
    exact ⟨hready.same, tuReady_slot s.dev.fresh f l slot⟩

end Sys2Proof.Machine
end

section
/-! SUPPORT. Fault reactions of an axis: what a lost, frozen or missing feedback reports and where it leads (R248 to R251). -/

set_option Elab.async false

namespace Sys2Proof.Machine

/-! ## What a stop of the generator leaves -/

/-- The objects of an axis that a stop of its generator or of its homing shows. -/
def stopKeys (n : Nat) : List Nat := [Obj.PROFILE_STATE n, Obj.PROFILE_FLAGS n, Obj.HOME_STATE n, Obj.HOME_FAULT n, Obj.HOMED n]

section
variable (d : Dev) {n k : Nat}

theorem stopKeys_ne (h : k ∉ stopKeys n) : Obj.PROFILE_STATE n ≠ k ∧ Obj.PROFILE_FLAGS n ≠ k ∧ Obj.HOME_STATE n ≠ k ∧ Obj.HOME_FAULT n ≠ k ∧
    Obj.HOMED n ≠ k := by
  simp only [stopKeys, List.mem_cons, List.not_mem_nil, or_false, not_or] at h
  obtain ⟨hstate, hflags, hhome, hfault, hhomed⟩ := h
  exact ⟨Ne.symm hstate, Ne.symm hflags, Ne.symm hhome, Ne.symm hfault, Ne.symm hhomed⟩

theorem putGen_keeps (g : Gen) (h : k ∉ stopKeys n) : (d.putGen n g).obj k = d.obj k := by
  obtain ⟨hstate, hflags, -⟩ := stopKeys_ne h
  rw [putGen_obj, if_neg hflags, if_neg hstate]

theorem genStop_keeps (h : k ∉ stopKeys n) : (d.genStop n).obj k = d.obj k := by
  obtain ⟨-, -, hhome, -⟩ := stopKeys_ne h
  unfold Dev.genStop
  dsimp only
  split
  next => rfl
  next => rfl
  next => exact putGen_keeps d _ h
  next => exact putGen_keeps d _ h
  next => exact (Dev.obj_setObj_ne _ _ _ _ hhome).trans (putGen_keeps d _ h)
  next => exact putGen_keeps d _ h

theorem homeFault_keeps (cause : Nat) (h : k ∉ stopKeys n) : (d.homeFault n cause).obj k = d.obj k := by
  obtain ⟨-, -, hhome, hfault, hhomed⟩ := stopKeys_ne h
  unfold Dev.homeFault
  dsimp only
  split
  · rfl
  · rw [Dev.obj_setObj_ne _ _ _ _ hhomed, Dev.obj_setObj_ne _ _ _ _ hfault, Dev.obj_setObj_ne _ _ _ _ hhome, putGen_keeps d _ h]

end

theorem stopKeys_latch {n k : Nat} (h : k / 256 = 0x611) : k ∉ stopKeys n := by
  simp only [stopKeys, List.mem_cons, List.not_mem_nil, or_false, not_or, Obj.PROFILE_STATE, Obj.PROFILE_FLAGS, Obj.HOME_STATE, Obj.HOME_FAULT,
    Obj.HOMED]
  omega

theorem stopKeys_axisState (n : Nat) : Obj.AXIS_STATE n ∉ stopKeys n := by
  simp [stopKeys, Obj.AXIS_STATE, Obj.PROFILE_STATE, Obj.PROFILE_FLAGS, Obj.HOME_STATE, Obj.HOME_FAULT, Obj.HOMED]

theorem stopKeys_faultCause (n : Nat) : Obj.FAULT_CAUSE n ∉ stopKeys n := by
  simp [stopKeys, Obj.FAULT_CAUSE, Obj.PROFILE_STATE, Obj.PROFILE_FLAGS, Obj.HOME_STATE, Obj.HOME_FAULT, Obj.HOMED]

/-! ## The fault reaction -/

theorem eventKey_axisState (n : Nat) : eventKey (Obj.AXIS_STATE n) = false := by
  simp only [eventKey, Obj.AXIS_STATE, Obj.EVENTS_DROPPED, Obj.SHARED_FREE]
  grind

theorem eventKey_faultCause (n : Nat) : eventKey (Obj.FAULT_CAUSE n) = false := by
  simp only [eventKey, Obj.FAULT_CAUSE, Obj.EVENTS_DROPPED, Obj.SHARED_FREE]
  grind

/-- The end of a fault reaction: an axis that is to stop has its generator stop, or its homing fail. -/
def Dev.reacted (d : Dev) (n new : Nat) : Dev := if new != 3 then d else if (d.gen n).home.phase = 0 then d.genStop n else d.homeFault n 4

theorem reacted_keeps (d : Dev) {n k : Nat} (new : Nat) (h : k ∉ stopKeys n) : (d.reacted n new).obj k = d.obj k := by
  unfold Dev.reacted
  split
  · rfl
  · split
    · exact genStop_keeps d h
    · exact homeFault_keeps d 4 h

/-- An axis that can react shows the cause, reports it and leaves for FAULT or STOPPING; what is latched stays latched. -/
theorem faultReaction_shows {d : Dev} {n cause : Nat} (hstate : d.axisState n ∈ [1, 2, 3]) (hdue : (d.axis n).due = 0) (hn : n < 128) :
    (d.faultReaction n cause).axisState n = reactionState cause (d.obj (Obj.FAULT_REACTION n)) (d.axisState n) ∧
      (d.faultReaction n cause).obj (Obj.FAULT_CAUSE n) = cause ∧ (d.faultReaction n cause).latched 0xC6 = true ∧
      d.Remembers (d.faultReaction n cause) := by
  have hreacts : ¬ (d.axisState n = 0 ∨ d.axisState n = 4 ∨ (d.axis n).due ≠ 0 ∨ 128 ≤ n) := by
    simp only [List.mem_cons, List.not_mem_nil, or_false] at hstate
    omega
  unfold Dev.faultReaction
  extract_lets st new shown due told
  rw [if_neg hreacts]
  have hstop : ∀ k, k ∉ stopKeys n → (told.reacted n new).obj k = told.obj k := fun k hk => reacted_keeps told new hk
  have htold : Reported due told := reported_raise due 0xC6 _ (by decide)
  have hshown : ∀ k, due.obj k = if Obj.FAULT_CAUSE n = k then cause else if Obj.AXIS_STATE n = k then new else d.obj k := fun k => by
    rw [show due.obj k = shown.obj k from rfl, Dev.obj_setObj, Dev.obj_setObj]
  have hkeys : Obj.FAULT_CAUSE n ≠ Obj.AXIS_STATE n := by simp [Obj.FAULT_CAUSE, Obj.AXIS_STATE]
  change (told.reacted n new).axisState n = new ∧ (told.reacted n new).obj (Obj.FAULT_CAUSE n) = cause ∧
    (told.reacted n new).latched 0xC6 = true ∧ d.Remembers (told.reacted n new)
  have hremembers : told.Remembers (told.reacted n new) := remembers_of_obj told fun k hk => hstop k (stopKeys_latch hk)
  refine ⟨?_, ?_, hremembers _ (by decide) (latched_raise _ _ _ (by decide)), ?_⟩
  · rw [Dev.axisState, hstop _ (stopKeys_axisState n), htold.obj _ (eventKey_axisState n), hshown, if_neg hkeys, if_pos rfl]
  · rw [hstop _ (stopKeys_faultCause n), htold.obj _ (eventKey_faultCause n), hshown, if_pos rfl]
  · refine Dev.Remembers.trans (remembers_of_obj d fun k hk => ?_) (htold.remembers.trans hremembers)
    rw [hshown, if_neg (by rintro rfl; simp only [Obj.FAULT_CAUSE] at hk; omega), if_neg (by rintro rfl; simp only [Obj.AXIS_STATE] at hk; omega)]

/-! ## The three events -/

/-- The end of a command whose axis has reacted. -/
theorem faultReaction_settled {d : Dev} {n cause : Nat} (hstate : d.axisState n ∈ [1, 2, 3]) (hdue : (d.axis n).due = 0) (hn : n < 128) :
    (d.faultReaction n cause).settle.axisState n = reactionState cause (d.obj (Obj.FAULT_REACTION n)) (d.axisState n) ∧
      (d.faultReaction n cause).settle.obj (Obj.FAULT_CAUSE n) = cause ∧ (d.faultReaction n cause).settle.latched 0xC6 = true ∧
      d.Remembers (d.faultReaction n cause).settle := by
  obtain ⟨hnew, hcause, hlatch, hremembers⟩ := faultReaction_shows (cause := cause) hstate hdue hn
  have hsettle := reported_settle (d.faultReaction n cause)
  exact ⟨(hsettle.obj _ (eventKey_axisState n)).trans hnew, (hsettle.obj _ (eventKey_faultCause n)).trans hcause, hsettle.latch _ (by decide) hlatch,
    hremembers.trans hsettle.remembers⟩

section
variable {s : State} {n : Fin 128}

theorem not_fault_of_mem {st : Nat} (h : st ∈ [1, 2, 3]) : st ≠ 4 := by
  rintro rfl
  exact absurd h (by decide)

/-- An axis that has told of its cause and reacts leads to FAULT, the cause shown. -/
theorem told_reaction {d : Dev} {src data cause : Nat} (hshown : d.axisState n = (s.dev.fresh.raise src data).axisState n)
    (haxes : d.axes = s.dev.axes) (hlatch : d.latched src = true) (hsrc : src < 256) (hstate : s.dev.axisState n ∈ [1, 2, 3])
    (hdue : (s.dev.axis n).due = 0) (hcause : cause ≠ 4 ∧ cause ≠ 5) (i : Nat) :
    ((d.updAxis n fun a => a.flag i).faultReaction n cause).settle.axisState n = 4 ∧
      ((d.updAxis n fun a => a.flag i).faultReaction n cause).settle.obj (Obj.FAULT_CAUSE n) = cause ∧
      ((d.updAxis n fun a => a.flag i).faultReaction n cause).settle.latched src = true ∧
      ((d.updAxis n fun a => a.flag i).faultReaction n cause).settle.latched 0xC6 = true := by
  have hsame : (d.updAxis n fun a => a.flag i).axisState n = s.dev.axisState n :=
    hshown.trans ((reported_raise s.dev.fresh src data hsrc).obj _ (eventKey_axisState n))
  have hdue' : ((d.updAxis n fun a => a.flag i).axis n).due = 0 := by
    rw [axis_updAxis_proj d Axis.due n n (fun a => a.flag i) (fun _ => rfl), Dev.axis, haxes]
    exact hdue
  obtain ⟨hnew, hshow, hreact, hremembers⟩ := faultReaction_settled (cause := cause) (by rw [hsame]; exact hstate) hdue' n.isLt
  refine ⟨hnew.trans ?_, hshow, hremembers src hsrc hlatch, hreact⟩
  simp [reactionState, hcause]

theorem answers_feedbackLost (hcomp : s.dev.computes n = true) (hdue : (s.dev.axis n).due = 0) (hstate : s.dev.axisState n ∈ [1, 2, 3])
    (hcur : (s.dev.axis n).cur = none) (hlimit : s.dev.obj (Obj.FB_LATE_LIMIT n) ≤ s.dev.lateNow n)
    (hmode : bit (s.dev.obj (Obj.FREEZE_MODE n)) 0 = false) :
    Answers (.feedbackLost n) s (fun t => t.dev.axisState n = 4 ∧ t.dev.obj (Obj.FAULT_CAUSE n) = 1 ∧ t.dev.latched 0xC1 = true ∧
      t.dev.latched 0xC6 = true) := by
  have hrun := not_fault_of_mem hstate
  obtain ⟨data, hlost⟩ : ∃ data, s.dev.fresh.feedbackLost n =
      ((((s.dev.fresh.raise 0xC1 data).unhome n).updAxis n (fun a => a.flag 1)).faultReaction n 1) := by
    refine ⟨min 65535 (s.dev.lateNow n) * 65536 + n, ?_⟩
    have hcomp' : s.dev.fresh.computes n = true := hcomp
    have haxis : s.dev.fresh.axis n = s.dev.axis n := rfl
    have hlate : s.dev.fresh.lateNow n = s.dev.lateNow n := rfl
    have hstate' : s.dev.fresh.axisState n = s.dev.axisState n := rfl
    simp [Dev.feedbackLost, hcomp', haxis, hlate, hstate', hcur, hdue, hlimit, hmode, hrun]
  have hunhome : ∀ k, Obj.HOMED n ≠ k → ((s.dev.fresh.raise 0xC1 data).unhome n).obj k = (s.dev.fresh.raise 0xC1 data).obj k := fun k hk => by
    rw [Dev.unhome, if_pos n.isLt]
    exact Dev.obj_setObj_ne _ _ _ _ hk
  have haxes : ((s.dev.fresh.raise 0xC1 data).unhome n).axes = s.dev.axes := by
    rw [Dev.unhome, if_pos n.isLt]
    exact (reported_raise s.dev.fresh 0xC1 data (by decide)).axes
  refine answers_onDev (fun d => d.feedbackLost n) rfl ?_
  rw [hlost]
  refine told_reaction (hunhome _ (by simp [Obj.HOMED, Obj.AXIS_STATE])) haxes ?_ (by decide) hstate hdue (by decide) 1
  rw [Dev.unhome, if_pos n.isLt]
  exact (Dev.latched_setObj _ _ _ _ (by simp only [Obj.HOMED, Obj.EVENT_LATCH]; omega)).trans (latched_raise _ _ _ (by decide))

theorem answers_positionFrozen (hcomp : s.dev.computes n = true) (hdue : (s.dev.axis n).due = 0) (hstate : s.dev.axisState n ∈ [1, 2, 3])
    (hmode : bit (s.dev.obj (Obj.FREEZE_MODE n)) 1 = true)
    (hlimit : ceilDiv (s.dev.obj (Obj.FREEZE_TIME n) * 1000000) (max 1 s.dev.cyc.len) ≤ s.dev.freezeNow n) :
    Answers (.positionFrozen n) s (fun t => t.dev.axisState n = 4 ∧ t.dev.obj (Obj.FAULT_CAUSE n) = 3 ∧ t.dev.latched 0xC3 = true ∧
      t.dev.latched 0xC6 = true) := by
  obtain ⟨data, hfrozen⟩ : ∃ data, s.dev.fresh.positionFrozen n =
      ((s.dev.fresh.raise 0xC3 data).updAxis n (fun a => a.flag 3)).faultReaction n 3 := by
    refine ⟨min 65535 (s.dev.freezeNow n) * 65536 + n, ?_⟩
    have hcomp' : s.dev.fresh.computes n = true := hcomp
    have haxis : s.dev.fresh.axis n = s.dev.axis n := rfl
    have hfreeze : s.dev.fresh.freezeNow n = s.dev.freezeNow n := rfl
    have hstate' : s.dev.fresh.axisState n = s.dev.axisState n := rfl
    have hrun := not_fault_of_mem hstate
    simp [Dev.positionFrozen, hcomp', haxis, hfreeze, hstate', hdue, hlimit, hmode, hrun]
  refine answers_onDev (fun d => d.positionFrozen n) rfl ?_
  rw [hfrozen]
  exact told_reaction rfl (reported_raise s.dev.fresh 0xC3 data (by decide)).axes (latched_raise _ _ _ (by decide)) (by decide) hstate hdue
    (by decide) 3

theorem answers_missReached (hcomp : s.dev.computes n = true) (hdue : (s.dev.axis n).due = 0) (hstate : s.dev.axisState n ∈ [1, 2, 3])
    (hcur : (s.dev.axis n).cur.isSome = true) (hfull : (s.dev.axis n).work.full ≠ 3) (hflag : bit (s.dev.axis n).flags 15 = false)
    (hlimit : s.dev.obj (Obj.MISS_LIMIT n) ≤ s.dev.missNow n) :
    Answers (.missLimitReached n) s (fun t => t.dev.obj (Obj.FAULT_CAUSE n) = 4 ∧ t.dev.latched 0xC6 = true ∧
      t.dev.axisState n = (if s.dev.axisState n = 2 ∧ s.dev.obj (Obj.FAULT_REACTION n) = 2 then 3 else 4)) := by
  have hmissed : s.dev.fresh.missReached n = s.dev.fresh.faultReaction n 4 := by
    have hcomp' : s.dev.fresh.computes n = true := hcomp
    have haxis : s.dev.fresh.axis n = s.dev.axis n := rfl
    have hmiss : s.dev.fresh.missNow n = s.dev.missNow n := rfl
    have hcur' : (s.dev.axis n).cur ≠ none := Option.isSome_iff_ne_none.mp hcur
    simp [Dev.missReached, hcomp', haxis, hmiss, hcur', hfull, hflag, hlimit]
  refine answers_onDev (fun d => d.missReached n) rfl ?_
  rw [hmissed]
  obtain ⟨hnew, hcause, hlatch, -⟩ := faultReaction_settled (d := s.dev.fresh) (cause := 4) hstate hdue n.isLt
  refine ⟨hcause, hlatch, hnew.trans ?_⟩
  simp only [reactionState, true_or, and_true]
  rfl

/-- An event whose law changes nothing. -/
theorem answers_unchanged {c : Instr} {F : Dev → Dev} (hexec : exec c s = s.onDev F) (h : F s.dev.fresh = s.dev.fresh) :
    Answers c s (fun t => s.Same t) := by
  refine answers_onDev F hexec ?_
  rw [h]
  exact same_of_dict rfl rfl rfl

/-! ### The three events below their limits -/

theorem feedbackLost_below (h : (s.dev.axis n).cur.isSome = true ∨ s.dev.lateNow n < s.dev.obj (Obj.FB_LATE_LIMIT n)) :
    s.dev.fresh.feedbackLost n = s.dev.fresh := by
  have haxis : s.dev.fresh.axis n = s.dev.axis n := rfl
  have hlate : s.dev.fresh.lateNow n = s.dev.lateNow n := rfl
  rcases h with h | h <;> simp [Dev.feedbackLost, haxis, hlate, h]

theorem positionFrozen_below (h : bit (s.dev.obj (Obj.FREEZE_MODE n)) 1 = false ∨
    s.dev.freezeNow n < ceilDiv (s.dev.obj (Obj.FREEZE_TIME n) * 1000000) (max 1 s.dev.cyc.len)) : s.dev.fresh.positionFrozen n = s.dev.fresh := by
  have hfreeze : s.dev.fresh.freezeNow n = s.dev.freezeNow n := rfl
  rcases h with h | h <;> simp [Dev.positionFrozen, hfreeze, h]

theorem missReached_below (h : s.dev.missNow n < s.dev.obj (Obj.MISS_LIMIT n)) : s.dev.fresh.missReached n = s.dev.fresh := by
  have hmiss : s.dev.fresh.missNow n = s.dev.missNow n := rfl
  simp [Dev.missReached, hmiss, h]

end

end Sys2Proof.Machine
end

section
/-! SUPPORT. Passes that overrun, passes that start, and the set pass (R233, R234, R237, R242, R246, R307, R310, R313, R318). -/

set_option Elab.async false

namespace Sys2Proof.Machine

/-! ## What a command meets -/

section
variable (d : Dev)

theorem correctCode_fresh : d.fresh.correctCode = d.correctCode := by
  funext c st mb e
  have hdom : d.fresh.domOf = d.domOf := rfl
  simp only [Dev.correctCode, mboxEntry_fresh, hdom]

theorem setFault_fresh : d.fresh.setFault = d.setFault := by
  funext c
  have hdom : d.fresh.domOf = d.domOf := rfl
  have hwords : d.fresh.ctxWords = d.ctxWords := rfl
  have haxis : d.fresh.axis = d.axis := rfl
  simp only [Dev.setFault, Dev.badTarget, mboxEntry_fresh, hdom, hwords, haxis]

theorem setCostNow_fresh : d.fresh.setCostNow = d.setCostNow := by
  funext c
  have hdom : d.fresh.domOf = d.domOf := rfl
  have haxis : d.fresh.axis = d.axis := rfl
  have hcost : d.fresh.setCost = d.setCost := rfl
  have hobj : d.fresh.obj = d.obj := rfl
  simp only [Dev.setCostNow, mboxEntry_fresh, hdom, haxis, hcost, hobj]
  rfl

end

theorem unshown_refl (d : Dev) : Unshown d d := ⟨rfl, rfl, rfl, rfl⟩

section
variable {s : State} {c : Instr}

/-- A command that works on the RAM and changes nothing. -/
theorem answers_idle {F : DM → DM} (hexec : exec c s = s.onBothH F) (h : F (s.dev.fresh, s.mem) = (s.dev.fresh, s.mem)) :
    Answers c s (fun t => s.Same t ∧ t.dev.folds = s.dev.folds) := by
  refine answers_onBothH F hexec ?_
  rw [h]
  dsimp only
  rw [(unshown_refl s.dev.fresh).ends]
  exact ⟨(unshown_refl s.dev.fresh).same, rfl⟩

theorem answers_idleDev {F : Dev → Dev} (hexec : exec c s = s.onDevH F) (h : F s.dev.fresh = s.dev.fresh) :
    Answers c s (fun t => s.Same t ∧ t.dev.folds = s.dev.folds) := by
  refine answers_onDevH F hexec ?_
  rw [h, (unshown_refl s.dev.fresh).ends]
  exact ⟨(unshown_refl s.dev.fresh).same, rfl⟩

end

/-! ## Overruns -/

section
variable {d : Dev} {f l slots : Nat} {p : Pass} {c ready : Nat}

theorem passOverrun_idle (hrun : (d.lane f l).run = none) (h : d.cyc.dispatched = true ∨ d.items f l = []) : d.passOverrun f l slots = d := by
  unfold Dev.passOverrun
  simp only [hrun]
  rcases h with h | h
  · split
    · simp [h]
    · rfl
  · simp [h, firstItem]

/-- The set pass that is due, below its cost and the fold's margin, and at them. -/
theorem passOverrun_set_below (hrun : (d.lane f l).run = none) (hfirst : firstItem (d.items f l) = some (ready, c, 2))
    (h : slots < d.setCostNow c + d.obj (Obj.OVERRUN_MARGIN f)) : d.passOverrun f l slots = d := by
  simp [Dev.passOverrun, hrun, hfirst, h]

theorem passOverrun_set_over (hrun : (d.lane f l).run = none) (hearly : d.cyc.dispatched = false)
    (hfirst : firstItem (d.items f l) = some (ready, c, 2)) (h : d.setCostNow c + d.obj (Obj.OVERRUN_MARGIN f) ≤ slots) :
    d.passOverrun f l slots = (d.noteOverrun c slots).updAxis c (fun a => { a with skim := none, work := { a.work with full := 4 } }) := by
  simp [Dev.passOverrun, hrun, hearly, hfirst, h]

/-- The cost of a pass in the cycle it runs in (R240, R246). -/
def Dev.passCost (d : Dev) (p : Pass) : Nat :=
  if p.kind = 1 then d.skimCost p.ctx (d.cyc.tag % 8) else d.fullCost p.ctx (d.cyc.tag % 8)

/-- A pass that no stop waits for, below its cost and the fold's margin, and at them. -/
theorem passOverrun_run_below (hrun : (d.lane f l).run = some p) (h : slots < d.passCost p + d.obj (Obj.OVERRUN_MARGIN f)) :
    d.passOverrun f l slots = d := by
  unfold Dev.passCost at h
  simp [Dev.passOverrun, hrun, h]

theorem passOverrun_run_over (hrun : (d.lane f l).run = some p) (hstop : p.stop = 0) (h : d.passCost p + d.obj (Obj.OVERRUN_MARGIN f) ≤ slots) :
    d.passOverrun f l slots = (d.noteOverrun p.ctx slots).stopPass f l 2 := by
  unfold Dev.passCost at h
  simp [Dev.passOverrun, hrun, hstop, h]

theorem noteOverrun_reported (d : Dev) (c slots : Nat) : Reported (d.updAxis c fun a => a.flag 5) (d.noteOverrun c slots) :=
  reported_raise _ _ _ (by decide)

theorem noteOverrun_latched (d : Dev) (c slots : Nat) : (d.noteOverrun c slots).latched 0xC5 = true := latched_raise _ _ _ (by decide)

theorem noteOverrun_flag (hc : c < d.axes.length) : bit ((d.noteOverrun c slots).axis c).flags 5 = true := by
  rw [(noteOverrun_reported d c slots).axis, axis_updAxis _ hc]
  exact bit_flag _ 5

/-- A change that no object but an event's shows, and no report undoes. -/
structure Quiet (d e : Dev) : Prop where
  alters : d.Alters [] e
  remembers : d.Remembers e
  ctl : e.ctl = d.ctl

theorem Quiet.trans {d e g : Dev} (h : Quiet d e) (h' : Quiet e g) : Quiet d g :=
  ⟨h.alters.trans h'.alters, h.remembers.trans h'.remembers, h'.ctl.trans h.ctl⟩

theorem Unshown.quiet {d e : Dev} (h : Unshown d e) : Quiet d e :=
  ⟨⟨fun k _ _ => congrArg (fun t => tget defaultOf t k) h.dict, h.blobs⟩,
    remembers_of_obj d fun k _ => congrArg (fun t => tget defaultOf t k) h.dict, h.ctl⟩

theorem Reported.quiet {d e : Dev} (h : Reported d e) : Quiet d e := ⟨h.alters [], h.remembers, h.ctl⟩

theorem quiet_noteOverrun (d : Dev) (c slots : Nat) : Quiet d (d.noteOverrun c slots) :=
  (unshown_updAxis d c _).quiet.trans (noteOverrun_reported d c slots).quiet

theorem stopWork_flags (d : Dev) (p : Pass) (n : Nat) : ((d.stopWork p).axis n).flags = (d.axis n).flags := by
  unfold Dev.stopWork
  split
  · rfl
  · exact axis_updAxis_proj d Axis.flags p.ctx n _ (fun _ => rfl)

theorem unshown_stopWork (d : Dev) (p : Pass) : Unshown d (d.stopWork p) := by
  unfold Dev.stopWork
  split
  · exact unshown_refl d
  · exact unshown_updAxis d _ _

theorem stopWork_folds (d : Dev) (p : Pass) : (d.stopWork p).folds = d.folds := by
  unfold Dev.stopWork
  split
  · rfl
  · rfl

/-- A pass outside REP is stopped at once. -/
theorem stopPass_now (hrun : (d.lane f l).run = some p) (hrep : p.rep = none) (why : Nat) : d.stopPass f l why = (d.dropPass f l).stopWork p := by
  simp [Dev.stopPass, hrun, hrep, Dev.endStopped]

/-- A pass inside REP is stopped after it. -/
theorem stopPass_later (hrun : (d.lane f l).run = some p) {k : Nat} (hrep : p.rep = some k) (why : Nat) :
    d.stopPass f l why = d.updLane f l (fun y => { y with run := some { p with stop := why } }) := by
  simp [Dev.stopPass, hrun, hrep]

end

section
variable {s : State} {f l : Fin 8} {slots : BitVec 32} {p : Pass} {c ready : Nat}

/-- The end of a command that may find a SAFE-HOLD cause and has found none. -/
theorem Quiet.ends {e : Dev} (h : Quiet s.dev.fresh e) : e.holdDecide = e := holdDecide_none e (by rw [h.ctl]; rfl)

theorem Quiet.only {e : Dev} (h : Quiet s.dev.fresh e) : s.Only { s with dev := e.settle } [] := (h.alters.report (reported_settle e)).only

/-- What an overrun shows, whatever else becomes of the pass. -/
theorem overrun_shows {e : Dev} {n : Nat} (h : Quiet (s.dev.fresh.noteOverrun c n) e)
    (hflags : (e.axis c).flags = ((s.dev.fresh.noteOverrun c n).axis c).flags) :
    e.holdDecide = e ∧ s.Only { s with dev := e.settle } [] ∧ e.settle.latched 0xC5 = true ∧
      (c < s.dev.axes.length → bit (e.settle.axis c).flags 5 = true) := by
  have hquiet := (quiet_noteOverrun s.dev.fresh c n).trans h
  refine ⟨hquiet.ends, hquiet.only, (reported_settle e).latch _ (by decide) (h.remembers _ (by decide) (noteOverrun_latched _ _ _)), fun hc => ?_⟩
  rw [(reported_settle e).axis, hflags]
  exact noteOverrun_flag (d := s.dev.fresh) hc

/-- PASS_OVERRUN of the set pass that is due, at its cost and margin. -/
theorem answers_overrunSet (hrun : (s.dev.lane f l).run = none) (hearly : s.dev.cyc.dispatched = false)
    (hfirst : firstItem (s.dev.items f l) = some (ready, c, 2)) (hc : c < s.dev.axes.length)
    (hcost : s.dev.setCostNow c + s.dev.obj (Obj.OVERRUN_MARGIN f) ≤ slots.toNat) :
    Answers (.passOverrun f l slots) s (fun t => s.Only t [] ∧ t.dev.latched 0xC5 = true ∧ bit (t.dev.axis c).flags 5 = true ∧
      (t.dev.axis c).skim = none ∧ (t.dev.axis c).work.full = 4) := by
  have hover := passOverrun_set_over (d := s.dev.fresh) (slots := slots.toNat) hrun hearly hfirst (by rw [setCostNow_fresh]; exact hcost)
  have hlen : c < (s.dev.fresh.noteOverrun c slots.toNat).axes.length := by
    rw [(noteOverrun_reported s.dev.fresh c slots.toNat).axes, Dev.updAxis_axes, upd_length]
    exact hc
  obtain ⟨hends, honly, hlatch, hflag⟩ := overrun_shows (s := s) (c := c) (n := slots.toNat)
    (unshown_updAxis _ c (fun a => { a with skim := none, work := { a.work with full := 4 } })).quiet
    (axis_updAxis_proj _ Axis.flags c c _ (fun _ => rfl))
  refine answers_onDevH (fun d => d.passOverrun f l slots.toNat) rfl ?_
  rw [hover, hends]
  refine ⟨honly, hlatch, hflag hc, ?_⟩
  rw [(reported_settle _).axis, axis_updAxis _ hlen]
  exact ⟨rfl, rfl⟩

/-- PASS_OVERRUN of a pass at its cost and margin: a stop at once outside REP, after it inside. -/
theorem answers_overrunRun (hrun : (s.dev.lane f l).run = some p) (hstop : p.stop = 0)
    (hcost : s.dev.passCost p + s.dev.obj (Obj.OVERRUN_MARGIN f) ≤ slots.toNat) :
    Answers (.passOverrun f l slots) s (fun t => s.Only t [] ∧ t.dev.latched 0xC5 = true ∧
      (p.ctx < s.dev.axes.length → bit (t.dev.axis p.ctx).flags 5 = true) ∧ (p.rep = none → (t.dev.lane f l).run = none) ∧
      (∀ k, p.rep = some k → ∃ q, (t.dev.lane f l).run = some q ∧ q.stop = 2)) := by
  have hover := passOverrun_run_over (d := s.dev.fresh) (slots := slots.toNat) hrun hstop hcost
  have hrun' : ((s.dev.fresh.noteOverrun p.ctx slots.toNat).lane f l).run = some p :=
    (congrArg Lane.run ((noteOverrun_reported s.dev.fresh p.ctx slots.toNat).lane f l)).trans hrun
  refine answers_onDevH (fun d => d.passOverrun f l slots.toNat) rfl ?_
  rw [hover]
  cases hrep : p.rep with
  | none =>
    obtain ⟨hends, honly, hlatch, hflag⟩ := overrun_shows (s := s) (c := p.ctx) (n := slots.toNat)
      ((unshown_updLane _ f l _).trans (unshown_stopWork (Dev.dropPass _ f l) p)).quiet (stopWork_flags _ p p.ctx)
    rw [stopPass_now hrun' hrep, hends]
    refine ⟨honly, hlatch, hflag, fun _ => ?_, fun k hk => absurd hk (by simp)⟩
    rw [(reported_settle _).lane, Dev.lane, Dev.fold, stopWork_folds]
    exact dropPass_run hrun'
  | some k =>
    obtain ⟨hends, honly, hlatch, hflag⟩ := overrun_shows (s := s) (c := p.ctx) (n := slots.toNat)
      (unshown_updLane _ f l (fun y => { y with run := some { p with stop := 2 } })).quiet rfl
    rw [stopPass_later hrun' hrep, hends]
    obtain ⟨hf, hl⟩ := lane_exists hrun'
    refine ⟨honly, hlatch, hflag, fun h => absurd h (by simp), fun _ _ => ⟨{ p with stop := 2 }, ?_, rfl⟩⟩
    rw [(reported_settle _).lane, lane_updLane hf hl]

end

end Sys2Proof.Machine
end

section
/-! SUPPORT. Passes that start and the set pass: the obligation (R233, R234, R237, R242, R247, R294, R313, R318). -/

set_option Elab.async false

namespace Sys2Proof.Machine

/-! ## The preload -/

section
variable {x : DM} {f l c : Nat}

/-- The address of word i of a context's window, without its first byte. -/
def Dev.preloadByte (d : Dev) (f c i : Nat) : Nat := foldByte f (4 * tget (fun _ => 0) (d.fold f).windows c + 4 * i + 1)

/-- One word of the preload, added to those before it. -/
def preloadStep (f l c : Nat) (d : Dev) (acc : Except Nat (List Nat) × DM) (i : Nat) : Except Nat (List Nat) × DM :=
  match acc.1 with
  | .error _ => acc
  | .ok ds =>
    let r := readWord (8 * f + l) acc.2 (d.preloadByte f c i) (4 * i + 1) 3 0
    (match r.1 with
      | .ok v => .ok (ds ++ [v])
      | .error off => .error off, r.2)

theorem preload_eq (x : DM) (f l c : Nat) : preload x f l c = (List.range 16).foldl (preloadStep f l c x.1) (.ok [], x) := rfl

/-- Sixteen good words preload as they stand. -/
theorem preload_good {w : Nat → Nat} (h : ∀ i < 16, w i < 2 ^ 24 ∧ x.2.Holds (x.1.preloadByte f c i) 3 (w i)) :
    preload x f l c = (.ok ((List.range 16).map w), x) := by
  have hprefix : ∀ m ≤ 16, (List.range m).foldl (preloadStep f l c x.1) (.ok [], x) = (.ok ((List.range m).map w), x) := by
    intro m hm
    induction m with
    | zero => rfl
    | succ m ih =>
      obtain ⟨hw, hgood⟩ := h m (by omega)
      have hread := readWord_good (8 * f + l) (4 * m + 1) 0 hgood
      rw [Nat.mod_eq_of_lt (hw.trans_eq (by norm_num)), Nat.zero_mul, Nat.zero_add] at hread
      rw [List.range_succ, List.foldl_append, ih (by omega), List.map_append]
      simp only [List.foldl_cons, List.foldl_nil, preloadStep, hread, List.map_cons, List.map_nil]
  exact hprefix 16 le_rfl

/-- A first word never written ends the preload. -/
theorem preload_marker (h : x.2.sym (x.1.preloadByte f c 0) = marker) : preload x f l c = (.error 1, x) := by
  have hstay : ∀ l' : List Nat, l'.foldl (preloadStep f l c x.1) (.error 1, x) = (.error 1, x) := fun l' => by
    induction l' with
    | nil => rfl
    | cons i t ih => exact ih
  have hfirst : preloadStep f l c x.1 (.ok [], x) 0 = (.error 1, x) := by
    simp only [preloadStep, readWord_marker (8 * f + l) 1 0 h]
  rw [preload_eq, List.range_succ_eq_map, List.foldl_cons, hfirst]
  exact hstay _

end

/-! ## A pass started -/

section
variable {x : DM} {d : Dev} {f l c kind : Nat}

/-- A pass at its start. -/
def Dev.newPass (d : Dev) (c kind : Nat) : Pass :=
  { ctx := c, kind := kind, domain := d.domOf c, startAt := d.now, n := 0, flight := [], stores := [], shadow := [], mbox := [], rep := none, stop := 0 }

/-- A pass put into its lane, its work marked as begun. -/
def Dev.startOn (d : Dev) (f l c kind : Nat) (b : Bank) : Dev :=
  (d.updLane f l fun y => { y.setBank b with run := some (d.newPass c kind), t0 := none, t1 := none }).updAxis c fun a =>
    { a with work := if kind = 1 then { a.work with skim := 2 } else { a.work with full := 2 } }

/-- The bank a pass starts with: its words, and PC at the entry of its kind (R294, R313). -/
def Dev.startBank (d : Dev) (c kind : Nat) (ds : List Nat) : Bank :=
  { initBank with d := ds, pc := if d.domOf c < 2 then 0 else hdr (d.image (d.domOf c)) (if kind = 1 then 10 else 8) 2 }

theorem startPass_good {ds : List Nat} (h : preload x f l c = (.ok ds, x)) :
    startPass x f l c kind = (x.1.startOn f l c kind (x.1.startBank c kind ds), x.2) := by
  unfold startPass Dev.startOn Dev.newPass Dev.startBank
  simp only [h]

theorem startPass_bad {off : Nat} (h : preload x f l c = (.error off, x)) :
    startPass x f l c kind = ((x.1.startOn f l c kind initBank).contextFault f l (x.1.newPass c kind) off, x.2) := by
  unfold startPass Dev.startOn Dev.newPass
  simp only [h]

theorem unshown_startOn (d : Dev) (f l c kind : Nat) (b : Bank) : Unshown d (d.startOn f l c kind b) :=
  (unshown_updLane d f l _).trans (unshown_updAxis _ c _)

theorem startOn_lane (hf : f < d.folds.length) (hl : l < (d.fold f).lanes.length) (b : Bank) :
    (d.startOn f l c kind b).lane f l = { (d.lane f l).setBank b with run := some (d.newPass c kind), t0 := none, t1 := none } :=
  lane_updLane hf hl

/-- Of its axis, a start changes the work alone. -/
theorem startOn_proj {α : Type} (π : Axis → α) (h : ∀ (a : Axis) (w : Work), π { a with work := w } = π a) (d : Dev) (f l c kind : Nat) (b : Bank)
    (n : Nat) : π ((d.startOn f l c kind b).axis n) = π (d.axis n) :=
  axis_updAxis_proj (d.updLane f l _) π c n _ (fun a => h a _)

theorem startOn_work (hc : c < d.axes.length) (b : Bank) : ((d.startOn f l c kind b).axis c).work =
    if kind = 1 then { (d.axis c).work with skim := 2 } else { (d.axis c).work with full := 2 } := by
  rw [Dev.startOn, axis_updAxis (d := d.updLane f l _) _ hc]
  rfl

end

/-! ## Idle lanes -/

section
variable {x : DM} {f l : Nat}

theorem passStart_idle (h : (x.1.lane f l).run.isSome = true ∨ x.1.cyc.dispatched = true ∨ x.1.items f l = []) : passStart x f l = x := by
  rcases h with h | h | h
  · simp [passStart, h]
  · simp [passStart, h]
  · simp [passStart, h, firstItem]

theorem setPass_idle (h : (x.1.lane f l).run.isSome = true ∨ x.1.cyc.dispatched = true ∨ x.1.items f l = []) : setPass x f l = x := by
  rcases h with h | h | h
  · simp [setPass, h]
  · simp [setPass, h]
  · simp [setPass, h, firstItem]

variable {c ready kind : Nat}

/-- An idle lane before the deadline takes its first item. -/
theorem passStart_takes (hrun : (x.1.lane f l).run = none) (hearly : x.1.cyc.dispatched = false)
    (hfirst : firstItem (x.1.items f l) = some (ready, c, kind)) (hkind : kind ≠ 2) : passStart x f l = startPass x f l c kind := by
  simp [passStart, hrun, hearly, hfirst, hkind]

end

/-! ## The set pass -/

section
variable {x : DM} {f l c ready : Nat} {fb pr : Fb}

/-- A squash: flagged, the skim results discarded, counted on its lane. -/
def Dev.squash (d : Dev) (f l c : Nat) : Dev :=
  { d.updAxis c fun a => ({ a.flag 6 with skim := none } : Axis).flag 13 with
    folds := upd (fun y => { y with squashes := upd (· + 1) y.squashes l }) d.folds f }

theorem unshown_squash (d : Dev) (f l c : Nat) : Unshown d (d.squash f l c) := ⟨rfl, rfl, rfl, rfl⟩

theorem squash_fold {d : Dev} (hf : f < d.folds.length) :
    (d.squash f l c).fold f = { d.fold f with squashes := upd (· + 1) (d.fold f).squashes l } := getAt_upd_same initFold _ d.folds f hf

theorem squash_axis {d : Dev} (hc : c < d.axes.length) : (d.squash f l c).axis c = ({ (d.axis c).flag 6 with skim := none } : Axis).flag 13 :=
  axis_updAxis _ hc

/-- A flag set stays set as another is. -/
theorem bit_flag_of {a : Axis} {i : Nat} (h : bit a.flags i = true) (j : Nat) : bit (a.flag j).flags i = true :=
  (bit_setBit_true a.flags j i).trans (by rw [h, Bool.true_or])

theorem squash_flags {d : Dev} (hc : c < d.axes.length) :
    bit ((d.squash f l c).axis c).flags 6 = true ∧ bit ((d.squash f l c).axis c).flags 13 = true ∧ ((d.squash f l c).axis c).skim = none := by
  rw [squash_axis hc]
  exact ⟨bit_flag_of (a := { (d.axis c).flag 6 with skim := none }) (bit_flag (d.axis c) 6) 13, bit_flag _ 13, rfl⟩

/-- The set pass of an idle lane's first item, its feedback known. -/
structure SetDue (d : Dev) (f l c : Nat) (fb pr : Fb) : Prop where
  idle : (d.lane f l).run = none
  early : d.cyc.dispatched = false
  first : ∃ ready, firstItem (d.items f l) = some (ready, c, 2)
  cur : (d.axis c).cur = some fb
  pred : (d.axis c).pred = some pr

theorem setPass_squash (h : SetDue x.1 f l c fb pr) (hbeyond : x.1.errBeyond c (fbError fb pr) = true) :
    setPass x f l = startPass (x.1.squash f l c, x.2) f l c 2 := by
  obtain ⟨ready, hfirst⟩ := h.first
  simp only [setPass, h.idle, Option.isSome_none, h.early, Bool.or_self, Bool.false_eq_true, if_false, hfirst, h.cur, h.pred, hbeyond, if_true]
  rfl

theorem setPass_fault (h : SetDue x.1 f l c fb pr) (hwithin : x.1.errBeyond c (fbError fb pr) = false) {off : Nat}
    (hfault : x.1.setFault c = some off) : setPass x f l = (x.1.faultContext c off true, x.2) := by
  obtain ⟨ready, hfirst⟩ := h.first
  simp only [setPass, h.idle, Option.isSome_none, h.early, Bool.or_self, Bool.false_eq_true, if_false, hfirst, h.cur, h.pred, hwithin, hfault]

theorem setPass_commit (h : SetDue x.1 f l c fb pr) (hwithin : x.1.errBeyond c (fbError fb pr) = false) (hfault : x.1.setFault c = none)
    {st mb : List (Nat × Nat)} {r : List (Nat × Nat) × List (Nat × Nat)} (hskim : (x.1.axis c).skim = some (.code st mb))
    (hcorrect : x.1.correctCode c st mb (fbError fb pr) = some r) :
    setPass x f l = ((commitCode x f c r.1 r.2).1.updAxis c (fun a => { a.flag 7 with skim := none }), (commitCode x f c r.1 r.2).2) := by
  obtain ⟨ready, hfirst⟩ := h.first
  simp only [setPass, h.idle, Option.isSome_none, h.early, Bool.or_self, Bool.false_eq_true, if_false, hfirst, h.cur, h.pred, hwithin, hfault,
    Dev.setResult, hskim, hcorrect, Option.map_some, commitResult]

end

end Sys2Proof.Machine
end

section
/-! SUPPORT. Passes started, set passes, overruns and fault reactions: the obligation (R233 to R251, R294, R310, R313). -/

set_option Elab.async false

namespace Sys2Proof.Machine

section
variable {s : State} {f l : Fin 8} {c ready kind : Nat} {fb pr : Fb}

/-- A pass started in a lane, as the claims say it. -/
theorem started_shows {d : Dev} (hf : f < d.folds.length) (hl : l < (d.fold f).lanes.length) (hc : c < d.axes.length)
    (hbank : (d.lane f l).cur < (d.lane f l).banks.length) (b : Bank) :
    ((d.startOn f l c kind b).lane f l).bank = b ∧ ((d.startOn f l c kind b).lane f l).run = some (d.newPass c kind) ∧
      (if kind = 1 then ((d.startOn f l c kind b).axis c).work.skim = 2 else ((d.startOn f l c kind b).axis c).work.full = 2) := by
  rw [startOn_lane hf hl, startOn_work hc]
  refine ⟨Lane.bank_setBank _ _ hbank, rfl, ?_⟩
  split
  · rfl
  · rfl

theorem answers_passStart {w : Nat → Nat} (hrun : (s.dev.lane f l).run = none) (hearly : s.dev.cyc.dispatched = false)
    (hfirst : firstItem (s.dev.items f l) = some (ready, c, kind)) (hkind : kind ≠ 2) (hf : f.val < s.dev.folds.length)
    (hl : l.val < (s.dev.fold f).lanes.length) (hc : c < s.dev.axes.length) (hbank : (s.dev.lane f l).cur < (s.dev.lane f l).banks.length)
    (hgood : ∀ i < 16, w i < 2 ^ 24 ∧ s.mem.Holds (s.dev.preloadByte f c i) 3 (w i)) :
    Answers (.passStart f l) s (fun t => s.Same t ∧ (t.dev.lane f l).bank = s.dev.startBank c kind ((List.range 16).map w) ∧
      (∃ p, (t.dev.lane f l).run = some p ∧ p.ctx = c ∧ p.kind = kind ∧ p.n = 0 ∧ p.domain = s.dev.domOf c ∧ p.stores = [] ∧ p.flight = []) ∧
      (if kind = 1 then (t.dev.axis c).work.skim = 2 else (t.dev.axis c).work.full = 2)) := by
  have hstart := (passStart_takes (x := (s.dev.fresh, s.mem)) hrun hearly hfirst hkind).trans (startPass_good (preload_good hgood))
  have hshown := unshown_startOn s.dev.fresh f l c kind (s.dev.fresh.startBank c kind ((List.range 16).map w))
  obtain ⟨hb, hpass, hwork⟩ := started_shows (d := s.dev.fresh) (kind := kind) hf hl hc hbank (s.dev.fresh.startBank c kind ((List.range 16).map w))
  refine answers_onBothH (fun x => passStart x f l) rfl ?_
  rw [hstart]
  dsimp only
  rw [hshown.ends]
  exact ⟨hshown.same, hb, ⟨_, hpass, rfl, rfl, rfl, rfl, rfl, rfl⟩, hwork⟩

/-- A context fault of a pass, whatever else stands differently that no object shows. -/
theorem contextFault_shows {e : Dev} {q r : Pass} (he : Unshown s.dev.fresh e) (hrun : (e.lane f l).run = some r) (hc : q.ctx < e.axes.length)
    (detail : Nat) : (((e.contextFault f l q detail).holdDecide.settle).lane f l).run = none ∧
      (e.contextFault f l q detail).holdDecide.settle.latched 0xC7 = true ∧
      bit ((e.contextFault f l q detail).holdDecide.settle.axis q.ctx).flags 15 = true := by
  have hdrop : Unshown s.dev.fresh (e.dropPass f l) := he.trans (unshown_updLane e f l _)
  rw [Dev.contextFault, holdDecide_none _ ((faultContext_causeReq _ _ _ _).trans (by rw [hdrop.ctl]; rfl))]
  have hsettle := reported_settle ((e.dropPass f l).faultContext q.ctx detail (decide (e.cyc.startAt ≤ q.startAt)))
  refine ⟨?_, hsettle.latch _ (by decide) (faultContext_latched _ _ _ _), ?_⟩
  · exact (congrArg Lane.run ((hsettle.lane f l).trans ((faultContext_reported _ _ _ _).lane f l))).trans (dropPass_run hrun)
  · rw [hsettle.axis]
    exact (faultContext_axis (d := e.dropPass f l) hc detail _).1

/-- A first word never written is a context fault. -/
theorem answers_passStartMarker (hrun : (s.dev.lane f l).run = none) (hearly : s.dev.cyc.dispatched = false)
    (hfirst : firstItem (s.dev.items f l) = some (ready, c, kind)) (hkind : kind ≠ 2) (hf : f.val < s.dev.folds.length)
    (hl : l.val < (s.dev.fold f).lanes.length) (hc : c < s.dev.axes.length) (hmark : s.mem.sym (s.dev.preloadByte f c 0) = marker) :
    Answers (.passStart f l) s (fun t => (t.dev.lane f l).run = none ∧ t.dev.latched 0xC7 = true ∧ bit (t.dev.axis c).flags 15 = true ∧
      t.mem = s.mem) := by
  have hstart := (passStart_takes (x := (s.dev.fresh, s.mem)) hrun hearly hfirst hkind).trans (startPass_bad (preload_marker hmark))
  have hlane := startOn_lane (d := s.dev.fresh) (c := c) (kind := kind) hf hl initBank
  have hlen : c < (s.dev.fresh.startOn f l c kind initBank).axes.length := (upd_length _ _ _).symm ▸ hc
  obtain ⟨hgone, hlatch, hflag⟩ := contextFault_shows (q := s.dev.fresh.newPass c kind) (unshown_startOn s.dev.fresh f l c kind initBank)
    (congrArg Lane.run hlane) hlen 1
  refine answers_onBothH (fun x => passStart x f l) rfl ?_
  rw [hstart]
  exact ⟨hgone, hlatch, hflag, rfl⟩

theorem answers_squash {w : Nat → Nat} (hdue : SetDue s.dev f l c fb pr) (hbeyond : s.dev.errBeyond c (fbError fb pr) = true)
    (hf : f.val < s.dev.folds.length) (hl : l.val < (s.dev.fold f).lanes.length) (hc : c < s.dev.axes.length)
    (hbank : (s.dev.lane f l).cur < (s.dev.lane f l).banks.length)
    (hgood : ∀ i < 16, w i < 2 ^ 24 ∧ s.mem.Holds (s.dev.preloadByte f c i) 3 (w i)) :
    Answers (.setPass f l) s (fun t => s.Same t ∧ bit (t.dev.axis c).flags 6 = true ∧ bit (t.dev.axis c).flags 13 = true ∧
      (t.dev.axis c).skim = none ∧ (t.dev.axis c).work.full = 2 ∧ ∃ p, (t.dev.lane f l).run = some p ∧ p.ctx = c ∧ p.kind = 2) := by
  have hfold := squash_fold (d := s.dev.fresh) (l := l) (c := c) hf
  have hlane : (s.dev.fresh.squash f l c).lane f l = s.dev.lane f l := by
    rw [Dev.lane, hfold]
    rfl
  have hbyte : (s.dev.fresh.squash f l c).preloadByte f c = s.dev.preloadByte f c := by
    funext i
    rw [Dev.preloadByte, hfold]
    rfl
  have hpass := (setPass_squash (x := (s.dev.fresh, s.mem)) (SetDue.mk hdue.idle hdue.early hdue.first hdue.cur hdue.pred) hbeyond).trans
    (startPass_good (x := (s.dev.fresh.squash f l c, s.mem)) (preload_good (by rw [hbyte]; exact hgood)))
  generalize hb : (s.dev.fresh.squash f l c).startBank c 2 ((List.range 16).map w) = b at hpass
  have hshown : Unshown s.dev.fresh ((s.dev.fresh.squash f l c).startOn f l c 2 b) :=
    (unshown_squash s.dev.fresh f l c).trans (unshown_startOn _ f l c 2 b)
  have hlen : c < (s.dev.fresh.squash f l c).axes.length := (upd_length _ _ _).symm ▸ hc
  obtain ⟨hsquashed, hbeyondFlag, hskim⟩ := squash_flags (d := s.dev.fresh) (f := f) (l := l) hc
  rw [← startOn_proj Axis.flags (fun _ _ => rfl) _ f l c 2 b] at hsquashed hbeyondFlag
  rw [← startOn_proj Axis.skim (fun _ _ => rfl) _ f l c 2 b] at hskim
  obtain ⟨-, hrun, hwork⟩ := started_shows (d := s.dev.fresh.squash f l c) (f := f) (l := l) (c := c) (kind := 2)
    ((upd_length _ _ _).symm ▸ hf) (by rw [hfold]; exact hl) hlen (by rw [hlane]; exact hbank) b
  refine answers_onBothH (fun x => setPass x f l) rfl ?_
  rw [hpass]
  dsimp only
  rw [hshown.ends]
  exact ⟨hshown.same, hsquashed, hbeyondFlag, hskim, hwork, ⟨_, hrun, rfl, rfl⟩⟩

theorem answers_setFault (hdue : SetDue s.dev f l c fb pr) (hwithin : s.dev.errBeyond c (fbError fb pr) = false) {off : Nat}
    (hfault : s.dev.setFault c = some off) (hc : c < s.dev.axes.length) :
    Answers (.setPass f l) s (fun t => s.Only t [] ∧ t.dev.latched 0xC7 = true ∧ bit (t.dev.axis c).flags 15 = true ∧
      (t.dev.axis c).work.full = 4) := by
  have hpass := setPass_fault (x := (s.dev.fresh, s.mem)) (SetDue.mk hdue.idle hdue.early hdue.first hdue.cur hdue.pred) hwithin
    (by rw [setFault_fresh]; exact hfault)
  have hsettle := reported_settle (s.dev.fresh.faultContext c off true)
  obtain ⟨hflag, hfull⟩ := faultContext_axis (d := s.dev.fresh) hc off true
  refine answers_onBothH (fun x => setPass x f l) rfl ?_
  rw [hpass]
  dsimp only
  rw [holdDecide_none _ (faultContext_causeReq s.dev.fresh c off true)]
  refine ⟨((faultContext_alters s.dev.fresh c off true []).report hsettle).only, hsettle.latch _ (by decide) (faultContext_latched _ _ _ _), ?_⟩
  rw [hsettle.axis]
  exact ⟨hflag, hfull rfl⟩

theorem answers_setCommit (hdue : SetDue s.dev f l c fb pr) (hwithin : s.dev.errBeyond c (fbError fb pr) = false) (hfault : s.dev.setFault c = none)
    {st mb : List (Nat × Nat)} {r : List (Nat × Nat) × List (Nat × Nat)} (hskim : (s.dev.axis c).skim = some (.code st mb))
    (hcorrect : s.dev.correctCode c st mb (fbError fb pr) = some r) (hc : c < s.dev.axes.length) :
    Answers (.setPass f l) s (fun t => s.Same { t with mem := s.mem } ∧ bit (t.dev.axis c).flags 7 = true ∧ (t.dev.axis c).skim = none ∧
      (t.dev.axis c).work.full = 3 ∧ t.mem = s.dev.windowPut f c r.1 s.mem) := by
  have hpass := setPass_commit (x := (s.dev.fresh, s.mem)) (SetDue.mk hdue.idle hdue.early hdue.first hdue.cur hdue.pred) hwithin
    (by rw [setFault_fresh]; exact hfault) hskim (by rw [correctCode_fresh]; exact hcorrect)
  obtain ⟨e, hkeeps, hunshown, hcommit⟩ := commitCode_leaves (s.dev.fresh, s.mem) f c r.1 r.2
  rw [hcommit] at hpass
  have hshown : Unshown s.dev.fresh ((e.noteCommit c).updAxis c (fun a => { a.flag 7 with skim := none })) :=
    (hunshown.trans (unshown_noteCommit e c)).trans (unshown_updAxis _ c _)
  have hfull := noteCommit_full (d := e) (c := c) (by rw [hkeeps.axes]; exact hc)
  have hlen : c < (e.noteCommit c).axes.length := by
    rw [(keeps_noteCommit e c).axes, hkeeps.axes]
    exact hc
  refine answers_onBothH (fun x => setPass x f l) rfl ?_
  rw [hpass]
  dsimp only
  rw [hshown.ends, axis_updAxis _ hlen]
  exact ⟨⟨hshown.same.1, hshown.same.2.1, rfl, rfl⟩, bit_flag _ 7, rfl, hfull, rfl⟩

end

/-- Settles O54: a start turns on the preload of sixteen words; the set pass on its error and its declarations; overruns and reactions on
their limits. -/
theorem passesStartStopAndReact : Obligations.PassesStartStopAndReact := by
  unfold Obligations.PassesStartStopAndReact
  refine ⟨fun s f l => ⟨?idle, ?takes⟩, fun s f l slots => ⟨?overrunIdle, ?overrunSet, ?overrunRun⟩,
    fun s n hcomp hdue hstate => ⟨?lost, ?kept, ?frozen, ?missed⟩⟩
  case idle =>
    intro h
    exact ⟨answers_idle (F := fun x => passStart x f l) rfl (passStart_idle (x := (s.dev.fresh, s.mem)) h),
      answers_idle (F := fun x => setPass x f l) rfl (setPass_idle (x := (s.dev.fresh, s.mem)) h)⟩
  case takes =>
    intro ready c kind hrun hearly hfirst hf hl hc hbank word good
    refine ⟨fun w hkind hgood => answers_passStart hrun hearly hfirst hkind hf hl hc hbank hgood,
      fun hkind hmark => answers_passStartMarker hrun hearly hfirst hkind hf hl hc hmark, fun fb pr hkind hcur hpred => ?_⟩
    have hset : SetDue s.dev f l c fb pr := ⟨hrun, hearly, ⟨ready, hkind ▸ hfirst⟩, hcur, hpred⟩
    exact ⟨fun w hbeyond hgood => answers_squash hset hbeyond hf hl hc hbank hgood,
      fun off hwithin hfault => answers_setFault hset hwithin hfault hc,
      fun st mb r hwithin hfault hskim hcorrect => answers_setCommit hset hwithin hfault hskim hcorrect hc⟩
  case overrunIdle =>
    intro hrun h
    exact answers_idleDev (F := fun d => d.passOverrun f l slots.toNat) rfl (passOverrun_idle (d := s.dev.fresh) hrun h)
  case overrunSet =>
    intro ready c hrun hearly hfirst hc
    exact ⟨fun hbelow => answers_idleDev (F := fun d => d.passOverrun f l slots.toNat) rfl
      (passOverrun_set_below (d := s.dev.fresh) hrun hfirst (by rw [setCostNow_fresh]; exact hbelow)),
      fun hcost => answers_overrunSet hrun hearly hfirst hc hcost⟩
  case overrunRun =>
    intro p hrun hstop cost
    exact ⟨fun hbelow => answers_idleDev (F := fun d => d.passOverrun f l slots.toNat) rfl (passOverrun_run_below (d := s.dev.fresh) hrun hbelow),
      fun hcost => answers_overrunRun hrun hstop hcost⟩
  case lost => exact fun hcur hlimit hmode => answers_feedbackLost hcomp hdue hstate hcur hlimit hmode
  case kept => exact fun h => answers_unchanged (F := fun d => d.feedbackLost n) rfl (feedbackLost_below h)
  case frozen =>
    exact ⟨fun hmode hlimit => answers_positionFrozen hcomp hdue hstate hmode hlimit,
      fun h => answers_unchanged (F := fun d => d.positionFrozen n) rfl (positionFrozen_below h)⟩
  case missed =>
    exact fun hcur hfull hflag => ⟨fun hlimit => answers_missReached hcomp hdue hstate hcur hfull hflag hlimit,
      fun hbelow => answers_unchanged (F := fun d => d.missReached n) rfl (missReached_below hbelow)⟩

end Sys2Proof.Machine
end
